-- ==== Sys2Proof/Word.lean ====
section
/-! DEFINITION. The word types of the model: bytes, byte strings and the sparse tables that State is made of. -/

namespace Sys2Proof

/-- One byte of memory, of a frame or of a mailbox. -/
abbrev Byte := BitVec 8

/-- A byte string; the first element is the byte at the lowest address (first on the wire for a frame). -/
abbrev Bytes := List Byte

/-- A sparse table in canonical form: keys strictly rising, no entry equal to the table's default.
`Machine/Tbl.lean` holds its operations; `Laws/Tbl.lean` shows that they keep the form. -/
abbrev Tbl (α : Type) := List (Nat × α)

end Sys2Proof
end

