-- ==== Sys2Proof/Types/Test.lean ====
section
/-! DEFINITION. State of self-test, repair, scratch banks, the Mole, the trace ring and the alarm registers (spec/17). -/

namespace Sys2Proof.Machine

/-- A failure record of CMD_BIST_RESULT. -/
structure BistFail where
  kind : Nat := 0
  index : Nat := 0
  fatal : Bool := false
  detail : Nat := 0
deriving DecidableEq, Repr, Inhabited

/-- The record of the last BIST run (R517, CMD_BIST_RESULT). -/
structure BistResult where
  run : Nat := 0
  outcome : Nat := 0
  /-- In units of 100 µs. -/
  duration : Nat := 0
  noRef : Nat := 0
  softApplied : Nat := 0
  fails : List BistFail := []
deriving DecidableEq, Repr, Inhabited

/-- A row or column repair (R522, CMD_REPAIR_LIST). -/
structure Repair where
  memory : Nat := 0
  /-- 0 soft from BIST, 1 soft from the field, 2 field fuse. -/
  origin : Nat := 0
  column : Bool := false
  /-- CANDIDATE not yet applied. -/
  candidate : Bool := false
  segment : Nat := 0
  address : Nat := 0
deriving DecidableEq, Repr, Inhabited

/-- A general scratch bank (R525 to R528, R532). -/
structure Bank where
  owner : Nat := 0
  busy : Bool := false
  retired : Bool := false
  /-- TB0 times of uncorrectable errors in the window (R532). -/
  ueTimes : List Nat := []
  /-- Corrected errors since boot. -/
  ce : Nat := 0
  /-- Contents. -/
  mem : Tbl Byte := []
  /-- Offsets of poisoned 8-byte words (R532). -/
  poison : List Nat := []
  /-- A zeroing in progress gives the bank to this owner (R527). -/
  zeroFor : Option Nat := none
deriving DecidableEq, Repr, Inhabited

/-- A secure bank (R529). -/
structure SecureBank where
  mem : Tbl Byte := []
  poison : List Nat := []
  /-- Corrected errors since boot (CMD_SCRATCH_STATUS). -/
  ce : Nat := 0
deriving DecidableEq, Repr, Inhabited

/-- A field test in progress (R519): kind, index and the mailbox that asked; whether the unit was retired before; lanes or
channels with the ports or states to return to. -/
structure FieldTest where
  kind : Nat
  index : Nat
  mb : Nat
  retired : Bool := false
  back : List (Nat × Nat) := []
deriving DecidableEq, Repr, Inhabited

/-- A record of the trace path (R533). -/
structure TraceRec where
  seq : Nat := 0
  time : Nat := 0
  sev : Nat := 0
  ev : Nat := 0xFF
  bit : Nat := 0xFF
  loc : Nat := 0
  code : Nat := 0
  data : Bytes := []
deriving DecidableEq, Repr, Inhabited

/-- Scratch banks, Mole, self-test and trace (spec/17). -/
structure Test where
  bist : BistResult := {}
  field : Option FieldTest := none
  /-- First corrected error of a row: (memory, segment, row) and TB0 time (R523). -/
  rowCe : List ((Nat × Nat × Nat) × Nat) := []
  /-- Banks 0 to 15; bank 0 belongs to MB0 and bank 15 to trace (SCR_OWNn). -/
  banks : Tbl Bank := [(0, { owner := 1 }), (15, { owner := 6 })]
  /-- SB0 and SB1. -/
  secure : Tbl SecureBank := []
  moleEn : Bool := true
  moleMask : BitVec 16 := 0xFFFF
  moleUs : Nat := 100
  molePasses : Nat := 0
  /-- Duration of the last pass, ms. -/
  moleMs : Nat := 0
  /-- TB0 time at which the running pass started. -/
  moleStart : Nat := 0
  /-- Bank now; 16 and 17 are SB0 and SB1. -/
  moleBank : Nat := 0
  moleRegion : Nat := 0
  /-- Trace input FIFO, oldest first, at most 64 (R535). -/
  fifo : List TraceRec := []
  /-- Records offered (R533). -/
  seq : Nat := 0
  /-- TRACE_CTRL.BANK, or none while no bank is free (R536). -/
  traceBank : Option Nat := some 15
  log2 : Nat := 14
  wr : Nat := 0
  rd : Nat := 0
deriving DecidableEq, Repr, Inhabited

/-- An alarm kind's count and first location (R537). -/
structure AlarmKind where
  count : Nat := 0
  firstLoc : Nat := 0
deriving DecidableEq, Repr, Inhabited

/-- What Den keeps of repairs and alarms (R522, R537). -/
structure Alarms where
  status : BitVec 18 := 0
  kinds : Tbl AlarmKind := []
  /-- Soft repair list, at most 64 (R522). -/
  soft : List Repair := []
deriving DecidableEq, Repr, Inhabited

end Sys2Proof.Machine
end

