-- ==== Sys2Proof/Syntax.lean ====
section
/-! DEFINITION. The commands of the block: one constructor per row of the opcode table, with the row's operands.
The operands say what the world outside gives with the command; a meaning reads everything else from State. -/

namespace Sys2Proof

/-- A command. -/
inductive Instr where
  /-- REGISTER_WRITE (R1). -/
  | registerWrite (init : Nat) (addr : Nat) (data : Bytes)
  /-- DEN_POWER_ON_RESET (R44). -/
  | denPowerOnReset (xtal : Bool)
  /-- PORST_N_ASSERT (R48). -/
  | porstNAssert
  /-- PORST_N_RELEASE (R38). -/
  | porstNRelease (boot : Nat)
  /-- ALL_RAILS_GOOD (R44). -/
  | allRailsGood
  /-- PLL_LOCK_COMPLETE (R515). -/
  | pllLockComplete
  /-- SUPPLY_WINDOW_EXPIRY (R45). -/
  | supplyWindowExpiry (late : Nat)
  /-- RAIL_OUT_OF_RANGE (R47). -/
  | railOutOfRange (rail : Nat)
  /-- BROWN_OUT (R47). -/
  | brownOut (rail : Nat)
  /-- VDD_AON_LOSS (R47). -/
  | vddAonLoss
  /-- FAULT_RESTART (R47). -/
  | faultRestart (xtal : Bool)
  /-- REF_CLOCK_FAULT (R51). -/
  | refClockFault
  /-- TJ_THRESHOLD_CROSS (R57). -/
  | tjThresholdCross (tj : Int)
  /-- OVERTEMP_RESET (R57). -/
  | overtempReset (tj : Int)
  /-- WARM_N_ASSERT (R49). -/
  | warmNAssert
  /-- WARM_RESET_START (R126). -/
  | warmResetStart
  /-- POWER_UP_BIST_COMPLETE (R515). -/
  | powerUpBistComplete (duration : Nat) (noRef : Nat) (fails : List Machine.BistFail) (soft : List Machine.Repair) (root : Bool)
  /-- BOOT_IMAGE_LOAD_COMPLETE (R122). -/
  | bootImageLoadComplete
  /-- DIESH_INIT_COMPLETE (R123). -/
  | dieshInitComplete
  /-- PCIE_MEM_READ (R68). -/
  | pcieMemRead (rid : Nat) (w2 : Bool) (addr : Nat) (size : Nat)
  /-- PCIE_MEM_WRITE (R62). -/
  | pcieMemWrite (rid : Nat) (w2 : Bool) (addr : Nat) (data : Bytes)
  /-- PCIE_ATOMIC_OP (R66). -/
  | pcieAtomicOp (rid : Nat) (w2 : Bool) (addr : Nat) (size : Nat) (op : Nat) (x : Nat) (y : Nat)
  /-- ATOMIC_OP_RETRY (R101). -/
  | atomicOpRetry
  /-- PCIE_DELAYED_READ_TIMEOUT (R68). -/
  | pcieDelayedReadTimeout (init : Nat) (addr : Nat) (size : Nat)
  /-- PCIE_PERST_ASSERT (R67). -/
  | pciePerstAssert
  /-- PCIE_HOT_RESET (R67). -/
  | pcieHotReset
  /-- PCIE_FLR (R67). -/
  | pcieFlr
  /-- HOST_MAP_WRITE (R63). -/
  | hostMapWrite (init : Nat) (value : Nat)
  /-- MSIX_UNMASK (R65). -/
  | msixUnmask (init : Nat) (vector : Nat)
  /-- EV_CAUSE_CLEAR (R127). -/
  | evCauseClear (init : Nat) (ev : Nat) (value : Nat)
  /-- RING_CTRL_WRITE (R74). -/
  | ringCtrlWrite (init : Nat) (tx : Bool) (ring : Nat) (value : Nat)
  /-- RING_TAIL_WRITE (R75). -/
  | ringTailWrite (init : Nat) (tx : Bool) (ring : Nat) (value : Nat)
  /-- TX_DESCRIPTOR_PROCESS (R80). -/
  | txDescriptorProcess (desc : Bytes) (data : Bytes)
  /-- RX_FRAME_DELIVER (R76). -/
  | rxFrameDeliver (buf : Nat)
  /-- DMA_ERROR (R83). -/
  | dmaError (tx : Bool) (ring : Nat)
  /-- RING_MOD_TIMEOUT (R84). -/
  | ringModTimeout (tx : Bool) (ring : Nat)
  /-- TS_RECORD_WRITE (R82). -/
  | tsRecordWrite (ring : Nat)
  /-- TS_RECORD_TIMEOUT (R82). -/
  | tsRecordTimeout (ring : Nat)
  /-- SPI_READ (R93). -/
  | spiRead (addr : Nat) (size : Nat) (crc : Nat)
  /-- SPI_WRITE (R92). -/
  | spiWrite (addr : Nat) (data : Bytes) (crc : Nat)
  /-- SPI_LOCK_READ (R95). -/
  | spiLockRead (addr : Nat) (size : Nat) (crc : Nat)
  /-- SPI_UNLOCK_WRITE (R100). -/
  | spiUnlockWrite (addr : Nat) (data : Bytes) (crc : Nat)
  /-- SPI_CANCEL (R87). -/
  | spiCancel (crc : Nat)
  /-- SPI_NOP (R87). -/
  | spiNop (opcode : Nat) (crc : Nat)
  /-- SPI_REPEAT_LAST (R89). -/
  | spiRepeatLast (crc : Nat)
  /-- SPI_READ_COLLECT (R89). -/
  | spiReadCollect
  /-- SPI_CS_EARLY_RISE (R89). -/
  | spiCsEarlyRise (inRequest : Bool)
  /-- BRIDGE_FETCH_COMPLETE (R93). -/
  | bridgeFetchComplete (bridge : Nat) (init : Nat) (op : Nat) (addr : Nat) (size : Nat) (answer : Option Bytes)
  /-- BRIDGE_READ_DISCARD (R94). -/
  | bridgeReadDiscard (bridge : Nat) (init : Nat) (op : Nat) (addr : Nat) (size : Nat)
  /-- BRIDGE_WRITE_DELIVER (R92). -/
  | bridgeWriteDeliver (bridge : Nat) (init : Nat)
  /-- SEM_LOCK_LAPSE (R100). -/
  | semLockLapse
  /-- PAIR_BRIDGE_REQUEST (R102). -/
  | pairBridgeRequest (op : Nat) (addr : Nat) (size : Nat) (data : Bytes)
  /-- EDGE_ERR_POP_READ (R327). -/
  | edgeErrPopRead (init : Nat) (cluster : Nat) (size : Nat)
  /-- MB_DOORBELL_WRITE (R107). -/
  | mbDoorbellWrite (init : Nat) (mb : Nat)
  /-- MB_RSP_ACK_WRITE (R108). -/
  | mbRspAckWrite (init : Nat) (mb : Nat)
  /-- MB_REQUEST_WRITE (R107). -/
  | mbRequestWrite (init : Nat) (mb : Nat) (off : Nat) (data : Bytes)
  /-- NOTICE_RD_WRITE (R116). -/
  | noticeRdWrite (init : Nat) (mb : Nat) (value : Nat)
  /-- TIMED_SWAP_FIRE (R120). -/
  | timedSwapFire
  /-- SET_DRAIN_END (R118). -/
  | setDrainEnd
  /-- SET_DRAIN_TIMEOUT (R118). -/
  | setDrainTimeout
  /-- SHADOW_COPY_COMPLETE (R118). -/
  | shadowCopyComplete
  /-- SNAPSHOT_PERIODIC_TIMER (R131). -/
  | snapshotPeriodicTimer
  /-- SNAPSHOT_PUBLISH (R131). -/
  | snapshotPublish
  /-- SERVICE_SESSION_EXPIRY (R504). -/
  | serviceSessionExpiry
  /-- ETH_FRAME_RECEIVE (R367). -/
  | ethFrameReceive (port : Nat) (data : Bytes) (last : Bool) (how : Nat)
  /-- PICKER_THREAD_ALLOCATE (R132). -/
  | pickerThreadAllocate (picker : Nat)
  /-- LDF (R143). -/
  | ldf (picker : Nat)
  /-- CMP (R144). -/
  | cmp (picker : Nat)
  /-- BR (R143). -/
  | br (picker : Nat)
  /-- JT (R143). -/
  | jt (picker : Nat)
  /-- ADD (R143). -/
  | add (picker : Nat)
  /-- SUB (R143). -/
  | sub (picker : Nat)
  /-- AND (R143). -/
  | and (picker : Nat)
  /-- OR (R143). -/
  | or (picker : Nat)
  /-- SHR (R143). -/
  | shr (picker : Nat)
  /-- SHL (R143). -/
  | shl (picker : Nat)
  /-- ADV (R143). -/
  | adv (picker : Nat)
  /-- PUSH (R147). -/
  | push (picker : Nat)
  /-- KEY (R143). -/
  | key (picker : Nat)
  /-- META (R143). -/
  | metaField (picker : Nat)
  /-- CHKLEN (R146). -/
  | chklen (picker : Nat)
  /-- DEFER (R152). -/
  | defer (picker : Nat)
  /-- DONE (R137). -/
  | done (picker : Nat)
  /-- MAL (R153). -/
  | mal (picker : Nat)
  /-- PICKER_STALL_RESUME (R135). -/
  | pickerStallResume (picker : Nat)
  /-- PARSE_BUDGET_EXHAUSTED (R136). -/
  | parseBudgetExhausted (picker : Nat)
  /-- WALKER_TAKEOVER (R152). -/
  | walkerTakeover (walker : Nat)
  /-- TRELLIS_NODE_VISIT (R150). -/
  | trellisNodeVisit (walker : Nat)
  /-- TRELLIS_VISIT_LIMIT (R150). -/
  | trellisVisitLimit (walker : Nat)
  /-- PARSE_RESULT_DELIVER (R137). -/
  | parseResultDeliver (port : Nat)
  /-- PICKER_FAULT_RERUN (R160). -/
  | pickerFaultRerun (isWalker : Bool) (unit : Nat)
  /-- PSTORE_ECC_ERROR (R162). -/
  | pstoreEccError (setB : Bool) (kind : Nat) (addr : Nat) (ue : Bool)
  /-- PSTORE_REWRITE (R162). -/
  | pstoreRewrite (setB : Bool) (kind : Nat) (addr : Nat)
  /-- MAC_AGE_SCAN (R181). -/
  | macAgeScan
  /-- TABLE_ECC_ERROR (R196). -/
  | tableEccError (setB : Bool) (table : Nat) (index : Nat) (ue : Bool)
  /-- TABLE_WORD_REWRITE (R196). -/
  | tableWordRewrite (setB : Bool) (table : Nat) (index : Nat)
  /-- VINTNER_DIRECTED_SEND (R12). -/
  | vintnerDirectedSend (port : Nat) (queue : Nat) (data : Bytes) (launch : Option (Nat × Nat))
  /-- EGRESS_SELECT (R236). -/
  | egressSelect (port : Nat) (side : Nat)
  /-- TRANSMISSION_COMPLETE (R233). -/
  | transmissionComplete (port : Nat) (pre : Bool)
  /-- MACSEC_HOLD_EXPIRY (R385). -/
  | macsecHoldExpiry (port : Nat)
  /-- RESIDENCE_SWEEP (R218). -/
  | residenceSweep
  /-- VAT_ECC_ERROR (R220). -/
  | vatEccError (kind : Nat) (ue : Bool) (index : Nat)
  /-- BADGER_AUDIT (R221). -/
  | badgerAudit
  /-- PFC_REPEAT_TIMER (R225). -/
  | pfcRepeatTimer (port : Nat) (prio : Nat)
  /-- PFC_FRAME_RECEIVE (R226). -/
  | pfcFrameReceive (port : Nat) (classes : Nat) (quanta : Bytes)
  /-- PFC_PAUSE_EXPIRY (R226). -/
  | pfcPauseExpiry (port : Nat) (prio : Nat)
  /-- GATE_ENTRY_CHANGE (R239). -/
  | gateEntryChange (port : Nat)
  /-- PREEMPT_VERIFY_ATTEMPT (R243). -/
  | preemptVerifyAttempt (port : Nat) (good : Bool)
  /-- STREAM_GATE_ENTRY_CHANGE (R257). -/
  | streamGateEntryChange (gate : Nat)
  /-- EDGE_QUEUE_TRANSFER (R253). -/
  | edgeQueueTransfer (chan : Nat)
  /-- TIME_CYCLE_TICK (R268). -/
  | timeCycleTick
  /-- COMPARE_FIRE (R280). -/
  | compareFire (tb : Nat) (unit : Nat)
  /-- CAPTURE_EDGE (R282). -/
  | captureEdge (source : Nat) (rising : Bool)
  /-- CAPTURE_REARM (R282). -/
  | captureRearm (init : Nat) (tb : Nat) (unit : Nat) (value : Nat)
  /-- TB_LATCH_WRITE (R269). -/
  | tbLatchWrite (init : Nat) (value : Nat)
  /-- PPS_PULSE_END (R283). -/
  | ppsPulseEnd (k : Nat)
  /-- GPTP_SYNC_RECEIVE (R287). -/
  | gptpSyncReceive (slot : Nat) (port : Nat) (off : Int) (steps : Nat) (gm : Nat) (ts : Bool)
  /-- GPTP_SYNC_TX_TIMER (R285). -/
  | gptpSyncTxTimer (slot : Nat) (port : Nat)
  /-- GPTP_SYNC_TIMEOUT (R287). -/
  | gptpSyncTimeout (slot : Nat)
  /-- GPTP_ANNOUNCE_RECEIVE (R285). -/
  | gptpAnnounceReceive (slot : Nat) (port : Nat) (prio1 : Nat) (quality : Nat) (prio2 : Nat) (gm : Nat) (steps : Nat)
  /-- GPTP_PDELAY_TIMER (R288). -/
  | gptpPdelayTimer (port : Nat)
  /-- GPTP_PDELAY_RESPONSE (R288). -/
  | gptpPdelayResponse (port : Nat) (neighbour : Nat) (delay : Nat) (ratio : Int) (ts : Bool)
  /-- GPTP_PDELAY_REQUEST_RX (R288). -/
  | gptpPdelayRequestRx (port : Nat)
  /-- EDGE_FRAME_RECEIVE (R299). -/
  | edgeFrameReceive (chan : Nat) (kind : Nat) (flags : Nat) (ctrl : Nat) (ident : Nat) (prio : Nat) (vcid : Nat) (data : Bytes) (ago : Nat) (err : Nat)
  /-- EDGE_FRAME_TO_VAT (R300). -/
  | edgeFrameToVat (chan : Nat)
  /-- EDGE_INTEGRATION_COMPLETE (R297). -/
  | edgeIntegrationComplete (chan : Nat)
  /-- CAN_TX_ATTEMPT (R308). -/
  | canTxAttempt (chan : Nat)
  /-- CAN_TX_ATTEMPT_END (R307). -/
  | canTxAttemptEnd (chan : Nat) (result : Nat) (kind : Nat) (dataPhase : Bool)
  /-- BUS_OFF_RECOVERY (R305). -/
  | busOffRecovery (chan : Nat)
  /-- LT_WINDOW_EXPIRY (R308). -/
  | ltWindowExpiry (chan : Nat)
  /-- LIN_SLOT_START (R311). -/
  | linSlotStart (chan : Nat)
  /-- LIN_RESPONSE_TIMEOUT (R311). -/
  | linResponseTimeout (chan : Nat)
  /-- LIN_HEADER_RECEIVE (R312). -/
  | linHeaderReceive (chan : Nat) (ident : Nat) (good : Bool)
  /-- LIN_STUCK_DOMINANT (R318). -/
  | linStuckDominant (chan : Nat)
  /-- FR_SLOT (R314). -/
  | frSlot (ctl : Nat) (slot : Nat) (cycle : Nat)
  /-- FR_POC_CHANGE (R315). -/
  | frPocChange (ctl : Nat) (poc : Nat)
  /-- T1S_TX_OPPORTUNITY (R317). -/
  | t1sTxOpportunity (chan : Nat) (fits : Nat) (collisions : Nat)
  /-- T1S_BEACON_TIMEOUT (R317). -/
  | t1sBeaconTimeout (chan : Nat)
  /-- T1S_JABBER (R317). -/
  | t1sJabber (chan : Nat)
  /-- TMC_FRAME (R323). -/
  | tmcFrame (cluster : Nat) (inbound : Nat)
  /-- TRX_FAULT_PERSIST (R318). -/
  | trxFaultPersist (chan : Nat)
  /-- GW_COPY_PROCESS (R330). -/
  | gwCopyProcess
  /-- GW_PRESS_COMPLETION (R356). -/
  | gwPressCompletion
  /-- GW_PRESS_TIMEOUT (R356). -/
  | gwPressTimeout (num : Nat)
  /-- BATCH_CLOSE_TIMER (R342). -/
  | batchCloseTimer (tunnel : Nat)
  /-- FV_SAVE_TIMER (R358). -/
  | fvSaveTimer
  /-- FV_RESERVATION_COMMIT (R358). -/
  | fvReservationCommit (index : Nat)
  /-- PORT_C_JOB (R423). -/
  | portCJob
  /-- PCS_CONDITION_CHANGE (R370). -/
  | pcsConditionChange (port : Nat) (lock : Bool) (laneLock : Bool) (localFault : Bool) (remoteFault : Bool) (errs : Nat) (corrected : Nat) (uncorrected : Nat)
  /-- LINK_UP_HOLD_EXPIRY (R370). -/
  | linkUpHoldExpiry (port : Nat)
  /-- LINK_DOWN_HOLD_EXPIRY (R371). -/
  | linkDownHoldExpiry (port : Nat)
  /-- AN_CONTROL_WORD (R368). -/
  | anControlWord (port : Nat) (word : Nat) (link : Bool) (duplex : Bool) (speed : Nat)
  /-- MDIO_TRANSACTION_COMPLETE (R374). -/
  | mdioTransactionComplete (bus : Nat) (value : Nat)
  /-- TC10_STATUS_POLL (R375). -/
  | tc10StatusPoll (lane : Nat) (value : Nat)
  /-- TC10_ACK_TIMEOUT (R375). -/
  | tc10AckTimeout (lane : Nat)
  /-- PHY_WAKE_INPUT (R376). -/
  | phyWakeInput (lane : Nat)
  /-- SERVICE_REQUEST (R379). -/
  | serviceRequest
  /-- SERVICE_POLL (R379). -/
  | servicePoll
  /-- SERVICE_ACK (R379). -/
  | serviceAck
  /-- SERVICE_LINK_LOST (R380). -/
  | serviceLinkLost
  /-- MKA_FRAME_RECEIVE (R389). -/
  | mkaFrameReceive (port : Nat) (st : Nat) (an : Nat) (sak : Option Bytes) (peer : Nat) (txSsci : Nat) (rxSsci : Nat) (salt : Bytes)
  /-- MKA_HELLO_TIMER (R389). -/
  | mkaHelloTimer (port : Nat) (lost : Bool)
  /-- PRESS_TURN (R417). -/
  | pressTurn (host : Bytes) (fault : Bool)
  /-- PRESS_DESCRIPTOR_COMPLETE (R419). -/
  | pressDescriptorComplete (cls : Nat)
  /-- KEY_SLOT_SCRUB (R405). -/
  | keySlotScrub (slot : Nat) (disturb : Nat)
  /-- TAMPER_DETECT (R411). -/
  | tamperDetect (source : Nat)
  /-- TAMPER_REDERIVE (R414). -/
  | tamperRederive
  /-- PRESS_LOCK_EXPIRY (R420). -/
  | pressLockExpiry
  /-- TRNG_HEALTH_FAIL (R416). -/
  | trngHealthFail
  /-- TRNG_RECOVERED (R416). -/
  | trngRecovered
  /-- DRBG_RESEED (R416). -/
  | drbgReseed
  /-- PERSIST_SLOT_STORE (R409). -/
  | persistSlotStore (slot : Nat)
  /-- VSEL_SETTLE_EXPIRY (R432). -/
  | vselSettleExpiry
  /-- WAKE_DETECT (R438). -/
  | wakeDetect (source : Nat) (matcher : Nat) (channel : Nat) (periods : Nat)
  /-- SLEEP_ENTRY_START (R440). -/
  | sleepEntryStart
  /-- SLEEP_DRAIN_COMPLETE (R442). -/
  | sleepDrainComplete
  /-- SLEEP_DRAIN_TIMEOUT (R442). -/
  | sleepDrainTimeout
  /-- SLEEP_SAVE_COMPLETE (R440). -/
  | sleepSaveComplete
  /-- INH_RELEASE_AFTER_FALL (R445). -/
  | inhReleaseAfterFall
  /-- SLEEP_EXIT_RAILS_GOOD (R447). -/
  | sleepExitRailsGood
  /-- SLEEP_EXIT_COMPLETE (R447). -/
  | sleepExitComplete (periods : Nat) (duration : Nat) (noRef : Nat) (fails : List Machine.BistFail)
  /-- LEVEL_RESTORE (R433). -/
  | levelRestore
  /-- FALSE_WAKE_TIMEOUT (R448). -/
  | falseWakeTimeout
  /-- NM_FRAME_RECEIVE (R451). -/
  | nmFrameReceive (port : Nat)
  /-- NM_BUS_TIMEOUT (R451). -/
  | nmBusTimeout (port : Nat)
  /-- NM_NODE_EXPIRY (R451). -/
  | nmNodeExpiry (port : Nat) (node : Nat)
  /-- NM_TX_CYCLE (R452). -/
  | nmTxCycle (port : Nat)
  /-- NM_HOLD_EXPIRY (R453). -/
  | nmHoldExpiry (port : Nat)
  /-- NM_COMMIT_START (R454). -/
  | nmCommitStart
  /-- LIN_SLAVE_SILENCE_TIMEOUT (R454). -/
  | linSlaveSilenceTimeout (chan : Nat)
  /-- OFFENDER_TIMEOUT (R456). -/
  | offenderTimeout (port : Nat) (node : Nat)
  /-- PAIR_LINK_UP (R461). -/
  | pairLinkUp
  /-- PAIR_LINK_DOWN (R461). -/
  | pairLinkDown
  /-- PAIR_HELLO_TIMER (R463). -/
  | pairHelloTimer
  /-- PAIR_HELLO_RECEIVE (R463). -/
  | pairHelloReceive (dev : Nat) (peer : Nat) (ident : Nat) (fwrev : Nat) (hbUs : Nat) (detectUs : Nat) (ckptMs : Nat) (respMs : Nat) (active : Bool) (prefer : Bool) (fenced : Bool) (epoch : Nat)
  /-- HEARTBEAT_TIMER (R469). -/
  | heartbeatTimer
  /-- OWL_CHALLENGE_REFRESH (R469). -/
  | owlChallengeRefresh
  /-- OWL_RESPONSE_WRITE (R469). -/
  | owlResponseWrite
  /-- OWL_HEARTBEAT_RECEIVE (R468). -/
  | owlHeartbeatReceive (path : Nat) (port : Nat) (data : Bytes)
  /-- OWL_LAST_GASP_RECEIVE (R470). -/
  | owlLastGaspReceive (path : Nat) (port : Nat) (data : Bytes)
  /-- OWL_TAKEOVER_RECEIVE (R475). -/
  | owlTakeoverReceive (path : Nat) (port : Nat) (data : Bytes)
  /-- OWL_BEACON_RECEIVE (R483). -/
  | owlBeaconReceive (path : Nat) (port : Nat) (data : Bytes)
  /-- PATH_SILENCE (R470). -/
  | pathSilence (path : Nat)
  /-- RESPONSE_STALE (R470). -/
  | responseStale
  /-- TAKEOVER_FORWARDING (R474). -/
  | takeoverForwarding
  /-- TAKEOVER_REPEAT (R474). -/
  | takeoverRepeat
  /-- FENCE_IN_RISE (R475). -/
  | fenceInRise (level : Bool)
  /-- FENCE_ROOST_ENTRY (R475). -/
  | fenceRoostEntry
  /-- PAIR_CHECKPOINT_TIMER (R472). -/
  | pairCheckpointTimer
  /-- IN_SYNC_LAPSE (R473). -/
  | inSyncLapse
  /-- HANDOVER_ACK_RECEIVE (R476). -/
  | handoverAckReceive
  /-- PAIR_SLEEP_RECEIVE (R479). -/
  | pairSleepReceive (target : Nat)
  /-- PAIR_SLEEP_ACK_TIMEOUT (R479). -/
  | pairSleepAckTimeout
  /-- PAIR_SLEEP_ABORT_RECEIVE (R479). -/
  | pairSleepAbortReceive
  /-- PAIR_REJOIN_TIMEOUT (R479). -/
  | pairRejoinTimeout
  /-- PAIR_DISSOLVE_RECEIVE (R480). -/
  | pairDissolveReceive
  /-- BEACON_TIMER (R483). -/
  | beaconTimer
  /-- FRER_RECOVERY_TIMEOUT (R482). -/
  | frerRecoveryTimeout (stream : Nat)
  /-- FRER_LATENT_CHECK (R482). -/
  | frerLatentCheck (stream : Nat)
  /-- FRER_LATENT_RESET (R482). -/
  | frerLatentReset (stream : Nat)
  /-- LOCKSTEP_MISMATCH (R485). -/
  | lockstepMismatch (bad : Nat) (mask : Nat)
  /-- CONTROLLER_CHECKPOINT_WRITE (R485). -/
  | controllerCheckpointWrite
  /-- CHAIN_DATA_RECEIVE (R501). -/
  | chainDataReceive (port : Nat)
  /-- CHAIN_DATA_ACK_RECEIVE (R501). -/
  | chainDataAckReceive (port : Nat)
  /-- CHAIN_RETRANSMIT_TIMER (R501). -/
  | chainRetransmitTimer (port : Nat) (part : Nat) (block : Nat)
  /-- CHAIN_ARM_RECEIVE (R505). -/
  | chainArmReceive (port : Nat)
  /-- CHAIN_CONFIRM_RECEIVE (R508). -/
  | chainConfirmReceive (port : Nat)
  /-- CHAIN_ABORT_RECEIVE (R509). -/
  | chainAbortReceive (port : Nat)
  /-- CHAIN_STATUS_RECEIVE (R510). -/
  | chainStatusReceive (port : Nat)
  /-- CHAIN_CTRL_ACK_RECEIVE (R502). -/
  | chainCtrlAckReceive (port : Nat)
  /-- UPD_STATUS_TIMER (R502). -/
  | updStatusTimer
  /-- ARM_REPEAT_TIMER (R505). -/
  | armRepeatTimer
  /-- UPDATE_ACTIVATION (R506). -/
  | updateActivation
  /-- TRIAL_WINDOW_EXPIRY (R509). -/
  | trialWindowExpiry
  /-- CONFIRM_REPEAT_TIMER (R510). -/
  | confirmRepeatTimer
  /-- INCOMPLETE_CHECK (R510). -/
  | incompleteCheck
  /-- PACKAGE_READBACK_COMPLETE (R499). -/
  | packageReadbackComplete (flashErr : Bool)
  /-- MOLE_VISIT (R530). -/
  | moleVisit (ce : Nat) (ue : Nat) (fault : Bool) (again : Bool)
  /-- SCRATCH_ZERO_COMPLETE (R527). -/
  | scratchZeroComplete (bank : Nat)
  /-- SCR_OWN_WRITE (R526). -/
  | scrOwnWrite (init : Nat) (bank : Nat) (value : Nat)
  /-- TRACE_WRITER_DRAIN (R535). -/
  | traceWriterDrain
  /-- TRACE_RD_WRITE (R536). -/
  | traceRdWrite (init : Nat) (value : Nat)
  /-- ALARM_CLEAR (R537). -/
  | alarmClear (init : Nat) (value : Nat)
  /-- CMD_DEVICE_INFO (R8). -/
  | cmdDeviceInfo (mb : Nat)
  /-- CMD_NOTICE_SUBSCRIBE (R116). -/
  | cmdNoticeSubscribe (mb : Nat)
  /-- CMD_EVENT_SPI_MASK (R90). -/
  | cmdEventSpiMask (mb : Nat)
  /-- CMD_DEVICE_RESET (R126). -/
  | cmdDeviceReset (mb : Nat)
  /-- CMD_SERVICE_AUTH (R504). -/
  | cmdServiceAuth (mb : Nat)
  /-- CMD_SERVICE_END (R380). -/
  | cmdServiceEnd (mb : Nat)
  /-- CMD_BOOT_IMAGE (R124). -/
  | cmdBootImage (mb : Nat)
  /-- CMD_SET_STATUS (R119). -/
  | cmdSetStatus (mb : Nat)
  /-- CMD_SET_COPY (R119). -/
  | cmdSetCopy (mb : Nat)
  /-- CMD_SET_LOAD (R117). -/
  | cmdSetLoad (mb : Nat)
  /-- CMD_SET_SWAP (R118). -/
  | cmdSetSwap (mb : Nat)
  /-- CMD_SET_SWAP_CANCEL (R120). -/
  | cmdSetSwapCancel (mb : Nat)
  /-- CMD_COUNTER_SNAPSHOT (R131). -/
  | cmdCounterSnapshot (mb : Nat)
  /-- CMD_COUNTER_READ (R130). -/
  | cmdCounterRead (mb : Nat)
  /-- CMD_COUNTER_CLEAR (R130). -/
  | cmdCounterClear (mb : Nat)
  /-- CMD_LOG_CONFIG (R536). -/
  | cmdLogConfig (mb : Nat)
  /-- CMD_LOG_READ (R536). -/
  | cmdLogRead (mb : Nat)
  /-- CMD_PARSE_LOAD (R158). -/
  | cmdParseLoad (mb : Nat)
  /-- CMD_PARSE_PORT (R155). -/
  | cmdParsePort (mb : Nat)
  /-- CMD_PARSE_DEVICE (R155). -/
  | cmdParseDevice (mb : Nat)
  /-- CMD_PARSE_TRY (R137). -/
  | cmdParseTry (mb : Nat)
  /-- CMD_PICKER_STATUS (R161). -/
  | cmdPickerStatus (mb : Nat)
  /-- CMD_PICKER_RETIRE (R161). -/
  | cmdPickerRetire (mb : Nat)
  /-- CMD_PICKER_READMIT (R161). -/
  | cmdPickerReadmit (mb : Nat) (pass : Bool)
  /-- CMD_CLS_PROFILE (R167). -/
  | cmdClsProfile (mb : Nat)
  /-- CMD_CLS_PORT (R169). -/
  | cmdClsPort (mb : Nat)
  /-- CMD_EM_WRITE (R172). -/
  | cmdEmWrite (mb : Nat)
  /-- CMD_EM_READ (R173). -/
  | cmdEmRead (mb : Nat)
  /-- CMD_ACTION_WRITE (R184). -/
  | cmdActionWrite (mb : Nat)
  /-- CMD_TERNARY_WRITE (R182). -/
  | cmdTernaryWrite (mb : Nat)
  /-- CMD_ZONE_WRITE (R171). -/
  | cmdZoneWrite (mb : Nat)
  /-- CMD_ANOMALY_WRITE (R188). -/
  | cmdAnomalyWrite (mb : Nat)
  /-- CMD_VLAN_WRITE (R178). -/
  | cmdVlanWrite (mb : Nat)
  /-- CMD_MCAST_WRITE (R178). -/
  | cmdMcastWrite (mb : Nat)
  /-- CMD_MAC_CONTROL (R181). -/
  | cmdMacControl (mb : Nat)
  /-- CMD_FOX_PORT (R193). -/
  | cmdFoxPort (mb : Nat)
  /-- CMD_MIRROR_SESSION (R195). -/
  | cmdMirrorSession (mb : Nat)
  /-- CMD_CLS_DEVICE (R172). -/
  | cmdClsDevice (mb : Nat)
  /-- CMD_CLS_COUNTERS (R199). -/
  | cmdClsCounters (mb : Nat)
  /-- CMD_VAT_QUEUE (R207). -/
  | cmdVatQueue (mb : Nat)
  /-- CMD_VAT_PORT (R207). -/
  | cmdVatPort (mb : Nat)
  /-- CMD_VAT_STATUS (R208). -/
  | cmdVatStatus (mb : Nat)
  /-- CMD_VAT_QUEUE_STATUS (R230). -/
  | cmdVatQueueStatus (mb : Nat)
  /-- CMD_VAT_PEEK (R203). -/
  | cmdVatPeek (mb : Nat)
  /-- CMD_VAT_PORT_RESET (R223). -/
  | cmdVatPortReset (mb : Nat)
  /-- CMD_VAT_BADGER (R222). -/
  | cmdVatBadger (mb : Nat)
  /-- CMD_SCHED_PORT (R234). -/
  | cmdSchedPort (mb : Nat)
  /-- CMD_GATE_LIST (R239). -/
  | cmdGateList (mb : Nat)
  /-- CMD_PREEMPT (R243). -/
  | cmdPreempt (mb : Nat)
  /-- CMD_SCHED_STATUS (R236). -/
  | cmdSchedStatus (mb : Nat)
  /-- CMD_STREAM_FILTER (R256). -/
  | cmdStreamFilter (mb : Nat)
  /-- CMD_STREAM_GATE (R257). -/
  | cmdStreamGate (mb : Nat)
  /-- CMD_METER (R258). -/
  | cmdMeter (mb : Nat)
  /-- CMD_POLICE_COUNTERS (R263). -/
  | cmdPoliceCounters (mb : Nat)
  /-- CMD_POLICE_UNLATCH (R256). -/
  | cmdPoliceUnlatch (mb : Nat)
  /-- CMD_EDGE_QUEUES (R253). -/
  | cmdEdgeQueues (mb : Nat)
  /-- CMD_TB_ENABLE (R270). -/
  | cmdTbEnable (mb : Nat)
  /-- CMD_TB_STEP (R271). -/
  | cmdTbStep (mb : Nat)
  /-- CMD_TB_RATE (R272). -/
  | cmdTbRate (mb : Nat)
  /-- CMD_TB_RESET (R273). -/
  | cmdTbReset (mb : Nat)
  /-- CMD_TB_STATUS (R266). -/
  | cmdTbStatus (mb : Nat)
  /-- CMD_GPTP_DOMAIN (R284). -/
  | cmdGptpDomain (mb : Nat)
  /-- CMD_GPTP_PORT (R288). -/
  | cmdGptpPort (mb : Nat)
  /-- CMD_GPTP_STATUS (R287). -/
  | cmdGptpStatus (mb : Nat)
  /-- CMD_EDGE_CONFIG (R294). -/
  | cmdEdgeConfig (mb : Nat)
  /-- CMD_EDGE_STATE (R297). -/
  | cmdEdgeState (mb : Nat)
  /-- CMD_EDGE_STATUS (R297). -/
  | cmdEdgeStatus (mb : Nat)
  /-- CMD_EDGE_FILTER (R300). -/
  | cmdEdgeFilter (mb : Nat)
  /-- CMD_EDGE_RETIRE (R319). -/
  | cmdEdgeRetire (mb : Nat)
  /-- CMD_EDGE_READMIT (R319). -/
  | cmdEdgeReadmit (mb : Nat)
  /-- CMD_LIN_TABLE (R311). -/
  | cmdLinTable (mb : Nat)
  /-- CMD_FR_CONFIG (R313). -/
  | cmdFrConfig (mb : Nat)
  /-- CMD_T1S_PLCA (R316). -/
  | cmdT1sPlca (mb : Nat)
  /-- CMD_TMC (R320). -/
  | cmdTmc (mb : Nat)
  /-- CMD_GW_TUNNEL (R334). -/
  | cmdGwTunnel (mb : Nat)
  /-- CMD_GW_PROGRAM (R347). -/
  | cmdGwProgram (mb : Nat)
  /-- CMD_GW_SECOC (R352). -/
  | cmdGwSecoc (mb : Nat)
  /-- CMD_GW_FRESHNESS (R358). -/
  | cmdGwFreshness (mb : Nat)
  /-- CMD_GW_STATUS (R358). -/
  | cmdGwStatus (mb : Nat)
  /-- CMD_GW_COUNTERS (R360). -/
  | cmdGwCounters (mb : Nat)
  /-- CMD_LANE_MODE (R363). -/
  | cmdLaneMode (mb : Nat)
  /-- CMD_PORT_CONFIG (R365). -/
  | cmdPortConfig (mb : Nat)
  /-- CMD_PORT_STATE (R372). -/
  | cmdPortState (mb : Nat)
  /-- CMD_PORT_STATUS (R369). -/
  | cmdPortStatus (mb : Nat)
  /-- CMD_PORT_RETIRE (R373). -/
  | cmdPortRetire (mb : Nat)
  /-- CMD_PORT_READMIT (R373). -/
  | cmdPortReadmit (mb : Nat)
  /-- CMD_PHY_BIND (R375). -/
  | cmdPhyBind (mb : Nat)
  /-- CMD_MDIO (R374). -/
  | cmdMdio (mb : Nat)
  /-- CMD_TC10 (R375). -/
  | cmdTc10 (mb : Nat)
  /-- CMD_MACSEC_PORT (R381). -/
  | cmdMacsecPort (mb : Nat)
  /-- CMD_MACSEC_TXSA (R383). -/
  | cmdMacsecTxsa (mb : Nat)
  /-- CMD_MACSEC_RXSC (R387). -/
  | cmdMacsecRxsc (mb : Nat)
  /-- CMD_MACSEC_RXSA (R388). -/
  | cmdMacsecRxsa (mb : Nat)
  /-- CMD_MACSEC_STATUS (R385). -/
  | cmdMacsecStatus (mb : Nat)
  /-- CMD_KEY_WRITE (R403). -/
  | cmdKeyWrite (mb : Nat)
  /-- CMD_KEY_GENERATE (R416). -/
  | cmdKeyGenerate (mb : Nat)
  /-- CMD_KEY_DERIVE (R400). -/
  | cmdKeyDerive (mb : Nat)
  /-- CMD_KEY_CLEAR (R405). -/
  | cmdKeyClear (mb : Nat)
  /-- CMD_KEY_INFO (R405). -/
  | cmdKeyInfo (mb : Nat)
  /-- CMD_PRESS_RUN (R419). -/
  | cmdPressRun (mb : Nat)
  /-- CMD_PRESS_LOCK (R420). -/
  | cmdPressLock (mb : Nat)
  /-- CMD_PRESS_STATUS (R417). -/
  | cmdPressStatus (mb : Nat)
  /-- CMD_ASYM_VERIFY (R425). -/
  | cmdAsymVerify (mb : Nat)
  /-- CMD_ANCHOR (R426). -/
  | cmdAnchor (mb : Nat)
  /-- CMD_LIFE_CYCLE (R396). -/
  | cmdLifeCycle (mb : Nat)
  /-- CMD_TAMPER (R414). -/
  | cmdTamper (mb : Nat)
  /-- CMD_POWER_LEVEL (R432). -/
  | cmdPowerLevel (mb : Nat)
  /-- CMD_SLEEP_ENTER (R440). -/
  | cmdSleepEnter (mb : Nat)
  /-- CMD_SLEEP_EXIT (R441). -/
  | cmdSleepExit (mb : Nat)
  /-- CMD_WAKE_CONFIG (R436). -/
  | cmdWakeConfig (mb : Nat)
  /-- CMD_WAKE_MATCHER (R437). -/
  | cmdWakeMatcher (mb : Nat)
  /-- CMD_NM_BUS (R450). -/
  | cmdNmBus (mb : Nat)
  /-- CMD_NM_CONTROL (R453). -/
  | cmdNmControl (mb : Nat)
  /-- CMD_STAYAWAKE_LOG (R456). -/
  | cmdStayawakeLog (mb : Nat)
  /-- CMD_PAIR_CONFIG (R463). -/
  | cmdPairConfig (mb : Nat)
  /-- CMD_PAIR_STATUS (R464). -/
  | cmdPairStatus (mb : Nat)
  /-- CMD_PAIR_HANDOVER (R476). -/
  | cmdPairHandover (mb : Nat)
  /-- CMD_PAIR_FENCE (R475). -/
  | cmdPairFence (mb : Nat)
  /-- CMD_PAIR_CHECKPOINT (R472). -/
  | cmdPairCheckpoint (mb : Nat)
  /-- CMD_LOCKSTEP_STATUS (R486). -/
  | cmdLockstepStatus (mb : Nat)
  /-- CMD_LOGICAL_PORT (R483). -/
  | cmdLogicalPort (mb : Nat)
  /-- CMD_FRER_STREAM (R481). -/
  | cmdFrerStream (mb : Nat)
  /-- CMD_FRER_BIND (R481). -/
  | cmdFrerBind (mb : Nat)
  /-- CMD_FRER_COUNTERS (R489). -/
  | cmdFrerCounters (mb : Nat)
  /-- CMD_FRER_RESET (R482). -/
  | cmdFrerReset (mb : Nat)
  /-- CMD_UPD_STATUS (R497). -/
  | cmdUpdStatus (mb : Nat)
  /-- CMD_UPD_MANIFEST (R494). -/
  | cmdUpdManifest (mb : Nat)
  /-- CMD_UPD_DATA (R499). -/
  | cmdUpdData (mb : Nat)
  /-- CMD_UPD_CHAIN (R500). -/
  | cmdUpdChain (mb : Nat)
  /-- CMD_UPD_ARM (R505). -/
  | cmdUpdArm (mb : Nat)
  /-- CMD_UPD_CONFIRM (R508). -/
  | cmdUpdConfirm (mb : Nat)
  /-- CMD_UPD_ABORT (R509). -/
  | cmdUpdAbort (mb : Nat)
  /-- CMD_UPD_VEHICLE (R510). -/
  | cmdUpdVehicle (mb : Nat)
  /-- CMD_SELFTEST_RUN (R519). -/
  | cmdSelftestRun (mb : Nat) (pass : Bool) (detail : Nat)
  /-- CMD_BIST_RESULT (R517). -/
  | cmdBistResult (mb : Nat)
  /-- CMD_REPAIR_LIST (R522). -/
  | cmdRepairList (mb : Nat)
  /-- CMD_REPAIR_BURN (R524). -/
  | cmdRepairBurn (mb : Nat) (good : Bool)
  /-- CMD_SCRATCH_OWN (R526). -/
  | cmdScratchOwn (mb : Nat)
  /-- CMD_SCRATCH_STATUS (R532). -/
  | cmdScratchStatus (mb : Nat)
  /-- CMD_MOLE_CONFIG (R530). -/
  | cmdMoleConfig (mb : Nat)
  /-- PCIE_PERST_RELEASE (R447). -/
  | pciePerstRelease
  /-- HANDOVER_ACK_TIMEOUT (R476). -/
  | handoverAckTimeout
  /-- PAIR_SLEEP_ACK_RECEIVE (R479). -/
  | pairSleepAckReceive
  /-- PAIR_MB3_FRAME_RECEIVE (R472). -/
  | pairMb3FrameReceive (kind : Nat) (data : Bytes)
  /-- SHADOW_READY_DEADLINE (R506). -/
  | shadowReadyDeadline
  /-- TAMPER_SOURCE_CLEAR (R411). -/
  | tamperSourceClear (source : Nat)
  /-- SUPPRESSION_END (R456). -/
  | suppressionEnd (port : Nat) (node : Nat)
deriving DecidableEq, Repr, Inhabited

end Sys2Proof
end

