-- ==== Sys2Proof/Types/CfgSet.lean ====
section
/-! DEFINITION. A configuration set (R117): every table that a swap exchanges. Table entries that the spec lays out as
bytes are held as those bytes; the accessors of each table stand with its commands under Machine/. -/

namespace Sys2Proof.Machine

/-- An exact-match entry (R174). -/
structure EmEntry where
  kind : Nat := 0
  static : Bool := false
  hit : Bool := false
  result : Nat := 0
  /-- Key bytes 0 to 15. -/
  key : Bytes := []
deriving DecidableEq, Repr, Inhabited

/-- A gate control list of a port, or the list of a stream gate (R239, R257). -/
structure GateEntry where
  /-- Gate state of a port's entry; OPEN of a stream gate's entry in bit 0. -/
  states : Nat := 0
  /-- 0 SET, 1 HOLD, 2 RELEASE; for a stream gate, IPV: bit 3 set, bits 2 to 0 value. -/
  op : Nat := 0
  interval : Nat := 0
  /-- OCTET_MAX of a stream gate's entry. -/
  octets : Nat := 0
deriving DecidableEq, Repr, Inhabited

structure GateList where
  tb : Nat := 0
  base : Nat := 0
  /-- CYCLE_TIME as applied; 0 means the sum of the intervals (R240). -/
  cycle : Nat := 0
  entries : List GateEntry := []
deriving DecidableEq, Repr, Inhabited

/-- A stream gate (R257). -/
structure StreamGate where
  /-- VALID, CLOSE_ON_INVALID, CLOSE_ON_OCTETS in bits 0 to 2. -/
  flags : Nat := 0
  list : GateList := {}
deriving DecidableEq, Repr, Inhabited

/-- The configuration of one set. Defaults are the empty configuration (R123, R157). -/
structure CfgSet where
  /-- Program store; a word not listed is zero (R157). -/
  prog : Tbl (BitVec 64) := [(0, 0x6400000000000000)]
  /-- Number of instructions. -/
  nInstr : Nat := 1
  /-- Jump-table entries, by 16 x table + entry. -/
  jump : Tbl Nat := []
  /-- Trellis nodes of 128 bytes; a node not listed is zero with DEFAULT_NEXT 0x0200 (R159). -/
  nodes : Tbl Bytes := []
  /-- Parser settings per ingress port: the 40 bytes of CMD_PARSE_PORT. -/
  parsePort : Tbl Bytes := []
  /-- MAL_RING (R155). -/
  malRing : Nat := 31
  /-- Key profiles, 128 bytes (R167). -/
  profiles : Tbl Bytes := []
  /-- Identifier ranges: bytes 4 to 15 of CMD_ZONE_WRITE OP 1 (R169). -/
  ranges : Tbl Bytes := []
  /-- Rows of the zone-pair matrix, two bits per destination (R171). -/
  zoneRows : Tbl (BitVec 64) := []
  /-- ZONE_RING (R171). -/
  zoneRing : Nat := 31
  /-- The exact-match pool by index (R173). -/
  em : Tbl EmEntry := []
  /-- Quotas of kinds 1 to 6 (R172). -/
  quotas : List Nat := [65536, 8192, 32768, 131072, 4096, 20480]
  /-- Ternary rules of 88 bytes, by 2,048 x bank + rule (R182). -/
  ternary : Tbl Bytes := []
  /-- RANK of banks 0 to 3 (R183). -/
  ranks : List Nat := [0, 1, 2, 3]
  /-- Action entries of 32 bytes (R184). -/
  actions : Tbl Bytes := []
  /-- Anomaly monitors: bytes 2 to 7 of CMD_ANOMALY_WRITE (R188). -/
  monitors : Tbl Bytes := []
  /-- VLAN entries: bytes 2 to 31 of CMD_VLAN_WRITE (R178). -/
  vlans : Tbl Bytes := []
  /-- Multicast groups: MEMBER, 21 bytes (R178). -/
  mcast : Tbl Bytes := []
  /-- Classification settings per port: the 16 bytes of CMD_CLS_PORT. -/
  clsPort : Tbl Bytes := []
  /-- Mirror sessions: bytes 1 to 5 of CMD_MIRROR_SESSION (R195). -/
  mirrors : Tbl Bytes := []
  /-- Fox samplers per port: bytes 2 to 13 of CMD_FOX_PORT (R193). -/
  fox : Tbl Bytes := []
  /-- Scheduler settings of B and T ports: the 152 bytes of CMD_SCHED_PORT (R234). -/
  sched : Tbl Bytes := []
  /-- Gate control lists of B and T ports (R239). -/
  gates : Tbl GateList := []
  /-- Stream filters: bytes 2 to 9 of CMD_STREAM_FILTER (R256). -/
  filters : Tbl Bytes := []
  /-- Stream gates (R257). -/
  streamGates : Tbl StreamGate := []
  /-- Meters: bytes 2 to 19 of CMD_METER (R258). -/
  meters : Tbl Bytes := []
  /-- Edge queue settings: bytes 1 to 5 of CMD_EDGE_QUEUES (R253). -/
  edgeQueues : Tbl Bytes := []
  /-- Acceptance filter entries, by 64 x channel + entry (R300). -/
  acceptance : Tbl Bytes := []
  /-- Gateway tunnels (R334). -/
  tunnels : Tbl Bytes := []
  /-- PDU programs (R347). -/
  programs : Tbl Bytes := []
  /-- SecOC profiles (R352). -/
  secoc : Tbl Bytes := []
  /-- Port C jobs (R423). -/
  portC : Tbl Bytes := []
  /-- FRER compound streams (R481). -/
  streams : Tbl Bytes := []
  /-- FRER bindings (R481). -/
  binds : Tbl Bytes := []
  /-- Logical ports 136 to 167 (R483). -/
  logical : Tbl Bytes := []
deriving DecidableEq, Repr, Inhabited

/-- State of the shadow set (R119). DRAINING is split at the end of the drain (R118). -/
inductive Shadow where
  | ready
  /-- Frames of the old generation may remain. -/
  | draining
  /-- The drain has ended; Diesh copies the active set. -/
  | copying
  | armed
deriving DecidableEq, Repr, Inhabited

/-- The two configuration sets and the swap state (R117 to R120). -/
structure Sets where
  a : CfgSet := {}
  b : CfgSet := {}
  /-- Set B is active. -/
  activeB : Bool := false
  /-- Active generation. -/
  gen : Nat := 1
  shadow : Shadow := .ready
  dirty : Bool := false
  /-- Time base and time of the armed swap. -/
  swapTb : Nat := 0
  swapTime : Nat := 0
  /-- DRAIN_TIMEOUT, ms. -/
  drainMs : Nat := 50
  /-- SET_DRAIN_DROP by location code; the spec gives the counter no index (R118). -/
  drainDrops : Tbl Nat := []
deriving DecidableEq, Repr, Inhabited

end Sys2Proof.Machine
end

