-- ==== Sys2Proof/Types/Sleep.lean ====
section
/-! DEFINITION. State of performance levels, sleep, wake and network coordination (spec/14). Each field's default is its
reset value. -/

namespace Sys2Proof.Machine

/-- Where an entry into sleep stands (R440). -/
inductive Entry where
  /-- No entry runs. -/
  | none
  /-- S0 has run: the drain goes on (S1). -/
  | drain
  /-- Clocks are gated and the state is being saved (S2, S3). -/
  | save
  /-- S4: supplies go off; a late wake waits for the rails to fall (R445). -/
  | off
deriving DecidableEq, Repr, Inhabited

/-- A wake that was detected: source code, matcher and channel (R436 to R438). -/
structure Wake where
  source : Nat
  matcher : Nat := 0
  channel : Nat := 0xFF
deriving DecidableEq, Repr, Inhabited

/-- A selective-wake matcher (R437, CMD_WAKE_MATCHER). -/
structure Matcher where
  /-- VALID, IDE, DATA_CHECK in bits 0 to 2. -/
  flags : Nat := 0
  channel : Nat := 0
  rate : Nat := 0
  dlc : Nat := 0
  id : Nat := 0
  idMask : Nat := 0
  data : Bytes := []
  dataMask : Bytes := []
deriving DecidableEq, Repr, Inhabited

/-- False wakes of a source, or of a channel of a source: how many in a row, and when (R449). -/
structure FalseRun where
  times : List Nat := []
deriving DecidableEq, Repr, Inhabited

/-- An NM bus (R450, CMD_NM_BUS). -/
structure NmBus where
  en : Bool := false
  ide : Bool := false
  tc10 : Bool := false
  ownNode : Nat := 0
  nodePos : Nat := 0
  cbvPos : Nat := 0
  rmBit : Nat := 0
  awBit : Nat := 4
  pduLen : Nat := 1
  idLo : Nat := 0
  idHi : Nat := 0
  txId : Nat := 0
  cycleMs : Nat := 100
  timeoutMs : Nat := 2000
  repeatMs : Nat := 1500
  template : Bytes := []
  /-- No counting NM frame for NM_TIMEOUT_MS (R451). -/
  ready : Bool := false
  /-- A hold runs on the bus (R453, R455). -/
  hold : Bool := false
  /-- TB0 of the last counting frame of a node that the full table does not track (R451). -/
  untracked : Option Nat := none
  /-- IPv4 Identification of the next own frame (R335). -/
  ident : Nat := 0
deriving DecidableEq, Repr, Inhabited

/-- A node of the node table (R451). -/
structure NmNode where
  port : Nat := 0
  node : Nat := 0
  /-- TB0 of its last frame. -/
  lastSeen : Nat := 0
  /-- TB0 since which it holds the network (R456). -/
  since : Option Nat := none
  /-- The present hold has been logged. -/
  logged : Bool := false
deriving DecidableEq, Repr, Inhabited

/-- An entry of the stay-awake log (R456). -/
structure StayEntry where
  valid : Bool := false
  port : Nat := 0
  node : Nat := 0
  suppressed : Bool := false
  episodes : Nat := 0
  /-- Longest hold, s. -/
  longest : Nat := 0
  lastSeen : Nat := 0
deriving DecidableEq, Repr, Inhabited

/-- Network coordination (R450 to R456). -/
structure Nm where
  buses : Tbl NmBus := []
  nodes : List NmNode := []
  log : Tbl StayEntry := []
  target : Nat := 2
  suppress : Bool := false
  coord : Bool := false
  commitMs : Nat := 150
  offendS : Nat := 600
  /-- Host requests of MB0 and MB2. -/
  req0 : Bool := false
  req2 : Bool := false
  /-- 0 AWAKE, 1 HOLD, 2 WINDOW, 3 COMMITTING, 4 ENTERING. -/
  state : Nat := 0
  /-- e of the open window. -/
  windowEnd : Nat := 0
  /-- TB0 instant from which the agreed commit starts without a window: COMMIT_MS 0 (R453). -/
  commitAt : Option Nat := none
  /-- The hold follows a network wake that Neraz caused (R452). -/
  local_ : Bool := false
  /-- Commit actions not ended: lanes in a TC10 handshake and LIN masters sending go-to-sleep (R454). -/
  lanes : List Nat := []
  lins : List Nat := []
  /-- The standby's answer to PAIR_SLEEP is awaited (R479). -/
  pairWait : Bool := false
deriving DecidableEq, Repr, Inhabited

/-- Performance level, sleep state and wake detection. -/
structure Sleep where
  /-- LEVEL now, P0 to P3. -/
  level : Nat := 0
  vselEn : Bool := true
  settleUs : Nat := 100
  /-- A rising change waits for SETTLE_US: the level asked for and the mailbox that waits, if any (R432). -/
  rising : Option (Nat × Option Nat) := none
  /-- Level saved at entry (R433). -/
  saved : Nat := 0
  /-- STATE of PWR_STATUS: 0 ACTIVE, 1 ENTERING, 2 ROOST, 3 EXITING; Burrow and Hibernate read as no access can. -/
  state : Nat := 0
  /-- CORE, PICK and EGR are gated. -/
  gated : Bool := false
  entry : Entry := .none
  /-- State in force or aimed at: 1 Roost, 2 Burrow, 3 Hibernate; 0 none. -/
  target : Nat := 0
  /-- The supplies of the target state are off: the device is in Burrow or Hibernate. -/
  asleep : Bool := false
  /-- TB0 at S0 of the entry (R440). -/
  entryAt : Nat := 0
  /-- The entry began in Roost (CMD_SLEEP_ENTER, R479). -/
  fromRoost : Bool := false
  /-- The entry is that of a commit of network sleep; kept in Den, since the exit is then a network wake (R454, R455). -/
  net : Bool := false
  /-- Sleep state that the last exit left (R448). -/
  left : Nat := 0
  /-- TB0 that Den took over, and 32.768 kHz periods since (R289). -/
  denBase : Nat := 0
  denPeriods : Nat := 0
  /-- The level saved at entry is to be restored (R433). -/
  restore : Bool := false
  lastTarget : Nat := 0
  lastResult : Nat := 0
  resumeLost : Bool := false
  /-- TC10 in S3 was asked for (CMD_SLEEP_ENTER). -/
  tc10 : Bool := false
  drainMax : Nat := 20
  /-- Lanes put to TC10 sleep in S3 (R441). -/
  lanes : List Nat := []
  /-- Mailboxes whose command was accepted before AP1 (R442). -/
  before : List Nat := []
  /-- A wake that has been detected during an entry and not yet acted on (R441). -/
  wake : Option Wake := none
  /-- The rails are good on an exit (R447). -/
  railsUp : Bool := false
  wakeCause : BitVec 31 := 0
  infoFirst : Nat := 0x1F
  infoMatcher : Nat := 0
  infoChannel : Nat := 0xFF
  infoTime : Nat := 0
  sourceEn : BitVec 31 := 0x7FFFFFFF
  edgeEn : BitVec 96 := 0
  actFilter : Nat := 5
  fwTimeout : Nat := 500
  inhMap : List Nat := [3, 2, 0, 0]
  muted : BitVec 31 := 0
  mutedCh : BitVec 96 := 0
  matchers : Tbl Matcher := []
  /-- The wake that waits to be confirmed (R448). -/
  unconfirmed : Option Wake := none
  /-- False wakes in a row by 128 x source + channel (R449). -/
  falseRuns : Tbl FalseRun := []
  nm : Nm := {}
  /-- Levels of INH0 to INH3: pulled low (R439). -/
  inhLow : BitVec 4 := 0
deriving DecidableEq, Repr, Inhabited

end Sys2Proof.Machine
end

