-- ==== Sys2Proof/Types/Time.lean ====
section
/-! DEFINITION. State of the time unit and of gPTP (spec/09). -/

namespace Sys2Proof.Machine

/-- State of a time base (R266). -/
inductive TbState where
  | disabled | enabled | stepped
deriving DecidableEq, Repr, Inhabited

/-- A time base (R266 to R273). -/
structure TimeBase where
  state : TbState := .disabled
  /-- Nanoseconds, modulo 2^64. -/
  count : Nat := 0
  /-- The part below one nanosecond, in units of 2^-44 ns (R268). -/
  frac : Nat := 0
  /-- RATE in units of 2^-44. -/
  rate : Int := 0
  /-- TB_LATCH values. -/
  latchNs : Nat := 0
  latchFrac : Nat := 0
  /-- TB0 at the last step or reset, or zero. -/
  lastEvent : Nat := 0
  /-- No valid Sync has been taken since the time base was enabled or reset (R287). -/
  firstSync : Bool := false
deriving DecidableEq, Repr, Inhabited

/-- A compare unit (R280, R281). -/
structure Compare where
  time : Nat := 0
  period : Nat := 0
  arm : Bool := false
  out : Nat := 0
deriving DecidableEq, Repr, Inhabited

/-- A capture unit (R282). -/
structure Capture where
  source : Nat := 31
  edge : Nat := 1
  value : Nat := 0
  valid : Bool := false
  overrun : Bool := false
deriving DecidableEq, Repr, Inhabited

/-- A PPS output (R283). -/
structure Pps where
  width : Nat := 100000000
  invert : Bool := false
  /-- The pulse is active, until this time of TB0. -/
  active : Bool := false
  until_ : Nat := 0
deriving DecidableEq, Repr, Inhabited

/-- A master known by Announce: its priority vector and the port it was heard on (R285). -/
structure Master where
  prio1 : Nat
  /-- Clock class, accuracy and variance in one number. -/
  quality : Nat
  prio2 : Nat
  gm : Nat
  steps : Nat
  port : Nat
deriving DecidableEq, Repr, Inhabited

/-- A domain slot (R284 to R287, CMD_GPTP_DOMAIN). -/
structure GptpSlot where
  valid : Bool := false
  external : Bool := false
  jumpAction : Bool := false
  domain : Nat := 0
  tb : Nat := 0
  role : Nat := 0
  prio1 : Nat := 0
  prio2 : Nat := 0
  logSync : Int := -3
  logAnnounce : Int := 0
  timeout : Nat := 3
  slavePort : Nat := 0xFF
  masters : Nat := 0
  stepMin : Nat := 1000
  lockThresh : Nat := 100
  jumpLimit : Nat := 100000
  /-- 0 DISABLED, 1 LISTENING, 2 UNLOCKED, 3 LOCKED, 4 GRANDMASTER. -/
  state : Nat := 0
  /-- Best master heard under BMCA. -/
  best : Option Master := none
  steps : Nat := 0
  gm : Nat := 0
  offset : Int := 0
  lastSync : Nat := 0
  /-- Consecutive Syncs within LOCK_THRESH, at most 8. -/
  lockRun : Nat := 0
  /-- Consecutive Syncs beyond JUMP_LIMIT. -/
  jumpRun : Nat := 0
  /-- Syncs are missing: SYNC_LOST has been raised. -/
  lost : Bool := false
deriving DecidableEq, Repr, Inhabited

/-- gPTP of a port (R278, R288). -/
structure GptpPort where
  en : Bool := false
  logPdelay : Int := 0
  ing : Int := 0
  egr : Int := 0
  thresh : Nat := 800
  allowed : Nat := 3
  asCapable : Bool := false
  delay : Nat := 0
  ratio : Int := 0
  neighbour : Nat := 0
  /-- Consecutive lost responses. -/
  lost : Nat := 0
  /-- A request waits for its response. -/
  waiting : Bool := false
  /-- Neighbour that answered the last request. -/
  answered : Option Nat := none
deriving DecidableEq, Repr, Inhabited

/-- The time unit (spec/09). -/
structure TimeUnit where
  /-- TB0 to TB5; TB0 is always ENABLED. -/
  tb : Tbl TimeBase := [(0, { state := .enabled })]
  /-- Compare units by 4 x time base + unit. -/
  cmp : Tbl Compare := []
  cap : Tbl Capture := []
  pps : Tbl Pps := []
  slot : Tbl GptpSlot := []
  gport : Tbl GptpPort := []
deriving DecidableEq, Repr, Inhabited

end Sys2Proof.Machine
end

