-- ==== Sys2Proof/Types/Pair.lean ====
section
/-! DEFINITION. State of the pair, Owl, FRER and the Vintner lockstep (spec/15). Each field's default is its reset value. -/

namespace Sys2Proof.Machine

/-- Settings of CMD_PAIR_CONFIG. -/
structure PairCfg where
  en : Bool := false
  prefer : Bool := false
  follower : Bool := false
  peer : Nat := 0
  hbPort : Nat := 0
  hbUs : Nat := 50
  detectUs : Nat := 200
  ckptMs : Nat := 10
  respMs : Nat := 5
  genSlot : Nat := 0
  verSlot : Nat := 0
  rejoinMs : Nat := 500
deriving DecidableEq, Repr, Inhabited

/-- Recovery and generation state of a compound stream (R481, R482). -/
structure FrerState where
  /-- Next generated sequence number. -/
  next : Nat := 0
  takeAny : Bool := true
  seqR : Nat := 0
  /-- History, bit 0 for seq_r. -/
  hist : Nat := 0
  resync : Bool := false
  /-- TB0 of the last pass. -/
  lastPass : Nat := 0
  /-- Passed and discarded since the last latent reset. -/
  passed : Nat := 0
  discarded : Nat := 0
deriving DecidableEq, Repr, Inhabited

/-- What tells a pair's devices that a shadow set has changed: generation, shadow state, DIRTY (R472, R473). -/
structure SetVer where
  gen : Nat := 1
  shadow : Shadow := .ready
  dirty : Bool := false
deriving DecidableEq, Repr, Inhabited

/-- What a pair checkpoint carries (R472). The spec ties its bytes to FWREV and does not give them. -/
structure Ckpt where
  ver : SetVer := {}
  /-- The whole active set and the whole shadow, when they are carried. -/
  active : Option CfgSet := none
  shadow : Option CfgSet := none
  /-- An armed swap: time base, TIME, generation. -/
  swap : Option (Nat × Nat × Nat) := none
  /-- The list of dynamic MAC entries is whole; else changes: entries to add, and keys to remove. -/
  macsWhole : Bool := false
  macs : List EmEntry := []
  macsGone : List Bytes := []
  /-- TB1 to TB5 and TB0 at one instant. -/
  tb : Tbl TimeBase := []
  tb0 : Nat := 0
  /-- gPTP slots, and ports that are asCapable. -/
  gptp : Tbl GptpSlot := []
  asCapable : List Nat := []
  nm : Nm := {}
  frer : Tbl FrerState := []
  fv : Tbl Nat := []
  resv : Tbl Nat := []
deriving DecidableEq, Repr, Inhabited

/-- The pair, Owl, FRER and lockstep. -/
structure Pair where
  cfg : PairCfg := {}
  /-- The pair link is up (R461). -/
  link : Bool := false
  /-- STATE of PAIR_STATUS (R464). -/
  state : Nat := 0
  /-- Path not silent (R470). -/
  pathA : Bool := false
  pathB : Bool := false
  /-- FENCE_IN and FENCE_OUT ball levels. -/
  fenceIn : Bool := false
  fenceOut : Bool := false
  /-- The standby holds what the active has; on the active, what its standby has acknowledged (R473). -/
  inSync : Bool := false
  degraded : Bool := false
  /-- Takeover count of the pair; kept in Den (R473). -/
  epoch : Nat := 0
  /-- MISMATCH_ITEM. -/
  mismatch : Nat := 0
  /-- TB0 [31:0] of tF. -/
  lastTakeover : Nat := 0
  peerGen : Nat := 0
  /-- Sequence number of the last checkpoint sent or applied. -/
  ckptSeq : Nat := 0
  /-- Active: what the last checkpoint carried and what the standby has acknowledged. Standby: what it holds. -/
  sent : Option SetVer := none
  acked : Option SetVer := none
  held : Option SetVer := none
  /-- Active: dynamic MAC entries as last carried. -/
  sentMacs : List EmEntry := []
  /-- Standby: the last checkpoint applied, its sets left out. -/
  ckpt : Option Ckpt := none
  /-- Segments held of the checkpoint under way: its number, count and segments (R472). -/
  segSeq : Nat := 0
  segCount : Nat := 0
  segs : Tbl Bytes := []
  /-- SEQ of the next Owl frame on path A and path B. -/
  seqA : Nat := 0
  seqB : Nat := 0
  /-- Last SEQ accepted plus one, by 256 x path + sender (R468). -/
  lastSeq : Tbl Nat := []
  /-- Keys loaded into Owl; none when not usable (R466). -/
  genKey : Option Bytes := none
  verKey : Option Bytes := none
  /-- Challenges issued, newest first, with their TB0 times (R469). -/
  challenges : List (Nat × Nat) := []
  /-- The peer's present challenge, and what Diesh answered last: response and challenge answered. -/
  peerChallenge : Option Nat := none
  response : Nat := 0
  answered : Nat := 0
  /-- TB0 at which the newest challenge was issued that the peer has answered correctly. -/
  goodResp : Option Nat := none
  /-- A takeover runs from tD to tF (R474). -/
  taking : Bool := false
  /-- TAKEOVER frames still to be sent (R474). -/
  repeats : Nat := 0
  /-- Fenced and not yet in Roost (R475). -/
  fencing : Bool := false
  /-- Forwarding stays off in Roost after a dissolution (R480). -/
  parked : Bool := false
  /-- It waits in Roost to form as standby (R479, CMD_PAIR_FENCE). -/
  awaiting : Bool := false
  /-- A verified Owl frame of the peer has arrived since the exit from pair sleep (R479). -/
  heard : Bool := false
  /-- CMD_PAIR_HANDOVER of this mailbox waits for the standby's acknowledgement (R476). -/
  handover : Option Nat := none
  /-- SLEPT_ROLE in Den: 0 none, 1 active, 2 standby (R479). -/
  slept : Nat := 0
  /-- Owl neither sends nor watches (R479). -/
  owlOff : Bool := false
  /-- Device named by the last verified BEACON or TAKEOVER on a port, plus one (R483). -/
  named : Tbl Nat := []
  /-- Highest EPOCH seen by a follower and the device it named, plus one. -/
  followEpoch : Nat := 0
  followDev : Nat := 0
  /-- Compound streams (R481, R482). -/
  frer : Tbl FrerState := []
  /-- Vintner has halted (R486). -/
  vintnerHalted : Bool := false
  /-- TB0 times of mismatches in the window (R486). -/
  mismatches : List Nat := []
  restarts : Nat := 0
  lastMismatch : Nat := 0
  /-- Sequence number of the newest controller checkpoint, and how many copies hold a valid one (R485). -/
  ctlSeq : Nat := 0
  ctlCopies : Nat := 0
  /-- WDO level (R485). -/
  wdo : Bool := false
  /-- TB0 of the last tamper wipe, for R486. -/
  wiped : Option Nat := none
deriving DecidableEq, Repr, Inhabited

end Sys2Proof.Machine
end

