-- ==== Sys2Proof/Config.lean ====
section
/-! DEFINITION. What an implementation fixes and the values the spec leaves open. Every constant here is opaque: no
proof can see its value, so a statement about it holds whatever it is (log entry 7). -/

namespace Sys2Proof.Config

/-- Device id of location codes, 0 to 63 (R3); the spec does not say how a device gets it. -/
opaque deviceIdRaw : BitVec 6

/-- Device Serial Number, from OTP (R64). -/
opaque serialNumber : BitVec 64

/-- FWREV that Diesh of a boot image writes, from the image's bytes (R9). -/
opaque fwrevOf : List (BitVec 8) → BitVec 32

/-- The configuration that a Tchiska configuration image holds, or the offset of its first fault. The spec does not
give the image format (CMD_SET_LOAD, R492). -/
opaque configImage : List (BitVec 8) → Except Nat Machine.CfgSet

/-- Cell or descriptor number from which the free list is searched: the spec names no order of the free list (R202). -/
opaque freeItem : Nat → Nat

/-- CODE of a trace record for which no chapter gives a code, by 32 x event + cause bit (R533). -/
opaque recordCode : Nat → BitVec 16

/-- DATA of a trace record for which no chapter gives data (R533). -/
opaque recordData : Nat → BitVec 96

/-- A number the spec leaves open, by the count of free values taken (log entry 7). -/
opaque freeNat : Nat → Nat

/-- Random bytes: `randomBytes k n` is the k-th draw of the TRNG, n bytes (R398, R416). -/
opaque randomBytes : Nat → Nat → List (BitVec 8)

/-- The body of a frame of a protocol whose frames the spec does not lay out, by the count of free values taken. -/
opaque freeFrame : Nat → List (BitVec 8)

/-- Digest of trust anchor 0, programmed before shipment (R426). -/
opaque anchor0 : List (BitVec 8)

/-- ECDSA P-384 with SHA-384 (FIPS 186-5): public key, digest, signature (R425). -/
opaque ecdsaVerify : List (BitVec 8) → List (BitVec 8) → List (BitVec 8) → Bool

/-- ML-DSA-65 (FIPS 204): public key, message, signature (R425). -/
opaque mldsaVerify : List (BitVec 8) → List (BitVec 8) → List (BitVec 8) → Bool

/-- Clock identity, and clock class, accuracy and variance as one number, of this device in IEEE 802.1AS (R285). -/
opaque clockIdentity : BitVec 64
opaque clockQuality : BitVec 32

/-- OUTCOME of a Fox sample where R194 lists none: 0 a source-address drop (R180), 1 an unknown destination in
FLOOD_MODE 1 (R177). -/
opaque foxOutcome : Nat → BitVec 8

/-- Segment and row of a memory (by the codes of CMD_REPAIR_LIST) that hold an item: the spec gives no geometry (R521). -/
opaque rowOf : Nat → Nat → Nat × Nat

/-- Spare rows of a memory's segment that production repairs use (R521). -/
opaque productionRows : Nat → Nat → Nat

/-- A host image verifies under a trust anchor: the spec does not give the image's format (R40, R124). -/
opaque hostImageOk : List (BitVec 8) → Nat → Bool

/-- The new Diesh converts the settings of a DIESH part of another FORMAT_REV: old, new (R507). -/
opaque conversionOk : Nat → Nat → Bool

/-- Bytes of a flash bank, 32 MiB to 128 MiB: the board's flash devices decide (R495). -/
opaque bankBytesRaw : Nat

/-- The Brynros key pair in the boot ROM: P-384 and ML-DSA-65 public keys (R504). -/
opaque romKeys : List (BitVec 8)

/-- Bytes of a pair checkpoint's body, and the checkpoint that bytes hold: the format is tied to FWREV (CMD_PAIR_CHECKPOINT). -/
opaque ckptBytes : Machine.Ckpt → List (BitVec 8)
opaque ckptOf : List (BitVec 8) → Option Machine.Ckpt

/-- Data rate of the PCIe link after encoding, in tenths of Gb/s: it depends on the link's generation and width (R431). -/
opaque pcieRate : Nat

end Sys2Proof.Config
end

