-- ==== Sys2Proof/Machine/Tbl.lean ====
section
/-! DEFINITION. The operations of sparse tables and of byte memory: one read, one write, the canonical form. -/

namespace Sys2Proof.Machine

/-- The entry at key `k`, or `d` where none is listed. -/
def Tbl.get {α : Type} (t : Tbl α) (k : Nat) (d : α) : α :=
  match t with
  | [] => d
  | (k', v) :: rest => if k' = k then v else Tbl.get rest k d

/-- The listed entry at key `k`, if any. -/
def Tbl.find {α : Type} (t : Tbl α) (k : Nat) : Option α :=
  match t with
  | [] => none
  | (k', v) :: rest => if k' = k then some v else Tbl.find rest k

/-- The table without an entry at `k`. -/
def Tbl.erase {α : Type} (t : Tbl α) (k : Nat) : Tbl α :=
  match t with
  | [] => []
  | (k', v) :: rest => if k' = k then rest else (k', v) :: Tbl.erase rest k

/-- The table with `v` at `k`, in its place by key. -/
def Tbl.insert {α : Type} (t : Tbl α) (k : Nat) (v : α) : Tbl α :=
  match t with
  | [] => [(k, v)]
  | (k', v') :: rest =>
    if k < k' then (k, v) :: (k', v') :: rest
    else if k' = k then (k, v) :: rest
    else (k', v') :: Tbl.insert rest k v

/-- Write `v` at `k`; the default `d` is never listed. -/
def Tbl.set {α : Type} [DecidableEq α] (t : Tbl α) (k : Nat) (v d : α) : Tbl α :=
  if v = d then Tbl.erase t k else Tbl.insert t k v

/-- Keys strictly rise from above `lo` (exclusive when `some`). -/
def Tbl.sorted {α : Type} : Tbl α → Bool
  | [] => true
  | [_] => true
  | (k, _) :: (k', v') :: rest => decide (k < k') && Tbl.sorted ((k', v') :: rest)

/-- The canonical form: keys strictly rising and no entry equal to the default. -/
def Tbl.wf {α : Type} [DecidableEq α] (t : Tbl α) (d : α) : Bool :=
  Tbl.sorted t && t.all (fun e => decide (e.2 ≠ d))

/-- Byte memory: cells with rising addresses, none listing the byte that an unlisted address reads as. -/
abbrev Memory := Tbl Byte

/-- What an address reads as when no cell lists it (DESIGN CHOICE, log entry 9). -/
def Memory.blank : Byte := 0

/-- One byte of memory. -/
def Memory.read (m : Memory) (a : Nat) : Byte := Tbl.get m a Memory.blank

/-- Write one byte of memory. -/
def Memory.write (m : Memory) (a : Nat) (v : Byte) : Memory := Tbl.set m a v Memory.blank

/-- The canonical form of memory. -/
def Memory.wf (m : Memory) : Bool := Tbl.wf m Memory.blank

/-- `n` bytes from `a`. -/
def Memory.readN (m : Memory) (a : Nat) : Nat → Bytes
  | 0 => []
  | n + 1 => Memory.read m a :: Memory.readN m (a + 1) n

/-- Write bytes from `a` on. -/
def Memory.writeN (m : Memory) (a : Nat) : Bytes → Memory
  | [] => m
  | b :: rest => Memory.writeN (Memory.write m a b) (a + 1) rest

/-- Remove every cell from `a` up to but excluding `a + n`: the range reads blank. -/
def Memory.clear (m : Memory) (a n : Nat) : Memory :=
  m.filter (fun e => decide (e.1 < a) || decide (a + n ≤ e.1))

end Sys2Proof.Machine
end

