-- ==== Sys2Proof/Machine/Operands.lean ====
section
/-! DEFINITION. Reading and building the byte layouts of registers, requests, descriptors and frames (spec/00, Notation). -/

namespace Sys2Proof.Machine

/-- Byte `i`, zero beyond the end (R110: a field beyond PARAM_LEN is taken as zero). -/
def u8 (b : Bytes) (i : Nat) : Nat := (b.getD i 0).toNat

/-- Little-endian number of `n` bytes at `i`. -/
def leN (b : Bytes) (i : Nat) : Nat → Nat
  | 0 => 0
  | n + 1 => u8 b i + 256 * leN b (i + 1) n

def u16 (b : Bytes) (i : Nat) : Nat := leN b i 2
def u32 (b : Bytes) (i : Nat) : Nat := leN b i 4
def u64 (b : Bytes) (i : Nat) : Nat := leN b i 8

/-- Network-order number of `n` bytes at `i`. -/
def beN (b : Bytes) (i : Nat) : Nat → Nat
  | 0 => 0
  | n + 1 => u8 b i * 256 ^ n + beN b (i + 1) n

/-- Bit `k` of byte `i`. -/
def bit (b : Bytes) (i k : Nat) : Bool := (u8 b i).testBit k

/-- Bits `hi` to `lo` of a number. -/
def bits (n hi lo : Nat) : Nat := (n / 2 ^ lo) % 2 ^ (hi + 1 - lo)

/-- `n` little-endian bytes of a number. -/
def le (n v : Nat) : Bytes :=
  match n with
  | 0 => []
  | n + 1 => BitVec.ofNat 8 v :: le n (v / 256)

/-- `n` network-order bytes of a number. -/
def be (n v : Nat) : Bytes := (le n v).reverse

/-- `n` zero bytes. -/
def zeros (n : Nat) : Bytes := List.replicate n 0

def b1 (v : Nat) : Bytes := le 1 v
def b2 (v : Nat) : Bytes := le 2 v
def b4 (v : Nat) : Bytes := le 4 v
def b8 (v : Nat) : Bytes := le 8 v

/-- `n` bytes from `i`, zero beyond the end. -/
def slice (b : Bytes) (i n : Nat) : Bytes :=
  let t := (b.drop i).take n
  t ++ zeros (n - t.length)

/-- The bytes with byte `i` replaced. -/
def setByte (b : Bytes) (i : Nat) (v : Nat) : Bytes := b.set i (BitVec.ofNat 8 v)

/-- The bytes with those from `i` on replaced by `v`. -/
def setBytes (b : Bytes) (i : Nat) (v : Bytes) : Bytes := b.take i ++ v ++ b.drop (i + v.length)

/-- Clamp to a range (R111). -/
def clamp (lo hi v : Nat) : Nat := if v < lo then lo else if hi < v then hi else v

/-- A truth value as a bit. -/
def b2n (b : Bool) : Nat := if b then 1 else 0

/-- A signed value in two's complement of `8 n` bits. -/
def sle (n : Nat) (v : Int) : Bytes := le n (v % (2 ^ (8 * n) : Nat)).toNat

/-- The bits of a number below `n`, lowest first. -/
def bitsOf (n v : Nat) : List Nat := (List.range n).filter (fun i => v.testBit i)

/-- Whether every byte is zero. -/
def allZero (b : Bytes) : Bool := b.all (fun x => x == 0)

/-- CRC-8 of R86: polynomial 0x07, no reflection, initial value 0. -/
def crc8 (b : Bytes) : Byte :=
  b.foldl (fun c x =>
    (List.range 8).foldl (fun c _ => if c.getMsbD 0 then (c <<< 1) ^^^ 0x07 else c <<< 1) (c ^^^ x)) 0

/-- CRC-32C of R173: reflected, initial value and final XOR all ones. -/
def crc32c (b : Bytes) : BitVec 32 :=
  (b.foldl (fun c x =>
    (List.range 8).foldl (fun c _ => if c.getLsbD 0 then (c >>> 1) ^^^ 0x82F63B78 else c >>> 1)
      (c ^^^ x.zeroExtend 32)) (0xFFFFFFFF : BitVec 32)) ^^^ 0xFFFFFFFF

/-- The ones'-complement sum of the big-endian 16-bit words of a header (R147). -/
def onesSum (b : Bytes) : Nat :=
  let rec go : Bytes → Nat → Nat
    | h :: l :: rest, acc => go rest (acc + h.toNat * 256 + l.toNat)
    | [h], acc => acc + h.toNat * 256
    | [], acc => acc
  let s := go b 0
  let s := s % 65536 + s / 65536
  s % 65536 + s / 65536

/-- Chunks of `n` items, the last of which may be shorter; `fuel` bounds their number. -/
def chunksOf {α : Type} (n : Nat) : Nat → List α → List (List α)
  | 0, _ => []
  | fuel + 1, l => if l.isEmpty then [] else l.take n :: chunksOf n fuel (l.drop n)

end Sys2Proof.Machine
end

