-- ==== Sys2Proof/Types/Frame.lean ====
section
/-! DEFINITION. Frames and their copies as they travel through the device (spec/01, spec/05, spec/07). -/

namespace Sys2Proof.Machine

/-- A transmit timestamp asked for by a TX descriptor (R82). -/
structure TsReq where
  txRing : Nat
  ring : Nat
  tb : Nat
  cookie : Nat
deriving DecidableEq, Repr, Inhabited

/-- A frame as the parser sees it (R134), with what travels beside it. -/
structure Frame where
  /-- The parsed frame: no FCS, no SecTAG; an edge frame begins with its edge header. -/
  bytes : Bytes := []
  /-- Ingress port (R6). -/
  port : Nat := 0
  /-- The frame begins with an edge header (R139). -/
  edge : Bool := false
  /-- BUS_KIND of R138. -/
  kind : Nat := 0
  /-- Generation stamped on the frame; 0 before the stamp (R13, R117). -/
  gen : Nat := 0
  /-- The first ingress timestamp, in TB0 to TB5. -/
  ts : List Nat := []
  /-- Verified by MACsec on ingress (R134). -/
  macsec : Bool := false
  /-- PRIO of the TX descriptor (R138). -/
  prio : Option Nat := none
  /-- Launch time as (time base, time) (R81, R237). -/
  launch : Option (Nat × Nat) := none
  /-- Transmit timestamp asked for (R82). -/
  tsReq : Option TsReq := none
  /-- Source zone kept by a frame that re-enters through G or C (R169). -/
  zone : Option Nat := none
  /-- AUTH_FAILED of R76. -/
  authFailed : Bool := false
  /-- Passes through the gateway engine (spec/11). -/
  passes : Nat := 0
deriving DecidableEq, Repr, Inhabited

/-- One copy of a frame: a descriptor in a queue (R203) with what the copy carries. -/
structure Copy where
  /-- Descriptor number. -/
  desc : Nat := 0
  /-- Frame held in the Vat. -/
  fid : Nat := 0
  /-- Cells of the frame. -/
  cells : Nat := 0
  /-- L. -/
  len : Nat := 0
  /-- Generation of the frame. -/
  gen : Nat := 0
  /-- BAD (R220). -/
  bad : Bool := false
  /-- ENQ_TIME: TB0 [31:0] at admission. -/
  enq : Nat := 0
  /-- Launch time as (time base, time). -/
  launch : Option (Nat × Nat) := none
  /-- Charged to the control reserve (R210). -/
  ctrl : Bool := false
  /-- Forwarded cut-through (R17). -/
  ct : Bool := false
  colour : Nat := 0
  /-- The frame has more than one admitted copy. -/
  mc : Bool := false
  ingress : Nat := 0
  egress : Nat := 0
  queue : Nat := 0
  /-- REASON of the RX descriptor (R76). -/
  reason : Nat := 0
  /-- ACTION_ID of the RX descriptor (R76). -/
  actionId : Nat := 0
  /-- Malformed reason (R155). -/
  mal : Nat := 0
  /-- The copy is cut to this many bytes of the frame. -/
  trunc : Option Nat := none
  /-- Mirror session that made the copy (R195). -/
  mirror : Option Nat := none
  /-- Port whose Fox sampler made the copy (R193). -/
  fox : Option Nat := none
  /-- Counted in RX_WAIT_NOBUF (R78). -/
  waited : Bool := false
  /-- Sample header before the frame (R194). -/
  hdr : Bytes := []
  /-- REWRITE_ID of the merged action, 0 to 2,047. -/
  rewrite : Option Nat := none
  /-- TUNNEL_ID of the merged action. -/
  tunnel : Option Nat := none
  /-- Metadata as delivered by the parse and changed by policing (R138). -/
  md : BitVec 64 := 0
  /-- Header stack delivered by the parse (R148), for rewrite and gateway. -/
  stack : List (Nat × Nat) := []
  /-- Final source zone (R185). -/
  zone : Nat := 0
  /-- FRER generation taken for this frame, as (stream, sequence number) (R481). -/
  frer : Option (Nat × Nat) := none
  /-- FRER recovery stream the copies of this frame pass at egress, or removal of the tag (R482). -/
  untagR : Bool := false
  /-- Members of a REPLICATE logical port that have taken the copy, as a mask (R483). -/
  taken : Nat := 0
  /-- Forwarding copies of the frame after stage 4 (R194). -/
  fwds : Nat := 0
deriving DecidableEq, Repr, Inhabited

/-- A frame held in the Vat (R202). -/
structure VFrame where
  frame : Frame := {}
  /-- Cells of its chain, first cell first. -/
  cells : List Nat := []
  /-- Admitted copies still held (R214). -/
  refs : Nat := 0
  /-- Charged to staging: no admission decision yet (R209). -/
  staged : Bool := true
  /-- The last byte has arrived. -/
  ended : Bool := true
  /-- Priority counted by PFC, once the parse has delivered it (R225). -/
  prio : Option Nat := none
  /-- Re-runs counted by R160. -/
  reruns : Nat := 0
deriving DecidableEq, Repr, Inhabited

/-- How a parse ended (R137). -/
structure ParseResult where
  /-- Reason, 0 for DONE (R153). -/
  reason : Nat := 0
  profile : Nat := 0
  /-- k0 to k47. -/
  key : Bytes := []
  stack : List (Nat × Nat) := []
  md : BitVec 64 := 0
  /-- HIGH_READ, none when nothing was read. -/
  high : Option Nat := none
  instrs : Nat := 0
  nodes : Nat := 0
  cursor : Nat := 0
deriving DecidableEq, Repr, Inhabited

end Sys2Proof.Machine
end

