-- ==== Sys2Proof/Types/Crypto.lean ====
section
/-! DEFINITION. State of one-time fuses, the Cellar, tamper watch, the Press and port C (spec/13). Each field's default is
its reset value. -/

namespace Sys2Proof.Machine

/-- A trust anchor of OTP (R426). -/
structure Anchor where
  programmed : Bool := false
  revoked : Bool := false
  digest : Bytes := []
deriving DecidableEq, Repr, Inhabited

/-- One-time-programmable fuses: they survive everything (R47, R48, R395 to R398, R414, R426, R524). -/
structure Otp where
  /-- 0 BLANK, 1 PROVISIONED, 2 FIELD, 3 RETURNED (R395). -/
  life : Nat := 0
  /-- The root secret, once generated (R398). -/
  root : Option (BitVec 256) := none
  /-- Root arrays whose programming failed, 0 to 2 (R398). -/
  rootFails : Nat := 0
  /-- Anchors 1 to 3; anchor 0 is `Config.anchor0`, programmed before shipment (R426). -/
  anchors : Tbl Anchor := []
  /-- Wipes burned, 0 to 64 (R414). -/
  tamperCount : Nat := 0
  /-- TAMPERED (R414). -/
  tampered : Bool := false
  /-- Burned field fuses, at most 16 (R524). -/
  fuses : List Repair := []
  /-- Slots of field fuses used, failed ones included (R524). -/
  fusesUsed : Nat := 0
deriving DecidableEq, Repr, Inhabited

/-- A key slot (R402, R403, R405). -/
structure Slot where
  /-- 0 EMPTY, 1 VALID, 2 BAD. -/
  status : Nat := 0
  /-- 32 bytes. -/
  key : Bytes := []
  /-- The 64 attribute bits. -/
  attr : Nat := 0
  /-- The integrity tag. -/
  tag : Nat := 0
deriving DecidableEq, Repr, Inhabited

/-- The Cellar and tamper watch. -/
structure Cellar where
  slots : Tbl Slot := []
  /-- PERSIST slots written and not yet stored in flash (R409). -/
  storeDue : List Nat := []
  /-- Slots whose first LIMIT_REACHED since the last write has been raised (R406). -/
  limitSeen : List Nat := []
  /-- Tamper source enables (R411). -/
  enables : BitVec 5 := 0x1F
  /-- Sources that have caused a wipe and whose condition persists (R411). -/
  active : BitVec 5 := 0
  /-- TB0 [31:0] of the last wipe. -/
  lastWipe : Nat := 0
  /-- Slots 240 to 255 wait to be derived again (R414). -/
  rederive : Bool := false
deriving DecidableEq, Repr, Inhabited

/-- Who waits for a descriptor of the Press. -/
inductive PressFrom where
  /-- CMD_PRESS_RUN of a mailbox. -/
  | run (mb : Nat)
  /-- The gateway's held frame of this number (R356). -/
  | gateway (n : Nat)
  /-- Port C's job of this number (R423). -/
  | portC (n : Nat)
deriving DecidableEq, Repr, Inhabited

/-- A descriptor in a queue of the Press with its progress (R417 to R421). -/
structure PressJob where
  /-- The 48 bytes of R418. -/
  desc : Bytes := []
  origin : PressFrom := .run 0
  started : Bool := false
  /-- Key taken at the start (R408). -/
  key : Bytes := []
  /-- Destination attributes, for a KDF (R400). -/
  attr : Nat := 0
  aad : Bytes := []
  /-- Source data read so far. -/
  input : Bytes := []
  /-- The tag that follows a GCM inverse's ciphertext. -/
  tagIn : Bytes := []
  /-- Bytes written. -/
  written : Nat := 0
  /-- The last turn has ended with this status. -/
  finished : Option Nat := none
  zeroed : Bool := false
  /-- TAG of the completion record. -/
  tag : Bytes := []
  /-- Data of a job of the device itself; none where SRC names the source. -/
  src : Option Bytes := none
  /-- Output of a job of the device itself. -/
  out : Bytes := []
deriving DecidableEq, Repr, Inhabited

/-- Progress of a CMD_PRESS_RUN: descriptors asked for and completion records so far. -/
structure PressRun where
  count : Nat := 0
  records : List Bytes := []
deriving DecidableEq, Repr, Inhabited

/-- The Press lock (R420). -/
structure PressLock where
  cls : Nat
  us : Nat
  /-- TB0 time at which it was taken. -/
  start : Nat
deriving DecidableEq, Repr, Inhabited

/-- A job of port C that waits for the Press (R423). -/
structure CJob where
  copy : Copy := {}
  frame : Frame := {}
  /-- Offset of the job's data in the frame. -/
  data : Nat := 0
  inverse : Bool := false
deriving DecidableEq, Repr, Inhabited

/-- The Press and port C. -/
structure Press where
  /-- Queues of classes 0 to 7, head first. -/
  queues : Tbl (List PressJob) := []
  /-- Class served next. -/
  rr : Nat := 0
  /-- Retired queues. -/
  retired : BitVec 8 := 0
  /-- TB0 times of the faults of a queue in its window (R424). -/
  faults : Tbl (List Nat) := []
  lock : Option PressLock := none
  /-- TB0 time until which a class cannot take the lock again (R420). -/
  barred : Tbl Nat := []
  trngOk : Bool := true
  runs : Tbl PressRun := []
  /-- Completions for the gateway not yet taken: status and tag, by number of the held frame (R356). -/
  answers : Tbl (Nat × Bytes) := []
  /-- Job counter of port C: drawn high half and running low half (R423). -/
  ctr : Nat := 0
  jobs : Tbl CJob := []
  nextJob : Nat := 0
deriving DecidableEq, Repr, Inhabited

end Sys2Proof.Machine
end

