-- ==== Sys2Proof/Types/Edge.lean ====
section
/-! DEFINITION. State of the edge clusters (spec/10). Each field's default is its reset value. -/

namespace Sys2Proof.Machine

/-- A copy held by an edge controller (R253, R254). -/
structure EdgeCopy where
  /-- Edge queue it came from. -/
  k : Nat := 0
  /-- The copy's bytes: edge header and data, or an Ethernet frame. -/
  bytes : Bytes := []
  edge : Bool := true
  launch : Option (Nat × Nat) := none
  enq : Nat := 0
  maxRes : Nat := 0
  /-- It waits in the transmit FIFO. -/
  fifo : Bool := false
deriving DecidableEq, Repr, Inhabited

/-- A LIN publish slot (R310). -/
structure LinSlot where
  data : Bytes := []
  /-- Written since it was last sent. -/
  fresh : Bool := false
deriving DecidableEq, Repr, Inhabited

/-- One edge channel. -/
structure EdgeChan where
  /-- Mode code of R294. -/
  mode : Nat := 0
  /-- State in the order of R297: 0 OFF, 1 DOWN, 2 INTEGRATING, 3 ACTIVE, 4 LISTEN_ONLY, 5 BUS_OFF, 6 RETIRED. -/
  state : Nat := 0
  /-- LISTEN_ONLY was asked for: the channel goes there from INTEGRATING. -/
  listen : Bool := false
  tsTb : Nat := 0
  /-- BUSOFF_AUTO, DEFAULT_ACCEPT, TDC_EN, XL_TMS in bits 0 to 3. -/
  flags : Nat := 3
  /-- NBRP to PWM_O: bytes 8 to 21 of CMD_EDGE_CONFIG (reset: log entry 1). -/
  timing : Bytes := [1, 0, 127, 0, 32, 32, 1, 29, 10, 10, 30, 1, 1, 0]
  baud : Nat := 19200
  ltWindow : List Nat := [1000000, 1000000, 1000000, 1000000]
  tec : Nat := 0
  rec_ : Nat := 0
  /-- Error-passive (R305). -/
  passive : Bool := false
  /-- TB0 times of the retiring faults in the window (R318). -/
  faults : List Nat := []
  lastFault : Nat := 0
  /-- Inbound nibble of the last good frame (R321). -/
  tmcIn : Nat := 0
  /-- TB0 time since which TRX_PWR is 1 (R320). -/
  pwrOn : Nat := 0
  /-- A transceiver fault episode runs (R320). -/
  trxFault : Bool := false
  /-- Transmit mailboxes and FIFO, in the order they were filled (R253). -/
  held : List EdgeCopy := []
  /-- The copy whose attempt is on the bus. -/
  tx : Option EdgeCopy := none
  /-- Receive FIFO, oldest first (R301). -/
  rx : List Frame := []
  /-- LIN identifier table: one byte per identifier as in CMD_LIN_TABLE OP 1. -/
  ids : Tbl Nat := []
  slots : Tbl LinSlot := []
  /-- Schedule tables 0 to 3: entries of 4 bytes. -/
  tables : Tbl (List Nat) := []
  table : Nat := 0
  /-- Entry run next. -/
  pos : Nat := 0
  /-- Table selected, taken up at the end of the slot (R311). -/
  select : Option Nat := none
  /-- Table and entry that resume after a collision table (R311). -/
  resume : Option (Nat × Nat) := none
  /-- Identifier whose response is awaited, and the collision table of an event-triggered entry. -/
  await : Option (Nat × Option Nat) := none
  /-- PLCA settings: bytes 2 to 7 of CMD_T1S_PLCA (R316). -/
  plca : Bytes := [1, 255, 8, 32, 0, 128]
  /-- T1S: the beacon is heard or sent. -/
  beacon : Bool := false
  /-- The commit of network sleep took the channel down (R454, R455). -/
  netDown : Bool := false
  /-- A wake-up pulse was sent and the schedule restarts 100 ms later (R455). -/
  restart : Bool := false
deriving DecidableEq, Repr, Inhabited

/-- A FlexRay controller (R313 to R315). -/
structure FrCtl where
  /-- The block of R313 (reset: log entry 1). -/
  block : Bytes := [0, 3, 10, 0, 10, 2, 2, 0, 3, 0, 0, 1, 0, 0, 2, 1, 2, 0, 0, 0, 0, 0, 0, 2] ++ List.replicate 40 0
  /-- Message buffers as 64-bit words. -/
  bufs : List Nat := []
  /-- Copies held by a transmit buffer, oldest first. -/
  tx : Tbl (List EdgeCopy) := []
  /-- Protocol operation control state (ISO 17458): 0 DEFAULT_CONFIG, 1 CONFIG, 2 READY, 3 WAKEUP, 4 STARTUP, 5 NORMAL_ACTIVE,
  6 NORMAL_PASSIVE, 7 HALT. -/
  poc : Nat := 0
deriving DecidableEq, Repr, Inhabited

/-- An entry of a cluster's error FIFO (R327). -/
structure EdgeErr where
  chan : Nat := 0
  kind : Nat := 0
  dataPhase : Bool := false
  sending : Bool := false
  tec : Nat := 0
  rec_ : Nat := 0
  time : Nat := 0
deriving DecidableEq, Repr, Inhabited

/-- An edge cluster: its transceiver mode chain and error FIFO (R320 to R327). -/
structure EdgeCluster where
  /-- 0 NONE, 1 OUT_ONLY, 2 FULL. -/
  use : Nat := 0
  settleMs : Nat := 10
  outFrame : Nat := 0
  inFrame : Nat := 0
  /-- Consecutive discarded frames. -/
  bad : Nat := 0
  errs : List EdgeErr := []
deriving DecidableEq, Repr, Inhabited

/-- The edge clusters. -/
structure Edge where
  ch : Tbl EdgeChan := []
  fr : Tbl FrCtl := []
  cl : Tbl EdgeCluster := []
deriving DecidableEq, Repr, Inhabited

end Sys2Proof.Machine
end

