-- ==== Sys2Proof/Types/Gateway.lean ====
section
/-! DEFINITION. State of the gateway engine, port G (spec/11). Each field's default is its reset value. -/

namespace Sys2Proof.Machine

/-- A message of an open batch (R336, R342). -/
structure GwMsg where
  bytes : Bytes := []
  /-- message_timestamp of a message with mtv 1. -/
  ts : Option Nat := none
  /-- Instant of TB0 by which the batch must close for this message. -/
  due : Nat := 0
  passes : Nat := 0
  authFailed : Bool := false
deriving DecidableEq, Repr, Inhabited

/-- The open batch of a tunnel (R342). -/
structure GwBatch where
  /-- o. -/
  opened : Nat := 0
  gen : Nat := 0
  zone : Nat := 0
  msgs : List GwMsg := []
deriving DecidableEq, Repr, Inhabited

/-- What a frame that has left queue 672 waits for (R356). -/
inductive GwWait where
  /-- The CMAC of a check: profile, candidate, MAC bits received. -/
  | check (profile cand mac : Nat)
  /-- The CMAC of a generation: profile, value. -/
  | generate (profile value : Nat)
  /-- Nothing: it waits for the frames before it (R332). -/
  | turn
deriving DecidableEq, Repr, Inhabited

/-- A frame held by the engine (R332, R356). -/
structure GwHeld where
  num : Nat := 0
  /-- The input, with its edge header. -/
  frame : Frame := {}
  rewrite : Nat := 0
  tunnel : Option Nat := none
  /-- Metadata PRIO of the input. -/
  prio : Nat := 0
  /-- TB0 of its arrival at the engine. -/
  arrive : Nat := 0
  wait : GwWait := .turn
  /-- Output so far, edge header included. -/
  out : Bytes := []
  authFailed : Bool := false
deriving DecidableEq, Repr, Inhabited

/-- Counts that belong to a tunnel number (R335, R344). -/
structure GwSeq where
  seq : Nat := 0
  ident : Nat := 0
  encap : Nat := 0
  /-- sequence_num of the last PDU unpacked. -/
  last : Option Nat := none
deriving DecidableEq, Repr, Inhabited

/-- The gateway engine. -/
structure Gateway where
  batches : Tbl GwBatch := []
  /-- Frames held, in the order in which they left queue 672. -/
  held : List GwHeld := []
  nextNum : Nat := 0
  seqs : Tbl GwSeq := []
  /-- Freshness counters (R358). -/
  fv : Tbl Nat := []
  /-- Reservations in force, and those whose save has not completed. -/
  resv : Tbl Nat := []
  resvNext : Tbl Nat := []
  /-- Reservations saved that wait for the standby to acknowledge the checkpoint of a number (R358). -/
  resvWait : Tbl (Nat × Nat) := []
  fvSave : Nat := 60
  fvSkip : Nat := 65536
  /-- Failed checks of a profile since its last notice, and TB0 of that notice plus one (R361). -/
  fails : Tbl Nat := []
  failTold : Tbl Nat := []
  /-- TB0 of the last GW_LOOP notice. -/
  loopTold : Option Nat := none
  /-- TB0 instants of the units of work of the last 1 ms (CMD_GW_STATUS). -/
  units : List Nat := []
deriving DecidableEq, Repr, Inhabited

end Sys2Proof.Machine
end

