-- ==== Sys2Proof/Types/Ports.lean ====
section
/-! DEFINITION. State of lanes, ports, PHY management, MACsec and the service port (spec/12). Each field's default is its
reset value. -/

namespace Sys2Proof.Machine

/-- One SerDes lane (R363, R366, R373). -/
structure Lane where
  /-- Mode code of R363; OFF at reset. -/
  mode : Nat := 0
  fec : Nat := 0
  swing : Nat := 10
  pre : Nat := 2
  post : Nat := 4
  /-- PCS lock of the lane. -/
  lock : Bool := false
  /-- A trunk lane retired by lane faults (R373). -/
  retired : Bool := false
  /-- TB0 times of the lane faults in the window (R373). -/
  faults : List Nat := []
  /-- The present loss of lane lock has been counted as a fault (R373). -/
  lossCounted : Bool := false
deriving DecidableEq, Repr, Inhabited

/-- PHY binding of a lane (R374, R375). -/
structure Phy where
  bus : Nat := 0
  addr : Nat := 0
  clause : Nat := 45
  mmd : Nat := 0
  sleepReg : Nat := 0
  sleepVal : Nat := 0
  wakeVal : Nat := 0
  statusReg : Nat := 0
  statusMask : Nat := 0
  statusSleep : Nat := 0
  ackMs : Nat := 16
deriving DecidableEq, Repr, Inhabited

/-- Who asked for an MDIO transaction. -/
inductive MdioFrom where
  /-- CMD_MDIO of a mailbox. -/
  | mailbox (mb : Nat)
  /-- TC10 of a lane. -/
  | tc10 (lane : Nat)
deriving DecidableEq, Repr, Inhabited

/-- One MDIO transaction (R374). -/
structure MdioOp where
  origin : MdioFrom
  phy : Nat
  dev : Nat
  reg : Nat
  /-- Value written, or none for a read. -/
  write : Option Nat
deriving DecidableEq, Repr, Inhabited

/-- An MDIO master (R374). -/
structure Mdio where
  hz : Nat := 2500000
  busy : Option MdioOp := none
  /-- Waiting transactions, TC10 first. -/
  queue : List MdioOp := []
deriving DecidableEq, Repr, Inhabited

/-- A TC10 sleep request in progress on a lane (R375). -/
structure Tc10 where
  /-- A handshake is in progress. -/
  on : Bool := false
  /-- Mailbox of CMD_TC10, or none for sleep coordination. -/
  mb : Option Nat := none
deriving DecidableEq, Repr, Inhabited

/-- A frame being received by a MAC. -/
structure RxPart where
  /-- Its frame in the Vat, once a first cell is committed. -/
  fid : Option Nat := none
  bytes : Bytes := []
  /-- Timestamp of its start in TB0 to TB5 (R277). -/
  ts : List Nat := []
  /-- The rest is discarded: the frame was dropped already. -/
  dropped : Bool := false
deriving DecidableEq, Repr, Inhabited

/-- One B, T or S port (R365 to R373). -/
structure EthPort where
  /-- 0 DOWN, 1 TRAINING, 2 UP, 3 SLEEP, 4 RETIRED. -/
  state : Nat := 0
  /-- RATE code: 0 1 Gb/s, 1 2.5, 2 5, 3 10, 4 25, 5 50. -/
  rate : Nat := 0
  an : Bool := true
  maxFrame : Nat := 1522
  /-- ms. -/
  upHold : Nat := 10
  /-- µs. -/
  downHold : Nat := 100
  /-- MAC_ADDR as written; none is the port's reset value (R377). -/
  mac : Option Nat := none
  /-- CAUSE of CMD_PORT_STATUS. -/
  cause : Nat := 0
  /-- PARTNER_WORD. -/
  word : Nat := 0
  /-- LAST_CHANGE. -/
  lastChange : Nat := 0
  /-- TB0 times of the link faults in the window (R373). -/
  faults : List Nat := []
  /-- PCS lock. -/
  pcs : Bool := false
  /-- The last control word or base page was accepted (R368). -/
  anOk : Bool := false
  /-- Why the last word was not accepted: 4 AN_FAIL, 5 PARTNER_MISMATCH, 0 none. -/
  anWhy : Nat := 0
  localFault : Bool := false
  remoteFault : Bool := false
  /-- The port is in a TC10 sleep handshake: no copy is selected (R375). -/
  tc10 : Bool := false
  rx : Option RxPart := none
deriving DecidableEq, Repr, Inhabited

/-- A transmit SA (R383). -/
structure TxSa where
  inUse : Bool := false
  slot : Nat := 0
  nextPn : Nat := 0
  ssci : Nat := 0
  salt : Bytes := []
  /-- Key loaded into the MSEC island (R408). -/
  key : Option Bytes := none
  /-- The last PN has been used (R385). -/
  spent : Bool := false
deriving DecidableEq, Repr, Inhabited

/-- A receive SA (R386, R387). -/
structure RxSa where
  inUse : Bool := false
  slot : Nat := 0
  lowestPn : Nat := 0
  nextPn : Nat := 0
  ssci : Nat := 0
  salt : Bytes := []
  key : Option Bytes := none
deriving DecidableEq, Repr, Inhabited

/-- A receive SC (R386, R387). -/
structure RxSc where
  valid : Bool := false
  replay : Bool := true
  /-- 0 DISABLED, 1 CHECK, 2 STRICT. -/
  validate : Nat := 0
  window : Nat := 0
  sci : Nat := 0
  sa : Tbl RxSa := []
deriving DecidableEq, Repr, Inhabited

/-- MACsec of a B port (R381 to R389). -/
structure Macsec where
  en : Bool := false
  /-- KEYING: MKA. -/
  mka : Bool := true
  cipher : Nat := 3
  encrypt : Bool := true
  confOff : Nat := 0
  /-- [0] INCLUDE_SCI, [1] USE_ES, [2] USE_SCB. -/
  txFlags : Nat := 1
  /-- TX_SCI as written; none is MAC_ADDR with port identifier 1. -/
  sci : Option Nat := none
  rxUntagged : Bool := false
  unknownSci : Bool := false
  bypass : List Nat := [0, 0, 0, 0]
  an : Nat := 0
  cakSlot : Nat := 0
  sakBase : Nat := 0
  prio : Nat := 16
  ckn : Bytes := []
  tx : Tbl TxSa := []
  rx : Tbl RxSc := []
  /-- TX_STATE: 0 normal, 1 holding, 2 dropping (R385). -/
  txState : Nat := 0
  /-- MKA: 0 off, 1 searching, 2 live, 3 lost. -/
  mkaState : Nat := 0
deriving DecidableEq, Repr, Inhabited

/-- Lanes, ports, PHY management and MACsec. -/
structure Ports where
  lane : Tbl Lane := []
  eth : Tbl EthPort := []
  phy : Tbl Phy := []
  mdio : Tbl Mdio := []
  tc10 : Tbl Tc10 := []
  macsec : Tbl Macsec := []
deriving DecidableEq, Repr, Inhabited

/-- The service port's mailbox service (R379, R380, R504). -/
structure Service where
  /-- SESSION_S of the open session. -/
  session : Option Nat := none
  /-- RIGHTS of the session (R504). -/
  rights : Nat := 0
  /-- PEER. -/
  peer : Option Bytes := none
  /-- SEQ of the assembly. -/
  asmSeq : Nat := 0
  /-- Bytes assembled; none when no assembly is open. -/
  asm : Option Nat := none
  /-- Source of the assembly, and whether it carries CMD_SERVICE_AUTH. -/
  asmSrc : Bytes := []
  asmAuth : Bool := false
  /-- SEQ of the request MB4 holds. -/
  seq : Nat := 0
  /-- Service frames accepted by the MAC of port S and not yet handled, oldest first: source address and frame from
  the header on (R377). -/
  inbox : List (Bytes × Bytes) := []
deriving DecidableEq, Repr, Inhabited

end Sys2Proof.Machine
end

