-- ==== Sys2Proof/Types/Vat.lean ====
section
/-! DEFINITION. State of the Vat, the egress schedulers, policing and classification that is not part of a set
(spec/06 R181, R191, R193; spec/07; spec/08). -/

namespace Sys2Proof.Machine

/-- An item of the Vat: a cell or a descriptor (R221). -/
structure Item where
  isDesc : Bool := false
  num : Nat := 0
deriving DecidableEq, Repr, Inhabited

/-- A Badger record (CMD_VAT_BADGER). -/
structure BadgerRec where
  item : Item := {}
  doubleLink : Bool := false
  time : Nat := 0
  port : Nat := 0xFF
deriving DecidableEq, Repr, Inhabited

/-- Vat limits of a port (R207, R224). PORT_MAX is none at the port's reset value. -/
structure VatPort where
  portMax : Option Nat := none
  pfcTx : BitVec 8 := 0
  pfcRx : BitVec 8 := 0
  xoff : Nat := 256
  xon : Nat := 128
  halted : Bool := false
  /-- Priorities for which quanta 0xFFFF was the last PFC frame sent (R225). -/
  xoffSent : BitVec 8 := 0
deriving DecidableEq, Repr, Inhabited

/-- Vat limits of a queue; none is the queue's reset value (R207). -/
structure VatQueue where
  reserve : Option Nat := none
  max : Option Nat := none
  maxRes : Option Nat := none
  /-- Copies queued, head first (R217). -/
  copies : List Copy := []
deriving DecidableEq, Repr, Inhabited

/-- The Vat (spec/07). Occupancies are computed from the queues (R211 to R214). -/
structure Vat where
  /-- Number of the next frame taken in; the model's own name of a frame. -/
  nextFid : Nat := 0
  frames : Tbl VFrame := []
  queues : Tbl VatQueue := []
  ports : Tbl VatPort := []
  freeLow : Nat := 4096
  /-- FREE_MIN: fewest free cells since the last clear (R228). -/
  freeMin : Nat := 98304
  /-- EV77 may be raised (R229). -/
  freeArmed : Bool := true
  /-- Items without a holder; true when the previous pass already found none (R222). -/
  leaked : List (Item × Bool) := []
  /-- Items on their free list that also have another holder (R222). -/
  dup : List Item := []
  /-- Items marked DOUBLE_LINK (R222). -/
  marked : List Item := []
  /-- Item the Badger examines next, 0 to 163,839 (R221). -/
  badgerAt : Nat := 0
  passes : Nat := 0
  passUs : Nat := 0
  /-- TB0 time at which the running pass started. -/
  passStart : Nat := 0
  /-- Most recent first, at most 8. -/
  records : List BadgerRec := []
  /-- Pause of (trunk port, priority) by 8 x port + priority: remaining time is not measured, only whether it runs (R226). -/
  paused : Tbl Bool := []
deriving DecidableEq, Repr, Inhabited

/-- A transmission on the wire of a B or T port (R232, R244). -/
structure OnWire where
  copy : Copy := {}
  tc : Nat := 0
  /-- Wire length in bytes (R233). -/
  wire : Nat := 0
  /-- Bytes as they leave the MAC, FCS excluded. -/
  bytes : Bytes := []
  /-- It must end with an inverted FCS (R19, R220). -/
  invert : Bool := false
  /-- Counted in PREEMPTED already. -/
  preempted : Bool := false
  /-- Sent from this TB0 time. -/
  start : Nat := 0
  /-- Frame bytes sent in earlier fragments (R244). -/
  done : Nat := 0
deriving DecidableEq, Repr, Inhabited

/-- Scheduler state of one TC (R245, R247, R248). Credit and tokens are in millionths of a bit. -/
structure TcState where
  credit : Int := 0
  /-- Tokens below the full bucket. -/
  spent : Nat := 0
  s : Nat := 0
  f : Nat := 0
  /-- Input served next in round robin (R235). -/
  rr : Nat := 0
deriving DecidableEq, Repr, Inhabited

/-- Preemption settings and state (R243). -/
structure Preempt where
  en : Bool := false
  verifyEn : Bool := true
  express : BitVec 8 := 0xFF
  addFrag : Nat := 0
  verifyTime : Nat := 10
  /-- 0 DISABLED, 1 VERIFYING, 2 ACTIVE, 3 FAILED. -/
  state : Nat := 0
  attempts : Nat := 0
deriving DecidableEq, Repr, Inhabited

/-- Running state of a B or T port's scheduler (R251). -/
structure EgrPort where
  tc : Tbl TcState := []
  portSpent : Nat := 0
  /-- V of groups 0 to 7. -/
  v : Tbl Nat := []
  /-- A gate list runs. -/
  running : Bool := false
  /-- Gate state now applied. -/
  states : Nat := 0xFF
  entry : Nat := 0
  cycleStart : Nat := 0
  /-- HOLD is in effect (R239). -/
  hold : Bool := false
  preempt : Preempt := {}
  /-- Copy on the wire: express side, or the only side. -/
  tx : Option OnWire := none
  /-- Preemptable copy on the wire or interrupted (R244). -/
  txPre : Option OnWire := none
  /-- The preemptable copy is interrupted. -/
  interrupted : Bool := false
deriving DecidableEq, Repr, Inhabited

/-- Running state of a stream gate (R257). -/
structure SGateState where
  latched : Bool := false
  octets : Nat := 0
  /-- Entry and cycle start for which the octets were counted. -/
  entry : Nat := 0
  cycleStart : Nat := 0
deriving DecidableEq, Repr, Inhabited

/-- Running state of a meter: what is missing from Tc and Te, in millionths of a bit (R258, R259). -/
structure MeterState where
  cSpent : Nat := 0
  eSpent : Nat := 0
  last : Nat := 0
deriving DecidableEq, Repr, Inhabited

/-- Running state of an anomaly monitor (R189, R191). -/
structure MonState where
  prev : Option Nat := none
  window : Nat := 0
  count : Nat := 0
deriving DecidableEq, Repr, Inhabited

/-- Egress, policing and classification state that belongs to the device. -/
structure Flow where
  egr : Tbl EgrPort := []
  /-- Filters blocked under BLOCK_OVERSIZE (R256). -/
  blocked : Tbl Bool := []
  sgates : Tbl SGateState := []
  meters : Tbl MeterState := []
  monitors : Tbl MonState := []
  /-- Frames counted by the Fox samplers, by 2 x port + (1 for egress) (R193). -/
  foxCount : Tbl Nat := []
  foxSeq : Tbl Nat := []
  /-- AGE_S; 0 is off (R181). -/
  ageS : Nat := 300
  /-- Table words with an uncorrectable error, as (set B, table, index) (R196). -/
  badWords : List (Bool × Nat × Nat) := []
deriving DecidableEq, Repr, Inhabited

end Sys2Proof.Machine
end

