-- ==== Sys2Proof/Types/Flash.lean ====
section
/-! DEFINITION. What the xSPI flash holds (spec/13 R409, spec/11 R358, spec/14 R435, spec/16 R495 to R498): it survives
everything. The contents stand here as they read after decryption, and the two copies of the device record in each bank
as the one record that the last complete save left (log entry 41). -/

namespace Sys2Proof.Machine

/-- CMD_UPD_CHAIN. -/
structure Chain where
  upstream : Nat := 0xFF
  downstream : BitVec 32 := 0
  coord : Bool := false
  tc : Nat := 0
  genSlot : Nat := 0
  verSlot : Nat := 0
deriving DecidableEq, Repr, Inhabited

/-- The resume record (R435). It is made from the parts of State it names; only their settings are taken back. -/
structure Resume where
  active : CfgSet := {}
  ports : Ports := {}
  edge : Edge := {}
  vat : Vat := {}
  flow : Flow := {}
  time : TimeUnit := {}
  sleep : Sleep := {}
  gw : Gateway := {}
  pair : PairCfg := {}
  drainMs : Nat := 50
  moleEn : Bool := true
  moleMask : BitVec 16 := 0xFFFF
  moleUs : Nat := 100
  log2 : Nat := 14
  periodMs : Nat := 0
  /-- Notice groups of MB0 to MB4 and EV_EN_SPI. -/
  groups : List (BitVec 16) := []
  enSpi : Tbl (BitVec 32) := []
  causeEn : Tbl (BitVec 32) := []
deriving DecidableEq, Repr, Inhabited

/-- The SETTINGS area of a bank (R496): what the model keeps of it (log entry 42). -/
structure Settings where
  resume : Option Resume := none
  /-- The stay-awake log. -/
  stay : Tbl StayEntry := []
  chain : Chain := {}
  /-- TRIAL_S and DEVICE_MASK of the ARM under which the bank was activated. -/
  trialS : Nat := 120
  mask : Nat := 0
deriving DecidableEq, Repr, Inhabited

/-- A flash bank (R496, R497). -/
structure FlashBank where
  /-- 0 EMPTY, 1 RECEIVING, 2 STAGED, 3 TRIAL, 4 GOOD, 5 OLD. -/
  state : Nat := 0
  pkg : Nat := 0
  version : Nat := 0
  seq : Nat := 0
  attempts : Nat := 0
  /-- Activation kind: 0 SWAP, 1 RESTART. -/
  kind : Nat := 0
  /-- A trial of this bank ended in fallback: 0 no, 1 not yet reported, 2 reported (R509). -/
  fell : Nat := 0
  manifest : Bytes := []
  /-- Leaf tables by part number. -/
  leaves : Tbl Bytes := []
  /-- Blocks of the device's own parts, by 65,536 x KIND + block. -/
  blocks : Tbl Bytes := []
  settings : Settings := {}
deriving DecidableEq, Repr, Inhabited

/-- The flash. -/
structure Flash where
  /-- Wrapped copies of PERSIST slots, by slot (R409). -/
  persist : Tbl Bytes := []
  bank0 : FlashBank := {}
  bank1 : FlashBank := {}
  /-- The device record: SAVE_SEQ, freshness counters, their reservations, FLOOR, LAST_TOKEN_SEQ (R498). -/
  saveSeq : Nat := 0
  fv : Tbl Nat := []
  resv : Tbl Nat := []
  floor : Nat := 0
  tokenSeq : Nat := 0
  /-- Own control sequence of chain frames, and the last SEQ accepted by sender plus one (R502; log entry 42). -/
  ctlSeq : Nat := 0
  lastSeq : Tbl Nat := []
deriving DecidableEq, Repr, Inhabited

end Sys2Proof.Machine
end

