-- ==== Sys2Proof/Types/Host.lean ====
section
/-! DEFINITION. State of the host attachments, the bridges, the host rings, the mailboxes, the events and the counters
(spec/03 and spec/04). Each field's default is its reset value. -/

namespace Sys2Proof.Machine

/-- One host ring (R73, R74, R84). The same record serves RX and TX rings. -/
structure Ring where
  /-- RING_BASE_HI and RING_BASE_LO; a multiple of 64. -/
  base : Nat := 0
  /-- RING_SIZE.LOG2_ENTRIES. -/
  log2 : Nat := 4
  /-- RING_CTRL.ENABLE. -/
  enable : Bool := false
  /-- RING_CTRL.OWNER: the MB1 host. -/
  owner1 : Bool := false
  /-- RING_TAIL. -/
  tail : Nat := 0
  /-- RING_HEAD. -/
  head : Nat := 0
  /-- RING_MOD.MOD_COUNT. -/
  modCount : Nat := 1
  /-- RING_MOD.MOD_TIME, µs. -/
  modTime : Nat := 0
  /-- RX_PARAM.BUF_SIZE (RX rings). -/
  bufSize : Nat := 2048
  /-- RX_PARAM.TS_TB (RX rings). -/
  tsTb : Nat := 0
  /-- TX_PARAM.TS_RING (TX rings). -/
  tsRing : Nat := 0
  /-- TX_PARAM.TS_EN (TX rings). -/
  tsEn : Bool := false
  /-- RING_STATUS: DESC_ERR, NO_BUFFER, DMA_ERR. -/
  status : BitVec 3 := 0
  /-- Completions not yet signalled (R84). -/
  unsignalled : Nat := 0
  /-- A NO_BUFFER episode is open (R78). -/
  noBufEpisode : Bool := false
deriving DecidableEq, Repr, Inhabited

/-- A timestamp record waiting for a posted buffer (R82). -/
structure TsRecord where
  ring : Nat
  port : Nat
  tb : Nat
  stamp : Nat
  cookie : Nat
  txRing : Nat
  /-- Generation stamped on the frame. -/
  gen : Nat
deriving DecidableEq, Repr, Inhabited

/-- One MSI-X table entry (R65). -/
structure MsixEntry where
  addr : Nat := 0
  addrHi : Nat := 0
  data : Nat := 0
  /-- Vector Control: Mask. -/
  mask : Bool := true
deriving DecidableEq, Repr, Inhabited

/-- A read held by a bridge (R93). `data` is none while the fetch is in flight. -/
structure HeldRead where
  /-- 0 SPI target, 1 pair outbound, 2 pair inbound, 3 slow-island crossing. -/
  bridge : Nat
  /-- Initiator code (R60). -/
  init : Nat
  /-- The opcode of R87 (READ 1, LOCK_READ 3, UNLOCK_WRITE 4); 0 for a PCIe read, 16 to 18 for a PCIe FetchAdd, Swap or CAS. -/
  op : Nat
  addr : Nat
  size : Nat
  /-- Operands of an AtomicOp, or the data of an UNLOCK_WRITE. -/
  arg : Bytes
  /-- The data fetched, or none. -/
  data : Option Bytes
  /-- SPI status the held operation answers with when it is complete. -/
  status : Nat
  /-- A PCIe requester has already been answered with Completer Abort (R68). -/
  answered : Bool
  /-- Earlier posted writes of the initiator to the same island that must be delivered first (R92). -/
  ahead : Nat := 0
  /-- The request has left on the pair link. -/
  sent : Bool := false
deriving DecidableEq, Repr, Inhabited

/-- A posted write waiting in a bridge (R92). -/
structure PostedWrite where
  bridge : Nat
  init : Nat
  addr : Nat
  data : Bytes
deriving DecidableEq, Repr, Inhabited

/-- One entry of the discarded-read log (R94). -/
structure DiscardEntry where
  addr : Nat := 0
  init : Nat := 0
  bridge : Nat := 0
  valid : Bool := false
  size : Nat := 0
  pop : Bool := false
  data : Bytes := []
  time : Nat := 0
deriving DecidableEq, Repr, Inhabited

/-- ERR_LAST (spec/03). -/
structure ErrLast where
  addr : Nat := 0
  init : Nat := 0
  w2 : Bool := false
  kind : Nat := 0
deriving DecidableEq, Repr, Inhabited

/-- A response being driven on MISO until SPI_CS_N rises (R89). -/
structure SpiLive where
  /-- The response is a data response of a held read. -/
  read : Option HeldRead
  resp : Bytes
deriving DecidableEq, Repr, Inhabited

/-- The host attachments, bridges and rings (spec/03). -/
structure HostIf where
  /-- HOST_MAP.SEC_RID; the endpoint's reset by PCIE_PERST_N clears it. -/
  secRid : Nat := 0
  /-- HOST_MAP.SEC_EN. -/
  secEn : Bool := false
  /-- MSI-X table. -/
  msix : Tbl MsixEntry := []
  /-- SEM0 to SEM63. -/
  sem : Tbl (BitVec 64) := []
  /-- Holder of the semaphore lock, an initiator code (R100). -/
  lock : Option Nat := none
  /-- W0 offset of the access that took the lock. -/
  lockAt : Nat := 0
  /-- RX rings. -/
  rx : Tbl Ring := []
  /-- TX rings. -/
  tx : Tbl Ring := []
  /-- TX ring served next (R83). -/
  txNext : Nat := 0
  /-- RX ring served next (R252). -/
  rxNext : Nat := 0
  /-- Timestamp records waiting (R82). -/
  tsWait : List TsRecord := []
  /-- Reads held, oldest first (R93). -/
  held : List HeldRead := []
  /-- Posted writes waiting, oldest first (R92). -/
  posted : List PostedWrite := []
  /-- Data of the last collected SPI read (R89). -/
  spiLast : Option Bytes := none
  /-- SPI response on the wire (R89). -/
  spiLive : Option SpiLive := none
  /-- BRIDGE_STATUS[6:0]. -/
  status : BitVec 7 := 0
  /-- BRIDGE_STATUS.LOG_NEXT. -/
  logNext : Nat := 0
  /-- Discarded-read log, entries 0 to 7. -/
  log : Tbl DiscardEntry := []
  /-- ERR_LAST. -/
  errLast : ErrLast := {}
  /-- The eight bridge counters, by (offset - 0x03_0010) / 4. -/
  counters : Tbl Nat := []
  /-- A non-fatal Completer Abort was reported under AER (R99). -/
  aer : Bool := false
deriving DecidableEq, Repr, Inhabited

/-- The request a mailbox holds while its STATE is BUSY (R106, R107). -/
structure Req where
  mb : Nat
  cmd : Nat
  tag : Nat
  target : Nat
  params : Bytes
deriving DecidableEq, Repr, Inhabited

/-- STATE of a response header (R106). -/
inductive MbState where
  | empty | busy | done
deriving DecidableEq, Repr, Inhabited

/-- One mailbox (R104 to R116). -/
structure Mailbox where
  /-- The request area, offsets 0 to 0xDFF. -/
  req : Tbl Byte := []
  /-- STATE. -/
  state : MbState := .empty
  /-- STATUS while DONE. -/
  status : Nat := 0
  /-- TAG of the command in progress or done. -/
  tag : Nat := 0
  /-- GENERATION while DONE. -/
  gen : Nat := 0
  /-- LENGTH while DONE. -/
  length : Nat := 0
  /-- The result bytes, offsets 0x10 to 0xFFF of the response area. -/
  result : Tbl Byte := []
  /-- The request being served. -/
  cur : Option Req := none
  /-- MB_NOTICE.WR. -/
  noticeWr : Nat := 0
  /-- MB_NOTICE.RD. -/
  noticeRd : Nat := 0
  /-- The notice ring, 256 bytes. -/
  notices : Tbl Byte := []
  /-- SEQ of the next notice. -/
  noticeSeq : Nat := 0
  /-- The next notice written carries LOST. -/
  lost : Bool := false
  /-- Notice groups subscribed (R116). -/
  groups : BitVec 16 := 0
  /-- MB_COUNTS. -/
  refused : Nat := 0
  reqWrBusy : Nat := 0
  noticeLost : Nat := 0
deriving DecidableEq, Repr, Inhabited

/-- A counter snapshot (R131). -/
structure Snapshot where
  seq : Nat := 0
  gen : Nat := 0
  time : Nat := 0
  values : Tbl Nat := []
deriving DecidableEq, Repr, Inhabited

/-- Mailboxes, events, counters and snapshots (spec/04). -/
structure Ctl where
  /-- MB0 to MB4; MB0 subscribes to every group from boot (R116). -/
  mb : Tbl Mailbox := [(0, { groups := 0xFFFF })]
  /-- Mailboxes whose request is BUSY, in doorbell order (R109). -/
  order : List Nat := []
  /-- EV_CAUSE0 to EV_CAUSE127. -/
  cause : Tbl (BitVec 32) := []
  /-- EV_CAUSE_EN0 to EV_CAUSE_EN127; an event not listed has every bit enabled. -/
  causeEn : Tbl (BitVec 32) := []
  /-- EV_EN_SPI0 to EV_EN_SPI3. -/
  enSpi : Tbl (BitVec 32) := []
  /-- Live counters, by 512 x slot + index (R130). -/
  counters : Tbl Nat := []
  /-- Entry counters: (table number, index) as 2^32 x table + index (R199, R263, R360, R489). -/
  entryCounters : Tbl Nat := []
  /-- The snapshot the region shows (R131). -/
  snap : Snapshot := {}
  /-- A snapshot latched and not yet visible. -/
  snapNext : Option Snapshot := none
  /-- SNAP_HEADER.PERIOD_MS. -/
  periodMs : Nat := 0
deriving DecidableEq, Repr, Inhabited

end Sys2Proof.Machine
end

