-- ==== Sys2Proof/Types/Out.lean ====
section
/-! DEFINITION. What the device sends out: the model's own list of outputs (log entry 4). -/

namespace Sys2Proof.Machine

/-- One output of the device. Every constructor names the rule that sends it. -/
inductive Output where
  /-- MSI-X message of a vector: address and data (R65). -/
  | msix (vector addr addrHi data : Nat)
  /-- Completion of a PCIe read or AtomicOp with data; `ep` marks it poisoned (R68, R66, R532). -/
  | pcieData (data : Bytes) (ep : Bool)
  /-- Completer Abort (R66, R68, R98, R99). -/
  | pcieAbort
  /-- DMA write of a ring to host memory (R76, R79, R82). -/
  | dma (addr : Nat) (data : Bytes)
  /-- MISO bytes of an SPI transaction: STATUS, data and CRC-8 (R86). -/
  | spi (resp : Bytes)
  /-- A frame that leaves the MAC of a B, T or S port; `invert` marks an inverted FCS (R19). -/
  | eth (port : Nat) (bytes : Bytes) (invert : Bool)
  /-- A fragment of a preempted frame leaves a port (R244). -/
  | fragment (port : Nat)
  /-- A PFC frame of a trunk port: class enable vector and quanta of the priority (R225). -/
  | pfc (port prio quanta : Nat)
  /-- A frame that an edge controller sends on its bus, as an edge frame or Ethernet frame (R307 to R317). -/
  | bus (chan : Nat) (bytes : Bytes)
  /-- LIN header of an identifier sent by a master (R311). -/
  | linHeader (chan ident : Nat)
  /-- A transceiver mode chain frame: outbound nibbles (R321). -/
  | tmc (cluster : Nat) (bits : Nat)
  /-- A frame handed to Vintner from queue 673 (R252). -/
  | toVintner (bytes : Bytes)
  /-- A frame sent on the pair link: class and bytes (R462). -/
  | pair (cls : Nat) (bytes : Bytes)
  /-- A pulse on PPS_OUT k begins or ends (R283). -/
  | pps (k : Nat) (level : Bool)
  /-- A service frame to the peer of port S: type, sequence, bytes (R379). -/
  | service (kind seq : Nat) (bytes : Bytes)
  /-- An MDIO transaction of a master: bus, PHY, device, register, write value (R374). -/
  | mdio (bus phy dev reg : Nat) (write : Option Nat)
  /-- PCIE_WAKE_N asserted or released (R447). -/
  | pcieWake (asserted : Bool)
  /-- A burned fuse: purpose and value (R396, R426, R524). -/
  | fuse (kind value : Nat)
  /-- A wake pulse or wake frame towards a PHY or bus (R376, R454). -/
  | wakeOut (port : Nat)
deriving DecidableEq, Repr, Inhabited

end Sys2Proof.Machine
end

