-- ==== Sys2Proof/Types/Parse.lean ====
section
/-! DEFINITION. State of the parser: Picker threads, walkers and their order (spec/05). -/

namespace Sys2Proof.Machine

/-- The state of a parse: registers, flags, cursor, stack, key, metadata, logical end (R133). -/
structure Thread where
  /-- Frame parsed. -/
  fid : Nat := 0
  pc : Nat := 0
  /-- g0 to g15. -/
  g : Vector (BitVec 16) 16 := Vector.replicate 16 0
  z : Bool := false
  c : Bool := false
  cursor : Nat := 0
  /-- Header stack, first entry first. -/
  stack : List (Nat × Nat) := []
  /-- k0 to k47. -/
  key : Bytes := List.replicate 48 0
  md : BitVec 64 := 0
  /-- Logical end once CHKLEN has moved it; none while it is the frame length (R134, R146). -/
  lend : Option Nat := none
  /-- HIGH_READ. -/
  high : Option Nat := none
  /-- Instructions executed (R136). -/
  count : Nat := 0
  /-- Trellis nodes visited (R150). -/
  nodes : Nat := 0
  /-- Trellis node to visit next. -/
  node : Nat := 0
  /-- The thread waits for this many bytes of the frame, or for its end (R135). -/
  stalled : Option Nat := none
deriving DecidableEq, Repr, Inhabited

/-- A Picker or walker (R160, R161). -/
structure ParseUnit where
  /-- 0 in service, 1 retired, 2 isolated for test. -/
  state : Nat := 0
  /-- Faults detected since boot. -/
  faults : Nat := 0
  /-- TB0 time of the last fault in the unit's history (R161). -/
  lastFault : Option Nat := none
  /-- The parse in progress. -/
  job : Option Thread := none
deriving DecidableEq, Repr, Inhabited

/-- The parser (spec/05). -/
structure Parser where
  /-- Pickers 0 to 47. -/
  pickers : Tbl ParseUnit := []
  /-- Walkers 0 to 7. -/
  walkers : Tbl ParseUnit := []
  /-- Frames whose first cell is committed and that wait for a Picker, in commit order (R132). -/
  waiting : List Nat := []
  /-- Parses waiting for a walker, in DEFER order (R152). -/
  deferred : List Thread := []
  /-- Frames in thread-allocation order whose result has not left the parser (R137). -/
  order : List Nat := []
  /-- Results of ended parses, by frame (R137). -/
  results : Tbl ParseResult := []
  /-- Program-store words with an uncorrectable error, as (set B, kind, address): kind 0 instruction, 1 table entry,
  2 node (R162). -/
  badWords : List (Bool × Nat × Nat) := []
  /-- BELOW_CAPACITY has been raised and still holds (R163). -/
  below : Bool := false
deriving DecidableEq, Repr, Inhabited

end Sys2Proof.Machine
end

