-- ==== Sys2Proof/Types/Power.lean ====
section
/-! DEFINITION. State of Den's reset, supply, clock and temperature watch, of the boot registers and of the pins
(spec/02, R33 to R57; spec/04, R122 to R126; spec/00, R8 and R9). Each field's default is its reset value. -/

namespace Sys2Proof.Machine

/-- Why Den holds the rest of the device in reset (R44 to R51, R57). -/
inductive Hold where
  /-- Not held: the device runs. -/
  | none
  /-- PORST_N is low (R48). -/
  | porst
  /-- A start waits for its rails (R44). -/
  | rails
  /-- A rail missed its window; only PORST_N starts again (R45). -/
  | supplyLate
  /-- A switched rail browned out (R47). -/
  | brownOut
  /-- The 25 MHz reference is faulty (R51). -/
  | clockLoss
  /-- Tj was at or above 140 °C for 1 ms (R57). -/
  | overTemp
deriving DecidableEq, Repr, Inhabited

/-- Where a start of the device stands (STAGE of BOOT_STATUS beside the waits before BIST, R44, R122, R515). -/
inductive Phase where
  /-- Nothing runs but Den. -/
  | off
  /-- Rails are good and the PLLs lock (t2 to t2 + 2 ms, R44). -/
  | pllLock
  /-- Power-up BIST runs (R515). -/
  | bist
  /-- The boot ROM loads an image (R122). -/
  | rom
  /-- The boot ROM waits for a host load (R124). -/
  | loadWait
  /-- Diesh starts (R122). -/
  | dieshInit
  /-- STAGE DONE (R123). -/
  | done
deriving DecidableEq, Repr, Inhabited

/-- Den's view of the pins, rails, clocks and temperature, and its reset state (R33 to R57). -/
structure Power where
  /-- PORST_N level (R48); low right after VDD_AON comes up (R44). -/
  porst : Bool := false
  /-- WARM_N level (R49); pulled up. -/
  warmN : Bool := true
  /-- Why the rest of the device is held in reset. -/
  hold : Hold := .porst
  /-- Where the start stands. -/
  phase : Phase := .off
  /-- Rails in regulation, in the order of BOOT_CAUSE.RAIL: VDD_CORE, VDD_SRAM, VDDA_SD, VDDH_SD, VDD_18, VDD_33,
  VDD_AON (R41, R44). -/
  railGood : BitVec 7 := 0x40
  /-- The 25 MHz reference is good (R51). -/
  refGood : Bool := true
  /-- The 32.768 kHz crystal runs (R51). -/
  xtal32 : Bool := true
  /-- REFCLK_BB is present (R51). -/
  refBb : Bool := true
  /-- REFCLK_TRK is present (R51). -/
  refTrk : Bool := true
  /-- PCIE_REFCLK is present (R51). -/
  refPcie : Bool := true
  /-- Tj in °C (R57). -/
  tj : Int := 25
  /-- EV4 WARN is armed (R57). -/
  warnArmed : Bool := true
  /-- EV4 CRIT is armed (R57). -/
  critArmed : Bool := true
  /-- Levels on BOOT2 to BOOT0 (R38). -/
  bootPins : BitVec 3 := 0
  /-- BOOT[2:0] as latched at PORST_N (R38). -/
  strap : BitVec 3 := 0
  /-- FAULT_N is asserted (R33, R123). -/
  faultN : Bool := false
  /-- READY is high (R33, R122). -/
  ready : Bool := false
  /-- A warm reset is due 100 µs after CMD_DEVICE_RESET (R126). -/
  warmDue : Bool := false
  /-- PCIE_PERST_N is low: the endpoint is in reset (R67). -/
  perst : Bool := true
  /-- VSEL[1:0] as driven on GPIO15 and GPIO14 (R42). -/
  vsel : BitVec 2 := 0
  /-- PCIE_WAKE_N is asserted (R33, R447). -/
  wakeN : Bool := false
  /-- Levels on GPIO0 to GPIO15 where they are inputs (R33). -/
  gpio : BitVec 16 := 0
deriving DecidableEq, Repr, Inhabited

/-- BOOT_STATUS and BOOT_CAUSE (spec/04), FWREV (R8, R9). -/
structure Boot where
  /-- BOOT_STATUS.STAGE. -/
  stage : Nat := 0
  /-- BOOT_STATUS.BANK. -/
  bank : Nat := 0
  /-- BOOT_STATUS.TRIAL. -/
  trial : Bool := false
  /-- The boot ROM has found a flash bank to boot (R497). -/
  found : Bool := false
  /-- FWREV that the verified Diesh will write (R9). -/
  rev : BitVec 32 := 0
  /-- BOOT_STATUS.FAIL_CODE. -/
  failCode : Nat := 0
  /-- BOOT_STATUS.BOOT_COUNT, saturating at 255. -/
  count : Nat := 0
  /-- BOOT_CAUSE[7:0]. -/
  cause : BitVec 8 := 0
  /-- BOOT_CAUSE.RAIL, bits 14 to 8. -/
  rail : BitVec 7 := 0
  /-- FWREV (R9). -/
  fwrev : BitVec 32 := 0
  /-- The image loaded and verified is to start with the empty configuration (R124). -/
  emptyCfg : Bool := false
  /-- Chunks of a host load assembled so far, as (offset, length) (R124). -/
  chunks : List (Nat × Nat) := []
deriving DecidableEq, Repr, Inhabited

end Sys2Proof.Machine
end

