-- ==== Sys2Proof/Types/Update.lean ====
section
/-! DEFINITION. State of field update (spec/16). Each field's default is its reset value. -/

namespace Sys2Proof.Machine

/-- What the coordinator knows of a device (CMD_UPD_VEHICLE, R510). -/
structure DevReport where
  state : Nat := 0
  fellBack : Bool := false
  flags : Nat := 0
  remain : Nat := 0
  fwrev : Nat := 0
  /-- TB0 [31:0] of the last STATUS. -/
  time : Nat := 0
  seen : Bool := false
deriving DecidableEq, Repr, Inhabited

/-- Bytes of the manifest or of a block that arrive in pieces: ranges held as (offset, length) and the bytes. -/
structure Assembly where
  mem : Tbl Byte := []
  got : List (Nat × Nat) := []
deriving DecidableEq, Repr, Inhabited

/-- A verified piece that waits for its downstream acknowledgements (R501). -/
structure RelayItem where
  /-- 0xFF for the manifest. -/
  part : Nat
  block : Nat
  data : Bytes
  /-- DOWNSTREAM ports that have not acknowledged it. -/
  ports : List Nat
  /-- Ports to which it has been sent, with the number of sendings. -/
  sent : List (Nat × Nat) := []
deriving DecidableEq, Repr, Inhabited

/-- Field update. -/
structure Update where
  /-- CMD_UPD_CHAIN. -/
  chain : Chain := {}
  /-- 0 IDLE, 1 RECEIVING, 2 READY, 3 ARMED, 4 TRIAL, 5 TRIAL_OK, 6 FAILED. -/
  state : Nat := 0
  fellBack : Bool := false
  /-- KIND of the activation: 1 RESTART. -/
  restart : Bool := false
  /-- The manifest being assembled, and the one in force. -/
  draft : Assembly := {}
  manifest : Bytes := []
  /-- The own device id is not in the table: the package is only relayed (R494). -/
  relay : Bool := false
  /-- The package came through MB4: it is for this device alone (R503). -/
  solo : Bool := false
  /-- Verified leaf tables by part. -/
  leaves : Tbl Bytes := []
  /-- Blocks being assembled, by 65,536 x part + block. -/
  asm : Tbl Assembly := []
  /-- Blocks verified, by 65,536 x part + block; own parts copied from the running bank. -/
  have_ : List Nat := []
  copied : List Nat := []
  /-- Verified pieces in the relay bank, in forwarding order (R501). -/
  queue : List RelayItem := []
  /-- DOWNSTREAM ports that failed (R501). -/
  failed : List Nat := []
  /-- Armed activation time, TRIAL_S and DEVICE_MASK of the accepted ARM (R505). -/
  t : Nat := 0
  trialS : Nat := 120
  mask : Nat := 0
  /-- The timed swap of a SWAP activation waits for the shadow to be READY (R506). -/
  loadDue : Bool := false
  /-- A fallback of a SWAP activation waits for the shadow to be READY (R509). -/
  fallDue : Bool := false
  /-- TB0 at which the trial window started (R508). -/
  trialFrom : Nat := 0
  /-- Coordinator: reports by device id. -/
  devs : Tbl DevReport := []
  /-- Coordinator: T, TRIAL_S, DEVICE_MASK of the ARM sent, and devices that have not acknowledged it. -/
  armT : Nat := 0
  armS : Nat := 120
  armMask : Nat := 0
  armWait : List Nat := []
  /-- Coordinator: CONFIRM was accepted, and the devices that have not acknowledged it (R510). -/
  confirming : Bool := false
  confWait : List Nat := []
deriving DecidableEq, Repr, Inhabited

end Sys2Proof.Machine
end

