-- ==== Sys2Proof/Machine/State.lean ====
section
/-! DEFINITION. The state of Neraz as plain data, its value at reset, and the reasons a step can stop. -/

namespace Sys2Proof.Machine

/-- The whole state of the block, with the queue of commands that wait (first in, first out). -/
structure State where
  power : Power := {}
  boot : Boot := {}
  host : HostIf := {}
  ctl : Ctl := {}
  sets : Sets := {}
  parse : Parser := {}
  vat : Vat := {}
  flow : Flow := {}
  time : TimeUnit := {}
  edge : Edge := {}
  ports : Ports := {}
  svc : Service := {}
  cellar : Cellar := {}
  press : Press := {}
  gw : Gateway := {}
  pair : Pair := {}
  sleep : Sleep := {}
  test : Test := {}
  alarms : Alarms := {}
  otp : Otp := {}
  flash : Flash := {}
  upd : Update := {}
  /-- Outputs, newest first (log entry 4). -/
  out : List Output := []
  /-- Free values taken so far: the argument of the opaque constants of Config (log entry 7). -/
  fresh : Nat := 0
  /-- Commands waiting, first in, first out. -/
  pending : List Instr := []
deriving DecidableEq, Repr, Inhabited

/-- Why a step stops without a next state. -/
inductive Fault where
  /-- Strap code 111 in life-cycle state BLANK starts manufacturing test, of which the spec gives no effect (R39).
  Raised by PORST_N_RELEASE alone. Safe: the model stops where the device goes on. -/
  | manufacturingTest
deriving DecidableEq, Repr

/-- Why a command has no meaning in the model. -/
inductive Refusal where
  /-- The command of this mnemonic has no meaning yet. Safe. -/
  | notModelled (mnemonic : String)
deriving DecidableEq, Repr

/-- The machine right after the power-on reset of Den, with PORST_N low (R33, R44; log entries 1 and 2). -/
def State.reset : State := {}

end Sys2Proof.Machine
end

