-- ==== Sys2Proof/Machine/Ops.lean ====
section
/-! DEFINITION. The operations that every family of commands shares: location codes, counters, events, trace records,
alarms, notices, time bases, configuration sets, mailbox responses. -/

namespace Sys2Proof.Machine

/-- What a meaning answers. -/
abbrev Res := Host.Outcome State Fault Refusal

/-- Device id of this device (R3). -/
def devId : Nat := Config.deviceIdRaw.toNat

/-- Cluster of a port (R24); 15 for no port. -/
def clusterOf (p : Nat) : Nat :=
  if p < 4 then 0 else if p < 8 then 1 else if p < 32 then 2 + (p - 8) / 4
  else if p < 128 then 8 + (p - 32) / 16 else if p < 134 then 14
  else if 136 ≤ p ∧ p < 168 then 14 else 15

/-- No level-1 index (R4). -/
def noIdx : Nat := 0x3FFF

/-- Location code (R3). -/
def locCode (dev cluster port idx : Nat) : Nat :=
  dev * 0x4000000 + cluster * 0x400000 + port * 0x4000 + idx

/-- Location code of a port of this device, with a level-1 index (R5: an index above 16,382 is not given). -/
def locPort (p idx : Nat) : Nat := locCode devId (clusterOf p) p (if idx < noIdx then idx else noIdx)

/-- Device-wide location code with a level-1 index. -/
def locDevIdx (idx : Nat) : Nat := locCode devId 15 0xFF (if idx < noIdx then idx else noIdx)

/-- Device-wide location code. -/
def locDev : Nat := locDevIdx noIdx

/-- Whether a number names a port (R6, R7). -/
def isPort (p : Nat) : Bool := decide (p ≤ 133) || (decide (136 ≤ p) && decide (p ≤ 167))

/-! ### Counters (R130) -/

/-- Largest value of a 64-bit counter. -/
def max64 : Nat := 0xFFFFFFFFFFFFFFFF

def max32 : Nat := 0xFFFFFFFF

/-- A saturating sum. -/
def satAdd (m a b : Nat) : Nat := if m < a + b then m else a + b

/-- Add `n` to counter `i` of slot `p`. -/
def countN (p i n : Nat) (s : State) : State :=
  let k := 512 * p + i
  { s with ctl := { s.ctl with counters := Tbl.set s.ctl.counters k (satAdd max64 (Tbl.get s.ctl.counters k 0) n) 0 } }

/-- Count one on counter `i` of slot `p`. -/
def count (p i : Nat) (s : State) : State := countN p i 1 s

/-- The live value of counter `i` of slot `p`. -/
def counter (p i : Nat) (s : State) : Nat :=
  if p = 255 ∧ i = 102 then s.vat.freeMin else Tbl.get s.ctl.counters (512 * p + i) 0

/-- Raise a high-water counter to `v`. -/
def countMax (p i v : Nat) (s : State) : State :=
  if counter p i s < v then
    { s with ctl := { s.ctl with counters := Tbl.set s.ctl.counters (512 * p + i) v 0 } }
  else s

/-- Key of an entry counter. -/
def entryKey (table idx : Nat) : Nat := table * 4294967296 + idx

/-- Count one on an entry counter. -/
def countEntry (table idx : Nat) (s : State) : State :=
  let k := entryKey table idx
  { s with ctl := { s.ctl with
      entryCounters := Tbl.set s.ctl.entryCounters k (satAdd max64 (Tbl.get s.ctl.entryCounters k 0) 1) 0 } }

/-- The value of an entry counter. -/
def entryCounter (table idx : Nat) (s : State) : Nat := Tbl.get s.ctl.entryCounters (entryKey table idx) 0

/-- Clear an entry counter. -/
def clearEntry (table idx : Nat) (s : State) : State :=
  { s with ctl := { s.ctl with entryCounters := Tbl.set s.ctl.entryCounters (entryKey table idx) 0 0 } }

/-! ### Outputs and free values -/

/-- Send an output. -/
def emit (o : Output) (s : State) : State := { s with out := o :: s.out }

/-- Take a free value's argument. -/
def takeFresh (s : State) : Nat × State := (s.fresh, { s with fresh := s.fresh + 1 })

/-! ### Events (R65, R127) -/

def causeOf (ev : Nat) (s : State) : BitVec 32 := Tbl.get s.ctl.cause ev 0

def causeEnOf (ev : Nat) (s : State) : BitVec 32 := Tbl.get s.ctl.causeEn ev 0xFFFFFFFF

/-- EVn is pending: an enabled cause bit is set. -/
def evPending (ev : Nat) (s : State) : Bool := (causeOf ev s &&& causeEnOf ev s) != 0

def msixEntry (v : Nat) (s : State) : MsixEntry := Tbl.get s.host.msix v {}

/-- Send the message of vector `v` (R65). -/
def msixSend (v : Nat) (s : State) : State :=
  let e := msixEntry v s
  emit (.msix v e.addr e.addrHi e.data) s

/-- What follows a change of cause or enable bits: a message when EVn goes from not pending to pending, unmasked. -/
def evChanged (ev : Nat) (before : Bool) (s : State) : State :=
  if !before && evPending ev s && !(msixEntry ev s).mask then msixSend ev s else s

/-- Write the cause register of an event. -/
def setCause (ev : Nat) (v : BitVec 32) (s : State) : State :=
  evChanged ev (evPending ev s) { s with ctl := { s.ctl with cause := Tbl.set s.ctl.cause ev v 0 } }

/-- Write the cause enables of an event. -/
def setCauseEn (ev : Nat) (v : BitVec 32) (s : State) : State :=
  evChanged ev (evPending ev s)
    { s with ctl := { s.ctl with causeEn := Tbl.set s.ctl.causeEn ev v 0xFFFFFFFF } }

/-- Set cause bits (a mask) of an event (R127). -/
def raiseMask (ev : Nat) (m : BitVec 32) (s : State) : State := setCause ev (causeOf ev s ||| m) s

/-- Set one cause bit of an event. -/
def raise (ev b : Nat) (s : State) : State := raiseMask ev (BitVec.ofNat 32 (2 ^ b)) s

/-- IRQ_N is low: an event enabled for SPI is pending (R90). -/
def irqLow (s : State) : Bool :=
  (List.range 128).any (fun ev => evPending ev s && (Tbl.get s.ctl.enSpi (ev / 32) 0).getLsbD (ev % 32))

/-! ### Time bases (R266) -/

def tbOf (n : Nat) (s : State) : TimeBase := Tbl.get s.time.tb n {}

/-- Count of time base `n`; a disabled one reads zero. -/
def tbNow (n : Nat) (s : State) : Nat := if (tbOf n s).state = .disabled then 0 else (tbOf n s).count

/-- The time base is enabled (stepped or not). -/
def tbEnabled (n : Nat) (s : State) : Bool := (tbOf n s).state != .disabled

/-- TB0 (R267). -/
def now (s : State) : Nat := tbNow 0 s

/-- Bits 31 to 0 of TB0. -/
def now32 (s : State) : Nat := now s % 4294967296

/-- One instant in all six time bases (R279). -/
def allTb (s : State) : List Nat := (List.range 6).map (fun n => tbNow n s)

/-! ### The trace path (R533 to R536) -/

/-- Count a dropped record of a severity: INFO, WARN, ERROR, ALARM_RECORD (R535). -/
def traceDrop (sev : Nat) (s : State) : State := raise 108 sev (count 255 (301 + sev) s)

/-- The list without its last element that satisfies `p`, with that element. -/
def dropLastThat {α : Type} (p : α → Bool) (l : List α) : Option (α × List α) :=
  match l with
  | [] => none
  | x :: rest =>
    match dropLastThat p rest with
    | some (y, r) => some (y, x :: r)
    | none => if p x then some (x, rest) else none

/-- Offer a record to the trace input FIFO (R535). -/
def traceRec (sev ev b loc code : Nat) (data : Bytes) (s : State) : State :=
  let r : TraceRec := { seq := s.test.seq, time := now32 s, sev := sev, ev := ev, bit := b, loc := loc, code := code, data := data }
  let s := { s with test := { s.test with seq := (s.test.seq + 1) % 4294967296 } }
  let q := s.test.fifo.length
  let full : Bool := match sev with
    | 0 => decide (48 ≤ q)
    | 1 => decide (56 ≤ q)
    | _ => decide (64 ≤ q)
  if !full then { s with test := { s.test with fifo := s.test.fifo ++ [r] } }
  else if sev = 3 then
    match dropLastThat (fun x => decide (x.sev ≠ 3)) s.test.fifo with
    | some (y, rest) => traceDrop y.sev { s with test := { s.test with fifo := rest ++ [r] } }
    | none => traceDrop 3 s
  else traceDrop sev s

/-- Offer a record whose code and data no chapter gives (log entry 10). -/
def trace (sev ev b loc : Nat) (s : State) : State :=
  let (k, s) := takeFresh s
  traceRec sev ev b loc (Config.recordCode (32 * ev + b)).toNat (le 12 (Config.recordData k).toNat) s

/-! ### Alarms (R537) -/

/-- What Den records of an alarm of kind `k`: all there is while the device is held in reset (R537). -/
def alarmDen (k loc : Nat) (s : State) : State :=
  let a := Tbl.get s.alarms.kinds k {}
  let a' : AlarmKind :=
    { count := satAdd 0xFFFF a.count 1, firstLoc := if s.alarms.status.getLsbD k then a.firstLoc else loc }
  { s with alarms := { s.alarms with
    status := s.alarms.status ||| BitVec.ofNat 18 (2 ^ k), kinds := Tbl.set s.alarms.kinds k a' {} } }

/-- The registers of an alarm kind and EV109, without its record. -/
def alarmReg (k loc : Nat) (s : State) : State := raise 109 k (alarmDen k loc s)

/-- An occurrence of alarm kind `k`: bit, event, count, first location and an alarm record. -/
def alarm (k loc : Nat) (s : State) : State := trace 3 109 k loc (alarmReg k loc s)

/-! ### Configuration sets (R117) -/

def activeSet (s : State) : CfgSet := if s.sets.activeB then s.sets.b else s.sets.a

def shadowSet (s : State) : CfgSet := if s.sets.activeB then s.sets.a else s.sets.b

/-- The generation after `g` (R117). -/
def nextGen (g : Nat) : Nat := if g = 0xFFFFFFFF then 1 else g + 1

def shadowGen (s : State) : Nat := nextGen s.sets.gen

/-- The set that a stamp names (R14, R204). -/
def setOf (gen : Nat) (s : State) : CfgSet := if gen = s.sets.gen then activeSet s else shadowSet s

/-- Whether the set that a stamp names is set B. -/
def setBOf (gen : Nat) (s : State) : Bool := if gen = s.sets.gen then s.sets.activeB else !s.sets.activeB

/-- Replace the active set. -/
def withActive (c : CfgSet) (s : State) : State :=
  if s.sets.activeB then { s with sets := { s.sets with b := c } } else { s with sets := { s.sets with a := c } }

/-- Replace the shadow set. -/
def withShadow (c : CfgSet) (s : State) : State :=
  if s.sets.activeB then { s with sets := { s.sets with a := c } } else { s with sets := { s.sets with b := c } }

/-- A command's change of the shadow (R119): it becomes DIRTY. -/
def editShadow (f : CfgSet → CfgSet) (s : State) : State :=
  let s := withShadow (f (shadowSet s)) s
  { s with sets := { s.sets with dirty := true } }

/-! ### Lists -/

/-- Fold a list of items into the state. -/
def forEach {α : Type} (l : List α) (f : α → State → State) (s : State) : State := l.foldl (fun s x => f x s) s

/-- Count the items that satisfy a test. -/
def countIf {α : Type} (p : α → Bool) (l : List α) : Nat := (l.filter p).length

/-- Sum over a list. -/
def sumBy {α : Type} (f : α → Nat) (l : List α) : Nat := l.foldl (fun n x => n + f x) 0

/-- The bits of a byte string of MEMBER masks, as port numbers (R178). -/
def maskPorts (m : Bytes) : List Nat := (List.range (8 * m.length)).filter (fun p => (u8 m (p / 8)).testBit (p % 8))

/-! ### Ports of R363 to R377 that every family reads -/

def ethPort (p : Nat) (s : State) : EthPort := Tbl.get s.ports.eth p {}

def setEthPort (p : Nat) (e : EthPort) (s : State) : State :=
  { s with ports := { s.ports with eth := Tbl.set s.ports.eth p e {} } }

/-- MAC_ADDR of a port, 6 bytes: as written, else the service address on S (R377) and zero elsewhere (log entry 1). -/
def macAddr (p : Nat) (s : State) : Bytes :=
  match (ethPort p s).mac with
  | some a => be 6 a
  | none => if p = 129 then be 6 (0x020000000000 + Config.serialNumber.toNat % 4294967296) else zeros 6

/-- The port is UP. -/
def portUp (p : Nat) (s : State) : Bool := (ethPort p s).state == 2

/-- Send a service frame to PEER while port S is UP and PEER is known (R378, R379). -/
def serviceSend (kind seq off : Nat) (last : Bool) (data : Bytes) (s : State) : State :=
  match s.svc.peer with
  | none => s
  | some peer =>
    if portUp 129 s then
      emit (.eth 129 (peer ++ macAddr 129 s ++ be 2 0x88B6 ++
        (b1 1 ++ b1 kind ++ be 2 seq ++ be 2 off ++ be 2 data.length ++ b1 (b2n last) ++ zeros 3) ++ data) false) s
    else s

/-- Send a frame of a class on the pair link while it is up (R462). -/
def pairSend (cls : Nat) (data : Bytes) (s : State) : State := if s.pair.link then emit (.pair cls data) s else s

/-- The forwarding plane runs: CORE, PICK and EGR are clocked and the device is not fenced (R434, R475). -/
def forwards (s : State) : Bool := !s.sleep.gated && !s.pair.fencing

/-! ### Mailboxes (R104 to R116) -/

def mbOf (k : Nat) (s : State) : Mailbox := Tbl.get s.ctl.mb k {}

def setMb (k : Nat) (m : Mailbox) (s : State) : State :=
  { s with ctl := { s.ctl with mb := Tbl.set s.ctl.mb k m {} } }

/-- The 16 bytes of a notice entry (R115). -/
def noticeBytes (m : Mailbox) (code loc gen data : Nat) : Bytes :=
  b2 code ++ b1 (b2n m.lost) ++ b1 m.noticeSeq ++ b4 loc ++ b4 gen ++ b4 data

/-- Write a notice to one mailbox (R116). -/
def noticeTo (k code loc data : Nat) (s : State) : State :=
  let m := mbOf k s
  if m.groups.getLsbD (code / 256) then
    if (m.noticeWr + 1) % 16 = m.noticeRd then
      raise 1 (8 + k) (setMb k { m with noticeLost := satAdd max32 m.noticeLost 1, lost := true } s)
    else
      let e := noticeBytes m code loc s.sets.gen data
      let m' := { m with notices := Memory.writeN m.notices (16 * m.noticeWr) e, noticeWr := (m.noticeWr + 1) % 16,
                         noticeSeq := (m.noticeSeq + 1) % 256, lost := false }
      let s := raise 1 k (setMb k m' s)
      if k = 3 then pairSend 3 e s
      else if k = 4 ∧ s.svc.peer.isSome then
        let (n, s) := takeFresh (setMb k { m' with noticeRd := m'.noticeWr } s)
        serviceSend 5 (Config.freeNat n % 65536) 0 true e s
      else s
  else s

/-- Send a notice to every mailbox subscribed to its group (R116). -/
def notice (code loc data : Nat) (s : State) : State :=
  (List.range 5).foldl (fun s k => noticeTo k code loc data s) s

/-- The status codes of R113. -/
def stOk := 0x00
def stUnknown := 0x01
def stLength := 0x02
def stTarget := 0x03
def stNoSpace := 0x04
def stNotFound := 0x05
def stDenied := 0x06
def stState := 0x07
def stInterrupted := 0x08
def stBusy := 0x09
def stAuth := 0x0A
def stStepUsed := 0x0B
def stRetired := 0x0C
def stConflict := 0x0D
def stSlotBad := 0x0E
def stLimit := 0x0F

/-- The 16-byte response header of a mailbox (R106). -/
def rspHeader (m : Mailbox) : Bytes :=
  match m.state with
  | .empty => zeros 16
  | .busy => b4 1 ++ b4 m.tag ++ zeros 8
  | .done => b1 2 ++ b1 m.status ++ b2 m.length ++ b4 m.tag ++ b4 m.gen ++ zeros 4

/-- Response header and result bytes. -/
def rspBytes (m : Mailbox) : Bytes := rspHeader m ++ Memory.readN m.result 0 m.length

/-- Send MB4's response to PEER in fragments of 1,488 bytes, LAST on the final one (R379). -/
def serviceRespond (s : State) : State :=
  let m := mbOf 4 s
  let fs := chunksOf 1488 8 (rspBytes m)
  forEach (List.range fs.length) (fun i s =>
    serviceSend 2 s.svc.seq (1488 * i) (decide (i + 1 = fs.length)) (fs.getD i []) s) s

/-- Write DONE in mailbox `k` (R106, R108); MB3's response goes to the pair peer and MB4's to PEER. -/
def mbDone (k status gen : Nat) (data : Bytes) (s : State) : State :=
  let m := mbOf k s
  let m' := { m with
    state := .done, status := status, gen := gen, length := data.length, cur := none,
    result := Memory.writeN m.result 0 data }
  let s := setMb k m' s
  let s := { s with sleep := { s.sleep with before := s.sleep.before.filter (fun j => j != k) } }
  let s := raise 0 k { s with ctl := { s.ctl with order := s.ctl.order.filter (fun j => j != k) } }
  if k = 4 then serviceRespond s else if k = 3 then pairSend 3 (rspBytes (mbOf 3 s)) s else s

end Sys2Proof.Machine
end

