-- ==== Sys2Proof/Machine/Tables.lean ====
section
/-! DEFINITION. The entries of the set tables of parsing and classification, with the values of an empty set
(spec/05 R149, R157; spec/06 R167 to R195). -/

namespace Sys2Proof.Machine

/-! ### Parser settings (R155, R157) -/

/-- The 40 bytes of CMD_PARSE_PORT for a port not set: entry 0, DROP, every SDT permitted. -/
def parsePort0 (p : Nat) : Bytes := b1 p ++ zeros 7 ++ List.replicate 32 0xFF

def parsePortOf (c : CfgSet) (p : Nat) : Bytes := Tbl.get c.parsePort p (parsePort0 p)

/-- ENTRY of a port. -/
def entryOf (c : CfgSet) (p : Nat) : Nat := u16 (parsePortOf c p) 2 % 4096

/-- Malformed action of a port: 0 DROP, 1 FORWARD_L2, 2 COPY_HOST, 3 DROP_SAMPLE (R155). -/
def malAction (c : CfgSet) (p r : Nat) : Nat := bits (u32 (parsePortOf c p) 4) (2 * r + 1) (2 * r)

/-- SDT s is permitted on a port (R141). -/
def sdtPermitted (c : CfgSet) (p sdt : Nat) : Bool := bit (parsePortOf c p) (8 + sdt / 8) (sdt % 8)

/-- A node not supplied: zero with DEFAULT_NEXT 0x0200 (R159). -/
def node0 : Bytes := zeros 17 ++ [2] ++ zeros 110

def nodeOf (c : CfgSet) (n : Nat) : Bytes := Tbl.get c.nodes n node0

/-! ### Classification settings -/

/-- Classification settings of a port not set: PRIO_TC maps priority p to TC p, no default action (CMD_CLS_PORT). -/
def clsPort0 (p : Nat) : Bytes := b1 p ++ zeros 5 ++ b2 0xFFFF ++ zeros 2 ++ le 3 0xFAC688 ++ zeros 3

def clsPortOf (c : CfgSet) (p : Nat) : Bytes := Tbl.get c.clsPort p (clsPort0 p)

def portZone (c : CfgSet) (p : Nat) : Nat := u8 (clsPortOf c p) 1
def portVlan (c : CfgSet) (p : Nat) : Nat := u16 (clsPortOf c p) 2
def portPrio (c : CfgSet) (p : Nat) : Nat := u8 (clsPortOf c p) 4
def portLearn (c : CfgSet) (p : Nat) : Bool := bit (clsPortOf c p) 5 0
def portIngressFilter (c : CfgSet) (p : Nat) : Bool := bit (clsPortOf c p) 5 1
def portSaDrop (c : CfgSet) (p : Nat) : Bool := bit (clsPortOf c p) 5 2
def portAction (c : CfgSet) (p : Nat) : Nat := u16 (clsPortOf c p) 6
def portLearnLimit (c : CfgSet) (p : Nat) : Nat := u16 (clsPortOf c p) 8
/-- TC of a priority (PRIO_TC). -/
def prioTc (c : CfgSet) (p prio : Nat) : Nat := bits (leN (clsPortOf c p) 10 3) (3 * prio + 2) (3 * prio)
def portQueueDefault (c : CfgSet) (p : Nat) : Nat := u8 (clsPortOf c p) 13
def mirrorIn (c : CfgSet) (p : Nat) : Nat := u8 (clsPortOf c p) 14 % 16
def mirrorOut (c : CfgSet) (p : Nat) : Nat := u8 (clsPortOf c p) 14 / 16

def profileOf (c : CfgSet) (n : Nat) : Bytes := Tbl.get c.profiles n (zeros 128)

/-- An action entry that nothing has written: no opinion, and no index named (R184; log entry 1). -/
def action0 : Bytes := zeros 8 ++ List.replicate 10 0xFF ++ zeros 14

def actionOf (c : CfgSet) (n : Nat) : Bytes := Tbl.get c.actions n action0

def vlanOf (c : CfgSet) (v : Nat) : Bytes := Tbl.get c.vlans v (zeros 30)
def vlanValid (c : CfgSet) (v : Nat) : Bool := bit (vlanOf c v) 0 0
def vlanLearn (c : CfgSet) (v : Nat) : Bool := bit (vlanOf c v) 0 1
def vlanFloodMode (c : CfgSet) (v : Nat) : Nat := bits (u8 (vlanOf c v) 0) 3 2
def vlanFloodRing (c : CfgSet) (v : Nat) : Nat := u8 (vlanOf c v) 1
def vlanMembers (c : CfgSet) (v : Nat) : Bytes := slice (vlanOf c v) 2 21
def vlanUntag (c : CfgSet) (v p : Nat) : Bool := bit (vlanOf c v) (26 + p / 8) (p % 8)

def mcastOf (c : CfgSet) (g : Nat) : Bytes := Tbl.get c.mcast g (zeros 21)

def rangeOf (c : CfgSet) (i : Nat) : Bytes := Tbl.get c.ranges i (zeros 12)

/-- A row of the zone matrix: PERMIT on the diagonal, DENY elsewhere (R171). -/
def zoneRow0 (z : Nat) : BitVec 64 := BitVec.ofNat 64 (2 ^ (2 * z))
def zoneRowOf (c : CfgSet) (z : Nat) : BitVec 64 := Tbl.get c.zoneRows z (zoneRow0 z)
/-- Policy of a pair of zones: 0 DENY, 1 PERMIT, 2 PERMIT_COPY, 3 DENY_COPY. -/
def zonePolicy (c : CfgSet) (src dst : Nat) : Nat := bits (zoneRowOf c src).toNat (2 * dst + 1) (2 * dst)

def monitorOf (c : CfgSet) (m : Nat) : Bytes := Tbl.get c.monitors m (zeros 6)
def foxOf (c : CfgSet) (p : Nat) : Bytes := Tbl.get c.fox p (zeros 12)
def mirrorOf (c : CfgSet) (i : Nat) : Bytes := Tbl.get c.mirrors i (zeros 5)
def ternaryOf (c : CfgSet) (bank i : Nat) : Bytes := Tbl.get c.ternary (2048 * bank + i) (zeros 88)

end Sys2Proof.Machine
end

