-- ==== Sys2Proof/Machine/Repair.lean ====
section
/-! DEFINITION. Repair candidates of the memories (spec/17, R521 to R523). -/

namespace Sys2Proof.Machine

/-- The repairs of the soft list and of the burned fuses. -/
def repairs (s : State) : List Repair := s.alarms.soft ++ s.otp.fuses

/-- Spare rows of a segment in use or promised: 4 exist (R521). -/
def rowsUsed (mem seg : Nat) (s : State) : Nat :=
  Config.productionRows mem seg + countIf (fun r => r.memory == mem && r.segment == seg && !r.column) (repairs s)

/-- A row that waits for its repair. -/
def isCandidate (mem seg row : Nat) (r : Repair) : Bool :=
  r.candidate && r.memory == mem && r.segment == seg && r.address == row && !r.column

/-- A row becomes a repair candidate; true when its segment has no spare left (R523). The list holds 64 entries (R522). -/
def toRepair (mem idx : Nat) (s : State) : Bool × State :=
  let (seg, row) := Config.rowOf mem idx
  if s.alarms.soft.any (isCandidate mem seg row) then (false, s)
  else
    let s := raise 105 1 (count 255 291 s)
    if 4 ≤ rowsUsed mem seg s then (true, alarm 11 locDev (raise 105 2 s))
    else if 64 ≤ s.alarms.soft.length then (false, s)
    else
      let r : Repair := { memory := mem, origin := 1, candidate := true, segment := seg, address := row }
      (false, { s with alarms := { s.alarms with soft := s.alarms.soft ++ [r] } })

/-- A corrected error of a row: the second within 24 h of the first makes it a candidate (R523). -/
def rowCorrected (mem idx : Nat) (s : State) : Bool × State :=
  let (seg, row) := Config.rowOf mem idx
  let hit (e : (Nat × Nat × Nat) × Nat) : Bool := e.1 == (mem, seg, row)
  let rest := s.test.rowCe.filter (fun e => !hit e)
  match s.test.rowCe.find? hit with
  | some e =>
    if now s < e.2 + 86400000000000 then toRepair mem idx { s with test := { s.test with rowCe := rest } }
    else (false, { s with test := { s.test with rowCe := ((mem, seg, row), now s) :: rest } })
  | none => (false, { s with test := { s.test with rowCe := ((mem, seg, row), now s) :: rest } })

/-- A memory error outside the scratch banks: `hard` for an uncorrectable one (R523). -/
def memoryError (mem idx : Nat) (hard : Bool) (s : State) : State :=
  if hard then (toRepair mem idx s).2 else (rowCorrected mem idx s).2

/-- The candidates of a row are repaired (R523, R530); their number is counted in SOFT_REPAIRS. -/
def applyRow (mem idx : Nat) (s : State) : State :=
  let (seg, row) := Config.rowOf mem idx
  let n := countIf (isCandidate mem seg row) s.alarms.soft
  if n = 0 then s
  else
    raise 105 0 (countN 255 290 n { s with alarms := { s.alarms with
      soft := s.alarms.soft.map (fun r => if isCandidate mem seg row r then { r with candidate := false } else r) } })

/-- Every candidate of the memories that a start repairs is applied (R521 to R523). -/
def applyAll (s : State) : State :=
  let n := countIf (fun (r : Repair) => r.candidate) s.alarms.soft
  if n = 0 then s
  else
    raise 105 0 (countN 255 290 n { s with alarms := { s.alarms with
      soft := s.alarms.soft.map (fun r => { r with candidate := false }) } })

end Sys2Proof.Machine
end

