-- ==== Sys2Proof/Machine/Vat.lean ====
section
/-! DEFINITION. The Vat: limits, charges, admission, leaving a queue, residence ageing, faults, the Badger and PFC
(spec/07, R202 to R230). -/

namespace Sys2Proof.Machine

/-! ### Numbering (R205, R206) -/

/-- Port that owns a queue; 255 for a reserved queue number. -/
def queuePort (q : Nat) : Nat :=
  if q < 256 then q / 8 else if q < 640 then 32 + (q - 256) / 4 else if q < 672 then 128
  else if q = 672 then 131 else if q = 673 then 130 else if q = 674 then 132
  else if 680 ≤ q ∧ q < 936 then 136 + (q - 680) / 8 else 255

/-- Level-1 index of a queue. -/
def queueIdx (q : Nat) : Nat :=
  if q < 256 then q % 8 else if q < 640 then (q - 256) % 4 else if q < 672 then q - 640
  else if 680 ≤ q ∧ q < 936 then (q - 680) % 8 else 0

/-- Queues of a port. -/
def portQueues (p : Nat) : List Nat :=
  if p < 32 then (List.range 8).map (fun t => 8 * p + t)
  else if p < 128 then (List.range 4).map (fun k => 256 + 4 * (p - 32) + k)
  else if p = 128 then (List.range 32).map (fun n => 640 + n)
  else if p = 130 then [673] else if p = 131 then [672] else if p = 132 then [674]
  else if 136 ≤ p ∧ p < 168 then (List.range 8).map (fun t => 680 + 8 * (p - 136) + t) else []

/-- A queue with limits that CMD_VAT_QUEUE may name. -/
def isLimitQueue (q : Nat) : Bool := decide (queuePort q ≠ 255) && decide (q ≠ 673)

/-! ### Limits (R207, R208) -/

def queueReserve0 (q : Nat) : Nat := if q = 672 then 256 else if q = 674 then 64 else 0

def queueMax0 (q : Nat) : Nat :=
  if q < 256 then 512 else if q < 640 then 64 else if q < 672 then 2048 else if q = 672 then 4096
  else if q = 674 then 1024 else 512

def queueMaxRes0 (q : Nat) : Nat := if 256 ≤ q ∧ q < 640 then 20000 else 0

def portMax0 (p : Nat) : Nat :=
  if p < 32 then 4096 else if p < 128 then 256 else if p = 128 then 16384 else if p = 131 then 4096
  else if p = 132 then 1024 else 4096

def vatQueue (q : Nat) (s : State) : VatQueue := Tbl.get s.vat.queues q {}

def setVatQueue (q : Nat) (v : VatQueue) (s : State) : State :=
  { s with vat := { s.vat with queues := Tbl.set s.vat.queues q v {} } }

def vatPort (p : Nat) (s : State) : VatPort := Tbl.get s.vat.ports p {}

def setVatPort (p : Nat) (v : VatPort) (s : State) : State :=
  { s with vat := { s.vat with ports := Tbl.set s.vat.ports p v {} } }

def queueReserve (q : Nat) (s : State) : Nat := (vatQueue q s).reserve.getD (queueReserve0 q)
def queueMax (q : Nat) (s : State) : Nat := (vatQueue q s).max.getD (queueMax0 q)
def queueMaxRes (q : Nat) (s : State) : Nat := (vatQueue q s).maxRes.getD (queueMaxRes0 q)
def portMaxOf (p : Nat) (s : State) : Nat := (vatPort p s).portMax.getD (portMax0 p)
def halted (p : Nat) (s : State) : Bool := (vatPort p s).halted

/-- A B or T port that is DOWN or RETIRED refuses every copy, as a halted port does (R369, R372). -/
def portShut (p : Nat) (s : State) : Bool := decide (p < 32) && ((ethPort p s).state == 0 || (ethPort p s).state == 4)

/-- Sum of RESERVE over all queues; 320 at reset (R208). -/
def sumReserve (s : State) : Nat :=
  s.vat.queues.foldl (fun n e => n + e.2.reserve.getD (queueReserve0 e.1) - queueReserve0 e.1) 320

/-- SHARED (R208). -/
def sharedPool (s : State) : Nat := 98304 - 1024 - 8192 - sumReserve s

/-! ### Charges (R210, R211) -/

/-- Cells charged to a list of copies, control copies excluded. -/
def chargeOf (cs : List Copy) : Nat := sumBy (fun x => if x.ctrl then 0 else x.cells) cs

def copiesOf (q : Nat) (s : State) : List Copy := (vatQueue q s).copies

/-- occ[q]. -/
def occ (q : Nat) (s : State) : Nat := chargeOf (copiesOf q s)

/-- pocc[p]. -/
def pocc (p : Nat) (s : State) : Nat := sumBy (fun q => occ q s) (portQueues p)

/-- shared_used: what queues hold beyond their reserves (R212, R215). -/
def sharedUsed (s : State) : Nat :=
  s.vat.queues.foldl (fun n e => n + (chargeOf e.2.copies - e.2.reserve.getD (queueReserve0 e.1))) 0

/-- ctrl_used (R210). -/
def ctrlUsed (s : State) : Nat :=
  s.vat.queues.foldl (fun n e => n + sumBy (fun x => if x.ctrl then x.cells else 0) e.2.copies) 0

/-- Items of one kind without a holder. -/
def leakedOf (isDesc : Bool) (s : State) : List Nat :=
  (s.vat.leaked.filter (fun e => e.1.isDesc == isDesc)).map (fun e => e.1.num)

def markedOf (isDesc : Bool) (s : State) : List Nat :=
  (s.vat.marked.filter (fun i => i.isDesc == isDesc)).map (·.num)

/-- Descriptors linked in queues. -/
def linkedDescs (s : State) : List Nat := s.vat.queues.flatMap (fun e => e.2.copies.map (·.desc))

/-- Cells of the frames held. -/
def heldCells (s : State) : List Nat := s.vat.frames.flatMap (fun e => e.2.cells)

/-- Items of one kind that are on the free list and also held (R222). -/
def dupOf (isDesc : Bool) (s : State) : List Nat :=
  (s.vat.dup.filter (fun i => i.isDesc == isDesc)).map (·.num)

/-- desc_free. -/
def descFree (s : State) : Nat :=
  65536 + (dupOf true s).length - ((linkedDescs s).length + (leakedOf true s).length)

/-- Cells on the free list. -/
def freeCells (s : State) : Nat :=
  98304 + (dupOf false s).length - ((heldCells s).length + (leakedOf false s).length)

/-- Cells charged to staging (R209). -/
def stagedCells (s : State) : Nat := sumBy (fun e => if e.2.staged then e.2.cells.length else 0) s.vat.frames

/-- The first `n` numbers not in use from `at_` on, cyclically; `fuel` bounds the search. -/
def freeSearch (used : List Nat) (total : Nat) : Nat → Nat → Nat → List Nat
  | 0, _, _ => []
  | _, _, 0 => []
  | fuel + 1, at_, n + 1 =>
    if used.contains at_ then freeSearch used total fuel ((at_ + 1) % total) (n + 1)
    else at_ :: freeSearch used total fuel ((at_ + 1) % total) n

/-- `n` items of the free list; which of them is open (log entry 11). -/
def takeItems (isDesc : Bool) (n : Nat) (s : State) : List Nat × State :=
  let total := if isDesc then 65536 else 98304
  let used := (if isDesc then linkedDescs s else heldCells s) ++ leakedOf isDesc s ++ markedOf isDesc s
  let (k, s) := takeFresh s
  (freeSearch used total (n + used.length) (Config.freeItem k % total) n, s)

/-- EV77 and FREE_MIN after a change of the free list (R228, R229). -/
def freeChanged (s : State) : State :=
  let f := freeCells s
  let s := if f < s.vat.freeMin then { s with vat := { s.vat with freeMin := f } } else s
  if f < s.vat.freeLow ∧ s.vat.freeArmed then
    raise 77 0 { s with vat := { s.vat with freeArmed := false } }
  else if s.vat.freeLow + 1024 ≤ f then { s with vat := { s.vat with freeArmed := true } } else s

/-- Cells of a frame of `len` bytes (R202). -/
def cellsFor (len : Nat) : Nat := (len + 255) / 256

def frameOf (fid : Nat) (s : State) : Option VFrame := Tbl.find s.vat.frames fid

/-- Put a frame of the Vat in its place. -/
def putFrame (fid : Nat) (v : VFrame) (s : State) : State :=
  { s with vat := { s.vat with frames := Tbl.insert s.vat.frames fid v } }

/-- Return a frame's cells to the free list (R214). -/
def dropFrame (fid : Nat) (s : State) : State :=
  freeChanged { s with vat := { s.vat with frames := Tbl.erase s.vat.frames fid } }

/-! ### PFC, transmit side (R225) -/

/-- in_occ of a trunk port and priority. -/
def inOcc (t p : Nat) (s : State) : Nat :=
  sumBy (fun e => if e.2.frame.port = t ∧ e.2.prio = some p then e.2.cells.length else 0) s.vat.frames

/-- Send a PFC frame for a priority. -/
def pfcSend (t p quanta : Nat) (s : State) : State :=
  raise 76 0 (count t 393 (emit (.pfc t p quanta) s))

/-- The crossings of XOFF and XON on a trunk port (R225). -/
def pfcCheck (t : Nat) (s : State) : State :=
  if 8 ≤ t ∧ t < 32 then
    forEach (bitsOf 8 (vatPort t s).pfcTx.toNat) (fun p s =>
      let v := vatPort t s
      let n := inOcc t p s
      if !v.xoffSent.getLsbD p && decide (v.xoff ≤ n) then
        pfcSend t p 0xFFFF (setVatPort t { v with xoffSent := v.xoffSent ||| BitVec.ofNat 8 (2 ^ p) } s)
      else if v.xoffSent.getLsbD p && decide (n ≤ v.xon) then
        pfcSend t p 0 (setVatPort t { v with xoffSent := v.xoffSent &&& ~~~ BitVec.ofNat 8 (2 ^ p) } s)
      else s) s
  else s

/-! ### Taking a frame in (R209) -/

/-- Why a frame was dropped on arrival. -/
inductive ArriveDrop where
  | none | stage | noCell
deriving DecidableEq, Repr, Inhabited

/-- Write a frame, or its first part, into staging cells; the number of the frame is none when it was dropped (R209). -/
def stageFrame (f : Frame) (ended : Bool) (s : State) : Option Nat × State :=
  let c := max 1 (cellsFor f.bytes.length)
  if 8192 < stagedCells s + c then (none, raise 72 6 (count f.port 386 s))
  else if freeCells s < c then (none, raise 72 5 (count f.port 387 s))
  else
    let (cs, s) := takeItems false c s
    let fid := s.vat.nextFid
    let s := { s with vat := { s.vat with nextFid := fid + 1 } }
    (some fid, freeChanged (putFrame fid { frame := f, cells := cs, ended := ended } s))

/-- More bytes of a frame being received; false when staging or the free list refused them. -/
def growFrame (fid : Nat) (more : Bytes) (s : State) : Bool × State :=
  match frameOf fid s with
  | none => (false, s)
  | some v =>
    let f := { v.frame with bytes := v.frame.bytes ++ more }
    let c := max 1 (cellsFor f.bytes.length) - v.cells.length
    if v.staged && decide (8192 < stagedCells s + c) then (false, raise 72 6 (count f.port 386 s))
    else if freeCells s < c then (false, raise 72 5 (count f.port 387 s))
    else
      let (cs, s) := takeItems false c s
      (true, freeChanged (putFrame fid { v with frame := f, cells := v.cells ++ cs } s))

/-- A frame's first cell is committed: it waits for a Picker in commit order (R132). -/
def commitFrame (fid : Nat) (s : State) : State :=
  { s with parse := { s.parse with waiting := s.parse.waiting ++ [fid] } }

/-- The bytes a copy carries: its sample header, then the frame up to the copy's cut (R155, R194, R195). -/
def copyBytes (x : Copy) (s : State) : Bytes :=
  match frameOf x.fid s with
  | none => x.hdr
  | some v => x.hdr ++ (match x.trunc with
    | some n => v.frame.bytes.take n
    | none => v.frame.bytes)

/-- The copy is cut shorter than its frame. -/
def copyCut (x : Copy) (s : State) : Bool :=
  match frameOf x.fid s, x.trunc with
  | some v, some n => decide (n < v.frame.bytes.length)
  | _, _ => false

/-! ### Leaving (R214) -/

/-- One admitted copy of a frame is gone: its cells return with the last one, once the frame has ended. -/
def releaseRef (fid : Nat) (s : State) : State :=
  match frameOf fid s with
  | none => s
  | some v =>
    if v.refs ≤ 1 ∧ v.ended ∧ !v.staged then pfcCheck v.frame.port (dropFrame fid s)
    else putFrame fid { v with refs := v.refs - 1 } s

/-- Take the head copy of a queue off it (COPY_DEQUEUE, R214). -/
def dequeue (q : Nat) (s : State) : Option (Copy × State) :=
  match copiesOf q s with
  | [] => none
  | x :: rest =>
    let v := vatQueue q s
    some (x, releaseRef x.fid (setVatQueue q { v with copies := rest } s))

/-- Drop the head copy of a queue. -/
def dropHead (q : Nat) (s : State) : State :=
  match dequeue q s with
  | none => s
  | some (_, s) => s

/-- Count `j` of a queue's counters: ENQ_FRAMES 0, LIMIT_DROP 1, AGED_DROP 2, ECC_UE_DROP 3 (R227). -/
def countQueue (q j : Nat) (s : State) : State := count (queuePort q) (256 + 4 * queueIdx q + j) s

/-- A copy is over age (R218). -/
def overAge (x : Copy) (maxRes : Nat) (s : State) : Bool :=
  decide (0 < maxRes) && decide (maxRes * 1000 < (now32 s + 4294967296 - x.enq) % 4294967296)

/-- Drop over-age copies at the head of a queue (R218). -/
def ageQueue (q : Nat) (s : State) : State :=
  let rec go : Nat → State → State
    | 0, s => s
    | fuel + 1, s =>
      match copiesOf q s with
      | [] => s
      | x :: _ => if overAge x (queueMaxRes q s) s then go fuel (raise 73 0 (countQueue q 2 (dropHead q s))) else s
  go (copiesOf q s).length s

/-- Drop BAD copies at the head of a queue (R220). -/
def dropBad (q : Nat) (s : State) : State :=
  let rec go : Nat → State → State
    | 0, s => s
    | fuel + 1, s =>
      match copiesOf q s with
      | [] => s
      | x :: _ => if x.bad then go fuel (raise 75 1 (countQueue q 3 (dropHead q s))) else s
  go (copiesOf q s).length s

/-! ### Admission (R212) -/

/-- Why a copy is refused (R212). -/
inductive Refuse where
  | halt | control | desc | qmax | pmax | shared
deriving DecidableEq, Repr, Inhabited

/-- The admission rule for one copy of `c` cells: why it is refused, or none (R212). -/
def admitCheck (x : Copy) (c : Nat) (s : State) : Option Refuse :=
  if halted x.egress s || portShut x.egress s then some .halt
  else if x.ctrl then
    if 1024 < ctrlUsed s + c ∨ descFree s = 0 then some .control else none
  else if descFree s ≤ 256 then some .desc
  else if queueMax x.queue s < occ x.queue s + c then some .qmax
  else if portMaxOf x.egress s < pocc x.egress s + c then some .pmax
  else
    let r := queueReserve x.queue s
    let ex := (occ x.queue s + c - r) - (occ x.queue s - r)
    if sharedPool s < sharedUsed s + ex then some .shared else none

/-- Link a copy at the tail of its queue (R203). -/
def linkCopy (x : Copy) (s : State) : State :=
  let (d, s) := takeItems true 1 s
  let v := vatQueue x.queue s
  let x := { x with desc := d.headD 0, enq := now32 s }
  let s := setVatQueue x.queue { v with copies := v.copies ++ [x] } s
  countMax x.egress 395 (pocc x.egress s) (countQueue x.queue 0 s)

/-- Count a refused copy (R212, R227, R229); Fox samples and mirror copies count their own drop too (R194, R195). -/
def countRefused (x : Copy) (why : Refuse) (some_admitted : Bool) (s : State) : State :=
  let s := countQueue x.queue 1 s
  let s := match why with
    | .halt => count x.egress 391 s
    | .control => raise 72 8 (count 255 101 s)
    | .desc => raise 72 7 (count 255 100 s)
    | .qmax => raise 72 0 (count x.egress 388 s)
    | .pmax => raise 72 1 (count x.egress 389 s)
    | .shared => raise 72 2 (count x.egress 390 s)
  let s := if some_admitted then raise 72 3 (count x.egress 384 s) else s
  let s := match x.mirror with
    | some i => raise 65 (1 + i) (count 255 (86 + i) s)
    | none => s
  match x.fox with
  | some p => raise 65 0 (count p 476 s)
  | none => s

/-- Admit the copies of a frame in order, each against the state left by those before it. -/
def admitAll (c : Nat) : List Copy → State → Nat × List (Copy × Refuse) × State
  | [], s => (0, [], s)
  | x :: rest, s =>
    match admitCheck x c s with
    | none =>
      let (n, r, s) := admitAll c rest (linkCopy x s)
      (n + 1, r, s)
    | some why =>
      let (n, r, s) := admitAll c rest s
      (n, (x, why) :: r, s)

/-- The copies of frame `fid` carry MC when it has more than one admitted copy (R203). -/
def markMc (fid : Nat) (qs : List Nat) (s : State) : State :=
  forEach qs (fun q s =>
    let v := vatQueue q s
    setVatQueue q { v with copies := v.copies.map (fun x => if x.fid = fid then { x with mc := true } else x) } s) s

/-- The admission decision of a frame: the copies in the order of R212 (R212, R216). -/
def admitCopies (fid : Nat) (copies : List Copy) (s : State) : State :=
  match frameOf fid s with
  | none => s
  | some v =>
    let c := v.cells.length
    let (n, refused, s) := admitAll c (copies.map (fun x => { x with fid := fid, cells := c })) s
    let s := forEach refused (fun e s => countRefused e.1 e.2 (decide (0 < n)) s) s
    let refs := v.refs + n
    if refs = 0 then
      let s := if 1 < copies.length then raise 72 4 (count v.frame.port 385 s) else s
      if v.ended then pfcCheck v.frame.port (dropFrame fid s) else putFrame fid { v with staged := false } s
    else
      let s := putFrame fid { v with refs := refs, staged := false } s
      if 1 < refs then markMc fid (copies.map (·.queue)) s else s

/-! ### Faults and the Badger (R220 to R223) -/

/-- Remove every copy of a queue without returning cells or descriptors: they have no holder any more (R220, R223). -/
def unlinkQueue (q : Nat) (s : State) : List Copy × State :=
  let v := vatQueue q s
  let xs := v.copies
  let s := setVatQueue q { v with copies := [] } s
  let s := forEach xs (fun x s =>
    let s := { s with vat := { s.vat with leaked := s.vat.leaked ++ [({ isDesc := true, num := x.desc }, false)] } }
    match frameOf x.fid s with
    | none => s
    | some v =>
      if v.refs ≤ 1 ∧ v.ended then
        let s := { s with vat := { s.vat with leaked := s.vat.leaked ++ v.cells.map (fun n => (({ num := n } : Item), false)) } }
        pfcCheck v.frame.port { s with vat := { s.vat with frames := Tbl.erase s.vat.frames x.fid } }
      else putFrame x.fid { v with refs := v.refs - 1 } s) s
  (xs, s)

/-- Take copies that satisfy `p` out of a queue, with their charges (R214). -/
def removeCopies (q : Nat) (p : Copy → Bool) (s : State) : List Copy × State :=
  let v := vatQueue q s
  let gone := v.copies.filter p
  if gone.isEmpty then ([], s) else
  let s := setVatQueue q { v with copies := v.copies.filter (fun x => !p x) } s
  (gone, forEach gone (fun x s => releaseRef x.fid s) s)

/-- Numbers of the queues that hold copies. -/
def busyQueues (s : State) : List Nat := (s.vat.queues.filter (fun e => !e.2.copies.isEmpty)).map (·.1)

/-- Put a Badger record first (CMD_VAT_BADGER). -/
def badgerRecord (r : BadgerRec) (s : State) : State :=
  { s with vat := { s.vat with records := (r :: s.vat.records).take 8 } }

/-- The item of a position of a pass (R221). -/
def badgerItem (n : Nat) : Item := if n < 98304 then { num := n } else { isDesc := true, num := n - 98304 }

/-- Ports with a queue that holds an item (R222). -/
def itemPorts (i : Item) (s : State) : List Nat :=
  ((s.vat.queues.filter (fun e => e.2.copies.any (fun x =>
      if i.isDesc then x.desc == i.num
      else match frameOf x.fid s with
        | some v => v.cells.contains i.num
        | none => false))).map (fun e => queuePort e.1)).eraseDups

/-- Some holder other than the free list (R221). -/
def itemHeld (i : Item) (s : State) : Bool :=
  if i.isDesc then (linkedDescs s).contains i.num else (heldCells s).contains i.num

/-- Holders of a cell in the chains of two different frames, or of a descriptor in two queues (R222). -/
def heldTwice (i : Item) (s : State) : Bool :=
  if i.isDesc then decide (1 < countIf (fun n => n == i.num) (linkedDescs s))
  else decide (1 < countIf (fun e => e.2.cells.contains i.num) s.vat.frames)

/-- What the Badger does with one item (R222, R223). -/
def badgerLook (i : Item) (s : State) : State :=
  if s.vat.leaked.any (fun e => e.1 == i) then
    if s.vat.leaked.any (fun e => e.1 == i && e.2) then
      let s := { s with vat := { s.vat with leaked := s.vat.leaked.filter (fun e => !(e.1 == i)) } }
      let s := badgerRecord { item := i, time := now32 s } (raise 74 0 (count 255 97 s))
      freeChanged (trace 2 74 0 locDev s)
    else
      { s with vat := { s.vat with leaked := s.vat.leaked.map (fun e => if e.1 == i then (e.1, true) else e) } }
  else if s.vat.marked.contains i then
    if itemHeld i s then s
    else { s with vat := { s.vat with marked := s.vat.marked.filter (fun j => !(j == i)),
                                       dup := s.vat.dup.filter (fun j => !(j == i)) } }
  else if (s.vat.dup.contains i && itemHeld i s) || heldTwice i s then
    let ps := itemPorts i s
    let s := { s with vat := { s.vat with marked := s.vat.marked ++ [i] } }
    let s := forEach ps (fun p s => setVatPort p { vatPort p s with halted := true } s) s
    let s := raise 74 1 (count 255 98 s)
    let s := if ps.isEmpty then s else raise 74 2 s
    let s := badgerRecord { item := i, doubleLink := true, time := now32 s, port := ps.headD 0xFF } s
    alarm 8 (match ps with
      | p :: _ => locPort p noIdx
      | [] => locDev) s
  else s

/-- BADGER_AUDIT: one item, and the end of a pass (R221, R222). -/
def execBadgerAudit (s : State) : Res :=
  let s := if s.vat.badgerAt = 0 then { s with vat := { s.vat with passStart := now s } } else s
  let s := badgerLook (badgerItem s.vat.badgerAt) s
  if s.vat.badgerAt = 163839 then
    .next (count 255 99 { s with vat := { s.vat with
      badgerAt := 0, passes := s.vat.passes + 1, passUs := (now s - s.vat.passStart) / 1000 } })
  else .next { s with vat := { s.vat with badgerAt := s.vat.badgerAt + 1 } }

/-- RESIDENCE_SWEEP: the head of every queue with MAX_RES (R218). -/
def execResidenceSweep (s : State) : Res :=
  .next (forEach (busyQueues s) (fun q s => if 0 < queueMaxRes q s then ageQueue q s else s) s)

/-- VAT_ECC_ERROR: `kind` 0 a corrected error, 1 an error in a cell of frame `index` (corrected unless `ue`), 2 an
uncorrectable error in a descriptor or pointer of queue `index` (corrected unless `ue`) (R220, R523). A copy already
leaving ends with an inverted FCS. -/
def execVatEccError (kind : Nat) (ue : Bool) (index : Nat) (s : State) : Res :=
  let s := memoryError (if kind = 2 then 1 else 0) index (ue && kind != 0) s
  if !ue || kind = 0 then .next (raise 75 0 (count 255 96 s))
  else if kind = 1 then
    let s := forEach (busyQueues s) (fun q s =>
      let v := vatQueue q s
      setVatQueue q { v with copies := v.copies.map (fun x => if x.fid = index then { x with bad := true } else x) } s) s
    let s := forEach s.flow.egr (fun e s =>
      let hit (w : Option OnWire) : Bool := match w with
        | some w => w.copy.fid == index && !w.invert
        | none => false
      let inv (w : Option OnWire) : Option OnWire := w.map (fun w => if w.copy.fid = index then { w with invert := true } else w)
      let s := if hit e.2.tx then raise 75 1 (countQueue ((e.2.tx.map (·.copy.queue)).getD 0) 3 s) else s
      let s := if hit e.2.txPre then raise 75 1 (countQueue ((e.2.txPre.map (·.copy.queue)).getD 0) 3 s) else s
      { s with flow := { s.flow with egr := Tbl.set s.flow.egr e.1 { e.2 with tx := inv e.2.tx, txPre := inv e.2.txPre } {} } }) s
    .next (forEach (busyQueues s) (fun q s => dropBad q s) s)
  else
    let (_, s) := unlinkQueue index s
    let p := queuePort index
    .next (alarm 9 (locPort p (queueIdx index)) (raise 75 2 (count p 392 s)))

/-- PFC_REPEAT_TIMER: the pause frame is repeated while in_occ stays above XON (R225). -/
def execPfcRepeatTimer (port prio : Nat) (s : State) : Res :=
  let v := vatPort port s
  if v.xoffSent.getLsbD prio ∧ v.pfcTx.getLsbD prio ∧ v.xon < inOcc port prio s then
    .next (pfcSend port prio 0xFFFF s)
  else .next s

/-- Whether a priority of a trunk port is paused (R226). -/
def prioPaused (port prio : Nat) (s : State) : Bool := Tbl.get s.vat.paused (8 * port + prio) false

/-- PFC_FRAME_RECEIVE: `classes` is the class-enable vector, `quanta` eight 16-bit values in network order (R226). -/
def execPfcFrameReceive (port classes : Nat) (quanta : Bytes) (s : State) : Res :=
  let s := count port 394 s
  .next (forEach (bitsOf 8 classes) (fun p s =>
    if (vatPort port s).pfcRx.getLsbD p then
      { s with vat := { s.vat with paused := Tbl.set s.vat.paused (8 * port + p) (decide (beN quanta (2 * p) 2 ≠ 0)) false } }
    else s) s)

/-- PFC_PAUSE_EXPIRY: the pause of a priority runs out (R226). -/
def execPfcPauseExpiry (port prio : Nat) (s : State) : Res :=
  .next { s with vat := { s.vat with paused := Tbl.set s.vat.paused (8 * port + prio) false false } }

end Sys2Proof.Machine
end

