-- ==== Sys2Proof/Machine/Parse.lean ====
section
/-! DEFINITION. The parser: threads, the Picker instructions, the Trellis, faults of Pickers and of the program store
(spec/05, R132 to R164). -/

namespace Sys2Proof.Machine

/-! ### Reading the frame (R134, R135, R145) -/

/-- What a parse reads: the bytes received so far, whether the frame has ended, and the set. -/
structure PCtx where
  bytes : Bytes
  ended : Bool
  cfg : CfgSet
deriving DecidableEq, Repr, Inhabited

/-- Outcome of reading a range of bytes. -/
inductive Rd where
  /-- The range may be read; the thread notes HIGH_READ. -/
  | ok (t : Thread)
  /-- Bytes up to this count are needed first. -/
  | wait (n : Nat)
  /-- The parse ends with this reason. -/
  | bad (reason : Nat)
deriving DecidableEq, Repr, Inhabited

/-- Logical end, if it is known yet (R134). -/
def logicalEnd (x : PCtx) (t : Thread) : Option Nat :=
  match t.lend with
  | some e => some e
  | none => if x.ended then some x.bytes.length else none

/-- Judge a read of `n` bytes from `lo` (R135). -/
def readRange (x : PCtx) (t : Thread) (lo n : Nat) : Rd :=
  let e := lo + n - 1
  let high := match t.high with
    | some h => max h e
    | none => e
  match logicalEnd x t with
  | some l => if l ≤ e then .bad 8 else if 512 ≤ e then .bad 5 else .ok { t with high := some high }
  | none => if x.bytes.length ≤ e then .wait (e + 1) else if 512 ≤ e then .bad 5 else .ok { t with high := some high }

/-- A field of `w` bits that begins at bit `b` of byte `o`, in network bit order (R145). -/
def extract (bs : Bytes) (o b w : Nat) : Nat :=
  let n := (b + w + 7) / 8
  beN bs o n / 2 ^ (8 * n - b - w) % 2 ^ w

/-- What one instruction or node does to a parse. -/
inductive PStep where
  /-- The parse goes on. -/
  | run (t : Thread)
  /-- The thread stalls until this many bytes have arrived or the frame has ended. -/
  | stall (n : Nat)
  /-- The parse ends with a reason, or with DONE and a profile when the reason is 0 (R153). -/
  | fin (t : Thread) (reason profile : Nat)
  /-- DEFER (R152). -/
  | defer (t : Thread)
deriving DecidableEq, Repr, Inhabited

/-- Read a range, then go on. -/
def reading (x : PCtx) (t : Thread) (lo n : Nat) (k : Thread → PStep) : PStep :=
  match readRange x t lo n with
  | .ok t => k t
  | .wait n => .stall n
  | .bad r => .fin t r 0

/-- Move the cursor (ADV). -/
def moveCursor (x : PCtx) (t : Thread) (dst : Nat) (k : Thread → PStep) : PStep :=
  match logicalEnd x t with
  | some l => if l < dst then .fin t 8 0 else k { t with cursor := dst }
  | none => if x.bytes.length < dst then .stall dst else k { t with cursor := dst }

/-- The advance of a node: the cursor moves before it is judged (R150). -/
def walkCursor (x : PCtx) (t : Thread) (dst : Nat) (k : Thread → PStep) : PStep :=
  match logicalEnd x t with
  | some l => if l < dst then .fin { t with cursor := dst } 8 0 else k { t with cursor := dst }
  | none => if x.bytes.length < dst then .stall dst else k { t with cursor := dst }

/-! ### Registers, flags, key and metadata (R133, R138, R144) -/

def reg (t : Thread) (i : Nat) : Nat := (t.g.toArray.getD i 0).toNat

def setReg (t : Thread) (i v : Nat) : Thread := { t with g := t.g.setIfInBounds i (BitVec.ofNat 16 v) }

/-- Continue at the next address. -/
def nextPc (t : Thread) : Thread := { t with pc := t.pc + 1 }

/-- Operand b (R143): IMM when I is 1, else gB. -/
def opB (t : Thread) (w : Nat) : Nat := if w.testBit 49 then bits w 15 0 else reg t (bits w 48 45)

/-- Write a result with its flags. -/
def aluSet (t : Thread) (d v : Nat) (c : Bool) : PStep :=
  .run (nextPc { setReg t d v with z := decide (v % 65536 = 0), c := c })

/-- Put bytes into the key buffer at KPOS. -/
def putKey (t : Thread) (kpos : Nat) (b : Bytes) : Thread := { t with key := (setBytes t.key kpos b).take 48 }

/-- Replace bits `hi` to `lo` of the metadata. -/
def setMd (m : BitVec 64) (hi lo v : Nat) : BitVec 64 :=
  let n := m.toNat
  BitVec.ofNat 64 (n - bits n hi lo * 2 ^ lo + v % 2 ^ (hi + 1 - lo) * 2 ^ lo)

def mdPort (m : BitVec 64) : Nat := bits m.toNat 7 0
def mdKind (m : BitVec 64) : Nat := bits m.toNat 11 8
def mdEdgeId (m : BitVec 64) : Nat := bits m.toNat 40 12
def mdVlan (m : BitVec 64) : Nat := bits m.toNat 52 41
def mdPrio (m : BitVec 64) : Nat := bits m.toNat 55 53
def mdColour (m : BitVec 64) : Nat := bits m.toNat 57 56

/-- PUSH and its checks (R147). -/
def pushHeader (x : PCtx) (t : Thread) (type : Nat) (ck : Bool) (k : Thread → PStep) : PStep :=
  if 12 ≤ t.stack.length then .fin t 1 0
  else if type / 16 = 6 ∧ 6 ≤ countIf (fun e => decide (e.1 / 16 = 6)) t.stack then .fin t 12 0
  else
    let push (t : Thread) : PStep := k { t with stack := t.stack ++ [(type, t.cursor)] }
    if ck then
      reading x t t.cursor 1 (fun t =>
        let len := 4 * (u8 x.bytes t.cursor % 16)
        if len = 0 then .fin t 6 0
        else reading x t t.cursor len (fun t =>
          if onesSum (slice x.bytes t.cursor len) = 0xFFFF then push t else .fin t 6 0))
    else push t

/-! ### The instructions (R142, R143): the effect of a word `w` whose opcode is the instruction's -/

/-- LDF (R143, R145). -/
def opLdf (x : PCtx) (w : Nat) (t : Thread) : PStep :=
  let lo := t.cursor + bits w 40 32 + (if w.testBit 22 then reg t (bits w 53 50) else 0)
  let b := bits w 31 29
  let wd := bits w 28 24 + 1
  reading x t lo ((b + wd + 7) / 8) (fun t =>
    let v := if w.testBit 23 then u16 x.bytes lo else extract x.bytes lo b wd
    .run (nextPc { setReg t (bits w 57 54) v with z := decide (v % 65536 = 0) }))

/-- CMP (R144). -/
def opCmp (_ : PCtx) (w : Nat) (t : Thread) : PStep :=
  let a := reg t (bits w 53 50)
  .run (nextPc { t with z := decide (a = opB t w), c := decide (a < opB t w) })

/-- BR (R143). -/
def opBr (_ : PCtx) (w : Nat) (t : Thread) : PStep :=
  let take : Bool := match bits w 57 55 with
    | 0 => true
    | 1 => t.z
    | 2 => !t.z
    | 3 => t.c
    | 4 => !t.c
    | _ => false
  if take then .run { t with pc := bits w 11 0 } else .run (nextPc t)

/-- JT (R143). -/
def opJt (x : PCtx) (w : Nat) (t : Thread) : PStep :=
  let e := (reg t (bits w 53 50) / 2 ^ bits w 47 44) % 16
  .run { t with pc := Tbl.get x.cfg.jump (16 * bits w 38 32 + e) 0 }

/-- ADD (R143, R144). -/
def opAdd (_ : PCtx) (w : Nat) (t : Thread) : PStep :=
  let v := reg t (bits w 53 50) + opB t w
  aluSet t (bits w 57 54) v (decide (65536 ≤ v))

/-- SUB (R143, R144). -/
def opSub (_ : PCtx) (w : Nat) (t : Thread) : PStep :=
  let a := reg t (bits w 53 50)
  aluSet t (bits w 57 54) (a + 65536 - opB t w) (decide (a < opB t w))

/-- AND (R143, R144). -/
def opAnd (_ : PCtx) (w : Nat) (t : Thread) : PStep :=
  aluSet t (bits w 57 54) (reg t (bits w 53 50) &&& opB t w) false

/-- OR (R143, R144). -/
def opOr (_ : PCtx) (w : Nat) (t : Thread) : PStep :=
  aluSet t (bits w 57 54) (reg t (bits w 53 50) ||| opB t w) false

/-- SHR (R143, R144). -/
def opShr (_ : PCtx) (w : Nat) (t : Thread) : PStep :=
  aluSet t (bits w 57 54) (reg t (bits w 53 50) / 2 ^ (opB t w % 16)) false

/-- SHL (R143, R144). -/
def opShl (_ : PCtx) (w : Nat) (t : Thread) : PStep :=
  aluSet t (bits w 57 54) (reg t (bits w 53 50) * 2 ^ (opB t w % 16)) false

/-- ADV (R143). -/
def opAdv (x : PCtx) (w : Nat) (t : Thread) : PStep :=
  let by_ := if w.testBit 49 then bits w 15 0 else reg t (bits w 53 50) * 2 ^ bits w 44 42 + bits w 15 0
  moveCursor x t (t.cursor + by_) (fun t => .run (nextPc t))

/-- PUSH (R147). -/
def opPush (x : PCtx) (w : Nat) (t : Thread) : PStep :=
  pushHeader x t (bits w 57 50) (w.testBit 49) (fun t => .run (nextPc t))

/-- KEY (R143). -/
def opKey (x : PCtx) (w : Nat) (t : Thread) : PStep :=
  let n := bits w 44 42 + 1
  let kpos := bits w 55 50
  match bits w 57 56 with
  | 0 =>
    let lo := t.cursor + bits w 40 32 + (if w.testBit 22 then reg t (bits w 48 45) else 0)
    reading x t lo n (fun t => .run (nextPc (putKey t kpos (slice x.bytes lo n))))
  | 1 => .run (nextPc (putKey t kpos (be n (reg t (bits w 48 45)))))
  | _ => .run (nextPc (putKey t kpos (be n (bits w 15 0))))

/-- META (R138, R143). -/
def opMeta (_ : PCtx) (w : Nat) (t : Thread) : PStep :=
  let v := if w.testBit 49 then bits w 15 0 else reg t (bits w 53 50)
  let m := match bits w 57 54 with
    | 0 => setMd t.md 52 41 v
    | 1 => setMd t.md 55 53 v
    | 2 => setMd t.md 57 56 v
    | _ => setMd (setMd (setMd (setMd t.md 58 58 v) 60 60 (v / 2)) 61 61 (v / 4)) 62 62 (v / 8)
  .run (nextPc { t with md := m })

/-- CHKLEN (R135, R146): it waits for the end of the frame. -/
def opChklen (x : PCtx) (w : Nat) (t : Thread) : PStep :=
  if !x.ended then .stall (x.bytes.length + 1)
  else
    let len := x.bytes.length
    let t := { t with high := some (len - 1) }
    let l := t.lend.getD len
    let rem := l - t.cursor
    let a := reg t (bits w 53 50)
    let tun := w.testBit 47
    if w.testBit 48 then
      if a ≤ rem then .run (nextPc t) else .fin t (if tun then 11 else 2) 0
    else if a = rem then .run (nextPc t)
    else if rem < a then .fin t (if tun then 11 else 2) 0
    else if (mdKind t.md = 0 ∨ mdKind t.md = 6) ∧ len = 60 ∧ l = len then
      .run (nextPc { t with lend := some (t.cursor + a) })
    else .fin t (if tun then 11 else 3) 0

/-- DEFER (R152). -/
def opDefer (_ : PCtx) (w : Nat) (t : Thread) : PStep := .defer { t with node := bits w 8 0 }

/-- DONE (R137). -/
def opDone (_ : PCtx) (w : Nat) (t : Thread) : PStep := .fin t 0 (bits w 5 0)

/-- MAL (R153). -/
def opMal (_ : PCtx) (w : Nat) (t : Thread) : PStep := .fin t (bits w 3 0) 0

/-- Opcodes of R142. -/
def opcodeOf (w : Nat) : Nat := bits w 63 58

/-- The effect of any instruction word, by its opcode; an undefined opcode cannot be loaded (R158). -/
def opAny (x : PCtx) (w : Nat) (t : Thread) : PStep :=
  match opcodeOf w with
  | 0x01 => opLdf x w t
  | 0x02 => opCmp x w t
  | 0x03 => opBr x w t
  | 0x04 => opJt x w t
  | 0x08 => opAdd x w t
  | 0x09 => opSub x w t
  | 0x0A => opAnd x w t
  | 0x0B => opOr x w t
  | 0x0C => opShr x w t
  | 0x0D => opShl x w t
  | 0x10 => opAdv x w t
  | 0x11 => opPush x w t
  | 0x12 => opKey x w t
  | 0x13 => opMeta x w t
  | 0x14 => opChklen x w t
  | 0x18 => opDefer x w t
  | 0x19 => opDone x w t
  | 0x1A => opMal x w t
  | _ => .run (nextPc t)

/-! ### The Trellis (R149 to R151) -/

/-- Word i of a node. -/
def nodeW (n : Bytes) (i : Nat) : Nat := u32 n (4 * i)

/-- The next code of a visit: the first matching entry, else DEFAULT_NEXT (R150). -/
def nodeNext (n : Bytes) (v : Nat) : Nat :=
  let m := bits (nodeW n 0) 21 17
  match (List.range m).find? (fun i => nodeW n (8 + i) == v) with
  | some i => u16 n (96 + 2 * i)
  | none => bits (nodeW n 4) 15 0

/-- One visit of node `t.node` (R150). A next node is left in `node`; 24 visits end with GRAPH_LOOP. -/
def nodeVisit (x : PCtx) (t0 : Thread) : PStep :=
  let n := nodeOf x.cfg t0.node
  let w0 := nodeW n 0
  let w2 := nodeW n 2
  let w3 := nodeW n 3
  let t := { t0 with nodes := t0.nodes + 1 }
  let so := t.cursor + bits w0 8 0
  let sw := bits w0 16 12 + 1
  reading x t so ((bits w0 11 9 + sw + 7) / 8) (fun t =>
    let v := extract x.bytes so (bits w0 11 9) sw &&& nodeW n 1
    let afterPush (t : Thread) : PStep :=
      let afterKey (t : Thread) : PStep :=
        let finish (t : Thread) : PStep :=
          let nx := nodeNext n v
          if nx < 0x200 then
            if t.nodes = 24 then .fin t 9 0 else .run { t with node := nx }
          else if nx < 0x240 then .fin t 0 (nx - 0x200)
          else .fin t (nx % 16) 0
        match bits w0 23 22 with
        | 1 => walkCursor x t (t.cursor + bits w2 31 20) finish
        | 2 =>
          let lo := t.cursor + bits w2 8 0
          let lw := bits w2 15 12 + 1
          reading x t lo ((bits w2 11 9 + lw + 7) / 8) (fun t =>
            walkCursor x t (t.cursor + extract x.bytes lo (bits w2 11 9) lw * bits w2 19 16 + bits w2 31 20) finish)
        | _ => walkCursor x t t.cursor finish
      if w0.testBit 26 then
        let lo := t.cursor + bits w3 25 17
        let kn := bits w3 16 14 + 1
        reading x t lo kn (fun t => afterKey (putKey t (bits w3 13 8) (slice x.bytes lo kn)))
      else afterKey t
    if w0.testBit 24 then pushHeader x t (bits w3 7 0) (w0.testBit 25) afterPush else afterPush t)

/-! ### The edge header (R139 to R141) -/

def ehChannel (b : Bytes) : Nat := u8 b 0
def ehKind (b : Bytes) : Nat := u8 b 1 / 32
def ehTb (b : Bytes) : Nat := bits (u8 b 1) 4 2
def ehFlags (b : Bytes) : Nat := u8 b 2
def ehCtrl (b : Bytes) : Nat := u8 b 3
def ehIdent (b : Bytes) : Nat := beN b 4 4
def ehLength (b : Bytes) : Nat := bits (beN b 8 3) 23 12
def ehPrioId (b : Bytes) : Nat := bits (beN b 8 3) 10 0

/-- CAN FD length of a DLC. -/
def fdLength (dlc : Nat) : Nat :=
  [0, 1, 2, 3, 4, 5, 6, 7, 8, 12, 16, 20, 24, 32, 48, 64].getD dlc 64

/-- A frame kind that a channel mode receives (R294). -/
def modeReceives (mode kind : Nat) : Bool :=
  match mode with
  | 1 => kind == 1
  | 2 => kind == 1 || kind == 2
  | 3 => kind == 1 || kind == 2 || kind == 3
  | 4 => kind == 4
  | 5 => kind == 4
  | 7 => kind == 5
  | 8 => kind == 5
  | _ => false

def chanMode (ch : Nat) (s : State) : Nat := (Tbl.get s.edge.ch ch {}).mode

/-- The edge header check of R141 passes; `mode` is the channel's mode on an E port. -/
def edgeHeaderOk (c : CfgSet) (port : Nat) (mode : Option Nat) (b : Bytes) : Bool :=
  let k := ehKind b
  let fl := ehFlags b
  let ct := ehCtrl b
  let id := ehIdent b
  let n := ehLength b
  decide (16 ≤ b.length) && decide (1 ≤ k) && decide (k ≤ 5) && (match mode with
      | some m => modeReceives m k
      | none => true) &&
  decide (b.length = 16 + n) && decide (u8 b 1 % 4 = 0) && !(beN b 8 3).testBit 11 &&
  (match k with
   | 1 => decide (fl < 2) && decide (ct < 16) && decide (n = if fl.testBit 0 then 0 else min ct 8) &&
          !id.testBit 30 && !id.testBit 29 && (id.testBit 31 || decide (bits id 28 11 = 0)) &&
          decide (ehPrioId b = 0) && decide (u8 b 11 = 0)
   | 2 => decide (fl % 2 = 0) && decide (fl < 8) && decide (ct < 16) && decide (n = fdLength ct) &&
          !id.testBit 30 && !id.testBit 29 && (id.testBit 31 || decide (bits id 28 11 = 0)) &&
          decide (ehPrioId b = 0) && decide (u8 b 11 = 0)
   | 3 => decide (fl &&& 0xF6 = 0) && decide (1 ≤ n) && sdtPermitted c port ct
   | 4 => decide (fl < 2) && decide (1 ≤ n) && decide (n ≤ 8) && decide (id < 64) && decide (ehPrioId b = 0) && decide (u8 b 11 = 0)
   | _ => decide (fl < 32) && decide (ct < 64) && decide (n % 2 = 0) && decide (n ≤ 254) && decide (id < 2048) &&
          decide (ehPrioId b = 0) && decide (u8 b 11 = 0))

/-- EDGE_ID of the metadata (R138). -/
def edgeId (b : Bytes) : Nat :=
  match ehKind b with
  | 1 => bits (ehIdent b) 28 0
  | 2 => bits (ehIdent b) 28 0
  | 3 => ehPrioId b
  | 4 => bits (ehIdent b) 5 0
  | 5 => bits (ehIdent b) 10 0
  | _ => 0

/-! ### Threads (R132 to R138) -/

/-- BUS_KIND of a frame (R138); a header whose kind is none of 1 to 5 gives 0 (log entry 104). -/
def frameKind (f : Frame) (s : State) : Nat :=
  if f.edge then (if ehKind f.bytes ≤ 5 then ehKind f.bytes else 0)
  else if 32 ≤ f.port ∧ f.port < 128 ∧ chanMode (f.port - 32) s = 6 then 6 else f.kind

/-- Metadata at thread start (R138). -/
def preload (c : CfgSet) (f : Frame) (kind : Nat) : BitVec 64 :=
  let prio := f.prio.getD (portPrio c f.port)
  let m := setMd (setMd 0 7 0 f.port) 11 8 kind
  let m := if f.edge then setMd m 40 12 (edgeId f.bytes) else m
  setMd (setMd (setMd m 52 41 (portVlan c f.port)) 55 53 prio) 59 59 (b2n f.macsec)

/-- The thread of a frame before its first instruction (R133). -/
def startThread (c : CfgSet) (fid : Nat) (f : Frame) (kind : Nat) : Thread :=
  { fid := fid, pc := entryOf c f.port, md := preload c f kind }

/-- What a parse delivers (R137). -/
def resultOf (t : Thread) (reason profile : Nat) : ParseResult :=
  { reason := reason, profile := profile, key := t.key, stack := t.stack, md := t.md, high := t.high,
    instrs := t.count, nodes := t.nodes, cursor := t.cursor }

/-- The mode that R141 compares with: that of the channel on an E port. -/
def portMode (port : Nat) (s : State) : Option Nat :=
  if 32 ≤ port ∧ port < 128 then some (chanMode (port - 32) s) else none

def ctxOf (v : VFrame) (s : State) : PCtx := { bytes := v.frame.bytes, ended := v.ended, cfg := setOf v.frame.gen s }

def pickerOf (p : Nat) (s : State) : ParseUnit := Tbl.get s.parse.pickers p {}
def walkerOf (n : Nat) (s : State) : ParseUnit := Tbl.get s.parse.walkers n {}

def setPicker (p : Nat) (u : ParseUnit) (s : State) : State :=
  { s with parse := { s.parse with pickers := Tbl.set s.parse.pickers p u {} } }

def setWalker (n : Nat) (u : ParseUnit) (s : State) : State :=
  { s with parse := { s.parse with walkers := Tbl.set s.parse.walkers n u {} } }

/-- Record the end of a parse; the result waits for its turn (R137). -/
def putResult (fid : Nat) (r : ParseResult) (s : State) : State :=
  let s := { s with parse := { s.parse with results := Tbl.insert s.parse.results fid r } }
  match frameOf fid s with
  | none => s
  | some v => pfcCheck v.frame.port (putFrame fid { v with prio := some (mdPrio r.md) } s)

/-- A frame leaves the parser without a result. -/
def forgetParse (fid : Nat) (s : State) : State :=
  { s with parse := { s.parse with
      order := s.parse.order.filter (fun f => f != fid), results := Tbl.erase s.parse.results fid,
      waiting := s.parse.waiting.filter (fun f => f != fid),
      deferred := s.parse.deferred.filter (fun t => t.fid != fid) } }

/-- Drop a frame that is being parsed: its staging cells return. -/
def dropParsed (fid : Nat) (s : State) : State :=
  match frameOf fid s with
  | none => forgetParse fid s
  | some v =>
    let s := forgetParse fid s
    if v.ended then pfcCheck v.frame.port (dropFrame fid s) else putFrame fid { v with staged := false } s

/-- PICKER_THREAD_ALLOCATE: the frame first in commit order gets a thread on a free Picker, its stamp and its edge
header check (R13, R132, R133, R141). -/
def execPickerThreadAllocate (picker : Nat) (s : State) : Res :=
  let u := pickerOf picker s
  match u.job, s.parse.waiting with
  | none, fid :: rest =>
    if u.state ≠ 0 ∨ 48 ≤ picker then .next s else
    match frameOf fid s with
    | none => .next { s with parse := { s.parse with waiting := rest } }
    | some v =>
      let gen := if v.frame.gen = 0 then s.sets.gen else v.frame.gen
      let c := setOf gen s
      let f := { v.frame with gen := gen, kind := frameKind v.frame s }
      let s := putFrame fid { v with frame := f } s
      let s := { s with parse := { s.parse with
          waiting := rest
          order := if s.parse.order.contains fid then s.parse.order else s.parse.order ++ [fid] } }
      let s := if v.reruns = 0 then count f.port 448 s else s
      let t := startThread c fid f f.kind
      if f.edge && !edgeHeaderOk c f.port (portMode f.port s) f.bytes then
        .next (putResult fid (resultOf { t with high := some 15 } 10 0) s)
      else .next (setPicker picker { u with job := some t } s)
  | _, _ => .next s

/-- A word of the parser memories has an uncorrectable error (R162). -/
def badWord (gen kind addr : Nat) (s : State) : Bool := s.parse.badWords.contains (setBOf gen s, kind, addr)

/-- Drop a frame that reached a bad word (R162). -/
def pstoreDrop (fid : Nat) (s : State) : State := raise 61 6 (count 255 69 (dropParsed fid s))

/-- The word at a thread's pc. -/
def wordAt (c : CfgSet) (pc : Nat) : Nat := (Tbl.get c.prog pc 0).toNat

/-- One instruction of a Picker whose word at the pc has opcode `op` (R132, R135, R136). -/
def pickerRun (op : Nat) (eff : PCtx → Nat → Thread → PStep) (picker : Nat) (s : State) : State :=
  let u := pickerOf picker s
  match u.job with
  | none => s
  | some t =>
    match frameOf t.fid s with
    | none => setPicker picker { u with job := none } s
    | some v =>
      let x := ctxOf v s
      let w := wordAt x.cfg t.pc
      if u.state ≠ 0 ∨ t.stalled.isSome ∨ 64 ≤ t.count ∨ opcodeOf w ≠ op then s
      else if badWord v.frame.gen 0 t.pc s ∨ (op = 4 ∧ badWord v.frame.gen 1 (bits w 38 32) s) then
        pstoreDrop t.fid (setPicker picker { u with job := none } s)
      else match eff x w { t with count := t.count + 1 } with
        | .run t' => setPicker picker { u with job := some t' } s
        | .stall n => setPicker picker { u with job := some { t with stalled := some n } } s
        | .fin t' r p => putResult t.fid (resultOf t' r p) (setPicker picker { u with job := none } s)
        | .defer t' =>
          let s := setPicker picker { u with job := none } s
          { s with parse := { s.parse with deferred := s.parse.deferred ++ [t'] } }

/-- LDF. -/
def execLdf (picker : Nat) (s : State) : Res := .next (pickerRun 0x01 opLdf picker s)
/-- CMP. -/
def execCmp (picker : Nat) (s : State) : Res := .next (pickerRun 0x02 opCmp picker s)
/-- BR. -/
def execBr (picker : Nat) (s : State) : Res := .next (pickerRun 0x03 opBr picker s)
/-- JT. -/
def execJt (picker : Nat) (s : State) : Res := .next (pickerRun 0x04 opJt picker s)
/-- ADD. -/
def execAdd (picker : Nat) (s : State) : Res := .next (pickerRun 0x08 opAdd picker s)
/-- SUB. -/
def execSub (picker : Nat) (s : State) : Res := .next (pickerRun 0x09 opSub picker s)
/-- AND. -/
def execAnd (picker : Nat) (s : State) : Res := .next (pickerRun 0x0A opAnd picker s)
/-- OR. -/
def execOr (picker : Nat) (s : State) : Res := .next (pickerRun 0x0B opOr picker s)
/-- SHR. -/
def execShr (picker : Nat) (s : State) : Res := .next (pickerRun 0x0C opShr picker s)
/-- SHL. -/
def execShl (picker : Nat) (s : State) : Res := .next (pickerRun 0x0D opShl picker s)
/-- ADV. -/
def execAdv (picker : Nat) (s : State) : Res := .next (pickerRun 0x10 opAdv picker s)
/-- PUSH. -/
def execPush (picker : Nat) (s : State) : Res := .next (pickerRun 0x11 opPush picker s)
/-- KEY. -/
def execKey (picker : Nat) (s : State) : Res := .next (pickerRun 0x12 opKey picker s)
/-- META. -/
def execMetaField (picker : Nat) (s : State) : Res := .next (pickerRun 0x13 opMeta picker s)
/-- CHKLEN. -/
def execChklen (picker : Nat) (s : State) : Res := .next (pickerRun 0x14 opChklen picker s)
/-- DEFER: the walk is counted when a walker takes it. -/
def execDefer (picker : Nat) (s : State) : Res := .next (pickerRun 0x18 opDefer picker s)
/-- DONE. -/
def execDone (picker : Nat) (s : State) : Res := .next (pickerRun 0x19 opDone picker s)
/-- MAL. -/
def execMal (picker : Nat) (s : State) : Res := .next (pickerRun 0x1A opMal picker s)

/-- A stalled parse may go on: its bytes have arrived or the frame has ended (R135). -/
def wakeThread (t : Thread) (s : State) : Thread :=
  match t.stalled, frameOf t.fid s with
  | some n, some v => if v.ended ∨ n ≤ v.frame.bytes.length then { t with stalled := none } else t
  | _, _ => t

/-- PICKER_STALL_RESUME (R135). -/
def execPickerStallResume (picker : Nat) (s : State) : Res :=
  let u := pickerOf picker s
  .next (setPicker picker { u with job := u.job.map (fun t => wakeThread t s) } s)

/-- PARSE_BUDGET_EXHAUSTED: the 65th instruction is not executed (R136). -/
def execParseBudgetExhausted (picker : Nat) (s : State) : Res :=
  let u := pickerOf picker s
  match u.job with
  | some t =>
    if t.count = 64 then .next (putResult t.fid (resultOf t 4 0) (setPicker picker { u with job := none } s))
    else .next s
  | none => .next s

/-- WALKER_TAKEOVER: a free walker takes the parse first in DEFER order; registers and flags are discarded (R152). -/
def execWalkerTakeover (walker : Nat) (s : State) : Res :=
  let u := walkerOf walker s
  match u.job, s.parse.deferred with
  | none, t :: rest =>
    if u.state ≠ 0 ∨ 8 ≤ walker then .next s
    else
      let t := { t with g := Vector.replicate 16 0, z := false, c := false }
      let s := { s with parse := { s.parse with deferred := rest } }
      .next (count 255 66 (setWalker walker { u with job := some t } s))
  | _, _ => .next s

/-- One node of a walker, for visits below the limit or at it (R150). -/
def walkerRun (atLimit : Bool) (walker : Nat) (s : State) : State :=
  let u := walkerOf walker s
  match u.job with
  | none => s
  | some t =>
    match frameOf t.fid s with
    | none => setWalker walker { u with job := none } s
    | some v =>
      let t := wakeThread t s
      if u.state ≠ 0 ∨ t.stalled.isSome ∨ (decide (t.nodes = 23) != atLimit) then s
      else if badWord v.frame.gen 2 t.node s then pstoreDrop t.fid (setWalker walker { u with job := none } s)
      else match nodeVisit (ctxOf v s) t with
        | .run t' => count 255 67 (setWalker walker { u with job := some t' } s)
        | .stall n => setWalker walker { u with job := some { t with stalled := some n } } s
        | .fin t' r p => putResult t.fid (resultOf t' r p) (count 255 67 (setWalker walker { u with job := none } s))
        | .defer _ => s

/-- TRELLIS_NODE_VISIT: a visit before the 24th (R150). -/
def execTrellisNodeVisit (walker : Nat) (s : State) : Res := .next (walkerRun false walker s)

/-- TRELLIS_VISIT_LIMIT: the 24th visit, which ends with GRAPH_LOOP unless the walk ends there (R150). -/
def execTrellisVisitLimit (walker : Nat) (s : State) : Res := .next (walkerRun true walker s)

/-! ### Faults (R160 to R163) -/

/-- Units of a kind in service. -/
def unitsInService (walkers : Bool) (s : State) : Nat :=
  if walkers then countIf (fun n => decide ((walkerOf n s).state = 0)) (List.range 8)
  else countIf (fun p => decide ((pickerOf p s).state = 0)) (List.range 48)

/-- Level-1 index of a unit (R161). -/
def unitLoc (isWalker : Bool) (n : Nat) : Nat := locDevIdx (if isWalker then 64 + n else n)

/-- BELOW_CAPACITY when a retirement leaves more than 8 Pickers or any walker out of service (R163, R164). -/
def capacityCheck (s : State) : State :=
  let below := decide (unitsInService false s < 40) || decide (unitsInService true s < 8)
  let s' := { s with parse := { s.parse with below := below } }
  if below && !s.parse.below then raise 61 3 s' else s'

def unitOf (isWalker : Bool) (n : Nat) (s : State) : ParseUnit := if isWalker then walkerOf n s else pickerOf n s
def setUnit (isWalker : Bool) (n : Nat) (u : ParseUnit) (s : State) : State :=
  if isWalker then setWalker n u s else setPicker n u s

/-- Put a frame back to the front of the wait for a Picker: it is parsed again from the start (R160). -/
def rerunFrame (fid : Nat) (s : State) : State :=
  { s with parse := { s.parse with waiting := fid :: s.parse.waiting } }

/-- The thread of a unit is run again elsewhere without a fault (R161, R519). -/
def evictUnit (isWalker : Bool) (n : Nat) (s : State) : State :=
  let u := unitOf isWalker n s
  match u.job with
  | none => s
  | some t => rerunFrame t.fid (setUnit isWalker n { u with job := none } s)

/-- Retirement of a Picker or walker: its thread is re-run, EV61, an error record and the alarm (R161, R532). -/
def retireUnit (isWalker : Bool) (n : Nat) (s : State) : State :=
  let s := evictUnit isWalker n s
  let s := setUnit isWalker n { unitOf isWalker n s with state := 1 } s
  let l := unitLoc isWalker n
  let b := if isWalker then 2 else 1
  capacityCheck (alarm 10 l (trace 2 61 b l (raise 61 b s)))

/-- PICKER_FAULT_RERUN: a fault detected in the unit's parse (R160, R161). -/
def execPickerFaultRerun (isWalker : Bool) (unit : Nat) (s : State) : Res :=
  let u := unitOf isWalker unit s
  match u.job with
  | none => .next s
  | some t =>
    let again := match u.lastFault with
      | some t0 => decide (now s ≤ t0 + 10000000000)
      | none => false
    let s := setUnit isWalker unit
      { u with job := none, faults := satAdd max32 u.faults 1, lastFault := some (now s) } s
    let s := match frameOf t.fid s with
      | none => s
      | some v =>
        if v.reruns = 2 then raise 61 4 (count 255 65 (dropParsed t.fid s))
        else raise 61 0 (count 255 64 (rerunFrame t.fid (putFrame t.fid { v with reruns := v.reruns + 1 } s)))
    .next (if again && decide (u.state = 0) then retireUnit isWalker unit s else s)

/-- The frames whose parse is at a word of the parser memories. -/
def framesAt (setB : Bool) (kind addr : Nat) (s : State) : List Nat :=
  let ofSet (fid : Nat) : Bool := match frameOf fid s with
    | some v => setBOf v.frame.gen s == setB
    | none => false
  if kind = 2 then
    (s.parse.walkers.filterMap (fun e => e.2.job)).filterMap (fun t => if t.node = addr ∧ ofSet t.fid then some t.fid else none)
  else
    (s.parse.pickers.filterMap (fun e => e.2.job)).filterMap (fun t => if kind = 0 ∧ t.pc = addr ∧ ofSet t.fid then some t.fid else none)

/-- PSTORE_ECC_ERROR: kind 0 an instruction, 1 a jump table, 2 a node (R162). -/
def execPstoreEccError (setB : Bool) (kind addr : Nat) (ue : Bool) (s : State) : Res :=
  let s := memoryError 5 (65536 * kind + addr) ue s
  if ue then
    let s := { s with parse := { s.parse with badWords := (setB, kind, addr) :: s.parse.badWords } }
    let fids := framesAt setB kind addr s
    let drop (t : Option Thread) : Option Thread := t.bind (fun t => if fids.contains t.fid then none else some t)
    let s := forEach s.parse.pickers (fun e s => setPicker e.1 { e.2 with job := drop e.2.job } s) s
    let s := forEach s.parse.walkers (fun e s => setWalker e.1 { e.2 with job := drop e.2.job } s) s
    let s := forEach fids (fun f s => pstoreDrop f s) s
    .next (alarm 16 locDev (raise 61 6 s))
  else .next (raise 61 5 (count 255 68 s))

/-- PSTORE_REWRITE: the word is whole again (R162). -/
def execPstoreRewrite (setB : Bool) (kind addr : Nat) (s : State) : Res :=
  .next { s with parse := { s.parse with badWords := s.parse.badWords.filter (fun w => !(w == (setB, kind, addr))) } }

/-! ### A whole parse at once (CMD_PARSE_TRY) -/

/-- Run the Trellis to its end. -/
def runNodes (x : PCtx) : Nat → Thread → ParseResult
  | 0, t => resultOf t 9 0
  | fuel + 1, t =>
    match nodeVisit x t with
    | .run t' => runNodes x fuel t'
    | .fin t' r p => resultOf t' r p
    | _ => resultOf t 8 0

/-- Run a program to its end under the budget (R136). -/
def runPicker (x : PCtx) : Nat → Thread → ParseResult
  | 0, t => resultOf t 4 0
  | fuel + 1, t =>
    match opAny x (wordAt x.cfg t.pc) { t with count := t.count + 1 } with
    | .run t' => runPicker x fuel t'
    | .fin t' r p => resultOf t' r p
    | .defer t' => runNodes x 24 t'
    | .stall _ => resultOf t 8 0

/-- The parse of a whole frame under a set (R133 to R153). -/
def parseWhole (c : CfgSet) (f : Frame) (kind : Nat) (mode : Option Nat) : ParseResult :=
  let t := startThread c 0 f kind
  if f.edge && !edgeHeaderOk c f.port mode f.bytes then resultOf { t with high := some 15 } 10 0
  else runPicker { bytes := f.bytes, ended := true, cfg := c } 64 t

end Sys2Proof.Machine
end

