-- ==== Sys2Proof/Machine/Classify.lean ====
section
/-! DEFINITION. Classification: the exact-match pool, bridging and learning, the ternary banks, the merged action, zones,
anomaly monitors, Fox samples and mirror copies (spec/06). -/

namespace Sys2Proof.Machine

/-! ### The exact-match pool (R172 to R175) -/

/-- Bucket of a kind and key (R173). -/
def emBucket (kind : Nat) (key : Bytes) : Nat := (crc32c (b1 kind ++ slice key 0 16)).toNat % 65536

/-- The entry of a kind and key, with its index (R175). -/
def emFind (c : CfgSet) (kind : Nat) (key : Bytes) : Option (Nat × EmEntry) :=
  c.em.find? (fun e => decide (e.2.kind = kind) && e.2.key == key)

def emCount (c : CfgSet) (kind : Nat) : Nat := countIf (fun e => decide (e.2.kind = kind)) c.em

/-- Stash slots in use. -/
def stashUsed (c : CfgSet) : Nat := countIf (fun e => decide (262144 ≤ e.1)) c.em

def quotaOf (c : CfgSet) (kind : Nat) : Nat := c.quotas.getD (kind - 1) 0

/-- The index a new entry takes: the lowest free way of its bucket, else the lowest free stash slot (R173). -/
def emPlace (c : CfgSet) (kind : Nat) (key : Bytes) : Option Nat :=
  let b := emBucket kind key
  match (List.range 4).find? (fun w => (Tbl.find c.em (4 * b + w)).isNone) with
  | some w => some (4 * b + w)
  | none => ((List.range 256).find? (fun i => (Tbl.find c.em (262144 + i)).isNone)).map (262144 + ·)

/-- Remove the entry at an index; the lowest stash slot of the bucket moves into the freed way (R173). -/
def emRemove (c : CfgSet) (idx : Nat) : CfgSet :=
  let em := Tbl.erase c.em idx
  if idx < 262144 then
    match em.find? (fun e => decide (262144 ≤ e.1) && decide (emBucket e.2.kind e.2.key = idx / 4)) with
    | some (i, e) => { c with em := Tbl.insert (Tbl.erase em i) idx e }
    | none => { c with em := em }
  else { c with em := em }

/-- STASH_HIGH and STASH_75 after an add (R198, R200). -/
def stashNote (c : CfgSet) (s : State) : State :=
  let n := stashUsed c
  let s := countMax 255 83 n s
  if 192 < n then raise 62 2 s else s

/-! ### Bridging and learning (R176 to R180) -/

/-- The MAC/VLAN key of an address and a VLAN (R176). -/
def macKey (addr : Bytes) (vlan : Nat) : Bytes := slice addr 0 6 ++ be 2 (vlan % 4096) ++ zeros 8

/-- A frame that bridging and learning look at (R176, R178). -/
def ethKind (k : Nat) : Bool := k == 0 || k == 6

/-- The source address is unicast. -/
def srcUnicast (b : Bytes) : Bool := !bit b 6 0

/-- A static kind-1 entry is on a port other than the frame's (R180); an entry that names a group is on no port
(log entry 105). -/
def saViolation (c : CfgSet) (b : Bytes) (vlan port : Nat) : Bool :=
  match emFind c 1 (macKey (slice b 6 6) vlan) with
  | some (_, e) => e.static && decide (e.result < 32768) && decide (e.result % 256 ≠ port)
  | none => false

/-- Why an add to the pool fails. -/
inductive EmRefuse where
  | quota | full
deriving DecidableEq, Repr, Inhabited

/-- Add an entry under the quota and the room of the pool (R172, R173). -/
def emAdd (c : CfgSet) (e : EmEntry) : Except EmRefuse (Nat × CfgSet) :=
  if quotaOf c e.kind ≤ emCount c e.kind then .error .quota
  else match emPlace c e.kind e.key with
    | none => .error .full
    | some i => .ok (i, { c with em := Tbl.insert c.em i e })

/-- Rewrite the entry of a key in a pool, if it is there and dynamic. -/
def emTouch (c : CfgSet) (key : Bytes) (port : Nat) : CfgSet :=
  match emFind c 1 key with
  | some (i, e) => if e.static then c else { c with em := Tbl.insert c.em i { e with hit := true, result := port } }
  | none => c

/-- A change that goes into the active pool and, while it is READY or ARMED, the shadow's (R179). -/
def bothPools (f : CfgSet → CfgSet) (s : State) : State :=
  let s := withActive (f (activeSet s)) s
  if s.sets.shadow = .ready ∨ s.sets.shadow = .armed then withShadow (f (shadowSet s)) s else s

/-- A learned address goes into the shadow's pool too; a static entry written there stands (R175, R179). -/
def learnShadow (key : Bytes) (port : Nat) (s : State) : State :=
  match emFind (shadowSet s) 1 key with
  | some _ => withShadow (emTouch (shadowSet s) key port) s
  | none =>
    match emAdd (shadowSet s) { kind := 1, hit := true, result := port, key := key } with
    | .ok (_, c) => withShadow c s
    | .error _ => raise 62 0 (count 255 81 s)

/-- Learn from a frame that meets the conditions of R179. -/
def learn (b : Bytes) (vlan port : Nat) (s : State) : State :=
  let key := macKey (slice b 6 6) vlan
  let c := activeSet s
  match emFind c 1 key with
  | some (_, e) =>
    if e.static then s
    else if e.result = port then bothPools (fun c => emTouch c key port) s
    else raise 62 3 (count port 473 (bothPools (fun c => emTouch c key port) s))
  | none =>
    let lim := portLearnLimit c port
    if 0 < lim ∧ lim ≤ countIf (fun e => decide (e.2.kind = 1) && !e.2.static && decide (e.2.result = port)) c.em then
      raise 62 1 (count port 471 s)
    else match emAdd c { kind := 1, hit := true, result := port, key := key } with
      | .error .quota => count 255 81 s
      | .error .full => raise 62 0 (count 255 81 s)
      | .ok (_, c') =>
        let s := stashNote c' (count 255 80 (withActive c' s))
        if s.sets.shadow = .ready ∨ s.sets.shadow = .armed then learnShadow key port s else s

/-! ### The merged action (R184, R185) -/

/-- A forwarding copy before its queue is chosen: its egress port, and the ring of a FLOOD_RING copy. -/
structure Fwd where
  port : Nat := 0
  ring : Option Nat := none
deriving DecidableEq, Repr, Inhabited

/-- The merged action (R185). -/
structure Merged where
  /-- FWD_KIND and the entry that gave it. -/
  fwd : Nat := 0
  dest : Nat := 0
  group : Nat := 0
  fwdFrom : Nat := 0xFFFFFFFF
  drop : Bool := false
  /-- Rings with the ACTION_ID of their copy (R186, R190). -/
  rings : List (Nat × Nat) := []
  mirror : Nat := 0
  queue : Option Nat := none
  meter : Option Nat := none
  stream : Option Nat := none
  rewrite : Option Nat := none
  anomaly : Option Nat := none
  tunnel : Option Nat := none
  zone : Nat := 0
deriving DecidableEq, Repr, Inhabited

/-- A 16-bit index field, 0xFFFF for none. -/
def idx16 (b : Bytes) (i : Nat) : Option Nat := if u16 b i = 0xFFFF then none else some (u16 b i)

/-- Name a ring once; the first name gives the ACTION_ID (R186). -/
def addRing (l : List (Nat × Nat)) (ring id : Nat) : List (Nat × Nat) :=
  if l.any (fun e => e.1 == ring) then l else l ++ [(ring, id)]

/-- merge(a, x) of R185 for entry `n` with contents `x`. -/
def mergeAction (a : Merged) (n : Nat) (x : Bytes) : Merged :=
  let k := u8 x 0
  let a := if k = 1 then { a with drop := true }
           else if k = 0 then a
           else { a with fwd := k, dest := u8 x 1, group := u16 x 2, fwdFrom := n }
  let a := if bit x 5 7 then { a with rings := addRing a.rings (u8 x 5 % 32) n } else a
  { a with
    mirror := a.mirror ||| (u8 x 6 % 16),
    queue := if bit x 4 7 then some (u8 x 4 % 32) else a.queue,
    zone := if bit x 7 7 then u8 x 7 % 32 else a.zone,
    meter := (idx16 x 8).or a.meter, stream := (idx16 x 10).or a.stream, rewrite := (idx16 x 12).or a.rewrite,
    anomaly := (idx16 x 14).or a.anomaly, tunnel := (idx16 x 16).or a.tunnel }

/-- Merge action entry `n` into the action of a frame of port `p`: hit counter and LOG record (R184, R199, R533). -/
def mergeEntry (c : CfgSet) (p idx n : Nat) (a : Merged) (s : State) : Merged × State :=
  let x := actionOf c n
  let s := countEntry 0 n s
  let s := if bit x 18 0 then
      traceRec 0 0xFF 0xFF (locDevIdx idx) (Config.recordCode 100000).toNat (b4 n ++ b1 p ++ zeros 7) s
    else s
  (mergeAction a n x, s)

/-! ### Keys (R168) -/

/-- The byte a selector names. -/
def selByte (r : ParseResult) (zone : Nat) (v : Nat) : Byte :=
  if v < 48 then r.key.getD v 0
  else if v < 56 then BitVec.ofNat 8 (r.md.toNat / 256 ^ (v - 48))
  else if v = 56 then BitVec.ofNat 8 zone
  else if v = 57 then BitVec.ofNat 8 r.profile
  else 0

/-- A key built from a profile's selectors. -/
def selKey (r : ParseResult) (zone : Nat) (sel : Bytes) : Bytes := sel.map (fun v => selByte r zone v.toNat)

/-- A ternary rule matches a key (R182). -/
def ternaryHit (rule key : Bytes) : Bool :=
  bit rule 0 0 && (List.range 40).all (fun i => (key.getD i 0 &&& rule.getD (48 + i) 0) == rule.getD (8 + i) 0)

/-- The best rule of a bank: highest PRIORITY, then lowest index (R183). -/
def bestRule (c : CfgSet) (bank : Nat) (key : Bytes) : Option (Nat × Bytes) :=
  c.ternary.foldl (fun best e =>
    if e.1 / 2048 = bank ∧ ternaryHit e.2 key then
      match best with
      | some (i, b) => if u16 b 2 < u16 e.2 2 then some (e.1, e.2) else some (i, b)
      | none => some (e.1, e.2)
    else best) none

/-- Enabled banks in ascending RANK (R183). -/
def banksInOrder (c : CfgSet) (enabled : Nat) : List Nat :=
  (List.range 4).flatMap (fun rank => (List.range 4).filter (fun b => c.ranks.getD b 0 == rank && enabled.testBit b))

/-! ### Zones (R169 to R171) -/

/-- An identifier range matches (R169). -/
def rangeHit (x : Bytes) (chan : Nat) (ide : Bool) (id : Nat) : Bool :=
  bit x 0 0 && (u8 x 1 == 0xFF || u8 x 1 == chan) && (bit x 2 0 == ide) &&
  decide (u32 x 4 % 536870912 ≤ id) && decide (id ≤ u32 x 8 % 536870912)

/-- The source zone of a frame (R169). -/
def sourceZone (c : CfgSet) (f : Frame) (r : ParseResult) : Nat :=
  match f.zone with
  | some z => z
  | none =>
    let k := mdKind r.md
    if 32 ≤ f.port ∧ f.port < 128 ∧ f.edge ∧ 1 ≤ k ∧ k ≤ 3 then
      let ide := if k = 3 then false else (ehIdent f.bytes).testBit 31
      match c.ranges.find? (fun e => rangeHit e.2 (f.port - 32) ide (mdEdgeId r.md)) with
      | some (_, x) => u8 x 3
      | none => portZone c f.port
    else portZone c f.port

/-- Stage 4 over the forwarding copies: those kept, and the first ZONE_RING copy asked for (R171, R187, R197, R200). -/
def zoneCheck (c : CfgSet) (ingress zone : Nat) : List Fwd → Option Nat → State → List Fwd × Option Nat × State
  | [], z, s => ([], z, s)
  | x :: rest, z, s =>
    if x.port = 131 ∨ x.port = 132 then
      let (l, z, s) := zoneCheck c ingress zone rest z s
      (x :: l, z, s)
    else
      let d := portZone c x.port
      let pol := zonePolicy c zone d
      let z := if 2 ≤ pol then z.or (some (0x10000 + 32 * zone + d)) else z
      if pol = 1 ∨ pol = 2 then
        let (l, z, s) := zoneCheck c ingress zone rest z s
        (x :: l, z, s)
      else zoneCheck c ingress zone rest z (raise 63 zone (countEntry 2 (32 * zone + d) (count ingress 468 s)))

/-! ### Forward decision (R177, R185) -/

/-- What the forward decision came to. -/
inductive Decision where
  | copies (l : List Fwd)
  | drop
  | unknown
  | undecided
deriving DecidableEq, Repr, Inhabited

/-- The members of a mask other than the ingress port (R177). -/
def membersOf (m : Bytes) (ingress : Nat) : List Fwd :=
  ((maskPorts m).filter (fun p => isPort p && p != ingress)).map (fun p => { port := p })

/-- BRIDGE (R176, R177). -/
def bridge (c : CfgSet) (f : Frame) (r : ParseResult) : Decision :=
  let vlan := mdVlan r.md
  match emFind c 1 (macKey (slice f.bytes 0 6) vlan) with
  | some (_, e) =>
    if e.static ∧ e.result.testBit 14 then .drop
    else if e.result.testBit 15 then .copies (membersOf (mcastOf c (e.result % 4096)) f.port)
    else .copies [{ port := e.result % 256 }]
  | none =>
    match vlanFloodMode c vlan with
    | 0 => .copies (membersOf (vlanMembers c vlan) f.port)
    | 1 => .unknown
    | _ => .copies [{ port := 128, ring := some (vlanFloodRing c vlan) }]

/-- The forward decision of a merged action (R185); `look` says whether the MAC/VLAN lookup is made. -/
def decide_ (c : CfgSet) (f : Frame) (r : ParseResult) (look : Bool) (a : Merged) : Decision :=
  if a.drop then .drop
  else match a.fwd with
    | 2 => .copies [{ port := a.dest }]
    | 3 => .copies (membersOf (mcastOf c a.group) f.port)
    | 4 => .copies (membersOf (vlanMembers c (mdVlan r.md)) f.port)
    | 5 => if look ∧ ethKind (mdKind r.md) then bridge c f r else .undecided
    | _ => .undecided

/-! ### Anomaly monitors (R188 to R192) -/

/-- The verdict of a monitor on a frame taken in at TB0 time `t`, and its running state: PERIOD, COUNT (R189). -/
def monitorJudge (m : Bytes) (st : MonState) (t : Nat) : Bool × Bool × MonState :=
  let w := t / 100000000
  let n := if st.window = w ∧ st.count ≠ 0 then st.count + 1 else 1
  let period := match st.prev with
    | some p => decide (u16 m 0 ≠ 0) && decide (t < p + u16 m 0 * 1000)
    | none => false
  (period, decide (u16 m 2 ≠ 0) && decide (u16 m 2 < n), { prev := some t, window := w, count := n })

/-- The anomaly check of a frame, merged into its action (R190, R192). True when it merged DROP. -/
def anomalyCheck (c : CfgSet) (port m t : Nat) (a : Merged) (s : State) : Merged × Bool × State :=
  let x := monitorOf c m
  let (per, cnt, st) := monitorJudge x (Tbl.get s.flow.monitors m {}) t
  let s := { s with flow := { s.flow with monitors := Tbl.set s.flow.monitors m st {} } }
  let s := if per then raise 64 0 (countEntry 3 m s) else s
  let s := if cnt then raise 64 1 (countEntry 4 m s) else s
  if per || cnt then
    let act := u8 x 4
    let a := if act = 2 ∨ act = 3 then { a with rings := addRing a.rings (u8 x 5) (0x20000 + m) } else a
    if act = 1 ∨ act = 3 then ({ a with drop := true }, true, count port 477 s) else (a, false, s)
  else (a, false, s)

/-! ### A frame through the stages (R165, R166) -/

/-- What classification delivers to policing (R185). -/
structure ClsOut where
  action : Merged := {}
  /-- Forwarding copies after stage 4. -/
  fwd : List Fwd := []
  /-- Host copies by ring with ACTION_ID and REASON. -/
  hosts : List (Nat × Nat × Nat) := []
  /-- Mirror sessions (R195). -/
  sessions : Nat := 0
  /-- OUTCOME of a Fox sample (R194). -/
  outcome : Nat := 0
deriving DecidableEq, Repr, Inhabited

/-- The lookups 1 to 3 of a profile (R175). -/
def emStage (c : CfgSet) (f : Frame) (r : ParseResult) (zone : Nat) (a : Merged) (s : State) : Merged × State :=
  let p := profileOf c r.profile
  [0, 1, 2].foldl (fun acc i =>
    let (a, s) := acc
    let b := 4 + 20 * i
    let k := u8 p b
    if k = 0 then (a, s)
    else match emFind c k (selKey r zone (slice p (b + 4) 16)) with
      | some (idx, e) => mergeEntry c f.port idx e.result a s
      | none =>
        let s := count f.port 467 s
        if u16 p (b + 2) = 0xFFFF then (a, s) else mergeEntry c f.port noIdx (u16 p (b + 2)) a s) (a, s)

/-- The ternary banks of a profile (R183). -/
def ternaryStage (c : CfgSet) (f : Frame) (r : ParseResult) (zone : Nat) (a : Merged) (s : State) : Merged × State :=
  let p := profileOf c r.profile
  let key := selKey r zone (slice p 64 40)
  (banksInOrder c (u8 p 1 % 16)).foldl (fun acc bk =>
    let (a, s) := acc
    match bestRule c bk key with
    | some (i, x) => mergeEntry c f.port i (u16 x 4) a (countEntry 1 i s)
    | none => (a, s)) (a, s)

/-- Stages 1 to 4 of a frame; `l2` for a FORWARD_L2 frame (R166, R185). -/
def classify (f : Frame) (r : ParseResult) (l2 : Bool) (s : State) : ClsOut × State :=
  let c := setOf f.gen s
  let s := count f.port 464 s
  let zone := sourceZone c f r
  let vlan := mdVlan r.md
  let eth := ethKind (mdKind r.md)
  -- stage 1
  let a : Merged := { mirror := mirrorIn c f.port, zone := zone }
  let (a, s) := if portAction c f.port = 0xFFFF then (a, s) else mergeEntry c f.port noIdx (portAction c f.port) a s
  let vlanDrop := eth && (!vlanValid c vlan || (portIngressFilter c f.port && !(maskPorts (vlanMembers c vlan)).contains f.port))
  let s := if vlanDrop then count f.port 469 s else s
  let sa := eth && srcUnicast f.bytes && saViolation c f.bytes vlan f.port
  let s := if sa then raise 62 4 (count f.port 472 s) else s
  let saDrop := sa && portSaDrop c f.port
  let prof := profileOf c r.profile
  let s :=
    if !l2 && eth && bit prof 0 1 && portLearn c f.port && vlanLearn c vlan && srcUnicast f.bytes && !vlanDrop && !saDrop && !a.drop
    then learn f.bytes vlan f.port s else s
  -- stages 2 and 3, and the anomaly verdict
  let (a, byAnomaly, s) :=
    if l2 then ({ a with fwd := 5 }, false, s)
    else
      let (a, s) := emStage c f r zone a s
      let (a, s) := ternaryStage c f r zone a s
      match a.anomaly with
      | some m =>
        let before := a.drop
        let (a, d, s) := anomalyCheck c f.port m (f.ts.getD 0 0) a s
        (a, d && !before, s)
      | none => (a, false, s)
  -- the forward decision; a DROP action counts beside a drop at stage 1 (log entry 106)
  let d := if (vlanDrop || saDrop) && !a.drop then Decision.copies [] else decide_ c f r (l2 || bit prof 0 0) a
  let s := match d with
    | .drop => if byAnomaly then s else count f.port 465 s
    | .unknown => count f.port 470 s
    | .undecided => count f.port 466 s
    | .copies _ => s
  let all := match d with
    | .copies l => l
    | _ => []
  -- stage 4
  let (kept, zr, s) := zoneCheck c f.port a.zone all none s
  let outcome :=
    if vlanDrop then 6 else if saDrop then (Config.foxOutcome 0).toNat
    else match d with
      | .drop => if byAnomaly then 4 else 1
      | .unknown => (Config.foxOutcome 1).toNat
      | .undecided => 2
      | .copies _ => if kept.isEmpty && !all.isEmpty then 3 else 0
  let sessions := kept.foldl (fun m x => m ||| mirrorOut c x.port) a.mirror
  let hosts := a.rings.map (fun e => (e.1, e.2, 1)) ++ (match zr with
    | some id => [(c.zoneRing, id, 1)]
    | none => [])
  ({ action := a, fwd := kept, hosts := hosts, sessions := sessions, outcome := outcome }, s)

/-! ### Copies (R186 to R195) -/

/-- Queue of a forwarding copy; `ipv` replaces the TC on B, T and logical ports (R186, R260). -/
def fwdQueue (c : CfgSet) (a : Merged) (prio : Nat) (ipv : Option Nat) (x : Fwd) : Nat :=
  let tc := match ipv with
    | some t => t
    | none => match a.queue with
      | some q => q % 8
      | none => prioTc c x.port prio
  if x.port < 32 then 8 * x.port + tc
  else if x.port < 128 then 256 + 4 * (x.port - 32) + (match a.queue with
    | some q => q % 4
    | none => portQueueDefault c x.port % 4)
  else if x.port = 128 then 640 + (x.ring.getD ((a.queue.getD (portQueueDefault c 128)) % 32))
  else if x.port = 131 then 672 else if x.port = 130 then 673 else if x.port = 132 then 674
  else 680 + 8 * (x.port - 136) + tc

/-- What every copy of a frame carries. -/
def baseCopy (f : Frame) (r : ParseResult) (a : Merged) : Copy :=
  { len := f.bytes.length, gen := f.gen, launch := f.launch, colour := mdColour r.md, ingress := f.port, mal := r.reason,
    rewrite := a.rewrite, tunnel := a.tunnel, md := r.md, stack := r.stack, zone := a.zone }

/-- A forwarding copy on its queue. -/
def fwdCopy (c : CfgSet) (f : Frame) (r : ParseResult) (a : Merged) (ipv : Option Nat) (x : Fwd) : Copy :=
  { baseCopy f r a with egress := x.port, queue := fwdQueue c a (mdPrio r.md) ipv x, actionId := a.fwdFrom,
                        ctrl := decide (x.port = 130) }

/-- A host copy of a ring. -/
def hostCopy (f : Frame) (r : ParseResult) (a : Merged) (ring id reason : Nat) (cut : Option Nat) : Copy :=
  { baseCopy f r a with egress := 128, queue := 640 + ring, actionId := id, reason := reason, trunc := cut, launch := none }

/-- A mirror copy of session `i`: the frame as received (R195). -/
def mirrorCopy (c : CfgSet) (f : Frame) (r : ParseResult) (a : Merged) (i : Nat) : Copy :=
  let m := mirrorOf c i
  let p := u8 m 0
  { baseCopy f r a with
    egress := p, queue := if p = 128 then 640 + u8 m 1 % 32 else 8 * p + u8 m 1 % 8, actionId := a.fwdFrom,
    reason := 4, mirror := some i, trunc := if u16 m 3 = 0 then none else some (u16 m 3), launch := none,
    rewrite := none, tunnel := none }

/-- Whether a sampler takes this frame, and its count (R193). `dir` is 0 ingress, 1 egress. -/
def foxTake (c : CfgSet) (port dir : Nat) (s : State) : Bool × State :=
  let n := u16 (foxOf c port) (6 * dir)
  if n = 0 then (false, s)
  else
    let k := 2 * port + dir
    let cnt := Tbl.get s.flow.foxCount k 0 + 1
    if n ≤ cnt then
      (true, { s with flow := { s.flow with
        foxCount := Tbl.set s.flow.foxCount k 0 0
        foxSeq := Tbl.set s.flow.foxSeq k ((Tbl.get s.flow.foxSeq k 0 + 1) % 4294967296) 0 } })
    else (false, { s with flow := { s.flow with foxCount := Tbl.set s.flow.foxCount k cnt 0 } })

/-- A Fox sample of a frame or copy (R194). -/
def foxCopy (c : CfgSet) (port dir origLen outcome zone copies id : Nat) (base : Copy) (s : State) : Copy :=
  let x := foxOf c port
  let hdr := b1 dir ++ b1 port ++ b2 origLen ++ b4 (Tbl.get s.flow.foxSeq (2 * port + dir) 0) ++ b1 outcome ++ b1 zone ++
    b2 copies ++ zeros 4
  { base with egress := 128, queue := 640 + u8 x (6 * dir + 3) % 32, reason := 3, actionId := id, hdr := hdr,
              trunc := some (64 * 2 ^ (u8 x (6 * dir + 2))), fox := some port, launch := none, mirror := none }

/-- The ingress sample of a frame, if its sampler takes it (R193). -/
def foxIngress (c : CfgSet) (f : Frame) (r : ParseResult) (o : ClsOut) (s : State) : List Copy × State :=
  let (take, s) := foxTake c f.port 0 s
  if take then
    let id := if r.reason = 0 then o.action.fwdFrom else 0xFFFFFFFF
    ([foxCopy c f.port 0 f.bytes.length o.outcome o.action.zone o.fwd.length id (baseCopy f r o.action) s],
     count f.port 474 s)
  else ([], s)

/-- Insert by a key, keeping equal keys in order. -/
def insertBy {α : Type} (key : α → Nat) (x : α) : List α → List α
  | [] => [x]
  | y :: rest => if key x < key y then x :: y :: rest else y :: insertBy key x rest

/-- Sort by a key, keeping equal keys in order. -/
def sortBy {α : Type} (key : α → Nat) (l : List α) : List α := l.foldl (fun acc x => insertBy key x acc) []

/-- All copies of a frame in the order of R212: forwarding by egress port and queue, host by ring, mirror by session,
then the Fox sample. -/
def orderCopies (fwd hosts mirrors fox : List Copy) : List Copy :=
  sortBy (fun x => 1024 * x.egress + x.queue) fwd ++ sortBy (fun x => x.queue) hosts ++ mirrors ++ fox

/-! ### Ageing and table faults (R181, R196) -/

/-- One scan of a pool: how many entries it removes, and the pool after it. -/
def agePool (c : CfgSet) : Nat × CfgSet :=
  let old := c.em.filter (fun e => decide (e.2.kind = 1) && !e.2.static && !e.2.hit)
  let c := old.foldl (fun c e => match emFind c 1 e.2.key with
    | some (i, _) => emRemove c i
    | none => c) c
  (old.length, { c with em := c.em.map (fun e =>
    if e.2.kind = 1 ∧ e.2.static = false then (e.1, { e.2 with hit := false }) else e) })

/-- MAC_AGE_SCAN (R181). -/
def execMacAgeScan (s : State) : Res :=
  if s.flow.ageS = 0 then .next s
  else
    let (n, c) := agePool (activeSet s)
    let s := countN 255 82 n (withActive c s)
    .next (if s.sets.shadow = .ready ∨ s.sets.shadow = .armed then withShadow (agePool (shadowSet s)).2 s else s)

/-- TABLE_ECC_ERROR: a word of table `table` (0 pool, 1 ternary, 2 actions, 3 profiles, 4 zone tables) of a set, at entry
`index` (R196). An uncorrectable error drops the frame first in line for classification on any port whose stamp names
that set. -/
def execTableEccError (setB : Bool) (table index : Nat) (ue : Bool) (s : State) : Res :=
  let s := memoryError ([2, 3, 4, 4].getD table 11) index ue s
  if ue then
    let s := { s with flow := { s.flow with badWords := (setB, table, index) :: s.flow.badWords } }
    let s := raise 66 1 s
    let hit := s.parse.order.find? (fun fid =>
      (Tbl.find s.parse.results fid).isSome && (match frameOf fid s with
        | some v => setBOf v.frame.gen s == setB
        | none => false))
    let s := match hit with
      | some fid => count 255 85 (dropParsed fid s)
      | none => s
    .next (alarm 16 locDev s)
  else .next (raise 66 0 (count 255 84 s))

/-- TABLE_WORD_REWRITE: Diesh rewrites the word, or deletes a lost dynamic entry (R196). -/
def execTableWordRewrite (setB : Bool) (table index : Nat) (s : State) : Res :=
  if s.flow.badWords.contains (setB, table, index) then
    let s := { s with flow := { s.flow with badWords := s.flow.badWords.filter (fun w => !(w == (setB, table, index))) } }
    let c := if setB then s.sets.b else s.sets.a
    let c' := match table, Tbl.find c.em index with
      | 0, some e => if e.kind = 1 ∧ e.static = false then emRemove c index else c
      | _, _ => c
    .next (if setB then { s with sets := { s.sets with b := c' } } else { s with sets := { s.sets with a := c' } })
  else .next s

end Sys2Proof.Machine
end

