-- ==== Sys2Proof/Machine/Confirm.lean ====
section
/-! DEFINITION. Confirmation of a wake after an exit (spec/14, R448, R449). -/

namespace Sys2Proof.Machine

/-- A wake that needs the confirmation of R448: EDGE_ACT, TMC_WAKE or a PHY's. -/
def needsConfirm (w : Wake) : Bool := w.source == 25 || w.source == 27 || (decide (8 ≤ w.source) && decide (w.source < 22))

/-- Key of the run of false wakes of a source, by channel for EDGE_ACT and TMC_WAKE (R449). -/
def runKey (w : Wake) : Nat := 128 * w.source + (if w.source = 25 ∨ w.source = 27 then w.channel else 0)

/-- A wake is confirmed: its run of false wakes ends, and so do the mutes of other sources (R449). -/
def wakeConfirmed (w : Wake) (s : State) : State :=
  let byCh := w.source == 25 || w.source == 27
  { s with sleep := { s.sleep with
    unconfirmed := none
    falseRuns := Tbl.set s.sleep.falseRuns (runKey w) {} {}
    muted := s.sleep.muted &&& BitVec.ofNat 31 (2 ^ w.source)
    mutedCh := if byCh then s.sleep.mutedCh &&& BitVec.ofNat 96 (2 ^ w.channel) else 0 } }

/-- The wake that waits is confirmed if `p` holds of it. -/
def confirmIf (p : Wake → Bool) (s : State) : State :=
  match s.sleep.unconfirmed with
  | some w => if p w then wakeConfirmed w s else s
  | none => s

/-- A doorbell or a counting NM frame confirms any wake (R448). -/
def confirmAny (s : State) : State := confirmIf (fun _ => true) s

/-- A frame accepted on an edge channel (R448). -/
def confirmChannel (ch : Nat) (s : State) : State :=
  confirmIf (fun w => (w.source == 25 || w.source == 27) && w.channel == ch) s

/-- A frame received on a port of a lane (R448). -/
def confirmLane (lane : Nat) (s : State) : State := confirmIf (fun w => w.source == 8 + lane) s

end Sys2Proof.Machine
end

