-- ==== Sys2Proof/Machine/Mailbox.lean ====
section
/-! DEFINITION. How Diesh serves a mailbox command: the checks of R110, the waits of R109, the response of R106. -/

namespace Sys2Proof.Machine

/-- How a command uses the configuration sets. -/
inductive SetUse where
  /-- TARGET is ignored. -/
  | neither
  /-- TARGET 0 reads the active set, TARGET 1 writes the shadow, from MB0 only. -/
  | either
  /-- TARGET 1 only. -/
  | shadow
  /-- Reads either set; TARGET 1 writes nothing (CMD_SET_STATUS, CMD_EM_READ). -/
  | reads
deriving DecidableEq, Repr, Inhabited

/-- What the body of a command answers: DONE with a status and results, or nothing yet (the mailbox stays BUSY). -/
inductive Ans where
  | done (status : Nat) (data : Bytes) (s : State)
  | busy (s : State)

/-- A command's definition as R110 needs it. -/
structure Cmd where
  code : Nat
  /-- The mailbox may send this request. -/
  may : Req → Bool
  /-- PARAM_LEN fits. -/
  lenOk : Bytes → Bool
  sets : SetUse := .neither
  /-- Index check: the selectors and indices of the request, or the status that refuses them. -/
  idx : Req → State → Nat := fun _ _ => stOk
  /-- The own conditions and the effect. -/
  body : Req → State → Ans

/-- OK with results. -/
def ok (data : Bytes) (s : State) : Ans := .done stOk data s

/-- A status without effect. -/
def fail (st : Nat) (s : State) : Ans := .done st [] s

/-- BAD_TARGET unless a test holds. -/
def need (b : Bool) : Nat := if b then stOk else stTarget

/-- The device is the standby of a pair. -/
def isStandby (s : State) : Bool := s.pair.state == 3

/-- The shadow-state check of R119. -/
def shadowCheck (s : State) : Nat :=
  if isStandby s then stState
  else match s.sets.shadow with
    | .ready => stOk
    | .armed => stState
    | _ => stBusy

/-- The request writes a configuration set. -/
def writesSet (u : SetUse) (target : Nat) : Bool := u == .shadow || (u == .either && target == 1)

/-- Commands that always write the shadow. -/
def shadowCodes : List Nat := [0x0101, 0x0102, 0x0104, 0x0500, 0x0602]

/-- Commands that write the shadow with TARGET 1. -/
def eitherCodes : List Nat :=
  [0x0303, 0x0400, 0x0401, 0x0402, 0x0501, 0x0502, 0x0600, 0x0601, 0x0604, 0x0605, 0x0606, 0x0607, 0x0608, 0x0609,
   0x060B, 0x060C, 0x060D] ++ [0x0800, 0x0801, 0x0804, 0x0805, 0x0806, 0x0809, 0x0C06, 0x0C07, 0x0C08]

/-- A request writes a configuration set, by its code and TARGET (R109). -/
def codeWritesSet (cmd target : Nat) : Bool :=
  shadowCodes.contains cmd || (target == 1 && eitherCodes.contains cmd)

/-- An earlier command that writes a set is still BUSY (R109). -/
def mustWait (mb : Nat) (s : State) : Bool :=
  (s.ctl.order.takeWhile (fun k => k != mb)).any (fun k =>
    match (mbOf k s).cur with
    | some r => codeWritesSet r.cmd r.target
    | none => false)

/-- GENERATION of a response (R106). -/
def rspGen (u : SetUse) (target : Nat) (before after : State) : Nat :=
  match u with
  | .neither => after.sets.gen
  | _ => if target = 1 then shadowGen before else before.sets.gen

/-- RIGHTS that a command from MB4 needs, as a mask: UPDATE 1, DIAGNOSTIC 2, RETURN 4; 0 for none (R504; log entry 24). -/
def rightOf (cmd : Nat) : Nat :=
  if cmd = 0x0000 ∨ cmd = 0x0005 ∨ cmd = 0x0006 then 0
  else if cmd / 256 = 0x0D then 1 else if cmd = 0x0A0A then 4 else 2

/-- MB4 may send a command: a session is open and holds the right (R110, R504). -/
def sessionAllows (cmd : Nat) (s : State) : Bool :=
  cmd == 0x0000 || cmd == 0x0005 || (s.svc.session.isSome && (rightOf cmd == 0 || (s.svc.rights &&& rightOf cmd) != 0))

/-- Number of commands in each group, codes counting from 0; group 0 has no code 1. -/
def groupSize : List Nat := [8, 5, 14, 10, 6, 7, 15, 7, 10, 8, 12, 8, 11, 8, 7, 5]

/-- A command code is defined. -/
def knownCmd (cmd : Nat) : Bool := decide (cmd % 256 < groupSize.getD (cmd / 256) 0) && cmd != 1

/-- The boot ROM waits for a load on this mailbox (R124, R503). -/
def loadWaitOn (mb : Nat) (s : State) : Bool :=
  s.power.phase == .loadWait &&
    ((s.power.strap == 2 && mb == 0) || (s.power.strap == 3 && mb == 2) || (s.power.strap == 4 && mb == 4))

/-- Commands that the boot ROM serves on MB4 in a recovery boot (R503, R504). -/
def recoveryCodes : List Nat := [0x0005, 0x0006, 0x0D01, 0x0D02, 0x0D04, 0x0D05]

/-- Diesh serves the mailboxes: boot has ended well and Vintner is not halted (R107, R123, R486). -/
def dieshUp (s : State) : Bool :=
  s.power.phase == .done && (s.boot.failCode == 0 || s.boot.failCode == 6) && !s.pair.vintnerHalted

/-- A mailbox is served (R107). -/
def mbServed (mb : Nat) (s : State) : Bool := dieshUp s || loadWaitOn mb s

/-- Diesh serves the request that a mailbox holds now: during an entry into Burrow or Hibernate only a request accepted
before AP1 is served (R444). -/
def servesNow (mb : Nat) (s : State) : Bool :=
  mbServed mb s && !s.sleep.asleep && (s.sleep.entry == .none || s.sleep.target == 1 || s.sleep.before.contains mb)

/-- The set that a request reads or has written. -/
def targetSet (r : Req) (s : State) : CfgSet := if r.target = 1 then shadowSet s else activeSet s

/-- Diesh serves the request that mailbox `mb` holds, if it is this command (R109, R110). -/
def runCmd (c : Cmd) (mb : Nat) (s : State) : State :=
  match (mbOf mb s).cur with
  | none => s
  | some r =>
    if r.cmd ≠ c.code ∨ !servesNow mb s then s
    else
      let refuse (st : Nat) : State := mbDone mb st s.sets.gen [] s
      if !c.may r ∨ (c.sets = .either ∧ r.target = 1 ∧ mb ≠ 0) then refuse stDenied
      else if mb = 4 ∧ !sessionAllows r.cmd s then refuse stDenied
      else if !c.lenOk r.params then refuse stLength
      else if c.sets ≠ .neither ∧ (1 < r.target ∨ (c.sets = .shadow ∧ r.target = 0)) then refuse stTarget
      else
        let gen := rspGen c.sets r.target s s
        let st := c.idx r s
        if st ≠ stOk then mbDone mb st gen [] s
        else if writesSet c.sets r.target ∧ mustWait mb s then s
        else
          let sh := if writesSet c.sets r.target then shadowCheck s else stOk
          if sh ≠ stOk then mbDone mb sh gen [] s
          else match c.body r s with
            | .done st data s' => mbDone mb st (rspGen c.sets r.target s s') data s'
            | .busy s' => s'

/-! ### The mailbox registers (R105 to R108) -/

/-- The request in a mailbox's request area (R106). -/
def requestIn (mb : Nat) (m : Mailbox) : Req :=
  { mb := mb, cmd := leN (Memory.readN m.req 0 2) 0 2, tag := leN (Memory.readN m.req 4 4) 0 4
    target := leN (Memory.readN m.req 8 1) 0 1
    params := Memory.readN m.req 16 (leN (Memory.readN m.req 2 2) 0 2) }

/-- A doorbell: the request is submitted, or refused and counted (R107, R110). It confirms a wake (R448). -/
def mbDoorbell (mb : Nat) (s : State) : State :=
  let s := confirmAny s
  let m := mbOf mb s
  if m.state ≠ .empty ∨ !mbServed mb s then setMb mb { m with refused := satAdd max32 m.refused 1 } s
  else
    let r := requestIn mb m
    let s := setMb mb { m with state := .busy, tag := r.tag, cur := some r } s
    let s := { s with ctl := { s.ctl with order := s.ctl.order ++ [mb] } }
    let s := if s.sleep.entry = .drain ∧ now s < s.sleep.entryAt + 10000 then
        { s with sleep := { s.sleep with before := mb :: s.sleep.before } }
      else s
    let known := if dieshUp s then knownCmd r.cmd && r.cmd != 0x0007
      else if mb = 4 then recoveryCodes.contains r.cmd else r.cmd == 0x0007
    if known then s else mbDone mb stUnknown s.sets.gen [] s

/-- ACK of a DONE result (R108). -/
def mbAck (mb : Nat) (s : State) : State :=
  let m := mbOf mb s
  if m.state = .done then setMb mb { m with state := .empty, status := 0, tag := 0, gen := 0, length := 0 } s else s

/-- A write to the request area; discarded and counted while BUSY (R107). -/
def mbWrite (mb off : Nat) (d : Bytes) (s : State) : State :=
  let m := mbOf mb s
  if m.state = .busy then setMb mb { m with reqWrBusy := satAdd max32 m.reqWrBusy 1 } s
  else setMb mb { m with req := Memory.writeN m.req off d } s

/-- Mailboxes by number. -/
def mbs (l : List Nat) (r : Req) : Bool := l.contains r.mb

/-- Any mailbox reads; only those listed send an OP from 1 to `top`. An undefined OP is left to the selector check (R110). -/
def readOps (top i : Nat) (writers : List Nat) (r : Req) : Bool :=
  u8 r.params i == 0 || decide (top < u8 r.params i) || writers.contains r.mb

/-- The OP byte at `i` is 0 read or 1 write. -/
def readAny (i : Nat) (writers : List Nat) (r : Req) : Bool := readOps 1 i writers r

/-- A fixed request length. -/
def len (n : Nat) (p : Bytes) : Bool := p.length == n

end Sys2Proof.Machine
end

