-- ==== Sys2Proof/Machine/ClsCmds.lean ====
section
/-! DEFINITION. The commands of group 0x06 (spec/06, R201). -/

namespace Sys2Proof.Machine

/-! ### CMD_CLS_PROFILE (R167, R168) -/

/-- A selector of R168. -/
def selOk (v : Byte) : Bool := decide (v.toNat ≤ 57) || v == 255

/-- The 128 bytes of a profile as applied: bits that must be zero read zero. -/
def profileApply (p : Bytes) : Bytes :=
  b1 (u8 p 0 % 4) ++ b1 (u8 p 1 % 16) ++ zeros 2 ++
    [4, 24, 44].flatMap (fun b => b1 (u8 p b) ++ zeros 1 ++ slice p (b + 2) 18) ++ slice p 64 40 ++ zeros 24

/-- KINDs and selectors of a profile are defined. -/
def profileOk (p : Bytes) : Bool :=
  [4, 24, 44].all (fun b => [0, 2, 3, 4, 5, 6].contains (u8 p b) && (slice p (b + 4) 16).all selOk) &&
    (slice p 64 40).all selOk

def cmdClsProfile : Cmd :=
  { code := 0x0600, may := mbs [0, 1, 2, 3, 4], lenOk := len 132, sets := .either
    idx := fun r _ => need (decide (u8 r.params 0 < 64))
    body := fun r s =>
      let n := u8 r.params 0
      let q := slice r.params 4 128
      if r.target = 0 then ok (b1 n ++ zeros 3 ++ profileOf (activeSet s) n) s
      else if !profileOk q then fail stConflict s
      else
        let b := profileApply q
        ok (b1 n ++ zeros 3 ++ b) (editShadow (fun c => { c with profiles := Tbl.set c.profiles n b (zeros 128) }) s) }

/-! ### CMD_CLS_PORT -/

/-- A port that classification knows. -/
def isClsPort (p : Nat) : Bool :=
  decide (p ≤ 128) || (decide (130 ≤ p) && decide (p ≤ 132)) || (decide (136 ≤ p) && decide (p ≤ 167))

/-- Highest DEFAULT_QUEUE of a port, where the field applies. -/
def queueTop (p : Nat) : Option Nat := if p = 128 then some 31 else if 32 ≤ p ∧ p < 128 then some 3 else none

/-- The 16 bytes as applied; of a logical port only ZONE, PRIO_TC and MIRROR_OUT apply. -/
def clsPortApply (q : Bytes) : Bytes :=
  let p := u8 q 0
  if 136 ≤ p then b1 p ++ b1 (u8 q 1) ++ zeros 8 ++ slice q 10 3 ++ zeros 1 ++ b1 (u8 q 14 / 16 * 16) ++ zeros 1
  else
    b1 p ++ b1 (u8 q 1) ++ b2 (u16 q 2 % 4096) ++ b1 (u8 q 4 % 8) ++ b1 (u8 q 5 % 8) ++ slice q 6 7 ++
      b1 (if (queueTop p).isSome then u8 q 13 else 0) ++ b1 (u8 q 14) ++ zeros 1

def cmdClsPort : Cmd :=
  { code := 0x0601, may := mbs [0, 1, 2, 3, 4], lenOk := len 16, sets := .either
    idx := fun r _ =>
      let q := r.params
      need (isClsPort (u8 q 0) && (r.target == 0 || (decide (u8 q 1 < 32) && (match queueTop (u8 q 0) with
        | some m => decide (u8 q 13 ≤ m)
        | none => true))))
    body := fun r s =>
      let p := u8 r.params 0
      if r.target = 0 then ok (clsPortApply (clsPortOf (activeSet s) p)) s
      else
        let b := clsPortApply r.params
        ok b (editShadow (fun c => { c with clsPort := Tbl.set c.clsPort p b (clsPort0 p) }) s) }

/-! ### The exact-match pool (R172 to R174) -/

/-- The 24 bytes of an entry (R174). -/
def entryBytes (e : EmEntry) : Bytes :=
  b1 (e.kind + 16 + 32 * b2n e.static + 64 * b2n e.hit) ++ zeros 1 ++ b2 e.result ++ zeros 4 ++ slice e.key 0 16

/-- RESULT lies in its range: a MAC destination for kind 1, any action entry for the others (R174, R176). -/
def resultOk (kind r : Nat) : Bool :=
  kind != 1 || (if r.testBit 15 then decide (bits r 13 12 = 0) else decide (bits r 13 8 = 0) && isClsPort (r % 256))

/-- Put an entry at its index in the shadow, with the stash high-water mark (R198). -/
def emPut (c : CfgSet) (s : State) : State := stashNote c (editShadow (fun _ => c) s)

def cmdEmWrite : Cmd :=
  { code := 0x0602, may := mbs [0], lenOk := len 28, sets := .shadow
    idx := fun r _ => need (decide (u8 r.params 0 ≤ 2))
    body := fun r s =>
      let q := r.params
      let c := shadowSet s
      let kind := u8 q 4 % 16
      let key := slice q 12 16
      let e : EmEntry := { kind := kind, static := kind == 1, result := u16 q 6, key := key }
      let known := decide (1 ≤ kind) && decide (kind ≤ 6)
      let fine := known && resultOk kind (u16 q 6) && bit q 4 4
      match u8 q 0, emFind c kind key with
      | 0, none =>
        if !known then fail stConflict s
        else match emAdd c e with
          | .error _ => fail stNoSpace s
          | .ok (i, c') => if !fine then fail stConflict s else ok (b4 i) (emPut c' s)
      | 0, some (i, old) =>
        if !fine ∨ kind ≠ 1 ∨ old.static then fail stConflict s
        else ok (b4 i) (emPut { c with em := Tbl.insert c.em i e } s)
      | 1, some (i, _) =>
        if !fine then fail stConflict s else ok (b4 i) (emPut { c with em := Tbl.insert c.em i e } s)
      | 1, none => if !fine then fail stConflict s else fail stNotFound s
      | _, some (i, _) => ok (b4 i) (emPut (emRemove c i) s)
      | _, none => if !known then fail stConflict s else fail stNotFound s }

def cmdEmRead : Cmd :=
  { code := 0x0603, may := mbs [0, 1, 2, 3, 4], lenOk := len 28, sets := .reads
    idx := fun r _ => need (decide (u8 r.params 0 ≤ 1) && (u8 r.params 0 == 0 || decide (u32 r.params 4 < 262400)))
    body := fun r s =>
      let q := r.params
      let c := targetSet r s
      let found := if u8 q 0 = 0 then emFind c (u8 q 4 % 16) (slice q 12 16)
                   else (Tbl.find c.em (u32 q 4)).map (fun e => (u32 q 4, e))
      match found with
      | some (i, e) => ok (b4 i ++ entryBytes e) s
      | none => fail stNotFound s }

/-! ### CMD_ACTION_WRITE (R184) -/

/-- An optional index: 0xFFFF, or at most `top`. -/
def idOk (b : Bytes) (i top : Nat) : Bool := u16 b i == 0xFFFF || decide (u16 b i ≤ top)

/-- Every index that an action entry carries lies in its range. -/
def actionIdx (b : Bytes) : Bool :=
  (u8 b 0 != 2 || isClsPort (u8 b 1)) && (u8 b 0 != 3 || decide (u16 b 2 < 4096)) &&
    idOk b 8 8191 && idOk b 10 8191 && idOk b 12 2047 && idOk b 14 4095 && idOk b 16 511

/-- An action entry has a defined FWD_KIND and no bit set that must be zero. -/
def actionOk (b : Bytes) : Bool :=
  decide (u8 b 0 ≤ 5) && decide (bits (u8 b 4) 6 5 = 0) && decide (bits (u8 b 5) 6 5 = 0) && decide (u8 b 6 < 16) &&
    decide (bits (u8 b 7) 6 5 = 0) && decide (u8 b 18 < 2) && allZero (slice b 19 13)

/-- Entry i of a request. -/
def actionIn (q : Bytes) (i : Nat) : Bytes := slice q (4 + 32 * i) 32

def cmdActionWrite : Cmd :=
  { code := 0x0604, may := mbs [0, 1, 2, 3, 4]
    lenOk := fun p => decide (1 ≤ u16 p 2) && decide (u16 p 2 ≤ 100) && p.length == 4 + 32 * u16 p 2, sets := .either
    idx := fun r _ =>
      let q := r.params
      need (decide (u16 q 0 + u16 q 2 ≤ 65536) &&
        (r.target == 0 || (List.range (u16 q 2)).all (fun i => actionIdx (actionIn q i))))
    body := fun r s =>
      let q := r.params
      let is := List.range (u16 q 2)
      let head := slice q 0 4
      if r.target = 0 then ok (head ++ is.flatMap (fun i => actionOf (activeSet s) (u16 q 0 + i))) s
      else if !is.all (fun i => actionOk (actionIn q i)) then fail stConflict s
      else ok q (editShadow (fun c => is.foldl (fun c i =>
        { c with actions := Tbl.set c.actions (u16 q 0 + i) (actionIn q i) action0 }) c) s) }

/-! ### CMD_TERNARY_WRITE (R182) -/

/-- A rule as applied: VALUE bits outside MASK are zero. -/
def ruleApply (b : Bytes) : Bytes :=
  b1 (u8 b 0 % 2) ++ zeros 1 ++ slice b 2 4 ++ zeros 2 ++
    (List.range 40).map (fun i => b.getD (8 + i) 0 &&& b.getD (48 + i) 0) ++ slice b 48 40

def cmdTernaryWrite : Cmd :=
  { code := 0x0605, may := mbs [0, 1, 2, 3, 4]
    lenOk := fun p => decide (1 ≤ u16 p 4) && decide (u16 p 4 ≤ 32) && p.length == 8 + 88 * u16 p 4, sets := .either
    idx := fun r _ => need (decide (u8 r.params 0 < 4) && decide (u16 r.params 2 + u16 r.params 4 ≤ 2048))
    body := fun r s =>
      let q := r.params
      let is := List.range (u16 q 4)
      let head := b1 (u8 q 0) ++ zeros 1 ++ slice q 2 4 ++ zeros 2
      if r.target = 0 then ok (head ++ is.flatMap (fun i => ternaryOf (activeSet s) (u8 q 0) (u16 q 2 + i))) s
      else
        let rule (i : Nat) : Bytes := ruleApply (slice q (8 + 88 * i) 88)
        ok (head ++ is.flatMap rule) (editShadow (fun c => is.foldl (fun c i =>
          { c with ternary := Tbl.set c.ternary (2048 * u8 q 0 + u16 q 2 + i) (rule i) (zeros 88) }) c) s) }

/-! ### Zones, monitors, VLANs, groups -/

/-- Bytes 4 to 15 of an identifier range as applied (R169). -/
def rangeApply (q : Bytes) : Bytes :=
  b1 (u8 q 4 % 2) ++ b1 (u8 q 5) ++ b1 (u8 q 6 % 2) ++ b1 (u8 q 7) ++ b4 (u32 q 8 % 536870912) ++ b4 (u32 q 12 % 536870912)

def cmdZoneWrite : Cmd :=
  { code := 0x0606, may := mbs [0, 1, 2, 3, 4], lenOk := len 16, sets := .either
    idx := fun r _ =>
      let q := r.params
      match u8 q 0 with
      | 0 => need (decide (u8 q 1 < 32))
      | 1 => need (r.target == 0 || ((decide (u8 q 5 < 96) || u8 q 5 == 0xFF) && decide (u8 q 7 < 32)))
      | 2 => need (r.target == 0 || decide (u8 q 1 < 32))
      | _ => stTarget
    body := fun r s =>
      let q := r.params
      let i := u8 q 1
      let c := activeSet s
      let w := r.target == 1
      match u8 q 0 with
      | 0 =>
        let row := if w then BitVec.ofNat 64 (u64 q 4) else zoneRowOf c i
        let rsp := b1 0 ++ b1 i ++ zeros 2 ++ b8 row.toNat ++ zeros 4
        if w then ok rsp (editShadow (fun c => { c with zoneRows := Tbl.set c.zoneRows i row (zoneRow0 i) }) s) else ok rsp s
      | 1 =>
        let x := if w then rangeApply q else rangeOf c i
        let rsp := b1 1 ++ b1 i ++ zeros 2 ++ x
        if !w then ok rsp s
        else if u32 x 8 < u32 x 4 then fail stConflict s
        else ok rsp (editShadow (fun c => { c with ranges := Tbl.set c.ranges i x (zeros 12) }) s)
      | _ =>
        let ring := if w then i else c.zoneRing
        let rsp := b1 2 ++ b1 ring ++ zeros 14
        if w then ok rsp (editShadow (fun c => { c with zoneRing := ring }) s) else ok rsp s }

def cmdAnomalyWrite : Cmd :=
  { code := 0x0607, may := mbs [0, 1, 2, 3, 4], lenOk := len 8, sets := .either
    idx := fun r _ => need (decide (u16 r.params 0 < 4096) && (r.target == 0 || decide (u8 r.params 7 < 32)))
    body := fun r s =>
      let m := u16 r.params 0
      if r.target = 0 then ok (b2 m ++ monitorOf (activeSet s) m) s
      else if 3 < u8 r.params 6 then fail stConflict s
      else ok r.params (editShadow (fun c => { c with monitors := Tbl.set c.monitors m (slice r.params 2 6) (zeros 6) }) s) }

def cmdVlanWrite : Cmd :=
  { code := 0x0608, may := mbs [0, 1, 2, 3, 4], lenOk := len 32, sets := .either
    idx := fun r _ => need (decide (u16 r.params 0 < 4096) && (r.target == 0 || decide (u8 r.params 3 < 32)))
    body := fun r s =>
      let q := r.params
      let v := u16 q 0
      if r.target = 0 then ok (b2 v ++ vlanOf (activeSet s) v) s
      else if bits (u8 q 2) 3 2 = 3 then fail stConflict s
      else
        let b := b1 (u8 q 2 % 16) ++ slice q 3 22 ++ zeros 3 ++ slice q 28 4
        ok (b2 v ++ b) (editShadow (fun c => { c with vlans := Tbl.set c.vlans v b (zeros 30) }) s) }

def cmdMcastWrite : Cmd :=
  { code := 0x0609, may := mbs [0, 1, 2, 3, 4], lenOk := len 25, sets := .either
    idx := fun r _ => need (decide (u16 r.params 0 < 4096))
    body := fun r s =>
      let g := u16 r.params 0
      if r.target = 0 then ok (b2 g ++ zeros 2 ++ mcastOf (activeSet s) g) s
      else
        let m := slice r.params 4 21
        ok (b2 g ++ zeros 2 ++ m) (editShadow (fun c => { c with mcast := Tbl.set c.mcast g m (zeros 21) }) s) }

/-! ### CMD_MAC_CONTROL (R181) -/

/-- A dynamic entry that a flush of a port and VLAN removes. -/
def flushHit (port vid : Nat) (e : EmEntry) : Bool :=
  e.kind == 1 && !e.static && (port == 0xFF || e.result == port) && (vid == 0xFFFF || beN e.key 6 2 == vid)

/-- A flush of one pool: how many entries it removes, and the pool after it. -/
def flushPool (port vid : Nat) (c : CfgSet) : Nat × CfgSet :=
  let old := c.em.filter (fun e => flushHit port vid e.2)
  (old.length, old.foldl (fun c e => match emFind c 1 e.2.key with
    | some (i, _) => emRemove c i
    | none => c) c)

def cmdMacControl : Cmd :=
  { code := 0x060A, may := mbs [0], lenOk := len 8
    idx := fun r _ =>
      let q := r.params
      need (decide (u8 q 0 ≤ 2) && (u8 q 0 != 1 || ((u8 q 1 == 0xFF || isPort (u8 q 1)) &&
        (u16 q 2 == 0xFFFF || decide (u16 q 2 < 4096)))))
    body := fun r s =>
      let q := r.params
      match u8 q 0 with
      | 0 =>
        let a := if u32 q 4 = 0 then 0 else clamp 10 1000000 (u32 q 4)
        ok (b4 a ++ b4 0) { s with flow := { s.flow with ageS := a } }
      | 1 =>
        let (n, _) := flushPool (u8 q 1) (u16 q 2) (activeSet s)
        ok (b4 s.flow.ageS ++ b4 n) (bothPools (fun c => (flushPool (u8 q 1) (u16 q 2) c).2) s)
      | _ => ok (b4 s.flow.ageS ++ b4 0) s }

/-! ### Samplers, mirrors, quotas, counters -/

def cmdFoxPort : Cmd :=
  { code := 0x060B, may := mbs [0, 1, 2, 3, 4], lenOk := len 14, sets := .either
    idx := fun r _ =>
      let q := r.params
      need (isIngressPort (u8 q 0) && (r.target == 0 || (decide (u8 q 5 < 32) && decide (u8 q 11 < 32))))
    body := fun r s =>
      let q := r.params
      let p := u8 q 0
      if r.target = 0 then ok (b1 p ++ zeros 1 ++ foxOf (activeSet s) p) s
      else if 2 < u8 q 4 ∨ 2 < u8 q 10 then fail stConflict s
      else
        let b := slice q 2 4 ++ zeros 2 ++ slice q 8 4 ++ zeros 2
        ok (b1 p ++ zeros 1 ++ b) (editShadow (fun c => { c with fox := Tbl.set c.fox p b (zeros 12) }) s) }
where
  /-- Ports with a sampler (R193). -/
  isIngressPort (p : Nat) : Bool := decide (p ≤ 128) || (decide (130 ≤ p) && decide (p ≤ 132))

/-- TRUNC of a mirror session as applied (R195). -/
def mirrorTrunc (t : Nat) : Nat := if t = 0 then 0 else clamp 64 2048 (t / 64 * 64)

def cmdMirrorSession : Cmd :=
  { code := 0x060C, may := mbs [0, 1, 2, 3, 4], lenOk := len 6, sets := .either
    idx := fun r _ =>
      let q := r.params
      need (decide (u8 q 0 < 4) && (r.target == 0 ||
        (if u8 q 1 = 128 then decide (u8 q 2 < 32) else decide (u8 q 1 < 32) && decide (u8 q 2 < 8))))
    body := fun r s =>
      let q := r.params
      let i := u8 q 0
      if r.target = 0 then ok (b1 i ++ mirrorOf (activeSet s) i) s
      else
        let b := slice q 1 2 ++ zeros 1 ++ b2 (mirrorTrunc (u16 q 4))
        ok (b1 i ++ b) (editShadow (fun c => { c with mirrors := Tbl.set c.mirrors i b (zeros 5) }) s) }

/-- Maxima of the quotas (R172). -/
def quotaTop : List Nat := [65536, 8192, 32768, 131072, 24576, 24576]

/-- The response of CMD_CLS_DEVICE. -/
def clsDeviceRsp (c : CfgSet) : Bytes :=
  c.quotas.flatMap b4 ++ c.ranks.flatMap b1 ++ [1, 2, 3, 4, 5, 6].flatMap (fun k => b4 (emCount c k)) ++ b2 (stashUsed c)

def cmdClsDevice : Cmd :=
  { code := 0x060D, may := mbs [0, 1, 2, 3, 4], lenOk := len 28, sets := .either
    body := fun r s =>
      let q := r.params
      if r.target = 0 then ok (clsDeviceRsp (activeSet s)) s
      else
        let qs := (List.range 6).map (fun i => min (quotaTop.getD i 0) (u32 q (4 * i)))
        let rs := (List.range 4).map (fun i => u8 q (24 + i))
        let c := shadowSet s
        if 262144 < sumBy (fun x => x) qs ∨ (List.range 6).any (fun i => decide (qs.getD i 0 < emCount c (i + 1))) ∨
            !(List.range 4).all rs.contains then fail stConflict s
        else
          let c := { c with quotas := qs, ranks := rs }
          ok (clsDeviceRsp c) (editShadow (fun _ => c) s) }

/-- Entries of a table of CMD_CLS_COUNTERS. -/
def clsTableSize (t : Nat) : Nat := [65536, 8192, 1024, 4096, 4096].getD t 0

/-- Values of entry counters, and the state with those read cleared if asked. -/
def readEntries (table first n : Nat) (clear : Bool) (s : State) : Bytes × State :=
  let is := (List.range n).map (first + ·)
  (is.flatMap (fun i => b8 (entryCounter table i s)), if clear then forEach is (fun i s => clearEntry table i s) s else s)

def cmdClsCounters : Cmd :=
  { code := 0x060E, may := fun r => !bit r.params 1 0 || mbs [0, 2, 4] r, lenOk := len 10
    idx := fun r _ =>
      let q := r.params
      need (decide (u8 q 0 ≤ 4) && decide (u32 q 4 + clamp 1 500 (u16 q 8) ≤ clsTableSize (u8 q 0)))
    body := fun r s =>
      let q := r.params
      let n := clamp 1 500 (u16 q 8)
      let (v, s) := readEntries (u8 q 0) (u32 q 4) n (bit q 1 0) s
      ok (b4 (u32 q 4) ++ b2 n ++ zeros 2 ++ v) s }

/-! ### Meanings -/

def execCmdClsProfile (mb : Nat) (s : State) : Res := .next (runCmd cmdClsProfile mb s)
def execCmdClsPort (mb : Nat) (s : State) : Res := .next (runCmd cmdClsPort mb s)
def execCmdEmWrite (mb : Nat) (s : State) : Res := .next (runCmd cmdEmWrite mb s)
def execCmdEmRead (mb : Nat) (s : State) : Res := .next (runCmd cmdEmRead mb s)
def execCmdActionWrite (mb : Nat) (s : State) : Res := .next (runCmd cmdActionWrite mb s)
def execCmdTernaryWrite (mb : Nat) (s : State) : Res := .next (runCmd cmdTernaryWrite mb s)
def execCmdZoneWrite (mb : Nat) (s : State) : Res := .next (runCmd cmdZoneWrite mb s)
def execCmdAnomalyWrite (mb : Nat) (s : State) : Res := .next (runCmd cmdAnomalyWrite mb s)
def execCmdVlanWrite (mb : Nat) (s : State) : Res := .next (runCmd cmdVlanWrite mb s)
def execCmdMcastWrite (mb : Nat) (s : State) : Res := .next (runCmd cmdMcastWrite mb s)
def execCmdMacControl (mb : Nat) (s : State) : Res := .next (runCmd cmdMacControl mb s)
def execCmdFoxPort (mb : Nat) (s : State) : Res := .next (runCmd cmdFoxPort mb s)
def execCmdMirrorSession (mb : Nat) (s : State) : Res := .next (runCmd cmdMirrorSession mb s)
def execCmdClsDevice (mb : Nat) (s : State) : Res := .next (runCmd cmdClsDevice mb s)
def execCmdClsCounters (mb : Nat) (s : State) : Res := .next (runCmd cmdClsCounters mb s)

end Sys2Proof.Machine
end

