-- ==== Sys2Proof/Machine/Aes.lean ====
section
/-! DEFINITION. AES and the modes the Press and MACsec run on it: ECB inside the modes, CBC, CTR, GCM, CMAC, XTS, KW and the
KDF of R400 (spec/13, R400, R410, R415). The spec names each by its standard; the functions follow those standards
(PRESUMED, log entry 21). Keys of 16 bytes are AES-128, of 32 bytes AES-256. -/

namespace Sys2Proof.Machine

/-- Multiplication by x in the field of FIPS 197. -/
def xtime (b : Byte) : Byte := (b <<< 1) ^^^ (if b.getMsbD 0 then 0x1B else 0)

/-- Multiplication in the field of FIPS 197. -/
def gmul (a b : Byte) : Byte :=
  ((List.range 8).foldl (fun (acc : Byte × Byte) i =>
    (if b.getLsbD i then acc.1 ^^^ acc.2 else acc.1, xtime acc.2)) (0, a)).1

/-- The inverse in the field, 0 for 0: the 254th power. -/
def ginv (a : Byte) : Byte :=
  let sq (x : Byte) := gmul x x
  let x2 := sq a
  let x4 := sq x2
  let x8 := sq x4
  let x16 := sq x8
  let x32 := sq x16
  let x64 := sq x32
  gmul (gmul (gmul x2 x4) (gmul x8 x16)) (gmul (gmul x32 x64) (sq x64))

def sub1 (x : Byte) : Byte :=
  let i := ginv x
  i ^^^ i.rotateLeft 1 ^^^ i.rotateLeft 2 ^^^ i.rotateLeft 3 ^^^ i.rotateLeft 4 ^^^ 0x63

def invSub1 (x : Byte) : Byte := ginv (x.rotateLeft 1 ^^^ x.rotateLeft 3 ^^^ x.rotateLeft 6 ^^^ 0x05)

def sboxTable : List Byte := (List.range 256).map (fun n => sub1 (BitVec.ofNat 8 n))
def invSboxTable : List Byte := (List.range 256).map (fun n => invSub1 (BitVec.ofNat 8 n))
def sbox (x : Byte) : Byte := sboxTable.getD x.toNat 0
def invSbox (x : Byte) : Byte := invSboxTable.getD x.toNat 0

/-- Byte-wise exclusive or; the length is that of the shorter. -/
def xorBytes (a b : Bytes) : Bytes := List.zipWith (fun x y => x ^^^ y) a b

/-- The expanded key as a list of 4-byte words, `n` of which are still to be made. -/
def expandKey (nk : Nat) : Nat → Byte → List Bytes → List Bytes
  | 0, _, ws => ws
  | n + 1, rcon, ws =>
    let i := ws.length
    let prev := ws.getD (i - 1) []
    let rot := prev.drop 1 ++ prev.take 1
    let t :=
      if i % nk = 0 then
        match rot.map sbox with
        | b :: rest => (b ^^^ rcon) :: rest
        | [] => []
      else if 6 < nk ∧ i % nk = 4 then prev.map sbox else prev
    expandKey nk n (if i % nk = 0 then xtime rcon else rcon) (ws ++ [xorBytes (ws.getD (i - nk) []) t])

/-- Round keys of 16 bytes. -/
def roundKeys (key : Bytes) : List Bytes :=
  let nk := key.length / 4
  let ws := expandKey nk (4 * (nk + 7) - nk) 1 (chunksOf 4 nk key)
  (chunksOf 4 (nk + 7) ws).map List.flatten

/-- The bytes of a block at the places listed. -/
def permute (l : List Nat) (b : Bytes) : Bytes := l.map (fun i => b.getD i 0)

def shiftRows : Bytes → Bytes := permute [0, 5, 10, 15, 4, 9, 14, 3, 8, 13, 2, 7, 12, 1, 6, 11]
def invShiftRows : Bytes → Bytes := permute [0, 13, 10, 7, 4, 1, 14, 11, 8, 5, 2, 15, 12, 9, 6, 3]

/-- Multiply each column by a circulant matrix. -/
def mixWith (m : List Byte) (b : Bytes) : Bytes :=
  (List.range 16).map (fun i =>
    (List.range 4).foldl (fun acc j => acc ^^^ gmul (m.getD ((j + 4 - i % 4) % 4) 0) (b.getD (4 * (i / 4) + j) 0)) 0)

def mixColumns : Bytes → Bytes := mixWith [2, 3, 1, 1]
def invMixColumns : Bytes → Bytes := mixWith [14, 11, 13, 9]

/-- One block through the cipher. -/
def aesBlock (key block : Bytes) : Bytes :=
  match roundKeys key with
  | [] => block
  | k0 :: ks =>
    let b := xorBytes block k0
    let n := ks.length
    let b := (ks.take (n - 1)).foldl (fun b k => xorBytes (mixColumns (shiftRows (b.map sbox))) k) b
    xorBytes (shiftRows (b.map sbox)) (ks.getD (n - 1) [])

/-- One block through the inverse cipher. -/
def aesInvBlock (key block : Bytes) : Bytes :=
  match (roundKeys key).reverse with
  | [] => block
  | kn :: ks =>
    let b := (invShiftRows (xorBytes block kn)).map invSbox
    let n := ks.length
    let b := (ks.take (n - 1)).foldl (fun b k => (invShiftRows (invMixColumns (xorBytes b k))).map invSbox) b
    xorBytes b (ks.getD (n - 1) [])

/-- The 16-byte blocks of a string. -/
def blocks (b : Bytes) : List Bytes := chunksOf 16 (b.length / 16 + 1) b

/-! ### Modes -/

def cbcEncrypt (key iv data : Bytes) : Bytes :=
  ((blocks data).foldl (fun (acc : Bytes × Bytes) x =>
    let c := aesBlock key (xorBytes x acc.2)
    (acc.1 ++ c, c)) ([], iv)).1

def cbcDecrypt (key iv data : Bytes) : Bytes :=
  ((blocks data).foldl (fun (acc : Bytes × Bytes) x => (acc.1 ++ xorBytes (aesInvBlock key x) acc.2, x)) ([], iv)).1

/-- The counter block after `c`, counting on its low `n` bytes. -/
def incBlock (n : Nat) (c : Bytes) : Bytes := c.take (16 - n) ++ be n ((beN c (16 - n) n + 1) % 256 ^ n)

/-- Counter mode with a counter of the low `n` bytes. -/
def ctrWith (n : Nat) (key ctr data : Bytes) : Bytes :=
  ((blocks data).foldl (fun (acc : Bytes × Bytes) x =>
    (acc.1 ++ xorBytes x (aesBlock key acc.2), incBlock n acc.2)) ([], ctr)).1

/-- CTR of SP 800-38A with a 128-bit counter block. -/
def ctrCrypt (key ctr data : Bytes) : Bytes := ctrWith 16 key ctr data

/-- Multiplication of GHASH. -/
def ghashMul (x y : BitVec 128) : BitVec 128 :=
  ((List.range 128).foldl (fun (acc : BitVec 128 × BitVec 128) i =>
    let z := if x.getMsbD i then acc.1 ^^^ acc.2 else acc.1
    let v := acc.2 >>> 1
    (z, if acc.2.getLsbD 0 then v ^^^ (BitVec.ofNat 128 (0xE1 * 2 ^ 120)) else v)) (0, y)).1

/-- A string padded with zeros to whole blocks. -/
def padBlock (b : Bytes) : Bytes := b ++ zeros ((16 - b.length % 16) % 16)

def ghash (h : BitVec 128) (data : Bytes) : BitVec 128 :=
  (blocks data).foldl (fun acc x => ghashMul (acc ^^^ BitVec.ofNat 128 (beN x 0 16)) h) 0

/-- The full tag of GCM with a 96-bit IV over `aad` and ciphertext. -/
def gcmTag (key iv aad ct : Bytes) : Bytes :=
  let h := BitVec.ofNat 128 (beN (aesBlock key (zeros 16)) 0 16)
  let s := ghash h (padBlock aad ++ padBlock ct ++ be 8 (8 * aad.length) ++ be 8 (8 * ct.length))
  xorBytes (be 16 s.toNat) (aesBlock key (iv ++ be 4 1))

/-- The data of GCM, either direction. -/
def gcmCrypt (key iv data : Bytes) : Bytes := ctrWith 4 key (iv ++ be 4 2) data

/-- Doubling in the field of CMAC. -/
def dbl (b : Bytes) : Bytes :=
  let n := beN b 0 16
  be 16 (((BitVec.ofNat 128 (2 * n)) ^^^ (if n.testBit 127 then 0x87 else 0)).toNat)

/-- CMAC, 16 bytes (SP 800-38B). -/
def cmac (key data : Bytes) : Bytes :=
  let k1 := dbl (aesBlock key (zeros 16))
  let k2 := dbl k1
  let n := if data.isEmpty then 0 else (data.length - 1) / 16
  let last := data.drop (16 * n)
  let last := if last.length = 16 then xorBytes last k1 else xorBytes (padBlock (last ++ b1 0x80)) k2
  aesBlock key (xorBytes last ((blocks (data.take (16 * n))).foldl (fun c x => aesBlock key (xorBytes x c)) (zeros 16)))

/-- Multiplication of an XTS tweak by x (IEEE 1619, bytes least significant first). -/
def xtsDouble (t : Bytes) : Bytes :=
  let n := leN t 0 16
  le 16 (((BitVec.ofNat 128 (2 * n)) ^^^ (if n.testBit 127 then 0x87 else 0)).toNat)

/-- One data unit of XTS-AES-128; bytes 0 to 15 of the key are the data key, 16 to 31 the tweak key. -/
def xtsUnit (enc : Bool) (key : Bytes) (unit : Nat) (data : Bytes) : Bytes :=
  let k := key.take 16
  ((blocks data).foldl (fun (acc : Bytes × Bytes) x =>
    let y := xorBytes x acc.2
    (acc.1 ++ xorBytes (if enc then aesBlock k y else aesInvBlock k y) acc.2, xtsDouble acc.2))
    ([], aesBlock (key.drop 16) (le 16 unit))).1

/-- XTS over data units of `size` bytes from unit number `first`. -/
def xtsCrypt (enc : Bool) (key : Bytes) (first size : Nat) (data : Bytes) : Bytes :=
  ((chunksOf size (data.length / 512 + 1) data).foldl (fun (acc : Bytes × Nat) u =>
    (acc.1 ++ xtsUnit enc key acc.2 u, acc.2 + 1)) ([], first)).1

/-- The steps of KW: A and the list of 8-byte registers. -/
def kwWrap (key data : Bytes) : Bytes :=
  let r := chunksOf 8 (data.length / 8 + 1) data
  let n := r.length
  let (a, r) := (List.range (6 * n)).foldl (fun (acc : Bytes × List Bytes) t =>
    let i := t % n
    let b := aesBlock key (acc.1 ++ acc.2.getD i [])
    (xorBytes (b.take 8) (be 8 (t + 1)), acc.2.set i (b.drop 8))) (List.replicate 8 0xA6, r)
  a ++ r.flatten

/-- KW inverse: the data, or none when the integrity check fails (SP 800-38F). -/
def kwUnwrap (key blob : Bytes) : Option Bytes :=
  let r := chunksOf 8 (blob.length / 8 + 1) (blob.drop 8)
  let n := r.length
  let (a, r) := (List.range (6 * n)).foldl (fun (acc : Bytes × List Bytes) j =>
    let t := 6 * n - 1 - j
    let i := t % n
    let b := aesInvBlock key (xorBytes acc.1 (be 8 (t + 1)) ++ acc.2.getD i [])
    (b.take 8, acc.2.set i (b.drop 8))) (blob.take 8, r)
  if a = List.replicate 8 0xA6 then some r.flatten else none

/-- The KDF of R400: `bytes` bytes of output. -/
def kdf (key label context : Bytes) (bytes : Nat) : Bytes :=
  let block (i : Nat) := cmac key (be 4 i ++ label ++ [0] ++ context ++ be 4 (8 * bytes))
  (block 1 ++ block 2).take bytes

end Sys2Proof.Machine
end

