-- ==== Sys2Proof/Machine/Scratch.lean ====
section
/-! DEFINITION. Scratch banks and secure banks: reading, writing, poison, retirement and the home of the trace ring
(spec/17, R525 to R532, R536). -/

namespace Sys2Proof.Machine

/-- Default contents of a bank's table entry. -/
def bank0 : Bank := {}

def bankOf (n : Nat) (s : State) : Bank := Tbl.get s.test.banks n bank0

def setBank (n : Nat) (b : Bank) (s : State) : State :=
  { s with test := { s.test with banks := Tbl.set s.test.banks n b bank0 } }

/-- Bytes of a general bank (R71). -/
def bankSize : Nat := 0x80000

/-- Bytes of a secure bank (R529). -/
def secureSize : Nat := 0x40000

/-- Offsets of poisoned words that a range touches (R532). -/
def poisonIn (p : List Nat) (off n : Nat) : List Nat := p.filter (fun o => decide (o < off + n) && decide (off < o + 8))

/-- Fault times in a window of `w` ns that ends now, the new fault included (R532). -/
def faultsNow (times : List Nat) (w : Nat) (s : State) : List Nat := now s :: times.filter (fun t => decide (now s < t + w))

/-- What every retirement does beside its own event: the alarm and the error record (R532, R534). -/
def unitRetired (ev b loc : Nat) (s : State) : State := alarm 10 loc (trace 2 ev b loc (raise ev b s))

/-- The lowest FREE bank. -/
def freeBank (s : State) : Option Nat :=
  (List.range 16).find? (fun n => let b := bankOf n s; b.owner == 0 && !b.retired && !b.busy)

/-- Move the trace ring to the lowest FREE bank, empty (R536). -/
def relocateTrace (s : State) : State :=
  match freeBank s with
  | some n =>
    setBank n { bankOf n s with owner := 6 } { s with test := { s.test with traceBank := some n, wr := 0, rd := 0 } }
  | none => { s with test := { s.test with traceBank := none, wr := 0, rd := 0 } }

/-- Retire a general bank (R527, R531, R532). -/
def retireBank (n : Nat) (s : State) : State :=
  if (bankOf n s).retired then s
  else
    let s := setBank n { bankOf n s with owner := 0, retired := true, busy := false, zeroFor := none, mem := [], poison := [], ueTimes := [] } s
    let s := unitRetired 107 2 (locDevIdx n) s
    if s.test.traceBank = some n then relocateTrace s else s

/-- Index of the 256-byte region of a general or secure bank (16 and 17) in its memory: memory id and item (R530). -/
def regionItem (bank off : Nat) : Nat × Nat := if bank < 16 then (6, 2048 * bank + off / 256) else (7, 1024 * (bank - 16) + off / 256)

/-- The row of a bank's region becomes a candidate; a general bank without a spare is retired (R523). -/
def bankFault (bank off : Nat) (s : State) : State :=
  let (mem, i) := regionItem bank off
  let (out, s) := toRepair mem i s
  if out && decide (bank < 16) then retireBank bank s else s

/-- An access to poisoned words of a general bank, at these offsets (R523, R532). -/
def bankUe (n : Nat) (offs : List Nat) (s : State) : State :=
  forEach offs (fun off s =>
    let s := bankFault n off (raise 107 1 (count 255 297 s))
    if (bankOf n s).retired then s else
    let ts := faultsNow (bankOf n s).ueTimes 60000000000 s
    let s := setBank n { bankOf n s with ueTimes := ts } s
    if 3 ≤ ts.length then retireBank n s else s) s

/-- Read a general bank: the bytes, whether a word is poisoned, and what the access leaves (R527, R532). -/
def bankRead (n off len : Nat) (s : State) : Bytes × Bool × State :=
  let b := bankOf n s
  if b.retired then (zeros len, false, s)
  else
    let k := poisonIn b.poison off len
    (Memory.readN b.mem off len, !k.isEmpty, bankUe n k s)

/-- Poisoned words left after a write of a range: a word written whole is clean again. -/
def unpoison (p : List Nat) (off n : Nat) : List Nat := p.filter (fun o => !(decide (off ≤ o) && decide (o + 8 ≤ off + n)))

/-- Write a general bank; a retired bank discards it (R527). -/
def bankWrite (n off : Nat) (d : Bytes) (s : State) : State :=
  let b := bankOf n s
  if b.retired then s
  else setBank n { b with mem := Memory.writeN b.mem off d, poison := unpoison b.poison off d.length } s

/-- The bank has its new owner at the commit, and is BUSY until it is zeroed (R527). -/
def zeroBank (n owner : Nat) (s : State) : State :=
  setBank n { bankOf n s with owner := owner, busy := true, zeroFor := some owner } s

/-- Secure bank access (R529). -/
def secureOf (n : Nat) (s : State) : SecureBank := Tbl.get s.test.secure n {}

def setSecure (n : Nat) (b : SecureBank) (s : State) : State :=
  { s with test := { s.test with secure := Tbl.set s.test.secure n b {} } }

/-- Read a secure bank; a poisoned word raises SECURE_UE (R529). -/
def secureRead (n off len : Nat) (s : State) : Bytes × Bool × State :=
  let b := secureOf n s
  let k := poisonIn b.poison off len
  let s := if k.isEmpty then s else alarm 12 (locDevIdx (16 + n)) (raise 107 3 (countN 255 299 k.length s))
  (Memory.readN b.mem off len, !k.isEmpty, forEach k (fun o s => bankFault (16 + n) o s) s)

def secureWrite (n off : Nat) (d : Bytes) (s : State) : State :=
  let b := secureOf n s
  setSecure n { b with mem := Memory.writeN b.mem off d, poison := unpoison b.poison off d.length } s

/-- Zero both secure banks, with the controller checkpoint in them (R396, R413, R485). -/
def zeroSecure (s : State) : State :=
  let s := { s with pair := { s.pair with ctlCopies := 0 } }
  forEach [0, 1] (fun n s => setSecure n { secureOf n s with mem := [], poison := [] } s) s

/-- Owner code of the bank that a mailbox's host owns (R525). -/
def mbOwner (mb : Nat) : Nat := mb + 1

end Sys2Proof.Machine
end

