-- ==== Sys2Proof/Machine/Cellar.lean ====
section
/-! DEFINITION. The Cellar: the root, key slots, their tags, use and loss; MACsec key loads (spec/13, R395 to R414; spec/12,
R385, R388). -/

namespace Sys2Proof.Machine

/-! ### The root and its derivations (R398 to R401) -/

/-- The root as a key of AES-256. -/
def rootKey (s : State) : Bytes :=
  match s.otp.root with
  | some r => be 32 r.toNat
  | none => zeros 32

/-- The Device Serial Number as CONTEXT (R401). -/
def serialBytes : Bytes := be 8 Config.serialNumber.toNat

/-- A key of Neraz from the root (R401). -/
def ownKey (label : List Nat) (s : State) : Bytes := kdf (rootKey s) (label.map (fun n => BitVec.ofNat 8 n)) serialBytes 32

/-- The storage key of persistent slots. -/
def storageKey (s : State) : Bytes := ownKey [0x00, 0x53] s

/-- The slot-tag key. -/
def tagKey (s : State) : Bytes := ownKey [0x00, 0x54] s

/-- The root may be used: it exists and the life cycle is not RETURNED (R397). -/
def rootUsable (s : State) : Bool := s.otp.root.isSome && s.otp.life != 3

/-! ### Attributes (R403) -/

def attrUsage (a : Nat) : Nat := bits a 2 0
def attrAlg (a : Nat) : Nat := bits a 4 3
def attrOwner (a : Nat) : Nat := bits a 12 5
def attrExport (a : Nat) : Bool := a.testBit 13
def attrPersist (a : Nat) : Bool := a.testBit 14
def attrLimited (a : Nat) : Bool := a.testBit 15
def attrRemaining (a : Nat) : Nat := bits a 47 16

/-- Attributes as a command applies them: the requested low 15 bits, the limit, the origin (R403). -/
def attrApply (req limit origin : Nat) : Nat :=
  req % 32768 + (if limit = 0 then 0 else 32768 + 65536 * (limit % 4294967296)) + 281474976710656 * origin

/-- Attributes a command may write: USAGE 7 and ALG 3 are refused, bits [63:50] are zero (R403). -/
def attrOk (a : Nat) : Bool := attrUsage a != 7 && attrAlg a != 3 && bits a 63 50 == 0

/-- Key length of an algorithm in bytes: 16 for AES-128, else 32. -/
def algBytes (alg : Nat) : Nat := if alg = 0 then 16 else 32

/-- Key bytes in their places (R402). -/
def placeKey (alg : Nat) (k : Bytes) : Bytes := slice (k.take (algBytes alg)) 0 32

/-! ### Slots (R402, R405) -/

def slotOf (n : Nat) (s : State) : Slot := Tbl.get s.cellar.slots n {}

/-- The integrity tag of a slot (R405). -/
def slotTag (n : Nat) (key : Bytes) (attr : Nat) (s : State) : Nat := beN (cmac (tagKey s) (b1 n ++ key ++ b8 attr)) 0 4

def setSlot (n : Nat) (x : Slot) (s : State) : State :=
  { s with cellar := { s.cellar with slots := Tbl.set s.cellar.slots n x {} } }

/-- The key as the cipher takes it. -/
def slotKey (x : Slot) : Bytes := x.key.take (algBytes (attrAlg x.attr))

/-! ### MACsec keys in the MSEC island (R385, R390, R408) -/

def macsecOf (p : Nat) (s : State) : Macsec := Tbl.get s.ports.macsec p {}

def setMacsec (p : Nat) (m : Macsec) (s : State) : State :=
  { s with ports := { s.ports with macsec := Tbl.set s.ports.macsec p m {} } }

/-- The encoding SA of a port is usable (R385). -/
def txUsable (m : Macsec) : Bool :=
  let sa := Tbl.get m.tx m.an {}
  sa.inUse && sa.key.isSome && !sa.spent

/-- TX_STATE after a change: the SA became unusable, with its cause (1 PN_EXHAUSTED, 2 KEY_FAIL), or usable again (R385). -/
def txCheck (p : Nat) (s : State) : State :=
  let m := macsecOf p s
  if txUsable m then setMacsec p { m with txState := 0 } s
  else if m.en ∧ m.txState = 0 then
    let b := if (Tbl.get m.tx m.an {}).spent then 1 else 2
    notice 0x0201 (locPort p noIdx) 0 (raise (25 + 2 * p) b (setMacsec p { m with txState := 1 } s))
  else s

/-- The SAs of a port with the keys of the slots that satisfy `p` taken out. -/
def unloadSas (p : Nat → Bool) (m : Macsec) : Macsec :=
  { m with
    tx := m.tx.map (fun e => (e.1, if p e.2.slot then { e.2 with key := none } else e.2))
    rx := m.rx.map (fun e => (e.1, { e.2 with
      sa := e.2.sa.map (fun f => (f.1, if p f.2.slot then { f.2 with key := none } else f.2)) })) }

/-- Make every SA that names a slot unusable until it is written again (R408). -/
def unloadSlots (p : Nat → Bool) (s : State) : State :=
  forEach (List.range 8) (fun q s =>
    if (Tbl.find s.ports.macsec q).isSome then txCheck q (setMacsec q (unloadSas p (macsecOf q s)) s) else s) s

/-- Write a slot: it becomes VALID with a new tag, SAs that name it stop, a PERSIST slot waits to be stored (R405, R408,
R409). -/
def writeSlot (n : Nat) (key : Bytes) (attr : Nat) (s : State) : State :=
  let s := setSlot n { status := 1, key := key, attr := attr, tag := slotTag n key attr s } s
  let s := { s with cellar := { s.cellar with
    limitSeen := s.cellar.limitSeen.filter (fun k => k != n)
    storeDue := (s.cellar.storeDue.filter (fun k => k != n)) ++ (if attrPersist attr then [n] else []) } }
  unloadSlots (fun k => k == n) s

/-- Owl stops sending and checking when a slot it took a key from is cleared, becomes BAD or is wiped (R466). -/
def owlUnload (p : Nat → Bool) (s : State) : State :=
  let x := s.pair
  if (x.genKey.isSome || x.verKey.isSome) && (p x.cfg.genSlot || p x.cfg.verSlot) then
    raise 9 7 { s with pair := { x with genKey := none, verKey := none } }
  else s

/-- Clear a slot to EMPTY, with its persistent copy (R405, R409). -/
def clearSlot (n : Nat) (s : State) : State :=
  let s := setSlot n {} s
  let s := { s with
    cellar := { s.cellar with storeDue := s.cellar.storeDue.filter (fun k => k != n) }
    flash := { s.flash with persist := Tbl.erase s.flash.persist n } }
  owlUnload (fun k => k == n) (unloadSlots (fun k => k == n) s)

/-- A slot whose tag fails becomes BAD (R405). -/
def slotBad (n : Nat) (s : State) : State :=
  let s := setSlot n { slotOf n s with status := 2 } s
  owlUnload (fun k => k == n) (unloadSlots (fun k => k == n) (raise 88 0 (count 255 153 s)))

/-- The uses a USAGE permits (R404): 1 encrypt, 2 decrypt, 3 wrap, 4 derive, 5 generate, 6 verify; `xts` asks for
XTS-AES-128 alone. -/
def usageOk (use : Nat) (xts : Bool) (a : Nat) : Bool :=
  attrUsage a == use && (if xts then attrAlg a == 2 else decide (attrAlg a < 2))

/-- A class may name a slot (R407). -/
def ownerOk (cls n a : Nat) : Bool :=
  (attrOwner a).testBit cls && (decide (n < 240) || cls == 3 || cls == 5 || cls == 7)

/-- The checks of a use of slot `n`, in the order of R419 from SLOT_EMPTY to LIMIT_REACHED; 0 when all pass. -/
def slotCheck (cls n use : Nat) (xts : Bool) (s : State) : Nat :=
  let x := slotOf n s
  if x.status = 0 then 4
  else if !ownerOk cls n x.attr then 5
  else if !usageOk use xts x.attr then 6
  else if x.status = 2 then 2
  else if attrLimited x.attr && attrRemaining x.attr == 0 then 3
  else 0

/-- Count a LIMIT_REACHED; the first of a slot raises EV90 (R406). -/
def limitRefused (n : Nat) (s : State) : State :=
  let s := count 255 154 s
  if s.cellar.limitSeen.contains n then s
  else raise 90 0 { s with cellar := { s.cellar with limitSeen := n :: s.cellar.limitSeen } }

/-- An invocation starts: REMAINING falls and the tag is new (R406). -/
def invoke (n : Nat) (s : State) : State :=
  let x := slotOf n s
  if attrLimited x.attr ∧ 0 < attrRemaining x.attr then
    let a := x.attr - 65536
    let s := setSlot n { x with attr := a, tag := slotTag n x.key a s } s
    if attrPersist a then
      { s with cellar := { s.cellar with storeDue := (s.cellar.storeDue.filter (fun k => k != n)) ++ [n] } }
    else s
  else s

/-- Attributes of slots 240 to 255, which the spec does not give (log entry 22): owners 3, 5 and 7, AES-256. -/
def vintnerAttr : Nat := 32 * 0xA8 + 8

/-- Derive slots 240 to 255 from the root (R401, R409, R414). -/
def deriveOwn (s : State) : State :=
  if rootUsable s then
    forEach ((List.range 16).map (240 + ·)) (fun n s => writeSlot n (ownKey [0x00, 0x56, n] s) vintnerAttr s) s
  else s

/-- Restore the PERSIST slots from flash unless TAMPERED is set (R409, R414). -/
def restorePersist (s : State) : State :=
  if s.otp.tampered ∨ !rootUsable s then s
  else
    forEach s.flash.persist (fun e s =>
      match kwUnwrap (storageKey s) e.2 with
      | some d =>
        let a := leN d 32 8
        let s := setSlot e.1 { status := 1, key := d.take 32, attr := a, tag := slotTag e.1 (d.take 32) a s } s
        unloadSlots (fun k => k == e.1) s
      | none => s) s

/-- Draw `n` random bytes (R416). -/
def drawBytes (n : Nat) (s : State) : Bytes × State :=
  let (k, s) := takeFresh s
  (slice (Config.randomBytes k n) 0 n, s)

/-! ### Rows -/

/-- KEY_SLOT_SCRUB: one slot is checked; `disturb` is the difference between the tag bits read and those written (R405). -/
def execKeySlotScrub (slot disturb : Nat) (s : State) : Res :=
  let x := slotOf slot s
  if x.status = 1 ∧ (x.tag ^^^ disturb) ≠ slotTag slot x.key x.attr s then .next (slotBad slot s) else .next s

/-- PERSIST_SLOT_STORE: a written PERSIST slot is stored wrapped under the storage key (R409). -/
def execPersistSlotStore (slot : Nat) (s : State) : Res :=
  if s.cellar.storeDue.contains slot then
    let x := slotOf slot s
    let s := { s with cellar := { s.cellar with storeDue := s.cellar.storeDue.filter (fun k => k != slot) } }
    if x.status = 1 ∧ attrPersist x.attr then
      .next { s with flash := { s.flash with
        persist := Tbl.insert s.flash.persist slot (kwWrap (storageKey s) (x.key ++ b8 x.attr)) } }
    else .next s
  else .next s

/-- TRNG_HEALTH_FAIL: a health test fails (R416). -/
def execTrngHealthFail (s : State) : Res :=
  if s.press.trngOk then
    let s := { s with press := { s.press with trngOk := false } }
    .next (alarm 15 locDev (raise 94 0 (count 255 159 s)))
  else .next s

/-- TRNG_RECOVERED: a second of passing tests (R416). -/
def execTrngRecovered (s : State) : Res :=
  if s.press.trngOk then .next s else .next (raise 94 1 { s with press := { s.press with trngOk := true } })

/-- DRBG_RESEED: the masks are drawn anew; nothing software sees changes but the draw (R416). -/
def execDrbgReseed (s : State) : Res :=
  if s.press.trngOk then .next (drawBytes 48 s).2 else .next s

end Sys2Proof.Machine
end

