-- ==== Sys2Proof/Machine/Press.lean ====
section
/-! DEFINITION. The Press: descriptors, turns, completions, the lock, port C; tamper wipes; the commands of group 0x0A
(spec/13, R411 to R429). -/

namespace Sys2Proof.Machine

/-! ### Descriptors (R418) -/

def dMode (d : Bytes) : Nat := u8 d 0
def dInv (d : Bytes) : Bool := u8 d 1 == 1
def dSlot (d : Bytes) : Nat := u8 d 2
def dZero (d : Bytes) : Bool := bit d 3 0
def dRoot (d : Bytes) : Bool := bit d 3 1
def dLen (d : Bytes) : Nat := u32 d 4
def dAad (d : Bytes) : Nat := if dMode d = 3 then u32 d 8 else 0
def dSrc (d : Bytes) : Nat := u8 d 12
def dDst (d : Bytes) : Nat := u8 d 13
def dTag (d : Bytes) : Nat := u8 d 14
def dOther (d : Bytes) : Nat := u8 d 15
def dSrcAddr (d : Bytes) : Nat := u64 d 16
def dDstAddr (d : Bytes) : Nat := u64 d 24
def dParam (d : Bytes) : Bytes := slice d 32 16

/-- Tag bytes read after the data: a GCM inverse. -/
def dTagIn (d : Bytes) : Nat := if dMode d = 3 ∧ dInv d then dTag d else 0

/-- Bytes read at the source. -/
def dSrcLen (d : Bytes) : Nat := dAad d + dLen d + dTagIn d

/-- Bytes written at a destination in memory. -/
def dDstLen (d : Bytes) : Nat :=
  match dMode d with
  | 3 => dLen d + (if dInv d then 0 else dTag d)
  | 4 => if dInv d then 0 else dTag d
  | 6 => 0
  | 7 => if dInv d then 0 else 48
  | _ => dLen d

/-- A power of two from 512 to 65,536 (R415). -/
def unitOk (n : Nat) : Bool := [512, 1024, 2048, 4096, 8192, 16384, 32768, 65536].contains n

/-- The lengths and fields of a descriptor lie in their ranges (R401, R415, R418, R419); `label` is the first byte of a
KDF's source. -/
def formatOk (cls : Nat) (d : Bytes) (label : Nat) : Bool :=
  let n := dLen d
  let m := dMode d
  let toSlot := decide (m = 6) || (decide (m = 7) && dInv d)
  decide (1 ≤ m) && decide (m ≤ 7) && decide (u8 d 1 ≤ 1) && decide (u8 d 3 < 4) && decide (dSrc d ≤ 3) &&
  decide (dDst d ≤ 4) && (decide (dDst d = 3) == toSlot) && (!dRoot d || (decide (m = 6) && (cls == 3 || cls == 5))) &&
  (!dZero d || decide (dDst d = 0) || decide (dDst d = 4)) && (decide (dSrc d ≠ 2) || decide (dSrcLen d ≤ 16)) &&
  (match m with
   | 1 => decide (16 ≤ n) && decide (n ≤ 65536) && decide (n % 16 = 0)
   | 2 => decide (1 ≤ n) && decide (n ≤ 65536)
   | 3 => decide (n ≤ 65536) && decide (dAad d ≤ 65536) && decide (4 ≤ dTag d) && decide (dTag d ≤ 16)
   | 4 => decide (n ≤ 65536) && decide (4 ≤ dTag d) && decide (dTag d ≤ 16)
   | 5 => unitOk (u32 d 40) && decide (0 < n) && decide (n ≤ 65536) && decide (n % u32 d 40 = 0)
   | 6 => decide (1 ≤ u8 d 32) && decide (u8 d 32 ≤ 32) && decide (u8 d 32 ≤ n) && decide (n ≤ u8 d 32 + 64) && decide (label ≠ 0)
   | _ => if dInv d then decide (n = 48) else decide (n = 0))

/-- Owner code through which a class reaches a general bank (R418, R525). -/
def clsOwner (cls : Nat) : Nat := if cls < 3 then cls + 1 else 5

/-- One side of a transfer is owned and allowed (R418). -/
def accessOk (cls kind addr n : Nat) (s : State) : Bool :=
  match kind with
  | 0 =>
    let b := bankOf (addr / bankSize) s
    decide (addr / bankSize < 16) && decide (addr % bankSize + n ≤ bankSize) && b.owner == clsOwner cls && !b.busy
  | 1 => decide (cls < 2)
  | _ => (cls == 3 || cls == 5) && decide (addr / secureSize < 2) && decide (addr % secureSize + n ≤ secureSize)

def srcAccess (cls : Nat) (d : Bytes) (s : State) : Bool :=
  dSrcLen d == 0 || dSrc d == 2 || accessOk cls (dSrc d) (dSrcAddr d) (dSrcLen d) s

def dstAccess (cls : Nat) (d : Bytes) (s : State) : Bool :=
  dDst d == 2 || dDst d == 3 || accessOk cls (dDst d) (dDstAddr d) (dDstLen d) s

/-- USAGE that a descriptor needs (R404). -/
def dUse (d : Bytes) : Nat :=
  match dMode d with
  | 4 => if dInv d then 6 else 5
  | 6 => 4
  | 7 => 3
  | _ => if dInv d then 2 else 1

/-- A slot named as a destination: not of Vintner for others, and owned unless EMPTY (R407; log entry 23). -/
def destOwner (cls n : Nat) (s : State) : Bool :=
  let x := slotOf n s
  (decide (n < 240) || cls == 3 || cls == 5 || cls == 7) && (x.status == 0 || (attrOwner x.attr).testBit cls)

/-- The checks from SLOT_EMPTY on for a descriptor, in the order of R419; 0 when all pass. -/
def slotsCheck (cls : Nat) (d : Bytes) (s : State) : Nat :=
  let exp := dMode d == 7 && !dInv d
  let o := slotOf (dOther d) s
  let k := if dRoot d then 0 else slotCheck cls (dSlot d) (dUse d) (dMode d == 5) s
  if k = 4 ∨ (exp ∧ o.status = 0) then 4
  else if k = 5 ∨ (exp ∧ !ownerOk cls (dOther d) o.attr) ∨ (dDst d = 3 ∧ !destOwner cls (dOther d) s) then 5
  else if k = 6 ∨ (exp ∧ !attrExport o.attr) then 6
  else if k = 2 ∨ (exp ∧ o.status = 2) then 2
  else k

/-! ### Memory a descriptor names -/

/-- Read `n` source bytes at `off` of a descriptor; `host` is what PCIe DMA gives. True when a word was poisoned. -/
def readSource (j : PressJob) (off n : Nat) (host : Bytes) (s : State) : Bytes × Bool × State :=
  match j.src with
  | some b => (slice b off n, false, s)
  | none =>
    let a := dSrcAddr j.desc + off
    match dSrc j.desc with
    | 0 => bankRead (a / bankSize) (a % bankSize) n s
    | 1 => (slice host 0 n, false, s)
    | 2 => (slice (dParam j.desc) off n, false, s)
    | _ => secureRead (a / secureSize) (a % secureSize) n s

/-- Write bytes at `off` of a descriptor's destination. -/
def writeDest (d : Bytes) (off : Nat) (b : Bytes) (s : State) : State :=
  if b.isEmpty then s else
  let a := dDstAddr d + off
  match dDst d with
  | 0 => bankWrite (a / bankSize) (a % bankSize) b s
  | 1 => emit (.dma a b) s
  | 4 => secureWrite (a / secureSize) (a % secureSize) b s
  | _ => s

/-! ### Queues and turns (R417, R419, R420) -/

def pressQueue (c : Nat) (s : State) : List PressJob := Tbl.get s.press.queues c []

def setPressQueue (c : Nat) (q : List PressJob) (s : State) : State :=
  { s with press := { s.press with queues := Tbl.set s.press.queues c q [] } }

/-- Put a job at the tail of a class's queue. -/
def pressSubmit (c : Nat) (j : PressJob) (s : State) : State := setPressQueue c (pressQueue c s ++ [j]) s

/-- Bytes of a piece (R417). -/
def pieceSize (d : Bytes) : Nat :=
  match dMode d with
  | 1 => if dInv d then 4096 else 1024
  | 4 => 256
  | 6 => 65536
  | 7 => 65536
  | _ => 4096

/-- What the stream modes give for the input so far. -/
def modeOut (d key input : Bytes) : Bytes :=
  match dMode d with
  | 1 => if dInv d then cbcDecrypt key (dParam d) input else cbcEncrypt key (dParam d) input
  | 2 => ctrCrypt key (dParam d) input
  | 3 => gcmCrypt key (slice d 32 12) input
  | 5 => xtsCrypt (!dInv d) key (u64 d 32) (u32 d 40) input
  | _ => []

/-- A class may be served now: its head waits for a turn and no other class holds the lock (R417, R420). -/
def pressReady (s : State) (c : Nat) : Bool :=
  (match pressQueue c s with
   | j :: _ => j.finished.isNone
   | [] => false) &&
  (match s.press.lock with
   | some l => l.cls == c
   | none => true)

/-- The check of a descriptor at its start (R419): its status, 0 when it may run. -/
def startCheck (c : Nat) (j : PressJob) (s : State) : Nat :=
  if j.src.isSome then slotCheck c (dSlot j.desc) (dUse j.desc) (dMode j.desc == 5) s
  else
    let label := (readSource j 0 1 [1] s).1
    if !formatOk c j.desc (u8 label 0) then 7
    else if !srcAccess c j.desc s ∨ !dstAccess c j.desc s then 8
    else slotsCheck c j.desc s

/-- The last turn of a descriptor whose data is all read: its status, tag and what it writes. A check of the gateway gets
the value z itself (R422). -/
def finishJob (c : Nat) (j : PressJob) (s : State) : PressJob × State :=
  let d := j.desc
  match dMode d with
  | 3 =>
    let iv := slice d 32 12
    if dInv d then
      let t := (gcmTag j.key iv j.aad j.input).take (dTag d)
      ({ j with finished := some (if t = j.tagIn then 0 else 1) }, s)
    else
      let t := (gcmTag j.key iv j.aad (modeOut d j.key j.input)).take (dTag d)
      ({ j with finished := some 0, tag := t, written := j.written + t.length, out := j.out ++ t },
       writeDest d (dLen d) t s)
  | 4 =>
    let t := (cmac j.key j.input).take (dTag d)
    let gateway : Bool := match j.origin with
      | .gateway _ => true
      | _ => false
    if dInv d && !gateway then ({ j with finished := some (if t = (dParam d).take (dTag d) then 0 else 1) }, s)
    else
      ({ j with finished := some 0, tag := t, written := if dDst d = 2 then 0 else t.length }, writeDest d 0 t s)
  | 6 =>
    let n := u8 d 32
    let a := (slotOf (dOther d) s).attr
    let label := (if dRoot d then [BitVec.ofNat 8 (0x80 + c)] else []) ++ j.input.take n
    let k := kdf j.key label (j.input.drop n) (algBytes (attrAlg a))
    ({ j with finished := some 0 }, writeSlot (dOther d) (placeKey (attrAlg a) k) (attrApply a 0 2) s)
  | 7 =>
    if dInv d then
      match kwUnwrap j.key j.input with
      | some x =>
        let a := leN x 32 8
        ({ j with finished := some 0 }, writeSlot (dOther d) (x.take 32) (a % 281474976710656 + 281474976710656) s)
      | none => ({ j with finished := some 1 }, s)
    else
      let o := slotOf (dOther d) s
      let b := kwWrap j.key (o.key ++ b8 o.attr)
      ({ j with finished := some 0, written := 48 }, writeDest d 0 b s)
  | _ => ({ j with finished := some 0 }, s)

/-- One turn of a job: its start on the first, a piece of data, its end on the last. `fault` is a detected datapath, memory
or DMA fault (R424). -/
def turnJob (c : Nat) (host : Bytes) (fault : Bool) (j : PressJob) (s : State) : PressJob × State :=
  let d := j.desc
  let st := if j.started then 0 else startCheck c j s
  if st ≠ 0 then ({ j with finished := some st }, if st = 3 then limitRefused (dSlot d) s else s)
  else
    let (j, s) :=
      if j.started then (j, s)
      else
        let k := if dRoot d then rootKey s else slotKey (slotOf (dSlot d) s)
        ({ j with started := true, key := k }, if dRoot d then s else invoke (dSlot d) s)
    if fault then ({ j with finished := some 10 }, s)
    else
      let a := if j.input.isEmpty then dAad d - j.aad.length else 0
      let pos := dAad d + j.input.length
      let n := min (pieceSize d) (dLen d - j.input.length)
      let t := if j.input.length + n = dLen d then dTagIn d else 0
      let (b, bad, s) := readSource j (pos - a) (a + n + t) host s
      if bad then ({ j with finished := some 10 }, s)
      else
        let j := { j with aad := j.aad ++ b.take a, input := j.input ++ slice (b.drop a) 0 n, tagIn := j.tagIn ++ b.drop (a + n) }
        let out := (modeOut d j.key j.input).drop j.written
        let s := if j.src.isSome then s else writeDest d j.written out s
        let j := { j with
          written := if dDst d = 2 ∧ j.src.isNone then j.written else j.written + out.length
          out := if j.src.isSome then j.out ++ out else [] }
        if j.input.length = dLen d then finishJob c j s else (j, s)

/-- PRESS_TURN: one turn of the next queue in round robin (R417). A retired queue's descriptors end with FAULT (R424). -/
def execPressTurn (host : Bytes) (fault : Bool) (s : State) : Res :=
  match ((List.range 8).map (fun i => (s.press.rr + i) % 8)).find? (fun c => pressReady s c) with
  | none => .next s
  | some c =>
    match pressQueue c s with
    | [] => .next s
    | j :: rest =>
      let s := { s with press := { s.press with rr := (c + 1) % 8 } }
      if s.press.retired.getLsbD c then .next (setPressQueue c ({ j with finished := some 10 } :: rest) s)
      else
        let (j, s) := turnJob c host fault j s
        .next (setPressQueue c (j :: rest) s)

/-- The 32-byte completion record (R419). -/
def pressRecord (j : PressJob) (status : Nat) (s : State) : Bytes :=
  b1 status ++ b1 (b2n j.zeroed) ++ zeros 2 ++ b4 j.written ++ b8 (now s) ++ slice j.tag 0 16

/-- A record for CMD_PRESS_RUN; DONE follows the last (CMD_PRESS_RUN). -/
def runRecord (mb : Nat) (rec : Bytes) (s : State) : State :=
  let r := Tbl.get s.press.runs mb {}
  let r := { r with records := r.records ++ [rec] }
  if r.count ≤ r.records.length then
    let s := { s with press := { s.press with runs := Tbl.erase s.press.runs mb } }
    mbDone mb stOk s.sets.gen (b2 r.count ++ zeros 2 ++ r.records.flatten) s
  else { s with press := { s.press with runs := Tbl.insert s.press.runs mb r } }

/-- A frame that the device itself makes enters at a port: it keeps its stamp and source zone (R14, R331, R423). -/
def reenter (port : Nat) (f : Frame) (s : State) : State :=
  match stageFrame { f with port := port, ts := allTb s } true s with
  | (some fid, s) => commitFrame fid s
  | (none, s) => s

/-- What port C does with its job's completion (R422, R423). -/
def portCDone (n status : Nat) (out : Bytes) (s : State) : State :=
  match Tbl.find s.press.jobs n with
  | none => s
  | some j =>
    let s := { s with press := { s.press with jobs := Tbl.erase s.press.jobs n } }
    if status = 0 then reenter 132 { j.frame with bytes := setBytes j.frame.bytes j.data out } s
    else if status = 1 then count 132 1 s
    else count 132 2 s

/-- A completion goes to who asked (R419). -/
def pressAnswer (j : PressJob) (status : Nat) (s : State) : State :=
  match j.origin with
  | .run mb => runRecord mb (pressRecord j status s) s
  | .gateway n => { s with press := { s.press with answers := Tbl.insert s.press.answers n (status, j.tag) } }
  | .portC n => portCDone n status j.out s

/-- A queue is retired (R424, R532). -/
def retirePress (c : Nat) (s : State) : State :=
  if s.press.retired.getLsbD c then s
  else unitRetired 89 2 (locDevIdx c) { s with press := { s.press with retired := s.press.retired ||| BitVec.ofNat 8 (2 ^ c) } }

/-- A detected fault of a queue (R424, R532). -/
def pressFault (c : Nat) (s : State) : State :=
  let s := raise 89 1 (count 255 160 s)
  let ts := faultsNow (Tbl.get s.press.faults c []) 60000000000 s
  let s := { s with press := { s.press with faults := Tbl.set s.press.faults c ts [] } }
  if 3 ≤ ts.length then retirePress c s else s

/-- ZERO_ON_FAIL: the whole written range is overwritten with zeros (R421). -/
def zeroOnFail (j : PressJob) (s : State) : PressJob × State :=
  if j.finished = some 1 ∧ dZero j.desc ∧ dInv j.desc ∧ dMode j.desc = 3 then
    ({ j with zeroed := true }, writeDest j.desc 0 (zeros j.written) s)
  else (j, s)

/-- PRESS_DESCRIPTOR_COMPLETE: the finished head of a queue posts its record (R419 to R424). -/
def execPressDescriptorComplete (cls : Nat) (s : State) : Res :=
  match pressQueue cls s with
  | [] => .next s
  | j :: rest =>
    match j.finished with
    | none => .next s
    | some st =>
      let (j, s) := zeroOnFail j (setPressQueue cls rest s)
      let s := count 255 (144 + cls) s
      let s := if st = 1 then raise 89 0 (count 255 152 s) else s
      let s := if st = 10 ∧ !s.press.retired.getLsbD cls then pressFault cls s else s
      .next (pressAnswer j st s)

/-- Every descriptor of a class completes with FLUSHED (R413, R419); one in progress too when `all`. -/
def flushQueue (c : Nat) (all : Bool) (s : State) : State :=
  let q := pressQueue c s
  let keep (j : PressJob) : Bool := !all && j.started && j.finished.isNone
  let s := setPressQueue c (q.filter keep) s
  forEach (q.filter (fun j => !keep j)) (fun j s => pressAnswer j (j.finished.getD 9) (count 255 (144 + c) s)) s

/-- PRESS_LOCK_EXPIRY (R420). -/
def execPressLockExpiry (s : State) : Res :=
  match s.press.lock with
  | none => .next s
  | some l =>
    let s := { s with press := { s.press with
      lock := none, barred := Tbl.set s.press.barred l.cls (now s + 2000000) 0 } }
    .next (raise 91 0 (count 255 155 s))

/-! ### Port C (R423) -/

/-- The 16 bytes of a job of a set. -/
def cJobOf (c : CfgSet) (n : Nat) : Bytes := Tbl.get c.portC n (zeros 16)

/-- First stack entry of a header type. -/
def headerAt (stack : List (Nat × Nat)) (type : Nat) : Option Nat := (stack.find? (fun e => e.1 == type)).map (·.2)

/-- The counter of port C after one use: the high half is drawn again when the low half wraps (R423). -/
def stepCtr (s : State) : State :=
  let c := s.press.ctr
  if c % 4294967296 = 4294967295 then
    let (b, s) := drawBytes 4 s
    { s with press := { s.press with ctr := leN b 0 4 * 4294967296 } }
  else { s with press := { s.press with ctr := c + 1 } }

/-- PORT_C_JOB: the head of queue 674 becomes a job of the Press (R252, R423). -/
def execPortCJob (s : State) : Res :=
  let s := dropBad 674 (ageQueue 674 s)
  match copiesOf 674 s with
  | [] => .next s
  | x :: _ =>
    if halted 132 s then .next s else
    let b := copyBytes x s
    let f := ((frameOf x.fid s).map (·.frame)).getD {}
    let job := cJobOf (setOf x.gen s) (x.rewrite.getD 0)
    let s := dropHead 674 s
    let anchor := if u8 job 2 = 0 then some 0 else headerAt x.stack (u8 job 2)
    match anchor with
    | none => .next (count 132 2 s)
    | some at_ =>
      let p := at_ + u16 job 4
      let n := b.length
      if x.rewrite.isNone ∨ 255 < x.rewrite.getD 0 ∨ !bit job 0 0 ∨ n < p + 28 then .next (count 132 2 s)
      else
        let inv := bit job 0 1
        let iv := if inv then slice b p 12 else slice job 8 4 ++ be 8 s.press.ctr
        let b := setBytes b p iv
        let s := if inv then s else stepCtr s
        let data := n - 28 - p
        let k := s.press.nextJob
        let desc := b1 3 ++ b1 (b2n inv) ++ b1 (u8 job 1) ++ b1 0 ++ b4 data ++ b4 (p + 12) ++ b1 2 ++ b1 2 ++ b1 16 ++ b1 0 ++
          zeros 16 ++ iv ++ zeros 4
        let src := b.take (p + 12 + data) ++ (if inv then b.drop (n - 16) else [])
        let frame : Frame := { f with bytes := b, zone := some x.zone, gen := x.gen, launch := none, prio := none, tsReq := none }
        let s := { s with press := { s.press with
          nextJob := k + 1, jobs := Tbl.insert s.press.jobs k { copy := x, frame := frame, data := p + 12, inverse := inv } } }
        .next (pressSubmit 4 { desc := desc, origin := .portC k, src := some src } (count 132 0 s))

end Sys2Proof.Machine
end

