-- ==== Sys2Proof/Machine/Ports.lean ====
section
/-! DEFINITION. Lanes and ports: modes, link states, faults and retirement, MDIO, TC10, and the commands 0x0200 to 0x0208
(spec/12, R363 to R376, R391 to R394). -/

namespace Sys2Proof.Machine

/-! ### Lanes (R363 to R366) -/

def laneOf (n : Nat) (s : State) : Lane := Tbl.get s.ports.lane n {}

def setLane (n : Nat) (l : Lane) (s : State) : State :=
  { s with ports := { s.ports with lane := Tbl.set s.ports.lane n l {} } }

/-- The lane of a port: B0 to B7 are lanes 0 to 7, a trunk quad one of lanes 8 to 13, S lane 14 (R363). -/
def laneNo (p : Nat) : Nat := if p < 8 then p else if p < 32 then 8 + (p - 8) / 4 else 14

/-- The ports of a lane by itself. -/
def portsOfLane (l : Nat) : List Nat :=
  if l < 8 then [l] else if l < 14 then (List.range 4).map (fun j => 8 + 4 * (l - 8) + j) else [129]

/-- The port is the even port of a formed 50G_PAIR. -/
def pairFormed (p : Nat) (s : State) : Bool := decide (p < 8) && decide (p % 2 = 0) && (laneOf p s).mode == 6

/-- A port that R364 keeps DOWN: the odd port of a 50G_PAIR, the three idle ports of a single-port trunk lane. -/
def keptDown (p : Nat) (s : State) : Bool :=
  if p < 8 then p % 2 == 1 && (laneOf (p - 1) s).mode == 6
  else if p < 32 then (p - 8) % 4 != 0 && [1, 2, 4].contains (laneOf (laneNo p) s).mode
  else false

/-- RATE codes that a mode allows, lowest first (R363, R365). -/
def modeRates (mode : Nat) : List Nat :=
  match mode with
  | 1 => [0]
  | 2 => [0]
  | 3 => [1, 2, 3]
  | 4 => [3]
  | 5 => [4]
  | 6 => [5]
  | 7 => [0]
  | 8 => [0, 1]
  | _ => []

/-- A mode that a lane can run (R363). -/
def modeFits (lane mode : Nat) : Bool :=
  if mode = 0 then true
  else if lane < 8 then [1, 2, 3, 4, 5].contains mode || (mode == 6 && lane % 2 == 0)
  else if lane < 14 then [1, 2, 4, 7, 8].contains mode
  else mode == 1

/-- kb/s of a RATE code. -/
def rateKbps (code : Nat) : Nat := [1000000, 2500000, 5000000, 10000000, 25000000, 50000000].getD code 1000000

/-- Port rate in kb/s. -/
def portRate (p : Nat) (s : State) : Nat := rateKbps (ethPort p s).rate

/-! ### Events of ports (R393) -/

/-- Cause bit of a port's link event from the bit of the B-port layout: the event and the bit, if the port has one. -/
def linkCause (p b : Nat) : Option (Nat × Nat) :=
  if p < 8 then some (24 + 2 * p, b)
  else if p < 32 then
    let j := (p - 8) % 4
    let e := 40 + (p - 8) / 4
    match b with
    | 0 => some (e, j)
    | 1 => some (e, 4 + j)
    | 2 => some (e, 8 + j)
    | 5 => some (e, 17)
    | 6 => some (e, 17)
    | 7 => some (e, 13)
    | 8 => some (e, 14)
    | 9 => some (e, 15)
    | 10 => some (e, 16)
    | 11 => some (e, 18)
    | _ => none
  else none

/-- Raise a cause of a port's link event: 0 LINK_UP, 1 LINK_DOWN, 2 RETIRED, 3 LOCAL_FAULT, 4 REMOTE_FAULT, 5 AN_FAIL,
6 PARTNER_MISMATCH, 7 PHY_WAKE, 8 TC10_SLEEP_OK, 9 TC10_SLEEP_FAIL, 10 FEC_UNCORRECTED, 11 FIFO_OVERFLOW. -/
def linkEvent (p b : Nat) (s : State) : State :=
  match linkCause p b with
  | some (e, k) => raise e k s
  | none => s

/-! ### Frames cut short (R19, R371) -/

/-- Replace the scheduler state of a port. -/
def egrOf (p : Nat) (s : State) : EgrPort := Tbl.get s.flow.egr p {}

def setEgr (p : Nat) (e : EgrPort) (s : State) : State :=
  { s with flow := { s.flow with egr := Tbl.set s.flow.egr p e {} } }

/-- End with an inverted FCS each copy of a frame that is on a wire; `idx` is the counter of the egress port. -/
def invertOnWire (fid idx : Nat) (s : State) : State :=
  forEach s.flow.egr (fun e s =>
    let hit (w : Option OnWire) : Bool := match w with
      | some w => w.copy.fid == fid && w.copy.ct && !w.invert
      | none => false
    let inv (w : Option OnWire) : Option OnWire := w.map (fun w => if w.copy.fid = fid then { w with invert := true } else w)
    let n := b2n (hit e.2.tx) + b2n (hit e.2.txPre)
    if n = 0 then s else countN e.1 idx n (setEgr e.1 { e.2 with tx := inv e.2.tx, txPre := inv e.2.txPre } s)) s

/-- A frame being received ends badly: copies on a wire are inverted, stored copies go, its parse ends (R19). -/
def abortFrame (fid : Nat) (s : State) : State :=
  match frameOf fid s with
  | none => s
  | some v =>
    let s := invertOnWire fid 11 s
    let s := forgetParse fid s
    let s := putFrame fid { v with ended := true, staged := false } s
    let s := forEach (busyQueues s) (fun q s => (removeCopies q (fun x => x.fid == fid) s).2) s
    match frameOf fid s with
    | some v => if v.refs = 0 then pfcCheck v.frame.port (dropFrame fid s) else s
    | none => s

/-- A frame being received by a port is discarded; true when there was one. -/
def dropRx (p : Nat) (s : State) : Bool × State :=
  match (ethPort p s).rx with
  | none => (false, s)
  | some r =>
    let s := setEthPort p { ethPort p s with rx := none } s
    (!r.dropped, match r.fid with
      | some fid => abortFrame fid s
      | none => s)

/-- Copies of a port's queues are removed as by CMD_VAT_PORT_RESET; their number (R223, R372). -/
def portReset (p : Nat) (s : State) : Nat × State :=
  let (n, s) := (portQueues p).foldl (fun (acc : Nat × State) q =>
    let (xs, s) := unlinkQueue q acc.2
    (acc.1 + xs.length, countN p (256 + 4 * queueIdx q + 1) xs.length s)) (0, s)
  (n, setVatPort p { vatPort p s with halted := false } s)

/-! ### Link states (R369 to R373) -/

/-- Negotiation allows UP: control words are not judged, or the last one was accepted (R368). -/
def negotiated (p : Nat) (s : State) : Bool :=
  let m := (laneOf (laneNo p) s).mode
  let e := ethPort p s
  !e.an || m == 4 || m == 5 || m == 6 || e.anOk

/-- A reference that the port's lane needs is present (R51, R370). -/
def refPresent (p : Nat) (s : State) : Bool := if p < 8 then s.power.refBb else if p < 32 then s.power.refTrk else true

/-- The conditions of R370. -/
def upConditions (p : Nat) (s : State) : Bool :=
  let e := ethPort p s
  e.pcs && refPresent p s && negotiated p s && !e.localFault && !e.remoteFault

/-- CAUSE for leaving UP: the first condition missing. -/
def downCause (p : Nat) (s : State) : Nat :=
  let e := ethPort p s
  if !e.pcs || !refPresent p s then 1 else if e.localFault then 2 else if e.remoteFault then 3
  else if !negotiated p s then e.anWhy else 1

/-- A new state of a port, with LAST_CHANGE. -/
def enterState (p st cause : Nat) (s : State) : State :=
  let e := ethPort p s
  setEthPort p { e with state := st, cause := if e.state = 2 then cause else e.cause, lastChange := now32 s } s

/-- What leaving UP does to frames on the wire and to preemption (R243, R371). -/
def cutWire (p : Nat) (s : State) : State :=
  let (had, s) := dropRx p s
  let s := if had then count p 8 s else s
  let e := egrOf p s
  let n := b2n e.tx.isSome + b2n e.txPre.isSome
  let inv (w : Option OnWire) : Option OnWire := w.map (fun w => { w with invert := true })
  let pr := e.preempt
  countN p 9 n (setEgr p { e with
    tx := inv e.tx, txPre := inv e.txPre, preempt := { pr with state := if pr.en ∧ pr.verifyEn then 1 else 0, attempts := 0 } } s)

/-- The port leaves UP for a state (R371). -/
def leaveUp (p st cause : Nat) (s : State) : State :=
  if (ethPort p s).state = 2 then linkEvent p 1 (cutWire p (enterState p st cause s)) else enterState p st cause s

/-- The port goes DOWN or RETIRED: its queued copies are removed and it refuses copies (R372). -/
def refusePort (p st cause : Nat) (s : State) : State := (portReset p (leaveUp p st cause s)).2

/-- Retire a port (R373, R532). -/
def retirePort (p : Nat) (s : State) : State :=
  let s := refusePort p 4 7 s
  match linkCause p 2 with
  | some (e, b) => unitRetired e b (locPort p noIdx) s
  | none => alarm 10 (locPort p noIdx) (trace 2 0xFF 0xFF (locPort p noIdx) s)

/-- Retire a lane with its ports: a quad lane as one unit, any other lane as its port (R373, R516). -/
def retireLane (l : Nat) (s : State) : State :=
  if 8 ≤ l ∧ l < 14 then
    let s := setLane l { laneOf l s with retired := true } s
    let s := forEach (portsOfLane l) (fun p s => refusePort p 4 7 s) s
    unitRetired (40 + (l - 8)) 12 (locCode devId (2 + (l - 8)) 0xFF noIdx) s
  else forEach (portsOfLane l) (fun p s => retirePort p s) s

/-- A quad trunk lane (R373). -/
def quadLane (l : Nat) (s : State) : Bool := (laneOf l s).mode == 7 || (laneOf l s).mode == 8

/-- A link fault of a port that left UP (R373). -/
def linkFault (p : Nat) (s : State) : State :=
  let s := count p 17 s
  let l := laneNo p
  if quadLane l s && !(laneOf l s).lock then
    if (laneOf l s).lossCounted then s
    else
      let ts := faultsNow (laneOf l s).faults 60000000000 s
      let s := setLane l { laneOf l s with faults := ts, lossCounted := true } s
      if 6 ≤ ts.length then retireLane l s else s
  else
    let ts := faultsNow (ethPort p s).faults 60000000000 s
    let s := setEthPort p { ethPort p s with faults := ts } s
    if 6 ≤ ts.length then retirePort p s else s

/-- PCS_CONDITION_CHANGE: PCS lock of the port and its lane, fault ordered sets, and errors counted since the last change
(R370, R391). -/
def execPcsConditionChange (port : Nat) (lock laneLock localFault remoteFault : Bool) (errs corrected uncorrected : Nat)
    (s : State) : Res :=
  let e := ethPort port s
  let s := setEthPort port { e with pcs := lock, localFault := localFault, remoteFault := remoteFault } s
  let l := laneOf (laneNo port) s
  let s := setLane (laneNo port) { l with lock := laneLock, lossCounted := l.lossCounted && !laneLock } s
  let s := if localFault && !e.localFault then linkEvent port 3 s else s
  let s := if remoteFault && !e.remoteFault then linkEvent port 4 s else s
  let s := countN port 14 errs (countN port 15 corrected (countN port 16 uncorrected s))
  .next (if 0 < uncorrected then linkEvent port 10 s else s)

/-- AN_CONTROL_WORD: a control word or Clause 37 base page; what it says of link, duplex and speed (a RATE code, 6 for any
other speed) comes with it (R368). -/
def execAnControlWord (port word : Nat) (link duplex : Bool) (speed : Nat) (s : State) : Res :=
  let e := ethPort port s
  let m := (laneOf (laneNo port) s).mode
  let s := setEthPort port { e with word := word } s
  if !e.an ∨ m = 0 ∨ m = 4 ∨ m = 5 ∨ m = 6 then .next s
  else
    let good := if m = 2 then duplex else link && duplex && speed == e.rate
    let why := if good then 0 else if m = 2 then 4 else 5
    let s := setEthPort port { ethPort port s with anOk := good, anWhy := why } s
    if good then .next s
    else if m = 2 then .next (linkEvent port 5 s)
    else .next (linkEvent port 6 (count port 18 s))

/-! ### MDIO (R374) -/

def mdioOf (b : Nat) (s : State) : Mdio := Tbl.get s.ports.mdio b {}

def setMdio (b : Nat) (m : Mdio) (s : State) : State :=
  { s with ports := { s.ports with mdio := Tbl.set s.ports.mdio b m {} } }

/-- A transaction starts on the wire. -/
def mdioStart (b : Nat) (o : MdioOp) (s : State) : State :=
  emit (.mdio b o.phy o.dev o.reg o.write) (setMdio b { mdioOf b s with busy := some o } s)

/-- Ask for a transaction: at once on an idle master, else behind those waiting, TC10 before hosts (R374). -/
def mdioAsk (b : Nat) (o : MdioOp) (s : State) : State :=
  let m := mdioOf b s
  if m.busy.isNone then mdioStart b o s
  else
    let host (x : MdioOp) : Bool := match x.origin with
      | .mailbox _ => true
      | .tc10 _ => false
    let q := if host o then m.queue ++ [o] else m.queue.filter (fun x => !host x) ++ [o] ++ m.queue.filter host
    setMdio b { m with queue := q } s

/-- MDIO_TRANSACTION_COMPLETE: `value` is what a read returned, 0xFFFF without a PHY (R374). -/
def execMdioTransactionComplete (bus value : Nat) (s : State) : Res :=
  let m := mdioOf bus s
  match m.busy with
  | none => .next s
  | some o =>
    let s := setMdio bus { m with busy := none } s
    let s := match m.queue with
      | x :: rest => mdioStart bus x (setMdio bus { mdioOf bus s with queue := rest } s)
      | [] => s
    match o.origin with
    | .mailbox mb =>
      match (mbOf mb s).cur with
      | some r => .next (mbDone mb stOk s.sets.gen (slice r.params 0 6 ++ b2 (o.write.getD value)) s)
      | none => .next s
    | .tc10 _ => .next s

/-! ### TC10 (R375, R376) -/

def phyOf (l : Nat) (s : State) : Phy := Tbl.get s.ports.phy l {}

def tc10Of (l : Nat) (s : State) : Tc10 := Tbl.get s.ports.tc10 l {}

def setTc10 (l : Nat) (t : Tc10) (s : State) : State :=
  { s with ports := { s.ports with tc10 := Tbl.set s.ports.tc10 l t {} } }

/-- Write a register of a lane's PHY for TC10. -/
def phyWrite (l reg v : Nat) (s : State) : State :=
  let p := phyOf l s
  mdioAsk p.bus { origin := .tc10 l, phy := p.addr, dev := if p.clause = 22 then 0 else p.mmd, reg := reg, write := some v } s

/-- Ports of a lane, the odd lane's port of a pair excepted. -/
def lanePorts (l : Nat) (s : State) : List Nat := (portsOfLane l).filter (fun p => !keptDown p s)

/-- Start a sleep request on a lane: its ports stop selecting copies and SLEEP_VAL is written (R375). -/
def tc10Sleep (l : Nat) (mb : Option Nat) (s : State) : State :=
  let s := setTc10 l { on := true, mb := mb } s
  let s := forEach (lanePorts l s) (fun p s =>
    let e := ethPort p s
    if e.state = 1 ∨ e.state = 2 then setEthPort p { e with tc10 := true } s else s) s
  phyWrite l (phyOf l s).sleepReg (phyOf l s).sleepVal s

/-- The handshake of a lane ends with a result of CMD_TC10; its ports take state `st` (R375). -/
def tc10End (l st result : Nat) (s : State) : State :=
  let t := tc10Of l s
  let s := setTc10 l {} s
  let s := forEach (portsOfLane l) (fun p s =>
    if (ethPort p s).tc10 then
      let s := setEthPort p { ethPort p s with tc10 := false } s
      let s := if (ethPort p s).state = 2 then cutWire p s else s
      let s := enterState p st 6 s
      if st = 3 then linkEvent p 8 s else linkEvent p 9 (count p 21 s)
    else s) s
  match t.mb with
  | some mb => mbDone mb stOk s.sets.gen (b1 result) s
  | none => s

/-- Sleeping ports of a lane start training (R376). -/
def laneWake (l : Nat) (s : State) : State :=
  forEach (portsOfLane l) (fun p s => if (ethPort p s).state = 3 then enterState p 1 6 s else s) s

/-- A wake indication of a lane's PHY (R376). -/
def phyWakeSeen (lane : Nat) (s : State) : State :=
  let p := (portsOfLane lane).headD 0
  let s := linkEvent p 7 (count p 20 s)
  if (tc10Of lane s).on then tc10End lane 1 2 (phyWrite lane (phyOf lane s).sleepReg (phyOf lane s).wakeVal s)
  else laneWake lane s

/-! ### Scheduler clamps that follow the port rate (R249) -/

/-- A 4-byte field limited to a value. -/
def capField (i cap : Nat) (b : Bytes) : Bytes := if cap < u32 b i then setBytes b i (b4 cap) else b

/-- The 152 bytes of CMD_SCHED_PORT with rates above the port rate clamped. -/
def capRates (cap : Nat) (b : Bytes) : Bytes :=
  (List.range 8).foldl (fun b t => capField (32 + 16 * t) cap (capField (28 + 16 * t) cap b)) (capField 8 cap b)

/-- Clamp the scheduler settings of a port in both sets to its rate. -/
def reclamp (p : Nat) (s : State) : State :=
  let f (c : CfgSet) : CfgSet := match Tbl.find c.sched p with
    | some b => { c with sched := Tbl.insert c.sched p (capRates (portRate p s) b) }
    | none => c
  { s with sets := { s.sets with a := f s.sets.a, b := f s.sets.b } }

/-- Set RATE of a port. -/
def setRate (p r : Nat) (s : State) : State :=
  if (ethPort p s).rate = r then s else reclamp p (setEthPort p { ethPort p s with rate := r } s)

/-! ### Commands -/

def isEthPort (p : Nat) : Bool := decide (p < 32) || p == 129

/-- Ports on a lane as a mode change sees them: both ports of a pair. -/
def modePorts (l mode : Nat) (s : State) : List Nat :=
  if l < 8 ∧ (mode = 6 ∨ (laneOf l s).mode = 6) then [l, l + 1] else portsOfLane l

/-- CONFLICT of a lane mode write (R363, R364). -/
def modeConflict (l mode fec : Nat) (s : State) : Bool :=
  !modeFits l mode || ((mode == 4 || mode == 5) && decide (1 < fec)) ||
  (mode == 6 && (laneOf (l + 1) s).mode != 0) ||
  (decide (l < 8) && l % 2 == 1 && mode != 0 && (laneOf (l - 1) s).mode == 6)

/-- The response of CMD_LANE_MODE. -/
def laneRsp (l op : Nat) (s : State) : Bytes :=
  let x := laneOf l s
  b1 l ++ b1 op ++ b1 x.mode ++ b1 x.fec ++ b1 x.swing ++ b1 x.pre ++ b1 x.post ++ zeros 1 ++ b1 (b2n x.lock) ++ zeros 3

/-- CMD_LANE_MODE. -/
def cmdLaneMode : Cmd :=
  { code := 0x0200, may := readAny 1 [0], lenOk := len 8
    idx := fun r _ => need (decide (u8 r.params 0 < 15) && decide (u8 r.params 1 < 2))
    body := fun r s =>
      let p := r.params
      let l := u8 p 0
      let mode := u8 p 2
      let old := (laneOf l s).mode
      if u8 p 1 = 0 then ok (laneRsp l 0 s) s
      else if modeConflict l mode (u8 p 3) s then fail stConflict s
      else if mode ≠ old ∧ (modePorts l mode s).any (fun q => (ethPort q s).state != 0 && (ethPort q s).state != 4) then
        fail stState s
      else
        let s := setLane l { laneOf l s with
          mode := mode, fec := if mode = 4 ∨ mode = 5 then u8 p 3 else 0
          swing := min 15 (u8 p 4), pre := min 15 (u8 p 5), post := min 15 (u8 p 6)
          lock := (laneOf l s).lock && mode == old } s
        let s := if mode = old then s
          else forEach (lanePorts l s) (fun q s => match (modeRates mode).getLast? with
            | some r => setRate q r s
            | none => s) s
        ok (laneRsp l 1 s) s }

/-- The response of CMD_PORT_CONFIG. -/
def portRsp (q op : Nat) (s : State) : Bytes :=
  let e := ethPort q s
  b1 q ++ b1 op ++ b1 e.rate ++ b1 (b2n e.an) ++ b2 e.maxFrame ++ b2 e.upHold ++ b2 e.downHold ++ macAddr q s

/-- CMD_PORT_CONFIG. -/
def cmdPortConfig : Cmd :=
  { code := 0x0201, may := readAny 1 [0], lenOk := len 16
    idx := fun r _ => need (isEthPort (u8 r.params 0) && decide (u8 r.params 1 < 2))
    body := fun r s =>
      let p := r.params
      let q := u8 p 0
      if u8 p 1 = 0 then ok (portRsp q 0 s) s
      else if !(modeRates (laneOf (laneNo q) s).mode).contains (u8 p 2) then fail stConflict s
      else
        let s := setRate q (u8 p 2) s
        let s := setEthPort q { ethPort q s with
          an := bit p 3 0, maxFrame := clamp 64 9216 (u16 p 4), upHold := min 1000 (u16 p 6)
          downHold := min 10000 (u16 p 8), mac := some (beN p 10 6) } s
        ok (portRsp q 1 s) s }

/-- CMD_PORT_STATE. -/
def cmdPortState : Cmd :=
  { code := 0x0202, may := fun r => r.mb == 0 || (r.mb == 2 && u8 r.params 1 == 0), lenOk := len 2
    idx := fun r _ => need (isEthPort (u8 r.params 0) && decide (u8 r.params 1 < 2))
    body := fun r s =>
      let q := u8 r.params 0
      let st := (ethPort q s).state
      let rsp (s : State) : Bytes := b1 (ethPort q s).state ++ zeros 3
      if st = 4 then fail stState s
      else if u8 r.params 1 = 1 then
        if keptDown q s then fail stState s
        else
          let s := if st = 0 ∨ st = 3 then enterState q 1 7 s else s
          ok (rsp s) s
      else
        let s := if st = 0 then s else refusePort q 0 7 s
        ok (rsp s) s }

/-- CMD_PORT_STATUS. -/
def cmdPortStatus : Cmd :=
  { code := 0x0203, may := mbs [0, 1, 2, 3, 4], lenOk := len 1
    idx := fun r _ => need (isEthPort (u8 r.params 0))
    body := fun r s =>
      let e := ethPort (u8 r.params 0) s
      let n := countIf (fun t => decide (now s < t + 60000000000)) e.faults
      ok (b1 e.state ++ b1 e.cause ++ b1 n ++ zeros 1 ++ b2 e.word ++ zeros 2 ++ b4 e.lastChange) s }

/-- A port or a trunk lane named by 0x80 + k. -/
def isRetireUnit (n : Nat) : Bool := isEthPort n && n != 129 || n == 129 || (decide (0x80 ≤ n) && decide (n < 0x86))

/-- The unit is a trunk lane; 129 = 0x81 names lane 1 of the trunk (log entry 25). -/
def retireLaneNo (n : Nat) : Option Nat := if 0x80 ≤ n ∧ n < 0x86 then some (8 + (n - 0x80)) else none

/-- CMD_PORT_RETIRE. -/
def cmdPortRetire : Cmd :=
  { code := 0x0204, may := mbs [0, 2], lenOk := len 4
    idx := fun r _ => need (isRetireUnit (u8 r.params 0))
    body := fun r s =>
      let n := u8 r.params 0
      match retireLaneNo n with
      | some l => if (laneOf l s).retired then fail stRetired s else ok (b1 n ++ zeros 3) (retireLane l s)
      | none => if (ethPort n s).state = 4 then fail stRetired s else ok (b1 n ++ zeros 3) (retirePort n s) }

/-- CMD_PORT_READMIT: the unit returns to DOWN with its fault history cleared (R373). -/
def cmdPortReadmit : Cmd :=
  { code := 0x0205, may := mbs [0], lenOk := len 4
    idx := fun r _ => need (isRetireUnit (u8 r.params 0))
    body := fun r s =>
      let n := u8 r.params 0
      match retireLaneNo n with
      | some l =>
        if (laneOf l s).retired then
          let s := setLane l { laneOf l s with retired := false, faults := [], lossCounted := false } s
          ok (b1 n ++ zeros 3) (forEach (portsOfLane l) (fun p s => setEthPort p { ethPort p s with state := 0, faults := [], lastChange := now32 s } s) s)
        else fail stState s
      | none =>
        if (ethPort n s).state = 4 ∧ !(laneOf (laneNo n) s).retired then
          ok (b1 n ++ zeros 3) (setEthPort n { ethPort n s with state := 0, faults := [], lastChange := now32 s } s)
        else fail stState s }

/-- The response of CMD_PHY_BIND. -/
def phyRsp (l op : Nat) (s : State) : Bytes :=
  let x := phyOf l s
  b1 l ++ b1 op ++ b1 x.bus ++ b1 x.addr ++ b1 x.clause ++ b1 x.mmd ++ b2 x.sleepReg ++ b2 x.sleepVal ++ b2 x.wakeVal ++
    b2 x.statusReg ++ b2 x.statusMask ++ b2 x.statusSleep ++ b1 x.ackMs ++ zeros 1 ++ b4 (mdioOf x.bus s).hz

/-- CMD_PHY_BIND. -/
def cmdPhyBind : Cmd :=
  { code := 0x0206, may := readAny 1 [0], lenOk := len 24
    idx := fun r _ =>
      let p := r.params
      need (decide (u8 p 0 < 14) && decide (u8 p 1 < 2) && (u8 p 1 == 0 || (decide (u8 p 2 < 2) && decide (u8 p 3 < 32))))
    body := fun r s =>
      let p := r.params
      let l := u8 p 0
      if u8 p 1 = 0 then ok (phyRsp l 0 s) s
      else if u8 p 4 ≠ 22 ∧ u8 p 4 ≠ 45 then fail stConflict s
      else
        let x : Phy := {
          bus := u8 p 2, addr := u8 p 3, clause := u8 p 4, mmd := u8 p 5, sleepReg := u16 p 6
          sleepVal := u16 p 8, wakeVal := u16 p 10, statusReg := u16 p 12, statusMask := u16 p 14
          statusSleep := u16 p 16, ackMs := clamp 1 100 (u8 p 18) }
        let s := { s with ports := { s.ports with phy := Tbl.set s.ports.phy l x {} } }
        let s := setMdio x.bus { mdioOf x.bus s with hz := clamp 1000000 12500000 (u32 p 20) } s
        ok (phyRsp l 1 s) s }

/-- CMD_MDIO. -/
def cmdMdio : Cmd :=
  { code := 0x0207, may := fun r => r.mb == 0 || r.mb == 4 || (r.mb == 2 && u8 r.params 1 == 0), lenOk := len 8
    idx := fun r _ =>
      let p := r.params
      need (decide (u8 p 0 < 2) && decide (u8 p 1 < 2) && decide (u8 p 2 < 32) && decide (u8 p 3 < 32))
    body := fun r s =>
      let p := r.params
      let m := mdioOf (u8 p 0) s
      let mine (o : MdioOp) : Bool := match o.origin with
        | .mailbox k => k == r.mb
        | .tc10 _ => false
      if (m.busy.toList ++ m.queue).any mine then .busy s
      else .busy (mdioAsk (u8 p 0) {
        origin := .mailbox r.mb, phy := u8 p 2, dev := u8 p 3, reg := u16 p 4
        write := (if u8 p 1 = 1 then some (u16 p 6) else none) } s) }

/-- CMD_TC10. -/
def cmdTc10 : Cmd :=
  { code := 0x0208, may := mbs [0, 2], lenOk := len 2
    idx := fun r _ => need (decide (u8 r.params 0 < 14) && decide (u8 r.params 1 < 2))
    body := fun r s =>
      let l := u8 r.params 0
      if (tc10Of l s).on then .busy s
      else if u8 r.params 1 = 0 then
        if (lanePorts l s).any (fun p => (ethPort p s).state == 2) then .busy (tc10Sleep l (some r.mb) s) else fail stState s
      else if (lanePorts l s).any (fun p => (ethPort p s).state == 3) then
        ok (b1 3) (laneWake l (phyWrite l (phyOf l s).sleepReg (phyOf l s).wakeVal s))
      else fail stState s }

def execCmdPortStatus (mb : Nat) (s : State) : Res := .next (runCmd cmdPortStatus mb s)
def execCmdPortReadmit (mb : Nat) (s : State) : Res := .next (runCmd cmdPortReadmit mb s)
def execCmdPhyBind (mb : Nat) (s : State) : Res := .next (runCmd cmdPhyBind mb s)
def execCmdMdio (mb : Nat) (s : State) : Res := .next (runCmd cmdMdio mb s)

end Sys2Proof.Machine
end

