-- ==== Sys2Proof/Machine/Bridge.lean ====
section
/-! DEFINITION. What the bridging rules record: BRIDGE_STATUS, its counters, ERR_LAST, the discarded-read log and the
semaphore lock (spec/03, R92 to R103). -/

namespace Sys2Proof.Machine

/-- Count on bridge counter `i`, by (offset - 0x03_0010) / 4. -/
def bridgeCount (i n : Nat) (s : State) : State :=
  { s with host := { s.host with counters := Tbl.set s.host.counters i (satAdd max32 (Tbl.get s.host.counters i 0) n) 0 } }

/-- Set bit `b` of BRIDGE_STATUS and of EV7's cause (R103). -/
def bridgeBit (b : Nat) (s : State) : State :=
  raise 7 b { s with host := { s.host with status := s.host.status ||| BitVec.ofNat 7 (2 ^ b) } }

/-- ERR_LAST. -/
def setErrLast (addr init : Nat) (w2 : Bool) (kind : Nat) (s : State) : State :=
  { s with host := { s.host with errLast := { addr := addr, init := init, w2 := w2, kind := kind } } }

/-- An access refused for its size or alignment (R99). -/
def sizeErr (addr init : Nat) (w2 : Bool) (s : State) : State :=
  bridgeBit 1 (bridgeCount 1 1 (setErrLast addr init w2 1 s))

/-- An access to a reserved offset (R72). -/
def addrErr (addr init : Nat) (w2 : Bool) (s : State) : State :=
  bridgeBit 2 (bridgeCount 2 1 (setErrLast addr init w2 2 s))

/-- A write that R61 does not permit (R62). -/
def denied (addr init : Nat) (w2 : Bool) (s : State) : State :=
  bridgeBit 3 (bridgeCount 3 1 (setErrLast addr init w2 3 s))

/-- A transaction of SPI cut short or with a wrong CRC (R89, R103). -/
def spiFrameErr (s : State) : State := bridgeBit 5 (bridgeCount 6 1 s)

/-- Posted writes lost with the pair link (R98). -/
def pairWrLost (addr init n : Nat) (s : State) : State :=
  if n = 0 then s else bridgeBit 6 (bridgeCount 7 n (setErrLast addr init false 5 s))

/-- The semaphore lock lapses (R100). -/
def lockLapse (s : State) : State :=
  match s.host.lock with
  | none => s
  | some i => bridgeBit 4 (bridgeCount 5 1 (setErrLast s.host.lockAt i false 4 { s with host := { s.host with lock := none } }))

/-- Two held reads are the same operation: initiator, opcode, address and size (R93). -/
def sameRead (bridge init op addr size : Nat) (h : HeldRead) : Bool :=
  h.bridge == bridge && h.init == init && h.op == op && h.addr == addr && h.size == size

/-- Reads held for an initiator by a bridge. -/
def heldBy (bridge init : Nat) (s : State) : Nat := countIf (fun h => h.bridge == bridge && h.init == init) s.host.held

/-- Remove the held reads that satisfy a test. -/
def releaseHeld (p : HeldRead → Bool) (s : State) : State :=
  { s with host := { s.host with held := s.host.held.filter (fun h => !p h) } }

/-- A cancelled or discarded LOCK_READ whose lock is still held releases it (R95). -/
def releaseLockOf (h : HeldRead) (s : State) : State :=
  if h.op = 3 ∧ h.data.isSome ∧ s.host.lock = some h.init then { s with host := { s.host with lock := none } } else s

/-- Write the next entry of the discarded-read log and raise EV7 DISCARD (R94). -/
def logDiscard (h : HeldRead) (pop : Bool) (s : State) : State :=
  let e : DiscardEntry := { addr := h.addr, init := h.init, bridge := h.bridge, valid := true, size := h.size, pop := pop,
                            data := slice (h.data.getD []) 0 8, time := now32 s }
  let s := { s with host := { s.host with log := Tbl.set s.host.log s.host.logNext e {},
                                           logNext := (s.host.logNext + 1) % 8 } }
  bridgeBit 0 (bridgeCount 0 1 s)

end Sys2Proof.Machine
end

