-- ==== Sys2Proof/Machine/Rings.lean ====
section
/-! DEFINITION. Host DMA rings (spec/03, R73 to R85, R252). -/

namespace Sys2Proof.Machine

def ringOf (tx : Bool) (n : Nat) (s : State) : Ring := Tbl.get (if tx then s.host.tx else s.host.rx) n {}

def setRing (tx : Bool) (n : Nat) (r : Ring) (s : State) : State :=
  if tx then { s with host := { s.host with tx := Tbl.set s.host.tx n r {} } }
  else { s with host := { s.host with rx := Tbl.set s.host.rx n r {} } }

def Ring.size (r : Ring) : Nat := 2 ^ r.log2

/-- Neraz owns a posted descriptor: the ring runs and HEAD is not TAIL (R75). -/
def Ring.posted (r : Ring) : Bool := r.enable && decide (r.head ≠ r.tail)

/-- Cause bit of a ring in its group event: 0 and 1 for the RX rings, 2 and 3 for the TX rings (R84). -/
def ringBit (tx : Bool) (n : Nat) : Nat := 2 * b2n tx + n % 2

/-- Signal the group event for completions (R84). -/
def ringSignal (tx : Bool) (n : Nat) (s : State) : State :=
  raise (112 + n / 2) (ringBit tx n) (setRing tx n { ringOf tx n s with unsignalled := 0 } s)

/-- A completion, signalled at once, by count or later by time (R84). -/
def ringComplete (tx : Bool) (n : Nat) (force : Bool) (s : State) : State :=
  let r := ringOf tx n s
  let u := r.unsignalled + 1
  if force ∨ r.modTime = 0 ∨ r.modCount ≤ u then ringSignal tx n s
  else setRing tx n { r with unsignalled := u } s

/-- Set a RING_STATUS bit: 0 DESC_ERR, 1 NO_BUFFER, 2 DMA_ERR; a bit newly set raises its cause (R84). -/
def ringStatus (tx : Bool) (n b : Nat) (s : State) : State :=
  let r := ringOf tx n s
  let s' := setRing tx n { r with status := r.status ||| BitVec.ofNat 3 (2 ^ b) } s
  if r.status.getLsbD b then s' else raise (112 + n / 2) (4 + ringBit tx n) s'

/-- Whether the NO_BUFFER episode of an RX ring goes on: a frame or a timestamp record that found no buffer still waits
(R78, log entry 107). -/
def episodeRuns (n : Nat) (s : State) : Bool :=
  (ringOf false n s).noBufEpisode &&
    ((vatQueue (640 + n) s).copies.any (fun x => x.waited) || s.host.tsWait.any (fun t => t.ring == n))

/-- A NO_BUFFER episode of an RX ring: opened once, each waiting frame counted once (R78). -/
def noBufCheck (n : Nat) (s : State) : State :=
  let r := ringOf false n s
  let v := vatQueue (640 + n) s
  if r.posted ∨ v.copies.isEmpty then s
  else
    let runs := episodeRuns n s
    let new := countIf (fun x => !x.waited) v.copies
    let s := countN 128 (4 * n + 3) new s
    let s := setVatQueue (640 + n) { v with copies := v.copies.map (fun x => { x with waited := true }) } s
    if runs then s else ringStatus false n 1 (setRing false n { r with noBufEpisode := true } s)

/-- A timestamp record joins those that wait for a buffer of its ring (R82). -/
def addRecord (t : TsRecord) (s : State) : State :=
  let s := setRing false t.ring { ringOf false t.ring s with noBufEpisode := episodeRuns t.ring s } s
  { s with host := { s.host with tsWait := s.host.tsWait ++ [t] } }

/-- The NO_BUFFER check of every host queue that holds copies. -/
def hostCheck (s : State) : State :=
  forEach ((busyQueues s).filter (fun q => decide (640 ≤ q) && decide (q < 672))) (fun q s => noBufCheck (q - 640) s) s

/-- Address of the descriptor at HEAD. -/
def Ring.headAddr (r : Ring) : Nat := r.base + 32 * r.head

/-- HEAD moves past a completed descriptor (R75). -/
def advanceHead (tx : Bool) (n : Nat) (s : State) : State :=
  let r := ringOf tx n s
  setRing tx n { r with head := (r.head + 1) % r.size } s

/-- The first of the rings `start`, `start + 1`, ... that satisfies a test, in round robin (R83, R252). -/
def roundRobin (start : Nat) (p : Nat → Bool) : Option Nat :=
  ((List.range 32).map (fun i => (start + i) % 32)).find? p

/-- Bytes 8 to 31 of an RX descriptor writeback (R76). -/
def rxWriteback (stamp len port tb reason flags actionId gen : Nat) : Bytes :=
  b4 stamp ++ b2 len ++ b1 port ++ b1 (tb + 16 * reason) ++ b2 flags ++ zeros 2 ++ b4 actionId ++ b4 gen ++ zeros 3 ++ b1 0x80

/-- FLAGS of an RX descriptor (R76). -/
def rxFlags (trunc auth macsec edge : Bool) (colour mal : Nat) : Nat :=
  b2n trunc + 2 * b2n auth + 4 * b2n macsec + 8 * b2n edge + 16 * colour + 256 * mal

/-- RX_FRAME_DELIVER: the next ring in round robin takes the head of its queue; `buf` is the buffer address of the
posted descriptor (R76 to R78, R252). -/
def execRxFrameDeliver (buf : Nat) (s : State) : Res :=
  let s := forEach (List.range 32) (fun n s => dropBad (640 + n) (ageQueue (640 + n) s)) s
  match roundRobin s.host.rxNext (fun n => (ringOf false n s).posted && !(copiesOf (640 + n) s).isEmpty && !halted 128 s) with
  | none => .next (hostCheck s)
  | some n =>
    match copiesOf (640 + n) s with
    | [] => .next s
    | x :: _ =>
      let r := ringOf false n s
      let data := copyBytes x s
      let long := decide (r.bufSize < data.length)
      let out := data.take r.bufSize
      let f := ((frameOf x.fid s).map (·.frame)).getD {}
      let stamp := (f.ts.getD r.tsTb 0) % 4294967296
      let wb := rxWriteback stamp out.length x.ingress r.tsTb x.reason
        (rxFlags (copyCut x s || long) f.authFailed f.macsec f.edge x.colour x.mal) x.actionId x.gen
      let s := { s with host := { s.host with rxNext := (n + 1) % 32 } }
      let s := emit (.dma (r.headAddr + 8) wb) (emit (.dma buf out) s)
      let s := dropHead (640 + n) s
      let s := countN 128 (4 * n + 1) out.length (count 128 (4 * n) s)
      let s := if long then count 128 (4 * n + 2) s else s
      .next (hostCheck (ringComplete false n false (advanceHead false n s)))

/-- Extend a 32-bit launch time against a reading (R81). -/
def extendLaunch (lt now : Nat) : Nat :=
  let d := (lt + 4294967296 - now % 4294967296) % 4294967296
  if d < 2147483648 then now + d else now - (4294967296 - d)

/-- STATUS of a TX descriptor: 0 OK, 1 LENGTH, 2 KIND, 3 TB (R79, R80). -/
def txStatus (desc : Bytes) : Nat :=
  let len := u16 desc 8
  let kind := u8 desc 10
  if 1 < kind then 2
  else if kind = 0 ∧ (len < 14 ∨ 9216 < len) ∨ kind = 1 ∧ (len < 16 ∨ 2064 < len) then 1
  else if 5 < u8 desc 16 % 8 then 3 else 0

/-- The frame of a TX descriptor as it enters at port H (R79 to R82). -/
def txFrame (n : Nat) (desc data : Bytes) (s : State) : Frame :=
  let r := ringOf true n s
  let tb := u8 desc 16 % 8
  { bytes := slice data 0 (u16 desc 8), port := 128, edge := decide (u8 desc 10 = 1), ts := allTb s,
    prio := some (u8 desc 17 % 8),
    launch := if bit desc 11 0 then some (tb, extendLaunch (u32 desc 12) (tbNow tb s)) else none,
    tsReq := if bit desc 11 1 && r.tsEn then some { txRing := n, ring := r.tsRing, tb := tb, cookie := u32 desc 20 } else none }

/-- TX_DESCRIPTOR_PROCESS: the next TX ring in round robin takes the descriptor `desc` at its HEAD and the frame `data`
it names (R79 to R83). -/
def execTxDescriptorProcess (desc data : Bytes) (s : State) : Res :=
  match roundRobin s.host.txNext (fun n => (ringOf true n s).posted) with
  | none => .next s
  | some n =>
    let r := ringOf true n s
    let st := txStatus desc
    let s := { s with host := { s.host with txNext := (n + 1) % 32 } }
    let s :=
      if st = 0 then
        let (fid, s) := stageFrame (txFrame n desc data s) true s
        let s := match fid with
          | some fid => commitFrame fid s
          | none => s
        countN 128 (128 + 4 * n + 1) (u16 desc 8) (count 128 (128 + 4 * n) s)
      else ringStatus true n 0 (count 128 (128 + 4 * n + 2) s)
    let s := emit (.dma (r.headAddr + 31) (b1 (0x80 + st))) s
    .next (ringComplete true n (bit desc 11 2) (advanceHead true n s))

/-- DMA_ERROR: the ring stops (R83). -/
def execDmaError (tx : Bool) (ring : Nat) (s : State) : Res :=
  let r := ringOf tx ring s
  if r.enable then .next (ringStatus tx ring 2 (setRing tx ring { r with enable := false } s)) else .next s

/-- RING_MOD_TIMEOUT: MOD_TIME after the first completion not signalled (R84). -/
def execRingModTimeout (tx : Bool) (ring : Nat) (s : State) : Res :=
  let r := ringOf tx ring s
  if 0 < r.unsignalled ∧ 0 < r.modTime then .next (ringSignal tx ring s) else .next s

/-- Split off the first item that satisfies a test. -/
def takeFirst {α : Type} (p : α → Bool) (l : List α) : Option (α × List α) :=
  match l with
  | [] => none
  | x :: rest => if p x then some (x, rest) else (takeFirst p rest).map (fun e => (e.1, x :: e.2))

/-- TS_RECORD_WRITE: the oldest timestamp record of a ring uses a posted descriptor (R82). -/
def execTsRecordWrite (ring : Nat) (s : State) : Res :=
  match takeFirst (fun t => decide (t.ring = ring)) s.host.tsWait with
  | none => .next s
  | some (t, rest) =>
    let r := ringOf false ring s
    if r.posted then
      let wb := rxWriteback (t.stamp % 4294967296) 0 t.port t.tb 6 0 t.cookie t.gen
      let s := { s with host := { s.host with tsWait := rest } }
      let s := count 128 (128 + 4 * t.txRing + 3) (emit (.dma (r.headAddr + 8) wb) s)
      .next (hostCheck (ringComplete false ring false (advanceHead false ring s)))
    else if r.noBufEpisode then .next s
    else .next (ringStatus false ring 1 (setRing false ring { r with noBufEpisode := true } s))

/-- TS_RECORD_TIMEOUT: a record without a posted buffer for 1 ms is dropped (R82). -/
def execTsRecordTimeout (ring : Nat) (s : State) : Res :=
  match takeFirst (fun t => decide (t.ring = ring)) s.host.tsWait with
  | none => .next s
  | some (_, rest) => .next (count 128 (400 + ring) { s with host := { s.host with tsWait := rest } })

/-- Whether an initiator may write the registers of a ring (R61). -/
def mayWriteRing (init : Nat) (r : Ring) : Bool := init == 0 || init == 4 || (init == 1 && r.owner1)

/-- W0 offset of a ring register. -/
def ringAddr (tx : Bool) (n off : Nat) : Nat := (if tx then 0x42000 else 0x40000) + 0x100 * n + off

/-- RING_CTRL as written by a permitted initiator (R73, R74). -/
def ringCtrl (tx : Bool) (ring value : Nat) (s : State) : State :=
  let r := ringOf tx ring s
  let en := value.testBit 0
  if r.enable then (if en then s else setRing tx ring { r with enable := false } s)
  else if en then
    let still := r.noBufEpisode && decide (r.tail = 0)
    hostCheck (setRing tx ring { r with owner1 := value.testBit 1, enable := true, head := 0, noBufEpisode := still } s)
  else setRing tx ring { r with owner1 := value.testBit 1 } s

/-- RING_CTRL_WRITE (R61, R74). -/
def execRingCtrlWrite (init : Nat) (tx : Bool) (ring value : Nat) (s : State) : Res :=
  if mayWriteRing init (ringOf tx ring s) then .next (ringCtrl tx ring value s)
  else .next (denied (ringAddr tx ring 0xC) init false s)

/-- RING_TAIL as written by a permitted initiator (R73, R75). -/
def ringTail (tx : Bool) (ring value : Nat) (s : State) : State :=
  let r := ringOf tx ring s
  let v := value % 65536
  let t := if r.size ≤ v then r.size - 1 else v
  setRing tx ring { r with tail := t, noBufEpisode := r.noBufEpisode && (!r.enable || decide (r.head = t)) } s

/-- RING_TAIL_WRITE (R61, R75). -/
def execRingTailWrite (init : Nat) (tx : Bool) (ring value : Nat) (s : State) : Res :=
  if mayWriteRing init (ringOf tx ring s) then .next (ringTail tx ring value s)
  else .next (denied (ringAddr tx ring 0x10) init false s)

/-- A ring register as it reads, by offset (R73). -/
def ringRead (tx : Bool) (n off : Nat) (s : State) : Option Nat :=
  let r := ringOf tx n s
  match off with
  | 0x00 => some (r.base % 4294967296)
  | 0x04 => some (r.base / 4294967296)
  | 0x08 => some r.log2
  | 0x0C => some (b2n r.enable + 2 * b2n r.owner1)
  | 0x10 => some r.tail
  | 0x14 => some r.head
  | 0x18 => some (r.modCount + 65536 * r.modTime)
  | 0x1C => some (if tx then r.tsRing + 256 * b2n r.tsEn else r.bufSize + 65536 * r.tsTb)
  | 0x20 => some r.status.toNat
  | _ => none

/-- A ring register as written (32 bits), RING_CTRL and RING_TAIL included (R73, R74). -/
def ringWrite (tx : Bool) (n off v : Nat) (s : State) : State :=
  let r := ringOf tx n s
  let upd (r' : Ring) : State := if r.enable then s else setRing tx n r' s
  match off with
  | 0x00 => upd { r with base := r.base / 4294967296 * 4294967296 + v / 64 * 64 }
  | 0x04 => upd { r with base := v * 4294967296 + r.base % 4294967296 }
  | 0x08 => upd { r with log2 := clamp 4 15 (v % 16) }
  | 0x0C => ringCtrl tx n v s
  | 0x10 => ringTail tx n v s
  | 0x18 => upd { r with modCount := max 1 (v % 256), modTime := bits v 25 16 }
  | 0x1C =>
    if tx then upd { r with tsRing := v % 32, tsEn := v.testBit 8 }
    else upd { r with bufSize := clamp 256 16384 ((v % 32768) / 64 * 64), tsTb := min 5 (bits v 18 16) }
  | 0x20 => setRing tx n { r with status := r.status &&& ~~~ BitVec.ofNat 3 v } s
  | _ => s

end Sys2Proof.Machine
end

