-- ==== Sys2Proof/Machine/Queues.lean ====
section
/-! DEFINITION. Scheduler settings, logical ports, and which copy each TC of a B or T port has at its head
(spec/08, R234, R235, R247; spec/15, R483). -/

namespace Sys2Proof.Machine

/-! ### Settings (R234, R237, R245 to R249) -/

/-- The 152 bytes of CMD_SCHED_PORT for a port not set. -/
def sched0 (p : Nat) : Bytes :=
  b1 p ++ zeros 3 ++ b4 1000 ++ b4 0 ++ b4 16384 ++ b1 0xFF ++ zeros 7 ++
    (List.range 8).flatMap (fun t => b1 t ++ b1 0 ++ b1 1 ++ zeros 1 ++ b4 0 ++ b4 0 ++ b4 16384)

def schedOf (c : CfgSet) (p : Nat) : Bytes := Tbl.get c.sched p (sched0 p)

def lateTol (c : CfgSet) (p : Nat) : Nat := u32 (schedOf c p) 4
def portTbRate (c : CfgSet) (p : Nat) : Nat := u32 (schedOf c p) 8
def portTbBurst (c : CfgSet) (p : Nat) : Nat := u32 (schedOf c p) 12
def gatesIdle (c : CfgSet) (p : Nat) : Nat := u8 (schedOf c p) 16
def tcGroup (c : CfgSet) (p t : Nat) : Nat := u8 (schedOf c p) (24 + 16 * t) % 8
def tcFair (c : CfgSet) (p t : Nat) : Bool := bit (schedOf c p) (25 + 16 * t) 0
def tcCbs (c : CfgSet) (p t : Nat) : Bool := bit (schedOf c p) (25 + 16 * t) 1
def tcWeight (c : CfgSet) (p t : Nat) : Nat := u8 (schedOf c p) (26 + 16 * t)
def tcSlope (c : CfgSet) (p t : Nat) : Nat := u32 (schedOf c p) (28 + 16 * t)
def tcRate (c : CfgSet) (p t : Nat) : Nat := u32 (schedOf c p) (32 + 16 * t)
def tcBurst (c : CfgSet) (p t : Nat) : Nat := u32 (schedOf c p) (36 + 16 * t)

def tcState (e : EgrPort) (t : Nat) : TcState := Tbl.get e.tc t {}

def setTc (e : EgrPort) (t : Nat) (x : TcState) : EgrPort := { e with tc := Tbl.set e.tc t x {} }

/-- Millionths of a bit in a number of bytes. -/
def ubits (bytes : Nat) : Nat := 8000000 * bytes

/-! ### Logical ports (R483) -/

def logicalOf (c : CfgSet) (p : Nat) : Bytes := Tbl.get c.logical p (zeros 8)

/-- Live members of a logical port: members that are UP, lowest first. -/
def liveMembers (p : Nat) (s : State) : List Nat :=
  (bitsOf 32 (leN (logicalOf (activeSet s) p) 1 4)).filter (fun q => portUp q s)

/-- The member that PAIR_FOLLOW chooses. -/
def followMember (p : Nat) (s : State) : Option Nat :=
  let live := liveMembers p s
  match live.find? (fun q => s.pair.followDev != 0 && Tbl.get s.pair.named q 0 == s.pair.followDev) with
  | some q => some q
  | none => live.head?

/-- The member that HASH chooses for a copy. -/
def hashMember (p : Nat) (x : Copy) (s : State) : Option Nat :=
  let live := liveMembers p s
  let h := (crc32c (slice (copyBytes x s) 0 12 ++ be 2 (mdVlan x.md))).toNat
  live[h % live.length]?

/-- The copy that queue `q` of logical port `j` offers to member `p`. -/
def logicalOffer (j q p : Nat) (s : State) : Option Copy :=
  match u8 (logicalOf (activeSet s) j) 0 with
  | 1 => if (liveMembers j s).contains p then (copiesOf q s).find? (fun x => !x.taken.testBit p) else none
  | 2 => (copiesOf q s).head?.filter (fun x => hashMember j x s == some p)
  | 3 => if followMember j s = some p then (copiesOf q s).head? else none
  | _ => none

/-- The copy can leave: it has arrived whole or is cut through. -/
def sendable (x : Copy) (s : State) : Bool :=
  match frameOf x.fid s with
  | some v => v.ended || x.ct
  | none => false

/-- The copy an input of TC t of port p offers: input 0 is the port's own queue, input 1 + j logical port 136 + j (R235). -/
def inputOffer (p t i : Nat) (s : State) : Option (Nat × Copy) :=
  let q := if i = 0 then 8 * p + t else 680 + 8 * (i - 1) + t
  let x := if i = 0 then (copiesOf q s).head? else logicalOffer (135 + i) q p s
  match x with
  | some x => if sendable x s then some (q, x) else none
  | none => none

/-- head(p, t): the input whose turn it is, with its copy (R235). -/
def headOf (p t : Nat) (s : State) : Option (Nat × Nat × Copy) :=
  let rr := (tcState (egrOf p s) t).rr
  let order := (List.range 33).map (fun k => (rr + k) % 33)
  order.findSome? (fun i => (inputOffer p t i s).map (fun e => (i, e.1, e.2)))

/-- TC t of a port has a copy waiting on some input. -/
def tcBusy (p t : Nat) (s : State) : Bool := (headOf p t s).isSome

/-- A TC of a port holds copies on some input, arrived whole or not. -/
def tcHas (p t : Nat) (s : State) : Bool :=
  !(copiesOf (8 * p + t) s).isEmpty ||
  (List.range 32).any (fun j => (logicalOffer (136 + j) (680 + 8 * j + t) p s).isSome)

/-! ### Fair groups (R247) -/

/-- A TC that becomes non-empty starts at V (R247). -/
def fairStart (c : CfgSet) (p t : Nat) (e : EgrPort) : EgrPort :=
  if tcFair c p t then setTc e t { tcState e t with s := Tbl.get e.v (tcGroup c p t) 0 } else e

/-- Start tags of the fair TCs that became non-empty since `before` (R247). -/
def fairWake (before s : State) : State :=
  forEach (activeSet s).sched (fun e s =>
    forEach (List.range 8) (fun t s =>
      if tcFair (activeSet s) e.1 t && !tcHas e.1 t before && tcHas e.1 t s then
        setEgr e.1 (fairStart (activeSet s) e.1 t (egrOf e.1 s)) s
      else s) s) s

end Sys2Proof.Machine
end

