-- ==== Sys2Proof/Machine/Direct.lean ====
section
/-! DEFINITION. Vintner's directed sends and the frames it takes from queue 673 (spec/01, R12; spec/08, R252). -/

namespace Sys2Proof.Machine

/-- A directed send: queued directly, its cells drawn from the global control reserve (R12, R210). A frame for a
CAN, LIN or FlexRay channel begins with an edge header (R139). -/
def directedSend (port queue : Nat) (data : Bytes) (launch : Option (Nat × Nat)) (s : State) : State :=
  let f : Frame := { bytes := data, port := 130, gen := s.sets.gen, ts := allTb s, launch := launch,
                     edge := decide (32 ≤ port) && decide (port < 128) && (Tbl.get s.edge.ch (port - 32) {}).mode != 6 }
  let c := max 1 (cellsFor data.length)
  if freeCells s < c then raise 72 5 (count 130 387 s)
  else
    let (cs, s) := takeItems false c s
    let fid := s.vat.nextFid
    let s := freeChanged (putFrame fid { frame := f, cells := cs, staged := false }
      { s with vat := { s.vat with nextFid := fid + 1 } })
    fairWake s (admitCopies fid [{ len := data.length, gen := s.sets.gen, launch := launch, ctrl := true, ingress := 130,
                                   egress := port, queue := queue }] s)

/-- A queue of a port. -/
def queueOn (port queue : Nat) : Bool := (portQueues port).contains queue

/-- VINTNER_DIRECTED_SEND (R12); a queue that is not the port's names no directed egress, and nothing is sent. -/
def execVintnerDirectedSend (port queue : Nat) (data : Bytes) (launch : Option (Nat × Nat)) (s : State) : Res :=
  if queueOn port queue ∧ queue ≠ 673 ∧ data ≠ [] then .next (hostCheck (directedSend port queue data launch s)) else .next s

/-- EtherType at offset 12, or at offset 16 behind one C-tag (R381). -/
def etypeOf (b : Bytes) : Nat := if beN b 12 2 = 0x8100 then beN b 16 2 else beN b 12 2

/-- Vintner takes from queue 673 the first copy of a frame with an EtherType that arrived on a port (R252, R286, R389). -/
def takeVintner (port etype : Nat) (s : State) : State :=
  let v := vatQueue 673 s
  let hit (x : Copy) : Bool := x.ingress == port && (match frameOf x.fid s with
    | some f => etypeOf f.frame.bytes == etype
    | none => false)
  match takeFirst hit v.copies with
  | some (x, rest) =>
    releaseRef x.fid (setVatQueue 673 { v with copies := rest } (emit (.toVintner (copyBytes x s)) s))
  | none => s

end Sys2Proof.Machine
end

