-- ==== Sys2Proof/Machine/Macsec.lean ====
section
/-! DEFINITION. MACsec of the backbone ports: settings, transmission, reception, keys and MKA (spec/12, R381 to R390 and
the commands 0x0209 to 0x020D). -/

namespace Sys2Proof.Machine

/-! ### Settings (R381) -/

/-- An XPN cipher suite. -/
def isXpn (m : Macsec) : Bool := decide (2 ≤ m.cipher)

/-- ALG of a slot that fits CIPHER (R388). -/
def cipherAlg (m : Macsec) : Nat := m.cipher % 2

/-- The last PN of a suite (R383). -/
def lastPn (m : Macsec) : Nat := if isXpn m then max64 else max32

/-- NEXT_PN at which MACSEC_PN_THRESHOLD is sent (R384). -/
def pnThreshold (m : Macsec) : Nat := if isXpn m then 0xC000000000000000 else 0xC0000000

/-- TX_SCI: MAC_ADDR with port identifier 1 unless written. -/
def txSci (p : Nat) (s : State) : Bytes :=
  match (macsecOf p s).sci with
  | some v => be 8 v
  | none => macAddr p s ++ be 2 1

/-- The frame bypasses MACsec: EAPOL or a BYPASS EtherType (R381). -/
def msecBypass (m : Macsec) (b : Bytes) : Bool :=
  etypeOf b == 0x888E || m.bypass.any (fun t => t != 0 && t == etypeOf b)

/-- A port with MACSEC_EN 1 protects a copy of these bytes (R382). -/
def msecProtects (p : Nat) (b : Bytes) (s : State) : Bool :=
  decide (p < 8) && (macsecOf p s).en && !msecBypass (macsecOf p s) b

/-- Bytes that protection adds: SecTAG and ICV (R382). -/
def msecOverhead (m : Macsec) : Nat := (if m.txFlags.testBit 0 then 16 else 8) + 16

/-! ### Cipher (IEEE 802.1AE-2018) -/

/-- The 12-byte IV of a frame. -/
def msecIv (xpn : Bool) (sci salt : Bytes) (ssci pn : Nat) : Bytes :=
  if xpn then xorBytes (be 4 ssci ++ be 8 pn) (slice salt 0 12) else sci ++ be 4 pn

/-- Split after `n` bytes, or after all of them. -/
def cutAt (n : Nat) (b : Bytes) : Bytes × Bytes := (b.take n, b.drop n)

/-- Protect secure data: the bytes carried and the ICV. `head` is what precedes them in the frame. -/
def msecSeal (key iv head data : Bytes) (encrypt : Bool) (off : Nat) : Bytes × Bytes :=
  if encrypt then
    let (clear, plain) := cutAt off data
    let ct := gcmCrypt key iv plain
    (clear ++ ct, gcmTag key iv (head ++ clear) ct)
  else (data, gcmTag key iv (head ++ data) [])

/-- Open secure data: the plaintext when the ICV holds. -/
def msecOpen (key iv head data icv : Bytes) (encrypted : Bool) (off : Nat) : Option Bytes :=
  if encrypted then
    let (clear, ct) := cutAt off data
    if gcmTag key iv (head ++ clear) ct = icv then some (clear ++ gcmCrypt key iv ct) else none
  else if gcmTag key iv (head ++ data) [] = icv then some data else none

/-! ### Transmission (R382 to R385) -/

/-- Protect the bytes of a copy under the encoding SA and step its NEXT_PN; none when the SA is not usable. -/
def msecTx (p : Nat) (b : Bytes) (s : State) : Option Bytes × State :=
  let m := macsecOf p s
  let sa := Tbl.get m.tx m.an {}
  match txUsable m, sa.key with
  | true, some key =>
    let flag (i v : Nat) : Nat := if m.txFlags.testBit i then v else 0
    let tci := flag 1 64 + flag 0 32 + flag 2 16 + (if m.encrypt then 12 else 0) + m.an
    let data := b.drop 12
    let tag := be 2 0x88E5 ++ b1 tci ++ b1 (if data.length < 48 then data.length else 0) ++ be 4 sa.nextPn ++
      (if m.txFlags.testBit 0 then txSci p s else [])
    let head := b.take 12 ++ tag
    let iv := msecIv (isXpn m) (txSci p s) sa.salt sa.ssci sa.nextPn
    let (body, icv) := msecSeal key iv head data m.encrypt m.confOff
    let last := decide (lastPn m ≤ sa.nextPn)
    let sa' := { sa with nextPn := if last then sa.nextPn else sa.nextPn + 1, spent := last }
    let s := count p 69 (setMacsec p { m with tx := Tbl.set m.tx m.an sa' {} } s)
    let s := if !last && sa'.nextPn == pnThreshold m then notice 0x0200 (locPort p noIdx) 0 (raise (25 + 2 * p) 0 s) else s
    (some (head ++ body ++ icv), txCheck p s)
  | _, _ => (none, s)

/-- MACSEC_HOLD_EXPIRY: 100 µs after the SA became unusable, copies are dropped instead of held (R385). -/
def execMacsecHoldExpiry (port : Nat) (s : State) : Res :=
  let m := macsecOf port s
  if m.txState = 1 then .next (setMacsec port { m with txState := 2 } s) else .next s

/-! ### Reception (R386, R387) -/

/-- The PN of a frame from the 32 bits of its SecTAG (R387). -/
def recoverPn (xpn : Bool) (lowest pn : Nat) : Nat :=
  if !xpn then pn
  else
    let hi := lowest / 4294967296
    let lo := lowest % 4294967296
    if 0x80000000 ≤ lo ∧ pn < 0x80000000 then (hi + 1) * 4294967296 + pn else hi * 4294967296 + pn

/-- Length of a SecTAG with its EtherType. -/
def secTagLen (b : Bytes) : Nat := if bit b 14 5 then 16 else 8

/-- Secure data and ICV of a tagged frame (IEEE 802.1AE: SL gives the length of short data). -/
def secData (b : Bytes) : Bytes × Bytes :=
  let rest := b.drop (12 + secTagLen b)
  let n := if u8 b 15 = 0 then rest.length - 16 else u8 b 15
  (rest.take n, slice (rest.drop n) 0 16)

/-- The tag is invalid: V, ES with SC, SL wrong, frame short (R386). -/
def tagBad (b : Bytes) : Bool :=
  let sl := u8 b 15
  let room := b.length - (12 + secTagLen b + 16)
  bit b 14 7 || (bit b 14 6 && bit b 14 5) || decide (48 ≤ sl) || decide (b.length < 12 + secTagLen b + 17) ||
  (if sl = 0 then decide (room < 48) else decide (room < sl))

/-- The receive SC of a tagged frame: its number, if a valid SC has the frame's SCI (R386). -/
def scOf (m : Macsec) (b : Bytes) : Option Nat :=
  let valid := (m.rx.filter (fun e => e.2.valid)).map (·.1)
  let bySci (v : Nat) : Option Nat := valid.find? (fun n => (Tbl.get m.rx n {}).sci == v)
  if bit b 14 5 then bySci (beN b 20 8)
  else if bit b 14 6 then bySci (beN b 6 6 * 65536 + 1)
  else match valid with
    | [n] => some n
    | _ => none

/-- The frame without SecTAG and ICV. -/
def untagged (b data : Bytes) : Bytes := b.take 12 ++ data

def setSc (p n : Nat) (c : RxSc) (s : State) : State :=
  let m := macsecOf p s
  setMacsec p { m with rx := Tbl.set m.rx n c {} } s

/-- Receive-SC counter `j` (R392). -/
def scCount (p n j : Nat) (s : State) : State := count p (128 + 4 * n + j) s

/-- rx_sc of R386. -/
def msecRxSc (p n : Nat) (b : Bytes) (s : State) : Option (Bytes × Bool) × State :=
  let m := macsecOf p s
  let sc := Tbl.get m.rx n {}
  let an := u8 b 14 % 4
  let sa := Tbl.get sc.sa an {}
  let c := bit b 14 2
  let (data, icv) := secData b
  let strict := sc.validate == 2 || c
  let plain : Option (Bytes × Bool) := some (untagged b data, false)
  if sc.validate = 0 then
    if c then (none, scCount p n 2 s) else (plain, scCount p n 1 s)
  else match sa.inUse, sa.key with
    | true, some key =>
      let pn := recoverPn (isXpn m) sa.lowestPn (beN b 16 4)
      if sc.replay ∧ pn < sa.lowestPn then (none, raise (25 + 2 * p) 4 (scCount p n 3 s))
      else
        let tag := secTagLen b
        let sci := be 8 sc.sci
        let iv := msecIv (isXpn m) sci sa.salt sa.ssci pn
        match msecOpen key iv (b.take (12 + tag)) data icv (bit b 14 3) m.confOff with
        | none =>
          if strict then (none, raise (25 + 2 * p) 3 (scCount p n 2 s)) else (plain, scCount p n 1 s)
        | some d =>
          let next := max sa.nextPn (pn + 1)
          let sa' := { sa with nextPn := next, lowestPn := max sa.lowestPn (next - sc.window) }
          (some (untagged b d, true), scCount p n 0 (setSc p n { sc with sa := Tbl.set sc.sa an sa' {} } s))
    | _, _ => (if strict then none else plain, scCount p n 2 s)

/-- rx of R386: the frame delivered with its MACSEC metadata, or none when it is dropped. -/
def msecRx (p : Nat) (b : Bytes) (s : State) : Option (Bytes × Bool) × State :=
  let m := macsecOf p s
  if msecBypass m b then (some (b, false), count p 64 s)
  else if beN b 12 2 ≠ 0x88E5 then
    if m.rxUntagged then (some (b, false), count p 65 s) else (none, count p 66 s)
  else if tagBad b then (none, count p 67 s)
  else match scOf m b with
    | some n => msecRxSc p n b s
    | none =>
      if m.unknownSci && !bit b 14 2 then (some (untagged b (secData b).1, false), count p 68 s)
      else (none, raise (25 + 2 * p) 5 (count p 68 s))

/-! ### MKA (R389) -/

/-- MKA runs on a port: MACsec is on with KEYING MKA. -/
def mkaOn (p : Nat) (s : State) : Bool := (macsecOf p s).en && (macsecOf p s).mka

/-- A change of the MKA state with its event and notice. -/
def mkaEnter (p st : Nat) (s : State) : State :=
  let m := macsecOf p s
  if m.mkaState = st then s
  else
    let s := setMacsec p { m with mkaState := st } s
    let s := if st = 2 then raise (25 + 2 * p) 6 s else if st = 3 then raise (25 + 2 * p) 7 s else s
    notice 0x0202 (locPort p noIdx) st s

/-- Attributes of a SAK slot: ENCRYPT or DECRYPT, the algorithm of CIPHER, class 6, ORIGIN 1 (R388, R410). -/
def sakAttr (m : Macsec) (usage : Nat) : Nat := attrApply (usage + 8 * cipherAlg m + 32 * 64) 0 1

/-- The receive SC that holds a peer's SCI, else the first free one. -/
def peerSc (m : Macsec) (sci : Nat) : Option Nat :=
  match (List.range 32).find? (fun n => (Tbl.get m.rx n {}).valid && (Tbl.get m.rx n {}).sci == sci) with
  | some n => some n
  | none => (List.range 32).find? (fun n => !(Tbl.get m.rx n {}).valid)

/-- Install a distributed SAK for AN `an`: both slots, the transmit SA, the peer's receive SC and SA, ENCODING_AN (R389;
a new receive SC validates STRICT, log entry 27). -/
def mkaInstall (p an : Nat) (sak : Bytes) (peer txSsci rxSsci : Nat) (salt : Bytes) (s : State) : State :=
  let m := macsecOf p s
  let tx := m.sakBase + an
  let rx := m.sakBase + 4 + an
  let key := placeKey (cipherAlg m) sak
  let s := writeSlot rx key (sakAttr m 2) (writeSlot tx key (sakAttr m 1) s)
  let m := macsecOf p s
  let use := some (slotKey (slotOf tx s))
  let m := { m with
    tx := Tbl.set m.tx an { inUse := true, slot := tx, nextPn := 1, ssci := txSsci, salt := salt, key := use } {}
    an := an }
  let m := match peerSc m peer with
    | some n =>
      let sc := Tbl.get m.rx n {}
      let sc := if sc.valid then sc else { sc with valid := true, validate := 2, sci := peer }
      let sa : RxSa := { inUse := true, slot := rx, lowestPn := 1, nextPn := 1, ssci := rxSsci, salt := salt, key := use }
      { m with rx := Tbl.set m.rx n { sc with sa := Tbl.set sc.sa an sa {} } {} }
    | none => m
  txCheck p (setMacsec p m s)

/-- MKA_FRAME_RECEIVE: an EAPOL frame of queue 673 reaches Diesh. `st` is the MKA state that follows (1 searching, 2 live,
3 lost); `sak` the key it distributes, none where it distributes none or KW fails (R389; log entry 27). -/
def execMkaFrameReceive (port st an : Nat) (sak : Option Bytes) (peer txSsci rxSsci : Nat) (salt : Bytes) (s : State) : Res :=
  let s := takeVintner port 0x888E s
  let m := macsecOf port s
  if mkaOn port s ∧ slotCheck 6 m.cakSlot 4 false s = 0 then
    let s := mkaEnter port st (invoke m.cakSlot s)
    match sak with
    | some k => .next (mkaInstall port (an % 4) k peer txSsci rxSsci salt s)
    | none => .next s
  else .next s

/-- MKA_HELLO_TIMER: every 2 s Diesh sends a hello; `lost` says that the last live peer has fallen silent (R389). The hello's
body is that of IEEE 802.1X-2020, a free value here. -/
def execMkaHelloTimer (port : Nat) (lost : Bool) (s : State) : Res :=
  if mkaOn port s then
    let s := if lost ∧ (macsecOf port s).mkaState = 2 then mkaEnter port 3 s else s
    let (k, s) := takeFresh s
    let f := be 6 0x0180C2000003 ++ macAddr port s ++ be 2 0x888E ++ Config.freeFrame k
    .next (directedSend port (8 * port + 7) f none s)
  else .next s

/-! ### Commands -/

/-- The response of CMD_MACSEC_PORT. -/
def macsecRsp (p op : Nat) (s : State) : Bytes :=
  let m := macsecOf p s
  let flags := b2n m.en + 2 * b2n m.mka + 4 * b2n m.encrypt + 8 * b2n m.rxUntagged + 16 * b2n m.unknownSci + 32 * m.txFlags
  b1 p ++ b1 op ++ b1 flags ++ b1 m.cipher ++ b1 m.confOff ++ b1 m.an ++ zeros 2 ++ txSci p s ++
    m.bypass.flatMap (fun t => b2 t) ++ b1 m.cakSlot ++ b1 m.sakBase ++ b1 m.prio ++ b1 m.ckn.length ++ slice m.ckn 0 32

/-- An SA of the port is in use. -/
def saInUse (m : Macsec) : Bool := m.tx.any (fun e => e.2.inUse) || m.rx.any (fun e => e.2.sa.any (fun f => f.2.inUse))

/-- CMD_MACSEC_PORT. -/
def cmdMacsecPort : Cmd :=
  { code := 0x0209, may := readAny 1 [0], lenOk := len 60
    idx := fun r s =>
      let p := r.params
      need (decide (u8 p 0 < 8) && !keptDown (u8 p 0) s && decide (u8 p 1 < 2) &&
        (u8 p 1 == 0 || bit p 2 1 || decide (u8 p 5 < 4)))
    body := fun r s =>
      let p := r.params
      let q := u8 p 0
      let m := macsecOf q s
      if u8 p 1 = 0 then ok (macsecRsp q 0 s) s
      else if 3 < u8 p 3 ∨ !([0, 30, 50].contains (u8 p 4)) ∨ 232 < u8 p 25 then fail stConflict s
      else if u8 p 3 ≠ m.cipher ∧ saInUse m then fail stState s
      else
        let on := bit p 2 0 && bit p 2 1
        let m := { m with
          en := bit p 2 0, mka := bit p 2 1, encrypt := bit p 2 2, rxUntagged := bit p 2 3, unknownSci := bit p 2 4
          txFlags := u8 p 2 / 32, cipher := u8 p 3, confOff := u8 p 4
          an := if bit p 2 1 then m.an else u8 p 5
          sci := some (beN p 8 8), bypass := (List.range 4).map (fun i => u16 p (16 + 2 * i))
          cakSlot := u8 p 24, sakBase := u8 p 25, prio := u8 p 26, ckn := slice p 28 (clamp 1 32 (u8 p 27))
          mkaState := if on then max 1 m.mkaState else 0
          txState := if bit p 2 0 then m.txState else 0 }
        let s := txCheck q (setMacsec q m s)
        ok (macsecRsp q 1 s) s }

/-- The status of a key slot for an SA of a port; OK when it satisfies R388. -/
def saSlot (m : Macsec) (slot usage : Nat) (s : State) : Nat :=
  let x := slotOf slot s
  if x.status = 2 then stSlotBad
  else if x.status = 1 ∧ attrUsage x.attr = usage ∧ attrAlg x.attr = cipherAlg m ∧ (attrOwner x.attr).testBit 6 ∧
    slot < 240 ∧ !attrLimited x.attr then stOk
  else stConflict

/-- CMD_MACSEC_TXSA; a request writes (log entry 26). -/
def cmdMacsecTxsa : Cmd :=
  { code := 0x020A, may := mbs [0], lenOk := len 28
    idx := fun r _ => need (decide (u8 r.params 0 < 8) && decide (u8 r.params 1 < 4))
    body := fun r s =>
      let p := r.params
      let q := u8 p 0
      let m := macsecOf q s
      let on := bit p 2 0
      let st := if on then saSlot m (u8 p 3) 1 s else stOk
      if st ≠ stOk then fail st s
      else if m.mka then fail stConflict s
      else
        let pn := clamp 1 (lastPn m) (u64 p 4)
        let sa : TxSa := { inUse := on, slot := u8 p 3, nextPn := pn, ssci := u32 p 12, salt := slice p 16 12
                           key := if on then some (slotKey (slotOf (u8 p 3) s)) else none }
        let s := txCheck q (setMacsec q { m with tx := Tbl.set m.tx (u8 p 1) sa {} } s)
        ok (p.take 2 ++ b1 (b2n on) ++ b1 (u8 p 3) ++ b8 pn ++ slice p 12 16) s }

/-- CMD_MACSEC_RXSC; a request writes (log entry 26). -/
def cmdMacsecRxsc : Cmd :=
  { code := 0x020B, may := mbs [0], lenOk := len 16
    idx := fun r _ => need (decide (u8 r.params 0 < 8) && decide (u8 r.params 1 < 32))
    body := fun r s =>
      let p := r.params
      let q := u8 p 0
      let n := u8 p 1
      let m := macsecOf q s
      let v := bit p 2 0
      let sci := beN p 8 8
      let dup := (List.range 32).any (fun k => k != n && (Tbl.get m.rx k {}).valid && (Tbl.get m.rx k {}).sci == sci)
      if bits (u8 p 2) 3 2 = 3 ∨ (v ∧ dup) ∨ m.mka then fail stConflict s
      else
        let c := { Tbl.get m.rx n {} with
          valid := v, replay := bit p 2 1, validate := bits (u8 p 2) 3 2, window := min 1073741824 (u32 p 4), sci := sci }
        ok (p.take 2 ++ b1 (u8 p 2 % 16) ++ zeros 1 ++ b4 c.window ++ slice p 8 8) (setSc q n c s) }

/-- CMD_MACSEC_RXSA; a request writes, and NEXT_PN starts at LOWEST_PN (log entry 26). -/
def cmdMacsecRxsa : Cmd :=
  { code := 0x020C, may := mbs [0], lenOk := len 32
    idx := fun r _ => need (decide (u8 r.params 0 < 8) && decide (u8 r.params 1 < 32) && decide (u8 r.params 2 < 4))
    body := fun r s =>
      let p := r.params
      let q := u8 p 0
      let m := macsecOf q s
      let c := Tbl.get m.rx (u8 p 1) {}
      let on := bit p 3 0
      let st := if on then saSlot m (u8 p 4) 2 s else stOk
      if st ≠ stOk then fail st s
      else if m.mka then fail stConflict s
      else
        let low := min (lastPn m) (u64 p 8)
        let sa : RxSa := { inUse := on, slot := u8 p 4, lowestPn := low, nextPn := low, ssci := u32 p 16, salt := slice p 20 12
                           key := if on then some (slotKey (slotOf (u8 p 4) s)) else none }
        ok (p.take 3 ++ b1 (b2n on) ++ b1 (u8 p 4) ++ zeros 3 ++ b8 low ++ slice p 16 16 ++ b8 low)
          (setSc q (u8 p 1) { c with sa := Tbl.set c.sa (u8 p 2) sa {} } s) }

/-- CMD_MACSEC_STATUS. -/
def cmdMacsecStatus : Cmd :=
  { code := 0x020D, may := mbs [0, 1, 2, 3, 4], lenOk := len 1
    idx := fun r _ => need (decide (u8 r.params 0 < 8))
    body := fun r s =>
      let m := macsecOf (u8 r.params 0) s
      ok (b1 m.an ++ b1 m.txState ++ b1 m.mkaState ++ b1 (countIf (fun e => e.2.valid) m.rx) ++
        (List.range 4).flatMap (fun a => b8 (Tbl.get m.tx a {}).nextPn)) s }

def execCmdMacsecPort (mb : Nat) (s : State) : Res := .next (runCmd cmdMacsecPort mb s)
def execCmdMacsecTxsa (mb : Nat) (s : State) : Res := .next (runCmd cmdMacsecTxsa mb s)
def execCmdMacsecRxsc (mb : Nat) (s : State) : Res := .next (runCmd cmdMacsecRxsc mb s)
def execCmdMacsecRxsa (mb : Nat) (s : State) : Res := .next (runCmd cmdMacsecRxsa mb s)
def execCmdMacsecStatus (mb : Nat) (s : State) : Res := .next (runCmd cmdMacsecStatus mb s)

end Sys2Proof.Machine
end

