-- ==== Sys2Proof/Machine/Egress.lean ====
section
/-! DEFINITION. The egress schedulers of the B and T ports: selection, gates, shapers, preemption, rewriting on egress
(spec/08, R231 to R251; spec/11, R351; spec/12, R382; spec/15, R481 and R483). -/

namespace Sys2Proof.Machine

/-! ### Preemption settings -/

/-- Preemption is active on a port (R243). -/
def preemptOn (e : EgrPort) : Bool := e.preempt.state == 2

/-- FRAG_MIN (R242). -/
def fragMin (e : EgrPort) : Nat := 64 * (1 + e.preempt.addFrag)

/-! ### Gate control lists (R239 to R242) -/

def gateListOf (c : CfgSet) (p : Nat) : GateList := Tbl.get c.gates p {}

/-- Cycle time of a list: CYCLE_TIME, or the sum of the intervals when it is 0 (R240). -/
def GateList.cycleNs (l : GateList) : Nat := if l.cycle = 0 then max 8 (sumBy (·.interval) l.entries) else l.cycle

/-- The entries of one cycle with their durations: cut at the cycle end, the last one held to it (R240). -/
def GateList.windows (l : GateList) : List (Nat × GateEntry × Nat) :=
  let rec go (i at_ : Nat) : List GateEntry → List (Nat × GateEntry × Nat)
    | [] => []
    | [x] => if at_ < l.cycleNs then [(i, x, l.cycleNs - at_)] else []
    | x :: rest =>
      if l.cycleNs ≤ at_ then [] else (i, x, min x.interval (l.cycleNs - at_)) :: go (i + 1) (at_ + x.interval) rest
  go 0 0 l.entries

/-- Where a list stands at a time of its time base: cycle start, entry number, entry, time left in the entry; none before
BASE_TIME and for an empty list (R239). -/
def GateList.at_ (l : GateList) (now : Nat) : Option (Nat × Nat × GateEntry × Nat) :=
  if l.entries.isEmpty ∨ now < l.base then none
  else
    let start := l.base + (now - l.base) / l.cycleNs * l.cycleNs
    let rec go (off : Nat) : List (Nat × GateEntry × Nat) → Option (Nat × Nat × GateEntry × Nat)
      | [] => none
      | (i, x, d) :: rest => if off < d then some (start, i, x, d - off) else go (off - d) rest
    go (now - start) l.windows

/-- The time after which gate `t` next closes, from the windows that follow; none when it never does (R242). An entry of no
time is never applied (log entry 123). -/
def closesAfter (t acc : Nat) : List (Nat × GateEntry × Nat) → Option Nat
  | [] => none
  | (_, x, d) :: rest => if x.states.testBit t ∨ d = 0 then closesAfter t (acc + d) rest else some acc

/-- next_close(p, t) less the present time, for a running list; none is unbounded (R242). -/
def nextClose (l : GateList) (t now : Nat) : Option Nat :=
  match l.at_ now with
  | none => none
  | some (_, i, _, left) =>
    let w := l.windows
    closesAfter t left (w.drop (i + 1) ++ w.take (i + 1))

/-- The gate of TC t is open. -/
def gateOpen (e : EgrPort) (t : Nat) : Bool := e.states.testBit t

/-! ### Preemption (R243, R244) -/

/-- Bytes of a frame on the wire sent so far. -/
def sentBytes (w : OnWire) (rate now : Nat) : Nat := w.done + (now - w.start) * rate / 8000000

/-- Interrupt the preemptable side of a port, where the frame may be cut (R244). -/
def interruptPre (p : Nat) (s : State) : State :=
  let e := egrOf p s
  match e.txPre with
  | some w =>
    if e.interrupted then s
    else
      let cut := max (sentBytes w (portRate p s) (now s)) (w.done + fragMin e - 4)
      if w.bytes.length + 4 < cut + 64 then s
      else
        let s := if w.preempted then s else count p 416 s
        emit (.fragment p) (count p 417 (setEgr p { e with
          interrupted := true, txPre := some { w with preempted := true, done := cut } } s))
  | none => s

/-- Apply the gate list of a port as it stands now. `join` is set when the list joins at a swap or step (R241). -/
def gateApply (p : Nat) (join : Bool) (s : State) : State :=
  let c := activeSet s
  let l := gateListOf c p
  let e := egrOf p s
  let idle (s : State) : State := setEgr p { egrOf p s with running := false, states := gatesIdle c p, entry := 0, hold := false } s
  if l.entries.isEmpty then idle s
  else if !tbEnabled l.tb s then
    if e.running || join then raise 81 2 (idle s) else idle s
  else match l.at_ (tbNow l.tb s) with
    | none => idle s
    | some (start, i, x, _) =>
      let s := if e.running then s else raise 81 0 s
      let hold := preemptOn e && (if x.op = 1 then true else if x.op = 2 then false else e.hold)
      let s := setEgr p { egrOf p s with running := true, states := x.states, entry := i, cycleStart := start, hold := hold } s
      match e.txPre with
      | some w => if preemptOn e && (hold || !x.states.testBit w.tc) then interruptPre p s else s
      | none => s

/-- GATE_ENTRY_CHANGE: the list of a port reaches its next entry, its start or its stop (R239 to R241). -/
def execGateEntryChange (port : Nat) (s : State) : Res := .next (gateApply port false s)

/-- The lists that follow a time base re-join at its step (R241). -/
def gateRejoin (tb : Nat) (s : State) : State :=
  forEach (List.range 32) (fun p s =>
    let l := gateListOf (activeSet s) p
    if l.entries.isEmpty ∨ l.tb ≠ tb then s
    else
      let was := (egrOf p s).running
      let s := gateApply p false s
      if was ∧ (egrOf p s).running then raise 81 1 (count p 419 s) else s) s

/-! ### Taking copies (R214, R235, R483) -/

/-- Remove one copy from its queue, with its charges (R214). -/
def takeFromQueue (q desc : Nat) (s : State) : State := (removeCopies q (fun x => x.desc == desc) s).2

/-- Copies of a REPLICATE port that every live member has taken leave (R483). -/
def logicalSweep (q : Nat) (s : State) : State :=
  let j := queuePort q
  let live := liveMembers j s
  if live.isEmpty then s
  else (removeCopies q (fun x => live.all (fun p => x.taken.testBit p)) s).2

/-- Member `p` is done with the copy that an input offered. -/
def passCopy (i p q : Nat) (x : Copy) (s : State) : State :=
  if i ≠ 0 ∧ u8 (logicalOf (activeSet s) (135 + i)) 0 = 1 then
    let v := vatQueue q s
    let s := setVatQueue q { v with
      copies := v.copies.map (fun y => if y.desc = x.desc then { y with taken := y.taken ||| 2 ^ p } else y) } s
    logicalSweep q s
  else takeFromQueue q x.desc s

/-- Live members of the logical ports changed: sweep REPLICATE queues, raise NO_MEMBER and FOLLOW_SWITCH (R483). `before`
is the state before the change. -/
def membersChanged (before s : State) : State :=
  forEach ((List.range 32).map (136 + ·)) (fun j s =>
    let m := u8 (logicalOf (activeSet s) j) 0
    if m = 0 then s
    else
      let s := if m = 1 then forEach (portQueues j) logicalSweep s else s
      let s := if (liveMembers j s).isEmpty && !(liveMembers j before).isEmpty then raise 14 0 s else s
      if m = 3 ∧ followMember j s ≠ followMember j before then raise 14 1 s else s) s

/-- A meaning that can change which members of a logical port are UP or which set is active. -/
def changing (f : State → State) (s : State) : Res := .next (membersChanged s (f s))

/-! ### What leaves (R178, R233, R351, R481) -/

/-- The frame is VLAN-tagged at its outer tag. -/
def hasTag (b : Bytes) : Bool := beN b 12 2 == 0x8100 || beN b 12 2 == 0x88A8

/-- TAG_OP of a program (R351). -/
def tagOp (op tci : Nat) (b : Bytes) : Bytes :=
  if op = 2 then b.take 12 ++ be 2 0x8100 ++ be 2 tci ++ b.drop 12
  else if !hasTag b then b
  else if op = 1 then setBytes b 14 (be 2 tci)
  else if op = 3 then b.take 12 ++ b.drop 16
  else b

/-- Offset after the VLAN tags of a frame; `fuel` bounds their number. -/
def afterTags (b : Bytes) : Nat → Nat → Nat
  | 0, o => o
  | fuel + 1, o => if beN b o 2 = 0x8100 ∨ beN b o 2 = 0x88A8 then afterTags b fuel (o + 4) else o

/-- The R-tag of a sequence number is put in, or rewritten in place (R481). -/
def putRtag (seq : Nat) (b : Bytes) : Bytes :=
  let o := afterTags b 8 12
  let tag := be 2 0xF1C1 ++ zeros 2 ++ be 2 seq
  if beN b o 2 = 0xF1C1 then setBytes b o tag else b.take o ++ tag ++ b.drop o

/-- The frame without its R-tag (R481). -/
def popRtag (b : Bytes) : Bytes :=
  let o := afterTags b 8 12
  if beN b o 2 = 0xF1C1 then b.take o ++ b.drop (o + 6) else b

/-- The bytes of a copy as a B or T port sends them, before MACsec: TAG_OP, untagging, R-tag. -/
def egressBytes (p : Nat) (x : Copy) (b : Bytes) (s : State) : Bytes :=
  let c := setOf x.gen s
  let b := match x.rewrite with
    | some r =>
      let g := Tbl.get c.programs r []
      if bit g 0 0 then tagOp (u8 g 11 % 4) (u16 g 12) b else b
    | none => b
  let v := mdVlan x.md
  let b := if x.mirror.isNone && x.fox.isNone && vlanValid c v && vlanUntag c v p && hasTag b then b.take 12 ++ b.drop 16 else b
  let b := match x.frer with
    | some (_, seq) => putRtag seq b
    | none => b
  if x.untagR then popRtag b else b

/-- Wire length of a copy in bytes (R233). -/
def wireLen (p : Nat) (b : Bytes) (s : State) : Nat :=
  b.length + 4 + (if msecProtects p b s then msecOverhead (macsecOf p s) else 0) + 20

/-- Wire length of a copy at a port. -/
def copyWire (p : Nat) (x : Copy) (s : State) : Nat := wireLen p (egressBytes p x (copyBytes x s) s) s

/-! ### Eligibility (R236, R237) -/

/-- Why the head of a TC does not go; HEAD of CMD_SCHED_STATUS. -/
inductive HeadState where
  | empty | eligible | launch | gate | guard | credit | tokens | paused
deriving DecidableEq, Repr, Inhabited

/-- paused(p, t): a paused priority maps to TC t (R226). -/
def tcPaused (p t : Nat) (s : State) : Bool :=
  (List.range 8).any (fun r => prioPaused p r s && prioTc (activeSet s) p r == t)

/-- A launch time is later than LATE_TOL allows, or its time base is not enabled (R237). -/
def launchLate (p : Nat) (x : Copy) (s : State) : Bool :=
  match x.launch with
  | some (tb, t) => !tbEnabled tb s || decide (t + lateTol (activeSet s) p < tbNow tb s)
  | none => false

/-- The copy must wait because its SA is not usable (R385). -/
def msecHeld (p : Nat) (x : Copy) (s : State) : Bool :=
  decide ((macsecOf p s).txState = 1) && msecProtects p (egressBytes p x (copyBytes x s) s) s

/-- need(p, t, x): wire bytes that must end before the gate closes (R242). -/
def needBytes (p t : Nat) (x : Copy) (e : EgrPort) (s : State) : Nat :=
  if preemptOn e && !e.preempt.express.getLsbD t then fragMin e + 20 else copyWire p x s

/-- The checks of eligible(p, t) on the head copy, in their order, without its drops (R236). -/
def headState (p t : Nat) (x : Copy) (s : State) : HeadState :=
  let c := activeSet s
  let e := egrOf p s
  let st := tcState e t
  let guard : Bool :=
    if e.running then
      match nextClose (gateListOf c p) t (tbNow (gateListOf c p).tb s) with
      | some d => decide (d * portRate p s < 8000000 * needBytes p t x e s)
      | none => false
    else false
  if tcPaused p t s then .paused
  else if (match x.launch with
    | some (tb, l) => decide (tbNow tb s < l)
    | none => false) then .launch
  else if !gateOpen e t then .gate
  else if guard then .guard
  else if tcCbs c p t && decide (st.credit < 0) then .credit
  else if (decide (0 < tcRate c p t) && decide (ubits (tcBurst c p t) < st.spent)) ||
    (decide (0 < portTbRate c p) && decide (ubits (portTbBurst c p) < e.portSpent)) then .tokens
  else .eligible

/-- Drop late copies at the head of a TC (R237). -/
def dropLate (p t : Nat) (s : State) : State :=
  let rec go : Nat → State → State
    | 0, s => s
    | fuel + 1, s =>
      match headOf p t s with
      | some (i, q, x) => if launchLate p x s then go fuel (raise 80 0 (count p (400 + t) (passCopy i p q x s))) else s
      | none => s
  if tcPaused p t s then s else go (sumBy (fun e => e.2.copies.length) s.vat.queues) s

/-- Sides of a port (R243). -/
inductive Side where
  | all | express | preemptable
deriving DecidableEq, Repr, Inhabited

def onSide (e : EgrPort) (side : Side) (t : Nat) : Bool :=
  match side with
  | .all => true
  | .express => e.preempt.express.getLsbD t
  | .preemptable => !e.preempt.express.getLsbD t

/-- The TC picked from those eligible: the highest group, in a fair group the least start tag, ties to the higher TC. -/
def pickTc (c : CfgSet) (p : Nat) (e : EgrPort) (ts : List Nat) : Option Nat :=
  let top := ts.foldl (fun g t => max g (tcGroup c p t)) 0
  let ms := ts.filter (fun t => tcGroup c p t == top)
  ms.foldl (fun best t => match best with
    | none => some t
    | some b => if (tcState e t).s ≤ (tcState e b).s then some t else some b) none

/-- A copy of TC t was dropped at selection or queues changed: nothing to do but go on. -/
inductive Picked where
  /-- Nothing is eligible. -/
  | idle
  /-- The head of a TC goes: input, queue, copy. -/
  | send (t i q : Nat) (x : Copy)
  /-- The head was dropped instead. -/
  | dropped

/-- One turn of the loop of select(p, side) (R236). -/
def pickOnce (p : Nat) (side : Side) (s : State) : Picked × State :=
  let c := activeSet s
  let ts := (List.range 8).filter (onSide (egrOf p s) side)
  let s := forEach ts (dropLate p) s
  let ok := ts.filter (fun t => match headOf p t s with
    | some (_, _, x) => headState p t x s == .eligible && !msecHeld p x s
    | none => false)
  match pickTc c p (egrOf p s) ok with
  | none => (.idle, s)
  | some t =>
    match headOf p t s with
    | none => (.idle, s)
    | some (i, q, x) =>
      let b := egressBytes p x (copyBytes x s) s
      if x.bad then (.dropped, raise 75 1 (countQueue q 3 (takeFromQueue q x.desc s)))
      else if overAge x (queueMaxRes q s) s then (.dropped, raise 73 0 (countQueue q 2 (takeFromQueue q x.desc s)))
      else if (ethPort p s).maxFrame < b.length + 4 then (.dropped, count p 10 (passCopy i p q x s))
      else if msecProtects p b s && !txUsable (macsecOf p s) then (.dropped, count p 70 (passCopy i p q x s))
      else (.send t i q x, s)

/-! ### Commitment (R236, R247, R248) -/

/-- Tags of a fair TC after a copy of its is committed; `more` tells that the TC still has copies (R247). -/
def fairCommit (c : CfgSet) (p t wire : Nat) (more : Bool) (e : EgrPort) : EgrPort :=
  if tcFair c p t then
    let st := tcState e t
    let f := st.s + wire * 256 / max 1 (tcWeight c p t)
    let e := { e with v := Tbl.set e.v (tcGroup c p t) st.s 0 }
    setTc e t { st with f := f, s := if more then max st.s f else st.s }
  else e

/-- Egress timestamp record asked for by a TX descriptor (R82, R277, R278). -/
def egressStamp (p : Nat) (x : Copy) (s : State) : State :=
  match frameOf x.fid s with
  | some v => match v.frame.tsReq with
    | some r =>
      let stamp := ((tbNow r.tb s : Int) + (Tbl.get s.time.gport p {}).egr) % 18446744073709551616
      addRecord {
        ring := r.ring, port := p, tb := r.tb, stamp := stamp.toNat, cookie := r.cookie, txRing := r.txRing, gen := x.gen } s
    | none => s
  | none => s

/-- The egress sample of a copy, if the sampler of its port takes it (R193). -/
def foxEgress (p : Nat) (x : Copy) (s : State) : State :=
  let c := setOf x.gen s
  let (take, s) := foxTake c p 1 s
  if take then
    let y := foxCopy c p 1 (copyBytes x s).length 0 x.zone x.fwds x.actionId
      { x with rewrite := none, tunnel := none, frer := none, untagR := false, hdr := x.hdr } s
    hostCheck (admitCopies x.fid [y] (count p 475 s))
  else s

/-- A copy starts on the line: commit(p, t, x), its bytes, its timestamps, its sample (R236). -/
def startCopy (p t i q : Nat) (x : Copy) (pre : Bool) (s : State) : State :=
  let c := activeSet s
  let s := egressStamp p x (foxEgress p x s)
  let b := egressBytes p x (copyBytes x s) s
  let ended := match frameOf x.fid s with
    | some v => v.ended
    | none => true
  let (extra, s) := if ended then (0, s) else
    let (k, s) := takeFresh s
    (Config.freeNat k, s)
  let wire := wireLen p b s + extra
  let (b, s) := if ended ∧ msecProtects p b s then
      match msecTx p b s with
      | (some b', s) => (b', s)
      | (none, s) => (b, s)
    else (b, s)
  let s := passCopy i p q x s
  let e := egrOf p s
  let st := tcState e t
  let e := setTc e t { st with spent := if 0 < tcRate c p t then st.spent + ubits wire else st.spent, rr := (i + 1) % 33 }
  let e := if 0 < portTbRate c p then { e with portSpent := e.portSpent + ubits wire } else e
  let e := fairCommit c p t wire (tcHas p t s) e
  let w : OnWire := { copy := x, tc := t, wire := wire, bytes := if ended then b else [], start := now s }
  setEgr p (if pre then { e with txPre := some w, interrupted := false } else { e with tx := some w }) s

/-- Select until something goes or nothing is eligible; `fuel` bounds the copies that can be dropped. -/
def selectLoop (p : Nat) (side : Side) (pre : Bool) : Nat → State → State
  | 0, s => s
  | fuel + 1, s =>
    match pickOnce p side s with
    | (.idle, s) => s
    | (.dropped, s) => selectLoop p side pre fuel s
    | (.send t i q x, s) =>
      let s := if side = .express then interruptPre p s else s
      startCopy p t i q x pre s

/-- The scheduler of a port may select: the device forwards, the port is UP, not halted, not in a TC10 handshake
(R232, R375). -/
def maySelect (p : Nat) (s : State) : Bool := forwards s && portUp p s && !halted p s && !(ethPort p s).tc10

/-- A selection opportunity of a side of a port (R232, R243, R244). -/
def selectPort (p : Nat) (side : Side) (s : State) : State :=
  let e := egrOf p s
  let fuel := 1 + sumBy (fun e => e.2.copies.length) s.vat.queues
  if !maySelect p s then s
  else if preemptOn e then
    match side with
    | .preemptable =>
      if e.tx.isSome ∨ e.hold then s
      else match e.txPre with
        | some w =>
          if e.interrupted && gateOpen e w.tc then
            setEgr p { e with interrupted := false, txPre := some { w with start := now s } } s
          else s
        | none => selectLoop p .preemptable true fuel s
    | _ => if e.tx.isSome then s else selectLoop p .express false fuel s
  else if e.tx.isSome ∨ e.txPre.isSome then s
  else selectLoop p .all false fuel s

/-- EGRESS_SELECT: a selection opportunity; `side` is 0 for the whole port, 1 express, 2 preemptable (R236). -/
def execEgressSelect (port side : Nat) (s : State) : Res :=
  .next (selectPort port (if side = 2 then .preemptable else if side = 1 then .express else .all) s)

/-! ### The end of a transmission -/

/-- A TC without copies and without bytes on the line keeps no positive credit (R245). -/
def creditEmpty (p t : Nat) (s : State) : State :=
  let e := egrOf p s
  let st := tcState e t
  if 0 < st.credit ∧ !tcHas p t s then setEgr p (setTc e t { st with credit := 0 }) s else s

/-- A frame on the wire has left. -/
def sendDone (p : Nat) (w : OnWire) (s : State) : State :=
  let s := emit (.eth p w.bytes w.invert) s
  let s := count p 2 (countN p 3 (w.bytes.length + 4) (count p (408 + w.tc) s))
  let s := if bit w.bytes 0 0 then count p 13 s else s
  let s := if w.preempted then count p 417 s else s
  creditEmpty p w.tc s

/-- The copy on the wire is still arriving (R17). -/
def stillArriving (w : OnWire) (s : State) : Bool :=
  w.copy.ct && w.bytes.isEmpty && !w.invert && (match frameOf w.copy.fid s with
    | some v => !v.ended
    | none => false)

/-- TRANSMISSION_COMPLETE: the wire time of a copy ends (R232, R233, R245). -/
def execTransmissionComplete (port : Nat) (pre : Bool) (s : State) : Res :=
  let e := egrOf port s
  match if pre then e.txPre else e.tx with
  | none => .next s
  | some w =>
    if stillArriving w s ∨ (pre ∧ e.interrupted) then .next s
    else .next (sendDone port w (setEgr port (if pre then { e with txPre := none } else { e with tx := none }) s))

/-- A frame that was being received has ended: the cut-through copies on a wire take its bytes, and a frame that nobody
holds any more leaves the Vat; copies still queued carry its full length and cells (R18, R211, R214). -/
def frameEnded (fid : Nat) (s : State) : State :=
  let fill (p : Nat) (w : Option OnWire) : Option OnWire := w.map (fun w =>
    if w.copy.fid = fid ∧ w.copy.ct ∧ w.bytes.isEmpty then { w with bytes := egressBytes p w.copy (copyBytes w.copy s) s } else w)
  let s := forEach s.flow.egr (fun e s =>
    let x := egrOf e.1 s
    setEgr e.1 { x with tx := fill e.1 x.tx, txPre := fill e.1 x.txPre } s) s
  match frameOf fid s with
  | some v =>
    if v.refs = 0 ∧ !v.staged ∧ v.ended then pfcCheck v.frame.port (dropFrame fid s)
    else if v.staged then s
    else forEach (busyQueues s) (fun q s =>
      let w := vatQueue q s
      setVatQueue q { w with copies := w.copies.map (fun x =>
        if x.fid = fid then { x with len := v.frame.bytes.length, cells := v.cells.length } else x) } s) s
  | none => s

/-! ### Time (R245, R248) -/

/-- Tokens grow for `ns`. -/
def grow (spent rate ns : Nat) : Nat := spent - rate * ns

/-- The credit of a TC after `ns` (R245). -/
def creditAfter (c : CfgSet) (p t ns : Nat) (st : TcState) (s : State) : Int :=
  let e := egrOf p s
  let slope : Int := tcSlope c p t
  let sending : Bool := (match e.tx with
    | some w => w.tc == t
    | none => false) || (match e.txPre with
    | some w => w.tc == t && !e.interrupted
    | none => false)
  if !gateOpen e t || tcPaused p t s || halted p s || !portUp p s then st.credit
  else if sending then st.credit + (slope - (portRate p s : Int)) * (ns : Int)
  else if tcHas p t s || (match e.txPre with
    | some w => w.tc == t
    | none => false) then st.credit + slope * (ns : Int)
  else if st.credit < 0 then min 0 (st.credit + slope * (ns : Int))
  else 0

/-- Credits and tokens of a port after `ns` of TB0. -/
def egrAdvance (ns p : Nat) (s : State) : State :=
  let c := activeSet s
  let e := (List.range 8).foldl (fun e t =>
    let st := tcState e t
    setTc e t { st with
      spent := grow st.spent (tcRate c p t) ns
      credit := if tcCbs c p t then creditAfter c p t ns st s else st.credit }) (egrOf p s)
  setEgr p { e with portSpent := grow e.portSpent (portTbRate c p) ns } s

/-- PREEMPT_VERIFY_ATTEMPT: an attempt of the verify exchange ends (R243). -/
def execPreemptVerifyAttempt (port : Nat) (good : Bool) (s : State) : Res :=
  let e := egrOf port s
  let r := e.preempt
  if r.state ≠ 1 ∨ !portUp port s then .next s
  else if good then .next (raise 82 0 (setEgr port { e with preempt := { r with state := 2 } } s))
  else if 2 ≤ r.attempts then
    .next (raise 82 1 (count port 418 (setEgr port { e with preempt := { r with state := 3, attempts := 3 } } s)))
  else .next (setEgr port { e with preempt := { r with attempts := r.attempts + 1 } } s)

end Sys2Proof.Machine
end

