-- ==== Sys2Proof/Machine/Police.lean ====
section
/-! DEFINITION. Ingress policing: stream filters, stream gates and meters; FRER generation and recovery
(spec/08, R255 to R263; spec/15, R481 and R482). -/

namespace Sys2Proof.Machine

/-! ### Settings -/

/-- A stream filter not set: PRIO_MASK 0xFF, no gate, no meter (R256). -/
def filter0 : Bytes := [0, 0xFF, 0, 0, 0xFF, 0xFF, 0xFF, 0xFF]
def filterOf (c : CfgSet) (n : Nat) : Bytes := Tbl.get c.filters n filter0
def meterOf (c : CfgSet) (n : Nat) : Bytes := Tbl.get c.meters n (zeros 18)
def streamGateOf (c : CfgSet) (n : Nat) : StreamGate := Tbl.get c.streamGates n {}

/-- Entry counters of R263, in their order: filters 16 to 20, meters 24 to 26, gates 28 and 29. -/
def ecFilter (j : Nat) : Nat := 16 + j
def ecMeter (j : Nat) : Nat := 24 + j
def ecGate (j : Nat) : Nat := 28 + j

/-! ### Meters (R258, R259) -/

def meterState (m : Nat) (s : State) : MeterState := Tbl.get s.flow.meters m {}

def setMeter (m : Nat) (x : MeterState) (s : State) : State :=
  { s with flow := { s.flow with meters := Tbl.set s.flow.meters m x {} } }

/-- Token additions up to a time; an earlier time adds none (R259). -/
def meterFill (b : Bytes) (t : Nat) (x : MeterState) : MeterState :=
  if t < x.last then x
  else
    let d := t - x.last
    let c := u32 b 2 * d
    let excess := if bit b 0 2 then c - x.cSpent else 0
    { cSpent := x.cSpent - c, eSpent := x.eSpent - (u32 b 10 * d + excess), last := t }

/-- trTCM: the colour of a frame and the meter after it (R258). -/
def trtcm (b : Bytes) (k len t : Nat) (x : MeterState) : Nat × MeterState :=
  let x := meterFill b t x
  let aware := bit b 0 1
  if (!aware || k == 0) && decide (x.cSpent + ubits len ≤ ubits (u32 b 6)) then (0, { x with cSpent := x.cSpent + ubits len })
  else if (!aware || k != 2) && decide (x.eSpent + ubits len ≤ ubits (u32 b 14)) then
    (1, { x with eSpent := x.eSpent + ubits len })
  else (2, x)

/-! ### Stream gates (R257) -/

def sgateState (g : Nat) (s : State) : SGateState := Tbl.get s.flow.sgates g {}

def setSgate (g : Nat) (x : SGateState) (s : State) : State :=
  { s with flow := { s.flow with sgates := Tbl.set s.flow.sgates g x {} } }

/-- The octet count as it applies to a frame in an entry: zero from the start of a newer entry on. -/
def octetsIn (start entry : Nat) (x : SGateState) : SGateState :=
  if x.cycleStart < start ∨ (x.cycleStart = start ∧ x.entry < entry) then
    { x with octets := 0, entry := entry, cycleStart := start }
  else x

/-- STREAM_GATE_ENTRY_CHANGE: an entry of a stream gate starts and its octet count is zero (R257). -/
def execStreamGateEntryChange (gate : Nat) (s : State) : Res :=
  let l := (streamGateOf (activeSet s) gate).list
  if !tbEnabled l.tb s then .next s
  else match l.at_ (tbNow l.tb s) with
    | some (start, i, _, _) => .next (setSgate gate (octetsIn start i (sgateState gate s)) s)
    | none => .next s

/-- What policing did with a frame. -/
inductive Verdict where
  /-- The forwarding copies go on, with the IPV of a stream gate and the colour. -/
  | pass (ipv : Option Nat) (colour : Nat)
  | drop
deriving DecidableEq, Repr, Inhabited

/-- Drop at a stream gate: latch it when it closes on this, with its event (R255, R257). -/
def gateDrop (port f g j : Nat) (latch : Bool) (s : State) : State :=
  let s := countEntry (ecFilter 3) f (countEntry (ecGate j) g (count port (482 + j) (raise 84 j s)))
  let x := sgateState g s
  if latch ∧ !x.latched then raise 84 2 (setSgate g { x with latched := true } s) else s

/-- The stream gate of a filter judges a frame: none drops it (R255). The spec gives no state of a gate that is invalid,
has no entries or has not reached BASE_TIME: open or closed is then a free value (log entry 31). -/
def judgeGate (c : CfgSet) (port f g len : Nat) (ts : List Nat) (s : State) : Option (Option Nat) × State :=
  let gate := streamGateOf c g
  let l := gate.list
  let x := sgateState g s
  let onInvalid := gate.flags.testBit 1
  let onOctets := gate.flags.testBit 2
  if x.latched || !tbEnabled l.tb s then (none, gateDrop port f g 0 onInvalid s)
  else match (if gate.flags.testBit 0 then l.at_ (ts.getD l.tb 0) else none) with
    | none =>
      let (k, s) := takeFresh s
      if Config.freeNat k % 2 = 1 then (some none, s) else (none, gateDrop port f g 0 onInvalid s)
    | some (start, i, e, _) =>
      let x := octetsIn start i x
      if !e.states.testBit 0 then (none, gateDrop port f g 0 onInvalid (setSgate g x s))
      else if 0 < e.octets ∧ e.octets < x.octets + len then (none, gateDrop port f g 1 onOctets (setSgate g x s))
      else (some (if e.op.testBit 3 then some (e.op % 8) else none), setSgate g { x with octets := x.octets + len } s)

/-- The filter's part of police: none drops; else IPV, and the filter that matched (R255). -/
def judgeFilter (c : CfgSet) (port f prio len : Nat) (ts : List Nat) (s : State) : Option (Option Nat × Bool) × State :=
  let b := filterOf c f
  if !(bit b 0 0 && (u8 b 1).testBit prio) then (some (none, false), s)
  else
    let s := countEntry (ecFilter 0) f s
    if Tbl.get s.flow.blocked f false then (none, raise 83 1 (count port 484 s))
    else if 0 < u16 b 2 ∧ u16 b 2 < len then
      let s := countEntry (ecFilter 2) f (raise 83 0 (count port 481 s))
      (none, if bit b 0 1 then { s with flow := { s.flow with blocked := Tbl.set s.flow.blocked f true false } } else s)
    else match idx16 b 4 with
      | some g =>
        match judgeGate c port f g len ts s with
        | (some ipv, s) => (some (ipv, true), s)
        | (none, s) => (none, s)
      | none => (some (none, true), s)

/-- police(a, frame) (R255). -/
def police (c : CfgSet) (port : Nat) (a : Merged) (prio colour len : Nat) (ts : List Nat) (s : State) : Verdict × State :=
  let (j, s) := match a.stream with
    | some f => judgeFilter c port f prio len ts s
    | none => (some (none, false), s)
  match j with
  | none => (.drop, s)
  | some (ipv, matched) =>
    let f := a.stream.getD 0
    let m := match a.meter with
      | some m => some m
      | none => if matched then idx16 (filterOf c f) 6 else none
    let passed (s : State) : State := if matched then countEntry (ecFilter 1) f s else s
    match m with
    | some m =>
      let b := meterOf c m
      if bit b 0 0 then
        let (k, x) := trtcm b colour len (ts.getD 0 0) (meterState m s)
        let s := countEntry (ecMeter k) m (setMeter m x s)
        let s := if k = 2 then raise 85 0 s else s
        if k = 2 ∧ bit b 0 3 then
          (.drop, count port 480 (if matched then countEntry (ecFilter 4) f s else s))
        else (.pass ipv k, passed s)
      else (.pass ipv colour, passed s)
    | none => (.pass ipv colour, passed s)

/-! ### FRER (R481, R482) -/

/-- Entry counters of a compound stream, in the order of R489: PASSED, DISCARDED, OUT_OF_ORDER, ROGUE, RESETS,
LATENT_ERRORS, NO_SEQ, GENERATED. -/
def ecFrer (j : Nat) : Nat := 48 + j

/-- A compound stream not set: its reset values (R481). -/
def stream0 : Bytes := [0, 0] ++ b2 32 ++ b2 2000 ++ b1 2 ++ zeros 1 ++ b4 16 ++ b2 2000 ++ b2 30
def streamOf (c : CfgSet) (n : Nat) : Bytes := Tbl.get c.streams n stream0
def bindOf (c : CfgSet) (id : Nat) : Nat := u16 (Tbl.get c.binds id (zeros 2)) 0

def frerState (n : Nat) (s : State) : FrerState := Tbl.get s.pair.frer n {}

def setFrer (n : Nat) (x : FrerState) (s : State) : State :=
  { s with pair := { s.pair with frer := Tbl.set s.pair.frer n x {} } }

/-- The signed difference of two sequence numbers (R482). -/
def seqDiff (a b : Nat) : Int :=
  let d := (a + 65536 - b) % 65536
  if 32768 ≤ d then (d : Int) - 65536 else d

/-- recover(c, seq): whether the frame passes, and the stream after it, with the counters it raised (R482). -/
def recoverStep (b : Bytes) (seq : Nat) (x : FrerState) : Bool × FrerState × List Nat :=
  let len := u16 b 2
  if x.takeAny then (true, { x with seqR := seq, hist := 1, takeAny := false }, [])
  else
    let d := seqDiff seq x.seqR
    let off : List Nat := if d = 1 then [] else [2]
    if bit b 0 2 then
      if d = 0 then (false, x, []) else (true, { x with seqR := seq }, off)
    else if len ≤ d.natAbs then
      if x.resync then (true, { x with seqR := seq, hist := 1, resync := false }, [4]) else (false, x, [3])
    else
      let x := { x with resync := false }
      if d ≤ 0 then
        if x.hist.testBit d.natAbs then (false, x, [])
        else (true, { x with hist := x.hist ||| 2 ^ d.natAbs }, [2])
      else (true, { x with hist := (x.hist * 2 ^ d.natAbs + 1) % 2 ^ len, seqR := seq }, off)

/-- Recovery of a frame with its counters, events and latent counts (R482). -/
def recover (n : Nat) (b : Bytes) (seq : Nat) (s : State) : Bool × State :=
  let (ok, x, cs) := recoverStep b seq (frerState n s)
  let x := if ok then { x with lastPass := now s, passed := x.passed + 1 } else { x with discarded := x.discarded + 1 }
  let s := countEntry (ecFrer (if ok then 0 else 1)) n (setFrer n x s)
  let s := forEach cs (fun j s => countEntry (ecFrer j) n s) s
  (ok, if cs.contains 3 then raise 13 2 s else s)

/-- What FRER decided for a frame: nothing, an R-tag to add, or a discard with or without tag removal. -/
inductive FrerOut where
  | none | tag (stream seq : Nat) | pass (pop : Bool) | discard
deriving DecidableEq, Repr, Inhabited

/-- FRER of a frame whose action names a stream bound to a compound stream (R481). -/
def frer (c : CfgSet) (stream : Option Nat) (stack : List (Nat × Nat)) (bytes : Bytes) (s : State) : FrerOut × State :=
  match stream with
  | Option.none => (.none, s)
  | some id =>
    let v := bindOf c id
    let n := v % 2048
    let b := streamOf c n
    if !v.testBit 15 || !bit b 0 0 then (.none, s)
    else if !bit b 0 1 then
      let x := frerState n s
      (.tag n x.next, countEntry (ecFrer 7) n (setFrer n { x with next := (x.next + 1) % 65536 } s))
    else match stack.find? (fun e => e.1 == 0x40) with
      | Option.none =>
        if bit b 0 3 then (.pass (bit b 0 4), s) else (.discard, countEntry (ecFrer 6) n s)
      | some e =>
        let (ok, s) := recover n b (beN bytes (e.2 + 4) 2) s
        (if ok then .pass (bit b 0 4) else .discard, s)

/-- A compound stream's operand of a row exists. -/
def isRecover (c : CfgSet) (n : Nat) : Bool := bit (streamOf c n) 0 0 && bit (streamOf c n) 0 1

/-- FRER_RECOVERY_TIMEOUT: no pass for RECOVERY_TIMEOUT_MS (R482). -/
def execFrerRecoveryTimeout (stream : Nat) (s : State) : Res :=
  let b := streamOf (activeSet s) stream
  let x := frerState stream s
  if isRecover (activeSet s) stream && !x.takeAny && decide (x.lastPass + 1000000 * u16 b 4 < now s) then
    .next (raise 13 1 (countEntry (ecFrer 4) stream (setFrer stream { x with takeAny := true } s)))
  else .next s

/-- FRER_LATENT_CHECK: the latent error test (R482). -/
def execFrerLatentCheck (stream : Nat) (s : State) : Res :=
  let b := streamOf (activeSet s) stream
  let x := frerState stream s
  if isRecover (activeSet s) stream && bit b 0 5 && decide (u32 b 8 + x.discarded < x.passed * (u8 b 6 - 1)) then
    .next (raise 13 0 (countEntry (ecFrer 5) stream s))
  else .next s

/-- FRER_LATENT_RESET: both latent counts restart (R482). -/
def execFrerLatentReset (stream : Nat) (s : State) : Res :=
  .next (setFrer stream { frerState stream s with passed := 0, discarded := 0 } s)

end Sys2Proof.Machine
end

