-- ==== Sys2Proof/Machine/SchedCmds.lean ====
section
/-! DEFINITION. What a swap resets in the schedulers and in policing, and the commands of group 0x08
(spec/08, R249, R250, R265). -/

namespace Sys2Proof.Machine

/-! ### The swap instant (R250) -/

/-- Fair members of a scheduling group with their weights. -/
def fairGroup (c : CfgSet) (p g : Nat) : List (Nat × Nat) :=
  ((List.range 8).filter (fun t => tcGroup c p t == g && tcFair c p t)).map (fun t => (t, tcWeight c p t))

/-- Running state of one port's scheduler after a change of set. -/
def schedSwap (old new : CfgSet) (p : Nat) (s : State) : State :=
  let e := egrOf p s
  let e := (List.range 8).foldl (fun e t =>
    let x := tcState e t
    let x := if tcSlope old p t ≠ tcSlope new p t ∨ (!tcCbs old p t ∧ tcCbs new p t) then { x with credit := 0 } else x
    let x := if tcRate old p t ≠ tcRate new p t ∨ tcBurst old p t ≠ tcBurst new p t then { x with spent := 0 } else x
    setTc e t x) e
  let e := if portTbRate old p ≠ portTbRate new p ∨ portTbBurst old p ≠ portTbBurst new p then { e with portSpent := 0 } else e
  let e := (List.range 8).foldl (fun e g =>
    if fairGroup old p g = fairGroup new p g then e
    else (fairGroup new p g).foldl (fun e m =>
      let v := Tbl.get e.v g 0
      setTc e m.1 { tcState e m.1 with s := v, f := v }) e) e
  let s := setEgr p e s
  if gateListOf old p = gateListOf new p then gateApply p false s
  else gateApply p true (setEgr p { egrOf p s with running := false } s)

/-- Settings of a meter that R250 names. -/
def meterSettings (c : CfgSet) (m : Nat) : Bytes := meterOf c m

/-- Keys of two tables. -/
def keysOf {α : Type} (a b : Tbl α) : List Nat := (a.map (·.1) ++ b.map (·.1)).eraseDups

/-- What the change from one set to another resets at the swap instant; the new set is active already (R250, R251). -/
def flowSwap (old new : CfgSet) (s : State) : State :=
  let s := forEach (List.range 32) (schedSwap old new) s
  let s := forEach (keysOf old.meters new.meters) (fun m s =>
    if meterSettings old m = meterSettings new m then s
    else setMeter m { meterState m s with cSpent := 0, eSpent := 0 } s) s
  forEach (keysOf old.streamGates new.streamGates) (fun g s =>
    if (streamGateOf old g).list = (streamGateOf new g).list then s
    else setSgate g { sgateState g s with octets := 0, entry := 0, cycleStart := 0 } s) s

/-! ### CMD_SCHED_PORT -/

/-- The 152 bytes as applied (R249). -/
def schedApply (p : Bytes) (cap : Nat) : Bytes :=
  b1 (u8 p 0) ++ zeros 3 ++ b4 (min 1000000 (u32 p 4)) ++ b4 (u32 p 8) ++ b4 (clamp 1600 16777215 (u32 p 12)) ++
    b1 (u8 p 16) ++ zeros 7 ++ (List.range 8).flatMap (fun t =>
      let i := 24 + 16 * t
      b1 (u8 p i % 8) ++ b1 (u8 p (i + 1) % 4) ++ b1 (max 1 (u8 p (i + 2))) ++ zeros 1 ++ b4 (u32 p (i + 4)) ++
        b4 (u32 p (i + 8)) ++ b4 (clamp 1600 16777215 (u32 p (i + 12)))) |> capRates cap

/-- R234: a TC that is not fair shares its group with another TC. -/
def groupConflict (b : Bytes) : Bool :=
  let g (t : Nat) : Nat := u8 b (24 + 16 * t) % 8
  (List.range 8).any (fun t => !bit b (25 + 16 * t) 0 && (List.range 8).any (fun u => u != t && g u == g t))

/-- CMD_SCHED_PORT. -/
def cmdSchedPort : Cmd :=
  { code := 0x0800, may := mbs [0, 1, 2, 3, 4], lenOk := len 152, sets := .either
    idx := fun r _ => need (decide (u8 r.params 0 < 32))
    body := fun r s =>
      let p := u8 r.params 0
      if r.target = 0 then ok (schedOf (activeSet s) p) s
      else
        let b := schedApply r.params (portRate p s)
        if groupConflict b then fail stConflict s
        else ok b (editShadow (fun c => { c with sched := Tbl.set c.sched p b (sched0 p) }) s) }

/-! ### CMD_GATE_LIST -/

/-- A time of R240 as applied: a multiple of 8 ns from 8 ns to 1 s. -/
def gateTime (v : Nat) : Nat := if v = 0 then 0 else clamp 8 1000000000 (v / 8 * 8)

/-- CYCLE_TIME as applied; 0 stays 0 (log entry 123). -/
def cycleTime (v : Nat) : Nat := gateTime v

/-- A list whose intervals sum to more than 1 s with CYCLE_TIME 0 (R240). -/
def cycleConflict (l : GateList) : Bool := l.cycle == 0 && decide (1000000000 < sumBy (·.interval) l.entries)

/-- The response of CMD_GATE_LIST. -/
def gateRsp (p : Nat) (l : GateList) : Bytes :=
  b1 p ++ b1 l.tb ++ b2 l.entries.length ++ b8 l.base ++ b4 l.cycle ++
    l.entries.flatMap (fun x => b1 x.states ++ b1 x.op ++ zeros 2 ++ b4 x.interval)

/-- CMD_GATE_LIST. -/
def cmdGateList : Cmd :=
  { code := 0x0801, may := mbs [0, 1, 2, 3, 4], lenOk := fun p => p.length == 16 + 8 * u16 p 2, sets := .either
    idx := fun r _ => need (decide (u8 r.params 0 < 32) && (r.target == 0 || decide (u8 r.params 1 < 6)))
    body := fun r s =>
      let q := r.params
      let p := u8 q 0
      if r.target = 0 then ok (gateRsp p (gateListOf (activeSet s) p)) s
      else
        let n := u16 q 2
        let es := (List.range n).map (fun i =>
          ({ states := u8 q (16 + 8 * i), op := u8 q (17 + 8 * i) % 4, interval := gateTime (u32 q (20 + 8 * i)) } : GateEntry))
        let l : GateList := { tb := u8 q 1, base := u64 q 4, cycle := cycleTime (u32 q 12), entries := es }
        if 256 < n then fail stNoSpace s
        else if es.any (fun x => x.op == 3) || cycleConflict l then fail stConflict s
        else
          let l := if n = 0 then {} else l
          ok (if n = 0 then slice q 0 16 else gateRsp p l)
            (editShadow (fun c => { c with gates := Tbl.set c.gates p l {} }) s) }

/-! ### CMD_PREEMPT and CMD_SCHED_STATUS -/

/-- STATE that verification starts from (R243). -/
def preemptStart (pr : Preempt) (up : Bool) : Nat :=
  if !pr.en then 0 else if pr.verifyEn then 1 else if up then 2 else 0

def preemptRsp (p op : Nat) (s : State) : Bytes :=
  let r := (egrOf p s).preempt
  b1 p ++ b1 op ++ b1 (b2n r.en + 2 * b2n r.verifyEn) ++ b1 r.express.toNat ++ b1 r.addFrag ++ zeros 1 ++ b2 r.verifyTime ++
    b1 r.state ++ zeros 3

/-- CMD_PREEMPT. -/
def cmdPreempt : Cmd :=
  { code := 0x0802, may := readAny 1 [0], lenOk := len 8
    idx := fun r _ => need (decide (u8 r.params 0 < 32) && decide (u8 r.params 1 < 2))
    body := fun r s =>
      let q := r.params
      let p := u8 q 0
      if u8 q 1 = 0 then ok (preemptRsp p 0 s) s
      else
        let pr : Preempt := { en := bit q 2 0, verifyEn := bit q 2 1, express := BitVec.ofNat 8 (u8 q 3)
                              addFrag := min 3 (u8 q 4), verifyTime := clamp 1 128 (u16 q 6) }
        let pr := { pr with state := preemptStart pr (portUp p s) }
        let s := setEgr p { egrOf p s with preempt := pr, interrupted := false, hold := false } s
        ok (preemptRsp p 1 s) s }

/-- HEAD of CMD_SCHED_STATUS. -/
def headCode (p t : Nat) (s : State) : Nat :=
  match headOf p t s with
  | none => 0
  | some (_, _, x) => match headState p t x s with
    | .empty => 0 | .eligible => 1 | .launch => 2 | .gate => 3 | .guard => 4 | .credit => 5 | .tokens => 6 | .paused => 7

/-- Signed whole bytes in a bucket. -/
def tokenBytes (burst spent : Nat) : Int := ((ubits burst : Int) - spent) / 8000000

/-- CMD_SCHED_STATUS. -/
def cmdSchedStatus : Cmd :=
  { code := 0x0803, may := mbs [0, 1, 2, 3, 4], lenOk := len 4
    idx := fun r _ => need (decide (u8 r.params 0 < 32))
    body := fun r s =>
      let p := u8 r.params 0
      let e := egrOf p s
      let c := activeSet s
      ok (b1 (b2n e.running) ++ b1 e.entry ++ b1 e.states ++ b1 e.preempt.state ++ b8 e.cycleStart ++
        sle 4 (tokenBytes (portTbBurst c p) e.portSpent) ++ (List.range 8).flatMap (fun t =>
          sle 4 ((tcState e t).credit / 1000000) ++ sle 4 (tokenBytes (tcBurst c p t) (tcState e t).spent) ++
            b1 (headCode p t s) ++ zeros 3)) s }

/-! ### Policing -/

/-- CMD_STREAM_FILTER. -/
def cmdStreamFilter : Cmd :=
  { code := 0x0804, may := mbs [0, 1, 2, 3, 4], lenOk := len 12, sets := .either
    idx := fun r _ =>
      let q := r.params
      need (decide (u16 q 0 < 8192) && (r.target == 0 ||
        ((decide (u16 q 6 < 1024) || u16 q 6 == 0xFFFF) && (decide (u16 q 8 < 8192) || u16 q 8 == 0xFFFF))))
    body := fun r s =>
      let q := r.params
      let f := u16 q 0
      let b := b1 (u8 q 2 % 4) ++ b1 (u8 q 3) ++ b2 (min 16383 (u16 q 4)) ++ b2 (u16 q 6) ++ b2 (u16 q 8)
      let rsp (b : Bytes) : Bytes := b2 f ++ b ++ zeros 2 ++ b1 (b2n (Tbl.get s.flow.blocked f false)) ++ zeros 3
      if r.target = 0 then ok (rsp (filterOf (activeSet s) f)) s
      else ok (rsp b) (editShadow (fun c => { c with filters := Tbl.set c.filters f b filter0 }) s) }

def streamGateRsp (g : Nat) (x : StreamGate) : Bytes :=
  b2 g ++ b1 x.list.tb ++ b1 x.flags ++ b8 x.list.base ++ b4 x.list.cycle ++ b2 x.list.entries.length ++ zeros 2 ++
    x.list.entries.flatMap (fun e => b1 e.states ++ b1 e.op ++ zeros 2 ++ b4 e.interval ++ b4 e.octets)

/-- CMD_STREAM_GATE. -/
def cmdStreamGate : Cmd :=
  { code := 0x0805, may := mbs [0, 1, 2, 3, 4], lenOk := fun p => p.length == 20 + 12 * u16 p 16, sets := .either
    idx := fun r _ => need (decide (u16 r.params 0 < 1024) && (r.target == 0 || decide (u8 r.params 2 < 6)))
    body := fun r s =>
      let q := r.params
      let g := u16 q 0
      if r.target = 0 then ok (streamGateRsp g (streamGateOf (activeSet s) g)) s
      else
        let n := u16 q 16
        let es := (List.range n).map (fun i =>
          let o := 20 + 12 * i
          let ipv := u8 q (o + 1) % 16
          ({ states := u8 q o % 2, op := ipv, interval := gateTime (u32 q (o + 4)), octets := u32 q (o + 8) } : GateEntry))
        let l : GateList := { tb := u8 q 2, base := u64 q 4, cycle := cycleTime (u32 q 12), entries := es }
        let x : StreamGate := { flags := u8 q 3 % 8, list := l }
        let used := sumBy (fun e => e.2.list.entries.length) (Tbl.erase (shadowSet s).streamGates g)
        if 256 < n ∨ 16384 < used + n then fail stNoSpace s
        else if cycleConflict l then fail stConflict s
        else ok (streamGateRsp g x) (editShadow (fun c => { c with streamGates := Tbl.set c.streamGates g x {} }) s) }

/-- Whole bytes of Tc and Te of a meter now. -/
def meterTokens (b : Bytes) (m : Nat) (s : State) : Nat × Nat :=
  let x := meterFill b (now s) (meterState m s)
  ((ubits (u32 b 6) - x.cSpent) / 8000000, (ubits (u32 b 14) - x.eSpent) / 8000000)

/-- CMD_METER. -/
def cmdMeter : Cmd :=
  { code := 0x0806, may := mbs [0, 1, 2, 3, 4], lenOk := len 20, sets := .either
    idx := fun r _ => need (decide (u16 r.params 0 < 8192))
    body := fun r s =>
      let q := r.params
      let m := u16 q 0
      let rate (i : Nat) : Nat := min 200000000 (u32 q i)
      let size (i : Nat) : Nat := min 16777215 (u32 q i)
      let b := b1 (u8 q 2 % 16) ++ zeros 1 ++ b4 (rate 4) ++ b4 (size 8) ++ b4 (rate 12) ++ b4 (size 16)
      let t := meterTokens (meterOf (activeSet s) m) m s
      let rsp (b : Bytes) : Bytes := b2 m ++ b ++ b4 t.1 ++ b4 t.2
      if r.target = 0 then ok (rsp (meterOf (activeSet s) m)) s
      else ok (rsp b) (editShadow (fun c => { c with meters := Tbl.set c.meters m b (zeros 18) }) s) }

/-- A counters command over entry counters: `first` table of the group, `k` counters each, `size` entries, at most `cap`
entries a request (CMD_POLICE_COUNTERS, CMD_GW_COUNTERS, CMD_FRER_COUNTERS). -/
def entryCountersRun (first k size cap : Nat) (r : Req) (s : State) : Ans :=
  let q := r.params
  let a := u32 q 4
  let n := min (clamp 1 cap (u16 q 8)) (size - a)
  let keys := (List.range n).flatMap (fun i => (List.range k).map (fun j => (first + j, a + i)))
  let data := b4 a ++ b2 n ++ zeros 2 ++ keys.flatMap (fun e => b8 (entryCounter e.1 e.2 s))
  ok data (if bit q 1 0 then forEach keys (fun e s => clearEntry e.1 e.2 s) s else s)

/-- First counter table, counters an entry and entries of a TABLE of CMD_POLICE_COUNTERS. -/
def policeTable (t : Nat) : Nat × Nat × Nat :=
  if t = 0 then (ecFilter 0, 5, 8192) else if t = 1 then (ecMeter 0, 3, 8192) else (ecGate 0, 2, 1024)

/-- CMD_POLICE_COUNTERS. -/
def cmdPoliceCounters : Cmd :=
  { code := 0x0807, may := fun r => !(bit r.params 1 0 && (r.mb == 1 || r.mb == 3)), lenOk := len 10
    idx := fun r _ => need (decide (u8 r.params 0 < 3) && decide (u32 r.params 4 < (policeTable (u8 r.params 0)).2.2))
    body := fun r s =>
      let t := policeTable (u8 r.params 0)
      entryCountersRun t.1 t.2.1 t.2.2 100 r s }

/-- CMD_POLICE_UNLATCH. -/
def cmdPoliceUnlatch : Cmd :=
  { code := 0x0808, may := mbs [0], lenOk := len 4
    idx := fun r _ =>
      let k := u8 r.params 0
      need (decide (k < 2) && decide (u16 r.params 2 < if k = 0 then 8192 else 1024))
    body := fun r s =>
      let i := u16 r.params 2
      if u8 r.params 0 = 0 then
        if Tbl.get s.flow.blocked i false then
          ok [] { s with flow := { s.flow with blocked := Tbl.set s.flow.blocked i false false } }
        else fail stNotFound s
      else if (sgateState i s).latched then ok [] (setSgate i { sgateState i s with latched := false } s)
      else fail stNotFound s }

/-- Edge queue settings of a channel not set: MBX_QUOTA 8 each, no FIFO queue (R253). -/
def edgeQueues0 : Bytes := [8, 8, 8, 8, 0xFF]
def edgeQueuesOf (c : CfgSet) (ch : Nat) : Bytes := Tbl.get c.edgeQueues ch edgeQueues0

/-- CMD_EDGE_QUEUES. -/
def cmdEdgeQueues : Cmd :=
  { code := 0x0809, may := mbs [0, 1, 2, 3, 4], lenOk := len 8, sets := .either
    idx := fun r _ =>
      let q := r.params
      need (decide (u8 q 0 < 96) && (r.target == 0 || decide (u8 q 5 < 4) || u8 q 5 == 0xFF))
    body := fun r s =>
      let q := r.params
      let ch := u8 q 0
      let b := (List.range 4).flatMap (fun k => b1 (min 32 (u8 q (1 + k)))) ++ b1 (u8 q 5)
      if r.target = 0 then ok (b1 ch ++ edgeQueuesOf (activeSet s) ch ++ zeros 2) s
      else if 32 < sumBy (fun k => u8 b k) (List.range 4) then fail stConflict s
      else ok (b1 ch ++ b ++ zeros 2) (editShadow (fun c => { c with edgeQueues := Tbl.set c.edgeQueues ch b edgeQueues0 }) s) }

def execCmdSchedPort (mb : Nat) (s : State) : Res := .next (runCmd cmdSchedPort mb s)
def execCmdGateList (mb : Nat) (s : State) : Res := .next (runCmd cmdGateList mb s)
def execCmdPreempt (mb : Nat) (s : State) : Res := .next (runCmd cmdPreempt mb s)
def execCmdSchedStatus (mb : Nat) (s : State) : Res := .next (runCmd cmdSchedStatus mb s)
def execCmdStreamFilter (mb : Nat) (s : State) : Res := .next (runCmd cmdStreamFilter mb s)
def execCmdStreamGate (mb : Nat) (s : State) : Res := .next (runCmd cmdStreamGate mb s)
def execCmdMeter (mb : Nat) (s : State) : Res := .next (runCmd cmdMeter mb s)
def execCmdPoliceCounters (mb : Nat) (s : State) : Res := .next (runCmd cmdPoliceCounters mb s)
def execCmdPoliceUnlatch (mb : Nat) (s : State) : Res := .next (runCmd cmdPoliceUnlatch mb s)
def execCmdEdgeQueues (mb : Nat) (s : State) : Res := .next (runCmd cmdEdgeQueues mb s)

end Sys2Proof.Machine
end

