-- ==== Sys2Proof/Machine/Wake.lean ====
section
/-! DEFINITION. Wake detection and the network wake (spec/14, R436 to R438, R441, R443, R445, R453 to R455). A command that
itself shows a detection to Den (a frame accepted or received, a compare unit that fires, an inbound wake bit,
PCIE_PERST_N, CMD_SLEEP_EXIT) detects it at once; WAKE_DETECT stands for every other detection (log entry 35). -/

namespace Sys2Proof.Machine

def edgeChan (n : Nat) (s : State) : EdgeChan := Tbl.get s.edge.ch n {}

def setEdgeChan (n : Nat) (c : EdgeChan) (s : State) : State :=
  { s with edge := { s.edge with ch := Tbl.set s.edge.ch n c {} } }

/-! ### Network coordination -/

def nmBusOf (p : Nat) (s : State) : NmBus := Tbl.get s.sleep.nm.buses p {}

def setNmBus (p : Nat) (b : NmBus) (s : State) : State :=
  { s with sleep := { s.sleep with nm := { s.sleep.nm with buses := Tbl.set s.sleep.nm.buses p b {} } } }

/-- NM buses, by port (R450). -/
def nmBusPorts (s : State) : List Nat := (s.sleep.nm.buses.filter (fun e => e.2.en)).map (·.1)

/-- A change of the network-management state with its notice (R458). -/
def nmState (n : Nat) (s : State) : State :=
  if s.sleep.nm.state = n then s
  else notice 0x0B01 locDev n { s with sleep := { s.sleep with nm := { s.sleep.nm with state := n } } }

/-- A hold on every NM bus (R453, R455); `own` says that the wake was local. -/
def nmHoldAll (own : Bool) (s : State) : State :=
  let s := forEach (nmBusPorts s) (fun p s => setNmBus p { nmBusOf p s with hold := true } s) s
  let s := { s with sleep := { s.sleep with nm := { s.sleep.nm with local_ := own, windowEnd := 0 } } }
  nmState (if (nmBusPorts s).isEmpty then 0 else 1) s

/-- The open window is cancelled (R453). -/
def windowCancel (s : State) : State :=
  if s.sleep.nm.state = 2 then nmHoldAll false (raise 54 1 (count 255 174 s)) else s

/-- An event before the end of the window cancels it (R453). -/
def windowEvent (s : State) : State :=
  if s.sleep.nm.state = 2 ∧ now s < s.sleep.nm.windowEnd then windowCancel s else s

/-- A lane in TC10 sleep is woken (R376, R455). -/
def laneWakeUp (l : Nat) (s : State) : State :=
  if (portsOfLane l).any (fun p => (ethPort p s).state == 3) then
    laneWake l (phyWrite l (phyOf l s).sleepReg (phyOf l s).wakeVal s)
  else s

/-- The wake-up pulse of a LIN master, which the commit took down or which runs (R455; log entry 36). -/
def linPulse (n : Nat) (s : State) : State :=
  let c := edgeChan n s
  if c.mode = 4 ∧ (c.netDown ∨ c.state = 3) then
    emit (.wakeOut (32 + n)) (setEdgeChan n { c with
      state := if c.netDown then 2 else c.state, netDown := false, restart := true, pos := 0, await := none } s)
  else s

/-- A network wake (R455). -/
def networkWake (own : Bool) (s : State) : State :=
  let s := raise 54 3 (nmHoldAll own s)
  let s := { s with sleep := { s.sleep with nm := { s.sleep.nm with
    lanes := [], lins := [], pairWait := false, commitAt := none } } }
  forEach (List.range 15) laneWakeUp (forEach (s.edge.ch.map (·.1)) linPulse s)

/-! ### Detection -/

/-- The source counts: enabled and not muted; EDGE_ACT and EDGE_RX on a channel with EDGE_EN set (R436, R449). -/
def sourceLive (w : Wake) (s : State) : Bool :=
  let z := s.sleep
  z.sourceEn.getLsbD w.source && !z.muted.getLsbD w.source &&
    !((w.source == 25 || w.source == 27) && z.mutedCh.getLsbD w.channel) &&
    !((w.source == 25 || w.source == 29) && !z.edgeEn.getLsbD w.channel)

/-- Sources that have an effect in a sleep state: 1 Roost, 2 Burrow, 3 Hibernate (R436). -/
def wakesFrom (target source : Nat) : Bool :=
  if target = 1 then decide (source ≤ 21) || source == 24 || decide (27 ≤ source) else decide (source ≤ 26)

/-- WAKE_CAUSE and the WAKES counter of a detection (R438). -/
def wakeNote (w : Wake) (s : State) : State :=
  count 255 (180 + w.source)
    { s with sleep := { s.sleep with wakeCause := s.sleep.wakeCause ||| BitVec.ofNat 31 (2 ^ w.source) } }

/-- WAKE_INFO of the detection that starts an exit or aborts an entry (R438). -/
def wakeInfo (w : Wake) (s : State) : State :=
  { s with sleep := { s.sleep with
    infoFirst := w.source
    infoMatcher := if w.source = 26 then w.matcher else 0
    infoChannel := if [25, 26, 27, 29].contains w.source then w.channel else 0xFF
    infoTime := now32 s } }

/-- The device waits in Roost for its pair or for its own host, not for wake sources: standby, fenced, or parked
(R464, R475, R479, R480). -/
def heldInRoost (s : State) : Bool := s.pair.state == 3 || s.pair.state == 5 || s.pair.parked || s.pair.awaiting

/-- An exit from the sleep state in force starts (R438, R445, R447). INH stays low while S4 is under way. -/
def exitStart (w : Wake) (s : State) : State :=
  let z := s.sleep
  let s := wakeInfo w { s with sleep := { z with
    state := 3, unconfirmed := if needsConfirm w then some w else none, railsUp := false
    inhLow := if z.asleep && z.entry == .none then 0 else z.inhLow } }
  if needsConfirm w then s else wakeConfirmed w s

/-- A source that wakes the device from the Roost it is in: a parked device leaves it by CMD_SLEEP_EXIT alone. -/
def wakesRoost (source : Nat) (s : State) : Bool :=
  if heldInRoost s then s.pair.parked && source == 30 else wakesFrom 1 source

/-- DATA of SLEEP_RESULT; `source` is the aborting source or 0x1F (R458). -/
def resultData (source : Nat) (s : State) : Nat := s.sleep.lastResult + 8 * s.sleep.lastTarget + 32 * source

/-- An entry ends without sleep: the device is again where the entry found it (R441, R442). -/
def entryUndo (result : Nat) (s : State) : State :=
  let z := s.sleep
  { s with
    sleep := { z with
      entry := .none, wake := none, before := [], lanes := [], lastResult := result, state := if z.fromRoost then 2 else 0
      gated := z.fromRoost, target := if z.fromRoost then 1 else 0, fromRoost := false }
    pair := { s.pair with owlOff := false } }

/-- A device of a formed pair tells its peer that its entry is abandoned (R479). -/
def pairAbort (s : State) : State :=
  if s.pair.state = 2 ∨ s.pair.state = 3 then
    let (k, s) := takeFresh s
    pairSend 3 (Config.freeFrame k) s
  else s

/-- What follows an abandoned entry of network sleep: the peer is told, and it becomes a network wake (R454, R479). -/
def netUndo (own peer : Bool) (s : State) : State :=
  let s := if peer then pairAbort s else s
  if s.pair.state = 3 then { s with sleep := { s.sleep with net := false } } else networkWake own s

/-- An entry is abandoned at abort point `ap`; source 0x1F stands for the peer's PAIR_SLEEP_ABORT (R441, R479). -/
def sleepAbort (ap : Nat) (w : Wake) (s : State) : State :=
  let z := s.sleep
  let s := raise 53 ap (count 255 171 (entryUndo (1 + ap) s))
  let s := notice 0x0B00 locDev (resultData w.source s) s
  let s := if ap = 3 then forEach z.lanes laneWakeUp s else s
  let s := if z.net then netUndo (w.source != 31) (w.source != 31) s else s
  if z.fromRoost && wakesRoost w.source s then exitStart w s else s

/-- A wake during an entry: the next abort point acts on it, AP1 at once (R441). -/
def wakeEntry (w : Wake) (s : State) : State :=
  if s.sleep.wake.isSome then s
  else
    let s := { s with sleep := { s.sleep with wake := some w } }
    let s := if w.source = 31 then s else wakeInfo w s
    if s.sleep.entry = .drain ∧ now s < s.sleep.entryAt + 10000 then sleepAbort 1 w s else s

/-- A detection (R436, R438, R441, R443, R445, R453, R454). -/
def wake (w : Wake) (s : State) : State :=
  let z := s.sleep
  if !sourceLive w s then s
  else if z.state = 3 then wakeNote w s
  else if z.entry = .drain ∨ z.entry = .save then
    if wakesFrom z.target w.source ∨ w.source = 30 then wakeEntry w (wakeNote w s) else s
  else if z.asleep ∨ z.entry = .off then
    if wakesFrom z.target w.source then exitStart w (wakeNote w s) else s
  else if z.state = 2 then
    if wakesRoost w.source s then exitStart w (wakeNote w s)
    else if wakesFrom 1 w.source then wakeNote w s else s
  else if w.source ≤ 26 then
    if z.nm.state = 2 ∧ now s < z.nm.windowEnd then windowCancel (wakeNote w s)
    else if z.nm.state = 2 ∨ z.nm.state = 3 ∨ z.nm.commitAt.isSome then networkWake true (wakeNote w s)
    else s
  else s

/-- The node that an NM frame of a port names, as far as the frame itself shows it: an edge frame by its identifier, an
Ethernet frame by IPv4 and UDP behind at most one C-tag (R450). -/
def nmNode (p : Nat) (edge : Bool) (b : Bytes) (s : State) : Option Nat :=
  let x := nmBusOf p s
  if !x.en then none
  else if edge then
    let k := ehKind b
    let id := if k = 5 then ehIdent b % 2048 else ehIdent b % 536870912
    if (k = 1 ∨ k = 2 ∨ k = 3 ∨ k = 5) ∧ x.idLo ≤ id ∧ id ≤ x.idHi ∧ (k = 5 ∨ (ehIdent b).testBit 31 = x.ide) then
      some (u8 b (16 + x.nodePos)) else none
  else
    let e := if beN b 12 2 = 0x8100 then 18 else 14
    let h := 4 * (u8 b e % 16)
    let port := beN b (e + h + 2) 2
    if beN b (e - 2) 2 = 0x0800 ∧ u8 b (e + 9) = 17 ∧ x.idLo ≤ port ∧ port ≤ x.idHi then some (u8 b (e + h + 8 + x.nodePos)) else none

/-- The frame is an NM frame of a suppressed node, which confirms no wake (R448, R456). -/
def fromSuppressed (p : Nat) (edge : Bool) (b : Bytes) (s : State) : Bool :=
  match nmNode p edge b s with
  | some n => s.sleep.nm.log.any (fun e => e.2.valid && e.2.suppressed && e.2.port == p && e.2.node == n)
  | none => false

/-- An edge frame that the acceptance filter accepts, as Den sees it: EDGE_RX in Roost; during an entry into Burrow or
Hibernate EDGE_ACT (R436, R443). -/
def wakeEdge (ch : Nat) (quiet : Bool) (s : State) : State :=
  let s := if quiet then s else confirmChannel ch s
  if s.sleep.state = 2 ∧ !s.sleep.asleep then wake { source := 29, channel := ch } s
  else if s.sleep.entry ≠ .none ∧ s.sleep.target ≠ 1 then wake { source := 25, channel := ch } s
  else s

/-- A frame received on a port that is UP (R436, R448). -/
def wakeEth (p : Nat) (b : Bytes) (s : State) : State :=
  let s := if fromSuppressed p false b s then s else confirmLane (laneNo p) s
  if p ≠ 129 then wake { source := 28 } s else s

/-! ### Selective-wake matchers (R437, R443) -/

/-- A classical data frame on a channel satisfies a matcher. -/
def matcherHit (m : Matcher) (ch : Nat) (ide rtr : Bool) (id dlc : Nat) (data : Bytes) : Bool :=
  m.flags.testBit 0 && m.channel == ch && !rtr && (m.flags.testBit 1 == ide) &&
    (id &&& m.idMask) == (m.id &&& m.idMask) && (m.dlc == 0xFF || m.dlc == dlc) &&
    (!m.flags.testBit 2 || (List.range 8).all (fun i =>
      let k := u8 m.dataMask i
      if i < data.length then (u8 data i &&& k) == (u8 m.data i &&& k) else k == 0))

/-- The first matcher that a frame satisfies. -/
def matcherOf (ch : Nat) (ide rtr : Bool) (id dlc : Nat) (data : Bytes) (s : State) : Option Nat :=
  (List.range 8).find? (fun i => matcherHit (Tbl.get s.sleep.matchers i {}) ch ide rtr id dlc data)

end Sys2Proof.Machine
end

