-- ==== Sys2Proof/Machine/Edge.lean ====
section
/-! DEFINITION. Edge channels: states, retirement, reception, CAN, LIN, FlexRay and 10BASE-T1S transmission, the
transceiver mode chain (spec/10, R294 to R327; spec/08, R253 and R254). -/

namespace Sys2Proof.Machine

/-! ### Channels, clusters, counters -/

def edgeCl (m : Nat) (s : State) : EdgeCluster := Tbl.get s.edge.cl m {}

def setEdgeCl (m : Nat) (c : EdgeCluster) (s : State) : State :=
  { s with edge := { s.edge with cl := Tbl.set s.edge.cl m c {} } }

def frCtl (f : Nat) (s : State) : FrCtl := Tbl.get s.edge.fr f {}

def setFrCtl (f : Nat) (c : FrCtl) (s : State) : State :=
  { s with edge := { s.edge with fr := Tbl.set s.edge.fr f c {} } }

/-- Location code of a channel (R319, R326). -/
def chanLoc (n : Nat) : Nat := locPort (32 + n) noIdx

/-- A cause of EV(46 + m) with its record (R326). -/
def edgeEv (n b : Nat) (s : State) : State :=
  let ev := 46 + n / 16
  trace 1 ev b (chanLoc n) (raise ev b s)

/-- Count a channel counter (R325). -/
def countEdge (n i : Nat) (s : State) : State := count (32 + n) i s

/-- Channels that share a controller with channel `n`: both of a FlexRay pair, else itself (R295). -/
def partners (n : Nat) (s : State) : List Nat :=
  let m := (edgeChan n s).mode
  if m = 7 then [n, n + 1] else if m = 8 then [n - 1, n] else [n]

def isFr (m : Nat) : Bool := m == 7 || m == 8
def isLin (m : Nat) : Bool := m == 4 || m == 5
def isCan (m : Nat) : Bool := decide (1 ≤ m) && decide (m ≤ 3)

/-- An entry of the cluster's error FIFO (R327). -/
def edgeErr (n kind : Nat) (dataPhase sending : Bool) (s : State) : State :=
  let c := edgeChan n s
  let cl := edgeCl (n / 16) s
  if 32 ≤ cl.errs.length then count 255 (161 + n / 16) s
  else setEdgeCl (n / 16) { cl with errs := cl.errs ++ [{ chan := n % 16, kind := kind, dataPhase := dataPhase, sending := sending,
                                                          tec := min 255 c.tec, rec_ := min 255 c.rec_, time := now32 s }] } s

/-! ### States (R297, R298, R319) -/

/-- Copies that the controller of a channel holds: mailboxes and FIFO, LIN publish slots, and FlexRay transmit buffers,
which the even channel of the pair holds (R298, CMD_EDGE_STATUS). -/
def heldCount (n : Nat) (s : State) : Nat :=
  let c := edgeChan n s
  c.held.length + c.slots.length + (if c.mode = 7 then sumBy (fun e => e.2.length) (frCtl (n / 2) s).tx else 0)

/-- A held copy that the Vat queue gave and that is dropped over age (R254). -/
def dropAged (n : Nat) (x : EdgeCopy) (s : State) : State := raise 73 0 (count (32 + n) (256 + 4 * x.k + 2) s)

/-- Drop every held copy (R298). -/
def flushHeld (n : Nat) (s : State) : State :=
  let c := edgeChan n s
  let s := countN (32 + n) 12 (heldCount n s) s
  let s := setEdgeChan n { c with held := [], tx := none, slots := [] } s
  if c.mode = 7 then setFrCtl (n / 2) { frCtl (n / 2) s with tx := [] } s else s

/-- One channel takes a state. -/
def chanSet (st n : Nat) (s : State) : State :=
  let s := if st = 0 ∨ st = 1 ∨ st = 6 then flushHeld n s else s
  let c := edgeChan n s
  let c := { c with
    state := st, pwrOn := if c.state = 0 then now s else c.pwrOn, tx := if st = 3 then c.tx else none
    await := none, resume := none, beacon := st == 3, netDown := false, restart := false }
  let s := setEdgeChan n c s
  if c.mode = 7 then
    setFrCtl (n / 2) { frCtl (n / 2) s with poc := match st with
      | 2 => 4
      | 3 => 5
      | 4 => 5
      | _ => 2 } s
  else s

/-- A channel and its FlexRay partner take a state. -/
def chanState (n st : Nat) (s : State) : State := forEach (partners n s) (chanSet st) s

/-- Retire a channel, or both of a FlexRay pair (R319). -/
def retireChan (n : Nat) (s : State) : State :=
  forEach (partners n s) (fun k s => unitRetired (46 + k / 16) (k % 16) (chanLoc k) (chanSet 6 k s)) s

/-- A retiring fault: it retires the channel when it is the `lim`-th within 60 s (R318). True when it did. -/
def chanFault (n lim : Nat) (s : State) : Bool × State :=
  let c := edgeChan n s
  let ts := faultsNow c.faults 60000000000 s
  let s := setEdgeChan n { c with faults := ts, lastFault := now32 s } s
  if lim ≤ ts.length then (true, retireChan n s) else (false, s)

/-! ### Reception (R299 to R301) -/

/-- The acceptance filter of a set (R300). -/
def accEntry (c : CfgSet) (n i : Nat) : Bytes := Tbl.get c.acceptance (64 * n + i) (zeros 12)

/-- An entry matches a frame. -/
def accHit (e b : Bytes) : Bool :=
  let ide := match ehKind b with
    | 1 => (ehIdent b).testBit 31
    | 2 => (ehIdent b).testBit 31
    | _ => false
  let m := u32 e 8
  bit e 0 0 && (edgeId b &&& m) == (u32 e 4 &&& m) && (!bit e 0 3 || bit e 0 2 == ide) && (!bit e 0 4 || u8 e 1 == u8 b 11)

/-- Whether the filter of a set lets a frame in (R300). -/
def accepted (c : CfgSet) (n : Nat) (dflt : Bool) (b : Bytes) : Bool :=
  match ((List.range 64).map (accEntry c n)).find? (fun e => accHit e b) with
  | some e => bit e 0 1
  | none => dflt

/-- The filter of the active set lets a delivered frame of a channel in; a T1S channel has none. -/
def acceptedNow (n : Nat) (f : Frame) (s : State) : Bool :=
  !f.edge || accepted (activeSet s) n ((edgeChan n s).flags.testBit 1) f.bytes

/-- The edge header (R139). -/
def edgeHeader (chan kind tb flags ctrl ident len prio vcid ts : Nat) : Bytes :=
  b1 chan ++ b1 (32 * kind + 4 * tb) ++ b1 flags ++ b1 ctrl ++ be 4 ident ++ be 3 (4096 * len + prio) ++ b1 vcid ++ be 4 ts

/-- A reading of each time base `ago` ns before now (R277, R279); a disabled one reads zero. -/
def tbAgo (ago : Nat) (s : State) : List Nat :=
  (List.range 6).map (fun n => if tbEnabled n s then (tbNow n s + 18446744073709551616 - ago % 18446744073709551616) % 18446744073709551616 else 0)

/-- Error-passive after a change of the error counters (R305, R326). -/
def passiveCheck (n : Nat) (s : State) : State :=
  let c := edgeChan n s
  let p := decide (127 < c.tec) || decide (127 < c.rec_)
  let s := setEdgeChan n { c with passive := p } s
  if p && !c.passive then edgeEv n 17 (countEdge n 10 s) else s

/-- Bytes waiting in the receive FIFO. -/
def rxFill (c : EdgeChan) : Nat := sumBy (fun f => f.bytes.length) c.rx

/-- A delivered frame goes into the receive FIFO of 4 KiB, and Den sees it while the device sleeps or enters sleep
(R301, R436, R443). -/
def rxStore (n : Nat) (f : Frame) (s : State) : State :=
  let c := edgeChan n s
  if 4096 < rxFill c + f.bytes.length then edgeEv n 20 (countEdge n 5 s)
  else
    let s := setEdgeChan n { c with rx := c.rx ++ [f] } s
    if s.sleep.state ≠ 2 ∧ s.sleep.entry = .none then s
    else
      let s := if acceptedNow n f s then wakeEdge n (fromSuppressed (32 + n) f.edge f.bytes s) s else s
      if f.edge ∧ ehKind f.bytes = 1 ∧ s.sleep.entry ≠ .none then
        let id := ehIdent f.bytes
        match matcherOf n (id.testBit 31) ((ehFlags f.bytes).testBit 0) (id % 536870912) (ehCtrl f.bytes) (f.bytes.drop 16) s with
        | some i => wake { source := 26, matcher := i, channel := n } s
        | none => s
      else s

/-- A collision in the response of an event-triggered frame starts its collision table (R311). -/
def linCollide (n t : Nat) (s : State) : State :=
  let s := countEdge n 18 s
  let c := edgeChan n s
  setEdgeChan n { c with await := none, resume := some (c.table, c.pos), table := t, pos := 0 } s

/-- A frame in error: it is counted and never enters the Vat (R299, R305, R311, R327). -/
def rxError (n err : Nat) (s : State) : State :=
  let s := countEdge n 6 s
  let c := edgeChan n s
  if isCan c.mode then
    let s := if c.state = 3 then setEdgeChan n { c with rec_ := c.rec_ + 1 } s else s
    edgeErr n err false false (passiveCheck n s)
  else if isLin c.mode then
    match c.await with
    | some (_, some t) => edgeErr n err false false (linCollide n t s)
    | _ => edgeErr n err false false (countEdge n 15 (setEdgeChan n { c with await := none } s))
  else if isFr c.mode then edgeErr n err false false s
  else s

/-- A FlexRay receive buffer of the controller takes a frame of a slot and cycle on a channel (R314). -/
def frBufHit (w : Nat) (send : Bool) (slot : Nat) (cycle : Option Nat) (odd : Bool) : Bool :=
  let rep := if bits w 22 17 = 0 then 64 else bits w 22 17
  w.testBit 25 == send && decide (bits w 10 0 = slot) && w.testBit (if odd then 24 else 23) &&
    (match cycle with
     | some c => decide (c % rep = bits w 16 11 % rep)
     | none => true)

/-- The go-to-sleep frame of R454. -/
def goToSleep (ident : Nat) (data : Bytes) : Bool := ident == 0x3C && data == (0 :: List.replicate 7 0xFF)

/-- Whether a controller delivers a good frame: its kind is one the mode receives; a LIN response is one awaited from a
subscribed identifier; a FlexRay frame has a receive buffer, and a null frame is asked for (R294, R299, R311, R314). -/
def delivers (n kind flags ctrl ident : Nat) (s : State) : Bool :=
  let c := edgeChan n s
  if c.mode = 6 then kind == 0
  else if !modeReceives c.mode kind then false
  else if isLin c.mode then
    (c.await.map (·.1) == some ident) && Tbl.get c.ids ident 0 % 4 == 1
  else if isFr c.mode then
    (frCtl (n / 2) s).bufs.any (fun w =>
      frBufHit w false ident (some (ctrl % 64)) (c.mode == 8) && (!flags.testBit 0 || w.testBit 26))
  else true

/-- EDGE_FRAME_RECEIVE: a frame that began `ago` ns ago ends; `err` is 0 for a good frame, else its KIND of R327.
`kind` 0 is an Ethernet frame of a T1S channel. -/
def execEdgeFrameReceive (chan kind flags ctrl ident prio vcid : Nat) (data : Bytes) (ago err : Nat) (s : State) : Res :=
  let c := edgeChan chan s
  if (c.state ≠ 3 ∧ c.state ≠ 4) ∨ s.sleep.asleep ∨ s.pair.state = 5 then .next s
  else if err ≠ 0 then .next (rxError chan err s)
  else if c.mode = 5 ∧ goToSleep ident data ∧ s.sleep.nm.state = 3 then
    let s := setEdgeChan chan { edgeChan chan (chanState chan 1 s) with netDown := true } (chanState chan 1 s)
    .next { s with sleep := { s.sleep with nm := { s.sleep.nm with lins := s.sleep.nm.lins.filter (· != chan) } } }
  else if isCan c.mode ∧ !modeReceives c.mode kind then .next (countEdge chan 6 s)
  else if !delivers chan kind flags ctrl ident s then .next s
  else
    let ts := tbAgo ago s
    let f : Frame :=
      if c.mode = 6 then { bytes := data, port := 32 + chan, kind := 6, ts := ts }
      else
        { bytes := edgeHeader chan kind c.tsTb flags ctrl ident data.length prio vcid (ts.getD c.tsTb 0 % 4294967296) ++ data
          port := 32 + chan, edge := true, kind := kind, ts := ts }
    let s := countN (32 + chan) 1 data.length (countEdge chan 0 s)
    let s := if isLin c.mode then setEdgeChan chan { edgeChan chan s with await := none } s else s
    let s := if isCan c.mode ∧ c.state = 3 then
        let (k, s) := takeFresh s
        -- ISO 11898-1: a counter above 127 returns to a value of 119 to 127 (log entry 21)
        let r := if 127 < c.rec_ then 119 + Config.freeNat k % 9 else c.rec_ - 1
        passiveCheck chan (setEdgeChan chan { edgeChan chan s with rec_ := r } s)
      else s
    .next (rxStore chan f s)

/-- EDGE_FRAME_TO_VAT: the first frame of the receive FIFO is judged by the filter of the active set, stamped with the
same set, and enters the Vat (R13, R300, R301). -/
def execEdgeFrameToVat (chan : Nat) (s : State) : Res :=
  let c := edgeChan chan s
  match c.rx with
  | [] => .next s
  | f :: rest =>
    if s.sleep.gated ∨ s.sleep.asleep then .next s
    else
      let s := setEdgeChan chan { c with rx := rest } s
      if !acceptedNow chan f s then .next (countEdge chan 4 s)
      else match stageFrame { f with gen := s.sets.gen } true (if fromSuppressed (32 + chan) f.edge f.bytes s then s else confirmChannel chan s) with
        | (some fid, s) => .next (commitFrame fid s)
        | (none, s) => .next s

/-- EDGE_INTEGRATION_COMPLETE (R297). A FlexRay pair joins as one. -/
def execEdgeIntegrationComplete (chan : Nat) (s : State) : Res :=
  let c := edgeChan chan s
  if c.state = 2 ∧ c.mode ≠ 8 then .next (chanState chan (if c.listen then 4 else 3) s) else .next s

/-! ### Into the controller (R253, R254, R306, R310, R314) -/

/-- LENGTH of a copy fits its kind and DLC (R141, R306). -/
def copyFits (b : Bytes) : Bool :=
  let n := ehLength b
  decide (b.length = 16 + n) && (match ehKind b with
    | 1 => n == (if (ehFlags b).testBit 0 then 0 else min (ehCtrl b) 8)
    | 2 => n == fdLength (ehCtrl b)
    | 3 => decide (1 ≤ n)
    | _ => true)

/-- CAN identifier of a copy, its format included. -/
def canId (b : Bytes) : Nat :=
  if ehKind b = 3 then ehPrioId b
  else if (ehIdent b).testBit 31 then 0x80000000 + ehIdent b % 536870912 else ehIdent b % 2048

/-- Where the identifier stands in arbitration: the lower wins (ISO 11898-1). -/
def arbKey (b : Bytes) : Nat :=
  let id := canId b
  let rtr := b2n ((ehKind b == 1 && (ehFlags b).testBit 0) || (ehKind b == 3 && (ehFlags b).testBit 0))
  if id.testBit 31 then bits id 28 18 * 2097152 + 1572864 + bits id 17 0 * 2 + rtr else id * 2097152 + rtr * 1048576

/-- The launch window of a copy has ended, or its time base is not enabled (R308). -/
def windowOver (c : EdgeChan) (x : EdgeCopy) (s : State) : Bool :=
  match x.launch with
  | some (tb, t) => !tbEnabled tb s || decide (t + c.ltWindow.getD x.k 0 ≤ tbNow tb s)
  | none => false

/-- An instant after the launch window of a copy: no attempt begins (R308, log entry 108). -/
def windowPast (c : EdgeChan) (x : EdgeCopy) (s : State) : Bool :=
  match x.launch with
  | some (tb, t) => !tbEnabled tb s || decide (t + c.ltWindow.getD x.k 0 < tbNow tb s)
  | none => false

/-- The copy may take part in arbitration (R308). -/
def launched (x : EdgeCopy) (s : State) : Bool :=
  match x.launch with
  | some (tb, t) => tbEnabled tb s && decide (t ≤ tbNow tb s)
  | none => true

/-- A copy dropped late (R308). -/
def lateEdge (n : Nat) (s : State) : State := raise 80 1 (countEdge n 11 s)

/-- The copy at the head of an edge queue as the controller would take it. -/
def edgeHead (n k : Nat) (s : State) : Option EdgeCopy :=
  let q := 256 + 4 * n + k
  match copiesOf q s with
  | [] => none
  | x :: _ => match frameOf x.fid s with
    | some v => if v.ended then
        some { k := k, bytes := copyBytes x s, edge := v.frame.edge, launch := x.launch, enq := x.enq, maxRes := queueMaxRes q s }
      else none
    | none => none

/-- Take the head of an edge queue off the Vat, with its egress sample (R193, R254). -/
def takeHead (n k : Nat) (s : State) : State :=
  let q := 256 + 4 * n + k
  match copiesOf q s with
  | x :: _ => dropHead q (foxEgress (32 + n) x s)
  | [] => s

/-- The FlexRay transmit buffer that a copy of slot `slot` on channel `n` takes. -/
def frTxBuf (n slot : Nat) (s : State) : Option Nat :=
  let f := frCtl (n / 2) s
  (List.range f.bufs.length).find? (fun i => frBufHit (f.bufs.getD i 0) true slot none ((edgeChan n s).mode == 8))

/-- gNumberOfStaticSlots. -/
def frStatic (f : FrCtl) : Nat := u16 f.block 6

/-- A copy that the controller of channel `n` has taken (R253, R306, R308, R310, R314). -/
def ctlTake (n : Nat) (x : EdgeCopy) (s : State) : State :=
  let c := edgeChan n s
  let b := x.bytes
  let reject (s : State) : State := countEdge n 13 s
  if isCan c.mode then
    if !x.edge ∨ !modeReceives c.mode (ehKind b) ∨ !copyFits b then reject s
    else if windowPast c x s then lateEdge n s
    else setEdgeChan n { c with held := c.held ++ [x] } s
  else if isLin c.mode then
    let id := ehIdent b % 64
    let e := Tbl.get c.ids id 0
    if !x.edge ∨ ehKind b ≠ 4 ∨ e % 4 ≠ 2 ∨ ehLength b ≠ bits e 5 2 + 1 ∨ b.length ≠ 16 + ehLength b then reject s
    else
      let s := if (Tbl.find c.slots id).isSome then countEdge n 19 s else s
      setEdgeChan n { c with slots := Tbl.insert c.slots id { data := b.drop 16, fresh := true } } s
  else if isFr c.mode then
    let slot := ehIdent b % 2048
    let f := frCtl (n / 2) s
    if !x.edge ∨ ehKind b ≠ 5 then reject s
    else match frTxBuf n slot s with
      | none => reject s
      | some i =>
        let held := Tbl.get f.tx i []
        if slot ≤ frStatic f then setFrCtl (n / 2) { f with tx := Tbl.set f.tx i [x] [] } s
        else if 4 ≤ held.length then reject s
        else setFrCtl (n / 2) { f with tx := Tbl.set f.tx i (held ++ [x]) [] } s
  else reject s

/-- A mailbox is free for the head of queue `k`: the quota, the 32 mailboxes, and no copy of the identifier (R253). -/
def mbxFree (c : EdgeChan) (quota k : Nat) (x : EdgeCopy) : Bool :=
  let m := c.held.filter (fun y => !y.fifo)
  decide (countIf (fun y => decide (y.k = k)) m < quota) && decide (m.length < 32) &&
    !(x.edge && m.any (fun y => canId y.bytes == canId x.bytes))

/-- Whether queue `k` may hand its head to the controller now. -/
def mayTransfer (n k : Nat) (s : State) : Option EdgeCopy :=
  let c := edgeChan n s
  let q := edgeQueuesOf (activeSet s) n
  match edgeHead n k s with
  | none => none
  | some x =>
    if !isCan c.mode then some x
    else if u8 q 4 = k then
      if countIf (·.fifo) c.held < 64 then some { x with fifo := true } else none
    else if mbxFree c (u8 q k) k x then some x else none

/-- EDGE_QUEUE_TRANSFER: one copy from the queues of a channel that is ACTIVE or on its way to it (INTEGRATING, BUS_OFF),
from queue 3 down (R253, R254, R305, log entry 109). A T1S
channel takes its copies at its transmit opportunities (R317). -/
def execEdgeQueueTransfer (chan : Nat) (s : State) : Res :=
  let c := edgeChan chan s
  if (c.state ≠ 2 ∧ c.state ≠ 3 ∧ c.state ≠ 5) ∨ c.mode = 6 ∨ !forwards s ∨ halted (32 + chan) s then .next s
  else
    let s := forEach [3, 2, 1, 0] (fun k s => dropBad (256 + 4 * chan + k) (ageQueue (256 + 4 * chan + k) s)) s
    match [3, 2, 1, 0].findSome? (fun k => (mayTransfer chan k s).map (fun x => (k, x))) with
    | none => .next s
    | some (k, x) => .next (ctlTake chan x (takeHead chan k s))

/-! ### CAN transmission (R305 to R309) -/

/-- Whether the controller must drop a held copy before its transmission starts, and how: aged or late (R254, R308). -/
def ctlExpired (c : EdgeChan) (x : EdgeCopy) (s : State) : Bool × Bool :=
  (decide (0 < x.maxRes) && decide (x.maxRes * 1000 < (now32 s + 4294967296 - x.enq) % 4294967296), windowPast c x s)

/-- Drop the held copies that are over age or late, but for the one on the bus. -/
def ctlSweep (n : Nat) (late : EdgeCopy → Bool) (aged : Bool) (s : State) : State :=
  let c := edgeChan n s
  let out (x : EdgeCopy) : Bool := c.tx != some x && ((aged && (ctlExpired c x s).1) || late x)
  let gone := c.held.filter out
  let s := setEdgeChan n { c with held := c.held.filter (fun x => !out x) } s
  forEach gone (fun x s => if aged && (ctlExpired c x s).1 then dropAged n x s else lateEdge n s) s

/-- The copies that take part in arbitration now: mailboxes, and the FIFO's head (R253, R308). -/
def contenders (c : EdgeChan) (s : State) : List EdgeCopy :=
  ((c.held.filter (fun x => !x.fifo)) ++ ((c.held.filter (·.fifo)).take 1)).filter (fun x => launched x s)

/-- The lowest identifier among the contenders; which of two equal ones is open (log entry 37). -/
def arbWinner (flip : Bool) : List EdgeCopy → Option EdgeCopy
  | [] => none
  | x :: rest => match arbWinner flip rest with
    | none => some x
    | some y =>
      if arbKey x.bytes < arbKey y.bytes ∨ (arbKey x.bytes = arbKey y.bytes ∧ !flip) then some x else some y

/-- CAN_TX_ATTEMPT: a start of frame is sent for the lowest identifier (R253, R308, R309). -/
def execCanTxAttempt (chan : Nat) (s : State) : Res :=
  let c := edgeChan chan s
  if !isCan c.mode ∨ c.state ≠ 3 ∨ c.tx.isSome ∨ s.sleep.asleep then .next s
  else
    let s := ctlSweep chan (fun x => windowPast c x s) true s
    let c := edgeChan chan s
    let (k, s) := takeFresh s
    .next (setEdgeChan chan { c with tx := arbWinner (Config.freeNat k % 2 == 1) (contenders c s) } s)

/-- Remove one held copy. -/
def removeHeld (x : EdgeCopy) (l : List EdgeCopy) : List EdgeCopy := l.erase x

/-- Bus-off (R305, R318): the third within 60 s retires the channel. -/
def busOff (n : Nat) (s : State) : State :=
  let s := edgeEv n 16 (countEdge n 9 s)
  let (gone, s) := chanFault n 3 s
  if gone then s else chanSet 5 n s

/-- CAN_TX_ATTEMPT_END: 0 success, 1 arbitration lost, 2 an error of KIND `kind` (R305, R307, R308). -/
def execCanTxAttemptEnd (chan result kind : Nat) (dataPhase : Bool) (s : State) : Res :=
  let c := edgeChan chan s
  match c.tx with
  | none => .next s
  | some x =>
    if result = 0 then
      let b := if ehKind x.bytes = 2 then setByte x.bytes 2 (ehFlags x.bytes % 4 + 4 * b2n c.passive) else x.bytes
      let s := emit (.bus chan b) (countN (32 + chan) 3 (ehLength b) (countEdge chan 2 s))
      .next (passiveCheck chan (setEdgeChan chan { c with tx := none, held := removeHeld x c.held, tec := c.tec - 1 } s))
    else
      let s := setEdgeChan chan { c with tx := none } s
      let s := if result = 1 then countEdge chan 8 s
        else
          -- ISO 11898-1: eight more, but for an acknowledge error while error-passive (log entry 21)
          let t := if kind = 5 ∧ c.passive then c.tec else c.tec + 8
          let s := setEdgeChan chan { edgeChan chan s with tec := t } (countEdge chan 7 s)
          edgeErr chan kind dataPhase true (passiveCheck chan s)
      let s := if windowOver c x s then
          lateEdge chan (setEdgeChan chan { edgeChan chan s with held := removeHeld x (edgeChan chan s).held } s)
        else s
      .next (if 256 ≤ (edgeChan chan s).tec then busOff chan s else s)

/-- BUS_OFF_RECOVERY (R305). -/
def busOn (n : Nat) (s : State) : State :=
  chanSet 3 n (setEdgeChan n { edgeChan n s with tec := 0, rec_ := 0, passive := false } s)

def execBusOffRecovery (chan : Nat) (s : State) : Res :=
  let c := edgeChan chan s
  if c.state = 5 ∧ c.flags.testBit 0 then .next (busOn chan s) else .next s

/-- The heads of a T1S channel's queues that are late are dropped (R317). -/
def t1sLate (n : Nat) (late : EdgeCopy → Bool) (s : State) : State :=
  forEach [3, 2, 1, 0] (fun k s =>
    match edgeHead n k s with
    | some x => if late x then lateEdge n (dropHead (256 + 4 * n + k) s) else s
    | none => s) s

/-- LT_WINDOW_EXPIRY: unsent copies whose window has ended are dropped (R308, R317). -/
def execLtWindowExpiry (chan : Nat) (s : State) : Res :=
  let late (x : EdgeCopy) : Bool := windowOver (edgeChan chan s) x s
  if (edgeChan chan s).mode = 6 then .next (t1sLate chan late s) else .next (ctlSweep chan late false s)

/-! ### LIN (R310 to R312, R318) -/

/-- A response leaves a publish slot. -/
def linSend (n ident : Nat) (s : State) : State :=
  let c := edgeChan n s
  let d := (Tbl.get c.slots ident {}).data
  emit (.bus n d) (countN (32 + n) 3 d.length (countEdge n 2
    (setEdgeChan n { c with slots := Tbl.insert c.slots ident { data := d, fresh := false } } s)))

def linHeader (n ident : Nat) (s : State) : State := emit (.linHeader n ident) s

/-- Await the response of an identifier. -/
def linAwait (n ident : Nat) (t : Option Nat) (s : State) : State :=
  setEdgeChan n { edgeChan n s with await := some (ident, t) } s

/-- The slot of a schedule entry (R311). -/
def linSlot (n e : Nat) (s : State) : State :=
  let c := edgeChan n s
  let id := bits e 5 0
  let dir := Tbl.get c.ids id 0 % 4
  let full := (Tbl.find c.slots id).isSome
  match bits e 7 6 with
  | 0 =>
    let s := linHeader n id s
    if dir = 2 then (if full then linSend n id s else countEdge n 16 s)
    else if dir = 1 then linAwait n id none s else s
  | 1 => linAwait n id (some (bits e 10 8)) (linHeader n id s)
  | 2 => if (Tbl.get c.slots id {}).fresh then linSend n id (linHeader n id s) else s
  | _ =>
    if id = 0x3C then
      if full then
        let s := linSend n id (linHeader n id s)
        setEdgeChan n { edgeChan n s with slots := Tbl.erase (edgeChan n s).slots id } s
      else s
    else
      let s := linHeader n id s
      if dir = 1 then linAwait n id none s else s

/-- The schedule entry of this slot, with the position after it: a collision table ends into the original table (R311). -/
def linNext (c : EdgeChan) : Option Nat × EdgeChan :=
  let c := match c.select with
    | some t => { c with select := none, table := t, pos := 0, resume := none }
    | none => c
  let t := Tbl.get c.tables c.table []
  match c.resume with
  | some (t0, p0) =>
    if t.length ≤ c.pos then
      let t' := Tbl.get c.tables t0 []
      (t'[p0 % max 1 t'.length]?, { c with table := t0, pos := (p0 + 1) % max 1 t'.length, resume := none })
    else (t[c.pos]?, { c with pos := c.pos + 1 })
  | none => (t[c.pos % max 1 t.length]?, { c with pos := (c.pos + 1) % max 1 t.length })

/-- LIN_SLOT_START: a master that is ACTIVE starts a slot (R297, R311). -/
def execLinSlotStart (chan : Nat) (s : State) : Res :=
  let c := edgeChan chan s
  if c.mode ≠ 4 ∨ c.state ≠ 3 ∨ s.sleep.asleep then .next s
  else
    let (e, c) := linNext { c with await := none, restart := false }
    let s := setEdgeChan chan c s
    match e with
    | some e => .next (linSlot chan e s)
    | none => .next s

/-- LIN_RESPONSE_TIMEOUT (R311). -/
def execLinResponseTimeout (chan : Nat) (s : State) : Res :=
  let c := edgeChan chan s
  if isLin c.mode ∧ c.await.isSome then
    .next (edgeErr chan 7 false false (countEdge chan 14 (setEdgeChan chan { c with await := none } s)))
  else .next s

/-- LIN_HEADER_RECEIVE: a slave sees a header; `good` is false for an error in the sync field (R312). -/
def execLinHeaderReceive (chan ident : Nat) (good : Bool) (s : State) : Res :=
  let c := edgeChan chan s
  if c.mode ≠ 5 ∨ (c.state ≠ 3 ∧ c.state ≠ 4) ∨ s.sleep.asleep then .next s
  else if !good then .next (edgeErr chan 8 false false (countEdge chan 17 s))
  else match Tbl.get c.ids ident 0 % 4 with
    | 1 => .next (linAwait chan ident none s)
    | 2 => if c.state = 3 ∧ (Tbl.find c.slots ident).isSome then .next (linSend chan ident s) else .next s
    | _ => .next s

/-- LIN_STUCK_DOMINANT (R318). -/
def execLinStuckDominant (chan : Nat) (s : State) : Res :=
  let c := edgeChan chan s
  if isLin c.mode ∧ c.state ≠ 0 ∧ c.state ≠ 6 then .next (chanFault chan 1 (edgeEv chan 21 s)).2 else .next s

/-! ### FlexRay (R314, R315) -/

/-- Channels that a buffer sends on. -/
def frChans (f w : Nat) : List Nat :=
  (if w.testBit 23 then [2 * f] else []) ++ (if w.testBit 24 then [2 * f + 1] else [])

/-- A transmit buffer sends in its slot (R314). -/
def frSend (f i slot : Nat) (s : State) : State :=
  let c := frCtl f s
  let ch := frChans f (c.bufs.getD i 0)
  match Tbl.get c.tx i [] with
  | x :: rest =>
    let s := if frStatic c < slot then setFrCtl f { c with tx := Tbl.set c.tx i rest [] } s else s
    forEach ch (fun n s => emit (.bus n x.bytes) (countN (32 + n) 3 (x.bytes.length - 16) (countEdge n 2 s))) s
  | [] => if slot ≤ frStatic c then forEach ch (fun n s => countEdge n 22 s) s else s

/-- FR_SLOT: the transmit buffers of a slot and cycle (R314). -/
def execFrSlot (ctl slot cycle : Nat) (s : State) : Res :=
  let c := frCtl ctl s
  if (edgeChan (2 * ctl) s).mode ≠ 7 ∨ (edgeChan (2 * ctl) s).state ≠ 3 ∨ c.poc ≠ 5 ∨ s.sleep.asleep then .next s
  else
    let hit (i : Nat) : Bool := let w := c.bufs.getD i 0
      frBufHit w true slot (some cycle) false || frBufHit w true slot (some cycle) true
    .next (forEach ((List.range c.bufs.length).filter hit) (fun i s => frSend ctl i slot s) s)

/-- FR_POC_CHANGE (R315, R318): NORMAL_PASSIVE and HALT are counted on the even channel; HALT restarts from startup. -/
def execFrPocChange (ctl poc : Nat) (s : State) : Res :=
  let n := 2 * ctl
  let ch := edgeChan n s
  if ch.mode ≠ 7 ∨ ch.state < 2 ∨ ch.state = 6 ∨ s.sleep.asleep then .next s
  else
    let s := setFrCtl ctl { frCtl ctl s with poc := poc } s
    if poc = 6 then .next (edgeEv n 22 (countEdge n 20 s))
    else if poc = 7 then
      let s := edgeEv n 22 (countEdge n 21 s)
      let (gone, s) := chanFault n 3 s
      .next (if gone then s else chanState n 2 s)
    else if poc = 5 then
      let s := if ch.state = 2 then chanState n (if ch.listen then 4 else 3) s else s
      .next (setFrCtl ctl { frCtl ctl s with poc := 5 } s)
    else .next s

/-! ### 10BASE-T1S (R316 to R318) -/

/-- The first copy that a transmit opportunity may send: from queue 3 down, heads that wait for their launch time excepted. -/
def t1sPick (n : Nat) (s : State) : Option (Nat × EdgeCopy) :=
  [3, 2, 1, 0].findSome? (fun k => match edgeHead n k s with
    | some x => if launched x s then some (k, x) else none
    | none => none)

/-- Up to `fuel` copies of one transmit opportunity. -/
def t1sSend (n : Nat) : Nat → State → State
  | 0, s => s
  | fuel + 1, s =>
    let s := t1sLate n (fun x => windowPast (edgeChan n s) x s) s
    let s := forEach [3, 2, 1, 0] (fun k s => dropBad (256 + 4 * n + k) (ageQueue (256 + 4 * n + k) s)) s
    match t1sPick n s with
    | none => s
    | some (k, x) =>
      let s := takeHead n k s
      if x.edge ∨ x.bytes.length < 60 ∨ 1518 < x.bytes.length then t1sSend n fuel (countEdge n 13 s)
      else t1sSend n fuel (emit (.bus n x.bytes) (countN (32 + n) 3 x.bytes.length (countEdge n 2 s)))

/-- T1S_TX_OPPORTUNITY: `fits` copies fit the burst timer, after `collisions` collisions (R317, R327). -/
def execT1sTxOpportunity (chan fits collisions : Nat) (s : State) : Res :=
  let c := edgeChan chan s
  if c.mode ≠ 6 ∨ c.state ≠ 3 ∨ !forwards s ∨ halted (32 + chan) s then .next s
  else
    let s := forEach (List.range collisions) (fun _ s => edgeErr chan 11 false true (countEdge chan 23 s)) s
    .next (t1sSend chan (min fits (1 + u8 c.plca 4)) s)

/-- T1S_BEACON_TIMEOUT (R317). -/
def execT1sBeaconTimeout (chan : Nat) (s : State) : Res :=
  let c := edgeChan chan s
  if c.mode = 6 ∧ 2 ≤ c.state ∧ c.state ≠ 6 then .next (countEdge chan 24 (setEdgeChan chan { c with beacon := false } s)) else .next s

/-- T1S_JABBER (R317, R318). -/
def execT1sJabber (chan : Nat) (s : State) : Res :=
  let c := edgeChan chan s
  if c.mode = 6 ∧ 2 ≤ c.state ∧ c.state ≠ 6 then .next (chanFault chan 3 (edgeEv chan 23 (countEdge chan 25 s))).2 else .next s

/-! ### The transceiver mode chain (R320 to R324) -/

/-- The outbound nibble of a channel (R297, R321). -/
def nibbleOut (n : Nat) (s : State) : Nat :=
  match (edgeChan n s).state with
  | 0 => 0
  | 1 => 5
  | 4 => 6
  | 6 => 5
  | _ => 7

/-- The outbound frame of a cluster (R321). -/
def frameOut (m : Nat) (s : State) : Nat := sumBy (fun k => nibbleOut (16 * m + k) s * 16 ^ k) (List.range 16)

/-- What a channel's inbound nibble means (R320): `nib` is that of the last good frame. -/
def tmcNibble (m n nib : Nat) (s : State) : State :=
  let c := edgeChan n s
  let bad := nib.testBit 1 ||
    (!nib.testBit 2 && c.state != 0 && decide (c.pwrOn + (edgeCl m s).settleMs * 1000000 < now s))
  let s := setEdgeChan n { c with tmcIn := nib, trxFault := bad } s
  let s := if bad && !c.trxFault then edgeEv n 18 (countEdge n 26 s) else s
  if nib.testBit 0 then wake { source := 27, channel := n } (edgeEv n 24 (countEdge n 27 s)) else s

/-- TMC_FRAME: one frame out and, with USE FULL, one frame in (R320 to R324). -/
def execTmcFrame (cluster inbound : Nat) (s : State) : Res :=
  let cl := edgeCl cluster s
  if cl.use = 0 ∨ s.sleep.asleep ∨ !s.power.railGood.getLsbD 5 then .next s
  else
    let o := frameOut cluster s
    let s := emit (.tmc cluster o) s
    if cl.use = 1 then .next (setEdgeCl cluster { cl with outFrame := o } s)
    else if (List.range 16).any (fun k => inbound.testBit (4 * k + 3)) then
      let s := count 255 (136 + cluster) (setEdgeCl cluster { cl with outFrame := o, bad := satAdd max32 cl.bad 1 } s)
      .next (if cl.bad + 1 = 16 then edgeEv (16 * cluster) 19 s else s)
    else
      let s := setEdgeCl cluster { cl with outFrame := o, inFrame := inbound, bad := 0 } s
      .next (forEach (List.range 16) (fun k s => tmcNibble cluster (16 * cluster + k) (inbound / 16 ^ k % 16) s) s)

/-- TRX_FAULT_PERSIST (R318). -/
def execTrxFaultPersist (chan : Nat) (s : State) : Res :=
  let c := edgeChan chan s
  if c.trxFault ∧ c.state ≠ 0 ∧ c.state ≠ 6 then .next (chanFault chan 1 s).2 else .next s

end Sys2Proof.Machine
end

