-- ==== Sys2Proof/Machine/Keys.lean ====
section
/-! DEFINITION. Tamper wipes, trust anchors, the life cycle and the commands of group 0x0A (spec/13, R395 to R429). -/

namespace Sys2Proof.Machine

/-! ### Tamper (R411 to R414) -/

/-- The voltage and clock sources are armed: no rail or clock is off on purpose (R412). -/
def glitchArmed (s : State) : Bool := s.power.hold == .none && s.power.porst && !s.sleep.asleep

/-- A wipe ends a field test of a Press queue with ABORTED (R520). -/
def abortPressTest (s : State) : State :=
  match s.test.field with
  | some t =>
    if t.kind = 5 then
      mbDone t.mb stOk s.sets.gen ([2, 0, 0, 0] ++ zeros 4) { s with test := { s.test with field := none } }
    else s
  | none => s

/-- The wipe (R413, R414). -/
def tamperWipe (s : State) : State :=
  let s := { s with cellar := { s.cellar with slots := [], storeDue := [], limitSeen := [], lastWipe := now32 s, rederive := true } }
  let s := zeroSecure s
  let s := forEach (List.range 8) (fun c s => flushQueue c true s) s
  let s := abortPressTest s
  let s := owlUnload (fun _ => true) (unloadSlots (fun _ => true) s)
  let s := { s with pair := { s.pair with wiped := some (now s) } }
  let s := { s with otp := { s.otp with tampered := true, tamperCount := min 64 (s.otp.tamperCount + 1) } }
  alarm 2 locDev (raise 3 8 (count 255 156 s))

/-- TAMPER_DETECT: a source's condition has held for its time: 0 and 1 the pins, 2 voltage, 3 clock, 4 temperature (R411). -/
def execTamperDetect (source : Nat) (s : State) : Res :=
  if !s.cellar.enables.getLsbD source ∨ s.cellar.active.getLsbD source then .next s
  else if (source = 2 ∨ source = 3) ∧ !glitchArmed s then .next s
  else
    let s := { s with cellar := { s.cellar with active := s.cellar.active ||| BitVec.ofNat 5 (2 ^ source) } }
    .next (tamperWipe (raise 3 source s))

/-- TAMPER_SOURCE_CLEAR: the condition of a source ends (R411). -/
def execTamperSourceClear (source : Nat) (s : State) : Res :=
  .next { s with cellar := { s.cellar with active := s.cellar.active &&& ~~~ BitVec.ofNat 5 (2 ^ source) } }

/-! ### Commands -/

/-- A slot that a host may not name. -/
def slotIdx (n : Nat) : Nat := if 240 ≤ n then stDenied else stOk

/-- CMD_KEY_WRITE. -/
def cmdKeyWrite : Cmd :=
  { code := 0x0A00, may := mbs [0], lenOk := len 48
    idx := fun r _ => slotIdx (u8 r.params 0)
    body := fun r s =>
      let p := r.params
      let a := u64 p 8
      if 2 ≤ s.otp.life then fail stState s
      else if !attrOk a then fail stConflict s
      else
        let a' := attrApply a (u32 p 4) 0
        ok (p.take 8 ++ b8 a') (writeSlot (u8 p 0) (placeKey (attrAlg a) (slice p 16 32)) a' s) }

/-- CMD_KEY_GENERATE. -/
def cmdKeyGenerate : Cmd :=
  { code := 0x0A01, may := mbs [0], lenOk := len 16
    idx := fun r _ => slotIdx (u8 r.params 0)
    body := fun r s =>
      let p := r.params
      let a := u64 p 8
      if !s.press.trngOk then fail stBusy s
      else if !attrOk a then fail stConflict s
      else
        let a' := attrApply a (u32 p 4) 3
        let (k, s) := drawBytes 32 s
        ok (p.take 8 ++ b8 a') (writeSlot (u8 p 0) (placeKey (attrAlg a) k) a' s) }

/-- The source check of CMD_KEY_DERIVE as a status of R113 (log entry 23: an EMPTY source is AUTH_FAIL). -/
def deriveStatus (k : Nat) : Nat :=
  match k with
  | 0 => stOk
  | 2 => stSlotBad
  | 3 => stLimit
  | 4 => stAuth
  | _ => stConflict

/-- CMD_KEY_DERIVE (R400, R401). -/
def cmdKeyDerive : Cmd :=
  { code := 0x0A02, may := mbs [0, 1, 2]
    lenOk := fun p => decide (1 ≤ u8 p 2) && decide (u8 p 2 ≤ 32) && decide (u8 p 3 ≤ 64) && len (16 + u8 p 2 + u8 p 3) p
    idx := fun r _ =>
      if 240 ≤ u8 r.params 0 ∨ (240 ≤ u8 r.params 1 ∧ u8 r.params 1 < 255) then stDenied else stOk
    body := fun r s =>
      let p := r.params
      let c := r.mb
      let dst := u8 p 0
      let src := u8 p 1
      let a := u64 p 8
      let own (x : Nat) : Bool := attrOwner x == 2 ^ c
      let x := slotOf dst s
      if c ≠ 0 ∧ (!own a ∨ (x.status ≠ 0 ∧ !own x.attr)) then fail stDenied s
      else
        let label := slice p 16 (u8 p 2)
        let ctx := slice p (16 + u8 p 2) (u8 p 3)
        let k := if src = 255 then 0 else slotCheck c src 4 false s
        if u8 label 0 = 0 then fail stConflict s
        else if src = 255 ∧ !rootUsable s then fail stState s
        else if k ≠ 0 then fail (deriveStatus k) (if k = 3 then limitRefused src s else s)
        else if !attrOk a then fail stConflict s
        else
          let key := if src = 255 then rootKey s else slotKey (slotOf src s)
          let label := if src = 255 then BitVec.ofNat 8 (0x80 + c) :: label else label
          let s := if src = 255 then s else invoke src s
          let a' := attrApply a (u32 p 4) 2
          let out := kdf key label ctx (algBytes (attrAlg a))
          ok (p.take 8 ++ b8 a' ++ p.drop 16) (writeSlot dst (placeKey (attrAlg a) out) a' s) }

/-- CMD_KEY_CLEAR. -/
def cmdKeyClear : Cmd :=
  { code := 0x0A03, may := mbs [0, 2], lenOk := len 1
    idx := fun r _ => slotIdx (u8 r.params 0)
    body := fun r s => ok [] (clearSlot (u8 r.params 0) s) }

/-- KCV of a slot: zero without a key or for DERIVE; of an XTS key the spec gives none, a free value. -/
def kcvOf (x : Slot) (s : State) : Bytes × State :=
  if x.status ≠ 1 ∨ attrUsage x.attr = 4 then (zeros 4, s)
  else if attrAlg x.attr = 2 then
    let (k, s) := takeFresh s
    (b4 (Config.freeNat k), s)
  else ((cmac (slotKey x) (zeros 16)).take 4, s)

/-- CMD_KEY_INFO. -/
def cmdKeyInfo : Cmd :=
  { code := 0x0A04, may := mbs [0, 1, 2, 3, 4], lenOk := len 1
    idx := fun r _ => slotIdx (u8 r.params 0)
    body := fun r s =>
      let n := u8 r.params 0
      let x := slotOf n s
      let s := if x.status = 1 ∧ x.tag ≠ slotTag n x.key x.attr s then slotBad n s else s
      let x := slotOf n s
      let (k, s) := kcvOf x s
      ok (b1 x.status ++ zeros 7 ++ b8 x.attr ++ k) s }

/-- CMD_PRESS_RUN (R417, R424). -/
def cmdPressRun : Cmd :=
  { code := 0x0A05, may := mbs [0, 1, 2]
    lenOk := fun p => decide (1 ≤ u16 p 0) && decide (u16 p 0 ≤ 64) && len (4 + 48 * u16 p 0) p
    body := fun r s =>
      let p := r.params
      let n := u16 p 0
      if s.press.retired.getLsbD r.mb then fail stRetired s
      else if (Tbl.find s.press.runs r.mb).isSome then .busy s
      else
        let s := { s with press := { s.press with runs := Tbl.insert s.press.runs r.mb { count := n } } }
        .busy (forEach (List.range n) (fun i s =>
          pressSubmit r.mb { desc := slice p (4 + 48 * i) 48, origin := .run r.mb } s) s) }

/-- CMD_PRESS_LOCK (R420). -/
def cmdPressLock : Cmd :=
  { code := 0x0A06, may := mbs [0, 1, 2], lenOk := len 8
    idx := fun r _ => need (decide (u8 r.params 0 ≤ 1))
    body := fun r s =>
      let c := r.mb
      if u8 r.params 0 = 1 then
        if s.press.lock.isSome ∨ now s < Tbl.get s.press.barred c 0 then fail stBusy s
        else
          let us := clamp 1 2000 (u32 r.params 4)
          ok (r.params.take 4 ++ b4 us) { s with press := { s.press with lock := some { cls := c, us := us, start := now s } } }
      else
        match s.press.lock with
        | some l =>
          if l.cls = c then
            ok r.params { s with press := { s.press with lock := none, barred := Tbl.set s.press.barred c (now s + 2000000) 0 } }
          else fail stNotFound s
        | none => fail stNotFound s }

/-- CMD_PRESS_STATUS. -/
def cmdPressStatus : Cmd :=
  { code := 0x0A07, may := mbs [0, 1, 2, 3, 4], lenOk := len 0
    body := fun _ s =>
      let left (l : PressLock) : Nat := l.us - (now s - l.start) / 1000
      ok (((List.range 8).map (fun c => BitVec.ofNat 8 (pressQueue c s).length)) ++
        b1 ((s.press.lock.map (·.cls)).getD 0xFF) ++ zeros 3 ++ b4 ((s.press.lock.map left).getD 0) ++
        b1 s.press.retired.toNat ++ b1 (b2n (!s.press.trngOk)) ++ b1 (b2n s.otp.tampered) ++ zeros 1) s }

/-- The anchor of a number: anchor 0 is programmed before shipment (R426). -/
def anchorOf (n : Nat) (s : State) : Anchor :=
  if n = 0 then { programmed := true, digest := Config.anchor0 } else Tbl.get s.otp.anchors n {}

/-- The three results of a verification: ECDSA, ML-DSA, anchor (R425, R426); `keys` is the key pair and both signatures. -/
def verify (anchor : Nat) (digest keys : Bytes) (s : State) : Bool × Bool × Bool :=
  let a := anchorOf anchor s
  let pk := slice keys 0 97
  let mk := slice keys 97 1952
  (Config.ecdsaVerify pk digest (slice keys 2049 96), Config.mldsaVerify mk digest (slice keys 2145 3309),
   a.programmed && !a.revoked && sha384 (pk ++ mk) == a.digest)

/-- Count a verification (R427). -/
def countVerify (v : Bool × Bool × Bool) (s : State) : State :=
  let s := count 255 157 s
  if v.1 && v.2.1 && v.2.2 then s else raise 93 0 (count 255 158 s)

/-- CMD_ASYM_VERIFY (R425, R426). -/
def cmdAsymVerify : Cmd :=
  { code := 0x0A08, may := mbs [0, 1], lenOk := len 64
    idx := fun r s =>
      let p := r.params
      let b := bankOf (u8 p 1) s
      need (decide (u8 p 0 < 4) && decide (u8 p 1 < 16) && b.owner == mbOwner r.mb && !b.busy &&
        decide (u32 p 12 + 5454 ≤ bankSize) && (!bit p 2 0 || decide (u32 p 4 + u32 p 8 ≤ bankSize)))
    body := fun r s =>
      let p := r.params
      if (anchorOf (u8 p 0) s).revoked then fail stConflict s
      else
        let (m, bad, s) := if bit p 2 0 then bankRead (u8 p 1) (u32 p 4) (u32 p 8) s else ([], false, s)
        let dg := if bit p 2 0 then sha384 m else slice p 16 48
        let (k, bad', s) := bankRead (u8 p 1) (u32 p 12) 5454 s
        let (e, d, a) := verify (u8 p 0) dg k s
        let v := (e && !bad && !bad', d && !bad && !bad', a && !bad')
        let res := b1 (b2n v.1 + 2 * b2n v.2.1 + 4 * b2n v.2.2) ++ zeros 3 ++ dg
        .done (if v.1 && v.2.1 && v.2.2 then stOk else stAuth) res (countVerify v s) }

/-- Owner anchors that are programmed and not revoked. -/
def liveAnchors (s : State) : List Nat := [1, 2, 3].filter (fun n => let a := anchorOf n s; a.programmed && !a.revoked)

def setAnchor (n : Nat) (a : Anchor) (s : State) : State :=
  { s with otp := { s.otp with anchors := Tbl.set s.otp.anchors n a {} } }

/-- CMD_ANCHOR (R426). -/
def cmdAnchor : Cmd :=
  { code := 0x0A09, may := mbs [0]
    lenOk := fun p => len 52 p || (len 4 p && u8 p 1 != 1)
    idx := fun r _ => need (decide (1 ≤ u8 r.params 0) && decide (u8 r.params 0 ≤ 3) && decide (u8 r.params 1 ≤ 2))
    body := fun r s =>
      let p := r.params
      let n := u8 p 0
      let a := anchorOf n s
      let rsp (a : Anchor) : Bytes := slice p 0 4 ++ slice a.digest 0 48 ++ b1 (b2n a.revoked)
      match u8 p 1 with
      | 1 =>
        if a.programmed then fail stConflict s
        else if 2 ≤ s.otp.life then fail stState s
        else
          let a' := { a with programmed := true, digest := slice p 4 48 }
          ok (rsp a') (setAnchor n a' s)
      | 2 =>
        if liveAnchors s = [n] then fail stState s
        else
          let a' := { a with revoked := true }
          ok (rsp a') (setAnchor n a' s)
      | _ => ok (rsp a) s }

/-- CMD_LIFE_CYCLE (R396). -/
def cmdLifeCycle : Cmd :=
  { code := 0x0A0A, may := fun r => r.mb == 0 || (r.mb == 4 && u8 r.params 0 == 3), lenOk := len 8
    body := fun r s =>
      let dst := u8 r.params 0
      if dst ≠ s.otp.life + 1 ∨ 3 < dst ∨ (dst = 1 ∧ (liveAnchors s).isEmpty) then fail stState s
      else if u32 r.params 4 ≠ 0x4C435943 then fail stConflict s
      else
        let s := zeroSecure s
        let s := if dst = 3 then
            unloadSlots (fun _ => true) { s with cellar := { s.cellar with slots := [], storeDue := [], limitSeen := [] } }
          else s
        let s := emit (.fuse 0 dst) { s with otp := { s.otp with life := dst } }
        ok r.params (raise 92 0 s) }

/-- CMD_TAMPER (R411, R414). -/
def cmdTamper : Cmd :=
  { code := 0x0A0B, may := readOps 2 0 [0], lenOk := len 2
    idx := fun r _ => need (decide (u8 r.params 0 ≤ 2))
    body := fun r s =>
      let p := r.params
      let rsp (s : State) : Bytes := b1 (u8 p 0) ++ b1 s.cellar.enables.toNat ++ b1 (b2n s.otp.tampered) ++
        b1 s.otp.tamperCount ++ b4 s.cellar.lastWipe
      match u8 p 0 with
      | 1 =>
        if 2 ≤ s.otp.life then fail stState s
        else
          let s := { s with cellar := { s.cellar with enables := BitVec.ofNat 5 (u8 p 1) } }
          ok (rsp s) s
      | 2 =>
        let s := { s with otp := { s.otp with tampered := decide (64 ≤ s.otp.tamperCount) } }
        let s := restorePersist (raise 92 1 s)
        ok (rsp s) s
      | _ => ok (rsp s) s }

def execCmdKeyWrite (mb : Nat) (s : State) : Res := .next (runCmd cmdKeyWrite mb s)
def execCmdKeyGenerate (mb : Nat) (s : State) : Res := .next (runCmd cmdKeyGenerate mb s)
def execCmdKeyDerive (mb : Nat) (s : State) : Res := .next (runCmd cmdKeyDerive mb s)
def execCmdKeyClear (mb : Nat) (s : State) : Res := .next (runCmd cmdKeyClear mb s)
def execCmdKeyInfo (mb : Nat) (s : State) : Res := .next (runCmd cmdKeyInfo mb s)
def execCmdPressRun (mb : Nat) (s : State) : Res := .next (runCmd cmdPressRun mb s)
def execCmdPressLock (mb : Nat) (s : State) : Res := .next (runCmd cmdPressLock mb s)
def execCmdPressStatus (mb : Nat) (s : State) : Res := .next (runCmd cmdPressStatus mb s)
def execCmdAsymVerify (mb : Nat) (s : State) : Res := .next (runCmd cmdAsymVerify mb s)
def execCmdAnchor (mb : Nat) (s : State) : Res := .next (runCmd cmdAnchor mb s)
def execCmdLifeCycle (mb : Nat) (s : State) : Res := .next (runCmd cmdLifeCycle mb s)
def execCmdTamper (mb : Nat) (s : State) : Res := .next (runCmd cmdTamper mb s)

end Sys2Proof.Machine
end

