-- ==== Sys2Proof/Machine/UpdBase.lean ====
section
/-! DEFINITION. What every part of field update shares: manifests, flash banks, chain frames, the update state
(spec/16, R491 to R502, R511, R512). -/

namespace Sys2Proof.Machine

/-! ### Manifests (R491, R492) -/

def mfDevices (m : Bytes) : Nat := u16 m 6
def mfParts (m : Bytes) : Nat := u16 m 8
def mfAnchor (m : Bytes) : Nat := u8 m 10
def mfPkg (m : Bytes) : Nat := u64 m 12
def mfVersion (m : Bytes) : Nat := u32 m 20
def mfFloor (m : Bytes) : Nat := u32 m 24
def mfLen (m : Bytes) : Nat := u32 m 28

/-- Offset of a part entry. -/
def partAt (m : Bytes) (i : Nat) : Nat := 64 + 16 * mfDevices m + 112 * i

/-- End of the part table, where the signature block starts. -/
def mfSigned (m : Bytes) : Nat := partAt m (mfParts m)

def partKind (m : Bytes) (i : Nat) : Nat := u8 m (partAt m i)
def partLen (m : Bytes) (i : Nat) : Nat := u32 m (partAt m i + 4)
def partBlocks (m : Bytes) (i : Nat) : Nat := u32 m (partAt m i + 8)
def partRev (m : Bytes) (i : Nat) : Nat := u32 m (partAt m i + 12)
def partMask (m : Bytes) (i : Nat) : Nat := u64 m (partAt m i + 16)
def partRoot (m : Bytes) (i : Nat) : Bytes := slice m (partAt m i + 64) 48

/-- Device ids of the table with the IDENT each must read. -/
def mfTable (m : Bytes) : List (Nat × Nat) :=
  (List.range (mfDevices m)).map (fun i => (u8 m (64 + 16 * i), u32 m (64 + 16 * i + 4)))

/-- Parts that belong to a device. -/
def partsFor (m : Bytes) (dev : Nat) : List Nat := (List.range (mfParts m)).filter (fun i => (partMask m i).testBit dev)

/-- The part of a kind that belongs to a device. -/
def partOfKind (m : Bytes) (dev kind : Nat) : Option Nat := (partsFor m dev).find? (fun i => partKind m i == kind)

/-- Length of a block of a part: 64 KiB, or what the last one holds (R491). -/
def blockLen (m : Bytes) (i b : Nat) : Nat := min 65536 (partLen m i - 65536 * b)

/-! ### Flash banks (R495 to R497) -/

def flashBank (n : Nat) (s : State) : FlashBank := if n = 0 then s.flash.bank0 else s.flash.bank1

def setFlashBank (n : Nat) (b : FlashBank) (s : State) : State :=
  if n = 0 then { s with flash := { s.flash with bank0 := b } } else { s with flash := { s.flash with bank1 := b } }

/-- A header write: SEQ rises by one (R497). -/
def bankHeader (n : Nat) (f : FlashBank → FlashBank) (s : State) : State :=
  let b := f (flashBank n s)
  setFlashBank n { b with seq := b.seq + 1 } s

/-- The bank in a state, if any. -/
def bankIn (st : Nat) (s : State) : Option Nat := [0, 1].find? (fun n => (flashBank n s).state == st)

/-- The bank that runs outside a trial: the GOOD bank, which after a confirmed SWAP is not the one that the ROM booted, else
the booted bank (R497, R508; log entry 49). -/
def runBank (s : State) : Nat := (bankIn 4 s).getD s.boot.bank

/-- The inactive bank (R499). -/
def otherBank (s : State) : Nat := 1 - runBank s

/-- The bank whose settings the running Diesh writes: the TRIAL bank during a trial, else the one that runs (R507). -/
def settingsBank (s : State) : Nat := (bankIn 3 s).getD (runBank s)

/-- The bank whose image is in force (CMD_SET_LOAD, R506). -/
def imageBank (s : State) : Nat := if s.upd.state = 4 ∨ s.upd.state = 5 then settingsBank s else runBank s

/-- Change of the settings in force. -/
def keepSettings (f : Settings → Settings) (s : State) : State :=
  let n := settingsBank s
  let b := flashBank n s
  setFlashBank n { b with settings := f b.settings } s

/-- The bytes of the part of a kind in a bank, by the bank's own manifest. -/
def bankPart (n kind : Nat) (s : State) : Bytes :=
  let b := flashBank n s
  (List.range 256).flatMap (fun i => Tbl.get b.blocks (65536 * kind + i) [])

/-- ROOT of a hash tree over leaves (R493). -/
def treeRoot (leaves : List Bytes) : Bytes :=
  let rec pair : List Bytes → List Bytes
    | a :: b :: rest => sha384 (b1 1 ++ a ++ b) :: pair rest
    | l => l
  let rec go : Nat → List Bytes → Bytes
    | 0, l => l.headD []
    | fuel + 1, l => if l.length ≤ 1 then l.headD [] else go fuel (pair l)
  go 9 leaves

/-- Leaf `i` of a part (R493). -/
def leafOf (i : Nat) (data : Bytes) : Bytes := sha384 (b1 0 ++ be 4 i ++ data)

/-- The leaves of a leaf table. -/
def leavesOf (table : Bytes) : List Bytes := chunksOf 48 257 table

/-- ROOT of part bytes (R493). -/
def rootOf (data : Bytes) : Bytes :=
  let bs := chunksOf 65536 257 data
  treeRoot ((List.range bs.length).map (fun i => leafOf i (bs.getD i [])))

/-- A device record save: the freshness counters and reservations in force (R358, R498). -/
def saveRecord (s : State) : State :=
  { s with flash := { s.flash with saveSeq := s.flash.saveSeq + 1, fv := s.gw.fv } }

/-! ### Chain frames (R500 to R502) -/

/-- The header of R501. -/
def chainHeader (kind part pkg blk len off seq : Nat) : Bytes :=
  b1 1 ++ b1 kind ++ b1 devId ++ b1 part ++ be 8 pkg ++ be 2 blk ++ be 2 len ++ be 4 off ++ be 4 seq

/-- Send a chain frame on a port as a directed send on UPD_TC. The spec does not say how a device knows MAC_ADDR of the
neighbour's port: the destination is a free value (log entry 40). -/
def chainSend (port : Nat) (payload : Bytes) (s : State) : State :=
  let (k, s) := takeFresh s
  directedSend port (8 * port + s.upd.chain.tc) (be 6 (Config.freeNat k) ++ macAddr port s ++ be 2 0x88B6 ++ payload) none s

/-- DOWNSTREAM ports. -/
def downPorts (s : State) : List Nat := bitsOf 32 s.upd.chain.downstream.toNat

/-- A chain slot is usable for a MAC (R502, R466). -/
def chainKey (slot use : Nat) (s : State) : Option Bytes :=
  if slotCheck 5 slot use false s = 0 then some (slotKey (slotOf slot s)) else none

/-- A control frame of this device on some ports, with the next control sequence; without a usable slot no frame can
carry its TAG and none is sent (R502). -/
def controlSend (kind pkg : Nat) (body : Bytes) (ports : List Nat) (s : State) : State :=
  if ports.isEmpty then s else
  match chainKey s.upd.chain.genSlot 5 s with
  | none => s
  | some key =>
    let s := { s with flash := { s.flash with ctlSeq := (s.flash.ctlSeq + 1) % 4294967296 } }
    let b := chainHeader kind 0 pkg 0 body.length 0 s.flash.ctlSeq ++ body
    forEach ports (fun p s => chainSend p (b ++ cmac key b) s) s

/-- UPSTREAM as a list of ports. -/
def upPorts (s : State) : List Nat := if s.upd.chain.upstream < 32 then [s.upd.chain.upstream] else []

/-! ### State (R508, R512, CMD_UPD_STATUS) -/

/-- PACKAGE_ID in force. -/
def updPkg (s : State) : Nat := mfPkg s.upd.manifest

/-- Own parts of the package. -/
def ownParts (s : State) : List Nat := partsFor s.upd.manifest devId

def blocksTotal (s : State) : Nat := sumBy (partBlocks s.upd.manifest) (ownParts s)

/-- Own blocks stored or copied. -/
def blocksDone (s : State) : Nat :=
  sumBy (fun i => if s.upd.copied.contains i then partBlocks s.upd.manifest i
    else countIf (fun k => k / 65536 == i) s.upd.have_) (ownParts s)

/-- Trial time left, s (R508). -/
def remainS (s : State) : Nat :=
  if s.upd.state = 4 ∨ s.upd.state = 5 then (s.upd.trialS * 1000000000 - (now s - s.upd.trialFrom)) / 1000000000 else 0

/-- Body of STATUS (R502). -/
def statusBody (s : State) : Bytes :=
  b1 s.upd.state ++ b1 (b2n s.upd.fellBack) ++ zeros 2 ++ be 4 (remainS s) ++ be 4 (blocksDone s) ++
    be 4 (blocksTotal s) ++ be 4 s.boot.fwrev.toNat

def devReport (d : Nat) (s : State) : DevReport := Tbl.get s.upd.devs d {}

/-- A report reaches the coordinator (R510, R512). -/
def takeReport (d : Nat) (r : DevReport) (s : State) : State :=
  let old := devReport d s
  let s := { s with upd := { s.upd with devs := Tbl.set s.upd.devs d { r with seen := true } {} } }
  let s := if old.state ≠ r.state ∨ old.fellBack ≠ r.fellBack ∨ !old.seen then
      notice 0x0D01 locDev (d + 256 * r.state + 2048 * b2n r.fellBack) s else s
  if s.upd.confirming ∧ r.fellBack ∧ !old.fellBack then raise 99 4 s else s

/-- This device's report: a STATUS frame to UPSTREAM, or the coordinator's own entry (R502). -/
def sendStatus (s : State) : State :=
  if s.upd.chain.coord then
    takeReport devId { state := s.upd.state, fellBack := s.upd.fellBack, flags := b2n s.upd.fellBack, remain := remainS s
                       fwrev := s.boot.fwrev.toNat, time := now32 s } s
  else controlSend 11 (updPkg s) (statusBody s) (upPorts s) s

/-- A change of state (R502, R512). -/
def updState (n : Nat) (fell : Bool) (s : State) : State :=
  if s.upd.state = n ∧ s.upd.fellBack = fell then s
  else
    let s := { s with upd := { s.upd with state := n, fellBack := fell } }
    sendStatus (notice 0x0D00 locDev (n + 8 * b2n fell) s)

/-- An ARM is withdrawn: READY again, with its timed swap (R505). -/
def armCancel (s : State) : State :=
  raise 98 2 (updState 2 s.upd.fellBack { s with upd := { s.upd with t := 0, loadDue := false } })

end Sys2Proof.Machine
end

