-- ==== Sys2Proof/Machine/Gateway.lean ====
section
/-! DEFINITION. The gateway engine, port G: passes, programs, SecOC, tunnels and batches (spec/11, R329 to R361). -/

namespace Sys2Proof.Machine

/-! ### Entries of a set (R334, R347, R352) -/

/-- A tunnel that no command has written: all invalid, its other fields as log entry 1 says. -/
def tunnel0 : Bytes :=
  [0, 0, 1, 0] ++ zeros 12 ++ b2 1500 ++ zeros 6 ++ (List.range 8).flatMap (fun _ => b2 10000) ++ List.replicate 32 0xFF ++
    b1 14 ++ zeros 87

def tunnelOf (c : CfgSet) (n : Nat) : Bytes := Tbl.get c.tunnels n tunnel0
def tnEncap (t : Bytes) : Bool := bit t 0 0 && !bit t 0 1
def tnTscf (t : Bytes) : Bool := bit t 0 2
def tnUdp (t : Bytes) : Bool := bit t 0 3
def tnSv (t : Bytes) : Bool := bit t 0 4
def tnBrief (t : Bytes) : Bool := bit t 0 5
def tnMtv (t : Bytes) : Bool := bit t 0 6
def tnTb (t : Bytes) : Nat := u8 t 1
def tnOffset (t : Bytes) : Nat := u32 t 20
def tnHold (t : Bytes) (prio : Nat) : Nat := u16 t (24 + 2 * prio)
def tnMap (t : Bytes) (i : Nat) : Nat := u8 t (40 + i)
def tnHdr (t : Bytes) : Bytes := slice t 80 (u8 t 72)

/-- A program that no command has written. -/
def program0 : Bytes := zeros 224
def programOf (c : CfgSet) (n : Nat) : Bytes := Tbl.get c.programs n program0

/-- A SecOC profile that no command has written, its fields at the nearest legal value (log entry 1). -/
def secoc0 : Bytes := zeros 6 ++ [24, 0, 1, 0] ++ zeros 6 ++ b4 1000 ++ zeros 12
def secocOf (c : CfgSet) (n : Nat) : Bytes := Tbl.get c.secoc n secoc0
def scTime (p : Bytes) : Bool := bit p 0 1
def scAuth (p : Bytes) : Nat := u16 p 4
def scMacBits (p : Bytes) : Nat := u8 p 6
def scTxBits (p : Bytes) : Nat := u8 p 7
def scFullBits (p : Bytes) : Nat := u8 p 8
def scIndex (p : Bytes) : Nat := u16 p 10

/-- t: bytes of the trailer (R353). -/
def scTrailer (p : Bytes) : Nat := (scTxBits p + scMacBits p + 7) / 8

/-- Entry counters of tunnels, programs and profiles (R360). -/
def ecTunnel (j : Nat) : Nat := 64 + j
def ecProgram (j : Nat) : Nat := 72 + j
def ecProfile (j : Nat) : Nat := 76 + j

/-- Count on port G (R359). -/
def countG (i : Nat) (s : State) : State := count 131 i s

/-! ### Bits in network order (R145, R348) -/

/-- Bit `i` of data, bit 0 being the most significant of byte 0. -/
def netBit (b : Bytes) (i : Nat) : Bool := (u8 b (i / 8)).testBit (7 - i % 8)

/-- `w` bits at `off`, most significant first. -/
def getBits (b : Bytes) (off w : Nat) : Nat := (List.range w).foldl (fun n i => 2 * n + b2n (netBit b (off + i))) 0

/-- Write the low `w` bits of `v` at `off`. -/
def putBits (b : Bytes) (off w v : Nat) : Bytes :=
  (List.range w).foldl (fun b i =>
    let k := off + i
    let x := u8 b (k / 8)
    let m := 2 ^ (7 - k % 8)
    setByte b (k / 8) (if v.testBit (w - 1 - i) then x ||| m else x - (x &&& m))) b

/-! ### PDU programs (R347 to R350) -/

/-- Protected identifier of a LIN frame identifier. -/
def linPid (id : Nat) : Nat :=
  let x (i : Nat) : Bool := id.testBit i
  id % 64 + 64 * b2n (x 0 ^^ x 1 ^^ x 2 ^^ x 4) + 128 * b2n (!(x 1 ^^ x 3 ^^ x 4 ^^ x 5))

/-- The smallest DLC whose CAN FD length holds `n` bytes; 16 beyond 64. -/
def fdDlc (n : Nat) : Nat := ((List.range 16).find? (fun d => decide (n ≤ fdLength d))).getD 16

/-- A move, or none when a range leaves the data (R348, R349). -/
def doMove (m inp out : Bytes) : Option Bytes :=
  let w := u8 m 1
  let src := u16 m 2
  let dst := u16 m 4
  match u8 m 0 with
  | 0 =>
    if src + w ≤ 8 * inp.length ∧ dst + w ≤ 8 * out.length then some (putBits out dst w (getBits inp src w)) else none
  | 1 =>
    if src + w ≤ inp.length ∧ dst + w ≤ out.length then some (setBytes out dst (slice inp src w)) else none
  | _ => if dst + w ≤ 8 * out.length then some (putBits out dst w (u32 m 8)) else none

/-- The moves of a program, in order. -/
def doMoves (p inp out : Bytes) : Option Bytes :=
  (List.range (min 16 (u8 p 1))).foldl (fun o i => o.bind (doMove (slice p (32 + 12 * i) 12) inp)) (some out)

/-- Fit data to a bus kind: the data and CTRL, or none (R350). -/
def fitKind (kind fill ident sdt : Nat) (d : Bytes) : Option (Bytes × Nat) :=
  let pad (n : Nat) : Bytes := d ++ List.replicate (n - d.length) (BitVec.ofNat 8 fill)
  match kind with
  | 1 => if d.length ≤ 8 then some (d, d.length) else none
  | 2 => if d.length ≤ 64 then some (pad (fdLength (fdDlc d.length)), fdDlc d.length) else none
  | 3 => if 1 ≤ d.length ∧ d.length ≤ 2048 then some (d, sdt) else none
  | 4 => if 1 ≤ d.length ∧ d.length ≤ 8 then some (d, linPid ident) else none
  | 5 => if d.length ≤ 254 then some (pad (d.length + d.length % 2), 0) else none
  | _ => none

/-- What becomes of an edge frame in a program. -/
inductive Built where
  | ok (out : Bytes)
  | short
  | kind

/-- The output of a program before SecOC generation (R349, R350). -/
def buildOutput (p x : Bytes) : Built :=
  let inp := x.drop 16
  let n := if u16 p 8 = 0 then ehLength x else u16 p 8
  let fill := u8 p 10
  let out := List.replicate n (BitVec.ofNat 8 fill)
  let out := if bit p 0 1 then setBytes out 0 (inp.take (min n (ehLength x))) else out
  match doMoves p inp out with
  | none => .short
  | some out =>
    let k := if u8 p 2 = 0 then ehKind x else u8 p 2
    let ident := if k = 3 then u32 p 16 else if bit p 0 4 then ehIdent x else u32 p 4
    match fitKind k fill ident (u8 p 14) out with
    | none => .kind
    | some (d, ctrl) =>
      .ok (edgeHeader (ehChannel x) k (ehTb x) (u8 p 3) ctrl ident d.length (if k = 3 then u16 p 20 % 2048 else 0)
        (if k = 3 then u8 p 15 else 0) (beN x 12 4) ++ d)

/-! ### SecOC (R353 to R355, R358) -/

/-- Bytes over which the CMAC goes: DATA_ID, authentic PDU, full freshness value (R353). -/
def secocInput (p data : Bytes) (c : Nat) : Bytes :=
  be 2 (u16 p 2) ++ slice data 0 (scAuth p) ++ be ((scFullBits p + 7) / 8) c

/-- A CMAC request to the Press; `check` for USAGE MAC_VERIFY (R354, R355). -/
def gwRequest (num slot : Nat) (check : Bool) (data : Bytes) (s : State) : State :=
  let desc := b1 4 ++ b1 (b2n check) ++ b1 slot ++ b1 0 ++ b4 data.length ++ zeros 4 ++ b1 2 ++ b1 2 ++ b1 16 ++ b1 0 ++ zeros 32
  pressSubmit 4 { desc := desc, origin := .gateway num, src := some data } s

/-- Present tick of a TIME profile (R354). -/
def scTick (p : Bytes) (s : State) : Nat := (tbNow (u8 p 9) s / u32 p 16) % 2 ^ scFullBits p

def fvOf (i : Nat) (s : State) : Nat := Tbl.get s.gw.fv i 0

def setFv (i v : Nat) (s : State) : State := { s with gw := { s.gw with fv := Tbl.set s.gw.fv i v 0 } }

/-- The candidate of a check, or none when it fails with FRESHNESS (R354). Of two equally near values the one taken is a
free choice (log entry 45). -/
def candidate (p : Bytes) (r : Nat) (s : State) : Option Nat × State :=
  let m := 2 ^ scTxBits p
  let l := fvOf (scIndex p) s
  let win := u32 p 12
  if scTime p then
    let t := scTick p s
    let base : Int := (t : Int) - ((t % m : Nat) : Int) + r
    let near (a b : Int) : Bool := decide ((a - t).natAbs < (b - t).natAbs)
    let lo := base - m
    let hi := base + m
    let best := if near lo base then lo else if near hi base then hi else base
    let tie := if (lo - t).natAbs = (best - t).natAbs ∧ lo ≠ best then some lo
      else if (hi - t).natAbs = (best - t).natAbs ∧ hi ≠ best then some hi else none
    let (c, s) : Int × State := match tie with
      | some o => let (k, s) := takeFresh s; (if Config.freeNat k % 2 = 0 then best else o, s)
      | none => (best, s)
    if c ≤ l ∨ win < (c - t).natAbs then (none, s) else (some c.toNat, s)
  else
    let c := l - l % m + r
    let c := if c ≤ l then c + m else c
    if 2 ^ scFullBits p ≤ c ∨ (win ≠ 0 ∧ win < c - l) then (none, s) else (some c, s)

/-- A reservation is asked for when a generation counter comes near the one in force (R358). -/
def reserveCheck (i : Nat) (s : State) : State :=
  let v := fvOf i s
  if Tbl.get s.gw.resv i 0 < v + s.gw.fvSkip / 2 ∧ Tbl.get s.gw.resvNext i 0 < v + s.gw.fvSkip / 2 ∧
      (Tbl.get s.gw.resvWait i (0, 0)).1 < v + s.gw.fvSkip / 2 then
    { s with gw := { s.gw with resvNext := Tbl.set s.gw.resvNext i (v + s.gw.fvSkip) 0 } }
  else s

/-- Freshness counters that programs of a set use: to check (false) or to generate (true). -/
def fvUsers (gen : Bool) (c : CfgSet) : List Nat :=
  ((c.programs.filter (fun e => bit e.2 0 0 && bit e.2 0 (if gen then 3 else 2))).map
    (fun e => scIndex (secocOf c (u16 e.2 (if gen then 24 else 22))))).eraseDups

/-- FV_RESERVATION_COMMIT: the save that carries a new reservation has completed; in a formed pair the reservation also
waits for the standby (R358). -/
def execFvReservationCommit (index : Nat) (s : State) : Res :=
  match Tbl.find s.gw.resvNext index with
  | none => .next s
  | some v =>
    let s := saveRecord { s with gw := { s.gw with resvNext := Tbl.erase s.gw.resvNext index } }
    let s := { s with flash := { s.flash with resv := Tbl.set s.flash.resv index v 0 } }
    .next (if s.pair.state = 2 then
        { s with gw := { s.gw with resvWait := Tbl.insert s.gw.resvWait index (v, s.pair.ckptSeq + 1) } }
      else { s with gw := { s.gw with resv := Tbl.set s.gw.resv index v 0 } })

/-- FV_SAVE_TIMER: every FV_SAVE_S all counters are saved (R358). -/
def execFvSaveTimer (s : State) : Res := .next (if s.power.phase = .done ∧ !s.sleep.asleep then saveRecord s else s)

/-! ### Notices (R361) -/

def locG (i : Nat) : Nat := locPort 131 i

/-- A gateway notice with its warning record. -/
def gwNotice (code loc data : Nat) (s : State) : State := trace 1 255 255 loc (notice code loc data s)

/-- A failed check: counters and the notice, at most one per profile in 100 ms (R360, R361). -/
def checkFailed (prof why : Nat) (s : State) : State :=
  let s := countEntry (ecProfile why) prof s
  let n := min 0xFFFF (Tbl.get s.gw.fails prof 0 + 1)
  let told := Tbl.get s.gw.failTold prof 0
  if told = 0 ∨ told - 1 + 100000000 ≤ now s then
    gwNotice 0x0400 (locG (4096 + prof)) n { s with gw := { s.gw with
      fails := Tbl.set s.gw.fails prof 0 0, failTold := Tbl.set s.gw.failTold prof (now s + 1) 0 } }
  else { s with gw := { s.gw with fails := Tbl.set s.gw.fails prof n 0 } }

/-- GW_LOOP (R330, R361). -/
def gwLoop (port : Nat) (s : State) : State :=
  let s := countG 3 s
  match s.gw.loopTold with
  | some t => if now s < t + 100000000 then s else gwNotice 0x0402 (locG noIdx) port { s with gw := { s.gw with loopTold := some (now s) } }
  | none => gwNotice 0x0402 (locG noIdx) port { s with gw := { s.gw with loopTold := some (now s) } }

/-- A unit of work (R333). -/
def gwUnit (s : State) : State :=
  { s with gw := { s.gw with units := now s :: s.gw.units.filter (fun t => decide (now s < t + 1000000)) } }

/-! ### Building PDUs (R335 to R343) -/

def gwSeq (t : Nat) (s : State) : GwSeq := Tbl.get s.gw.seqs t {}

def setGwSeq (t : Nat) (q : GwSeq) (s : State) : State := { s with gw := { s.gw with seqs := Tbl.set s.gw.seqs t q {} } }

/-- Quadlets that hold `n` bytes. -/
def quads (n : Nat) : Nat := (n + 3) / 4

/-- An ACF message: its header from the length in quadlets and the padding, then the data padded (R336). -/
def acfBytes (hdr : Nat → Nat → Bytes) (hlen : Nat) (d : Bytes) : Bytes :=
  let q := quads (hlen + d.length)
  let pad := 4 * q - hlen - d.length
  hdr q pad ++ d ++ zeros pad

/-- The ACF message of an edge frame (R336 to R338); `ts` is message_timestamp of a message with mtv 1. -/
def acfMessage (t x : Bytes) (bus : Nat) (ts : Option Nat) : Bytes :=
  let d := x.drop 16
  let fl := ehFlags x
  let mtv := 32 * b2n ts.isSome
  let id := ehIdent x % 536870912
  let stamp := be 8 (ts.getD 0)
  match ehKind x with
  | 3 =>
    let q := quads (24 + d.length)
    be 2 (512 * 0x7E + (if 511 < q then 0 else q)) ++ b1 (mtv + 16 * b2n (fl.testBit 3) + 8 * b2n (fl.testBit 0)) ++ b1 bus ++ stamp ++
      be 2 (ehPrioId x) ++ b1 (ehCtrl x) ++ b1 (u8 x 11) ++ be 4 (ehIdent x) ++ be 2 d.length ++ be 2 q ++ d ++ zeros (4 * q - 24 - d.length)
  | 4 =>
    acfBytes (fun q pad => be 2 (512 * 3 + q) ++ b1 (64 * pad + mtv + bus) ++ b1 (ehIdent x % 64) ++ stamp) 12 d
  | 5 =>
    acfBytes (fun q pad => be 2 q ++ b1 (64 * pad + mtv + bus) ++
      b1 ((if fl.testBit 4 then 32 else 16) + 8 * b2n (fl.testBit 2) + 4 * b2n (fl.testBit 1) + 2 * b2n (fl.testBit 3) + b2n (!fl.testBit 0)) ++
      stamp ++ be 4 ((ehIdent x % 2048) * 2097152 + ehCtrl x % 64)) 16 d
  | k =>
    let b2 (pad : Nat) : Nat := 64 * pad + 16 * b2n (fl.testBit 0 && k == 1) + 8 * b2n ((ehIdent x).testBit 31) +
      4 * b2n (fl.testBit 1 && k == 2) + 2 * b2n (k == 2) + b2n (fl.testBit 2 && k == 2)
    if tnBrief t then acfBytes (fun q pad => be 2 (512 * 2 + q) ++ b1 (b2 pad) ++ b1 bus ++ be 4 id) 8 d
    else acfBytes (fun q pad => be 2 (512 + q) ++ b1 (b2 pad + mtv) ++ b1 bus ++ stamp ++ be 4 id) 16 d

/-- Header bytes of a PDU before its messages: template, encapsulation sequence number, AVTP header. -/
def pduHead (t : Bytes) : Nat := u8 t 72 + (if tnUdp t then 4 else 0) + (if tnTscf t then 24 else 12)

/-- The messages of a PDU of this tunnel may hold `n` bytes (R339). -/
def pduFits (t : Bytes) (n : Nat) : Bool := decide (pduHead t + n ≤ u16 t 16) && (tnTscf t || decide (n ≤ 2044))

/-- The checksum of an IPv4 header whose checksum field is zero. -/
def ipChecksum (h : Bytes) : Nat := 65535 - onesSum h

/-- avtp_timestamp, when tv is 1 (R341). -/
def avtpStamp (t : Bytes) (ms : List GwMsg) : Option Nat :=
  let ts := ms.filterMap (·.ts)
  match ts with
  | [] => none
  | a :: rest => some ((rest.foldl min a + tnOffset t) % 4294967296)

/-- The PDU of a batch (R335, R341). -/
def buildPdu (t : Bytes) (q : GwSeq) (ms : List GwMsg) : Bytes :=
  let body := ms.flatMap (·.bytes)
  let n := body.length
  let sid := if tnSv t then slice t 8 8 else zeros 8
  let sv := 128 * b2n (tnSv t)
  let avtp :=
    if tnTscf t then
      let ts := avtpStamp t ms
      [0x05] ++ b1 (sv + b2n ts.isSome) ++ b1 q.seq ++ zeros 1 ++ sid ++ be 4 (ts.getD 0) ++ zeros 4 ++ be 2 n ++ zeros 2
    else [0x82] ++ b1 (sv + n / 256 % 8) ++ b1 n ++ b1 q.seq ++ sid
  let h := tnHdr t
  if tnUdp t then
    let e := h.length - 28
    let total := 32 + avtp.length + n
    let ip := setBytes (setBytes (setBytes (slice h e 20) 2 (be 2 total)) 4 (be 2 q.ident)) 10 (zeros 2)
    let ip := setBytes ip 10 (be 2 (ipChecksum ip))
    let udp := slice h (e + 20) 4 ++ be 2 (total - 20) ++ zeros 2
    h.take e ++ ip ++ udp ++ be 4 q.encap ++ avtp ++ body
  else h ++ avtp ++ body

/-- A batch closes: its PDU re-enters (R331, R342). `why`: 0 COUNT, 1 WINDOW, 2 DEADLINE, 3 SIZE, 4 SPLIT. -/
def closeBatch (n why : Nat) (s : State) : State :=
  match Tbl.find s.gw.batches n with
  | none => s
  | some b =>
    let t := tunnelOf (setOf b.gen s) n
    let q := gwSeq n s
    let f : Frame := { bytes := buildPdu t q b.msgs, gen := b.gen, zone := some b.zone, authFailed := b.msgs.any (·.authFailed)
                       passes := b.msgs.foldl (fun m x => max m x.passes) 0 + 1 }
    let s := setGwSeq n { q with seq := (q.seq + 1) % 256, ident := (q.ident + 1) % 65536, encap := (q.encap + 1) % 4294967296 } s
    let s := { s with gw := { s.gw with batches := Tbl.erase s.gw.batches n } }
    let s := countG 18 (countEntry (ecTunnel (2 + why)) n (countEntry (ecTunnel 0) n s))
    reenter 131 f s

/-- Batch memory in use (R343): the bytes of the messages (log entry 44). -/
def batchMem (s : State) : Nat := sumBy (fun e => sumBy (fun (m : GwMsg) => m.bytes.length) e.2.msgs) s.gw.batches

/-- The closing instant of a batch, and whether a deadline gives it (R342). -/
def batchDue (t : Bytes) (b : GwBatch) : Nat × Bool :=
  let w := b.opened + 1000 * u32 t 4
  let d := b.msgs.foldl (fun m x => min m x.due) (w + 1)
  (min w d, decide (d < w))

/-- A message joins the batch of its tunnel, or opens one (R342, R343). -/
def joinBatch (n : Nat) (t : Bytes) (gen zone : Nat) (m : GwMsg) (s : State) : State :=
  let len := m.bytes.length
  let s := match Tbl.find s.gw.batches n with
    | some b =>
      let due := batchDue t b
      if due.1 ≤ now s then closeBatch n (if due.2 then 2 else 1) s
      else if b.gen ≠ gen ∨ b.zone ≠ zone then closeBatch n 4 s
      else if !pduFits t (sumBy (fun (x : GwMsg) => x.bytes.length) b.msgs + len) ∨
          b.msgs.any (fun x => u8 x.bytes 0 / 2 == 0x7E && beN x.bytes 0 2 % 512 == 0) then closeBatch n 3 s
      else s
    | none => s
  let s := if 1048576 < batchMem s + len then closeBatch n 4 s else s
  if 1048576 < batchMem s + len then countG 6 s
  else
    let b := match Tbl.find s.gw.batches n with
      | some b => { b with msgs := b.msgs ++ [m] }
      | none => { opened := now s, gen := gen, zone := zone, msgs := [m] }
    let s := countEntry (ecTunnel 1) n { s with gw := { s.gw with batches := Tbl.insert s.gw.batches n b } }
    if u8 t 2 ≤ b.msgs.length then closeBatch n 0 s else if u32 t 4 = 0 then closeBatch n 1 s else s

/-- message_timestamp of a message that gets mtv 1 (R340). -/
def messageStamp (t x : Bytes) (s : State) : Option Nat :=
  if tnMtv t ∧ ehTb x = tnTb t ∧ tbEnabled (tnTb t) s then
    let full := tbNow (tnTb t) s
    let d := (full % 4294967296 + 4294967296 - beN x 12 4) % 4294967296
    some (full - d)
  else none

/-- add_to_batch (R330, R336, R339, R340, R342). -/
def addToBatch (n : Nat) (h : GwHeld) (s : State) : State :=
  let t := tunnelOf (setOf h.frame.gen s) n
  let ch := ehChannel h.out
  match (List.range 32).find? (fun i => tnMap t i == ch && decide (ch < 96)) with
  | none => countG 11 s
  | some bus =>
    let ts := messageStamp t h.out s
    let m := acfMessage t h.out bus ts
    if !pduFits t m.length then countG 13 s
    else
      let s := if tnMtv t ∧ ts.isNone then countG 12 s else s
      joinBatch n t h.frame.gen (h.frame.zone.getD 0)
        { bytes := m, ts := ts, due := h.arrive + 1000 * tnHold t h.prio, passes := h.frame.passes, authFailed := h.authFailed } s

/-- BATCH_CLOSE_TIMER: the closing instant of an open batch has come (R342). -/
def execBatchCloseTimer (tunnel : Nat) (s : State) : Res :=
  match Tbl.find s.gw.batches tunnel with
  | none => .next s
  | some b =>
    let due := batchDue (tunnelOf (setOf b.gen s) tunnel) b
    if due.1 ≤ now s ∧ forwards s then .next (closeBatch tunnel (if due.2 then 2 else 1) s) else .next s

/-! ### Order (R332) -/

/-- An output of the engine leaves: to its batch, or into the device again (R330, R331). -/
def gwOutput (h : GwHeld) (s : State) : State :=
  match h.tunnel with
  | some n => addToBatch n h s
  | none =>
    countG 19 (reenter 131 { h.frame with bytes := h.out, edge := true, passes := h.frame.passes + 1, authFailed := h.authFailed } s)

/-- Frames that wait for nothing leave in the order in which their inputs left queue 672. -/
def gwFlush (s : State) : State :=
  let rec go : Nat → State → State
    | 0, s => s
    | fuel + 1, s =>
      match s.gw.held with
      | h :: rest => if h.wait = .turn then go fuel (gwOutput h { s with gw := { s.gw with held := rest } }) else s
      | [] => s
  go s.gw.held.length s

/-- Replace a held frame. -/
def putHeld (h : GwHeld) (s : State) : State :=
  { s with gw := { s.gw with held := s.gw.held.map (fun x => if x.num = h.num then h else x) } }

/-- A held frame is dropped. -/
def dropHeld (h : GwHeld) (s : State) : State :=
  let s := { s with gw := { s.gw with held := s.gw.held.filter (fun x => x.num != h.num) } }
  if h.rewrite < 2048 then countEntry (ecProgram 2) h.rewrite s else s

/-- The output of a held frame is complete. -/
def heldReady (h : GwHeld) (out : Bytes) (s : State) : State :=
  let s := if h.rewrite < 2048 then countEntry (ecProgram 1) h.rewrite s else s
  putHeld { h with wait := .turn, out := out } s

/-- A generation fails (R355). -/
def genFail (h : GwHeld) (prof : Nat) (s : State) : State := dropHeld h (countG 16 (countEntry (ecProfile 6) prof s))

/-- generate: the value is committed, then the Press is asked (R355, R358). -/
def gwGenerate (h : GwHeld) (prof : Nat) (out : Bytes) (s : State) : State :=
  let p := secocOf (setOf h.frame.gen s) prof
  let i := scIndex p
  let l := fvOf i s
  let s := reserveCheck i s
  let c := if scTime p then max (scTick p s) (l + 1) else l + 1
  if 2 ^ scFullBits p ≤ c then dropHeld h (gwNotice 0x0401 (locG (4096 + prof)) i (countG 17 s))
  else if Tbl.get s.gw.resv i 0 < c then genFail h prof s
  else
    let s := reserveCheck i (setFv i c s)
    let data := out.drop 16
    if data.length < scAuth p + scTrailer p then genFail h prof s
    else gwRequest h.num (u8 p 1) false (secocInput p data c) (putHeld { h with wait := .generate prof c, out := out } s)

/-- The program's output, after its check if it has one (R349, R357). -/
def gwBuild (h : GwHeld) (failed : Bool) (s : State) : State :=
  let p := programOf (setOf h.frame.gen s) h.rewrite
  let h := if failed then { h with authFailed := true } else h
  match buildOutput p h.frame.bytes with
  | .short => dropHeld h (countG 4 s)
  | .kind => dropHeld h (countG 2 s)
  | .ok out =>
    if failed then
      let a := secocOf (setOf h.frame.gen s) (u16 p 22)
      let lo := 16 + scAuth a
      let n := min (scTrailer a) (out.length - lo)
      heldReady h (setBytes out lo (List.replicate n (BitVec.ofNat 8 (u8 p 10)))) (countG 15 s)
    else if bit p 0 3 then gwGenerate h (u16 p 24) out s
    else heldReady h out s

/-- A check ends badly: 1 FORMAT, 2 FRESHNESS, 3 KEY, 4 MAC (R349, R354, R357). -/
def gwCheckFail (h : GwHeld) (prof why : Nat) (s : State) : State :=
  let s := checkFailed prof why s
  if bit (programOf (setOf h.frame.gen s) h.rewrite) 0 5 then gwBuild h true s else dropHeld h (countG 14 s)

/-- verify up to the request to the Press (R354). -/
def gwVerify (h : GwHeld) (prof : Nat) (s : State) : State :=
  let p := secocOf (setOf h.frame.gen s) prof
  let data := h.frame.bytes.drop 16
  if data.length < scAuth p + scTrailer p then gwCheckFail h prof 1 s
  else
    let at_ := 8 * scAuth p
    match candidate p (getBits data at_ (scTxBits p)) s with
    | (none, s) => gwCheckFail h prof 2 s
    | (some c, s) =>
      gwRequest h.num (u8 p 1) true (secocInput p data c)
        (putHeld { h with wait := .check prof c (getBits data (at_ + scTxBits p) (scMacBits p)) } s)

/-- The answer of the Press to a held frame: status and CMAC (R354 to R356). -/
def gwAnswer (h : GwHeld) (status : Nat) (z : Bytes) (s : State) : State :=
  match h.wait with
  | .turn => s
  | .check prof c mac =>
    let p := secocOf (setOf h.frame.gen s) prof
    if status ≠ 0 then gwCheckFail h prof 3 s
    else if getBits z 0 (scMacBits p) ≠ mac then gwCheckFail h prof 4 s
    else gwBuild h false (setFv (scIndex p) c (countEntry (ecProfile 0) prof s))
  | .generate prof c =>
    let p := secocOf (setOf h.frame.gen s) prof
    if status ≠ 0 then genFail h prof s
    else
      let at_ := 128 + 8 * scAuth p
      let out := putBits h.out at_ (scTxBits p) c
      let out := putBits out (at_ + scTxBits p) (scMacBits p) (getBits z 0 (scMacBits p))
      heldReady h out (countEntry (ecProfile 5) prof s)

/-- GW_PRESS_COMPLETION: the completion that arrived first; one that comes too late is ignored (R356). -/
def execGwPressCompletion (s : State) : Res :=
  match s.press.answers with
  | [] => .next s
  | (n, (status, z)) :: rest =>
    let s := { s with press := { s.press with answers := rest } }
    match s.gw.held.find? (fun h => h.num == n) with
    | none => .next s
    | some h => .next (gwFlush (gwAnswer h status z s))

/-- GW_PRESS_TIMEOUT: 4 ms have passed since the request of held frame `num` (R356). -/
def execGwPressTimeout (num : Nat) (s : State) : Res :=
  match s.gw.held.find? (fun h => h.num == num && h.wait != .turn) with
  | none => .next s
  | some h =>
    if (Tbl.find s.press.answers num).isSome then .next s
    else .next (gwFlush (gwAnswer h 4 [] (countG 5 s)))

/-! ### Decapsulation (R344 to R346) -/

/-- The edge frame of an ACF message at `o` that takes `n` bytes, with its message_timestamp when mtv is 1; none when the
message is shorter than its header and padding (R345). -/
def unpack (t b : Bytes) (o n type : Nat) (pduStamp : Nat) : Option (Bytes × Option Nat) :=
  let f := u8 b (o + 2)
  let hlen := if type = 2 then 8 else if type = 3 then 12 else if type = 0x7E then 24 else 16
  let pad := if type = 0x7E then 0 else f / 64
  let data := if type = 0x7E then beN b (o + 20) 2 % 4096 else n - hlen - pad
  if n < hlen + pad ∨ n < hlen + data then none
  else
    let bus := if type = 3 ∨ type = 0 then f % 32 else u8 b (o + 3) % 32
    let ch := tnMap t bus
    let ts := if type ≠ 2 ∧ f.testBit 5 then some (beN b (o + 4) 8) else none
    let stamp := (ts.map (fun v => v % 4294967296)).getD pduStamp
    let d := slice b (o + hlen) data
    let hd (kind flags ctrl ident prio vcid : Nat) : Bytes := edgeHeader ch kind (tnTb t) flags ctrl ident data prio vcid stamp ++ d
    let bytes := match type with
      | 0x7E => hd 3 (b2n (f.testBit 3) + 8 * b2n (f.testBit 4)) (u8 b (o + 14)) (beN b (o + 16) 4) (beN b (o + 12) 2 % 2048) (u8 b (o + 15))
      | 3 =>
        let id := u8 b (o + 3) % 64
        hd 4 (b2n (decide (id < 60))) (linPid id) id 0 0
      | 0 =>
        let g := u8 b (o + 3)
        let w := beN b (o + 12) 4
        hd 5 (b2n (!g.testBit 0) + 2 * b2n (g.testBit 2) + 4 * b2n (g.testBit 3) + 8 * b2n (g.testBit 1) + 16 * b2n (decide (g / 16 % 4 = 2)))
          (w % 64) (w / 2097152) 0 0
      | _ =>
        let id := beN b (o + (if type = 2 then 4 else 12)) 4 % 536870912 + 2147483648 * b2n (f.testBit 3)
        if f.testBit 1 then
          hd 2 (b2n (f.testBit 4) + 2 * b2n (f.testBit 2) + 4 * b2n (f.testBit 0)) (min 15 (fdDlc data)) id 0 0
        else hd 1 (b2n (f.testBit 4)) (min 8 data) id 0 0
    some (bytes, ts)

/-- decap: a PDU is taken apart and its messages re-enter in order (R344 to R346). -/
def decap (n : Nat) (t : Bytes) (x : Copy) (f : Frame) (s : State) : State :=
  match x.stack.find? (fun e => e.1 == 0x30 || e.1 == 0x33) with
  | none => countG 2 s
  | some (type, o) =>
    let b := f.bytes
    let tscf := type == 0x33
    let body := o + (if tscf then 24 else 12)
    let len := if tscf then beN b (o + 20) 2 else (u8 b (o + 1) % 8) * 256 + u8 b (o + 2)
    let seq := u8 b (o + (if tscf then 2 else 3))
    let tv := tscf && (u8 b (o + 1)).testBit 0
    if tnSv t ∧ (!(u8 b (o + 1)).testBit 7 ∨ slice b (o + 4) 8 ≠ slice t 8 8) then countG 9 s
    else
      let q := gwSeq n s
      let gap := match q.last with
        | some l => seq != (l + 1) % 256
        | none => false
      let s := if gap then countG 10 (countEntry (ecTunnel 7) n s) else s
      let s := countEntry (ecTunnel 0) n (setGwSeq n { q with last := some seq } s)
      if b.length < body + len then countG 7 s
      else
        let stamp := (f.ts.getD (tnTb t) 0) % 4294967296
        let rec walk : Nat → Nat → State → State
          | 0, _, s => s
          | fuel + 1, at_, s =>
            if body + len ≤ at_ then s
            else
              let kind := u8 b at_ / 2
              let m := 4 * (if kind = 0x7E then beN b (at_ + 22) 2 else beN b at_ 2 % 512)
              if m = 0 ∨ body + len < at_ + m then countG 7 s
              else if !([0, 1, 2, 3, 0x7E].contains kind) then walk fuel (at_ + m) (countG 8 s)
              else match unpack t b at_ m kind stamp with
                | none => countG 7 s
                | some (bytes, ts) =>
                  let launch := match u8 t 3, ts with
                    | 1, some v => some (tnTb t, v + tnOffset t)
                    | 2, _ => if tv then some (tnTb t, extendLaunch (beN b (o + 12) 4) (tbNow (tnTb t) s)) else none
                    | _, _ => none
                  let s := countG 19 (countEntry (ecTunnel 1) n (gwUnit s))
                  walk fuel (at_ + m) (reenter 131
                    { bytes := bytes, edge := true, gen := x.gen, zone := some x.zone, launch := launch, passes := f.passes + 1
                      authFailed := f.authFailed } s)
        walk (len + 1) body s

/-! ### The engine (R329, R330) -/

/-- Frames that wait for the Press (R332). -/
def pressWaiting (s : State) : Nat := countIf (fun (h : GwHeld) => h.wait != .turn) s.gw.held

/-- A frame must wait for earlier ones: 64 wait for the Press, or a check or generation on the same freshness counter is
still to come (R332, R354, R355). -/
def gwBlocked (c : CfgSet) (p : Bytes) (s : State) : Bool :=
  decide (64 ≤ pressWaiting s) || s.gw.held.any (fun h =>
    match h.wait with
    | .check prof _ _ =>
      let hc := setOf h.frame.gen s
      let hp := programOf hc h.rewrite
      (bit p 0 2 && scIndex (secocOf c (u16 p 22)) == scIndex (secocOf hc prof)) ||
        (bit p 0 3 && bit hp 0 3 && scIndex (secocOf c (u16 p 24)) == scIndex (secocOf hc (u16 hp 24)))
    | _ => false)

/-- The head of queue 672 with its frame, once it has fully arrived. -/
def gwHead (s : State) : Option (Copy × VFrame) :=
  match copiesOf 672 s with
  | x :: _ => match frameOf x.fid s with
    | some v => if v.ended then some (x, v) else none
    | none => none
  | [] => none

/-- GW_COPY_PROCESS: the engine takes the head of queue 672 (R329, R330). -/
def execGwCopyProcess (s : State) : Res :=
  if !forwards s ∨ halted 131 s then .next s
  else
    let s := dropBad 672 (ageQueue 672 s)
    match gwHead s with
    | none => .next s
    | some (x, v) =>
      let c := setOf x.gen s
      let f : Frame := { v.frame with bytes := copyBytes x s, gen := x.gen, zone := some x.zone, launch := x.launch, prio := none, tsReq := none }
      let tn := match x.tunnel with
        | some n => if bit (tunnelOf c n) 0 0 then some n else none
        | none => none
      let p := match x.rewrite with
        | some r => programOf c r
        | none => program0
      let taken := countG 0 (dropHead 672 s)
      if 3 ≤ f.passes then .next (gwLoop x.ingress taken)
      else if (match tn with
        | some n => bit (tunnelOf c n) 0 1
        | none => false) then
        .next (decap (tn.getD 0) (tunnelOf c (tn.getD 0)) x f taken)
      else if mdKind x.md = 0 ∨ mdKind x.md = 6 then .next (countG 2 taken)
      else if tn.isNone ∧ x.rewrite.isNone then .next (countG 1 taken)
      else if x.rewrite.isSome ∧ !bit p 0 0 then .next (countG 1 taken)
      else if x.rewrite.isSome ∧ gwBlocked c p s then .next s
      else
        let num := s.gw.nextNum
        let h : GwHeld := { num := num, frame := f, rewrite := x.rewrite.getD 2048, tunnel := tn, prio := mdPrio x.md
                            arrive := now s, out := f.bytes, authFailed := f.authFailed }
        let s := gwUnit { taken with gw := { taken.gw with nextNum := num + 1, held := taken.gw.held ++ [h] } }
        if x.rewrite.isNone then .next (gwFlush s)
        else
          let s := countEntry (ecProgram 0) h.rewrite s
          .next (gwFlush (if bit p 0 2 then gwVerify h (u16 p 22) s else gwBuild h false s))

end Sys2Proof.Machine
end

