-- ==== Sys2Proof/Machine/ParseCmds.lean ====
section
/-! DEFINITION. The check of a parse image and the commands of group 0x05 (spec/05, R157 to R161). -/

namespace Sys2Proof.Machine

/-! ### The image (R142, R149, R158, R159) -/

/-- Bits of an instruction that are assigned to a field, by opcode; none for an undefined opcode (R142). -/
def fieldBits (op : Nat) : Option Nat :=
  match op with
  | 0x01 => some 0x03FC01FFFFC00000
  | 0x02 => some 0x003FE0000000FFFF
  | 0x03 => some 0x0380000000000FFF
  | 0x04 => some 0x003CF07F00000000
  | 0x08 | 0x09 | 0x0A | 0x0B | 0x0C | 0x0D => some 0x03FFE0000000FFFF
  | 0x10 => some 0x003E1C000000FFFF
  | 0x11 => some 0x03FE000000000000
  | 0x12 => some 0x03FDFDFF0040FFFF
  | 0x13 => some 0x03FE00000000FFFF
  | 0x14 => some 0x003D800000000000
  | 0x18 => some 0x1FF
  | 0x19 => some 0x3F
  | 0x1A => some 0xF
  | _ => none

/-- Header types that a PUSH may name (R148). -/
def typeOk (t : Nat) : Bool :=
  decide (0x80 ≤ t) || decide (t / 16 = 6) ||
  [0x01, 0x02, 0x03, 0x04, 0x06, 0x11, 0x12, 0x20, 0x30, 0x31, 0x32, 0x33, 0x34, 0x35, 0x36, 0x40].contains t

/-- A next code that R151 accepts. -/
def nextOk (c : Nat) : Bool := decide (c < 0x240) || [0x307, 0x30D, 0x30E, 0x30F].contains c

/-- An instruction passes the load check in a program of `n` instructions (R158). -/
def instrOk (n w : Nat) : Bool :=
  match fieldBits (opcodeOf w) with
  | none => false
  | some m =>
    decide (bits w 57 0 &&& m = bits w 57 0) &&
    (match opcodeOf w with
     | 0x01 => decide (bits w 28 24 < 16) && (!w.testBit 23 || (decide (bits w 31 29 = 0) && decide (bits w 28 24 = 15)))
     | 0x03 => decide (bits w 57 55 < 5) && decide (bits w 11 0 < n)
     | 0x11 => typeOk (bits w 57 50)
     | 0x12 => decide (bits w 57 56 < 3) && (bits w 57 56 == 0 || decide (bits w 44 42 < 2)) &&
               decide (bits w 55 50 + bits w 44 42 + 1 ≤ 48)
     | 0x13 => decide (bits w 57 54 < 4)
     | 0x1A => [7, 13, 14, 15].contains (bits w 3 0)
     | _ => true)

/-- An instruction after which no address follows (R158). -/
def endsProgram (w : Nat) : Bool :=
  match opcodeOf w with
  | 0x03 => bits w 57 55 == 0
  | 0x04 | 0x18 | 0x19 | 0x1A => true
  | _ => false

/-- A node passes the load check; fields it leaves unused are not judged (R158). -/
def nodeOk (b : Bytes) : Bool :=
  let w0 := nodeW b 0
  let w2 := nodeW b 2
  let w3 := nodeW b 3
  let m := bits w0 21 17
  decide (m ≤ 16) && decide (bits w0 23 22 ≠ 3) && decide (bits w0 31 27 = 0) &&
  (bits w0 23 22 != 2 || decide (bits w2 19 16 ≠ 0)) &&
  (!w0.testBit 24 || typeOk (bits w3 7 0)) &&
  (!w0.testBit 26 || decide (bits w3 13 8 + bits w3 16 14 + 1 ≤ 48)) &&
  decide (bits w3 31 26 = 0) && decide (bits (nodeW b 4) 31 16 = 0) &&
  [5, 6, 7].all (fun i => nodeW b i == 0) &&
  nextOk (bits (nodeW b 4) 15 0) && (List.range m).all (fun i => nextOk (u16 b (96 + 2 * i)))

/-- Sizes that the header of an image states: instructions, tables, nodes. -/
def imageInstrs (b : Bytes) : Nat := u16 b 6
def imageTables (b : Bytes) : Nat := u16 b 8
def imageNodes (b : Bytes) : Nat := u16 b 10

/-- Size of the image under its header (R158). -/
def imageSize (b : Bytes) : Nat := 64 + 8 * imageInstrs b + 32 * imageTables b + 128 * imageNodes b

/-- Offset of the first byte of the header that must be zero and is not (R158, R159). -/
def imageZeroFault (b : Bytes) : Option Nat :=
  ((List.range 52).find? (fun i => u8 b (12 + i) != 0)).map (fun i => 12 + i)

/-- Offset of the first item of an image of the right size that the check refuses (R158): an instruction, a jump-table
entry or a node (log entry 33). -/
def imageItemFault (b : Bytes) : Option Nat :=
  let n := imageInstrs b
  let tb := 64 + 8 * n
  let nb := tb + 32 * imageTables b
  let word (i : Nat) : Nat := u64 b (64 + 8 * i)
  ((List.range n).find? (fun i => !instrOk n (word i) || (i + 1 == n && !endsProgram (word i)))).map (fun i => 64 + 8 * i) <|>
  ((List.range (16 * imageTables b)).find? (fun i => decide (n ≤ u16 b (tb + 2 * i)))).map (fun i => tb + 2 * i) <|>
  ((List.range (imageNodes b)).find? (fun i => !nodeOk (slice b (nb + 128 * i) 128))).map (fun i => nb + 128 * i)

/-- ERR_OFFSET of a refused image (R158). -/
def imageFault (b : Bytes) : Option Nat :=
  if u32 b 0 ≠ 0x49505A4E then some 0
  else if u16 b 4 ≠ 1 then some 4
  else if imageInstrs b = 0 ∨ 4096 < imageInstrs b then some 6
  else if 128 < imageTables b then some 8
  else if 512 < imageNodes b then some 10
  else imageZeroFault b <|>
    (if b.length ≠ imageSize b then some (min b.length (imageSize b)) else imageItemFault b)

/-- The program, jump tables and nodes of an image that passes (R157, R159). -/
def loadImage (b : Bytes) (c : CfgSet) : CfgSet :=
  let n := imageInstrs b
  let tb := 64 + 8 * n
  let nb := tb + 32 * imageTables b
  { c with
    nInstr := n
    prog := (List.range n).foldl (fun t i => Tbl.set t i (BitVec.ofNat 64 (u64 b (64 + 8 * i))) 0) []
    jump := (List.range (16 * imageTables b)).foldl (fun t i => Tbl.set t i (u16 b (tb + 2 * i)) 0) []
    nodes := (List.range (imageNodes b)).foldl (fun t i => Tbl.set t i (slice b (nb + 128 * i) 128) node0) [] }

/-! ### Commands -/

/-- A range of a scratch bank that mailbox `mb` owns, at a multiple of 64. -/
def ownRange (mb bank off n : Nat) (s : State) : Bool :=
  decide (bank < 16) && (bankOf bank s).owner == mbOwner mb && !(bankOf bank s).busy && decide (off % 64 = 0) &&
    decide (off + n ≤ bankSize)

/-- CMD_PARSE_LOAD (R158, R159). A poisoned word is lost data and refuses the image (R532, log entry 33). -/
def cmdParseLoad : Cmd :=
  { code := 0x0500, may := mbs [0], lenOk := len 12, sets := .shadow
    idx := fun r s => need (ownRange 0 (u8 r.params 0) (u32 r.params 4) (u32 r.params 8) s)
    body := fun r s =>
      let p := r.params
      let bad := poisonIn (bankOf (u8 p 0) s).poison (u32 p 4) (u32 p 8)
      let (b, lost, s) := bankRead (u8 p 0) (u32 p 4) (u32 p 8) s
      if lost then .done stConflict (b4 (bad.foldl min 0xFFFFFFFF - u32 p 4)) s
      else match imageFault b with
        | some e => .done stConflict (b4 e) s
        | none => ok (b4 0) (editShadow (loadImage b) s) }

/-- An ingress port of the parser (R155). -/
def isIngress (p : Nat) : Bool := decide (p ≤ 128) || (decide (130 ≤ p) && decide (p ≤ 132))

/-- The 40 bytes of CMD_PARSE_PORT as applied: ignored bits read zero. -/
def parsePortApply (p : Bytes) : Bytes :=
  b1 (u8 p 0) ++ b1 0 ++ b2 (u16 p 2 % 4096) ++ b4 (u32 p 4 / 4 * 4) ++ slice p 8 32

/-- CMD_PARSE_PORT. -/
def cmdParsePort : Cmd :=
  { code := 0x0501, may := mbs [0, 1, 2, 3, 4], lenOk := len 40, sets := .either
    idx := fun r _ => need (isIngress (u8 r.params 0))
    body := fun r s =>
      let p := u8 r.params 0
      if r.target = 0 then ok (parsePortOf (activeSet s) p) s
      else
        let b := parsePortApply r.params
        ok b (editShadow (fun c => { c with parsePort := Tbl.set c.parsePort p b (parsePort0 p) }) s) }

/-- CMD_PARSE_DEVICE. -/
def cmdParseDevice : Cmd :=
  { code := 0x0502, may := mbs [0, 1, 2, 3, 4], lenOk := len 4, sets := .either
    idx := fun r _ => need (r.target == 0 || decide (u8 r.params 0 < 32))
    body := fun r s =>
      if r.target = 0 then ok (b1 (activeSet s).malRing ++ zeros 3) s
      else
        let n := u8 r.params 0
        ok (b1 n ++ zeros 3) (editShadow (fun c => { c with malRing := n }) s) }

/-- The frame of CMD_PARSE_TRY is an edge frame. -/
def tryEdge (p fl : Nat) (s : State) : Bool :=
  if 32 ≤ p ∧ p < 128 then chanMode (p - 32) s != 6 else [128, 131, 132].contains p && fl.testBit 1

/-- The response of CMD_PARSE_TRY. -/
def tryRsp (r : ParseResult) : Bytes :=
  b1 r.reason ++ b1 (if r.reason = 0 then r.profile else 0) ++ b1 r.instrs ++ b1 r.nodes ++ b2 (r.high.getD 0xFFFF) ++
    b2 r.cursor ++ b8 r.md.toNat ++ slice r.key 0 48 ++ b1 r.stack.length ++ zeros 3 ++
    slice (r.stack.flatMap (fun e => b4 (e.1 + 256 * e.2))) 0 48

/-- CMD_PARSE_TRY: a whole parse that leaves no trace (log entry 34). -/
def cmdParseTry : Cmd :=
  { code := 0x0503, may := fun r => r.mb == 0 || r.mb == 4 || (r.mb == 1 && r.target == 0)
    lenOk := fun p => p.length == 16 + u16 p 2 && decide (14 ≤ u16 p 2) && decide (u16 p 2 ≤ 3552), sets := .reads
    idx := fun r _ => need (isIngress (u8 r.params 0))
    body := fun r s =>
      let q := r.params
      let p := u8 q 0
      let f : Frame := { bytes := slice q 16 (u16 q 2), port := p, edge := tryEdge p (u8 q 1) s, macsec := bit q 1 0 }
      ok (tryRsp (parseWhole (targetSet r s) f (frameKind f s) (portMode p s))) s }

/-- CMD_PICKER_STATUS. -/
def cmdPickerStatus : Cmd :=
  { code := 0x0504, may := mbs [0, 1, 2, 3, 4], lenOk := len 0
    body := fun _ s =>
      ok (b1 (unitsInService false s) ++ b1 (unitsInService true s) ++ zeros 2 ++
        (List.range 48).flatMap (fun n => b1 (pickerOf n s).state) ++
        (List.range 8).flatMap (fun n => b1 (walkerOf n s).state) ++ zeros 4 ++
        (List.range 48).flatMap (fun n => b4 (pickerOf n s).faults)) s }

/-- UNIT names a Picker or a walker. -/
def isUnit (u : Nat) : Bool := decide (u < 48) || (decide (64 ≤ u) && decide (u < 72))

/-- The number of a unit among its kind. -/
def unitNo (u : Nat) : Nat := if u < 64 then u else u - 64

/-- CMD_PICKER_RETIRE: the thread is re-run elsewhere without counting a fault (R161). -/
def cmdPickerRetire : Cmd :=
  { code := 0x0505, may := mbs [0, 2], lenOk := len 4
    idx := fun r _ => need (isUnit (u8 r.params 0))
    body := fun r s =>
      let w := decide (64 ≤ u8 r.params 0)
      let n := unitNo (u8 r.params 0)
      if (unitOf w n s).state = 1 then fail stRetired s
      else if unitsInService w s ≤ 1 ∧ (unitOf w n s).state = 0 then fail stState s
      else ok (b1 (u8 r.params 0) ++ zeros 3) (retireUnit w n s) }

/-- CMD_PICKER_READMIT; `pass` is what the unit's self-test finds. -/
def cmdPickerReadmit (pass : Bool) : Cmd :=
  { code := 0x0506, may := mbs [0, 2], lenOk := len 4
    idx := fun r _ => need (isUnit (u8 r.params 0))
    body := fun r s =>
      let w := decide (64 ≤ u8 r.params 0)
      let n := unitNo (u8 r.params 0)
      let u := unitOf w n s
      if u.state ≠ 1 then fail stState s
      else if !pass then fail stRetired s
      else
        ok (b1 (u8 r.params 0) ++ zeros 3) (capacityCheck (setUnit w n { u with state := 0, lastFault := none } s)) }

/-! ### Meanings -/

def execCmdParseLoad (mb : Nat) (s : State) : Res := .next (runCmd cmdParseLoad mb s)
def execCmdParsePort (mb : Nat) (s : State) : Res := .next (runCmd cmdParsePort mb s)
def execCmdParseDevice (mb : Nat) (s : State) : Res := .next (runCmd cmdParseDevice mb s)
def execCmdParseTry (mb : Nat) (s : State) : Res := .next (runCmd cmdParseTry mb s)
def execCmdPickerStatus (mb : Nat) (s : State) : Res := .next (runCmd cmdPickerStatus mb s)
def execCmdPickerRetire (mb : Nat) (s : State) : Res := .next (runCmd cmdPickerRetire mb s)
def execCmdPickerReadmit (mb : Nat) (pass : Bool) (s : State) : Res := .next (runCmd (cmdPickerReadmit pass) mb s)

end Sys2Proof.Machine
end

