-- ==== Sys2Proof/Machine/Sets.lean ====
section
/-! DEFINITION. Configuration sets: the swap instant, the drain, the copy, and commands 0x0100 to 0x0104
(spec/04, R117 to R121; spec/01, R13 to R15). -/

namespace Sys2Proof.Machine

/-! ### Images in flash (R122, R506) -/

/-- The configuration that the CONFIG and PARSE parts of a bank give; none where one of them is rejected. -/
def imageConfig (n : Nat) (s : State) : Option CfgSet :=
  match Config.configImage (bankPart n 4 s) with
  | .error _ => none
  | .ok c =>
    let b := bankPart n 3 s
    if b.isEmpty then some c else match imageFault b with
      | some _ => none
      | none => some (loadImage b c)

/-! ### The swap instant (R118, R120, R121) -/

/-- The shadow becomes the active set; what each chapter resets at the swap instant is reset (R15, R191, R250, R358). -/
def swapNow (s : State) : State :=
  let old := activeSet s
  let new := shadowSet s
  let s' : State := { s with sets := { s.sets with
    activeB := !s.sets.activeB, gen := nextGen s.sets.gen, shadow := .draining, dirty := false, swapTb := 0, swapTime := 0 } }
  let s' := flowSwap old new s'
  let s' := forEach (keysOf old.monitors new.monitors) (fun m s =>
    if monitorOf old m = monitorOf new m then s
    else { s with flow := { s.flow with monitors := Tbl.set s.flow.monitors m {} {} } }) s'
  let s' := forEach (fvUsers true new) reserveCheck s'
  notice 0x0100 locDev (now32 s') (fairWake s (membersChanged s s'))

/-- The armed swap is that of an update, which UPDATE_ACTIVATION fires (R506). -/
def updSwap (s : State) : Bool := s.upd.state == 3 && !s.upd.restart && !s.upd.loadDue && s.sets.shadow == .armed

/-- TIMED_SWAP_FIRE: the named time base reads at or after TIME (R120). -/
def execTimedSwapFire (s : State) : Res :=
  if !updSwap s ∧ s.sets.shadow = .armed ∧ tbEnabled s.sets.swapTb s ∧ s.sets.swapTime ≤ tbNow s.sets.swapTb s then .next (swapNow s)
  else .next s

/-! ### The drain (R118) -/

/-- A stamp of a generation other than the active one; 0 is no stamp. -/
def oldGen (g : Nat) (s : State) : Bool := g != 0 && g != s.sets.gen

/-- The copies of a port's wire. -/
def wireCopies (e : EgrPort) : List Copy := (e.tx.toList ++ e.txPre.toList).map (·.copy)

/-- Frames held by the Vat that carry the old generation. -/
def oldFids (s : State) : List Nat :=
  (s.vat.frames.filter (fun e => oldGen e.2.frame.gen s && (e.2.staged || decide (0 < e.2.refs)))).map (·.1)

/-- OLD_FRAMES: frames still stamped with the previous generation, wherever they are held. -/
def oldFrames (s : State) : Nat :=
  let fids := oldFids s
  let wire := (s.flow.egr.flatMap (fun e => wireCopies e.2)).filter (fun x => oldGen x.gen s && !fids.contains x.fid)
  fids.length + (wire.map (·.fid)).eraseDups.length +
    sumBy (fun e => if oldGen e.2.gen s then e.2.msgs.length else 0) s.gw.batches +
    countIf (fun (h : GwHeld) => oldGen h.frame.gen s) s.gw.held +
    countIf (fun e => oldGen e.2.frame.gen s) s.press.jobs

/-- Count dropped frames in SET_DRAIN_DROP under a location code. -/
def drainCount (loc n : Nat) (s : State) : State :=
  if n = 0 then s
  else { s with sets := { s.sets with drainDrops := Tbl.set s.sets.drainDrops loc (satAdd max64 (Tbl.get s.sets.drainDrops loc 0) n) 0 } }

/-- Drop the queued copies of the old generation; their number. -/
def dropOldCopies (s : State) : Nat × State :=
  (busyQueues s).foldl (fun (acc : Nat × State) q =>
    let (gone, s') := removeCopies q (fun x => oldGen x.gen s) acc.2
    (acc.1 + gone.length, drainCount (locPort (queuePort q) (queueIdx q)) gone.length s')) (0, s)

/-- Drop the frames of the old generation in staging, in parsing and in classification; their number. -/
def dropOldStaged (s : State) : Nat × State :=
  let gone := s.vat.frames.filter (fun e => e.2.staged && oldGen e.2.frame.gen s)
  (gone.length, forEach gone (fun e s => drainCount (locPort e.2.frame.port noIdx) 1 (dropParsed e.1 s)) s)

/-- Drop what the gateway engine and port C hold of the old generation; their number. -/
def dropOldHeld (s : State) : Nat × State :=
  let n := sumBy (fun e => if oldGen e.2.gen s then e.2.msgs.length else 0) s.gw.batches
  let h := countIf (fun (h : GwHeld) => oldGen h.frame.gen s) s.gw.held
  let c := countIf (fun e => oldGen e.2.frame.gen s) s.press.jobs
  let s' : State := { s with
    gw := { s.gw with
      batches := s.gw.batches.filter (fun e => !oldGen e.2.gen s)
      held := s.gw.held.filter (fun h => !oldGen h.frame.gen s) }
    press := { s.press with jobs := s.press.jobs.filter (fun e => !oldGen e.2.frame.gen s) } }
  (n + h + c, drainCount (locPort 132 noIdx) c (drainCount (locPort 131 noIdx) (n + h) (gwFlush s')))

/-- SET_DRAIN_END: no frame of the old generation remains; the copy starts (R118). -/
def execSetDrainEnd (s : State) : Res :=
  if s.sets.shadow = .draining ∧ oldFrames s = 0 then .next { s with sets := { s.sets with shadow := .copying } } else .next s

/-- SET_DRAIN_TIMEOUT: what still carries the old generation is dropped and counted (R118). -/
def execSetDrainTimeout (s : State) : Res :=
  if s.sets.shadow ≠ .draining then .next s
  else
    let (a, s) := dropOldHeld s
    let (b, s) := dropOldStaged s
    let (c, s) := dropOldCopies s
    let s := { s with sets := { s.sets with shadow := .copying } }
    .next (notice 0x0102 locDev (min 0xFFFFFFFF (a + b + c)) s)

/-- The active set is copied into the shadow: the shadow is clean, and its words are rewritten (R118, R119, R162). -/
def copyToShadow (s : State) : State :=
  let b := !s.sets.activeB
  let s := withShadow (activeSet s) s
  { s with
    sets := { s.sets with dirty := false }
    parse := { s.parse with badWords := s.parse.badWords.filter (fun w => w.1 != b) }
    flow := { s.flow with badWords := s.flow.badWords.filter (fun w => w.1 != b) } }

/-- At ARM of a SWAP activation, or when the shadow is READY: the new parts are loaded and a swap at T in TB1 is armed. A
shadow that is not READY, or an image that is rejected, leaves the load due (R506; log entry 50). -/
def swapLoad (s : State) : State :=
  match s.sets.shadow, imageConfig (otherBank s) s with
  | .ready, some c =>
    let s := editShadow (fun _ => c) s
    { s with sets := { s.sets with shadow := .armed, swapTb := 1, swapTime := s.upd.t }, upd := { s.upd with loadDue := false } }
  | _, _ => { s with upd := { s.upd with loadDue := true } }

/-- The fallback of a SWAP activation: the GOOD bank's parts are loaded and swapped in at once, or when the shadow is READY
(R509). -/
def swapBack (s : State) : State :=
  match s.sets.shadow, imageConfig (runBank s) s with
  | .ready, some c => swapNow (editShadow (fun _ => c) { s with upd := { s.upd with fallDue := false } })
  | .ready, none => { s with upd := { s.upd with fallDue := false } }
  | _, _ => { s with upd := { s.upd with fallDue := true } }

/-- SHADOW_COPY_COMPLETE, with the load that waits for it (R118, R506, R509). -/
def execShadowCopyComplete (s : State) : Res :=
  if s.sets.shadow = .copying then
    let s := copyToShadow s
    let s := notice 0x0103 locDev 0 { s with sets := { s.sets with shadow := .ready } }
    .next (if s.upd.fallDue then swapBack s else if s.upd.state = 3 ∧ s.upd.loadDue then swapLoad s else s)
  else .next s

/-- An armed swap is cancelled: the shadow is READY with its edits (R120). -/
def swapCancel (s : State) : State :=
  notice 0x0101 locDev 0 { s with sets := { s.sets with shadow := .ready, swapTb := 0, swapTime := 0 } }

/-! ### Commands -/

/-- CMD_SET_STATUS. -/
def cmdSetStatus : Cmd :=
  { code := 0x0100, may := fun _ => true, lenOk := len 0, sets := .reads
    body := fun _ s =>
      let st := match s.sets.shadow with
        | .ready => 0
        | .armed => 2
        | _ => 1
      ok (b1 (b2n s.sets.activeB) ++ b1 st ++ b1 (b2n s.sets.dirty) ++ b1 s.sets.swapTb ++ b4 s.sets.gen ++
        b4 (oldFrames s) ++ b8 s.sets.swapTime ++ b4 s.sets.drainMs) s }

/-- CMD_SET_COPY. -/
def cmdSetCopy : Cmd :=
  { code := 0x0101, may := mbs [0], lenOk := len 0, sets := .shadow
    body := fun _ s => ok [] (copyToShadow s) }

/-- CMD_SET_LOAD: the image replaces the shadow whole. A poisoned word is lost data and refuses the image
(R532, log entry 33). -/
def cmdSetLoad : Cmd :=
  { code := 0x0104, may := mbs [0], lenOk := len 12, sets := .shadow
    idx := fun r s => need (u8 r.params 0 == 1 ||
      (u8 r.params 0 == 0 && ownRange 0 (u8 r.params 1) (u32 r.params 4) (u32 r.params 8) s))
    body := fun r s =>
      let p := r.params
      let fromBank := u8 p 0 == 0
      let bad := poisonIn (bankOf (u8 p 1) s).poison (u32 p 4) (u32 p 8)
      let (b, lost, s) := if fromBank then bankRead (u8 p 1) (u32 p 4) (u32 p 8) s else (bankPart (imageBank s) 4 s, false, s)
      if lost then .done stConflict (b4 (bad.foldl min 0xFFFFFFFF - u32 p 4)) s
      else match Config.configImage b with
        | .error e => .done stConflict (b4 e) s
        | .ok c => ok (b4 0) (editShadow (fun _ => c) s) }

/-- The lowest ingress port whose entry address lies outside the program (R158). -/
def badEntry (c : CfgSet) : Option Nat :=
  ((List.range 133).filter isIngress).find? (fun p => decide (c.nInstr ≤ entryOf c p))

/-- The lowest PDU program whose freshness counter would serve both a check and a generation (R358). -/
def badFreshness (c : CfgSet) : Option Nat :=
  let both := (fvUsers false c).filter (fun i => (fvUsers true c).contains i)
  (c.programs.find? (fun e => bit e.2 0 0 &&
    ((bit e.2 0 2 && both.contains (scIndex (secocOf c (u16 e.2 22)))) ||
      (bit e.2 0 3 && both.contains (scIndex (secocOf c (u16 e.2 24))))))).map (·.1)

/-- What makes a set inconsistent: command group and index of the first bad entry (CMD_SET_SWAP). -/
def inconsistent (c : CfgSet) : Option (Nat × Nat) :=
  match badEntry c, badFreshness c with
  | some p, _ => some (5, p)
  | none, some i => some (4, i)
  | none, none => none

/-- The response of CMD_SET_SWAP. -/
def swapRsp (gen at_ ms group idx : Nat) : Bytes := b4 gen ++ b8 at_ ++ b4 ms ++ b2 group ++ zeros 2 ++ b4 idx

/-- CMD_SET_SWAP. -/
def cmdSetSwap : Cmd :=
  { code := 0x0102, may := mbs [0], lenOk := len 16, sets := .shadow
    idx := fun r _ => need (!bit r.params 0 0 || decide (u8 r.params 1 < 6))
    body := fun r s =>
      let p := r.params
      let timed := bit p 0 0
      let tb := u8 p 1
      let t := u64 p 4
      if timed ∧ (!tbEnabled tb s ∨ t < tbNow tb s + 100000) then fail stState s
      else match inconsistent (shadowSet s) with
        | some (g, i) => .done stConflict (swapRsp 0 0 s.sets.drainMs g i) s
        | none =>
          let ms := if u32 p 12 = 0 then s.sets.drainMs else min 10000 (u32 p 12)
          let gen := shadowGen s
          let s := { s with sets := { s.sets with drainMs := ms } }
          if timed then
            ok (swapRsp gen t ms 0 0) { s with sets := { s.sets with shadow := .armed, swapTb := tb, swapTime := t } }
          else ok (swapRsp gen (now s) ms 0 0) (swapNow s) }

/-- CMD_SET_SWAP_CANCEL; the swap of an update takes its ARM with it (log entry 50). -/
def cmdSetSwapCancel : Cmd :=
  { code := 0x0103, may := mbs [0], lenOk := len 0
    body := fun _ s =>
      if s.sets.shadow = .armed then ok [] (swapCancel (if updSwap s then armCancel s else s)) else fail stNotFound s }

def execCmdSetStatus (mb : Nat) (s : State) : Res := .next (runCmd cmdSetStatus mb s)
def execCmdSetCopy (mb : Nat) (s : State) : Res := .next (runCmd cmdSetCopy mb s)
def execCmdSetLoad (mb : Nat) (s : State) : Res := .next (runCmd cmdSetLoad mb s)
def execCmdSetSwap (mb : Nat) (s : State) : Res := .next (runCmd cmdSetSwap mb s)
def execCmdSetSwapCancel (mb : Nat) (s : State) : Res := .next (runCmd cmdSetSwapCancel mb s)

end Sys2Proof.Machine
end

