-- ==== Sys2Proof/Machine/Device.lean ====
section
/-! DEFINITION. The device commands and the counters: commands 0x0000, 0x0002 to 0x0004 and 0x0F00 to 0x0F02, snapshots
(spec/04, R116, R126, R130, R131). -/

namespace Sys2Proof.Machine

/-! ### Device commands -/

/-- IDENT (R8). -/
def ident : Nat := 0x96244101

/-- PAIR_ROLE: 1 active (ACTIVE or ALONE), 2 standby, 0 none. -/
def pairRole (s : State) : Nat := if s.pair.state = 2 ∨ s.pair.state = 4 then 1 else if s.pair.state = 3 then 2 else 0

/-- CMD_DEVICE_INFO. -/
def cmdDeviceInfo : Cmd :=
  { code := 0x0000, may := fun _ => true, lenOk := len 0
    body := fun r s =>
      ok (b4 ident ++ b4 s.boot.fwrev.toNat ++ b1 devId ++ b1 r.mb ++ b1 s.otp.life ++ b1 s.sleep.level ++ b4 s.sets.gen ++
        b1 (pairRole s) ++ zeros 3 ++ b8 (now s)) s }

/-- CMD_NOTICE_SUBSCRIBE (R116). -/
def cmdNoticeSubscribe : Cmd :=
  { code := 0x0002, may := fun _ => true, lenOk := len 4
    body := fun r s =>
      ok (b2 (u16 r.params 0) ++ zeros 2) (setMb r.mb { mbOf r.mb s with groups := BitVec.ofNat 16 (u16 r.params 0) } s) }

/-- EV_EN_SPIi as written. -/
def setEnSpi (i v : Nat) (s : State) : State :=
  { s with ctl := { s.ctl with enSpi := Tbl.set s.ctl.enSpi i (BitVec.ofNat 32 v) 0 } }

/-- CMD_EVENT_SPI_MASK (R90). -/
def cmdEventSpiMask : Cmd :=
  { code := 0x0003, may := mbs [0, 2], lenOk := len 16
    body := fun r s => ok r.params (forEach (List.range 4) (fun i s => setEnSpi i (u32 r.params (4 * i)) s) s) }

/-- CMD_DEVICE_RESET: DONE, and a warm reset 100 µs later; the freshness counters are saved (R126, R358). -/
def cmdDeviceReset : Cmd :=
  { code := 0x0004, may := mbs [0, 2], lenOk := len 0
    body := fun _ s =>
      if s.sleep.asleep then fail stState s
      else ok [] (saveRecord { s with power := { s.power with warmDue := true } }) }

/-! ### The counters that exist (R130) -/

/-- `n` indices from `i` on without a level-1 index. -/
def plain (i n : Nat) : List (Nat × Nat) := (List.range n).map (fun k => (i + k, noIdx))

/-- `n` groups of `w` indices from `i` on, the k-th with level-1 index `o + k`. -/
def grouped (i w n o : Nat) : List (Nat × Nat) :=
  (List.range n).flatMap (fun k => (List.range w).map (fun j => (i + w * k + j, o + k)))

/-- Counters of slot 255 (R156, R198, R228, R292, R325, R327, R427, R459, R489, R513, R539). -/
def deviceCounters : List (Nat × Nat) :=
  plain 64 6 ++ plain 80 10 ++ plain 96 7 ++ grouped 112 4 6 0 ++ plain 136 6 ++ plain 144 17 ++ plain 161 6 ++
    plain 168 11 ++ plain 180 31 ++ plain 212 31 ++ plain 256 12 ++ plain 272 13 ++ plain 288 17

/-- Vat queues that count in a slot (R227). -/
def countedQueues (p : Nat) : Nat :=
  if p < 32 ∨ 136 ≤ p then 8 else if p < 128 then 4 else if p = 128 then 32 else if p = 130 ∨ p = 131 ∨ p = 132 then 1 else 0

/-- Counters of a port's slot with their level-1 indices. -/
def portCounters (p : Nat) (s : State) : List (Nat × Nat) :=
  let eth := decide (p < 32) || p == 129
  (if eth then plain 0 22 ++ plain 64 7 else []) ++ (if p = 129 then plain 22 3 else []) ++
    (if p < 8 then grouped 128 4 32 0 else []) ++
    (if p < 32 then grouped 400 1 8 0 ++ grouped 408 1 8 0 ++ plain 416 4 ++ plain 496 8 else []) ++
    (if 32 ≤ p ∧ p < 128 then plain 0 28 else []) ++
    (if (nmBusPorts s).contains p then plain 32 3 else []) ++
    (if p = 128 then grouped 0 4 32 0 ++ grouped 128 4 32 32 ++ grouped 400 1 32 0 else []) ++
    (if p = 131 then plain 0 20 else []) ++ (if p = 132 then plain 0 3 else []) ++
    (if countedQueues p = 0 then [] else grouped 256 4 (countedQueues p) 0 ++ plain 384 12) ++
    (if isIngress p then plain 448 1 ++ grouped 449 1 15 1 ++ plain 464 14 ++ plain 480 5 else [])

/-- Counters of a slot. -/
def slotCounters (p : Nat) (s : State) : List (Nat × Nat) :=
  if p = 255 then deviceCounters else if isPort p then portCounters p s else []

/-- Slots of R130. -/
def slots : List Nat := (List.range 168).filter isPort ++ [255]

/-- Location code of a counter (R130). -/
def counterLoc (p l1 : Nat) : Nat := locCode devId (clusterOf p) p l1

/-- A counter starts again: a water mark from the present value (R227, R228), any other from zero. -/
def counterClear (p i : Nat) (s : State) : State :=
  if p = 255 ∧ i = 102 then { s with vat := { s.vat with freeMin := freeCells s } }
  else { s with ctl := { s.ctl with
    counters := Tbl.set s.ctl.counters (512 * p + i) (if i = 395 ∧ p ≠ 255 then pocc p s else 0) 0 } }

/-- The slot and counter that a selector names (CMD_COUNTER_READ). -/
def namedCounter (loc id : Nat) (s : State) : Option Nat :=
  let p := bits loc 21 14
  match (slotCounters p s).find? (fun e => e.1 == id) with
  | some e => if loc = counterLoc p e.2 then some p else none
  | none => none

/-! ### Snapshots (R131) -/

/-- Latch every counter. -/
def latchSnapshot (s : State) : State :=
  let seq := ((s.ctl.snapNext.getD s.ctl.snap).seq + 1) % 4294967296
  let v := Tbl.set s.ctl.counters (512 * 255 + 102) s.vat.freeMin 0
  { s with ctl := { s.ctl with snapNext := some { seq := seq, gen := s.sets.gen, time := now s, values := v } } }

/-- SNAPSHOT_PERIODIC_TIMER. -/
def execSnapshotPeriodicTimer (s : State) : Res := .next (if 0 < s.ctl.periodMs then latchSnapshot s else s)

/-- SNAPSHOT_PUBLISH: a latched snapshot becomes visible at once. -/
def execSnapshotPublish (s : State) : Res :=
  match s.ctl.snapNext with
  | some x => .next { s with ctl := { s.ctl with snap := x, snapNext := none } }
  | none => .next s

/-- CMD_COUNTER_SNAPSHOT. -/
def cmdCounterSnapshot : Cmd :=
  { code := 0x0F00, may := fun r => r.mb != 3 && (r.mb == 0 || (u8 r.params 0 != 1 && u8 r.params 0 != 2)), lenOk := len 8
    idx := fun r _ => need (decide (u8 r.params 0 < 3))
    body := fun r s =>
      let s := match u8 r.params 0 with
        | 0 => latchSnapshot s
        | 1 =>
          let s := latchSnapshot s
          { s with ctl := { s.ctl with periodMs := clamp 10 60000 (u32 r.params 4) } }
        | _ => { s with ctl := { s.ctl with periodMs := 0 } }
      let x := s.ctl.snapNext.getD s.ctl.snap
      ok (b4 x.seq ++ b8 x.time ++ b4 s.ctl.periodMs) s }

/-- CMD_COUNTER_READ. -/
def cmdCounterRead : Cmd :=
  { code := 0x0F01, may := fun _ => true
    lenOk := fun p => decide (1 ≤ u16 p 0) && decide (u16 p 0 ≤ 256) && p.length == 4 + 8 * u16 p 0
    body := fun r s =>
      let p := r.params
      ok (b2 (u16 p 0) ++ zeros 2 ++ (List.range (u16 p 0)).flatMap (fun i =>
        match namedCounter (u32 p (4 + 8 * i)) (u16 p (8 + 8 * i)) s with
        | some q => b8 (counter q (u16 p (8 + 8 * i)) s) ++ zeros 4
        | none => zeros 8 ++ b1 stNotFound ++ zeros 3)) s }

/-- MB_COUNTS of every mailbox start again. -/
def mbCountsClear (s : State) : State :=
  forEach (List.range 5) (fun k s => setMb k { mbOf k s with refused := 0, reqWrBusy := 0, noticeLost := 0 } s) s

/-- CMD_COUNTER_CLEAR. -/
def cmdCounterClear : Cmd :=
  { code := 0x0F02, may := mbs [0, 4], lenOk := len 9
    body := fun r s =>
      let p := r.params
      let hit (q l1 : Nat) : Bool := (counterLoc q l1 &&& u32 p 4) == (u32 p 0 &&& u32 p 4)
      let all := slots.flatMap (fun q => ((slotCounters q s).filter (fun e => hit q e.2)).map (fun e => (q, e.1)))
      let s := forEach all (fun e s => counterClear e.1 e.2 s) s
      let s := if u32 p 4 = 0 then { s with ctl := { s.ctl with entryCounters := [] } } else s
      let s := if bit p 8 0 then { s with host := { s.host with counters := [] } } else s
      ok (b4 all.length) (if bit p 8 1 then mbCountsClear s else s) }

def execCmdDeviceInfo (mb : Nat) (s : State) : Res := .next (runCmd cmdDeviceInfo mb s)
def execCmdNoticeSubscribe (mb : Nat) (s : State) : Res := .next (runCmd cmdNoticeSubscribe mb s)
def execCmdEventSpiMask (mb : Nat) (s : State) : Res := .next (runCmd cmdEventSpiMask mb s)
def execCmdDeviceReset (mb : Nat) (s : State) : Res := .next (runCmd cmdDeviceReset mb s)
def execCmdCounterSnapshot (mb : Nat) (s : State) : Res := .next (runCmd cmdCounterSnapshot mb s)
def execCmdCounterRead (mb : Nat) (s : State) : Res := .next (runCmd cmdCounterRead mb s)
def execCmdCounterClear (mb : Nat) (s : State) : Res := .next (runCmd cmdCounterClear mb s)

end Sys2Proof.Machine
end

