-- ==== Sys2Proof/Machine/Reset.lean ====
section
/-! DEFINITION. Resets and starts: what Den does with supplies, clocks and temperature, what each reset keeps, the endpoint
resets, power-up BIST and the choice of the flash bank (spec/02, R38 to R57; spec/03, R67; spec/04, R122 to R126; spec/16,
R497; spec/17, R515 to R518 and R528). -/

namespace Sys2Proof.Machine

/-! ### What each reset keeps -/

/-- Everything at its reset value but what no reset touches: OTP, flash, the levels on the pins, the model's own lists. -/
def allReset (p : Power) (s : State) : State :=
  { State.reset with
    power := p, otp := s.otp, flash := s.flash, out := s.out, fresh := s.fresh, pending := s.pending
    pair := { State.reset.pair with fenceIn := s.pair.fenceIn } }

/-- The reset of Den, by PORST_N or by loss of VDD_AON: only OTP contents survive on the chip (R47, R48). -/
def denReset (rails : BitVec 7) (s : State) : State :=
  let p := s.power
  allReset { State.reset.power with
    railGood := rails, xtal32 := p.xtal32, refGood := p.refGood, refBb := p.refBb, refTrk := p.refTrk, refPcie := p.refPcie
    warmN := p.warmN, tj := p.tj, bootPins := p.bootPins, perst := p.perst, gpio := p.gpio } s

/-- Counters held in Den: slot 255, indices 168 to 243 (R459). -/
def denCounters (s : State) : Tbl Nat := s.ctl.counters.filter (fun e => decide (130728 ≤ e.1) && decide (e.1 ≤ 130803))

/-- Wake settings and PWR_STATUS, WAKE_CAUSE and WAKE_INFO, which Den keeps (R126; spec/14, Registers). -/
def denSleep (z : Sleep) : Sleep :=
  { State.reset.sleep with
    level := z.level, vselEn := z.vselEn, lastTarget := z.lastTarget, lastResult := z.lastResult, resumeLost := z.resumeLost
    wakeCause := z.wakeCause, infoFirst := z.infoFirst, infoMatcher := z.infoMatcher, infoChannel := z.infoChannel
    infoTime := z.infoTime, sourceEn := z.sourceEn, edgeEn := z.edgeEn, actFilter := z.actFilter, fwTimeout := z.fwTimeout
    inhMap := z.inhMap, muted := z.muted, mutedCh := z.mutedCh, matchers := z.matchers }

/-- A reset of everything but Den (R47, R51, R57, R126). -/
def restart (hold : Hold) (phase : Phase) (s : State) : State :=
  let t := allReset { s.power with hold := hold, phase := phase, ready := false, warmDue := false } s
  { t with
    boot := { t.boot with count := s.boot.count, cause := s.boot.cause, rail := s.boot.rail }
    ctl := { t.ctl with counters := denCounters s }
    sleep := denSleep s.sleep
    cellar := { t.cellar with enables := s.cellar.enables, active := s.cellar.active, lastWipe := s.cellar.lastWipe }
    pair := { t.pair with epoch := s.pair.epoch, slept := s.pair.slept }
    alarms := s.alarms }

/-- Set a bit of BOOT_CAUSE. -/
def bootCause (b : Nat) (s : State) : State :=
  { s with boot := { s.boot with cause := s.boot.cause ||| BitVec.ofNat 8 (2 ^ b) } }

/-- Den holds the device in reset for a reason, with its cause bit and alarm (R45, R47, R51, R57, R537). -/
def holdReset (hold : Hold) (bit kind : Nat) (fault : Bool) (s : State) : State :=
  let s := alarmDen kind locDev (bootCause bit (restart hold .off s))
  { s with power := { s.power with faultN := s.power.faultN || fault } }

/-- A boot begins: it is counted, and a missing crystal is recorded (R51, R125; log entry 47). -/
def bootBegin (s : State) : State :=
  let s := { s with boot := { s.boot with count := min 255 (s.boot.count + 1) } }
  if s.power.xtal32 then s else bootCause 5 s

/-- The device starts as at t2 of the cold power-up (R44, R47). -/
def startAtT2 (s : State) : State :=
  bootBegin { s with power := { s.power with hold := .none, phase := .pllLock, railGood := 0x7F, refGood := true } }

/-! ### The boot ROM's choice of a bank (R40, R497) -/

/-- The boot source is flash: straps 000 and 001, and the codes that boot as 000 (R39). -/
def flashStrap (s : State) : Bool := !([2, 3, 4].contains s.power.strap.toNat)

/-- Manifest signature and ROOT of the DIESH part of a bank: 0 when both verify, else the FAIL_CODE 2 or 3 (R40, R494). -/
def bankVerify (n : Nat) (s : State) : Nat :=
  let m := (flashBank n s).manifest
  let v := verify (mfAnchor m) (sha384 (m.take (mfSigned m))) (m.drop (mfSigned m)) s
  if !(v.1 && v.2.1 && v.2.2) then 2
  else match partOfKind m devId 1 with
    | some i => if rootOf (bankPart n 1 s) = partRoot m i then 0 else 3
    | none => 3

/-- Rule 3 of R497: an OLD or STAGED bank that verifies, the higher VERSION first. -/
def oldBank (s : State) : Option Nat :=
  let ok := [0, 1].filter (fun n => let b := flashBank n s; (b.state == 5 || b.state == 2) && bankVerify n s == 0)
  match ok with
  | [0, 1] => some (if (flashBank 0 s).version < (flashBank 1 s).version then 1 else 0)
  | l => l.head?

/-- Boot a bank. -/
def bootBank (n : Option Nat) (trial : Bool) (s : State) : State :=
  { s with boot := { s.boot with bank := n.getD 0, trial := trial, found := n.isSome } }

/-- Rules 2 and 3 of R497. -/
def settledBank (s : State) : State :=
  match bankIn 4 s with
  | some n => bootBank (some n) false s
  | none => bootBank (oldBank s) false s

/-- The boot ROM chooses the bank to boot (R497). -/
def bankSelect (s : State) : State :=
  match bankIn 3 s with
  | some n =>
    if (flashBank n s).attempts < 3 then
      bootBank (some n) true (bankHeader n (fun b => { b with attempts := b.attempts + 1 }) s)
    else settledBank (bankHeader n (fun b => { b with state := 2, fell := 1 }) s)
  | none => settledBank s

/-- STAGE ROM begins (R122). -/
def romStart (s : State) : State :=
  let s := { s with power := { s.power with phase := .rom }, boot := { s.boot with stage := 2 } }
  if flashStrap s ∧ s.otp.life ≠ 3 then bankSelect s else s

/-- Boot ends without a running Diesh (R123, R517). -/
def bootFailed (code : Nat) (s : State) : State :=
  let s : State := { s with
    boot := { s.boot with stage := 6, failCode := code, fwrev := 0 }
    power := { s.power with phase := .done, ready := true, faultN := true } }
  alarm 0 locDev (raise 6 0 (raise 2 1 s))

/-! ### BIST (R515 to R518, R521 to R523) -/

/-- A failure record is fatal: a unit of KIND 1 to 6 is retired, a lane PLL or a sensor may be left out, all else is
fatal (R516, R517). -/
def bistFatal (f : BistFail) : Bool := if f.kind ≤ 6 then false else if 9 ≤ f.kind then true else f.fatal

/-- BIST retires a unit before Diesh starts (R517). -/
def bistRetire (f : BistFail) (s : State) : State :=
  let i := f.index
  match f.kind with
  | 1 => setUnit false i { unitOf false i s with state := 1 } s
  | 2 => setUnit true i { unitOf true i s with state := 1 } s
  | 3 =>
    let s := setLane i { laneOf i s with retired := decide (8 ≤ i) && decide (i < 14) } s
    forEach (portsOfLane i) (fun p s => setEthPort p { ethPort p s with state := 4, cause := 7 } s) s
  | 4 => setEdgeChan i { edgeChan i s with state := 6 } s
  | 5 => { s with press := { s.press with retired := s.press.retired ||| BitVec.ofNat 8 (2 ^ i) } }
  | 6 => setBank i { bankOf i s with owner := 0, retired := true } s
  | _ => s

/-- Units of KIND 1 to 6 that BIST found faulty. -/
def bistUnits (fs : List BistFail) : List BistFail := fs.filter (fun f => testUnitKind f)
where testUnitKind (f : BistFail) : Bool :=
  decide (1 ≤ f.kind) && decide (f.kind ≤ 6) && decide (f.index < [0, 48, 8, 15, 96, 8, 16].getD f.kind 0)

/-- What BIST found is fatal: a fatal record, no Picker or walker left, fewer than four temperature sensors (R516, R517). -/
def bistEnds (fs : List BistFail) : Bool :=
  let n (k : Nat) := (((fs.filter (fun f => f.kind == k)).map (·.index)).eraseDups).length
  fs.any bistFatal || decide (48 ≤ n 1) || decide (8 ≤ n 2) || decide (3 ≤ n 8)

/-- Retire what the record of the last BIST names. A retired trace bank moves the ring (R536). -/
def bistApply (s : State) : State :=
  let s := forEach (bistUnits s.test.bist.fails) bistRetire s
  if (bankOf 15 s).retired then relocateTrace s else s

/-- Location of a unit that BIST retires. -/
def bistLoc (f : BistFail) : Nat :=
  match f.kind with
  | 1 => unitLoc false f.index
  | 2 => unitLoc true f.index
  | 3 => if f.index < 8 then locPort f.index noIdx else locCode devId (if f.index < 14 then f.index - 6 else 14) 0xFF noIdx
  | 4 => locPort (32 + f.index) noIdx
  | _ => locDevIdx f.index

/-- Record a BIST run. -/
def bistRecord (run duration noRef soft : Nat) (fs : List BistFail) (s : State) : State :=
  let fs := (fs.take 64).map (fun f => { f with fatal := bistFatal f })
  let outcome := if bistEnds fs then 2 else if (bistUnits fs).isEmpty then 0 else 1
  { s with test := { s.test with bist := {
    run := run, outcome := outcome, duration := duration, noRef := noRef, softApplied := min 64 soft, fails := fs } } }

/-- The root is generated at the first start without one; `good` is the verification through the margin port (R398). -/
def rootGenerate (good : Bool) (s : State) : Bool × State :=
  if s.otp.root.isSome then (true, s)
  else if 2 ≤ s.otp.rootFails then (false, s)
  else if !s.press.trngOk ∨ !good then (false, { s with otp := { s.otp with rootFails := s.otp.rootFails + 1 } })
  else
    let (k, s) := drawBytes 32 s
    (true, { s with otp := { s.otp with root := some (BitVec.ofNat 256 (beN k 0 32)) } })

/-! ### Warm reset (R126, R518, R528) -/

/-- A warm reset: Den, OTP, straps, boot cause and HOST_MAP stay, units that BIST retired stay retired, and Diesh boots
again without BIST. -/
def warmReset (s : State) : State :=
  let t := bootBegin (bootCause 7 (restart .none .rom s))
  let t := bistApply { t with
    host := { t.host with secRid := s.host.secRid, secEn := s.host.secEn }
    test := { t.test with bist := s.test.bist } }
  romStart (raise 6 2 (applyAll t))

/-! ### The endpoint's resets (R67) -/

/-- A ring with ENABLE clear. -/
def ringOff (t : Tbl Ring) : Tbl Ring :=
  (List.range 32).foldl (fun t n => Tbl.set t n { Tbl.get t n {} with enable := false } {}) t

/-- The effects of R67. -/
def endpointReset (s : State) : State :=
  let s := forEach (s.host.held.filter (fun h => decide (h.init < 2))) (fun h s => releaseLockOf h s) s
  releaseHeld (fun h => decide (h.init < 2))
    { s with host := { s.host with rx := ringOff s.host.rx, tx := ringOff s.host.tx, msix := [] } }

/-! ### Rows -/

/-- DEN_POWER_ON_RESET: VDD_AON reaches 2.97 V with every other rail down and PORST_N low (R44, R51). -/
def execDenPowerOnReset (xtal : Bool) (s : State) : Res :=
  let t := denReset 0x40 { s with power := { s.power with xtal32 := xtal } }
  .next (if xtal then t else bootCause 5 t)

/-- PORST_N_ASSERT (R48). -/
def execPorstNAssert (s : State) : Res := .next (denReset s.power.railGood s)

/-- PORST_N_RELEASE: the straps are latched (R38, R39, R44). Strap 111 in BLANK starts manufacturing test, whose effect
the spec does not give. -/
def execPorstNRelease (boot : Nat) (s : State) : Res :=
  if s.power.porst ∨ !s.power.railGood.getLsbD 6 then .next s
  else if boot = 7 ∧ s.otp.life = 0 then .fault .manufacturingTest
  else
    let b := BitVec.ofNat 3 boot
    let s := { s with power := { s.power with porst := true, bootPins := b, strap := b, hold := .rails } }
    .next (if boot = 7 then bootCause 1 s else if boot = 5 ∨ boot = 6 then bootCause 0 s else s)

/-- ALL_RAILS_GOOD (R44). -/
def execAllRailsGood (s : State) : Res := .next (if s.power.hold = .rails then startAtT2 s else s)

/-- PLL_LOCK_COMPLETE: power-up BIST starts (R515). -/
def execPllLockComplete (s : State) : Res :=
  if s.power.phase = .pllLock then
    .next { s with power := { s.power with phase := .bist }, boot := { s.boot with stage := 1 } }
  else .next s

/-- SUPPLY_LATE is recorded with the rails of a mask; FAULT_N is asserted if VDD_33 is up (R45). -/
def supplyLate (late : BitVec 7) (s : State) : State :=
  let s := alarmDen 6 locDev (bootCause 2 { s with boot := { s.boot with rail := late } })
  { s with power := { s.power with railGood := ~~~late, faultN := s.power.faultN || !late.getLsbD 5 } }

/-- INH outputs that INH_MAP pulls low in Burrow (2) or Hibernate (3) (R439). -/
def inhFor (map : List Nat) (target : Nat) : BitVec 4 :=
  BitVec.ofNat 4 (sumBy (fun k => b2n ((map.getD k 0).testBit (target - 2)) * 2 ^ k) (List.range 4))

/-- SUPPLY_WINDOW_EXPIRY: rails of a mask miss the 20 ms window, on a cold start or on an exit from Hibernate, which then
stays asleep with INH low again (R45). -/
def execSupplyWindowExpiry (late : Nat) (s : State) : Res :=
  let m := BitVec.ofNat 7 late &&& 0x3F
  if m = 0 then .next s
  else if s.power.hold = .rails then
    let s := supplyLate m s
    .next { s with power := { s.power with hold := .supplyLate } }
  else if s.sleep.asleep ∧ s.sleep.target = 3 ∧ s.sleep.state = 3 ∧ !s.sleep.railsUp then
    let s := supplyLate m s
    .next { s with sleep := { s.sleep with state := 1, unconfirmed := none, inhLow := inhFor s.sleep.inhMap 3 } }
  else .next s

/-- Rails that are off on purpose (R43, R47). -/
def railOff (rail : Nat) (s : State) : Bool :=
  s.sleep.asleep && (if s.sleep.target = 2 then [0, 2, 3, 4].contains rail else rail != 6)

/-- RAIL_OUT_OF_RANGE: EV5 and nothing else (R47). -/
def execRailOutOfRange (rail : Nat) (s : State) : Res :=
  if s.power.hold = .none ∧ !railOff rail s then .next (raise 5 rail s) else .next s

/-- BROWN_OUT of a switched rail (R47). -/
def execBrownOut (rail : Nat) (s : State) : Res :=
  if rail = 6 ∨ [Hold.porst, .rails, .supplyLate].contains s.power.hold ∨ railOff rail s then .next s
  else
    let m := BitVec.ofNat 7 (2 ^ rail)
    let s := holdReset .brownOut 3 4 false s
    .next { s with boot := { s.boot with rail := m }, power := { s.power with railGood := s.power.railGood &&& ~~~m } }

/-- VDD_AON_LOSS: Den itself is reset (R47). -/
def execVddAonLoss (s : State) : Res := .next (denReset 0 s)

/-- FAULT_RESTART: the condition has cleared for its time (R47, R51, R57). -/
def execFaultRestart (xtal : Bool) (s : State) : Res :=
  let ok := match s.power.hold with
    | .brownOut => true
    | .clockLoss => true
    | .overTemp => decide (s.power.tj < 120)
    | _ => false
  if ok then .next (startAtT2 { s with power := { s.power with xtal32 := xtal } }) else .next s

/-- REF_CLOCK_FAULT, while the 25 MHz oscillator is to run (R51). -/
def execRefClockFault (s : State) : Res :=
  if s.power.hold ≠ .none ∨ s.sleep.asleep then .next s
  else
    let s := holdReset .clockLoss 4 5 true s
    .next { s with power := { s.power with refGood := false } }

/-- One threshold of Tj: raised at or above it while armed, armed again 5 °C below it. -/
def tjCause (bit limit : Nat) (armed : Bool) (s : State) : Bool × State :=
  if (limit : Int) ≤ s.power.tj then (false, if armed then raise 4 bit s else s)
  else (armed || decide (s.power.tj ≤ (limit : Int) - 5), s)

/-- TJ_THRESHOLD_CROSS (R57). While the device is held in reset only Tj changes (log entry 48). -/
def execTjThresholdCross (tj : Int) (s : State) : Res :=
  let s := { s with power := { s.power with tj := tj } }
  if s.power.hold ≠ .none then .next s
  else
    let (w, s) := tjCause 0 115 s.power.warnArmed s
    let crit := s.power.critArmed
    let (c, s) := tjCause 1 125 crit s
    let s := if crit ∧ 125 ≤ tj then alarm 3 locDev s else s
    .next { s with power := { s.power with warnArmed := w, critArmed := c } }

/-- OVERTEMP_RESET: Tj has been at or above 140 °C for 1 ms (R57). -/
def execOvertempReset (tj : Int) (s : State) : Res :=
  let s := { s with power := { s.power with tj := tj } }
  if tj < 140 ∨ s.power.hold = .porst then .next s else .next (holdReset .overTemp 6 3 true s)

/-- The device is past BIST and not in Burrow or Hibernate: WARM_N counts (R49). -/
def warmActs (s : State) : Bool :=
  s.power.hold == .none && [Phase.rom, .loadWait, .dieshInit, .done].contains s.power.phase && !s.sleep.asleep

/-- WARM_N_ASSERT (R49). -/
def execWarmNAssert (s : State) : Res := .next (if warmActs s then warmReset s else s)

/-- WARM_RESET_START: 100 µs after CMD_DEVICE_RESET, or at the fallback of a RESTART activation (R126, R509). -/
def execWarmResetStart (s : State) : Res := .next (if s.power.warmDue ∧ warmActs s then warmReset s else s)

/-- POWER_UP_BIST_COMPLETE: what BIST found, and `root`, whether the verification of a generated root passes
(R398, R515 to R517, R522). -/
def execPowerUpBistComplete (duration noRef : Nat) (fails : List BistFail) (soft : List Repair) (root : Bool) (s : State) : Res :=
  if s.power.phase ≠ .bist then .next s
  else
    let soft := (soft.take 64).map (fun r => { r with origin := 0, candidate := false })
    let s := bistRecord 0 duration noRef soft.length fails { s with alarms := { s.alarms with soft := soft } }
    let s := if soft.isEmpty then s else raise 105 0 (countN 255 290 soft.length s)
    if s.test.bist.outcome = 2 then .next (bootFailed 4 s)
    else
      let s := forEach (bistUnits s.test.bist.fails) (fun f s => alarm 10 (bistLoc f) s) (bistApply s)
      let (good, s) := rootGenerate root s
      .next (if good then romStart s else bootFailed 4 s)

/-- PCIE_PERST_ASSERT (R67). -/
def execPciePerstAssert (s : State) : Res :=
  let s := endpointReset s
  .next { s with host := { s.host with secRid := 0, secEn := false }, power := { s.power with perst := true } }

/-- PCIE_HOT_RESET (R67). -/
def execPcieHotReset (s : State) : Res := .next (if s.power.perst then s else endpointReset s)

/-- PCIE_FLR (R67). -/
def execPcieFlr (s : State) : Res := .next (if s.power.perst then s else endpointReset s)

end Sys2Proof.Machine
end

