-- ==== Sys2Proof/Machine/Update.lean ====
section
/-! DEFINITION. Field update: reception, delivery, activation, trial, coordination, and commands 0x0005 and 0x0D00 to 0x0D07
(spec/16, R491 to R514). -/

namespace Sys2Proof.Machine

/-! ### Manifest checks (R491, R492, R494, R496) -/

/-- A part entry is in form and names devices of the table only. -/
def partFormed (m : Bytes) (i : Nat) : Bool :=
  let n := partLen m i
  decide (1 ≤ partKind m i) && decide (partKind m i ≤ 4) && decide (1 ≤ n) && decide (n ≤ 16777216) &&
    partBlocks m i == (n + 65535) / 65536 &&
    (bitsOf 64 (partMask m i)).all (fun d => (mfTable m).any (fun e => e.1 == d))

/-- A device is named by exactly one part of a kind. -/
def namedOnce (m : Bytes) (dev kind : Nat) : Bool := countIf (fun i => partKind m i == kind) (partsFor m dev) == 1

/-- The first check of R494: R491 and R492 hold; which parts anchor 0 may carry is judged by the second (log entry 51). -/
def mfFormed (m : Bytes) : Bool :=
  let devs := (mfTable m).map (·.1)
  u32 m 0 == 0x4E4D5356 && u16 m 4 == 1 && decide (1 ≤ mfDevices m) && decide (mfDevices m ≤ 64) &&
    decide (1 ≤ mfParts m) && decide (mfParts m ≤ 255) &&
    mfLen m == 64 + 16 * mfDevices m + 112 * mfParts m + 5454 && m.length == mfLen m &&
    devs.all (fun d => decide (d < 64)) && devs.eraseDups.length == devs.length &&
    (List.range (mfParts m)).all (partFormed m) &&
    devs.all (fun d => namedOnce m d 1 && namedOnce m d 2 && (mfAnchor m == 0 || (namedOnce m d 3 && namedOnce m d 4)))

/-- Bytes of a flash bank (R495). -/
def bankBytes : Nat := clamp 0x2000000 0x8000000 Config.bankBytesRaw

/-- Bytes that a part takes in the PARTS area (R496). -/
def partRoom (n : Nat) : Nat := (n + 65535) / 65536 * 65536

/-- Room for the device's own parts, with those that an anchor-0 package carries over (R492, R496). -/
def partsFit (m : Bytes) (s : State) : Bool :=
  let own := sumBy (fun i => partRoom (partLen m i)) (partsFor m devId)
  let kept := if mfAnchor m = 0 then
      partRoom (bankPart (runBank s) 3 s).length + partRoom (bankPart (runBank s) 4 s).length else 0
  decide (0x880000 + own + kept ≤ bankBytes)

/-- The device's own id is in the table. -/
def mfNames (m : Bytes) : Bool := (mfTable m).any (fun e => e.1 == devId)

/-- The checks of R494 in order: the status of the first that fails, or OK. -/
def manifestStatus (m : Bytes) (s : State) : Nat × State :=
  if !mfFormed m then (stConflict, s)
  else
    let v := verify (mfAnchor m) (sha384 (m.take (mfSigned m))) (m.drop (mfSigned m)) s
    let s := countVerify v s
    if !(v.1 && v.2.1 && v.2.2) ∨ (mfAnchor m = 0 ∧ (List.range (mfParts m)).any (fun i => decide (3 ≤ partKind m i))) then
      (stAuth, s)
    else if mfVersion m < s.flash.floor then (stConflict, s)
    else if (mfTable m).any (fun e => e.1 == devId && e.2 != ident) then (stConflict, s)
    else if mfNames m ∧ !partsFit m s then (stNoSpace, s)
    else (stOk, s)

/-! ### Relaying (R500, R501) -/

/-- DOWNSTREAM ports that receive the package. -/
def relayPorts (s : State) : List Nat := if s.upd.solo then [] else (downPorts s).filter (fun p => !s.upd.failed.contains p)

/-- Send a piece whole on a port, in fragments of at most 1,440 bytes. -/
def sendPiece (port : Nat) (x : RelayItem) (s : State) : State :=
  let fs := chunksOf 1440 47 x.data
  forEach (List.range fs.length) (fun i s =>
    let d := fs.getD i []
    chainSend port (chainHeader 6 x.part (updPkg s) x.block d.length (1440 * i) 0 ++ d) s) s

/-- Times a piece has been sent on a port. -/
def sentOn (x : RelayItem) (p : Nat) : Nat := ((x.sent.find? (fun e => e.1 == p)).map (·.2)).getD 0

/-- Two pieces are the same manifest, leaf table or block. -/
def samePiece (part block : Nat) (x : RelayItem) : Bool := x.part == part && x.block == block

/-- Replace a waiting piece. -/
def setPiece (y : RelayItem) (s : State) : State :=
  { s with upd := { s.upd with queue := s.upd.queue.map (fun x => if samePiece y.part y.block x then y else x) } }

/-- Send a waiting piece on a port and count the sending. -/
def sendOn (p : Nat) (x : RelayItem) (s : State) : State :=
  sendPiece p x (setPiece { x with sent := (p, sentOn x p + 1) :: x.sent.filter (fun e => e.1 != p) } s)

/-- Pieces sent and not acknowledged on a port. -/
def unacked (p : Nat) (s : State) : Nat := countIf (fun x => x.ports.contains p && decide (0 < sentOn x p)) s.upd.queue

/-- Send on every port what its window of 4 allows (R501). -/
def relaySend (s : State) : State :=
  forEach (downPorts s) (fun p s =>
    forEach (List.range 4) (fun _ s =>
      match s.upd.queue.find? (fun x => x.ports.contains p && sentOn x p == 0) with
      | some x => if unacked p s < 4 then sendOn p x s else s
      | none => s) s) s

/-- Order of forwarding: the manifest, leaf tables, blocks (R501). -/
def pieceRank (x : RelayItem) : Nat := if x.part = 0xFF then 0 else if x.block = 0xFFFF then 1 else 2

/-- Insert a piece behind those of its rank and before later ones. -/
def insertPiece (x : RelayItem) : List RelayItem → List RelayItem
  | [] => [x]
  | y :: l => if pieceRank x < pieceRank y then x :: y :: l else y :: insertPiece x l

/-- A verified piece waits for its downstream acknowledgements. -/
def relayAdd (part block : Nat) (data : Bytes) (s : State) : State :=
  if (relayPorts s).isEmpty then s
  else
    let x : RelayItem := { part := part, block := block, data := data, ports := relayPorts s }
    relaySend (count 255 276 { s with upd := { s.upd with queue := insertPiece x s.upd.queue } })

/-- The relay bank holds 8 blocks and is full (R501). -/
def relayFull (s : State) : Bool :=
  !(relayPorts s).isEmpty && decide (8 ≤ countIf (fun x => decide (x.part ≠ 0xFF)) s.upd.queue)

/-- A port is done with a piece: with no port left the piece goes. -/
def relayDone (p : Nat) (hit : RelayItem → Bool) (s : State) : State :=
  let q := s.upd.queue.map (fun x => if hit x then { x with ports := x.ports.filter (fun k => k != p) } else x)
  { s with upd := { s.upd with queue := q.filter (fun x => !x.ports.isEmpty) } }

/-! ### Reception (R499) -/

/-- Ranges cover the bytes below `n`. -/
def covered (n : Nat) (got : List (Nat × Nat)) : Bool :=
  let reach := (List.range (got.length + 1)).foldl (fun pos _ =>
    match got.find? (fun e => decide (e.1 ≤ pos) && decide (pos < e.1 + e.2)) with
    | some e => e.1 + e.2
    | none => pos) 0
  decide (n ≤ reach)

def asmAdd (a : Assembly) (off : Nat) (d : Bytes) : Assembly :=
  { mem := Memory.writeN a.mem off d, got := (off, d.length) :: a.got }

/-- The part of the package in the running bank's own manifest with the same KIND and ROOT, when its bytes still have that
ROOT (R499 step 4). -/
def unchanged (m : Bytes) (i : Nat) (s : State) : Bool :=
  let k := partKind m i
  let b := flashBank (runBank s) s
  match partOfKind b.manifest devId k with
  | some j => partRoot b.manifest j == partRoot m i && rootOf (bankPart (runBank s) k s) == partRoot m i
  | none => false

/-- The blocks of some kinds of a bank. -/
def blocksOf (kinds : List Nat) (n : Nat) (s : State) : Tbl Bytes :=
  (flashBank n s).blocks.filter (fun e => kinds.contains (e.1 / 65536))

/-- A manifest is accepted: the inactive bank is erased and set to RECEIVING, unchanged parts are copied, the manifest goes
downstream (R494, R499). -/
def manifestAccept (m : Bytes) (solo : Bool) (s : State) : State :=
  let relay := !mfNames m
  let own := partsFor m devId
  let same := own.filter (fun i => unchanged m i s)
  let kinds := same.map (partKind m) ++ (if mfAnchor m = 0 then [3, 4] else [])
  let n := otherBank s
  let fresh := mfPkg m ≠ updPkg s
  let s := { s with
    upd := { s.upd with
      fellBack := false, draft := {}, manifest := m, relay := relay, solo := solo, leaves := [], asm := [], have_ := []
      copied := same, queue := [], failed := [], t := 0, loadDue := false, restart := false }
    flash := { s.flash with lastSeq := if fresh then [] else s.flash.lastSeq } }
  let s := if relay then s else
    bankHeader n (fun b => { ({} : FlashBank) with
      state := 1, pkg := mfPkg m, version := mfVersion m, seq := b.seq, manifest := m
      blocks := blocksOf kinds (runBank s) s }) (saveRecord s)
  let s := raise 96 0 (count 255 272 s)
  relayAdd 0xFF 0 m (updState 1 false s)

/-- A manifest is refused (R511, R513). -/
def manifestFail (s : State) : State := raise 96 1 (count 255 273 s)

/-- What a complete leaf table or block is: 1 verified, 2 a block without its leaf table, 3 wrong (R493, R499). -/
def pieceCheck (part block : Nat) (d : Bytes) (s : State) : Nat :=
  let m := s.upd.manifest
  if block = 0xFFFF then
    if d.length = 48 * partBlocks m part ∧ treeRoot (leavesOf d) = partRoot m part then 1 else 3
  else match Tbl.find s.upd.leaves part with
    | none => 2
    | some t => if leafOf block d = slice t (48 * block) 48 then 1 else 3

/-- A verified leaf table or block is stored where it is the device's own, and forwarded (R499, R501). -/
def pieceTake (part block : Nat) (d : Bytes) (s : State) : State :=
  let m := s.upd.manifest
  let key := 65536 * part + block
  let again := s.upd.have_.contains key
  let own := !s.upd.relay && (partMask m part).testBit devId && !s.upd.copied.contains part
  let s := if block = 0xFFFF then
      let s := { s with upd := { s.upd with leaves := Tbl.set s.upd.leaves part d [] } }
      if s.upd.relay then s else
        let b := flashBank (otherBank s) s
        setFlashBank (otherBank s) { b with leaves := Tbl.set b.leaves part d [] } s
    else if own ∧ !again ∧ s.upd.state = 1 then
      let b := flashBank (otherBank s) s
      count 255 274 (setFlashBank (otherBank s) { b with blocks := Tbl.set b.blocks (65536 * partKind m part + block) d [] } s)
    else s
  if again then s
  else relayAdd part block d { s with upd := { s.upd with have_ := key :: s.upd.have_ } }

/-- A piece that fails is discarded and counted (R499). -/
def pieceFail (s : State) : State := raise 96 2 (count 255 275 s)

/-- Length of a piece. -/
def pieceLen (m : Bytes) (part block : Nat) : Nat := if block = 0xFFFF then 48 * partBlocks m part else blockLen m part block

/-- A part and block that the package has. -/
def pieceExists (m : Bytes) (part block : Nat) : Bool :=
  decide (part < mfParts m) && (block == 0xFFFF || decide (block < partBlocks m part))

/-- Bytes of a piece arrive: the result 0 held, 1 complete and verified, 2 without its leaf table, 3 wrong; a verified piece
is taken. -/
def pieceBytes (part block off : Nat) (d : Bytes) (s : State) : Nat × State :=
  let key := 65536 * part + block
  let n := pieceLen s.upd.manifest part block
  let a := asmAdd (Tbl.get s.upd.asm key {}) off d
  if !covered n a.got then (0, { s with upd := { s.upd with asm := Tbl.set s.upd.asm key a {} } })
  else
    let s := { s with upd := { s.upd with asm := Tbl.erase s.upd.asm key } }
    let whole := Memory.readN a.mem 0 n
    let r := pieceCheck part block whole s
    (r, if r = 1 then pieceTake part block whole s else if r = 3 then pieceFail s else s)

/-! ### Chain frames (R500 to R502) -/

/-- Vintner takes from queue 673 the first chain frame of a kind that came in on a port, from its header on. A frame that is no
chain frame of VERSION 1 and a known KIND counts as DATA and is discarded there. -/
def takeChain (port kind : Nat) (s : State) : Option (Bytes × State) :=
  let v := vatQueue 673 s
  let hit (x : Copy) : Bool :=
    let b := copyBytes x s
    x.ingress == port && beN b 12 2 == 0x88B6 &&
      (let k := if u8 b 14 = 1 ∧ 7 ≤ u8 b 15 ∧ u8 b 15 ≤ 12 then u8 b 15 else 6
       k == kind)
  match takeFirst hit v.copies with
  | some (x, rest) =>
    let b := copyBytes x s
    some (b.drop 14, releaseRef x.fid (setVatQueue 673 { v with copies := rest } (emit (.toVintner b) s)))
  | none => none

def chKind (p : Bytes) : Nat := u8 p 1
def chDev (p : Bytes) : Nat := u8 p 2
def chPart (p : Bytes) : Nat := u8 p 3
def chPkg (p : Bytes) : Nat := beN p 4 8
def chBlock (p : Bytes) : Nat := beN p 12 2
def chLen (p : Bytes) : Nat := beN p 14 2
def chOff (p : Bytes) : Nat := beN p 16 4
def chSeq (p : Bytes) : Nat := beN p 20 4

/-- A control frame is taken: its TAG verifies and its SEQ rises; the answer is the frame without padding (R502). -/
def takeControl (port kind : Nat) (s : State) : Option Bytes × State :=
  match takeChain port kind s with
  | none => (none, s)
  | some (p, s) =>
    let n := 24 + chLen p
    let good := match chainKey s.upd.chain.verSlot 6 s with
      | some key => slice p n 16 == cmac key (p.take n) && decide (n + 16 ≤ p.length)
      | none => false
    if !good then (none, raise 97 1 (count 255 278 s))
    else if chSeq p + 1 ≤ Tbl.get s.flash.lastSeq (chDev p) 0 then (none, s)
    else (some (p.take (n + 16)), { s with flash := { s.flash with lastSeq := Tbl.set s.flash.lastSeq (chDev p) (chSeq p + 1) 0 } })

/-- Relay a control frame unchanged. -/
def relayFrame (ports : List Nat) (p : Bytes) (s : State) : State := forEach ports (fun q s => chainSend q p s) s

/-- Relay a frame down the tree while its DEVICE_MASK names another device. -/
def relayDown (mask : Nat) (p : Bytes) (s : State) : State :=
  if (bitsOf 64 mask).any (fun d => d != devId) then relayFrame (downPorts s) p s else s

/-- CTRL_ACK of a control frame. -/
def ctrlAck (p : Bytes) (s : State) : State :=
  controlSend 12 (chPkg p) (b1 (chKind p) ++ be 4 (chSeq p) ++ b1 stOk) (upPorts s) s

/-- DATA_ACK of a piece on UPSTREAM. -/
def dataAck (part block pkg : Nat) (s : State) : State :=
  forEach (upPorts s) (fun q s => chainSend q (chainHeader 7 part pkg block 0 0 0) s) s

/-- Bytes of a manifest from UPSTREAM. -/
def chainManifest (p : Bytes) (s : State) : State :=
  let off := chOff p
  let d := slice p 24 (chLen p)
  let a := asmAdd (if off = 0 then {} else s.upd.draft) off d
  let s := { s with upd := { s.upd with draft := a } }
  let n := mfLen (Memory.readN a.mem 0 32)
  if !covered 32 a.got ∨ 65536 < n ∨ !covered n a.got then s
  else
    let m := Memory.readN a.mem 0 n
    let s := { s with upd := { s.upd with draft := {} } }
    if m = s.upd.manifest ∧ s.upd.state ≠ 0 ∧ s.upd.state ≠ 6 then dataAck 0xFF 0 (mfPkg m) s
    else if 3 ≤ s.upd.state ∧ s.upd.state ≤ 5 then s
    else
      let (st, s) := manifestStatus m s
      if st = stOk then dataAck 0xFF 0 (mfPkg m) (manifestAccept m false s) else manifestFail s

/-- CHAIN_DATA_RECEIVE (R499, R501). -/
def execChainDataReceive (port : Nat) (s : State) : Res :=
  match takeChain port 6 s with
  | none => .next s
  | some (p, s) =>
    if s.upd.chain.upstream ≠ port ∨ u8 p 0 ≠ 1 ∨ chKind p ≠ 6 ∨ p.length < 24 + chLen p ∨ 1440 < chLen p then .next s
    else if chPart p = 0xFF then .next (chainManifest p s)
    else
      let part := chPart p
      let block := chBlock p
      let ok := chPkg p == updPkg s && decide (1 ≤ s.upd.state) && s.upd.state != 6 && pieceExists s.upd.manifest part block &&
        decide (chOff p + chLen p ≤ pieceLen s.upd.manifest part block)
      if !ok then .next s
      else if s.upd.have_.contains (65536 * part + block) then .next (dataAck part block (updPkg s) s)
      else if relayFull s then .next { s with upd := { s.upd with asm := Tbl.erase s.upd.asm (65536 * part + block) } }
      else
        let (r, s) := pieceBytes part block (chOff p) (slice p 24 (chLen p)) s
        .next (if r = 1 then dataAck part block (updPkg s) s else s)

/-- CHAIN_DATA_ACK_RECEIVE (R501). -/
def execChainDataAckReceive (port : Nat) (s : State) : Res :=
  match takeChain port 7 s with
  | none => .next s
  | some (p, s) =>
    if s.upd.chain.downstream.getLsbD port ∧ chPkg p = updPkg s then
      .next (relaySend (relayDone port (fun x => samePiece (chPart p) (chBlock p) x && decide (0 < sentOn x port)) s))
    else .next s

/-- CHAIN_RETRANSMIT_TIMER: a piece has gone unacknowledged on a port for 200 ms (R501). -/
def execChainRetransmitTimer (port part block : Nat) (s : State) : Res :=
  match s.upd.queue.find? (fun x => samePiece part block x && x.ports.contains port && decide (0 < sentOn x port)) with
  | none => .next s
  | some x =>
    if 10 ≤ sentOn x port then
      let s := relayDone port (fun _ => true) { s with upd := { s.upd with failed := port :: s.upd.failed } }
      .next (raise 97 0 s)
    else .next (sendOn port x (count 255 277 s))

/-! ### Activation (R505 to R507) -/

/-- DIESH and DEN of the package equal those of the running bank: a SWAP activation (R506). -/
def sameFirmware (s : State) : Bool :=
  let m := s.upd.manifest
  let b := (flashBank (runBank s) s).manifest
  [1, 2].all (fun k => match partOfKind m devId k, partOfKind b devId k with
    | some i, some j => partRoot m i == partRoot b j
    | _, _ => false)

/-- The conditions of R505: 0 all hold, 1 all but the time, 2 not. -/
def armJudge (pkg mask t : Nat) (s : State) : Nat :=
  if s.upd.state ≠ 2 ∨ pkg ≠ updPkg s ∨ !mask.testBit devId ∨ !tbEnabled 1 s then 2
  else if t < tbNow 1 s + 200000000 then 1 else 0

/-- A late ARM (R505). -/
def armLate (s : State) : State := raise 98 1 (count 255 279 s)

/-- The device is ARMED (R505, R506). -/
def armAccept (t trialS mask : Nat) (s : State) : State :=
  let restart := !sameFirmware s
  let s := { s with upd := { s.upd with t := t, trialS := clamp 10 3600 trialS, mask := mask, restart := restart, loadDue := !restart } }
  let s := raise 98 0 (updState 3 s.upd.fellBack s)
  if restart then s else swapLoad s

/-- The settings of the bank that becomes TRIAL, made from those of the GOOD bank (R507). -/
def trialSettings (s : State) : Settings :=
  { (flashBank (runBank s) s).settings with trialS := s.upd.trialS, mask := s.upd.mask }

/-- TRIAL_OK (R508). -/
def trialOk (s : State) : State := raise 99 0 (updState 5 false s)

/-- Activation of a SWAP: the armed swap fires and the trial runs (R506, R508). -/
def activateSwap (s : State) : State :=
  let x := trialSettings s
  let s := bankHeader (otherBank s) (fun b => { b with state := 3, attempts := 0, kind := 0, settings := x, fell := 0 }) s
  let s := raise 98 3 (count 255 280 (swapNow s))
  trialOk (updState 4 false { s with upd := { s.upd with t := 0, trialFrom := now s } })

/-- Activation of a RESTART: a warm reset into the TRIAL bank; Diesh reports the activation when it has booted (R506). -/
def activateRestart (s : State) : State :=
  let x := trialSettings s
  warmReset (bankHeader (otherBank s) (fun b => { b with state := 3, attempts := 0, kind := 1, settings := x, fell := 0 }) s)

/-- UPDATE_ACTIVATION: TB1 reads at or after T (R506). -/
def execUpdateActivation (s : State) : Res :=
  if s.upd.state ≠ 3 ∨ !tbEnabled 1 s ∨ tbNow 1 s < s.upd.t then .next s
  else if s.upd.restart then .next (activateRestart s)
  else if updSwap s then .next (activateSwap s)
  else .next s

/-- SHADOW_READY_DEADLINE: at T − 100 ms the shadow of a SWAP activation is not READY (R506). -/
def execShadowReadyDeadline (s : State) : Res :=
  if s.upd.state = 3 ∧ s.upd.loadDue ∧ tbEnabled 1 s ∧ s.upd.t ≤ tbNow 1 s + 100000000 then
    .next (armLate (updState 2 s.upd.fellBack { s with upd := { s.upd with t := 0, loadDue := false } }))
  else .next s

/-- An ABORT of an ARMED device: its ARM and its swap go (R505). -/
def armWithdraw (s : State) : State := armCancel (if updSwap s then swapCancel s else s)

/-- Fallback of a trial (R509). A RESTART activation warm-resets into the GOOD bank, where Diesh reports it. -/
def fallBack (s : State) : State :=
  match bankIn 3 s with
  | none => s
  | some n =>
    let restart := s.upd.restart
    let s := bankHeader n (fun b => { b with state := 2, fell := if restart then 1 else 2 }) s
    if restart then { s with power := { s.power with warmDue := true } }
    else
      let stay := (flashBank (runBank s) s).settings.stay
      let s := { s with sleep := { s.sleep with nm := { s.sleep.nm with log := stay } } }
      swapBack (raise 99 2 (count 255 281 (updState 2 true s)))

/-- CONFIRM: the TRIAL bank is GOOD (R508). -/
def confirmTrial (s : State) : State :=
  match bankIn 3 s with
  | none => s
  | some n =>
    let s := match bankIn 4 s with
      | some g => bankHeader g (fun b => { b with state := 5 }) s
      | none => s
    let s := bankHeader n (fun b => { b with state := 4 }) s
    let s := saveRecord { s with flash := { s.flash with floor := max s.flash.floor (mfFloor s.upd.manifest) } }
    raise 99 1 (count 255 282 (updState 0 false s))

/-- The device is in TRIAL or TRIAL_OK. -/
def inTrial (s : State) : Bool := s.upd.state == 4 || s.upd.state == 5

/-- ABORT as it acts on this device (R505, R509). -/
def abortHere (s : State) : State :=
  if s.upd.state = 3 then armWithdraw s else if inTrial s then fallBack s else s

/-- TRIAL_WINDOW_EXPIRY: TRIAL_S in TB0 since activation (R508, R509). -/
def execTrialWindowExpiry (s : State) : Res :=
  if inTrial s ∧ s.upd.trialFrom + 1000000000 * s.upd.trialS ≤ now s then .next (fallBack s) else .next s

/-! ### Control frames (R502, R505, R508 to R510) -/

/-- CHAIN_ARM_RECEIVE. An ARMED device acknowledges a repeated ARM of the same T again (log entry 52). -/
def execChainArmReceive (port : Nat) (s : State) : Res :=
  match takeControl port 8 s with
  | (none, s) => .next s
  | (some p, s) =>
    if s.upd.chain.upstream ≠ port then .next s
    else
      let t := beN p 24 8
      let mask := beN p 36 8
      let s := relayDown mask p s
      if s.upd.state = 3 ∧ chPkg p = updPkg s ∧ mask.testBit devId ∧ s.upd.t = t then .next (ctrlAck p s)
      else match armJudge (chPkg p) mask t s with
        | 0 => .next (ctrlAck p (armAccept t (beN p 32 4) mask s))
        | 1 => .next (armLate s)
        | _ => .next s

/-- CHAIN_CONFIRM_RECEIVE; a device that has confirmed acknowledges a repeated CONFIRM again (log entry 52). -/
def execChainConfirmReceive (port : Nat) (s : State) : Res :=
  match takeControl port 9 s with
  | (none, s) => .next s
  | (some p, s) =>
    if s.upd.chain.upstream ≠ port then .next s
    else
      let mask := beN p 24 8
      let s := relayDown mask p s
      if chPkg p ≠ updPkg s ∨ !mask.testBit devId then .next s
      else if inTrial s then .next (ctrlAck p (confirmTrial s))
      else if s.upd.state = 0 then .next (ctrlAck p s)
      else .next s

/-- CHAIN_ABORT_RECEIVE. -/
def execChainAbortReceive (port : Nat) (s : State) : Res :=
  match takeControl port 10 s with
  | (none, s) => .next s
  | (some p, s) =>
    if s.upd.chain.upstream ≠ port then .next s
    else
      let mask := beN p 24 8
      let s := relayDown mask p s
      if chPkg p = updPkg s ∧ mask.testBit devId ∧ (s.upd.state = 3 ∨ inTrial s) then .next (abortHere (ctrlAck p s))
      else .next s

/-- CHAIN_STATUS_RECEIVE: the coordinator takes the report, another device relays it up (R502, R510). -/
def execChainStatusReceive (port : Nat) (s : State) : Res :=
  match takeControl port 11 s with
  | (none, s) => .next s
  | (some p, s) =>
    if !s.upd.chain.downstream.getLsbD port then .next s
    else if s.upd.chain.coord then
      .next (takeReport (chDev p) { state := u8 p 24, fellBack := bit p 25 0, flags := u8 p 25, remain := beN p 28 4
                                    fwrev := beN p 40 4, time := now32 s } s)
    else .next (relayFrame (upPorts s) p s)

/-- CHAIN_CTRL_ACK_RECEIVE (R502, R505, R510). -/
def execChainCtrlAckReceive (port : Nat) (s : State) : Res :=
  match takeControl port 12 s with
  | (none, s) => .next s
  | (some p, s) =>
    if !s.upd.chain.downstream.getLsbD port then .next s
    else if s.upd.chain.coord then
      let d := chDev p
      let gone (l : List Nat) : List Nat := l.filter (fun k => k != d)
      .next { s with upd := { s.upd with
        armWait := if u8 p 24 = 8 then gone s.upd.armWait else s.upd.armWait
        confWait := if u8 p 24 = 9 then gone s.upd.confWait else s.upd.confWait } }
    else .next (relayFrame (upPorts s) p s)

/-- UPD_STATUS_TIMER: every 1 s while the state is neither IDLE nor FAILED (R502). -/
def execUpdStatusTimer (s : State) : Res :=
  .next (if dieshUp s ∧ s.upd.state ≠ 0 ∧ s.upd.state ≠ 6 then sendStatus s else s)

/-! ### The coordinator (R505, R510) -/

/-- DEVICE_MASK of a list of devices. -/
def maskOf (l : List Nat) : Nat := sumBy (fun d => 2 ^ d) l

/-- Devices of a DEVICE_MASK. -/
def maskDevs (mask : Nat) : List Nat := bitsOf 64 mask

/-- State that a device reports; this device's own state at once. -/
def devState (d : Nat) (s : State) : Nat := if d = devId then s.upd.state else (devReport d s).state

/-- ARM to devices, down the tree. -/
def sendArm (devs : List Nat) (s : State) : State :=
  controlSend 8 (updPkg s) (be 8 s.upd.armT ++ be 4 s.upd.armS ++ be 8 (maskOf devs)) (downPorts s) s

/-- CONFIRM or ABORT to devices, down the tree. -/
def sendMask (kind : Nat) (devs : List Nat) (s : State) : State :=
  controlSend kind (updPkg s) (be 8 (maskOf devs)) (downPorts s) s

/-- ARM_REPEAT_TIMER: every 100 ms until T − 200 ms (R505). -/
def execArmRepeatTimer (s : State) : Res :=
  if s.upd.chain.coord ∧ !s.upd.armWait.isEmpty ∧ tbEnabled 1 s ∧ tbNow 1 s + 200000000 ≤ s.upd.armT then
    .next (sendArm s.upd.armWait s)
  else .next s

/-- The trial window that a device last reported still runs. -/
def windowRuns (d : Nat) (s : State) : Bool :=
  let r := devReport d s
  decide ((now32 s + 4294967296 - r.time) % 4294967296 < 1000000000 * r.remain)

/-- CONFIRM_REPEAT_TIMER: every 1 s to each device that has not acknowledged, until its window ends (R510). -/
def execConfirmRepeatTimer (s : State) : Res :=
  let w := s.upd.confWait.filter (fun d => windowRuns d s)
  let s := { s with upd := { s.upd with confWait := w } }
  if s.upd.chain.coord ∧ s.upd.confirming ∧ !w.isEmpty then .next (sendMask 9 w s) else .next s

/-- INCOMPLETE_CHECK: 5 s after T; after a RESTART activation of the coordinator itself the time runs in TB0 from its own
activation (R510; log entry 53). -/
def execIncompleteCheck (s : State) : Res :=
  let due := if inTrial s then decide (s.upd.trialFrom + 5000000000 ≤ now s)
    else tbEnabled 1 s && decide (s.upd.armT + 5000000000 ≤ tbNow 1 s)
  let miss := (maskDevs s.upd.armMask).filter (fun d => devState d s != 4 && devState d s != 5)
  if s.upd.chain.coord ∧ due ∧ !miss.isEmpty then .next (raise 99 3 { s with upd := { s.upd with armMask := 0 } })
  else .next s

/-- PACKAGE_READBACK_COMPLETE: the ROOTs of the parts read back; `flashErr` is a flash program error (R499 step 5). -/
def execPackageReadbackComplete (flashErr : Bool) (s : State) : Res :=
  if s.upd.state ≠ 1 ∨ s.upd.relay ∨ blocksDone s < blocksTotal s then .next s
  else
    let m := s.upd.manifest
    let n := otherBank s
    let good := (ownParts s).all (fun i => rootOf (bankPart n (partKind m i) s) == partRoot m i)
    if good ∧ !flashErr then
      .next (raise 96 3 (updState 2 false (bankHeader n (fun b => { b with state := 2, fell := 0 }) s)))
    else .next (raise 96 4 (count 255 284 (updState 6 false s)))

/-! ### Commands (R514) -/

/-- CMD_UPD_STATUS. -/
def cmdUpdStatus : Cmd :=
  { code := 0x0D00, may := fun _ => true, lenOk := len 0
    body := fun _ s =>
      let u := s.upd
      ok (b1 u.state ++ b1 (b2n u.fellBack + 2 * b2n u.restart) ++ b1 (flashBank 0 s).state ++ b1 (flashBank 1 s).state ++
        b8 (updPkg s) ++ b4 (blocksDone s) ++ b4 (blocksTotal s) ++ b8 u.t ++ b4 (remainS s) ++ b4 s.flash.floor) s }

/-- A range of a bank that MB0 owns. -/
def bankRange (bank off n : Nat) (s : State) : Bool :=
  decide (bank < 16) && (bankOf bank s).owner == 1 && !(bankOf bank s).busy && decide (off + n ≤ bankSize)

/-- SOURCE fits the mailbox: a bank for MB0, inline for MB4. -/
def sourceOk (r : Req) (src : Nat) : Bool := src == (if r.mb = 4 then 1 else 0)

/-- CMD_UPD_MANIFEST. -/
def cmdUpdManifest : Cmd :=
  { code := 0x0D01, may := mbs [0, 4], lenOk := fun p => decide (12 ≤ p.length) && (u8 p 0 == 1 || p.length == 12)
    idx := fun r s =>
      let p := r.params
      need (sourceOk r (u8 p 0) && (r.mb == 4 || bankRange (u8 p 1) (u32 p 4) (u32 p 8) s))
    body := fun r s =>
      let p := r.params
      let total := u32 p 8
      let inl := r.mb == 4
      let d := p.drop 12
      if inl ∧ total < u32 p 4 + d.length then fail stLength s
      else if 3 ≤ s.upd.state ∧ s.upd.state ≤ 5 then fail stState s
      else
        let s := if inl then
            { s with upd := { s.upd with draft := asmAdd (if u32 p 4 = 0 then {} else s.upd.draft) (u32 p 4) d } } else s
        if !bit p 2 0 then ok [] s
        else if 65536 < total then fail stConflict (manifestFail s)
        else
          let (m, lost, s) := if inl then (Memory.readN s.upd.draft.mem 0 total, !covered total s.upd.draft.got, s)
            else bankRead (u8 p 1) (u32 p 4) total s
          let s := { s with upd := { s.upd with draft := {} } }
          if lost then fail stConflict (manifestFail s)
          else
            let (st, s) := manifestStatus m s
            if st = stOk then ok [] (manifestAccept m inl s) else fail st (manifestFail s) }

/-- CMD_UPD_DATA. -/
def cmdUpdData : Cmd :=
  { code := 0x0D02, may := mbs [0, 4], lenOk := fun p => decide (20 ≤ p.length) && (u8 p 1 == 1 || p.length == 20)
    idx := fun r s =>
      let p := r.params
      need (sourceOk r (u8 p 1) && (r.mb == 4 || bankRange (u8 p 2) (u32 p 16) (u32 p 12) s) &&
        (s.upd.state != 1 || pieceExists s.upd.manifest (u8 p 0) (u16 p 4)))
    body := fun r s =>
      let p := r.params
      let part := u8 p 0
      let block := u16 p 4
      let n := u32 p 12
      if s.upd.state ≠ 1 then fail stState s
      else if (r.mb = 4 ∧ p.length ≠ 20 + n) ∨ pieceLen s.upd.manifest part block < u32 p 8 + n then fail stLength s
      else if relayFull s then fail stBusy s
      else
        let (d, lost, s) := if r.mb = 4 then (p.drop 20, false, s) else bankRead (u8 p 2) (u32 p 16) n s
        if lost then .done stAuth (b1 2) (pieceFail s)
        else
          let (k, s) := pieceBytes part block (u32 p 8) d s
          match k with
          | 3 => .done stAuth (b1 2) s
          | k => ok (b1 k) s }

/-- A chain slot obeys R466 for class 5: the USAGE, the class among its owners, no usage limit (R502). -/
def chainSlotOk (n use : Nat) (s : State) : Bool :=
  let x := slotOf n s
  decide (n < 240) && x.status == 1 && usageOk use false x.attr && (attrOwner x.attr).testBit 5 && !attrLimited x.attr

/-- The response of CMD_UPD_CHAIN. -/
def chainRsp (op : Nat) (s : State) : Bytes :=
  let c := s.upd.chain
  b1 op ++ b1 c.upstream ++ b1 (b2n c.coord) ++ b1 c.tc ++ b4 c.downstream.toNat ++ b1 c.genSlot ++ b1 c.verSlot ++ zeros 2

/-- CMD_UPD_CHAIN (R500). -/
def cmdUpdChain : Cmd :=
  { code := 0x0D03, may := readAny 0 [0], lenOk := len 12
    idx := fun r _ =>
      let p := r.params
      need (u8 p 0 == 0 || (u8 p 0 == 1 && (decide (u8 p 1 < 32) || u8 p 1 == 0xFF) && decide (u8 p 3 < 8) &&
        decide (u8 p 8 < 240) && decide (u8 p 9 < 240)))
    body := fun r s =>
      let p := r.params
      if u8 p 0 = 0 then ok (chainRsp 0 s) s
      else
        let down := u32 p 4
        if s.upd.state ≠ 0 ∧ s.upd.state ≠ 6 then fail stState s
        else if 4 < (bitsOf 32 down).length ∨ (u8 p 1 < 32 ∧ down.testBit (u8 p 1)) ∨ (bit p 2 0 ∧ u8 p 1 ≠ 0xFF) ∨
            !chainSlotOk (u8 p 8) 5 s ∨ !chainSlotOk (u8 p 9) 6 s then fail stConflict s
        else
          let c : Chain := { upstream := u8 p 1, downstream := BitVec.ofNat 32 down, coord := bit p 2 0, tc := u8 p 3
                             genSlot := u8 p 8, verSlot := u8 p 9 }
          let s := keepSettings (fun x => { x with chain := c }) { s with upd := { s.upd with chain := c, failed := [] } }
          ok (chainRsp 1 s) s }

/-- The mailbox may use this SCOPE: MB0 either, MB4 SCOPE 0. -/
def scopeMay (r : Req) : Bool := r.mb == 0 || (r.mb == 4 && u8 r.params 0 == 0)

/-- CMD_UPD_ARM (R503, R505, R510). -/
def cmdUpdArm : Cmd :=
  { code := 0x0D04, may := scopeMay, lenOk := len 24
    idx := fun r _ => need (decide (u8 r.params 0 < 2))
    body := fun r s =>
      let p := r.params
      let t := u64 p 4
      let secs := clamp 10 3600 (u32 p 12)
      let vehicle := u8 p 0 == 1
      let mask := if vehicle then u64 p 16 else 2 ^ devId
      let rsp := slice p 0 12 ++ b4 secs ++ slice p 16 8
      let others := (maskDevs mask).filter (fun d => d != devId)
      let here := mask.testBit devId
      if vehicle ∧ (!s.upd.chain.coord ∨ (maskDevs mask).any (fun d => devState d s != 2)) then fail stState s
      else if !vehicle ∧ s.upd.chain.upstream ≠ 0xFF then fail stState s
      else
        let j := if here then armJudge (updPkg s) mask t s else 0
        if j = 1 then fail stState (armLate s)
        else if j ≠ 0 then fail stState s
        else
          let s := if vehicle then
              sendArm others { s with upd := { s.upd with
                armT := t, armS := secs, armMask := mask, armWait := others, confirming := false, confWait := [] } }
            else s
          ok rsp (if here then armAccept t secs mask s else s) }

/-- A device meets what CONFIRM asks of it (R510). -/
def confirmable (m : Bytes) (d : Nat) (s : State) : Bool :=
  let rev := match partOfKind m d 1 with
    | some i => partRev m i
    | none => 0
  devState d s == 5 && (if d = devId then s.boot.fwrev.toNat else (devReport d s).fwrev) == rev &&
    decide (10 ≤ (if d = devId then remainS s else (devReport d s).remain))

/-- CMD_UPD_CONFIRM (R508, R510). -/
def cmdUpdConfirm : Cmd :=
  { code := 0x0D05, may := scopeMay, lenOk := len 16
    idx := fun r _ => need (decide (u8 r.params 0 < 2))
    body := fun r s =>
      let vehicle := u8 r.params 0 == 1
      let m := s.upd.manifest
      let devs := (mfTable m).map (·.1)
      let others := devs.filter (fun d => d != devId)
      if vehicle then
        if !s.upd.chain.coord ∨ devs.isEmpty ∨ !devs.all (fun d => confirmable m d s) then fail stState s
        else
          let s := sendMask 9 devs { s with upd := { s.upd with confirming := true, confWait := others } }
          ok r.params (if inTrial s then confirmTrial s else s)
      else if inTrial s then ok r.params (confirmTrial s) else fail stState s }

/-- CMD_UPD_ABORT (R505, R509). -/
def cmdUpdAbort : Cmd :=
  { code := 0x0D06, may := scopeMay, lenOk := len 16
    idx := fun r _ => need (decide (u8 r.params 0 < 2))
    body := fun r s =>
      let vehicle := u8 r.params 0 == 1
      let devs := if vehicle then maskDevs (u64 r.params 8) else [devId]
      let live (d : Nat) : Bool := [3, 4, 5].contains (devState d s)
      if (vehicle ∧ !s.upd.chain.coord) ∨ !devs.any live then fail stState s
      else
        let s := if vehicle then sendMask 10 devs { s with upd := { s.upd with armWait := [] } } else s
        ok r.params (if devs.contains devId then abortHere s else s) }

/-- CMD_UPD_VEHICLE (R510). -/
def cmdUpdVehicle : Cmd :=
  { code := 0x0D07, may := mbs [0, 1, 4], lenOk := len 0
    body := fun _ s =>
      if !s.upd.chain.coord then fail stState s
      else
        let devs := (mfTable s.upd.manifest).map (·.1)
        ok (b1 devs.length ++ zeros 3 ++ devs.flatMap (fun d =>
          let r := devReport d s
          b1 d ++ b1 r.state ++ b1 r.flags ++ zeros 1 ++ b4 r.remain ++ b4 r.fwrev ++ b4 r.time)) s }

/-! ### Service tokens (R504) -/

/-- The key pair of the token's check: that of the running bank's manifest, which names the same anchor; in a recovery boot
without a verifying manifest the ROM's pair under anchor 0. -/
def tokenKeys (anchor : Nat) (s : State) : Option Bytes :=
  let recovery := s.power.phase == .loadWait
  let n := if recovery then ([0, 1].find? (fun n => bankVerify n s != 2)) else if s.boot.found then some s.boot.bank else none
  match n with
  | some n =>
    let m := (flashBank n s).manifest
    if mfAnchor m = anchor then some (slice m (mfSigned m) 2049) else none
  | none => if recovery ∧ anchor = 0 then some Config.romKeys else none

/-- CMD_SERVICE_AUTH (R397, R504). -/
def cmdServiceAuth : Cmd :=
  { code := 0x0005, may := mbs [4], lenOk := fun p => decide (1 ≤ p.length) && decide (p.length ≤ 3568)
    body := fun r s =>
      let p := r.params
      let anchor := u8 p 6
      let refuse (s : State) : Ans := fail stAuth (raise 100 1 (count 255 283 s))
      if s.otp.life = 3 then fail stState s
      else if p.length ≠ 3469 ∨ u32 p 0 ≠ 0x4B545653 ∨ u16 p 4 ≠ 1 ∨ 3 < anchor ∨
          u64 p 8 ≠ Config.serialNumber.toNat ∨ u32 p 16 ≤ s.flash.tokenSeq then refuse s
      else match tokenKeys anchor s with
        | none => refuse s
        | some k =>
          let v := verify anchor (sha384 (p.take 64)) (k ++ p.drop 64) s
          let s := countVerify v s
          if !(v.1 && v.2.1 && v.2.2) then refuse s
          else
            let secs := min 1800 (u16 p 20)
            let s := saveRecord { s with
              flash := { s.flash with tokenSeq := u32 p 16 }
              svc := { s.svc with session := some secs, rights := u8 p 7 % 8 } }
            ok (b4 secs) (raise 100 0 s) }

def execCmdUpdStatus (mb : Nat) (s : State) : Res := .next (runCmd cmdUpdStatus mb s)
def execCmdUpdManifest (mb : Nat) (s : State) : Res := .next (runCmd cmdUpdManifest mb s)
def execCmdUpdData (mb : Nat) (s : State) : Res := .next (runCmd cmdUpdData mb s)
def execCmdUpdChain (mb : Nat) (s : State) : Res := .next (runCmd cmdUpdChain mb s)
def execCmdUpdArm (mb : Nat) (s : State) : Res := .next (runCmd cmdUpdArm mb s)
def execCmdUpdConfirm (mb : Nat) (s : State) : Res := .next (runCmd cmdUpdConfirm mb s)
def execCmdUpdAbort (mb : Nat) (s : State) : Res := .next (runCmd cmdUpdAbort mb s)
def execCmdUpdVehicle (mb : Nat) (s : State) : Res := .next (runCmd cmdUpdVehicle mb s)
def execCmdServiceAuth (mb : Nat) (s : State) : Res := .next (runCmd cmdServiceAuth mb s)

end Sys2Proof.Machine
end

