-- ==== Sys2Proof/Machine/Boot.lean ====
section
/-! DEFINITION. The boot ROM's load, the host load, the start of Diesh (spec/02, R39, R40; spec/04, R122 to R124; spec/11,
R358; spec/16, R497, R503, R507 to R509; spec/17, R517, R525). -/

namespace Sys2Proof.Machine

/-- The verified image starts: Diesh initialises (R122). -/
def dieshStart (rev : BitVec 32) (empty : Bool) (s : State) : State :=
  { s with
    power := { s.power with phase := .dieshInit }
    boot := { s.boot with stage := 5, rev := rev, emptyCfg := empty } }

/-- FWREV of the DIESH part of a bank (R492). -/
def bankRev (n : Nat) (s : State) : Nat :=
  let m := (flashBank n s).manifest
  match partOfKind m devId 1 with
  | some i => partRev m i
  | none => 0

/-- The boot ROM waits for a load: from a host on MB0 or MB2 in STAGE LOAD_WAIT, or from a tester on port S, whose lane it
brings up (R39, R124, R380; log entry 54). -/
def loadWait (s : State) : State :=
  let s := { s with power := { s.power with phase := .loadWait } }
  if s.power.strap = 4 then enterState 129 1 7 (setLane 14 { laneOf 14 s with mode := 1 } s)
  else { s with boot := { s.boot with stage := 3 } }

/-- What the ROM does with its boot source: wait for a load, or verify the chosen bank and start its Diesh; a RETURNED device
boots from a host load alone (R39, R40, R123, R397, R497). -/
def romLoad (s : State) : State :=
  if s.power.strap = 2 ∨ s.power.strap = 3 then loadWait s
  else if s.otp.life = 3 then bootFailed 1 s
  else if s.power.strap = 4 then loadWait s
  else if !s.boot.found then bootFailed 1 s
  else match bankVerify s.boot.bank s with
    | 0 => dieshStart (BitVec.ofNat 32 (bankRev s.boot.bank s)) false s
    | code => bootFailed code s

/-- BOOT_IMAGE_LOAD_COMPLETE (R122). -/
def execBootImageLoadComplete (s : State) : Res := .next (if s.power.phase = .rom then romLoad s else s)

/-- The image verifies under an unrevoked anchor; a RETURNED device takes anchor 0 alone (R40, R397). -/
def imageVerifies (b : Bytes) (s : State) : Bool :=
  [0, 1, 2, 3].any (fun a => let x := anchorOf a s
    x.programmed && !x.revoked && (a == 0 || s.otp.life != 3) && Config.hostImageOk b a)

/-- CMD_BOOT_IMAGE (R124). -/
def cmdBootImage : Cmd :=
  { code := 0x0007, may := mbs [0, 2], lenOk := fun p => decide (12 ≤ p.length) && decide (p.length ≤ 3568)
    body := fun r s =>
      let p := r.params
      let d := p.drop 12
      let total := u32 p 4
      if s.power.phase ≠ .loadWait then fail stState s
      else if (r.mb = 0 ∧ !d.isEmpty) ∨ 524288 < total ∨ total < u32 p 0 + d.length then fail stLength s
      else
        let s := bankWrite 0 (u32 p 0) d s
        if !bit p 8 0 then ok [] s
        else
          let (b, lost, s) := bankRead 0 0 total s
          if lost ∨ !imageVerifies b s then fail stAuth s else ok [] (dieshStart (Config.fwrevOf b) true s) }

def execCmdBootImage (mb : Nat) (s : State) : Res := .next (runCmd cmdBootImage mb s)

/-! ### Diesh starts (R122, R123) -/

/-- Both sets after a boot: generation 1, the shadow a copy of the active set (R117, R123). -/
def bootSets (c : CfgSet) (s : State) : State := { s with sets := { ({} : Sets) with a := c, b := c } }

/-- The freshness counters of the last save; one that serves generation starts at its reservation (R358). -/
def restoreFv (s : State) : State :=
  let fv := s.flash.resv.foldl (fun t e => Tbl.set t e.1 e.2 0) s.flash.fv
  { s with gw := { s.gw with fv := fv, resv := s.flash.resv } }

/-- Banks at DONE: bank 13 is Vintner's (R525). -/
def bootBanks (s : State) : State := if (bankOf 13 s).retired then s else setBank 13 { bankOf 13 s with owner := 4 } s

/-- Settings that Diesh finds in the bank it runs from: the chain and the stay-awake log (R496). -/
def bootSettings (s : State) : State :=
  let x := (flashBank (settingsBank s) s).settings
  { s with upd := { s.upd with chain := x.chain }, sleep := { s.sleep with nm := { s.sleep.nm with log := x.stay } } }

/-- STAGE DONE with FAIL_CODE 0 or 6 (R123). -/
def bootDone (code : Nat) (s : State) : State :=
  let b := s.test.bist
  let s : State := { s with
    boot := { s.boot with stage := 6, failCode := code, fwrev := s.boot.rev }
    power := { s.power with phase := .done, ready := true, faultN := false } }
  let s := raise 6 0 s
  let s := if code = 6 then raise 6 1 s else s
  let s := if b.outcome = 1 then raise 104 2 s else s
  if b.noRef ≠ 0 then raise 104 3 s else s

/-- The settings of a trial could be made (R507). -/
def converted (n : Nat) (s : State) : Bool :=
  let old := bankRev (1 - n) s
  (flashBank n s).kind == 0 || old == bankRev n s || Config.conversionOk old (bankRev n s)

/-- A boot of the TRIAL bank: the activation is reported on its first boot, the window starts in full (R508, R509). -/
def bootTrial (s : State) : State :=
  let n := s.boot.bank
  let b := flashBank n s
  let s := { s with upd := { s.upd with
    manifest := b.manifest, leaves := b.leaves, copied := partsFor b.manifest devId, restart := b.kind == 1
    trialS := b.settings.trialS, mask := b.settings.mask, armMask := b.settings.mask, trialFrom := now s } }
  let s := if b.attempts = 1 then raise 98 3 (count 255 280 s) else s
  let s := updState 4 false s
  if converted n s then trialOk s else fallBack s

/-- A boot beside a STAGED bank: READY for its package, with a fallback reported once (R499, R509). -/
def bootStaged (s : State) : State :=
  let n := otherBank s
  let b := flashBank n s
  let s := { s with upd := { s.upd with
    manifest := b.manifest, leaves := b.leaves, copied := partsFor b.manifest devId, restart := b.kind == 1 } }
  let s := updState 2 (b.fell != 0) s
  if b.fell = 1 then raise 99 2 (count 255 281 (bankHeader n (fun b => { b with fell := 2 }) s)) else s

/-- The update state that a flash boot finds. -/
def bootUpdate (s : State) : State :=
  if !s.boot.found then s
  else if s.boot.trial then bootTrial s
  else if (flashBank (otherBank s) s).state = 2 then bootStaged s
  else s

/-- Diesh's start: own and PERSIST slots, freshness counters, settings, the boot configuration (R122, R358, R409). -/
def dieshBoot (s : State) : State :=
  let s := bootBanks (bootSettings (restoreFv (restorePersist (deriveOwn s))))
  let c := if s.boot.emptyCfg then some {} else imageConfig s.boot.bank s
  match c with
  | some c => bootUpdate (bootDone 0 (bootSets c s))
  | none => bootUpdate (bootDone 6 (bootSets {} s))

/-- DIESH_INIT_COMPLETE (R122, R123). -/
def execDieshInitComplete (s : State) : Res := .next (if s.power.phase = .dieshInit then dieshBoot s else s)

end Sys2Proof.Machine
end

