-- ==== Sys2Proof/Machine/Deliver.lean ====
section
/-! DEFINITION. A finished parse goes through classification, policing, FRER, cut-through and admission
(spec/01, R10 to R19; spec/05, R137 and R155). -/

namespace Sys2Proof.Machine

/-! ### Frames for Vintner (R286, R389, R450, R500) -/

/-- The frame has an EtherType for which its port hands one control copy to Vintner in place of forwarding: gPTP, EAPOL
under MKA, update chain frames. -/
def vintnerOnly (f : Frame) (s : State) : Bool :=
  let t := beN f.bytes 12 2
  !f.edge && decide (f.port < 32) &&
  ((t == 0x88F7 && beN f.bytes 0 6 == 0x0180C200000E && (Tbl.get s.time.gport f.port {}).en) ||
   (t == 0x888E && decide (f.port < 8) && mkaOn f.port s) ||
   (t == 0x88B6 && (s.upd.chain.upstream == f.port || s.upd.chain.downstream.getLsbD f.port)))

def nmBus (p : Nat) (s : State) : NmBus := Tbl.get s.sleep.nm.buses p {}

/-- The frame is an NM frame of its port (R450). -/
def isNmFrame (f : Frame) (r : ParseResult) (s : State) : Bool :=
  let b := nmBus f.port s
  b.en &&
  (if f.edge then
    let k := mdKind r.md
    (k == 1 || k == 2 || k == 3 || k == 5) && decide (b.idLo ≤ mdEdgeId r.md) && decide (mdEdgeId r.md ≤ b.idHi) &&
      (k == 5 || (ehIdent f.bytes).testBit 31 == b.ide)
  else match r.stack.find? (fun e => e.1 == 0x04), r.stack.find? (fun e => e.1 == 0x11) with
    | some _, some u => decide (b.idLo ≤ beN f.bytes (u.2 + 2) 2) && decide (beN f.bytes (u.2 + 2) 2 ≤ b.idHi)
    | _, _ => false)

/-- The control copy of a frame for queue 673 (R210). -/
def controlCopy (f : Frame) (r : ParseResult) (a : Merged) : Copy :=
  { baseCopy f r a with egress := 130, queue := 673, ctrl := true, launch := none, rewrite := none, tunnel := none }

/-! ### Cut-through (R17, R18) -/

/-- Conditions of R17 on the frame: from a B or T port without MACsec, decided within 256 bytes. -/
def frameMayCut (f : Frame) (r : ParseResult) (s : State) : Bool :=
  decide (f.port < 32) && !(decide (f.port < 8) && (macsecOf f.port s).en) &&
  (match r.high with
    | some h => decide (h < 256)
    | none => true)

/-- Conditions of R17 that do not depend on the queue. -/
def mayCut (f : Frame) (r : ParseResult) (x : Copy) (s : State) : Bool :=
  frameMayCut f r s && decide (x.egress < 32) && decide (portRate x.egress s ≤ portRate f.port s) &&
  !(decide (x.egress < 8) && (macsecOf x.egress s).en) && x.launch.isNone

/-- Mark the copy of a frame in a queue for cut-through. -/
def markCut (fid q : Nat) (s : State) : State :=
  let v := vatQueue q s
  setVatQueue q { v with copies := v.copies.map (fun x => if x.fid = fid then { x with ct := true } else x) } s

/-- The copy of a frame is on the wire of a port. -/
def onWire (fid p : Nat) (s : State) : Bool :=
  let hit (w : Option OnWire) : Bool := match w with
    | some w => w.copy.fid == fid
    | none => false
  hit (egrOf p s).tx || hit (egrOf p s).txPre

/-- Forward the copy cut-through if the scheduler selects it at once; else it is stored (R17). -/
def tryCut (fid p q : Nat) (s : State) : State :=
  let e := egrOf p s
  let side := if !preemptOn e then Side.all else if e.preempt.express.getLsbD (q % 8) then .express else .preemptable
  let s' := selectPort p side (markCut fid q s)
  if (copiesOf q s).length = 1 ∧ onWire fid p s' then s' else s

/-! ### Copies of a frame -/

/-- Admission of all copies of a frame, with what follows it: cut-through, rings without buffers, ports without members. -/
def admitFrame (fid : Nat) (f : Frame) (r : ParseResult) (ended : Bool) (cs : List Copy) (s : State) : State :=
  let before := s
  let empty (x : Copy) : Bool := (copiesOf x.queue before).isEmpty
  let s := fairWake before (admitCopies fid cs s)
  let s := forEach cs (fun x s =>
    if 136 ≤ x.egress ∧ (liveMembers x.egress s).isEmpty then raise 14 0 s else s) s
  let s := if ended then s else
    forEach (cs.filter (fun x => empty x && mayCut f r x s)) (fun x s => tryCut fid x.egress x.queue s) s
  hostCheck s

/-- A copy of a malformed frame for MAL_RING (R76, R155). -/
def malCopy (c : CfgSet) (f : Frame) (r : ParseResult) (reason : Nat) : Copy :=
  { hostCopy f r {} c.malRing 0xFFFFFFFF reason (some 256) with colour := 0 }

/-- Copies of a frame that classification judged, after policing and FRER; `len` is the frame's length. -/
def clsCopies (c : CfgSet) (len : Nat) (f : Frame) (r : ParseResult) (o : ClsOut) (s : State) : List Copy × ParseResult × State :=
  let a := o.action
  let (v, s) := if o.fwd.isEmpty then (Verdict.pass none (mdColour r.md), s)
    else police c f.port a (mdPrio r.md) (mdColour r.md) len f.ts s
  let (fwd, ipv, r) := match v with
    | .pass ipv k => (o.fwd, ipv, { r with md := setMd r.md 57 56 k })
    | .drop => ([], none, r)
  let (g, s) := if fwd.isEmpty then (FrerOut.none, s) else frer c a.stream r.stack f.bytes s
  let fwd := if g = .discard then [] else fwd
  let n := o.fwd.length
  let fin (x : Copy) : Copy := match g with
    | .tag st seq => { x with fwds := n, frer := some (st, seq) }
    | .pass pop => { x with fwds := n, untagR := pop }
    | _ => { x with fwds := n }
  let copies := fwd.map (fun x => fin (fwdCopy c f r a ipv x))
  let copies := if vintnerOnly f s then [controlCopy f r a] else copies
  let copies := if isNmFrame f r s then copies ++ [controlCopy f r a] else copies
  let hosts := o.hosts.map (fun e => hostCopy f r a e.1 e.2.1 e.2.2 none)
  let mirrors := (bitsOf 4 o.sessions).map (fun i => mirrorCopy c f r a i)
  let (fox, s) := foxIngress c f r o s
  (orderCopies copies hosts mirrors fox, r, s)

/-- A malformed frame under DROP, COPY_HOST or DROP_SAMPLE (R155). -/
def malformed (c : CfgSet) (f : Frame) (r : ParseResult) (act : Nat) (s : State) : List Copy × State :=
  let n := counter f.port (448 + r.reason) s
  let own := if act = 2 then [malCopy c f r 2] else if act = 3 ∧ n % 64 = 0 then [malCopy c f r 5] else []
  let o : ClsOut := { action := { zone := sourceZone c f r }, outcome := 5 }
  let (fox, s) := foxIngress c f r o s
  (own ++ fox, s)

/-- The frame of a parse result goes on (R137, R155). -/
def deliverFrame (fid : Nat) (v : VFrame) (r : ParseResult) (s : State) : State :=
  let f := v.frame
  let c := setOf f.gen s
  let s := if r.reason = 0 then s else raise 60 r.reason (count f.port (448 + r.reason) s)
  let act := malAction c f.port r.reason
  if r.reason ≠ 0 ∧ (act ≠ 1 ∨ !ethKind (mdKind r.md)) then
    let (cs, s) := malformed c f r (if act = 1 then 0 else act) s
    admitFrame fid f r v.ended cs s
  else
    let (o, s) := classify f r (decide (r.reason ≠ 0)) s
    let o := if r.reason = 0 then o else { o with outcome := 5 }
    -- the length of a frame still arriving is open (log entry 32)
    let (len, s) := if v.ended then (f.bytes.length, s) else
      let (k, s) := takeFresh s
      (f.bytes.length + Config.freeNat k, s)
    let (cs, r, s) := clsCopies c len f r o s
    admitFrame fid f r v.ended cs s

/-- PARSE_RESULT_DELIVER: the first frame of an ingress port in thread order, once its parse has ended; a frame that no
copy can cut through goes on when it has arrived whole (R17, R137). -/
def execParseResultDeliver (port : Nat) (s : State) : Res :=
  let mine := s.parse.order.filter (fun fid => match frameOf fid s with
    | some v => v.frame.port == port
    | none => false)
  match mine with
  | [] => .next s
  | fid :: _ =>
    match frameOf fid s, Tbl.find s.parse.results fid with
    | some v, some r =>
      if v.ended || frameMayCut v.frame r s then .next (deliverFrame fid v r (forgetParse fid s)) else .next s
    | _, _ => .next s

end Sys2Proof.Machine
end

