-- ==== Sys2Proof/Machine/Level.lean ====
section
/-! DEFINITION. Performance levels: the configured ingress rate, the complements, CMD_POWER_LEVEL and the restoring of a
level after sleep (spec/14, R430 to R433). -/

namespace Sys2Proof.Machine

/-- Ingress complement of a level, in tenths of Gb/s (R430). -/
def complement (level : Nat) : Nat := [3200, 2560, 2050, 1530].getD level 0

/-- The configured ingress rate, in tenths of Gb/s (R431). -/
def ingressTenths (s : State) : Nat :=
  let eth := sumBy (fun p => if (laneOf (laneNo p) s).mode = 0 ∨ keptDown p s then 0 else portRate p s / 100000) (List.range 32)
  let svc := if (laneOf 14 s).mode = 0 then 0 else 10
  let host := if s.power.perst then 0 else min 630 Config.pcieRate
  let edge := 10 * countIf (fun m => s.edge.ch.any (fun e => e.1 / 16 == m && e.2.state != 0)) (List.range 6)
  eth + svc + host + edge

/-- A change of ports or lanes: EV56 OVER_COMPLEMENT when it raises the configured rate above the level's complement
(R432). -/
def overCheck (f : State → State) (s : State) : State :=
  let t := f s
  if ingressTenths s < ingressTenths t ∧ complement t.sleep.level < ingressTenths t then raise 56 1 t else t

/-- Drive a VSEL code, unless GPIO14 and GPIO15 are general purpose (R42, R432). -/
def driveVsel (level : Nat) (s : State) : State :=
  if s.sleep.vselEn then { s with power := { s.power with vsel := BitVec.ofNat 2 level } } else s

/-- The clocks run at a level (R432, R457, R459). -/
def clocksAt (level : Nat) (s : State) : State :=
  raise 56 0 (count 255 175 { s with sleep := { s.sleep with level := level } })

/-- A change of level. Falling steps the clocks first; rising drives VSEL and waits SETTLE_US (R432). -/
def levelChange (level : Nat) (mb : Option Nat) (s : State) : State :=
  if s.sleep.level < level then driveVsel level (clocksAt level s)
  else if level < s.sleep.level then
    let s := driveVsel level s
    { s with sleep := { s.sleep with rising := some (level, mb) } }
  else s

/-- The response of CMD_POWER_LEVEL: applied values, the configured ingress rate, the complement (R460). -/
def levelRsp (op level force : Nat) (s : State) : Bytes :=
  b1 op ++ b1 level ++ b1 (force + 2 * b2n s.sleep.vselEn) ++ zeros 1 ++ b4 s.sleep.settleUs ++ b4 (ingressTenths s) ++
    b4 (complement level)

/-- CMD_POWER_LEVEL. -/
def cmdPowerLevel : Cmd :=
  { code := 0x0B00, may := readAny 0 [0], lenOk := len 8
    idx := fun r _ => need (decide (u8 r.params 0 < 2) && (u8 r.params 0 == 0 || decide (u8 r.params 1 < 4)))
    body := fun r s =>
      let p := r.params
      let l := u8 p 1
      let z := s.sleep
      if u8 p 0 = 0 then ok (levelRsp 0 z.level 0 s) s
      else if z.rising.map (·.2) = some (some r.mb) then .busy s
      else if z.entry ≠ .none ∨ z.state ≠ 0 ∨ z.rising.isSome then fail stState s
      else if complement l < ingressTenths s ∧ !bit p 2 0 then fail stConflict s
      else
        let s := { s with sleep := { z with vselEn := bit p 2 1, settleUs := clamp 10 1000 (u32 p 4) } }
        let s := levelChange l (some r.mb) s
        if s.sleep.rising.isSome then .busy s else ok (levelRsp 1 l (b2n (bit p 2 0)) s) s }

def execCmdPowerLevel (mb : Nat) (s : State) : Res := .next (runCmd cmdPowerLevel mb s)

/-- VSEL_SETTLE_EXPIRY: the clocks step up, and the command that waits is done (R432). -/
def execVselSettleExpiry (s : State) : Res :=
  match s.sleep.rising with
  | none => .next s
  | some (level, mb) =>
    let s := clocksAt level { s with sleep := { s.sleep with rising := none } }
    match mb with
    | some k =>
      match (mbOf k s).cur with
      | some r => .next (mbDone k stOk s.sets.gen (levelRsp 1 level (b2n (bit r.params 2 0)) s) s)
      | none => .next s
    | none => .next s

/-- LEVEL_RESTORE: Diesh restores the level saved at the entry (R433). -/
def execLevelRestore (s : State) : Res :=
  if s.sleep.restore ∧ s.sleep.state = 0 ∧ s.power.phase = .done then
    .next (levelChange s.sleep.saved none { s with sleep := { s.sleep with restore := false } })
  else .next s

end Sys2Proof.Machine
end

