-- ==== Sys2Proof/Machine/EdgeCmds.lean ====
section
/-! DEFINITION. The commands of group 0x03 (spec/10, R328). -/

namespace Sys2Proof.Machine

/-! ### CMD_EDGE_CONFIG (R294 to R296, R302, R303) -/

/-- Bytes 8 to 21 of CMD_EDGE_CONFIG clamped to R302. -/
def timingApply (b : Bytes) : Bytes :=
  let n2 := clamp 1 128 (u8 b 4)
  let d2 := clamp 1 16 (u8 b 8)
  b2 (clamp 1 32 (u16 b 0)) ++ b2 (clamp 2 256 (u16 b 2)) ++ b1 n2 ++ b1 (clamp 1 n2 (u8 b 5)) ++ b1 (clamp 1 32 (u8 b 6)) ++
    b1 (clamp 1 32 (u8 b 7)) ++ b1 d2 ++ b1 (clamp 1 d2 (u8 b 9)) ++ b1 (min 127 (u8 b 10)) ++ b1 (clamp 1 63 (u8 b 11)) ++
    b1 (clamp 1 63 (u8 b 12)) ++ b1 (min 63 (u8 b 13))

/-- Protocol-clock cycles of a nominal and of a data bit (R302). -/
def nomCycles (t : Bytes) : Nat := u16 t 0 * (1 + u16 t 2 + u8 t 4)
def dataCycles (t : Bytes) : Nat := u8 t 6 * (1 + u8 t 7 + u8 t 8)

/-- The rates lie in the ranges of R303, with the 80 MHz protocol clock. -/
def ratesOk (mode : Nat) (tms : Bool) (t : Bytes) : Bool :=
  !isCan mode || (decide (80 ≤ nomCycles t) && decide (nomCycles t ≤ 8000) &&
    (match mode with
     | 2 => decide (10 ≤ dataCycles t)
     | 3 => decide ((if tms then 4 else 8) ≤ dataCycles t)
     | _ => true))

/-- The response of CMD_EDGE_CONFIG. -/
def edgeConfigRsp (n op : Nat) (s : State) : Bytes :=
  let c := edgeChan n s
  b1 n ++ b1 op ++ b1 c.mode ++ b1 c.tsTb ++ b1 c.flags ++ zeros 3 ++ c.timing ++ zeros 2 ++ b4 c.baud ++
    c.ltWindow.flatMap b4 ++ zeros 4 ++ b4 (80000000 / max 1 (nomCycles c.timing)) ++ b4 (80000000 / max 1 (dataCycles c.timing))

/-- Channels in T1S mode. -/
def t1sCount (s : State) : Nat := countIf (fun e => decide (e.2.mode = 6)) s.edge.ch

/-- The channel of even number may become FlexRay A: its partner is OFF, or the pair is FlexRay already (R295, R296). -/
def frOk (n : Nat) (s : State) : Bool :=
  decide (n ≤ 6) && decide (n % 2 = 0) &&
    ((edgeChan n s).mode == 7 || ((edgeChan (n + 1) s).mode == 0 && (edgeChan (n + 1) s).state == 0))

/-- The settings of a channel take a mode; counters of errors start again when the mode changes. -/
def modeSet (n mode : Nat) (s : State) : State :=
  let c := edgeChan n s
  let st := if c.state = 6 then 6 else if mode = 0 then 0 else 1
  let s := chanSet st n s
  let c' := edgeChan n s
  setEdgeChan n (if c.mode = mode then c' else { c' with mode := mode, tec := 0, rec_ := 0, passive := false }) s

/-- A mode is written: the odd FlexRay partner follows (R295). -/
def modeWrite (n mode : Nat) (s : State) : State :=
  let old := (edgeChan n s).mode
  let s := modeSet n mode s
  if mode = 7 then modeSet (n + 1) 8 s else if old = 7 then modeSet (n + 1) 0 s else s

def cmdEdgeConfig : Cmd :=
  { code := 0x0300, may := readAny 1 [0], lenOk := len 48
    idx := fun r _ =>
      let p := r.params
      need (decide (u8 p 0 < 96) && decide (u8 p 1 ≤ 1) && (u8 p 1 == 0 || decide (u8 p 3 < 6)))
    body := fun r s =>
      let p := r.params
      let n := u8 p 0
      let c := edgeChan n s
      let mode := u8 p 2
      let t := timingApply (slice p 8 14)
      if u8 p 1 = 0 then ok (edgeConfigRsp n 0 s) s
      else if c.state ≠ 0 ∧ c.state ≠ 1 ∧ c.state ≠ 6 then fail stState s
      else if mode = 6 ∧ c.mode ≠ 6 ∧ 24 ≤ t1sCount s then fail stNoSpace s
      else if 8 ≤ mode ∨ c.mode = 8 ∨ (mode = 7 ∧ !frOk n s) ∨ !ratesOk mode (bit p 4 3) t then fail stConflict s
      else
        let s := modeWrite n mode s
        let c := { edgeChan n s with
          tsTb := u8 p 3, flags := u8 p 4 % 16, timing := t, baud := clamp 1000 20000 (u32 p 24)
          ltWindow := [28, 32, 36, 40].map (fun i => min 1000000000 (u32 p i)) }
        let s := setEdgeChan n c s
        ok (edgeConfigRsp n 1 s) s }

/-! ### CMD_EDGE_STATE, CMD_EDGE_STATUS -/

/-- What CMD_EDGE_STATE does to a channel that is neither OFF nor RETIRED. -/
def edgeStateOp (n op : Nat) (s : State) : State :=
  let c := edgeChan n s
  let want (b : Bool) (s : State) : State :=
    forEach (partners n s) (fun k s => setEdgeChan k { edgeChan k s with listen := b } s) s
  match op with
  | 0 => if c.state = 1 then s else chanState n 1 s
  | 1 =>
    let s := want false s
    if c.state = 5 then busOn n s else if c.state = 1 ∨ c.state = 4 then chanState n 2 s else s
  | _ =>
    let s := want true s
    if c.state = 1 then chanState n 2 s else if c.state = 3 ∨ c.state = 5 then chanState n 4 s else s

/-- CMD_EDGE_STATE. A T1S channel without a NODE_ID cannot leave DOWN (R316). -/
def cmdEdgeState : Cmd :=
  { code := 0x0301, may := mbs [0], lenOk := len 4
    idx := fun r _ => need (decide (u8 r.params 0 < 96) && decide (u8 r.params 1 ≤ 2))
    body := fun r s =>
      let n := u8 r.params 0
      let c := edgeChan n s
      if c.state = 0 ∨ c.state = 6 ∨ c.mode = 8 then fail stState s
      else if c.mode = 6 ∧ u8 c.plca 1 = 255 ∧ u8 r.params 1 ≠ 0 then fail stState s
      else
        let s := edgeStateOp n (u8 r.params 1) s
        ok (b4 (edgeChan n s).state) s }

/-- SUB_STATE of CMD_EDGE_STATUS. -/
def subState (n : Nat) (s : State) : Nat :=
  let c := edgeChan n s
  match c.mode with
  | 4 => c.table
  | 6 => if !c.beacon then 0 else if u8 c.plca 1 = 0 then 2 else 1
  | 7 => (frCtl (n / 2) s).poc
  | 8 => (frCtl (n / 2) s).poc
  | _ => 0

def cmdEdgeStatus : Cmd :=
  { code := 0x0302, may := mbs [0, 1, 2, 3, 4], lenOk := len 1
    idx := fun r _ => need (decide (u8 r.params 0 < 96))
    body := fun r s =>
      let n := u8 r.params 0
      let c := edgeChan n s
      ok (b1 c.state ++ b1 (min 255 c.tec) ++ b1 (min 255 c.rec_) ++
        b1 (countIf (fun t => decide (now s < t + 60000000000)) c.faults) ++ b1 c.tmcIn ++ b1 (nibbleOut n s) ++ b1 (subState n s) ++
        b1 (heldCount n s) ++ b4 c.lastFault) s }

/-! ### CMD_EDGE_FILTER (R300) -/

/-- A filter entry as applied: ID bits outside MASK are zero. -/
def accApply (b : Bytes) : Bytes :=
  let m := u32 b 8 % 536870912
  b1 (u8 b 0 % 32) ++ b1 (u8 b 1) ++ zeros 2 ++ b4 (u32 b 4 &&& m) ++ b4 m

def cmdEdgeFilter : Cmd :=
  { code := 0x0303, may := mbs [0, 1, 2, 3, 4]
    lenOk := fun p => decide (1 ≤ u8 p 2) && decide (u8 p 2 ≤ 16) && p.length == 4 + 12 * u8 p 2, sets := .either
    idx := fun r _ => need (decide (u8 r.params 0 < 96) && decide (u8 r.params 1 < 64) && decide (u8 r.params 1 + u8 r.params 2 ≤ 64))
    body := fun r s =>
      let p := r.params
      let n := u8 p 0
      let is := List.range (u8 p 2)
      let head := slice p 0 3 ++ zeros 1
      if (edgeChan n s).mode = 6 then fail stConflict s
      else if r.target = 0 then ok (head ++ is.flatMap (fun i => accEntry (activeSet s) n (u8 p 1 + i))) s
      else
        let e (i : Nat) : Bytes := accApply (slice p (4 + 12 * i) 12)
        ok (head ++ is.flatMap e) (editShadow (fun c => is.foldl (fun c i =>
          { c with acceptance := Tbl.set c.acceptance (64 * n + (u8 p 1 + i)) (e i) (zeros 12) }) c) s) }

/-! ### Retirement (R319) -/

def cmdEdgeRetire : Cmd :=
  { code := 0x0304, may := mbs [0, 2], lenOk := len 1
    idx := fun r _ => need (decide (u8 r.params 0 < 96))
    body := fun r s =>
      let n := u8 r.params 0
      match (edgeChan n s).state with
      | 6 => fail stRetired s
      | 0 => fail stState s
      | _ => ok (b1 n) (retireChan n s) }

def cmdEdgeReadmit : Cmd :=
  { code := 0x0305, may := mbs [0], lenOk := len 1
    idx := fun r _ => need (decide (u8 r.params 0 < 96))
    body := fun r s =>
      let n := u8 r.params 0
      let c := edgeChan n s
      if c.state ≠ 6 then fail stState s
      else if c.trxFault then fail stRetired s
      else ok (b1 n) (forEach (partners n s) (fun k s =>
        let s := chanSet (if (edgeChan k s).mode = 0 then 0 else 1) k s
        setEdgeChan k { edgeChan k s with faults := [] } s) s) }

/-! ### CMD_LIN_TABLE (R310, R311) -/

/-- An identifier-table byte as applied: LENGTH is 1 to 8. -/
def linIdApply (b : Nat) : Nat := b % 4 + 4 * min 7 (bits b 5 2) + 64 * bits b 6 6

/-- A schedule entry as applied. -/
def linEntryApply (e : Nat) : Nat := bits e 10 0 + 65536 * max 1 (bits e 23 16)

/-- A schedule entry that R311 allows with an identifier table: an event-triggered entry is not PUBLISH, a sporadic one
not SUBSCRIBE, a diagnostic one names 0x3C or 0x3D. -/
def linEntryOk (ids : Nat → Nat) (e : Nat) : Bool :=
  match bits e 7 6 with
  | 1 => ids (bits e 5 0) % 4 != 2
  | 2 => ids (bits e 5 0) % 4 != 1
  | 3 => bits e 5 0 == 0x3C || bits e 5 0 == 0x3D
  | _ => true

/-- The response of CMD_LIN_TABLE: the identifier table, then the entries of table `t` (log entry 38). -/
def linRsp (n op t : Nat) (s : State) : Bytes :=
  let c := edgeChan n s
  let es := Tbl.get c.tables t []
  b1 n ++ b1 op ++ b1 t ++ b1 es.length ++ (List.range 64).flatMap (fun i => b1 (Tbl.get c.ids i 0)) ++ es.flatMap b4

def cmdLinTable : Cmd :=
  { code := 0x0306, may := readOps 3 1 [0]
    lenOk := fun p => match u8 p 1 with
      | 1 => len 68 p
      | 2 => decide (u8 p 3 ≤ 128) && p.length == 4 + 4 * u8 p 3
      | _ => len 4 p
    idx := fun r _ =>
      let p := r.params
      need (decide (u8 p 0 < 96) && decide (u8 p 1 ≤ 3) && decide (u8 p 2 < 4))
    body := fun r s =>
      let p := r.params
      let n := u8 p 0
      let c := edgeChan n s
      let t := u8 p 2
      if !isLin c.mode then fail stConflict s
      else match u8 p 1 with
        | 0 => ok (linRsp n 0 t s) s
        | 1 =>
          let ids := fun i => u8 p (4 + i)
          if (List.range 64).any (fun i => decide (ids i % 4 = 3)) ∨ c.tables.any (fun e => e.2.any (fun x => !linEntryOk ids x)) then
            fail stConflict s
          else
            let tab := (List.range 64).foldl (fun tb i => Tbl.set tb i (linIdApply (ids i)) 0) ([] : Tbl Nat)
            let s := setEdgeChan n { c with ids := tab } s
            ok (slice p 0 4 ++ (List.range 64).flatMap (fun i => b1 (Tbl.get tab i 0))) s
        | 2 =>
          let es := (List.range (u8 p 3)).map (fun i => linEntryApply (u32 p (4 + 4 * i)))
          let others := sumBy (fun e => if e.1 = t then 0 else e.2.length) c.tables
          if 128 < others + es.length then fail stNoSpace s
          else if es.any (fun e => !linEntryOk (fun i => Tbl.get c.ids i 0) e) then fail stConflict s
          else if c.mode = 5 then fail stState s
          else ok (slice p 0 4 ++ es.flatMap b4) (setEdgeChan n { c with tables := Tbl.set c.tables t es [] } s)
        | _ =>
          if c.mode = 5 then fail stState s
          else
            let c := if c.state = 3 then { c with select := some t } else { c with table := t, pos := 0, resume := none }
            ok (slice p 0 4) (setEdgeChan n c s) }

/-! ### CMD_FR_CONFIG (R313, R314) -/

/-- The block of R313 as applied. -/
def frApply (b : Bytes) : Bytes :=
  b1 (min 2 (u8 b 0)) ++ b1 (u8 b 1 % 4) ++ b2 (clamp 10 16000 (u16 b 2)) ++ b1 (clamp 10 60 (u8 b 4)) ++
    b1 (clamp 2 31 (u8 b 5)) ++ b2 (clamp 2 1023 (u16 b 6)) ++ b2 (clamp 3 664 (u16 b 8)) ++ b1 (min 127 (u8 b 10)) ++
    b1 (clamp 1 63 (u8 b 11)) ++ b2 (min 7988 (u16 b 12)) ++ b1 (clamp 2 63 (u8 b 14)) ++ b1 (clamp 1 31 (u8 b 15)) ++
    b2 (clamp 2 15978 (u16 b 16)) ++ b2 (min 1023 (u16 b 18)) ++ b1 (u8 b 20 % 8) ++ b2 (min 7980 (u16 b 21)) ++
    b1 (clamp 2 16 (u8 b 23)) ++ zeros 40

/-- The static segment, the dynamic segment and the NIT fit gdCycle. -/
def frFits (b : Bytes) : Bool :=
  decide ((u16 b 6 * u16 b 8 + u16 b 12 * u8 b 14 + u16 b 16) * u8 b 4 ≤ 10 * u16 b 2)

/-- A message buffer as applied; the cycle repetition 64 does not fit its six bits and is written 0 (log entry 39). -/
def frBufApply (w : Nat) : Nat := w % 17179869184

/-- A buffer has a cycle repetition that is a power of two, and channels that are configured. -/
def frBufOk (chans w : Nat) : Bool :=
  [0, 1, 2, 4, 8, 16, 32].contains (bits w 22 17) && decide (bits w 24 23 ≠ 0) && (bits w 24 23 &&& chans) == bits w 24 23

def frRsp (f op : Nat) (s : State) : Bytes :=
  let c := frCtl f s
  b1 f ++ b1 op ++ b2 c.bufs.length ++ slice c.block 0 64 ++ c.bufs.flatMap b8

def cmdFrConfig : Cmd :=
  { code := 0x0307, may := readAny 1 [0]
    lenOk := fun p => (u8 p 1 == 0 && len 4 p) || (decide (u16 p 2 ≤ 128) && p.length == 68 + 8 * u16 p 2)
    idx := fun r _ => need (decide (u8 r.params 0 < 4) && decide (u8 r.params 1 ≤ 1))
    body := fun r s =>
      let p := r.params
      let f := u8 p 0
      let b := frApply (slice p 4 64)
      let ws := (List.range (u16 p 2)).map (fun i => frBufApply (u64 p (68 + 8 * i)))
      if u8 p 1 = 0 then ok (frRsp f 0 s) s
      else if (edgeChan (2 * f) s).mode ≠ 7 ∨ (edgeChan (2 * f) s).state ≠ 1 then fail stState s
      else if u8 b 1 = 0 ∨ !frFits b ∨ ws.any (fun w => !frBufOk (u8 b 1) w) then fail stConflict s
      else
        let s := setFrCtl f { frCtl f s with block := b, bufs := ws, tx := [] } s
        ok (frRsp f 1 s) s }

/-! ### CMD_T1S_PLCA (R316) and CMD_TMC (R320) -/

def cmdT1sPlca : Cmd :=
  { code := 0x0308, may := readAny 1 [0], lenOk := len 8
    idx := fun r _ => need (decide (u8 r.params 0 < 96) && decide (u8 r.params 1 ≤ 1))
    body := fun r s =>
      let p := r.params
      let n := u8 p 0
      let c := edgeChan n s
      if u8 p 1 = 1 ∧ c.state ≠ 1 then fail stState s
      else if c.mode ≠ 6 then fail stConflict s
      else if u8 p 1 = 0 then ok (b1 n ++ b1 0 ++ c.plca) s
      else
        let b := b1 (min 1 (u8 p 2)) ++ b1 (min 254 (u8 p 3)) ++ b1 (max 1 (u8 p 4)) ++ b1 (max 1 (u8 p 5)) ++ b1 (u8 p 6) ++
          b1 (max 1 (u8 p 7))
        ok (b1 n ++ b1 1 ++ b) (setEdgeChan n { c with plca := b } s) }

def tmcRsp (m op : Nat) (s : State) : Bytes :=
  let c := edgeCl m s
  b1 m ++ b1 op ++ b1 c.use ++ b1 c.settleMs ++ b8 c.outFrame ++ b8 c.inFrame ++ b4 c.bad

/-- CMD_TMC. Without inbound frames no status is judged (R320). -/
def cmdTmc : Cmd :=
  { code := 0x0309, may := readAny 1 [0], lenOk := len 4
    idx := fun r _ => need (decide (u8 r.params 0 < 6) && decide (u8 r.params 1 ≤ 1))
    body := fun r s =>
      let p := r.params
      let m := u8 p 0
      if u8 p 1 = 0 then ok (tmcRsp m 0 s) s
      else if 2 < u8 p 2 then fail stConflict s
      else
        let s := setEdgeCl m { edgeCl m s with use := u8 p 2, settleMs := min 100 (u8 p 3) } s
        let s := if u8 p 2 = 2 then s else
          forEach (List.range 16) (fun k s =>
            let n := 16 * m + k
            let c := edgeChan n s
            setEdgeChan n { c with trxFault := false, tmcIn := if u8 p 2 = 1 ∧ c.state ≠ 0 then 4 else 0 } s) s
        ok (tmcRsp m 1 s) s }

def execCmdEdgeConfig (mb : Nat) (s : State) : Res := .next (overCheck (runCmd cmdEdgeConfig mb) s)
def execCmdEdgeState (mb : Nat) (s : State) : Res := .next (overCheck (runCmd cmdEdgeState mb) s)
def execCmdEdgeStatus (mb : Nat) (s : State) : Res := .next (runCmd cmdEdgeStatus mb s)
def execCmdEdgeFilter (mb : Nat) (s : State) : Res := .next (runCmd cmdEdgeFilter mb s)
def execCmdEdgeRetire (mb : Nat) (s : State) : Res := .next (runCmd cmdEdgeRetire mb s)
def execCmdEdgeReadmit (mb : Nat) (s : State) : Res := .next (overCheck (runCmd cmdEdgeReadmit mb) s)
def execCmdLinTable (mb : Nat) (s : State) : Res := .next (runCmd cmdLinTable mb s)
def execCmdFrConfig (mb : Nat) (s : State) : Res := .next (runCmd cmdFrConfig mb s)
def execCmdT1sPlca (mb : Nat) (s : State) : Res := .next (runCmd cmdT1sPlca mb s)
def execCmdTmc (mb : Nat) (s : State) : Res := .next (runCmd cmdTmc mb s)

end Sys2Proof.Machine
end

