-- ==== Sys2Proof/Machine/Time.lean ====
section
/-! DEFINITION. The time unit: advance, step, rate, reset, compare, capture and PPS (spec/09, R266 to R283, R290 to R293). -/

namespace Sys2Proof.Machine

def setTb (n : Nat) (t : TimeBase) (s : State) : State :=
  { s with time := { s.time with tb := Tbl.set s.time.tb n t {} } }

/-- The time unit runs: TB0 has started and the device is neither in reset nor in Burrow or Hibernate (R267, R289). -/
def timeRuns (s : State) : Bool :=
  s.power.hold == .none && !s.sleep.asleep && [Phase.rom, .loadWait, .dieshInit, .done].contains s.power.phase

/-- One TIME cycle of a time base (R268). -/
def tbTick (t : TimeBase) : TimeBase :=
  if t.state = .disabled then t
  else
    let x : Int := (t.frac : Int) + 2 * (17592186044416 + t.rate)
    { t with count := (t.count + (x / 17592186044416).toNat) % 18446744073709551616, frac := (x % 17592186044416).toNat }

/-- TIME_CYCLE_TICK: 2 ns pass (R268); credit and tokens of the B and T ports grow with them (R245, R247). -/
def execTimeCycleTick (s : State) : Res :=
  if !timeRuns s then .next s
  else
    let s := { s with time := { s.time with tb := s.time.tb.map (fun e => (e.1, tbTick e.2)) } }
    .next (forEach (List.range 32) (egrAdvance 2) s)

/-! ### Compare, capture, PPS (R280 to R283) -/

def cmpOf (n k : Nat) (s : State) : Compare := Tbl.get s.time.cmp (4 * n + k) {}

def setCmp (n k : Nat) (c : Compare) (s : State) : State :=
  { s with time := { s.time with cmp := Tbl.set s.time.cmp (4 * n + k) c {} } }

def capOf (n k : Nat) (s : State) : Capture := Tbl.get s.time.cap (4 * n + k) {}

def setCap (n k : Nat) (c : Capture) (s : State) : State :=
  { s with time := { s.time with cap := Tbl.set s.time.cap (4 * n + k) c {} } }

def ppsOf (k : Nat) (s : State) : Pps := Tbl.get s.time.pps k {}

def setPps (k : Nat) (p : Pps) (s : State) : State :=
  { s with time := { s.time with pps := Tbl.set s.time.pps k p {} } }

/-- A firing starts a pulse, or restarts its width (R283). -/
def ppsFire (k : Nat) (s : State) : State :=
  let p := ppsOf k s
  let s := setPps k { p with active := true, until_ := now s + p.width } s
  if p.active then s else emit (.pps k (!p.invert)) s

/-- An edge reaches a capture unit (R282). -/
def capture (n k : Nat) (s : State) : State :=
  let c := capOf n k s
  if c.valid then raise (16 + n) (8 + k) (setCap n k { c with overrun := true } s)
  else raise (16 + n) (4 + k) (setCap n k { c with value := tbNow n s, valid := true } s)

/-- Every capture unit with this source takes an edge of a kind: 1 rising, 2 falling, 3 either (a compare unit that fires). -/
def captureAll (source edge : Nat) (s : State) : State :=
  forEach (List.range 24) (fun i s =>
    let c := capOf (i / 4) (i % 4) s
    if c.source = source ∧ (c.edge &&& edge) ≠ 0 then capture (i / 4) (i % 4) s else s) s

/-- What a compare unit does when it fires (R280, R282, R283, R436). -/
def cmpFired (n k : Nat) (s : State) : State :=
  let o := (cmpOf n k s).out
  let s := raise (16 + n) k (count 255 (115 + 4 * n) s)
  let s := if o = 0 then s else ppsFire (o - 1) s
  if n = 0 then wake { source := 24 } (captureAll (16 + k) 3 s) else s

/-- COMPARE_FIRE: an armed unit whose time base reads at or after TIME (R280). -/
def execCompareFire (tb unit : Nat) (s : State) : Res :=
  let c := cmpOf tb unit s
  if !timeRuns s ∨ !tbEnabled tb s ∨ !c.arm ∨ tbNow tb s < c.time then .next s
  else
    let s := setCmp tb unit (if c.period = 0 then { c with arm := false }
      else { c with time := (c.time + c.period) % 18446744073709551616 }) s
    .next (cmpFired tb unit s)

/-- CAPTURE_EDGE: an edge of an input, SOURCE 0 to 15 (R282, R290); it is also the level of a GPIO. -/
def execCaptureEdge (source : Nat) (rising : Bool) (s : State) : Res :=
  let s := if 2 ≤ source then
      { s with power := { s.power with gpio :=
          if rising then s.power.gpio ||| BitVec.ofNat 16 (2 ^ (source - 2))
          else s.power.gpio &&& ~~~(BitVec.ofNat 16 (2 ^ (source - 2))) } }
    else s
  if !timeRuns s then .next s
  else
    let s := if source < 2 then raise 22 (2 + source) s else s
    .next (captureAll source (if rising then 1 else 2) s)

/-- A write to CAP_STATUS: VALID and OVERRUN clear where a one is written (R282). -/
def capStatusWrite (n k v : Nat) (s : State) : State :=
  let c := capOf n k s
  setCap n k { c with valid := c.valid && !v.testBit 0, overrun := c.overrun && !v.testBit 1 } s

/-- A write to TB_LATCH (R269): the named time bases latch together. -/
def latchWrite (v : Nat) (s : State) : State :=
  forEach (bitsOf 6 v) (fun n s =>
    let t := tbOf n s
    setTb n { t with latchNs := tbNow n s, latchFrac := if t.state = .disabled then 0 else t.frac / 4096 } s) s

/-- PPS_PULSE_END: WIDTH has elapsed in TB0 (R283). -/
def execPpsPulseEnd (k : Nat) (s : State) : Res :=
  let p := ppsOf k s
  if p.active ∧ p.until_ ≤ now s then .next (emit (.pps k p.invert) (setPps k { p with active := false } s)) else .next s

/-! ### Step, reset (R271, R273, R274, R281) -/

/-- The slot that binds a time base (R285). -/
def boundSlot (n : Nat) (s : State) : Option Nat :=
  (List.range 5).find? (fun i => let g := Tbl.get s.time.slot i {}; g.valid && g.tb == n)

def gptpSlot (i : Nat) (s : State) : GptpSlot := Tbl.get s.time.slot i {}

def setGptpSlot (i : Nat) (g : GptpSlot) (s : State) : State :=
  { s with time := { s.time with slot := Tbl.set s.time.slot i g {} } }

/-- HOST_OWNS (R285). -/
def hostOwns (n : Nat) (s : State) : Bool :=
  n != 0 && (match boundSlot n s with
    | some i => (gptpSlot i s).state == 4
    | none => true)

/-- The smallest TIME + k x PERIOD at or after `v` (R281). -/
def rephase (time period : Nat) (v : Int) : Int := (time : Int) - (((time : Int) - v) / period) * period

/-- A step by an offset; the answer is the offset applied (R271, R274, R281, R291). -/
def stepTb (n : Nat) (off : Int) (s : State) : Int × State :=
  let t := tbOf n s
  let off := if (t.count : Int) + off < 0 then -(t.count : Int) else off
  let v := (t.count : Int) + off
  let at_ := now s
  let s := setTb n { t with state := .stepped, count := v.toNat % 18446744073709551616, lastEvent := at_ } s
  let s := forEach (List.range 4) (fun k s =>
    let c := cmpOf n k s
    if c.arm ∧ 0 < c.period then
      let next := rephase c.time c.period v
      let s := setCmp n k { c with time := next.toNat } s
      if (c.time : Int) < v ∧ v < next then cmpFired n k s else s
    else s) s
  let s := raise (16 + n) 12 (count 255 (112 + 4 * n) s)
  (off, notice 0x0901 (locDevIdx n) (at_ % 4294967296) (gateRejoin n s))

/-- The copies that a reset drops, on B and T ports and in edge mailboxes and FIFOs, with their number (R273, R308, log
entry 110). -/
def resetDrops (n : Nat) (s : State) : Nat × State :=
  let hit (x : Copy) : Bool := (x.launch.map (·.1)) == some n
  let r := (List.range 256).foldl (fun (a : Nat × State) q =>
    let (gone, s) := removeCopies q hit a.2
    (a.1 + gone.length, forEach gone (fun _ s => raise 80 0 (count (q / 8) (400 + q % 8) s)) s)) (0, s)
  (r.2.edge.ch.map (·.1)).foldl (fun (a : Nat × State) ch =>
    let c := edgeChan ch a.2
    let out (x : EdgeCopy) : Bool := (x.launch.map (·.1)) == some n && c.tx != some x
    let gone := c.held.filter out
    (a.1 + gone.length,
      forEach gone (fun _ s => lateEdge ch s) (setEdgeChan ch { c with held := c.held.filter (fun x => !out x) } a.2))) r

/-- The four compare units disarm; EV22 SKIPPED once per output (R273, R283). -/
def disarmAll (n : Nat) (s : State) : Nat × State :=
  let armed := (List.range 4).filter (fun k => (cmpOf n k s).arm)
  let s := forEach [1, 2] (fun o s => if armed.any (fun k => (cmpOf n k s).out == o) then raise 22 (o - 1) s else s) s
  (armed.length, forEach armed (fun k s => setCmp n k { cmpOf n k s with arm := false } s) s)

/-- A reset of a time base; the answer is DATA of the notice TB_RESET (R273, R274, R291). `off` disables it afterwards. -/
def resetTb (n : Nat) (off : Bool) (s : State) : Nat × State :=
  let before := s
  let (dropped, s) := resetDrops n s
  let swap := s.sets.shadow == .armed && s.sets.swapTb == n
  let s := if swap then
      notice 0x0101 locDev 1 { s with sets := { s.sets with shadow := .ready, swapTb := 0, swapTime := 0 } }
    else s
  let act := n == 1 && s.upd.state == 3
  let s := if act then armCancel s else s
  let (units, s) := disarmAll n s
  let t := tbOf n s
  let s := setTb n { t with
    state := if off then .disabled else .enabled, count := 0, frac := 0
    lastEvent := now s, firstSync := true } s
  let s := match boundSlot n s with
    | some i =>
      let g := gptpSlot i s
      setGptpSlot i { g with lockRun := 0, jumpRun := 0 } s
    | none => s
  let s := raise (16 + n) 13 (count 255 (113 + 4 * n) (countN 255 (114 + 4 * n) dropped s))
  let data := min 0xFFFF dropped + 65536 * b2n swap + 131072 * b2n act + 262144 * units
  (data, fairWake before (gateRejoin n (notice 0x0900 (locDevIdx n) data s)))

/-! ### Commands (R293) -/

/-- TB_STATE. -/
def tbStateWord (n : Nat) (s : State) : Nat :=
  (match (tbOf n s).state with
    | .disabled => 0
    | .enabled => 1
    | .stepped => 2) + 16 * (boundSlot n s).getD 7 + 128 * b2n (hostOwns n s)

/-- TB of a command, 1 to 5. -/
def tbIdx (r : Req) : Bool := decide (1 ≤ u8 r.params 0) && decide (u8 r.params 0 ≤ 5)

/-- CMD_TB_ENABLE (R270). -/
def cmdTbEnable : Cmd :=
  { code := 0x0900, may := mbs [0], lenOk := len 4
    idx := fun r _ => need (tbIdx r && decide (u8 r.params 1 < 2))
    body := fun r s =>
      let n := u8 r.params 0
      if u8 r.params 1 = 1 then
        if tbEnabled n s then fail stState s
        else
          let s := gateRejoin n (setTb n { tbOf n s with state := .enabled, count := 0, frac := 0, rate := 0, firstSync := true } s)
          ok (b4 (tbStateWord n s)) s
      else if !tbEnabled n s then fail stState s
      else if (boundSlot n s).isSome then fail stConflict s
      else
        let s := (resetTb n true s).2
        ok (b4 (tbStateWord n s)) s }

/-- A two's complement number of 8 bytes. -/
def i64 (b : Bytes) (i : Nat) : Int := (BitVec.ofNat 64 (u64 b i)).toInt

/-- CMD_TB_STEP (R271). -/
def cmdTbStep : Cmd :=
  { code := 0x0901, may := mbs [0], lenOk := len 24
    idx := fun r _ => need (tbIdx r && decide (u8 r.params 1 < 2))
    body := fun r s =>
      let p := r.params
      let n := u8 p 0
      let t := tbOf n s
      let ref := u64 p 16
      if t.state = .stepped then fail stStepUsed s
      else if t.state = .disabled then fail stState s
      else if u8 p 1 = 1 ∧ (now s < ref ∨ ref + 1000000000 < now s) then fail stState s
      else if !hostOwns n s then fail stConflict s
      else
        let want : Int := (u64 p 8 : Int) + ((now s : Int) - ref) * (17592186044416 + t.rate) / 17592186044416
        let (off, s) := stepTb n (if u8 p 1 = 0 then i64 p 8 else want - t.count) s
        ok (sle 8 off ++ b8 (now s)) s }

/-- RATE within its limits (R272). -/
def rateClamp (r : Int) : Int := max (-8796093022) (min 8796093022 r)

/-- CMD_TB_RATE (R272). -/
def cmdTbRate : Cmd :=
  { code := 0x0902, may := mbs [0], lenOk := len 16
    idx := fun r _ => need (tbIdx r && decide (u8 r.params 1 < 2))
    body := fun r s =>
      let n := u8 r.params 0
      let t := tbOf n s
      if t.state = .disabled then fail stState s
      else if !hostOwns n s then fail stConflict s
      else
        let v := rateClamp (i64 r.params 8 + (if u8 r.params 1 = 1 then t.rate else 0))
        ok (sle 8 v) (setTb n { t with rate := v } s) }

/-- CMD_TB_RESET (R273). -/
def cmdTbReset : Cmd :=
  { code := 0x0903, may := mbs [0], lenOk := len 4
    idx := fun r _ => need (tbIdx r)
    body := fun r s =>
      let n := u8 r.params 0
      if !tbEnabled n s then fail stState s
      else if !hostOwns n s then fail stConflict s
      else
        let (data, s) := resetTb n false s
        ok (b4 data) s }

/-- CMD_TB_STATUS. -/
def cmdTbStatus : Cmd :=
  { code := 0x0904, may := fun _ => true, lenOk := len 0
    body := fun _ s =>
      ok ((List.range 6).flatMap (fun n =>
        b4 (tbStateWord n s) ++ zeros 4 ++ sle 8 (tbOf n s).rate ++ b8 (tbNow n s) ++ b8 (tbOf n s).lastEvent)) s }

def execCmdTbEnable (mb : Nat) (s : State) : Res := .next (runCmd cmdTbEnable mb s)
def execCmdTbStep (mb : Nat) (s : State) : Res := .next (runCmd cmdTbStep mb s)
def execCmdTbRate (mb : Nat) (s : State) : Res := .next (runCmd cmdTbRate mb s)
def execCmdTbReset (mb : Nat) (s : State) : Res := .next (runCmd cmdTbReset mb s)
def execCmdTbStatus (mb : Nat) (s : State) : Res := .next (runCmd cmdTbStatus mb s)

end Sys2Proof.Machine
end

