-- ==== Sys2Proof/Machine/Gptp.lean ====
section
/-! DEFINITION. IEEE 802.1AS-2020 operation (spec/09, R284 to R288, R291 to R293). What the frames of that standard carry
and what is measured at the balls stands in the rows' operands (log entry 43); the servo's rate, which the spec does not
compute, is a free value. -/

namespace Sys2Proof.Machine

def gptpPort (p : Nat) (s : State) : GptpPort := Tbl.get s.time.gport p {}

def setGptpPort (p : Nat) (g : GptpPort) (s : State) : State :=
  { s with time := { s.time with gport := Tbl.set s.time.gport p g {} } }

/-- A change of a slot's state, with its notice (R291). -/
def gptpState (i n : Nat) (s : State) : State :=
  let g := gptpSlot i s
  if g.state = n then s
  else notice 0x0902 (locDevIdx g.tb) (i + 16 * n) (setGptpSlot i { g with state := n } s)

/-- The slave port: as configured, or the one that hears the best master (R284, R285). -/
def slavePort (g : GptpSlot) : Option Nat :=
  if g.external then (if g.slavePort < 32 then some g.slavePort else none) else g.best.map (·.port)

/-- Ports on which a slot sends Sync (R285). -/
def masterPorts (g : GptpSlot) (s : State) : List Nat :=
  if g.role = 0 then []
  else (List.range 32).filter (fun p =>
    (gptpPort p s).en && (if g.external then g.masters.testBit p else slavePort g != some p))

/-- A gPTP frame as a directed send; the spec gives it no TC, and IEEE 802.1AS gives its body (log entry 43). -/
def gptpSend (p : Nat) (s : State) : State :=
  let (k, s) := takeFresh s
  directedSend p (8 * p + Config.freeNat k % 8)
    ([0x01, 0x80, 0xC2, 0, 0, 0x0E] ++ macAddr p s ++ be 2 0x88F7 ++ Config.freeFrame k) none s

/-- gPTP sends: not in Roost (R289). -/
def gptpSends (p : Nat) (s : State) : Bool := (gptpPort p s).en && portUp p s && !s.sleep.gated

/-- The identity of the grandmaster changes (R287). -/
def gmChange (i gm : Nat) (s : State) : State :=
  let g := gptpSlot i s
  let s' := setGptpSlot i { g with gm := gm } s
  if g.gm ≠ gm ∧ g.gm ≠ 0 then raise (16 + g.tb) 18 s' else s'

/-- A value of RATE that the servo chooses, within the clamp (R272, R287). -/
def servoRate (s : State) : Int × State :=
  let (k, s) := takeFresh s
  (rateClamp ((Config.freeNat k : Int) - 8796093022), s)

/-- The servo corrects by rate: at the clamp while a jump is slewed, else as it chooses (R287). -/
def servoTrack (i : Nat) (off : Int) (s : State) : State :=
  let g := gptpSlot i s
  if 3 ≤ g.jumpRun then
    setTb g.tb { tbOf g.tb s with rate := if 0 < off then -8796093022 else 8796093022 } s
  else
    let (r, s) := servoRate s
    setTb g.tb { tbOf g.tb s with rate := r } s

/-- GPTP_SYNC_RECEIVE: a Sync and its Follow_Up on the slave port of slot `slot`. `off` is the time base less the
grandmaster's time, `steps` and `gm` what the master announces, `ts` false when the frame has no timestamp (R287, R292). -/
def execGptpSyncReceive (slot port : Nat) (off : Int) (steps gm : Nat) (ts : Bool) (s : State) : Res :=
  let g := gptpSlot slot s
  if !g.valid ∨ g.state = 4 ∨ slavePort g ≠ some port ∨ !(gptpPort port s).en ∨ !portUp port s then .next s
  else
    let s := count port 496 (takeVintner port 0x88F7 (takeVintner port 0x88F7 s))
    if !ts then .next (count port 502 s)
    else
      let s := gmChange slot gm s
      let s := setGptpSlot slot { gptpSlot slot s with offset := off, lastSync := now s, steps := steps, lost := false } s
      let t := tbOf g.tb s
      let big : Bool := decide ((g.stepMin : Int) < off.natAbs)
      if t.firstSync then
        let s := setTb g.tb { t with firstSync := false } s
        let s := if big && t.state == .enabled then (stepTb g.tb (-off) s).2 else servoTrack slot off s
        .next (gptpState slot 2 s)
      else
        let near : Bool := decide (off.natAbs ≤ g.lockThresh)
        let far : Bool := decide (g.jumpLimit < off.natAbs)
        let g1 := gptpSlot slot s
        let lock := if near then min 8 (g1.lockRun + 1) else 0
        let jump := if far then min 4 (g1.jumpRun + 1) else 0
        let s := setGptpSlot slot { g1 with lockRun := lock, jumpRun := jump } s
        let s := if jump = 3 then raise (16 + g.tb) 19 s else s
        if jump = 3 ∧ g.jumpAction then .next (gptpState slot 2 (resetTb g.tb false s).2)
        else
          let s := servoTrack slot off s
          if lock = 8 ∧ g1.state ≠ 3 then .next (gptpState slot 3 (raise (16 + g.tb) 16 s))
          else if g1.state = 1 then .next (gptpState slot 2 s)
          else .next s

/-- GPTP_SYNC_TX_TIMER: the Sync interval of a slot elapses on a port (R285). A slot that competes under BMCA and knows no
better master becomes grandmaster. -/
def execGptpSyncTxTimer (slot port : Nat) (s : State) : Res :=
  let g := gptpSlot slot s
  let s := if g.valid ∧ g.role = 2 ∧ !g.external ∧ g.best.isNone then gptpState slot 4 s else s
  let g := gptpSlot slot s
  if g.valid ∧ (masterPorts g s).contains port ∧ gptpSends port s ∧ (g.state = 4 ∨ (slavePort g).isSome) then
    .next (count port 497 (gptpSend port s))
  else .next s

/-- GPTP_SYNC_TIMEOUT: Syncs are missing for SYNC_TIMEOUT intervals (R287). The time base keeps its rate. -/
def execGptpSyncTimeout (slot : Nat) (s : State) : Res :=
  let g := gptpSlot slot s
  if !g.valid ∨ g.state < 2 ∨ g.state = 4 ∨ g.lost then .next s
  else
    let s := setGptpSlot slot { g with lost := true, lockRun := 0, jumpRun := 0, best := none } s
    .next (gptpState slot 2 (raise (16 + g.tb) 17 s))

/-- Priority vector of IEEE 802.1AS in the order of comparison; the lower is better. -/
def masterKey (m : Master) : List Nat := [m.prio1, m.quality, m.prio2, m.gm, m.steps, m.port]

/-- The first list is lower. -/
def lexLt : List Nat → List Nat → Bool
  | a :: x, b :: y => decide (a < b) || (a == b && lexLt x y)
  | _, _ => false

/-- This device as a candidate (R285). -/
def ownMaster (g : GptpSlot) : Master :=
  { prio1 := g.prio1, quality := Config.clockQuality.toNat, prio2 := g.prio2, gm := Config.clockIdentity.toNat, steps := 0, port := 0 }

/-- GPTP_ANNOUNCE_RECEIVE: a priority vector heard on a port; the best master clock algorithm judges it (R284, R285). -/
def execGptpAnnounceReceive (slot port prio1 quality prio2 gm steps : Nat) (s : State) : Res :=
  if !(gptpPort port s).en ∨ !portUp port s then .next s
  else
    let s := count port 501 (takeVintner port 0x88F7 s)
    let g := gptpSlot slot s
    if !g.valid ∨ g.external then .next s
    else
      let m : Master := { prio1 := prio1, quality := quality, prio2 := prio2, gm := gm, steps := steps + 1, port := port }
      let take := match g.best with
        | some b => b.port == port || lexLt (masterKey m) (masterKey b)
        | none => true
      let best := if take then some m else g.best
      let own := g.role == 2 && (match best with
        | some b => lexLt (masterKey (ownMaster g)) (masterKey b)
        | none => true)
      if own then .next (gptpState slot 4 (gmChange slot Config.clockIdentity.toNat (setGptpSlot slot { g with best := none, steps := 0 } s)))
      else
        let s := setGptpSlot slot { g with best := best, steps := (best.map (·.steps)).getD 0 } s
        let s := gmChange slot ((best.map (·.gm)).getD 0) s
        .next (if g.state = 4 then gptpState slot 1 s else s)

/-- A port stops being asCapable (R288). -/
def asLost (p : Nat) (s : State) : State :=
  let g := gptpPort p s
  if g.asCapable then count p 503 (setGptpPort p { g with asCapable := false } s) else s

/-- GPTP_PDELAY_TIMER: the port sends Pdelay_Req; a request still open has lost its response (R288). -/
def execGptpPdelayTimer (port : Nat) (s : State) : Res :=
  let g := gptpPort port s
  if !gptpSends port s then .next s
  else
    let s := if g.waiting then
        let s := count port 500 (setGptpPort port { g with lost := g.lost + 1 } s)
        if g.allowed < g.lost + 1 then asLost port s else s
      else s
    let s := setGptpPort port { gptpPort port s with waiting := true, answered := none } s
    .next (count port 498 (gptpSend port s))

/-- GPTP_PDELAY_RESPONSE: a neighbour answers; `delay` in ns and `ratio` in 2^-44 as measured, `ts` false when the frame
has no timestamp (R288, R292). -/
def execGptpPdelayResponse (port neighbour delay : Nat) (ratio : Int) (ts : Bool) (s : State) : Res :=
  let g := gptpPort port s
  if !g.en ∨ !portUp port s then .next s
  else
    let s := count port 499 (takeVintner port 0x88F7 (takeVintner port 0x88F7 s))
    if !ts then .next (count port 502 s)
    else match g.answered with
      | some n => if n = neighbour then .next s else .next (asLost port s)
      | none =>
        if !g.waiting then .next s
        else
          let s := setGptpPort port { g with
            waiting := false, answered := some neighbour, lost := 0, delay := delay, ratio := ratio, neighbour := neighbour } s
          if g.thresh < delay then .next (asLost port s)
          else .next (setGptpPort port { gptpPort port s with asCapable := true } s)

/-- GPTP_PDELAY_REQUEST_RX: Diesh answers (R288). -/
def execGptpPdelayRequestRx (port : Nat) (s : State) : Res :=
  if !(gptpPort port s).en ∨ !portUp port s then .next s
  else
    let s := takeVintner port 0x88F7 s
    .next (if gptpSends port s then gptpSend port (gptpSend port s) else s)

/-! ### Commands (R293) -/

/-- A signed byte. -/
def i8 (b : Bytes) (i : Nat) : Int := (BitVec.ofNat 8 (u8 b i)).toInt

/-- A signed 16-bit number. -/
def i16 (b : Bytes) (i : Nat) : Int := (BitVec.ofNat 16 (u16 b i)).toInt

/-- CMD_GPTP_DOMAIN as read. -/
def gptpSlotBytes (i op : Nat) (s : State) : Bytes :=
  let g := gptpSlot i s
  b1 i ++ b1 op ++ b1 (b2n g.valid + 2 * b2n g.external + 4 * b2n g.jumpAction) ++ b1 g.domain ++ b1 g.tb ++ b1 g.role ++
    b1 g.prio1 ++ b1 g.prio2 ++ sle 1 g.logSync ++ sle 1 g.logAnnounce ++ b1 g.timeout ++ b1 g.slavePort ++ b4 g.masters ++
    b4 g.stepMin ++ b4 g.lockThresh ++ b4 g.jumpLimit

/-- CMD_GPTP_DOMAIN (R284, R285, R287). -/
def cmdGptpDomain : Cmd :=
  { code := 0x0905, may := readAny 1 [0], lenOk := len 28
    idx := fun r _ =>
      let p := r.params
      need (decide (u8 p 0 < 5) && decide (u8 p 1 < 2) && (u8 p 1 == 0 ||
        (decide (u8 p 3 < 128) && decide (1 ≤ u8 p 4) && decide (u8 p 4 ≤ 5) && decide (u8 p 5 < 3) &&
          (decide (u8 p 11 < 32) || u8 p 11 == 0xFF))))
    body := fun r s =>
      let p := r.params
      let i := u8 p 0
      let others := ((List.range 5).filter (fun k => k != i && (gptpSlot k s).valid)).map (fun k => gptpSlot k s)
      if u8 p 1 = 0 then ok (gptpSlotBytes i 0 s) s
      else if bit p 2 0 ∧ (others.any (fun g => g.tb == u8 p 4 || g.domain == u8 p 3) ∨ !tbEnabled (u8 p 4) s ∨
          (u8 p 5 = 0 ∧ u32 p 12 ≠ 0) ∨ (u8 p 11 < 32 ∧ (u32 p 12).testBit (u8 p 11))) then fail stConflict s
      else
        let g : GptpSlot :=
          { valid := bit p 2 0, external := bit p 2 1, jumpAction := bit p 2 2, domain := u8 p 3, tb := u8 p 4, role := u8 p 5
            prio1 := u8 p 6, prio2 := u8 p 7, logSync := max (-7) (min 0 (i8 p 8)), logAnnounce := max (-3) (min 3 (i8 p 9))
            timeout := max 2 (u8 p 10), slavePort := u8 p 11, masters := u32 p 12, stepMin := min 1000000 (u32 p 16)
            lockThresh := clamp 1 100000 (u32 p 20), jumpLimit := clamp 1000 1000000000 (u32 p 24), state := (gptpSlot i s).state }
        let s := setGptpSlot i g s
        let s := gptpState i (if !g.valid then 0 else if g.role = 2 then 4 else 1) s
        let s := if g.valid ∧ g.role = 2 then setGptpSlot i { gptpSlot i s with gm := Config.clockIdentity.toNat } s else s
        ok (gptpSlotBytes i 1 s) s }

/-- CMD_GPTP_PORT as read. -/
def gptpPortBytes (q op : Nat) (s : State) : Bytes :=
  let g := gptpPort q s
  b1 q ++ b1 op ++ b1 (b2n g.en) ++ sle 1 g.logPdelay ++ sle 2 g.ing ++ sle 2 g.egr ++ b4 g.thresh ++ b1 g.allowed ++ zeros 3 ++
    b1 (b2n g.asCapable) ++ zeros 3 ++ b4 g.delay ++ sle 8 g.ratio ++ b8 g.neighbour

/-- CMD_GPTP_PORT (R278, R288). -/
def cmdGptpPort : Cmd :=
  { code := 0x0906, may := readAny 1 [0], lenOk := len 16
    idx := fun r _ => need (decide (u8 r.params 0 < 32) && decide (u8 r.params 1 < 2))
    body := fun r s =>
      let p := r.params
      let q := u8 p 0
      if u8 p 1 = 0 then ok (gptpPortBytes q 0 s) s
      else
        let s := setGptpPort q { gptpPort q s with
          en := bit p 2 0, logPdelay := max (-3) (min 3 (i8 p 3)), ing := i16 p 4, egr := i16 p 6
          thresh := min 1000000 (u32 p 8), allowed := max 1 (u8 p 12) } s
        let s := if bit p 2 0 then s else setGptpPort q { gptpPort q (asLost q s) with waiting := false, answered := none } (asLost q s)
        ok (gptpPortBytes q 1 s) s }

/-- CMD_GPTP_STATUS. -/
def cmdGptpStatus : Cmd :=
  { code := 0x0907, may := fun _ => true, lenOk := len 1
    idx := fun r _ => need (decide (u8 r.params 0 < 5))
    body := fun r s =>
      let g := gptpSlot (u8 r.params 0) s
      ok (b1 g.state ++ b1 ((slavePort g).getD 0xFF) ++ b2 g.steps ++ b8 g.gm ++ sle 8 g.offset ++
        sle 8 (if g.valid then (tbOf g.tb s).rate else 0) ++ b8 g.lastSync) s }

def execCmdGptpDomain (mb : Nat) (s : State) : Res := .next (runCmd cmdGptpDomain mb s)
def execCmdGptpPort (mb : Nat) (s : State) : Res := .next (runCmd cmdGptpPort mb s)
def execCmdGptpStatus (mb : Nat) (s : State) : Res := .next (runCmd cmdGptpStatus mb s)

end Sys2Proof.Machine
end

