-- ==== Sys2Proof/Machine/GwCmds.lean ====
section
/-! DEFINITION. The commands of group 0x04 (spec/11, R334, R335, R347, R352, R358, R362). -/

namespace Sys2Proof.Machine

/-- The form of a header template: Ethernet, tagged or not, ending in an EtherType; with IPv4 and UDP behind it (R335). -/
def templateOk (udp : Bool) (len : Nat) (h : Bytes) : Bool :=
  let e := if udp then len - 28 else len
  let tagged := decide (e = 18)
  let et := if udp then 0x0800 else 0x22F0
  (if udp then len == 42 || len == 46 else len == 14 || len == 18) && (!tagged || beN h 12 2 == 0x8100) &&
    beN h (e - 2) 2 == et && (!udp || (u8 h e == 0x45 && u8 h (e + 9) == 17))

/-- The 160 bytes of a tunnel as applied (R334). -/
def tunnelApply (p : Bytes) : Bytes :=
  let h := u8 p 72
  b1 (u8 p 0 % 128) ++ b1 (u8 p 1) ++ b1 (clamp 1 32 (u8 p 2)) ++ b1 (u8 p 3) ++ b4 (min 10000 (u32 p 4)) ++ slice p 8 8 ++
    b2 (clamp 128 9216 (u16 p 16)) ++ zeros 2 ++ b4 (min 1000000000 (u32 p 20)) ++
    (List.range 8).flatMap (fun i => b2 (min 10000 (u16 p (24 + 2 * i)))) ++ slice p 40 32 ++ b1 h ++ zeros 7 ++
    slice (slice p 80 (min 64 h)) 0 64 ++ zeros 16

/-- Values of a tunnel that are refused (R334, R335). A template is judged where the entry is a valid ENCAP tunnel (log entry 46). -/
def tunnelConflict (p : Bytes) : Bool :=
  decide (2 < u8 p 3) || (List.range 32).any (fun i => decide (96 ≤ u8 p (40 + i)) && u8 p (40 + i) != 0xFF) ||
    (tnEncap p && !templateOk (tnUdp p) (u8 p 72) (slice p 80 64))

/-- CMD_GW_TUNNEL. -/
def cmdGwTunnel : Cmd :=
  { code := 0x0400, may := fun r => r.mb < 5, sets := .either, lenOk := len 164
    idx := fun r _ => need (decide (u16 r.params 0 < 512) && (r.target == 0 || decide (u8 r.params 5 < 6)))
    body := fun r s =>
      let n := u16 r.params 0
      if r.target = 0 then ok (b2 n ++ zeros 2 ++ tunnelOf (activeSet s) n) s
      else
        let p := slice r.params 4 160
        if tunnelConflict p then fail stConflict s
        else
          let b := tunnelApply p
          ok (b2 n ++ zeros 2 ++ b) (editShadow (fun c => { c with tunnels := Tbl.set c.tunnels n b tunnel0 }) s) }

/-- A move as applied. -/
def moveApply (m : Bytes) : Bytes :=
  b1 (u8 m 0) ++ b1 (clamp 1 (if u8 m 0 = 1 then 64 else 32) (u8 m 1)) ++ slice m 2 4 ++ zeros 2 ++ slice m 8 4

/-- The 224 bytes of a program as applied (R347, R348); unused moves are zero. -/
def programApply (p : Bytes) : Bytes :=
  let n := min 16 (u8 p 1)
  b1 (u8 p 0 % 64) ++ b1 n ++ slice p 2 6 ++ b2 (min 2048 (u16 p 8)) ++ b1 (u8 p 10) ++ b1 (u8 p 11 % 4) ++ slice p 12 8 ++
    b2 (u16 p 20 % 2048) ++ slice p 22 4 ++ zeros 6 ++
    (List.range 16).flatMap (fun i => if i < n then moveApply (slice p (32 + 12 * i) 12) else zeros 12)

/-- A move's destination leaves `n` bytes. -/
def moveLeaves (n : Nat) (m : Bytes) : Bool :=
  if u8 m 0 = 1 then decide (n < u16 m 4 + u8 m 1) else decide (8 * n < u16 m 4 + u8 m 1)

/-- Values of a program that are refused (CMD_GW_PROGRAM). -/
def programConflict (c : CfgSet) (b : Bytes) : Bool :=
  let moves := (List.range (u8 b 1)).map (fun i => slice b (32 + 12 * i) 12)
  decide (5 < u8 b 2) || moves.any (fun m => decide (2 < u8 m 0)) ||
    (u16 b 8 != 0 && moves.any (moveLeaves (u16 b 8))) ||
    (bit b 0 2 && !bit (secocOf c (u16 b 22)) 0 0) || (bit b 0 3 && !bit (secocOf c (u16 b 24)) 0 0)

/-- CMD_GW_PROGRAM. -/
def cmdGwProgram : Cmd :=
  { code := 0x0401, may := fun r => r.mb < 5, sets := .either, lenOk := len 228
    idx := fun r _ =>
      let p := r.params
      need (decide (u16 p 0 < 2048) && (r.target == 0 ||
        ((!bit p 4 2 || decide (u16 p 26 < 4096)) && (!bit p 4 3 || decide (u16 p 28 < 4096)))))
    body := fun r s =>
      let n := u16 r.params 0
      if r.target = 0 then ok (b2 n ++ zeros 2 ++ programOf (activeSet s) n) s
      else
        let b := programApply (slice r.params 4 224)
        if programConflict (shadowSet s) b then fail stConflict s
        else ok (b2 n ++ zeros 2 ++ b) (editShadow (fun c => { c with programs := Tbl.set c.programs n b program0 }) s) }

/-- The 32 bytes of a profile as applied (R352). -/
def secocApply (p : Bytes) : Bytes :=
  b1 (u8 p 0 % 4) ++ slice p 1 3 ++ b2 (min 2040 (u16 p 4)) ++ b1 (clamp 24 128 (u8 p 6)) ++ b1 (min 64 (u8 p 7)) ++
    b1 (clamp 1 64 (u8 p 8)) ++ b1 (u8 p 9) ++ slice p 10 6 ++ b4 (clamp 1000 1000000000 (u32 p 16)) ++ zeros 12

/-- CMD_GW_SECOC. -/
def cmdGwSecoc : Cmd :=
  { code := 0x0402, may := fun r => r.mb < 5, sets := .either, lenOk := len 36
    idx := fun r _ =>
      need (decide (u16 r.params 0 < 4096) && (r.target == 0 || (decide (u8 r.params 13 < 6) && decide (u16 r.params 14 < 16384))))
    body := fun r s =>
      let n := u16 r.params 0
      if r.target = 0 then ok (b2 n ++ zeros 2 ++ secocOf (activeSet s) n) s
      else
        let b := secocApply (slice r.params 4 32)
        if scFullBits b < scTxBits b then fail stConflict s
        else ok (b2 n ++ zeros 2 ++ b) (editShadow (fun c => { c with secoc := Tbl.set c.secoc n b secoc0 }) s) }

/-- CMD_GW_FRESHNESS (R358). The result holds FIRST, COUNT, two zero bytes and the values (log entry 44). -/
def cmdGwFreshness : Cmd :=
  { code := 0x0403, may := readAny 0 [0]
    lenOk := fun p => if u8 p 0 = 1 then decide (1 ≤ u16 p 2) && decide (u16 p 2 ≤ 64) && p.length == 8 + 8 * u16 p 2 else p.length == 8
    idx := fun r _ =>
      let p := r.params
      need (decide (u8 p 0 < 2) && decide (u32 p 4 < 16384) && decide (u32 p 4 + clamp 1 64 (u16 p 2) ≤ 16384))
    body := fun r s =>
      let p := r.params
      let n := clamp 1 64 (u16 p 2)
      let a := u32 p 4
      let gens := fvUsers true (activeSet s)
      let s := if u8 p 0 = 1 then forEach (List.range n) (fun i s =>
          let s := setFv (a + i) (u64 p (8 + 8 * i)) s
          if gens.contains (a + i) then reserveCheck (a + i) s else s) s else s
      ok (b4 a ++ b2 n ++ zeros 2 ++ (List.range n).flatMap (fun i => b8 (fvOf (a + i) s))) s }

/-- CMD_GW_STATUS. -/
def cmdGwStatus : Cmd :=
  { code := 0x0404, may := readAny 0 [0], lenOk := len 12
    idx := fun r _ => need (decide (u8 r.params 0 < 2))
    body := fun r s =>
      let p := r.params
      let s := if u8 p 0 = 1 then
          let s := { s with gw := { s.gw with fvSave := clamp 10 3600 (u32 p 4), fvSkip := max 1024 (u32 p 8) } }
          forEach (fvUsers true (activeSet s)) reserveCheck s
        else s
      let load := 1000 * countIf (fun t => decide (now s < t + 1000000)) s.gw.units
      ok (b1 (u8 p 0) ++ zeros 3 ++ b4 s.gw.fvSave ++ b4 s.gw.fvSkip ++ b4 load ++ b4 (batchMem s) ++ b2 s.gw.batches.length ++
        b2 (pressWaiting s)) s }

/-- First counter table, counters an entry and entries of a TABLE of CMD_GW_COUNTERS (R360). -/
def gwTable (t : Nat) : Nat × Nat × Nat :=
  if t = 0 then (ecTunnel 0, 8, 512) else if t = 1 then (ecProgram 0, 3, 2048) else (ecProfile 0, 7, 4096)

/-- CMD_GW_COUNTERS. -/
def cmdGwCounters : Cmd :=
  { code := 0x0405, may := fun r => !(bit r.params 1 0 && (r.mb == 1 || r.mb == 3)), lenOk := len 10
    idx := fun r _ => need (decide (u8 r.params 0 < 3) && decide (u32 r.params 4 < (gwTable (u8 r.params 0)).2.2))
    body := fun r s =>
      let t := gwTable (u8 r.params 0)
      entryCountersRun t.1 t.2.1 t.2.2 63 r s }

def execCmdGwTunnel (mb : Nat) (s : State) : Res := .next (runCmd cmdGwTunnel mb s)
def execCmdGwProgram (mb : Nat) (s : State) : Res := .next (runCmd cmdGwProgram mb s)
def execCmdGwSecoc (mb : Nat) (s : State) : Res := .next (runCmd cmdGwSecoc mb s)
def execCmdGwFreshness (mb : Nat) (s : State) : Res := .next (runCmd cmdGwFreshness mb s)
def execCmdGwStatus (mb : Nat) (s : State) : Res := .next (runCmd cmdGwStatus mb s)
def execCmdGwCounters (mb : Nat) (s : State) : Res := .next (runCmd cmdGwCounters mb s)

end Sys2Proof.Machine
end

