-- ==== Sys2Proof/Machine/Links.lean ====
section
/-! DEFINITION. What can change which ports are UP: link hold times, TC10, the lane and port commands (spec/12, R370 to
R376; spec/14, R432). -/

namespace Sys2Proof.Machine

/-! ### Link states -/

/-- A port goes UP (R370). -/
def linkUp (port : Nat) (s : State) : State :=
  if (ethPort port s).state = 1 ∧ upConditions port s ∧ !keptDown port s then
    let s := enterState port 2 0 s
    let e := egrOf port s
    let pr := e.preempt
    let st := if !pr.en then 0 else if pr.verifyEn then 1 else 2
    linkEvent port 0 (setEgr port { e with preempt := { pr with state := st, attempts := 0 } } s)
  else s

/-- A port leaves UP (R370, R371, R373). -/
def linkDown (port : Nat) (s : State) : State :=
  if (ethPort port s).state = 2 ∧ !upConditions port s then
    let hs := (ethPort port s).tc10
    let s := leaveUp port 1 (downCause port s) s
    if hs then s else linkFault port s
  else s

/-- LINK_UP_HOLD_EXPIRY: the conditions of R370 have held for UP_HOLD_MS. -/
def execLinkUpHoldExpiry (port : Nat) (s : State) : Res := changing (linkUp port) s

/-- LINK_DOWN_HOLD_EXPIRY: a condition has been missing for DOWN_HOLD_US (R370, R371, R373). -/
def execLinkDownHoldExpiry (port : Nat) (s : State) : Res := changing (linkDown port) s

/-! ### TC10 -/

/-- The handshake of a lane ends; a commit of network sleep waits for it no longer (R375, R454). -/
def laneEnds (l st result : Nat) (s : State) : State :=
  let s := tc10End l st result s
  { s with sleep := { s.sleep with nm := { s.sleep.nm with lanes := s.sleep.nm.lanes.filter (· != l) } } }

/-- TC10_STATUS_POLL: STATUS_REG reads `value` (R375). -/
def execTc10StatusPoll (lane value : Nat) (s : State) : Res :=
  if (tc10Of lane s).on then
    let p := phyOf lane s
    let s := emit (.mdio p.bus p.addr (if p.clause = 22 then 0 else p.mmd) p.statusReg none) s
    if value &&& p.statusMask = p.statusSleep then changing (laneEnds lane 3 0) s else .next s
  else .next s

/-- TC10_ACK_TIMEOUT: no sleep within ACK_TIMEOUT_MS (R375). -/
def execTc10AckTimeout (lane : Nat) (s : State) : Res :=
  if (tc10Of lane s).on then
    changing (fun s => laneEnds lane 1 1 (phyWrite lane (phyOf lane s).sleepReg (phyOf lane s).wakeVal s)) s
  else .next s

/-- PHY_WAKE_INPUT: PHY_WAKEn has been high for 10 µs; it is also a wake source of Den (R376, R436). Lane 14 has no such
input. -/
def execPhyWakeInput (lane : Nat) (s : State) : Res :=
  if 14 ≤ lane then .next s
  else
    let s := if s.sleep.asleep then s else
      let s := phyWakeSeen lane s
      { s with sleep := { s.sleep with nm := { s.sleep.nm with lanes := s.sleep.nm.lanes.filter (· != lane) } } }
    changing (wake { source := 8 + lane }) s

/-! ### Commands -/

def execCmdLaneMode (mb : Nat) (s : State) : Res := changing (overCheck (runCmd cmdLaneMode mb)) s
def execCmdPortConfig (mb : Nat) (s : State) : Res := changing (overCheck (runCmd cmdPortConfig mb)) s
def execCmdPortState (mb : Nat) (s : State) : Res := changing (runCmd cmdPortState mb) s
def execCmdPortRetire (mb : Nat) (s : State) : Res := changing (runCmd cmdPortRetire mb) s
def execCmdTc10 (mb : Nat) (s : State) : Res := changing (runCmd cmdTc10 mb) s

end Sys2Proof.Machine
end

