-- ==== Sys2Proof/Machine/Sleep.lean ====
section
/-! DEFINITION. Sleep: entries and their abort points, what each state keeps, exits, the resume record, false wakes, the
commands 0x0B01 to 0x0B04 (spec/14, R434 to R449). -/

namespace Sys2Proof.Machine

/-! ### Entry (R440 to R446) -/

/-- S0 of an entry (R440). -/
def entryStart (target : Nat) (net : Bool) (s : State) : State :=
  let z := s.sleep
  raise 53 0 { s with sleep := { z with
    state := 1, entry := .drain, entryAt := now s, target := target, lastTarget := target, lastResult := 0, net := net
    fromRoost := z.state == 2, saved := z.level, wake := none, before := s.ctl.order, lanes := [] } }

/-- No edge mailbox, transmit FIFO or FlexRay transmit buffer holds a copy (R442). -/
def edgeDrained (s : State) : Bool :=
  s.edge.ch.all (fun e => e.2.held.isEmpty && e.2.tx.isNone) && s.edge.fr.all (fun e => e.2.tx.all (fun b => b.2.isEmpty))

/-- The drain condition of R442. A standby has nothing to drain (R479). -/
def drained (s : State) : Bool :=
  s.pair.state == 3 ||
  ((busyQueues s).all (fun q => (decide (640 ≤ q) && decide (q ≤ 671)) || q == 673) &&
   s.vat.frames.all (fun e => !e.2.staged) && s.gw.batches.isEmpty && s.press.queues.all (fun e => e.2.isEmpty) &&
   edgeDrained s && s.sleep.before.all (fun k => (mbOf k s).state != .busy))

/-- A channel that a valid matcher watches (R437). -/
def matched (n : Nat) (s : State) : Bool := s.sleep.matchers.any (fun e => e.2.flags.testBit 0 && e.2.channel == n)

/-- The nibbles of a final TMC frame of an entry into Burrow or Hibernate: listen-only with TRX_PWR 1 for a matcher's
channel; the spec gives no other mode, and those are free values (R324, R437). -/
def finalFrame (m : Nat) (s : State) : Nat × State :=
  let (k, s) := takeFresh s
  (sumBy (fun i => (if matched (16 * m + i) s then 6 else Config.freeNat k / 16 ^ i % 16) * 16 ^ i) (List.range 16), s)

/-- The final TMC frame of a cluster in use (R324, R434, R440). -/
def finalTmc (m : Nat) (s : State) : State :=
  let c := edgeCl m s
  if c.use = 0 ∨ !s.power.railGood.getLsbD 5 then s
  else
    let (o, s) := if s.sleep.target = 1 then (frameOut m s, s) else finalFrame m s
    emit (.tmc m o) (setEdgeCl m { edgeCl m s with outFrame := o } s)

/-- Lanes that TC10 sleep in S3 takes: a bound PHY and a port that is UP (R375, R440). -/
def tc10Lanes (s : State) : List Nat :=
  if s.sleep.tc10 then
    (List.range 14).filter (fun l => (Tbl.find s.ports.phy l).isSome && (lanePorts l s).any (fun p => (ethPort p s).state == 2))
  else []

/-- The start of S3: TC10 sleep where it was asked for; both devices of a pair stop Owl (R440, R479). -/
def saveStep (s : State) : State :=
  let ls := tc10Lanes s
  let off := s.pair.state == 2 || s.pair.state == 3
  let z : Sleep := { s.sleep with entry := .save, lanes := ls }
  let p : Pair := { s.pair with owlOff := off }
  forEach ls (fun l s => tc10Sleep l none s) { s with sleep := z, pair := p }

/-- Roost is entered (R440). -/
def roostEntered (s : State) : State :=
  let z : Sleep := { s.sleep with entry := .none, state := 2, lastResult := 1, before := [], fromRoost := false }
  raise 53 5 (count 255 168 { s with sleep := z })

/-- S2, and for Burrow and Hibernate the start of S3 (R440). -/
def gateStep (s : State) : State :=
  let s := forEach (List.range 6) finalTmc s
  let z : Sleep := { s.sleep with gated := true }
  let s := { s with sleep := z }
  if z.target = 1 then roostEntered s else saveStep s

/-- SLEEP_DRAIN_COMPLETE: the drain condition holds; AP2, then S2 (R440 to R442). -/
def execSleepDrainComplete (s : State) : Res :=
  if s.sleep.entry ≠ .drain then .next s
  else match s.sleep.wake with
    | some w => .next (sleepAbort 2 w s)
    | none => .next (if drained s then gateStep s else s)

/-- SLEEP_DRAIN_TIMEOUT: DRAIN_MAX_MS has passed; the entry is abandoned at AP2 (R442). -/
def execSleepDrainTimeout (s : State) : Res :=
  if s.sleep.entry ≠ .drain then .next s
  else match s.sleep.wake with
    | some w => .next (sleepAbort 2 w s)
    | none =>
      let net := s.sleep.net
      let s := raise 53 4 (count 255 172 (entryUndo 5 s))
      let s := notice 0x0B00 locDev (resultData 0x1F s) s
      .next (if net then netUndo false true s else s)

/-! ### The resume record (R435) -/

/-- Reservations of freshness counters, those that wait for the standby included. -/
def allResv (s : State) : Tbl Nat := s.gw.resvWait.foldl (fun t e => Tbl.set t e.1 e.2.1 0) s.gw.resv

/-- The resume record of the present state. -/
def resumeOf (s : State) : Resume :=
  { active := activeSet s, ports := s.ports, edge := s.edge, vat := s.vat, flow := s.flow, time := s.time, sleep := s.sleep
    gw := s.gw, pair := s.pair.cfg, drainMs := s.sets.drainMs, moleEn := s.test.moleEn, moleMask := s.test.moleMask
    moleUs := s.test.moleUs, log2 := s.test.log2, periodMs := s.ctl.periodMs
    groups := (List.range 5).map (fun k => (mbOf k s).groups), enSpi := s.ctl.enSpi, causeEn := s.ctl.causeEn }

/-- The record is written to the bank that runs, or invalidated (R435). -/
def keepResume (r : Option Resume) (s : State) : State := keepSettings (fun x => { x with resume := r }) s

/-- S4: READY falls, the supplies of the target state go off (R439, R440, R442, R479). -/
def powerOff (s : State) : State :=
  let z := s.sleep
  let lost := sumBy (fun n => (copiesOf (640 + n) s).length) (List.range 32)
  let s := count 255 (167 + z.target) (countN 255 176 lost s)
  let p := s.pair
  { s with
    power := { s.power with ready := false }
    pair := { p with wdo := false, slept := if p.state = 2 then 1 else if p.state = 3 then 2 else p.slept }
    sleep := { s.sleep with
      entry := .off, asleep := true, lastResult := 1, inhLow := inhFor z.inhMap z.target, denBase := now s, denPeriods := 0
      fromRoost := false, lanes := [], before := [] } }

/-- SLEEP_SAVE_COMPLETE: AP3, then S4. The save of a Hibernate entry writes the resume record and the freshness counters
(R358, R435, R440). A lane's handshake is part of the save. -/
def execSleepSaveComplete (s : State) : Res :=
  let z := s.sleep
  if z.entry ≠ .save ∨ z.lanes.any (fun l => (tc10Of l s).on) then .next s
  else match z.wake with
    | some w => .next (sleepAbort 3 w s)
    | none => .next (powerOff (if z.target = 3 then saveRecord (keepResume (some (resumeOf s)) s) else s))

/-! ### Den while the device is off (R289, R436 to R439, R445) -/

/-- TB0 after 32.768 kHz periods of Den (R289). -/
def denTime (periods : Nat) (s : State) : State :=
  let z := s.sleep
  let n := z.denPeriods + periods
  let s := { s with sleep := { z with denPeriods := n } }
  setTb 0 { tbOf 0 s with count := (z.denBase + n * 1000000000 / 32768) % 18446744073709551616, frac := 0 } s

/-- The time that Den counted; four periods are more than S4 takes, which has ended then (R440). -/
def denElapse (periods : Nat) (s : State) : State :=
  if s.sleep.asleep then
    let s := denTime periods s
    if s.sleep.state ≠ 3 ∧ 4 ≤ periods then { s with sleep := { s.sleep with entry := .none } } else s
  else s

/-- A TB0 compare unit is armed and due (R289, R436). -/
def alarmDue (s : State) : Bool := (List.range 4).any (fun k => (cmpOf 0 k s).arm && decide ((cmpOf 0 k s).time ≤ now s))

/-- WAKE_DETECT: Den detects a source; `periods` of the 32.768 kHz clock have passed since Den took TB0 over or since the
last such row. SW_MATCH comes from a valid matcher (R436 to R438). CMD_SLEEP_EXIT alone is source 30. -/
def execWakeDetect (source matcher channel periods : Nat) (s : State) : Res :=
  let s := denElapse periods s
  let m := Tbl.get s.sleep.matchers matcher {}
  if source = 26 then
    .next (if m.flags.testBit 0 then wake { source := 26, matcher := matcher, channel := m.channel } s else s)
  else if source = 24 then .next (if alarmDue s then wake { source := 24 } s else s)
  else if source = 30 then .next s
  else .next (wake { source := source, channel := channel } s)

/-- INH_RELEASE_AFTER_FALL: S4 has ended, every switched rail is below 10 %; a wake that came meanwhile releases INH
(R445). -/
def execInhReleaseAfterFall (s : State) : Res :=
  let z := s.sleep
  if z.entry ≠ .off then .next s
  else .next { s with sleep := { z with entry := .none, inhLow := if z.state = 3 then 0 else z.inhLow } }

/-- SLEEP_EXIT_RAILS_GOOD: the oscillator and the PLLs start (R447). -/
def execSleepExitRailsGood (s : State) : Res :=
  let z := s.sleep
  if z.asleep ∧ z.state = 3 ∧ z.entry = .none ∧ z.inhLow = 0 then .next { s with sleep := { z with railsUp := true } }
  else .next s

/-! ### What Burrow loses (R434) -/

/-- State of a channel whose controller starts again: it integrates if it was on the bus. -/
def chanAgain (st : Nat) : Nat := if 2 ≤ st ∧ st ≤ 5 then 2 else st

/-- A channel after its controller was off. -/
def chanRestart (c : EdgeChan) : EdgeChan :=
  { c with
    state := chanAgain c.state, tec := 0, rec_ := 0, passive := false, trxFault := false, held := [], tx := none, rx := []
    slots := [], pos := 0, select := none, resume := none, await := none, beacon := false, restart := false }

/-- The scheduler of a port after EGR was off: settings of preemption stay. -/
def egrRestart (e : EgrPort) : EgrPort := { preempt := { e.preempt with state := 0, attempts := 0 } }

/-- A port after its lane was off. -/
def portRestart (e : EthPort) : EthPort :=
  { e with
    state := if e.state = 2 then 1 else e.state, pcs := false, anOk := false, anWhy := 0, localFault := false
    remoteFault := false, tc10 := false, rx := none }

/-- gPTP restarts: slots listen again, ports measure again (R289, R434). -/
def gptpRestart (s : State) : State :=
  let s := forEach (s.time.slot.map (·.1)) (fun i s =>
    let g := gptpSlot i s
    if g.valid then
      gptpState i 1 (setGptpSlot i { g with best := none, gm := 0, offset := 0, lockRun := 0, jumpRun := 0, lost := false } s)
    else s) s
  forEach (s.time.gport.map (·.1)) (fun p s =>
    setGptpPort p { gptpPort p s with asCapable := false, delay := 0, ratio := 0, neighbour := 0, lost := 0, waiting := false, answered := none } s) s

/-- MKA restarts on the ports that run it (R434). -/
def mkaRestart (s : State) : State := forEach (List.range 8) (fun p s => if mkaOn p s then mkaEnter p 1 s else s) s

/-- Every enabled time base but TB0 is reset, with its notice (R289). -/
def tbRestart (s : State) : State :=
  forEach [1, 2, 3, 4, 5] (fun n s => if tbEnabled n s then (resetTb n false s).2 else s) s

/-- Ports and channels start again; a lane in TC10 sleep is woken (R376, R434). -/
def linksRestart (s : State) : State :=
  let s := { s with
    ports := { s.ports with
      lane := s.ports.lane.map (fun e => (e.1, { e.2 with lock := false })), eth := s.ports.eth.map (fun e => (e.1, portRestart e.2))
      mdio := s.ports.mdio.map (fun e => (e.1, { e.2 with busy := none, queue := [] })), tc10 := [] }
    edge := { s.edge with
      ch := s.edge.ch.map (fun e => (e.1, chanRestart e.2)), fr := s.edge.fr.map (fun e => (e.1, { e.2 with tx := [], poc := 2 }))
      cl := s.edge.cl.map (fun e => (e.1, { e.2 with errs := [], bad := 0 })) }
    flow := { s.flow with egr := s.flow.egr.map (fun e => (e.1, egrRestart e.2)), sgates := [], meters := [], blocked := [] } }
  forEach (List.range 15) laneWakeUp s

/-- The Vat and all that held frames or work in the islands without power (R434). -/
def burrowLoss (s : State) : State :=
  let v := s.vat
  { s with
    vat := { v with
      frames := [], leaked := [], dup := [], marked := [], paused := []
      queues := v.queues.map (fun e => (e.1, { e.2 with copies := [] }))
      ports := v.ports.map (fun e => (e.1, { e.2 with halted := false, xoffSent := 0 })) }
    parse := { s.parse with
      waiting := [], deferred := [], order := [], results := []
      pickers := s.parse.pickers.map (fun e => (e.1, { e.2 with job := none }))
      walkers := s.parse.walkers.map (fun e => (e.1, { e.2 with job := none })) }
    press := { s.press with queues := [], lock := none }
    gw := { s.gw with batches := [], held := [] }
    host := { s.host with held := [], posted := [], spiLive := none, tsWait := [] }
    test := { s.test with
      fifo := []
      banks := s.test.banks.map (fun e =>
        if s.test.traceBank = some e.1 then e else (e.1, { e.2 with mem := [], poison := [], busy := false, zeroFor := none })) } }

/-! ### What Hibernate brings back (R434, R435) -/

/-- Settings of a Vat: limits without copies. -/
def vatSettings (v : Vat) : Vat :=
  { ({} : Vat) with
    freeLow := v.freeLow, queues := v.queues.map (fun e => (e.1, { e.2 with copies := [] }))
    ports := v.ports.map (fun e => (e.1, { e.2 with halted := false, xoffSent := 0 })) }

/-- A transmit or receive SA comes back if its slot holds a key (R435). -/
def saKey (slot : Nat) (s : State) : Option Bytes :=
  let x := slotOf slot s
  if x.status = 1 then some (slotKey x) else none

/-- MACsec settings with each SA of KEYING STATIC. -/
def macsecBack (m : Macsec) (s : State) : Macsec :=
  if m.mka then { m with tx := [], rx := m.rx.map (fun e => (e.1, { e.2 with sa := [] })), an := 0, txState := 0, mkaState := 0 }
  else
    { m with
      tx := m.tx.map (fun e => (e.1, { e.2 with key := saKey e.2.slot s }))
      rx := m.rx.map (fun e => (e.1, { e.2 with sa := e.2.sa.map (fun a => (a.1, { a.2 with key := saKey a.2.slot s })) })) }

/-- A port's settings, to start training if it was not DOWN. -/
def portBack (e : EthPort) : EthPort :=
  { rate := e.rate, an := e.an, maxFrame := e.maxFrame, upHold := e.upHold, downHold := e.downHold, mac := e.mac
    state := if 1 ≤ e.state ∧ e.state ≤ 3 then 1 else 0 }

/-- A channel's settings. A retired channel is readmitted by the reset of its cluster. -/
def chanBack (c : EdgeChan) : EdgeChan :=
  { mode := c.mode, listen := c.listen, tsTb := c.tsTb, flags := c.flags, timing := c.timing, baud := c.baud
    ltWindow := c.ltWindow, ids := c.ids, tables := c.tables, table := c.table, plca := c.plca, netDown := c.netDown
    state := if c.state = 6 then 1 else chanAgain c.state }

/-- Owl's keys from its slots (R466). -/
def owlKeys (c : PairCfg) (s : State) : State :=
  { s with pair := { s.pair with genKey := saKey c.genSlot s, verKey := saKey c.verSlot s } }

/-- Lanes, ports, PHYs and MACsec of a resume record. -/
def resumePorts (r : Ports) (s : State) : State :=
  let x : Ports := {
    lane := r.lane.map (fun e => (e.1, { e.2 with lock := false, retired := false, faults := [], lossCounted := false }))
    eth := r.eth.map (fun e => (e.1, portBack e.2))
    phy := r.phy
    mdio := r.mdio.map (fun e => (e.1, { hz := e.2.hz }))
    macsec := r.macsec.map (fun e => (e.1, macsecBack e.2 s)) }
  { s with ports := x }

/-- Edge channels, FlexRay controllers and clusters of a resume record. -/
def resumeEdge (r : Edge) (s : State) : State :=
  let x : Edge := {
    ch := r.ch.map (fun e => (e.1, chanBack e.2))
    fr := r.fr.map (fun e => (e.1, { block := e.2.block, bufs := e.2.bufs, poc := 2 }))
    cl := r.cl.map (fun e => (e.1, { use := e.2.use, settleMs := e.2.settleMs })) }
  { s with edge := x }

/-- A time base that was enabled is enabled again. -/
def tbBack (t : TimeBase) : TimeBase := { state := if t.state = .disabled then .disabled else .enabled }

/-- Time-base enables, gPTP slots and ports, PPS settings of a resume record. -/
def resumeTime (r : TimeUnit) (s : State) : State :=
  let x : TimeUnit := { s.time with
    tb := ([1, 2, 3, 4, 5]).foldl (fun t n => Tbl.set t n (tbBack (Tbl.get r.tb n {})) {}) s.time.tb
    slot := r.slot.map (fun e => (e.1, { e.2 with state := 0, best := none, gm := 0, offset := 0, steps := 0 }))
    gport := r.gport
    pps := r.pps.map (fun e => (e.1, { e.2 with active := false, until_ := 0 })) }
  { s with time := x }

/-- NM settings of a resume record; requests and holds are not settings. -/
def nmBack (r n : Nm) : Nm :=
  { n with
    buses := r.buses.map (fun e => (e.1, { e.2 with ready := false, hold := false }))
    target := r.target, suppress := r.suppress, coord := r.coord, commitMs := r.commitMs, offendS := r.offendS }

/-- The settings of a resume record are restored (R435). -/
def resumeApply (r : Resume) (s : State) : State :=
  let s := bootSets r.active s
  let sets : Sets := { s.sets with drainMs := r.drainMs }
  let flow : Flow := { ageS := r.flow.ageS, egr := r.flow.egr.map (fun e => (e.1, egrRestart e.2)) }
  let gw : Gateway := { s.gw with fvSave := r.gw.fvSave, fvSkip := r.gw.fvSkip }
  let pair : Pair := { s.pair with cfg := r.pair, state := b2n r.pair.en }
  let test : Test := { s.test with moleEn := r.moleEn, moleMask := r.moleMask, moleUs := r.moleUs, log2 := r.log2 }
  let ctl : Ctl := { s.ctl with periodMs := r.periodMs, enSpi := r.enSpi, causeEn := r.causeEn }
  let sleep : Sleep := { s.sleep with
    settleUs := r.sleep.settleUs, drainMax := r.sleep.drainMax, nm := nmBack r.sleep.nm s.sleep.nm }
  let s := resumeTime r.time (resumeEdge r.edge (resumePorts r.ports
    { s with sets := sets, vat := vatSettings r.vat, flow := flow, gw := gw, pair := pair, test := test, ctl := ctl, sleep := sleep }))
  let s := forEach (List.range 5) (fun k s => setMb k { mbOf k s with groups := r.groups.getD k 0 } s) s
  if r.pair.en ∨ r.pair.follower then owlKeys r.pair s else s

/-- After the exit's BIST: units that it found faulty are retired, Diesh is loaded, the record is applied and invalidated
(R435, R447, R515, R517). -/
def hibernateBoot (s : State) : State :=
  let s := forEach (bistUnits s.test.bist.fails) (fun f s => alarm 10 (bistLoc f) s) (bistApply s)
  let s := romLoad (romStart s)
  if s.power.phase ≠ .dieshInit then s
  else
    let s := dieshBoot s
    match (flashBank (settingsBank s) s).settings.resume with
    | some r => keepResume none (resumeApply r s)
    | none => { s with sleep := { s.sleep with resumeLost := true } }

/-- Everything but Den starts again after Hibernate; what Den and the wake keep goes on (R434, R447). -/
def hibernateExit (duration noRef : Nat) (fails : List BistFail) (s : State) : State :=
  let z := s.sleep
  let tb := tbOf 0 s
  let t := bootBegin (restart .none .bist s)
  let t := { t with sleep := { t.sleep with
    net := z.net, saved := z.saved, unconfirmed := z.unconfirmed, falseRuns := z.falseRuns, lastTarget := z.lastTarget } }
  let t := setTb 0 { ({} : TimeBase) with state := .enabled, count := tb.count } t
  let t := bistRecord 1 duration noRef t.alarms.soft.length fails t
  if t.test.bist.outcome = 2 then bootFailed 4 t else tbRestart (gptpRestart (mkaRestart (hibernateBoot t)))

/-! ### Leaving sleep (R447) -/

/-- The role that Den kept of a pair's sleep takes effect (R479). -/
def sleptRole (s : State) : State :=
  let p := s.pair
  let s := { s with pair := { p with owlOff := false, heard := false } }
  if p.slept = 1 then { s with pair := { s.pair with state := 1 } }
  else if p.slept = 2 then
    { s with
      pair := { s.pair with state := 1, awaiting := true }
      sleep := { s.sleep with state := 2, gated := true, target := 1 } }
  else s

/-- PCIE_WAKE_N is asserted until PCIE_PERST_N rises, if PCIE is an enabled source (R447). -/
def pcieWake (s : State) : State :=
  if s.sleep.sourceEn.getLsbD 22 then emit (.pcieWake true) { s with power := { s.power with wakeN := true } } else s

/-- What every exit ends with: EV52, SLEEP_RESULT, the network wake of a network sleep (R447, R454, R458). -/
def exitEnds (left : Nat) (s : State) : State :=
  let s := { s with sleep := { s.sleep with left := left } }
  let s := notice 0x0B00 locDev (resultData 0x1F s) (raise 52 (left - 1) s)
  if s.sleep.net then
    if s.pair.awaiting then { s with sleep := { s.sleep with net := false } }
    else networkWake (decide (s.sleep.infoFirst ≤ 26)) s
  else s

/-- Roost ends (R447). -/
def roostExit (s : State) : State :=
  exitEnds 1 { s with
    sleep := { s.sleep with state := 0, target := 0, gated := false }
    pair := { s.pair with parked := false } }

/-- The device is up again after Burrow or Hibernate: at P0, the saved level to be restored (R433, R447). -/
def deepExit (left : Nat) (s : State) : State :=
  let z := s.sleep
  let s := { s with
    power := { s.power with vsel := 0 }
    sleep := { z with
      state := 0, target := 0, asleep := false, gated := false, entry := .none, railsUp := false, level := 0
      restore := z.saved != 0 } }
  exitEnds left (pcieWake (sleptRole s))

/-- SLEEP_EXIT_COMPLETE: `periods` have passed since Den last gave TB0; `duration`, `noRef` and `fails` are the record of the
abbreviated BIST of a Hibernate exit (R434, R447, R515). -/
def execSleepExitComplete (periods duration noRef : Nat) (fails : List BistFail) (s : State) : Res :=
  let z := s.sleep
  if z.state ≠ 3 ∨ s.pair.taking then .next s
  else if !z.asleep then .next (roostExit s)
  else if !z.railsUp then .next s
  else
    let s := denTime periods s
    if z.target = 2 then
      let s := tbRestart (gptpRestart (mkaRestart (linksRestart (burrowLoss s))))
      .next (deepExit 2 { s with power := { s.power with ready := true } })
    else .next (deepExit 3 (hibernateExit duration noRef fails s))

/-! ### False wakes (R448, R449) -/

/-- A false wake is counted; the third in a row within 600 s mutes the source (R448, R449). -/
def falseWake (w : Wake) (s : State) : State :=
  let k := runKey w
  let ts := faultsNow (Tbl.get s.sleep.falseRuns k {}).times 600000000000 s
  let s := raise 57 0 (count 255 (212 + w.source) s)
  if 3 ≤ ts.length then
    let z := s.sleep
    let byCh := w.source == 25 || w.source == 27
    raise 57 1 { s with sleep := { z with
      falseRuns := Tbl.set z.falseRuns k {} {}
      muted := if byCh then z.muted else z.muted ||| BitVec.ofNat 31 (2 ^ w.source)
      mutedCh := if byCh then z.mutedCh ||| BitVec.ofNat 96 (2 ^ w.channel) else z.mutedCh } }
  else { s with sleep := { s.sleep with falseRuns := Tbl.set s.sleep.falseRuns k { times := ts } {} } }

/-- FALSE_WAKE_TIMEOUT: the wake is false; the device enters again the state that it left (R448). -/
def execFalseWakeTimeout (s : State) : Res :=
  match s.sleep.unconfirmed with
  | none => .next s
  | some w =>
    if s.sleep.state ≠ 0 ∨ s.power.phase ≠ .done then .next s
    else
      let s := falseWake w { s with sleep := { s.sleep with unconfirmed := none } }
      .next (entryStart s.sleep.left false s)

/-! ### Commands (R460) -/

/-- CMD_SLEEP_ENTER. -/
def cmdSleepEnter : Cmd :=
  { code := 0x0B01, may := mbs [0, 2], lenOk := len 8
    idx := fun r _ => need (decide (1 ≤ u8 r.params 0) && decide (u8 r.params 0 ≤ 3))
    body := fun r s =>
      let t := u8 r.params 0
      let ms := u32 r.params 4
      let z := s.sleep
      if z.entry ≠ .none ∨ z.asleep ∨ z.state = 3 ∨ (z.state = 2 ∧ t = 1) ∨ (1 < t ∧ (s.pair.state = 2 ∨ s.pair.state = 3)) then
        fail stState s
      else
        let s := { s with sleep := { z with tc10 := bit r.params 1 0, drainMax := if ms = 0 then z.drainMax else clamp 1 100 ms } }
        let s := entryStart t false s
        ok (b1 t ++ b1 (b2n (bit r.params 1 0)) ++ zeros 2 ++ b4 s.sleep.drainMax) s }

/-- CMD_SLEEP_EXIT: the COMMAND source. -/
def cmdSleepExit : Cmd :=
  { code := 0x0B02, may := mbs [0, 1, 2, 3], lenOk := len 0
    body := fun _ s =>
      if s.sleep.state = 0 ∧ s.sleep.entry = .none then fail stState s else ok [] (wake { source := 30 } s) }

/-- The response of CMD_WAKE_CONFIG. -/
def wakeRsp (op : Nat) (s : State) : Bytes :=
  let z := s.sleep
  b1 op ++ zeros 3 ++ b4 z.sourceEn.toNat ++ le 12 z.edgeEn.toNat ++ b1 z.actFilter ++ zeros 1 ++ b2 z.fwTimeout ++
    (List.range 4).flatMap (fun k => b1 (z.inhMap.getD k 0)) ++ b4 z.muted.toNat ++ le 12 z.mutedCh.toNat

/-- CMD_WAKE_CONFIG. -/
def cmdWakeConfig : Cmd :=
  { code := 0x0B03, may := readAny 0 [0], lenOk := len 44
    idx := fun r _ => need (decide (u8 r.params 0 < 2))
    body := fun r s =>
      let p := r.params
      let z := s.sleep
      if u8 p 0 = 0 then ok (wakeRsp 0 s) s
      else
        let s := { s with sleep := { z with
          sourceEn := BitVec.ofNat 31 (u32 p 4), edgeEn := BitVec.ofNat 96 (leN p 8 12), actFilter := max 1 (u8 p 20)
          fwTimeout := clamp 10 10000 (u16 p 22), inhMap := (List.range 4).map (fun k => u8 p (24 + k) % 4)
          muted := z.muted &&& ~~~BitVec.ofNat 31 (u32 p 28), mutedCh := z.mutedCh &&& ~~~BitVec.ofNat 96 (leN p 32 12) } }
        ok (wakeRsp 1 s) s }

/-- The response of CMD_WAKE_MATCHER. -/
def matcherRsp (n op : Nat) (s : State) : Bytes :=
  let m := Tbl.get s.sleep.matchers n {}
  b1 n ++ b1 op ++ b1 m.flags ++ b1 m.channel ++ b1 m.rate ++ b1 m.dlc ++ zeros 2 ++ b4 m.id ++ b4 m.idMask ++
    slice m.data 0 8 ++ slice m.dataMask 0 8

/-- CMD_WAKE_MATCHER. -/
def cmdWakeMatcher : Cmd :=
  { code := 0x0B04, may := readAny 1 [0], lenOk := len 32
    idx := fun r _ =>
      let p := r.params
      need (decide (u8 p 0 < 8) && decide (u8 p 1 < 2) && (u8 p 1 == 0 || decide (u8 p 3 < 96)))
    body := fun r s =>
      let p := r.params
      let n := u8 p 0
      if u8 p 1 = 0 then ok (matcherRsp n 0 s) s
      else if !isCan (edgeChan (u8 p 3) s).mode ∨ 3 < u8 p 4 ∨ (8 < u8 p 5 ∧ u8 p 5 ≠ 255) then fail stConflict s
      else
        let m : Matcher := {
          flags := u8 p 2 % 8, channel := u8 p 3, rate := u8 p 4, dlc := u8 p 5, id := u32 p 8 % 536870912
          idMask := u32 p 12 % 536870912, data := slice p 16 8, dataMask := slice p 24 8 }
        let s := { s with sleep := { s.sleep with matchers := Tbl.set s.sleep.matchers n m {} } }
        ok (matcherRsp n 1 s) s }

def execCmdSleepEnter (mb : Nat) (s : State) : Res := .next (runCmd cmdSleepEnter mb s)
def execCmdSleepExit (mb : Nat) (s : State) : Res := .next (runCmd cmdSleepExit mb s)
def execCmdWakeConfig (mb : Nat) (s : State) : Res := .next (runCmd cmdWakeConfig mb s)
def execCmdWakeMatcher (mb : Nat) (s : State) : Res := .next (runCmd cmdWakeMatcher mb s)

end Sys2Proof.Machine
end

