-- ==== Sys2Proof/Machine/Nm.lean ====
section
/-! DEFINITION. Network coordination: NM frames, readiness, agreement, commit, the stay-awake log, the commands 0x0B05 to
0x0B07 (spec/14, R450 to R459). -/

namespace Sys2Proof.Machine

def setNm (f : Nm → Nm) (s : State) : State := { s with sleep := { s.sleep with nm := f s.sleep.nm } }

/-- Network coordination runs: Diesh runs, COORD_EN is set, the device is awake and no standby (R450, R479). -/
def coordRuns (s : State) : Bool :=
  s.sleep.nm.coord && dieshUp s && s.sleep.state == 0 && !s.sleep.asleep && s.pair.state != 3 && !s.pair.awaiting

/-- A host request is held. -/
def requested (s : State) : Bool := s.sleep.nm.req0 || s.sleep.nm.req2

/-- NM buses other than `p` are ready. -/
def othersReady (p : Nat) (s : State) : Bool := (nmBusPorts s).all (fun q => q == p || (nmBusOf q s).ready)

/-- The place of a node in the stay-awake log. -/
def stayIdx (port node : Nat) (s : State) : Option Nat :=
  (s.sleep.nm.log.find? (fun e => e.2.valid && e.2.port == port && e.2.node == node)).map (·.1)

def stayAt (i : Nat) (s : State) : StayEntry := Tbl.get s.sleep.nm.log i {}

/-- A write to the stay-awake log; Diesh keeps it in the settings of its flash bank too (R496; log entry 42). -/
def setStay (i : Nat) (e : StayEntry) (s : State) : State :=
  let l := Tbl.set s.sleep.nm.log i e {}
  keepSettings (fun x => { x with stay := l }) (setNm (fun n => { n with log := l }) s)

/-- The node is suppressed (R456). -/
def suppressed (port node : Nat) (s : State) : Bool :=
  match stayIdx port node s with
  | some i => (stayAt i s).suppressed
  | none => false

/-- A time in ms is over since a TB0 time. -/
def msOver (t ms : Nat) (s : State) : Bool := decide (t + 1000000 * ms ≤ now s)

/-- A node's frames keep its bus not ready (R451, R456). -/
def keepsAwake (x : NmNode) (s : State) : Bool :=
  !suppressed x.port x.node s && !msOver x.lastSeen (nmBusOf x.port s).timeoutMs s

/-- A node holds the network (R456). -/
def nodeHolds (x : NmNode) (s : State) : Bool :=
  let b := nmBusOf x.port s
  b.en && !b.ready && keepsAwake x s && othersReady x.port s && !requested s

/-- A logged hold ends: its length is kept (CMD_STAYAWAKE_LOG). -/
def holdEnds (x : NmNode) (s : State) : State :=
  match stayIdx x.port x.node s, x.since with
  | some i, some t =>
    let e := stayAt i s
    setStay i { e with longest := max e.longest ((now s - t) / 1000000000) } s
  | _, _ => s

/-- Which nodes hold, after a change of readiness, nodes or requests (R456). -/
def nmHolders (s : State) : State :=
  let ended := s.sleep.nm.nodes.filter (fun x => x.logged && !nodeHolds x s)
  let t := forEach ended holdEnds s
  setNm (fun n => { n with nodes := n.nodes.map (fun x =>
    if nodeHolds x s then { x with since := some (x.since.getD (now s)) } else { x with since := none, logged := false }) }) t

/-- Sleep is agreed: the commit window opens, or with COMMIT_MS 0 the commit is due in 1 ms (R453). -/
def seekAgreement (s : State) : State :=
  let n := s.sleep.nm
  if coordRuns s ∧ s.sleep.entry = .none ∧ n.state = 0 ∧ n.commitAt.isNone ∧ !requested s ∧ !(nmBusPorts s).isEmpty ∧
      (nmBusPorts s).all (fun p => (nmBusOf p s).ready && !(nmBusOf p s).hold) then
    let s := raise 54 0 s
    if n.commitMs = 0 then setNm (fun n => { n with commitAt := some (now s + 1000000) }) s
    else nmState 2 (setNm (fun n => { n with windowEnd := now s + 1000000 * n.commitMs }) s)
  else s

/-- What follows each change of the network's state. -/
def nmChanged (s : State) : State := seekAgreement (nmHolders s)

/-- An NM event at TB0 time `t`: before the end of the window it cancels it; later, or during the commit, it is a network
wake (R453, R454). -/
def nmEvent (t : Nat) (own : Bool) (s : State) : State :=
  let n := s.sleep.nm
  if n.state = 2 ∧ t < n.windowEnd then windowCancel s
  else if n.state = 2 ∨ n.state = 3 ∨ n.commitAt.isSome then networkWake own s
  else s

/-! ### Received NM frames (R450, R451) -/

/-- A copy in queue 673 that is an NM frame of a port: neither gPTP nor EAPOL nor a chain frame. -/
def isNmCopy (port : Nat) (x : Copy) (s : State) : Bool :=
  x.ingress == port && (match frameOf x.fid s with
    | some f => f.frame.edge || !([0x88F7, 0x888E, 0x88B6].contains (etypeOf f.frame.bytes))
    | none => false)

/-- The NM PDU of a frame: the data of an edge frame; what follows the UDP header (R450). -/
def nmPdu (f : Frame) (stack : List (Nat × Nat)) : Bytes :=
  if f.edge then f.bytes.drop 16
  else match headerAt stack 0x11 with
    | some o => (f.bytes.drop (o + 8)).take (beN f.bytes (o + 4) 2 - 8)
    | none => []

/-- A node's frame enters the node table; a full table counts it (R451). -/
def nodeSeen (port node : Nat) (s : State) : State :=
  let l := s.sleep.nm.nodes
  if l.any (fun x => x.port == port && x.node == node) then
    setNm (fun n => { n with nodes := l.map (fun x => if x.port = port ∧ x.node = node then { x with lastSeen := now s } else x) }) s
  else if l.length < 512 then
    setNm (fun n => { n with nodes := l ++ [{ port := port, node := node, lastSeen := now s }] }) s
  else raise 54 4 (count 255 177 (setNmBus port { nmBusOf port s with untracked := some (now s) } s))

/-- An NM frame with its ingress time in TB0 (R448, R451, R453, R456). -/
def nmFrame (port : Nat) (pdu : Bytes) (t : Nat) (s : State) : State :=
  let b := nmBusOf port s
  let s := count port 32 s
  if pdu.length ≤ b.nodePos ∨ (b.cbvPos ≠ 0xFF ∧ pdu.length ≤ b.cbvPos) then count port 34 s
  else
    let node := u8 pdu b.nodePos
    if node = b.ownNode then s
    else
      let s := nodeSeen port node s
      if suppressed port node s then s
      else
        let s := setNmBus port { nmBusOf port s with ready := false } (confirmAny s)
        nmHolders (nmEvent t false s)

/-- NM_FRAME_RECEIVE: Vintner takes the first NM frame of a port from queue 673 (R450 to R453). -/
def execNmFrameReceive (port : Nat) (s : State) : Res :=
  let v := vatQueue 673 s
  if !dieshUp s ∨ !(nmBusOf port s).en then .next s
  else match takeFirst (fun x => isNmCopy port x s) v.copies with
    | none => .next s
    | some (x, rest) =>
      match frameOf x.fid s with
      | none => .next s
      | some f =>
        let s := releaseRef x.fid (setVatQueue 673 { v with copies := rest } (emit (.toVintner (copyBytes x s)) s))
        .next (nmFrame port (nmPdu f.frame x.stack) (f.frame.ts.getD 0 0) s)

/-- NM_BUS_TIMEOUT: no counting frame for NM_TIMEOUT_MS (R451). -/
def execNmBusTimeout (port : Nat) (s : State) : Res :=
  let b := nmBusOf port s
  let quiet := (s.sleep.nm.nodes.filter (fun x => x.port == port)).all (fun x => !keepsAwake x s) &&
    (match b.untracked with
      | some t => msOver t b.timeoutMs s
      | none => true)
  if b.en ∧ !b.ready ∧ quiet ∧ dieshUp s then .next (nmChanged (setNmBus port { b with ready := true } s)) else .next s

/-- NM_NODE_EXPIRY: a node silent for ten times NM_TIMEOUT_MS is removed (R451). -/
def execNmNodeExpiry (port node : Nat) (s : State) : Res :=
  let gone (x : NmNode) : Bool := x.port == port && x.node == node && msOver x.lastSeen (10 * (nmBusOf port s).timeoutMs) s
  .next (nmHolders (setNm (fun n => { n with nodes := n.nodes.filter (fun x => !gone x) }) s))

/-! ### Own NM frames (R452) -/

/-- The PDU of an own NM frame. -/
def ownPdu (b : NmBus) (own : Bool) : Bytes :=
  let cbv := b2n b.hold * 2 ^ b.rmBit ||| b2n (b.hold && own) * 2 ^ b.awBit
  let p := setBytes (zeros b.pduLen) b.nodePos (b1 b.ownNode)
  (if b.cbvPos = 0xFF then p else setBytes p b.cbvPos (b1 cbv)).take b.pduLen

/-- A UDP frame from a template of R335, with its Identification. -/
def udpFrame (h : Bytes) (ident : Nat) (pdu : Bytes) : Bytes :=
  let e := h.length - 28
  let ip := setBytes (setBytes (setBytes (slice h e 20) 2 (be 2 (28 + pdu.length))) 4 (be 2 ident)) 10 (zeros 2)
  slice h 0 e ++ setBytes ip 10 (be 2 (ipChecksum ip)) ++ slice h (e + 20) 4 ++ be 2 (8 + pdu.length) ++ zeros 2 ++ pdu

/-- The own NM frame of a bus; BRS of a CAN FD frame is a free value. -/
def ownFrame (p : Nat) (s : State) : Bytes × State :=
  let b := nmBusOf p s
  let pdu := ownPdu b s.sleep.nm.local_
  let n := p - 32
  let m := (edgeChan n s).mode
  let (k, s) := takeFresh s
  if p < 32 ∨ m = 6 then
    (udpFrame b.template b.ident pdu, setNmBus p { b with ident := (b.ident + 1) % 65536 } s)
  else if isFr m then (edgeHeader n 5 0 (16 * b2n (m == 8)) 0 b.txId pdu.length 0 0 0 ++ pdu, s)
  else
    let id := if b.ide then 2147483648 + b.txId % 536870912 else b.txId % 2048
    if pdu.length ≤ 8 then (edgeHeader n 1 0 0 pdu.length id pdu.length 0 0 0 ++ pdu, s)
    else (edgeHeader n 2 0 (2 * (Config.freeNat k % 2)) (fdDlc pdu.length) id pdu.length 0 0 0 ++ pdu, s)

/-- NM_TX_CYCLE: Neraz sends its own frame on a bus; the queue is a free value (R452). -/
def execNmTxCycle (port : Nat) (s : State) : Res :=
  let b := nmBusOf port s
  if b.en ∧ coordRuns s ∧ !s.sleep.gated ∧ (requested s ∨ !othersReady port s ∨ b.hold) then
    let (f, s) := ownFrame port s
    let (k, s) := takeFresh s
    let q := if port < 32 then 8 * port + Config.freeNat k % 8 else 256 + 4 * (port - 32) + Config.freeNat k % 4
    .next (count port 33 (directedSend port q f none s))
  else .next s

/-- NM_HOLD_EXPIRY: the hold of a bus has run for REPEAT_MS (R453, R455). -/
def execNmHoldExpiry (port : Nat) (s : State) : Res :=
  let b := nmBusOf port s
  if !b.hold then .next s
  else
    let s := setNmBus port { b with hold := false } s
    if (nmBusPorts s).any (fun p => (nmBusOf p s).hold) then .next s
    else
      let s := setNm (fun n => { n with local_ := false }) s
      .next (nmChanged (if s.sleep.nm.state = 1 then nmState 0 s else s))

/-! ### Commit (R454) -/

/-- The commit takes a LIN channel down (R454). -/
def linDown (n : Nat) (s : State) : State :=
  let s := chanState n 1 s
  setEdgeChan n { edgeChan n s with netDown := true } s

/-- A LIN master sends the go-to-sleep frame and goes DOWN (R454). -/
def linSleep (n : Nat) (s : State) : State :=
  let d : Bytes := 0 :: List.replicate 7 0xFF
  linDown n (emit (.bus n d) (countN (32 + n) 3 8 (countEdge n 2 (linHeader n 0x3C s))))

/-- Lanes of NM buses with TC10 that have a port UP. -/
def commitLanes (s : State) : List Nat :=
  (((nmBusPorts s).filter (fun p => decide (p < 32) && (nmBusOf p s).tc10 && (ethPort p s).state == 2)).map laneNo).eraseDups

/-- The commit's actions start (R454). -/
def commitStart (s : State) : State :=
  let s := raise 54 2 (count 255 173 s)
  let s := nmState 3 (setNm (fun n => { n with commitAt := none, windowEnd := 0 }) s)
  let on := (s.edge.ch.filter (fun e => e.2.state == 3)).map (·.1)
  let s := forEach (on.filter (fun n => (edgeChan n s).mode == 4)) linSleep s
  let ls := commitLanes s
  let slaves := on.filter (fun n => (edgeChan n s).mode == 5)
  forEach ls (fun l s => tc10Sleep l none s) (setNm (fun n => { n with lins := slaves, lanes := ls }) s)

/-- NM_COMMIT_START: e + 1 ms, or 1 ms after an agreement without a window (R453, R454). -/
def execNmCommitStart (s : State) : Res :=
  let n := s.sleep.nm
  let due := n.state == 2 && decide (n.windowEnd + 1000000 ≤ now s) || (match n.commitAt with
    | some t => decide (t ≤ now s)
    | none => false)
  if due ∧ coordRuns s then .next (commitStart s) else .next s

/-- LIN_SLAVE_SILENCE_TIMEOUT: a slave goes DOWN after 4 s of silence (R454). -/
def execLinSlaveSilenceTimeout (chan : Nat) (s : State) : Res :=
  let n := s.sleep.nm
  if n.state = 3 ∧ n.lins.contains chan then
    .next (setNm (fun n => { n with lins := n.lins.filter (· != chan) }) (linDown chan s))
  else .next s

/-- The entry of a commit starts (R454). -/
def netEntry (s : State) : State := entryStart s.sleep.nm.target true (nmState 4 (setNm (fun n => { n with pairWait := false }) s))

/-- SLEEP_ENTRY_START: the last action of a commit has ended; the active of a formed pair first asks its standby with
PAIR_SLEEP (R454, R479). -/
def execSleepEntryStart (s : State) : Res :=
  let n := s.sleep.nm
  if n.state ≠ 3 ∨ !n.lanes.isEmpty ∨ !n.lins.isEmpty ∨ n.pairWait ∨ !coordRuns s then .next s
  else if s.pair.state = 2 then
    let (k, s) := takeFresh s
    .next (pairSend 3 (Config.freeFrame k) (setNm (fun n => { n with pairWait := true }) s))
  else .next (netEntry s)

/-! ### The stay-awake log (R456) -/

/-- The place for a new entry: a free one, else the one seen longest ago. -/
def stayPlace (s : State) : Nat × Bool :=
  match (List.range 512).find? (fun i => !(stayAt i s).valid) with
  | some i => (i, false)
  | none => ((List.range 512).foldl (fun b i => if (stayAt i s).lastSeen < (stayAt b s).lastSeen then i else b) 0, true)

/-- A holding node is logged, and suppressed with SUPPRESS_OFFENDERS (R456, R458). -/
def offender (x : NmNode) (held : Nat) (s : State) : State :=
  let (i, full) := match stayIdx x.port x.node s with
    | some i => (i, false)
    | none => stayPlace s
  let old := if (stayIdx x.port x.node s).isSome then stayAt i s else {}
  let sup := s.sleep.nm.suppress
  let e : StayEntry := {
    valid := true, port := x.port, node := x.node, suppressed := sup || old.suppressed, episodes := satAdd max32 old.episodes 1
    longest := max old.longest held, lastSeen := x.lastSeen }
  let s := if full then raise 55 2 (count 255 178 s) else s
  let s := raise 55 0 (setStay i e s)
  let s := if sup && !old.suppressed then raise 55 1 s else s
  notice 0x0B02 (locPort x.port x.node) (x.port + 256 * x.node + 65536 * b2n e.suppressed) s

/-- OFFENDER_TIMEOUT: a node has held for T_OFFEND_S (R456). -/
def execOffenderTimeout (port node : Nat) (s : State) : Res :=
  match s.sleep.nm.nodes.find? (fun x => x.port == port && x.node == node) with
  | none => .next s
  | some x =>
    match x.since with
    | none => .next s
    | some t =>
      if x.logged ∨ now s < t + 1000000000 * s.sleep.nm.offendS ∨ !coordRuns s then .next s
      else
        let s := setNm (fun n => { n with nodes := n.nodes.map (fun y =>
          if y.port = port ∧ y.node = node then { y with logged := true } else y) }) s
        .next (nmChanged (offender x ((now s - t) / 1000000000) s))

/-- Suppression of a log entry ends. -/
def unsuppress (i : Nat) (s : State) : State :=
  let e := stayAt i s
  if e.suppressed then setStay i { e with suppressed := false } s else s

/-- SUPPRESSION_END: a suppressed node has sent nothing for NM_TIMEOUT_MS (R456). -/
def execSuppressionEnd (port node : Nat) (s : State) : Res :=
  let quiet := s.sleep.nm.nodes.all (fun x => !(x.port == port && x.node == node) || msOver x.lastSeen (nmBusOf port s).timeoutMs s)
  match stayIdx port node s with
  | some i => .next (if quiet then unsuppress i s else s)
  | none => .next s

/-! ### Commands (R460) -/

/-- The 74 bytes of CMD_NM_BUS. -/
def nmBusRsp (p op : Nat) (s : State) : Bytes :=
  let b := nmBusOf p s
  b1 p ++ b1 op ++ b1 (b2n b.en + 2 * b2n b.ide + 4 * b2n b.tc10) ++ b1 b.ownNode ++ b1 b.nodePos ++ b1 b.cbvPos ++
    b1 (b.rmBit + 8 * b.awBit) ++ b1 b.pduLen ++ b4 b.idLo ++ b4 b.idHi ++ b4 b.txId ++ b2 b.cycleMs ++ b2 b.timeoutMs ++
    b2 b.repeatMs ++ b1 b.template.length ++ zeros 1 ++ slice b.template 0 46

/-- The bus can carry a PDU of this length. -/
def pduCarried (p n : Nat) (s : State) : Bool :=
  let m := (edgeChan (p - 32) s).mode
  if p < 32 ∨ m = 6 then true
  else if m = 1 then decide (n ≤ 8) else if isFr m then n % 2 == 0 else fdLength (fdDlc n) == n

/-- CONFLICT of CMD_NM_BUS. A template is judged with NM_EN set (log entry 46). -/
def nmBusConflict (p : Bytes) (s : State) : Bool :=
  let q := u8 p 0
  let m := (edgeChan (q - 32) s).mode
  let eth := decide (q < 32) || m == 6
  (decide (32 ≤ q) && (m == 0 || isLin m)) || !pduCarried q (clamp 1 64 (u8 p 7)) s || decide (u32 p 12 < u32 p 8) ||
    (bit p 2 0 && eth && !templateOk true (u8 p 26) (slice p 28 46))

/-- CMD_NM_BUS. -/
def cmdNmBus : Cmd :=
  { code := 0x0B05, may := readAny 1 [0], lenOk := len 74
    idx := fun r _ => need (decide (u8 r.params 0 < 128) && decide (u8 r.params 1 < 2))
    body := fun r s =>
      let p := r.params
      let q := u8 p 0
      if u8 p 1 = 0 then ok (nmBusRsp q 0 s) s
      else if nmBusConflict p s then fail stConflict s
      else
        let old := nmBusOf q s
        let b : NmBus := {
          en := bit p 2 0, ide := bit p 2 1, tc10 := bit p 2 2, ownNode := u8 p 3, nodePos := min 63 (u8 p 4)
          cbvPos := (if u8 p 5 = 0xFF then 0xFF else min 63 (u8 p 5)), rmBit := u8 p 6 % 8, awBit := u8 p 6 / 8 % 8
          pduLen := clamp 1 64 (u8 p 7), idLo := u32 p 8, idHi := u32 p 12, txId := u32 p 16
          cycleMs := clamp 10 10000 (u16 p 20), timeoutMs := max 100 (u16 p 22), repeatMs := u16 p 24
          template := slice (slice p 28 46) 0 (min 46 (u8 p 26))
          ready := old.ready && old.en, hold := old.hold && bit p 2 0, untracked := old.untracked, ident := old.ident }
        let s := setNmBus q b s
        let s := if b.en then s else setNm (fun n => { n with nodes := n.nodes.filter (fun x => x.port != q) }) s
        ok (nmBusRsp q 1 s) (nmChanged s) }

/-- The response of CMD_NM_CONTROL. -/
def nmRsp (op : Nat) (s : State) : Bytes :=
  let n := s.sleep.nm
  let mask := sumBy (fun p => if (nmBusOf p s).ready then 0 else 2 ^ p) (nmBusPorts s)
  b1 op ++ b1 n.target ++ b1 (b2n n.suppress + 2 * b2n n.coord) ++ zeros 1 ++ b2 n.commitMs ++ zeros 2 ++ b4 n.offendS ++
    b1 n.state ++ b1 (b2n n.req0 + 2 * b2n n.req2) ++ b2 n.nodes.length ++ b8 (if n.state = 2 then n.windowEnd else 0) ++ le 21 mask

/-- New settings; without COORD_EN coordination stops (R450). -/
def nmSettings (p : Bytes) (s : State) : State :=
  let s := setNm (fun n => { n with
    target := u8 p 1, suppress := bit p 2 0, coord := bit p 2 1, commitMs := min 1000 (u16 p 4)
    offendS := clamp 1 65535 (u32 p 8) }) s
  if bit p 2 1 then nmChanged s
  else
    let s := forEach (nmBusPorts s) (fun q s => setNmBus q { nmBusOf q s with hold := false } s) s
    nmState 0 (setNm (fun n => { n with windowEnd := 0, commitAt := none, lanes := [], lins := [], pairWait := false, local_ := false }) s)

/-- CMD_NM_CONTROL. -/
def cmdNmControl : Cmd :=
  { code := 0x0B06
    may := fun r => match u8 r.params 0 with
      | 0 => true
      | 2 => r.mb == 0 || r.mb == 2
      | 3 => r.mb == 0 || r.mb == 2
      | _ => r.mb == 0
    lenOk := len 12
    idx := fun r _ =>
      let p := r.params
      need (decide (u8 p 0 < 4) && (u8 p 0 != 1 || (decide (1 ≤ u8 p 1) && decide (u8 p 1 ≤ 3))))
    body := fun r s =>
      let op := u8 r.params 0
      let req (v : Bool) (s : State) : State :=
        setNm (fun n => if r.mb = 0 then { n with req0 := v } else { n with req2 := v }) s
      let s := match op with
        | 1 => nmSettings r.params s
        | 2 => nmHolders (nmEvent (now s) true (req true s))
        | 3 => nmChanged (req false s)
        | _ => s
      ok (nmRsp op s) s }

/-- CMD_STAYAWAKE_LOG. -/
def cmdStayawakeLog : Cmd :=
  { code := 0x0B07, may := readOps 2 0 [0, 2], lenOk := len 6
    idx := fun r _ =>
      let p := r.params
      need (decide (u8 p 0 < 3) && decide (u16 p 2 < 512) && decide (u16 p 2 + clamp 1 100 (u16 p 4) ≤ 512))
    body := fun r s =>
      let p := r.params
      let f := u16 p 2
      let n := clamp 1 100 (u16 p 4)
      let s := match u8 p 0 with
        | 1 => keepSettings (fun x => { x with stay := [] }) (setNm (fun n => { n with log := [] }) s)
        | 2 => forEach (List.range n) (fun i s => unsuppress (f + i) s) s
        | _ => s
      ok (b2 f ++ b2 n ++ (List.range n).flatMap (fun i =>
        let e := stayAt (f + i) s
        b1 e.port ++ b1 e.node ++ b1 (b2n e.suppressed + 2 * b2n e.valid) ++ zeros 1 ++ b4 e.episodes ++ b4 e.longest ++ zeros 4 ++
          b8 e.lastSeen)) (nmHolders s) }

def execCmdNmBus (mb : Nat) (s : State) : Res := .next (runCmd cmdNmBus mb s)
def execCmdNmControl (mb : Nat) (s : State) : Res := .next (runCmd cmdNmControl mb s)
def execCmdStayawakeLog (mb : Nat) (s : State) : Res := .next (runCmd cmdStayawakeLog mb s)

end Sys2Proof.Machine
end

