-- ==== Sys2Proof/Machine/Service.lean ====
section
/-! DEFINITION. The service port: its filter, service frames, the session (spec/12, R377 to R380; spec/04,
CMD_SERVICE_END). -/

namespace Sys2Proof.Machine

/-- Kinds of service frame that a tester sends (R378). -/
def svcRequest := 1
def svcPoll := 3
def svcAck := 4

/-- A REQUEST carries CMD_SERVICE_AUTH: its first fragment does, or the message it continues began with one (R380). -/
def carriesAuth (src body : Bytes) (s : State) : Bool :=
  u8 body 1 == svcRequest &&
  (if beN body 4 2 = 0 then u16 body 12 == 0x0005
   else (s.svc.asmAuth && s.svc.asmSrc == src) ||
     s.svc.inbox.any (fun e => e.1 == src && u8 e.2 1 == svcRequest && beN e.2 4 2 == 0 && u16 e.2 12 == 0x0005))

/-- A frame that the MAC of port S has received whole (R11, R377, R380). -/
def serviceAccept (b : Bytes) (s : State) : State :=
  let dst := b.take 6
  let src := slice b 6 6
  let body := b.drop 14
  if beN b 12 2 ≠ 0x88B6 ∨ (dst ≠ macAddr 129 s ∧ dst ≠ List.replicate 6 0xFF) ∨ u8 body 0 ≠ 1 then count 129 22 s
  else if s.svc.session.isSome ∧ s.svc.peer ≠ some src ∧ !carriesAuth src body s then count 129 24 s
  else if [svcRequest, svcPoll, svcAck].contains (u8 body 1) then
    { s with svc := { s.svc with inbox := s.svc.inbox ++ [(src, body)] } }
  else s

/-- Take the oldest service frame of a kind. -/
def takeService (kind : Nat) (s : State) : Option (Bytes × Bytes × State) :=
  match s.svc.inbox.find? (fun e => u8 e.2 1 == kind) with
  | none => none
  | some e => some (e.1, e.2, { s with svc := { s.svc with inbox := s.svc.inbox.erase e } })

/-- Discard the assembly and count it (R379). -/
def svcFormat (s : State) : State :=
  count 129 23 { s with svc := { s.svc with asm := none, asmAuth := false, asmSrc := [] } }

/-- SERVICE_REQUEST: the oldest REQUEST fragment is assembled; the LAST one rings MB4's doorbell (R379). -/
def execServiceRequest (s : State) : Res :=
  match takeService svcRequest s with
  | none => .next s
  | some (src, b, s) =>
    let seq := beN b 2 2
    let off := beN b 4 2
    let data := (b.drop 12).take (beN b 6 2)
    let s := if off = 0 then
        { s with svc := { s.svc with
          asm := some 0, asmSeq := seq, asmSrc := src, asmAuth := (beN b 4 2 == 0) && u16 data 0 == 0x0005 } }
      else s
    if s.svc.asm ≠ some off ∨ s.svc.asmSeq ≠ seq ∨ 3584 < off + data.length then .next (svcFormat s)
    else
      let s := mbWrite 4 off data s
      let s := { s with svc := { s.svc with asm := some (off + data.length) } }
      if bit b 8 0 then
        let s := { s with svc := { s.svc with asm := none, asmAuth := false, asmSrc := [], peer := some src } }
        let s := if (mbOf 4 s).state = .empty ∧ mbServed 4 s then { s with svc := { s.svc with seq := seq } } else s
        let s := mbDoorbell 4 s
        .next (serviceSend 2 seq 0 true (rspHeader (mbOf 4 s)) s)
      else .next s

/-- SERVICE_POLL: the current response again (R379). -/
def execServicePoll (s : State) : Res :=
  match takeService svcPoll s with
  | none => .next s
  | some (_, _, s) =>
    if (mbOf 4 s).state = .done then .next (serviceRespond s)
    else .next (serviceSend 2 s.svc.seq 0 true (rspHeader (mbOf 4 s)) s)

/-- SERVICE_ACK: with the SEQ of the DONE request it acts as MB_RSP_ACK (R379). -/
def execServiceAck (s : State) : Res :=
  match takeService svcAck s with
  | none => .next s
  | some (_, b, s) => if beN b 2 2 = s.svc.seq then .next (mbAck 4 s) else .next s

/-- The session closes: SERVICE_END is sent, then PEER is forgotten (R380, CMD_SERVICE_AUTH). -/
def closeSession (s : State) : State :=
  if s.svc.session.isSome then
    let s := notice 0x0001 locDev 0 s
    { s with svc := { s.svc with session := none, rights := 0, peer := none } }
  else s

/-- SERVICE_SESSION_EXPIRY: the session has lasted SESSION_S (R504). -/
def execServiceSessionExpiry (s : State) : Res := .next (closeSession s)

/-- SERVICE_LINK_LOST: port S has been out of UP for 1 s (R380). -/
def execServiceLinkLost (s : State) : Res := if portUp 129 s then .next s else .next (closeSession s)

/-- CMD_SERVICE_END: the response goes to PEER before the session closes (log entry 28). -/
def cmdServiceEnd : Cmd :=
  { code := 0x0006, may := mbs [4], lenOk := len 0
    body := fun r s =>
      if s.svc.session.isSome then .busy (closeSession (mbDone r.mb stOk s.sets.gen [] s)) else fail stState s }

def execCmdServiceEnd (mb : Nat) (s : State) : Res := .next (runCmd cmdServiceEnd mb s)

end Sys2Proof.Machine
end

