-- ==== Sys2Proof/Machine/Receive.lean ====
section
/-! DEFINITION. A B, T or S MAC receives a frame (spec/01, R10 and R11; spec/12, R367 and R386; spec/07, R209;
spec/14, R434; spec/15, R467 and R468). -/

namespace Sys2Proof.Machine

/-- Owl's frames on a backbone port: EtherType 0x88B5 to 03-00-00-00-96-24 on a device of a pair or a follower (R468). -/
def isOwlFrame (p : Nat) (b : Bytes) (s : State) : Bool :=
  decide (p < 8) && (s.pair.cfg.en || s.pair.cfg.follower) && beN b 0 6 == 0x030000009624 && beN b 12 2 == 0x88B5

/-- A received frame of a port with its timestamp taken at the start (R277, R278). -/
def startStamp (p : Nat) (s : State) : List Nat :=
  let c := (Tbl.get s.time.gport p {}).ing
  (allTb s).map (fun (t : Nat) => (((t : Int) + c) % 18446744073709551616).toNat)

/-- Discard the rest of a frame being received; its first part leaves the Vat. -/
def dropPart (p : Nat) (r : RxPart) (last : Bool) (s : State) : State :=
  let s := match r.fid with
    | some fid => abortFrame fid (frameEnded fid s)
    | none => s
  setEthPort p { ethPort p s with rx := if last then none else some { r with fid := none, dropped := true } } s

/-- The frame of bytes as it enters the Vat. -/
def ethFrame (p : Nat) (b : Bytes) (ts : List Nat) (sec : Bool) : Frame := { bytes := b, port := p, ts := ts, macsec := sec }

/-- Write a first part or a whole frame into the Vat. -/
def intoVat (p : Nat) (b : Bytes) (ts : List Nat) (sec ended : Bool) (s : State) : Option Nat × State :=
  match stageFrame (ethFrame p b ts sec) ended s with
  | (some fid, s) => (some fid, pfcCheck p (commitFrame fid s))
  | (none, s) => (none, s)

/-- Counters of a frame that the MAC accepted (R391). -/
def countRx (p len : Nat) (b : Bytes) (s : State) : State :=
  let s := count p 0 (countN p 1 (len + 4) s)
  if bit b 0 0 then count p 12 s else s

/-- The whole frame has been received and its FCS is right: MACsec, MAX_FRAME, then the Vat (R10, R367, R386).
While nothing is forwarded a frame is dropped, but for the frames of Vintner on a standby (R434, R467). -/
def finishRx (p : Nat) (r : RxPart) (s : State) : State :=
  let b := r.bytes
  let done (s : State) : State := setEthPort p { ethPort p s with rx := none } s
  if isOwlFrame p b s then done (countRx p b.length b s)
  else if p = 129 then done (serviceAccept b (countRx p b.length b (wakeEth p b s)))
  else
    let s := wakeEth p b s
    let (d, s) := if p < 8 ∧ (macsecOf p s).en then msecRx p b s else (some (b, false), s)
    match d with
    | none => done s
    | some (x, sec) =>
      if !forwards s then
        done (if s.pair.state = 3 ∧ p < 8 ∧ [0x888E, 0x88F7].contains (beN x 12 2) then emit (.toVintner x) s else count p 7 s)
      else if (ethPort p s).maxFrame < x.length + 4 then dropPart p r true (count p 6 s)
      else
        let s := countRx p b.length b s
        match r.fid with
        | some fid =>
          match frameOf fid s with
          | some v => done (frameEnded fid (putFrame fid { v with ended := true } s))
          | none => done s
        | none => done (intoVat p x r.ts sec true s).2

/-- ETH_FRAME_RECEIVE: bytes of a frame as they arrive, without the FCS; `last` ends it and `how` says how: 0 good, 1 a bad
FCS, 2 an assembly error of preemption, 3 an overflow of the ingress FIFO (R367, R391). A frame is written into the Vat
from its 256th byte on; one for MACsec, for port S or for Owl is held whole. -/
def execEthFrameReceive (port : Nat) (data : Bytes) (last : Bool) (how : Nat) (s : State) : Res :=
  if !portUp port s then .next s
  else
    let r := match (ethPort port s).rx with
      | some r => r
      | none => { ts := startStamp port s }
    if r.dropped then .next (if last then setEthPort port { ethPort port s with rx := none } s else s)
    else
      let r := { r with bytes := r.bytes ++ data }
      let held := port = 129 ∨ (port < 8 ∧ (macsecOf port s).en) ∨ isOwlFrame port r.bytes s ∨ !forwards s
      let grown := match r.fid with
        | some fid => growFrame fid data s
        | none => (true, s)
      let s := grown.2
      if !grown.1 then .next (dropPart port r last s)
      else if how = 3 then .next (linkEvent port 11 (dropPart port r last (count port 7 s)))
      else if !held ∧ (ethPort port s).maxFrame < r.bytes.length + 4 then .next (dropPart port r last (count port 6 s))
      else if !last then
        if held ∨ r.fid.isSome ∨ r.bytes.length < 256 then .next (setEthPort port { ethPort port s with rx := some r } s)
        else
          match intoVat port r.bytes r.ts false false s with
          | (some fid, s) => .next (setEthPort port { ethPort port s with rx := some { r with fid := some fid } } s)
          | (none, s) => .next (dropPart port r false s)
      else if r.bytes.length < 60 then .next (dropPart port r true (count port 5 s))
      else if how = 2 then .next (dropPart port r true (count port 19 s))
      else if how = 1 then .next (dropPart port r true (count port 4 s))
      else .next (finishRx port r s)

end Sys2Proof.Machine
end

