-- ==== Sys2Proof/Machine/Owl.lean ====
section
/-! DEFINITION. Owl: its frames, what it sends, how it takes and relays what it receives, the challenge and its answer
(spec/15, R465 to R469). -/

namespace Sys2Proof.Machine

/-- Kinds of Owl frames (R465). -/
def owlHeartbeat := 1
def owlLastGasp := 2
def owlTakeover := 3
def owlBeacon := 4

/-- Location code of EV8, EV9, EV11 and EV12 (R488). -/
def locPair : Nat := locCode devId 14 0xFF noIdx

def setPair (f : Pair → Pair) (s : State) : State := { s with pair := f s.pair }

/-- Bytes 0 to 39 of an Owl frame with its SEQ (R465). -/
def owlHead (kind seq : Nat) (s : State) : Bytes :=
  let p := s.pair
  let ch := match p.challenges with
    | c :: _ => c.1
    | [] => 0
  b1 1 ++ b1 kind ++ b1 devId ++ b1 (pairRole s) ++ be 4 seq ++ be 4 ch ++ be 4 p.response ++ be 4 p.answered ++
    be 4 s.sets.gen ++ be 8 (now s) ++ be 4 p.epoch ++ zeros 4

/-- TAG of an Owl frame. -/
def owlTag (key head : Bytes) : Bytes := (cmac key head).take 8

/-- A MAC sends a frame that Owl gives it (R12, R391). -/
def owlEmit (port : Nat) (frame : Bytes) (s : State) : State :=
  emit (.eth port frame false) (count port 2 (countN port 3 (frame.length + 4) (count port 13 s)))

/-- The Ethernet frame of an Owl body (R465). -/
def owlFrame (port : Nat) (body : Bytes) (s : State) : Bytes := be 6 0x030000009624 ++ macAddr port s ++ be 2 0x88B5 ++ body

/-- Owl sends on the pair link. -/
def owlSendA (kind : Nat) (s : State) : State :=
  match s.pair.genKey with
  | none => s
  | some k =>
    if !s.pair.link || s.pair.owlOff then s
    else
      let h := owlHead kind s.pair.seqA s
      pairSend 0 (h ++ owlTag k h) (setPair (fun p => { p with seqA := (p.seqA + 1) % 4294967296 }) s)

/-- Owl sends one frame on those of some B ports that are UP: one SEQ, since all B ports are one path (R468). -/
def owlSendB (kind : Nat) (ports : List Nat) (s : State) : State :=
  match s.pair.genKey with
  | none => s
  | some k =>
    let up := ports.filter (fun p => portUp p s)
    if up.isEmpty || s.pair.owlOff then s
    else
      let h := owlHead kind s.pair.seqB s
      let b := h ++ owlTag k h
      let s := setPair (fun p => { p with seqB := (p.seqB + 1) % 4294967296 }) s
      forEach up (fun p s => owlEmit p (owlFrame p b s) s) s

/-- The device is in a formed pair, or has lost its peer (R464). -/
def pairFormedNow (s : State) : Bool := s.pair.state == 2 || s.pair.state == 3 || s.pair.state == 4

/-- HEARTBEAT_TIMER: every HB_PERIOD_US, on both paths (R469). -/
def execHeartbeatTimer (s : State) : Res :=
  if !pairFormedNow s ∨ s.pair.genKey.isNone ∨ s.pair.owlOff ∨ s.sleep.asleep then .next s
  else
    let a := if s.pair.link then 1 else 0
    let b := if portUp s.pair.cfg.hbPort s then 1 else 0
    .next (countN 255 256 (a + b) (owlSendB owlHeartbeat [s.pair.cfg.hbPort] (owlSendA owlHeartbeat s)))

/-- OWL_CHALLENGE_REFRESH: every 1 ms a fresh challenge from the TRNG; those of the last RESP_TIMEOUT_MS are kept (R469). -/
def execOwlChallengeRefresh (s : State) : Res :=
  if !pairFormedNow s ∨ s.pair.genKey.isNone ∨ s.pair.owlOff ∨ s.sleep.asleep then .next s
  else
    let (d, s) := drawBytes 4 s
    let old := s.pair.challenges.filter (fun c => decide (now s < c.2 + 1000000 * s.pair.cfg.respMs))
    .next (setPair (fun p => { p with challenges := (beN d 0 4, now s) :: old }) s)

/-- The answer to a challenge under a key: the first 32 bits of its CMAC with the responder's DEVICE_ID (R469). -/
def owlAnswer (key : Bytes) (challenge dev : Nat) : Nat := beN (cmac key (be 4 challenge ++ b1 dev)) 0 4

/-- OWL_RESPONSE_WRITE: Diesh answers the peer's present challenge through the Press, class 3 (R469). -/
def execOwlResponseWrite (s : State) : Res :=
  match s.pair.peerChallenge with
  | none => .next s
  | some c =>
    let g := s.pair.cfg.genSlot
    if !dieshUp s ∨ !s.pair.cfg.en ∨ s.sleep.asleep ∨ slotCheck 3 g 5 false s ≠ stOk then .next s
    else
      let r := owlAnswer (slotKey (slotOf g s)) c devId
      .next (setPair (fun p => { p with response := r, answered := c }) (invoke g s))

/-! ### Reception (R468) -/

/-- The key of a path's last SEQ from a sender. -/
def seqKey (path sender : Nat) : Nat := 256 * path + sender

/-- Owl takes a frame of a kind from a path and a B port: the body when it is verified. An own or stale frame is
discarded without a count; a wrong tag is counted (R465, R468). -/
def owlTake (path port : Nat) (data : Bytes) (kind : Nat) (s : State) : Option Bytes × State :=
  let p := s.pair
  let b := if path = 0 then data else data.drop 14
  match p.verKey with
  | none => (none, s)
  | some k =>
    let here := if path = 0 then p.cfg.en && p.link && data.length == 48
      else decide (port < 8) && portUp port s && isOwlFrame port data s && decide (62 ≤ data.length)
    let b := b.take 48
    let id := u8 b 2
    if !here || p.owlOff || s.sleep.asleep || u8 b 1 != kind then (none, s)
    else if id = devId ∨ beN b 4 4 < Tbl.get p.lastSeq (seqKey path id) 0 then (none, s)
    else if b.drop 40 ≠ owlTag k (b.take 40) then (none, raise 9 5 (count 255 258 s))
    else (some b, setPair (fun p => { p with lastSeq := Tbl.set p.lastSeq (seqKey path id) (beN b 4 4 + 1) 0 }) s)

/-- A follower sends a received frame unchanged on every other B port that is UP (R468, R483). -/
def owlRelay (path port : Nat) (data : Bytes) (s : State) : State :=
  if path = 1 ∧ s.pair.cfg.follower then
    forEach ((List.range 8).filter (fun q => q != port && portUp q s)) (fun q s => owlEmit q data s) s
  else s

/-- The frame is one of this device's peer. -/
def fromPeer (b : Bytes) (s : State) : Bool := s.pair.cfg.en && u8 b 2 == s.pair.cfg.peer

/-- A verified frame of the peer ends a path's silence (R470, R479). -/
def pathHeard (path : Nat) (s : State) : State :=
  let p := s.pair
  let was := if path = 0 then p.pathA else p.pathB
  let s := setPair (fun p => if path = 0 then { p with pathA := true, heard := true } else { p with pathB := true, heard := true }) s
  if was || !pairFormedNow s then s else raise 9 (2 + path) s

/-- The peer's RESPONSE is judged when it answers a challenge that Owl issued (R469). -/
def judgeResponse (b : Bytes) (s : State) : State :=
  let p := s.pair
  match p.verKey, p.challenges.find? (fun c => c.1 == beN b 16 4) with
  | some k, some c =>
    if beN b 12 4 = owlAnswer k c.1 (u8 b 2) then
      setPair (fun p => { p with goodResp := some (max (p.goodResp.getD 0) c.2), degraded := false }) s
    else count 255 259 s
  | _, _ => s

end Sys2Proof.Machine
end

