-- ==== Sys2Proof/Machine/VatCmds.lean ====
section
/-! DEFINITION. The commands of group 0x07 (spec/07, R230). -/

namespace Sys2Proof.Machine

/-- Limits of a queue as CMD_VAT_QUEUE shows them. -/
def vatQueueRsp (q op : Nat) (s : State) : Bytes :=
  b2 q ++ b1 op ++ zeros 1 ++ b4 (queueReserve q s) ++ b4 (queueMax q s) ++ b4 (queueMaxRes q s) ++ b4 (occ q s) ++
    b4 (copiesOf q s).length

/-- A limit as held: none at its reset value. -/
def held (v reset : Nat) : Option Nat := if v = reset then none else some v

def cmdVatQueue : Cmd :=
  { code := 0x0700, may := readAny 2 [0], lenOk := len 16
    idx := fun r _ => need (isLimitQueue (u16 r.params 0) && decide (u8 r.params 2 ≤ 1))
    body := fun r s =>
      let p := r.params
      let q := u16 p 0
      if u8 p 2 = 0 then ok (vatQueueRsp q 0 s) s
      else
        let res := min 16384 (u32 p 4)
        let mx := max (max 1 res) (min 98304 (u32 p 8))
        let s' := setVatQueue q { vatQueue q s with
          reserve := held res (queueReserve0 q), max := held mx (queueMax0 q)
          maxRes := held (min 2000000 (u32 p 12)) (queueMaxRes0 q) } s
        if 89088 < sumReserve s' then fail stNoSpace s else ok (vatQueueRsp q 1 s') s' }

/-- A trunk port (R6). -/
def isTrunk (p : Nat) : Bool := decide (8 ≤ p) && decide (p < 32)

def vatPortRsp (p op : Nat) (s : State) : Bytes :=
  let v := vatPort p s
  b1 p ++ b1 op ++ b1 v.pfcTx.toNat ++ b1 v.pfcRx.toNat ++ b4 (portMaxOf p s) ++ b2 (if isTrunk p then v.xoff else 0) ++ b2 (if isTrunk p then v.xon else 0) ++ b4 (pocc p s) ++
    b1 (b2n v.halted) ++ zeros 3

/-- A port that CMD_VAT_PORT names. -/
def isVatPort (p : Nat) : Bool :=
  decide (p ≤ 128) || (decide (130 ≤ p) && decide (p ≤ 132)) || (decide (136 ≤ p) && decide (p ≤ 167))

/-- CMD_VAT_PORT. XOFF and XON belong to trunk ports, PORT_MAX not to port V (R207, R224). -/
def cmdVatPort : Cmd :=
  { code := 0x0701, may := readAny 1 [0], lenOk := len 12
    idx := fun r _ =>
      let q := r.params
      need (isVatPort (u8 q 0) && decide (u8 q 1 ≤ 1) &&
        (u8 q 1 == 0 || isTrunk (u8 q 0) || (u8 q 2 == 0 && u8 q 3 == 0)))
    body := fun r s =>
      let q := r.params
      let p := u8 q 0
      if u8 q 1 = 0 then ok (vatPortRsp p 0 s) s
      else
        let xoff := clamp 1 16384 (u16 q 8)
        let v := vatPort p s
        let v := if isTrunk p then
            { v with pfcTx := BitVec.ofNat 8 (u8 q 2), pfcRx := BitVec.ofNat 8 (u8 q 3), xoff := xoff, xon := min (xoff - 1) (u16 q 10) }
          else v
        let v := if p = 130 then v else { v with portMax := held (clamp 1 98304 (u32 q 4)) (portMax0 p) }
        let s := pfcCheck p (setVatPort p v s)
        ok (vatPortRsp p 1 s) s }

def cmdVatStatus : Cmd :=
  { code := 0x0702, may := readAny 0 [0], lenOk := len 8
    idx := fun r _ => need (decide (u8 r.params 0 ≤ 1))
    body := fun r s =>
      let s := if u8 r.params 0 = 1 then
          freeChanged { s with vat := { s.vat with freeLow := min 98304 (u32 r.params 4) } }
        else s
      ok (b4 s.vat.freeLow ++ b4 (freeCells s) ++ b4 (stagedCells s) ++ b4 (ctrlUsed s) ++ b4 (sharedUsed s) ++
        b4 (sharedPool s) ++ b4 (sumReserve s) ++ b4 (descFree s)) s }

def cmdVatQueueStatus : Cmd :=
  { code := 0x0703, may := mbs [0, 1, 2, 3, 4], lenOk := len 4
    idx := fun r _ => need (decide (u16 r.params 0 + clamp 1 256 (u16 r.params 2) ≤ 1024))
    body := fun r s =>
      let n := clamp 1 256 (u16 r.params 2)
      ok (b2 (u16 r.params 0) ++ b2 n ++ (List.range n).flatMap (fun i =>
        let q := u16 r.params 0 + i
        b4 (occ q s) ++ b4 (copiesOf q s).length)) s }

/-- CMD_VAT_PORT_RESET (R223). -/
def cmdVatPortReset : Cmd :=
  { code := 0x0704, may := mbs [0], lenOk := len 4
    idx := fun r _ => need (isVatPort (u8 r.params 0))
    body := fun r s =>
      let (n, s) := portReset (u8 r.params 0) s
      ok (b4 n) s }

/-- A Badger record as the command shows it. -/
def badgerBytes (r : BadgerRec) : Bytes :=
  b4 (r.item.num + 131072 * b2n r.item.isDesc + 262144 * b2n r.doubleLink) ++ b4 r.time ++ b1 r.port ++ zeros 3

def cmdVatBadger : Cmd :=
  { code := 0x0705, may := mbs [0, 1, 2, 3, 4], lenOk := len 0
    body := fun _ s =>
      ok (b4 s.vat.passes ++ b4 s.vat.passUs ++ b4 s.vat.marked.length ++ zeros 4 ++
        slice (s.vat.records.flatMap badgerBytes) 0 96) s }

/-- A descriptor (R203); `next` is the descriptor behind it. -/
def descBytes (x : Copy) (next : Nat) (s : State) : Bytes :=
  let cells := match frameOf x.fid s with
    | some v => v.cells
    | none => []
  b2 next ++ le 3 (cells.headD 0) ++ b1 x.cells ++ b2 (x.len % 16384 + 16384 * b2n (setBOf x.gen s) + 32768 * b2n x.bad) ++
    b4 x.enq ++ b1 (b2n x.launch.isSome + 2 * b2n x.ctrl + 4 * b2n x.ct + 8 * (x.colour % 4) + 32 * b2n x.mc) ++ b1 x.ingress ++
    b1 x.egress ++ zeros 1

def cmdVatPeek : Cmd :=
  { code := 0x0706, may := mbs [0, 1, 2, 4], lenOk := len 3
    idx := fun r _ => need (decide (queuePort (u16 r.params 0) ≠ 255))
    body := fun r s =>
      let cs := copiesOf (u16 r.params 0) s
      let n := min (clamp 1 64 (u8 r.params 2)) cs.length
      ok (b2 n ++ zeros 2 ++ (List.range n).flatMap (fun i =>
        descBytes (cs.getD i {}) ((cs.drop (i + 1)).head?.elim 0xFFFF (·.desc)) s)) s }

def execCmdVatQueue (mb : Nat) (s : State) : Res := .next (runCmd cmdVatQueue mb s)
def execCmdVatPort (mb : Nat) (s : State) : Res := .next (runCmd cmdVatPort mb s)
def execCmdVatStatus (mb : Nat) (s : State) : Res := .next (runCmd cmdVatStatus mb s)
def execCmdVatQueueStatus (mb : Nat) (s : State) : Res := .next (runCmd cmdVatQueueStatus mb s)
def execCmdVatPortReset (mb : Nat) (s : State) : Res := .next (runCmd cmdVatPortReset mb s)
def execCmdVatBadger (mb : Nat) (s : State) : Res := .next (runCmd cmdVatBadger mb s)
def execCmdVatPeek (mb : Nat) (s : State) : Res := .next (runCmd cmdVatPeek mb s)

end Sys2Proof.Machine
end

