-- ==== Sys2Proof/Machine/Pair.lean ====
section
/-! DEFINITION. The pair: forming, roles, fencing, takeover, handover, the checkpoint, pair sleep and dissolution (spec/15,
R461 to R483). -/

namespace Sys2Proof.Machine

/-! ### What a device that leaves a role gives up -/

/-- Reservations that waited for the standby take effect: there is no standby to wait for (R358). -/
def resvAll (s : State) : State :=
  let r := allResv s
  { s with gw := { s.gw with resv := r, resvWait := [] } }

/-- A handover that waits ends with a status (R476). -/
def handoverEnds (st : Nat) (s : State) : State :=
  match s.pair.handover with
  | none => s
  | some m => mbDone m st s.sets.gen [] (setPair (fun p => { p with handover := none }) s)

/-- The device is no longer the active of a formed pair. -/
def leaveActive (s : State) : State := resvAll (handoverEnds stInterrupted s)

/-- Leave IN_SYNC (R473). -/
def outOfSync (s : State) : State :=
  if s.pair.inSync then raise 8 7 (setPair (fun p => { p with inSync := false }) s) else s

/-- Scratch bank 14 belongs to the pair checkpoint while a pair is formed (R525). -/
def pairBank (s : State) : State :=
  let b := bankOf 14 s
  if b.owner = 0 ∧ !b.retired ∧ !b.busy then setBank 14 { b with owner := 7 } s else s

def pairBankFree (s : State) : State :=
  let b := bankOf 14 s
  if b.owner = 7 then setBank 14 { b with owner := 0 } s else s

/-- The peer is lost: the active is ALONE (R470). -/
def peerLost (s : State) : State :=
  if s.pair.state = 2 then
    let s := leaveActive s
    raise 8 2 (setPair (fun p => { p with state := 4, inSync := false, degraded := false, acked := none }) s)
  else s

/-! ### Roost of a standby or a fenced device -/

/-- Roost without the entry of R440 (R464, R475). -/
def roostNow (s : State) : State :=
  let z : Sleep := { s.sleep with
    state := 2, gated := true, target := 1, entry := .none, fromRoost := false, wake := none, before := []
    unconfirmed := none }
  { s with sleep := z }

/-- The device becomes standby (R464, R475). -/
def becomeStandby (s : State) : State :=
  let t := now s
  let s := roostNow (pairBank (leaveActive s))
  raise 8 5 (setPair (fun p => { p with
    state := 3, pathA := true, pathB := true, inSync := false, degraded := false, held := none, ckpt := none, segs := []
    segCount := 0, goodResp := some t, awaiting := false, parked := false, fencing := false, taking := false, repeats := 0
    slept := 0, heard := false, mismatch := 0 }) s)

/-- The device becomes active when the pair forms. One that waited in Roost leaves it (R464, R479). -/
def becomeActive (epoch : Nat) (s : State) : State :=
  let t := now s
  let back := s.pair.state == 4
  let s := pairBank s
  let s := if s.pair.awaiting ∧ s.sleep.state = 2 then { s with sleep := { s.sleep with state := 3 } } else s
  let s := setPair (fun p => { p with
    state := 2, pathA := true, pathB := true, inSync := false, degraded := false, acked := none, sent := none
    goodResp := some t, awaiting := false, slept := 0, heard := false, mismatch := 0
    epoch := max 1 (max p.epoch epoch) }) s
  raise 8 (if back then 3 else 4) s

/-! ### Forming (R463, R464) -/

/-- The pair link carries this device's pair traffic: Diesh runs and the device is awake. -/
def pairTalks (s : State) : Bool := s.pair.cfg.en && s.pair.link && dieshUp s && !s.sleep.asleep

/-- A frame of class 3 whose bytes the spec does not lay out. -/
def pairControl (s : State) : State :=
  let (k, s) := takeFresh s
  pairSend 3 (Config.freeFrame k) s

/-- PAIR_LINK_UP: alignment is gained (R461). -/
def execPairLinkUp (s : State) : Res := .next (setPair (fun p => { p with link := true }) s)

/-- PAIR_LINK_DOWN: posted writes that wait for the link are lost, and reads in flight end with ABORT (R98, R461). -/
def execPairLinkDown (s : State) : Res :=
  let s := setPair (fun p => { p with link := false }) s
  let mine := s.host.posted.filter (fun (w : PostedWrite) => w.bridge == 1)
  let s := { s with host := { s.host with posted := s.host.posted.filter (fun (w : PostedWrite) => w.bridge != 1) } }
  let s := forEach mine (fun (w : PostedWrite) s => pairWrLost w.addr w.init 1 s) s
  let flight (h : HeldRead) : Bool := h.bridge == 1 && h.data.isNone
  let pcie := countIf (fun h => flight h && !h.answered && h.init != 2) s.host.held
  let s := { s with host := { s.host with
    held := (s.host.held.filter (fun h => !(flight h && h.init != 2))).map (fun h =>
      if flight h then { h with data := some [], status := 9 } else h) } }
  .next (forEach (List.range pcie) (fun _ s => emit .pcieAbort s) s)

/-- The device exchanges HELLO frames: until the pair has formed, and the peer's first heartbeat shows that it has
(R463). -/
def helloing (s : State) : Bool :=
  pairTalks s && (s.pair.state == 1 || s.pair.state == 4 || s.pair.state == 6 || (pairFormedNow s && !s.pair.heard))

/-- PAIR_HELLO_TIMER: every 1 ms until the pair forms (R463). -/
def execPairHelloTimer (s : State) : Res := .next (if helloing s then pairControl s else s)

/-- What a HELLO shows of its sender (R463, R464). -/
structure Hello where
  /-- Device id of the sender and its PEER_ID. -/
  dev : Nat
  peer : Nat
  ident : Nat
  fwrev : Nat
  hbUs : Nat
  detectUs : Nat
  ckptMs : Nat
  respMs : Nat
  /-- It is ACTIVE or ALONE, or its SLEPT_ROLE is active. -/
  active : Bool
  prefer : Bool
  fenced : Bool
  epoch : Nat
deriving DecidableEq, Repr, Inhabited

/-- MISMATCH_ITEM of a HELLO (R463). -/
def helloItem (h : Hello) (s : State) : Nat :=
  let c := s.pair.cfg
  if h.peer ≠ devId ∨ c.peer ≠ h.dev then 1
  else if h.ident ≠ ident then 2
  else if h.fwrev ≠ s.boot.fwrev.toNat then 3
  else if h.hbUs ≠ c.hbUs ∨ h.detectUs ≠ c.detectUs ∨ h.ckptMs ≠ c.ckptMs ∨ h.respMs ≠ c.respMs then 4
  else 0

/-- This device is the active when the pair forms (R464). -/
def takesActive (h : Hello) (s : State) : Bool :=
  let p := s.pair
  let mine := p.state == 4 || p.slept == 1
  if p.fenceIn then false
  else if h.fenced then true
  else if mine != h.active then mine
  else if p.cfg.prefer != h.prefer then p.cfg.prefer
  else decide (devId < h.dev)

/-- PAIR_HELLO_RECEIVE: the pair forms, or both devices enter MISMATCH (R463, R464). -/
def execPairHelloReceive (dev peer ident fwrev hbUs detectUs ckptMs respMs : Nat) (active prefer fenced : Bool) (epoch : Nat)
    (s : State) : Res :=
  let h : Hello := {
    dev := dev, peer := peer, ident := ident, fwrev := fwrev, hbUs := hbUs, detectUs := detectUs, ckptMs := ckptMs
    respMs := respMs, active := active, prefer := prefer, fenced := fenced, epoch := epoch }
  if !pairTalks s ∨ !(s.pair.state = 1 ∨ s.pair.state = 4 ∨ s.pair.state = 6) then .next s
  else
    let i := helloItem h s
    if i ≠ 0 then
      let was := s.pair.state
      let s := setPair (fun p => { p with state := 6, mismatch := i }) s
      .next (if was = 6 then s else raise 8 1 s)
    else if takesActive h s then .next (becomeActive epoch (raise 8 0 s))
    else .next (setPair (fun p => { p with epoch := max 1 (max p.epoch epoch) }) (becomeStandby (raise 8 0 s)))

/-! ### Fencing (R475) -/

/-- LAST_GASP on both paths (R475). -/
def lastGasp (s : State) : State := owlSendB owlLastGasp [s.pair.cfg.hbPort] (owlSendA owlLastGasp s)

/-- The device enters FENCED. `gasp` says that the cause was neither the peer's TAKEOVER nor FENCE_IN (R475). -/
def fenceEnter (gasp : Bool) (s : State) : State :=
  if s.pair.state = 5 then s
  else
    let active := s.pair.state == 2 || s.pair.state == 4
    let s := if gasp && active then lastGasp s else s
    let s := if gasp then raise 11 2 s else s
    let s := leaveActive s
    let was := s.sleep.state == 2 && s.sleep.gated
    let s := if s.pair.taking then { s with sleep := { s.sleep with state := 2 } } else s
    alarm 13 locPair (setPair (fun p => { p with
      state := 5, fencing := !was && !p.taking, taking := false, repeats := 0, inSync := false, degraded := false
      awaiting := false, parked := false }) s)

/-- FENCE_IN_RISE: the ball changes; its rise fences a device of a pair (R475). -/
def execFenceInRise (level : Bool) (s : State) : Res :=
  let rose := level && !s.pair.fenceIn
  let s := setPair (fun p => { p with fenceIn := level }) s
  .next (if rose ∧ s.pair.cfg.en ∧ !s.sleep.asleep then fenceEnter false (raise 11 0 s) else s)

/-- Roost of a fenced device: every queued copy is removed as by CMD_VAT_PORT_RESET (R475). -/
def fenceRoost (s : State) : State :=
  let ports := (List.range 168).filter isVatPort
  let (n, s) := ports.foldl (fun (acc : Nat × State) p => let (k, s) := portReset p acc.2; (acc.1 + k, s)) (0, s)
  roostNow (setPair (fun p => { p with fencing := false }) (countN 255 261 n s))

/-- FENCE_ROOST_ENTRY: within 1 ms of fencing (R475). -/
def execFenceRoostEntry (s : State) : Res := .next (if s.pair.fencing then fenceRoost s else s)

/-! ### Takeover (R471, R474) -/

/-- tD: the standby starts to leave Roost (R474). -/
def takeoverStart (s : State) : State :=
  if s.pair.taking ∨ s.sleep.asleep then s
  else
    let s := if s.pair.inSync then s else raise 8 6 s
    let s := setPair (fun p => { p with taking := true }) s
    { s with sleep := { s.sleep with state := 3 } }

/-- The swap that the checkpoint carried is armed again, when the standby holds its shadow (R474). -/
def rearm (s : State) : State :=
  match s.pair.ckpt with
  | none => s
  | some c => match c.swap with
    | some (tb, t, _) =>
      if s.pair.held = some c.ver then { s with sets := { s.sets with shadow := .armed, swapTb := tb, swapTime := t } } else s
    | none => s

/-- Generation counters go to the reservation that the checkpoint carried (R358). -/
def fvTakeover (s : State) : State :=
  match s.pair.ckpt with
  | none => s
  | some c =>
    forEach (fvUsers true (activeSet s)) (fun i s =>
      let v := max (fvOf i s) (Tbl.get c.resv i 0)
      reserveCheck i { s with gw := { s.gw with fv := Tbl.set s.gw.fv i v 0 } }) s

/-- Every recovery function is put into resync (R482). -/
def resyncAll (s : State) : State :=
  let keys := ((s.pair.frer.map (·.1)) ++ ((activeSet s).streams.map (·.1)).filter (isRecover (activeSet s))).eraseDups
  forEach keys (fun n s => setFrer n { frerState n s with resync := true } s) s

/-- gPTP slots go on from the state that the checkpoint carried (R472, R474). -/
def gptpTakeover (s : State) : State :=
  match s.pair.ckpt with
  | none => s
  | some c =>
    let s := forEach c.gptp (fun e s =>
      let g := gptpSlot e.1 s
      if g.valid then
        gptpState e.1 e.2.state (setGptpSlot e.1 { g with
          best := e.2.best, steps := e.2.steps, gm := e.2.gm, offset := e.2.offset, lockRun := e.2.lockRun, jumpRun := e.2.jumpRun } s)
      else s) s
    forEach (s.time.gport.map (·.1)) (fun p s =>
      setGptpPort p { gptpPort p s with asCapable := c.asCapable.contains p } s) s

/-- TAKEOVER on every B port that is UP (R474). -/
def sendTakeover (s : State) : State := owlSendB owlTakeover (List.range 8) s

/-- TAKEOVER_FORWARDING: tF (R474). -/
def execTakeoverForwarding (s : State) : Res :=
  if !s.pair.taking then .next s
  else
    let z : Sleep := { s.sleep with
      state := 0, target := 0, gated := false, entry := .none, fromRoost := false, left := 1, wake := none }
    let s := gptpTakeover (resyncAll (fvTakeover (rearm { s with sleep := z })))
    let t := now32 s
    let s := setPair (fun p => { p with
      state := 4, taking := false, awaiting := false, parked := false, inSync := false, degraded := false, fenceOut := true
      epoch := p.epoch + 1, repeats := 9, lastTakeover := t, slept := 0, ckpt := none, held := none, acked := none, sent := none
      sentMacs := [], segs := [], segCount := 0 }) s
    let s := alarm 14 locPair (raise 12 0 (raise 11 3 (raise 8 2 (raise 8 4 (raise 52 0 (count 255 260 s))))))
    .next (sendTakeover s)

/-- TAKEOVER_REPEAT: 100 µs after the last one, ten in all (R474). -/
def execTakeoverRepeat (s : State) : Res :=
  .next (if 0 < s.pair.repeats ∧ s.pair.state = 4 then sendTakeover (setPair (fun p => { p with repeats := p.repeats - 1 }) s) else s)

/-- PAIR_REJOIN_TIMEOUT: a former standby hears nothing of its peer and takes over (R479). -/
def execPairRejoinTimeout (s : State) : Res :=
  let p := s.pair
  .next (if p.awaiting ∧ p.slept = 2 ∧ p.state = 1 ∧ !p.heard then takeoverStart s else s)

/-! ### Detection (R470) -/

/-- Owl watches the peer. -/
def owlWatches (s : State) : Bool := pairFormedNow s && !s.pair.owlOff && !s.sleep.asleep

/-- PATH_SILENCE: no verified Owl frame on a path for DETECT_US (R470). A standby without a usable key never takes over on
silence (R466). -/
def execPathSilence (path : Nat) (s : State) : Res :=
  let p := s.pair
  let was := if path = 0 then p.pathA else p.pathB
  if !owlWatches s ∨ !was then .next s
  else
    let s := setPair (fun p => if path = 0 then { p with pathA := false } else { p with pathB := false }) s
    if s.pair.pathA ∨ s.pair.pathB then .next (raise 9 path s)
    else if s.pair.state = 3 then .next (if p.verKey.isSome then takeoverStart s else s)
    else .next (peerLost s)

/-- RESPONSE_STALE: no correct RESPONSE to a challenge issued in the last RESP_TIMEOUT_MS, while heartbeats arrive
(R469, R470). -/
def execResponseStale (s : State) : Res :=
  let p := s.pair
  let stale := match p.goodResp with
    | some t => decide (t + 1000000 * p.cfg.respMs ≤ now s)
    | none => false
  if !owlWatches s ∨ !stale ∨ !(p.pathA ∨ p.pathB) then .next s
  else if p.state = 3 then .next (if p.taking then s else takeoverStart (raise 9 4 s))
  else if p.state = 2 ∧ !p.degraded then .next (raise 9 4 (setPair (fun p => { p with degraded := true }) s))
  else .next s

/-! ### Received Owl frames (R468, R470, R474, R475, R483) -/

/-- A fenced device rejoins as standby (R475). -/
def rejoins (b : Bytes) (s : State) : Bool := s.pair.state == 5 && s.pair.link && !s.pair.fencing && u8 b 3 == 1

/-- What a device of a pair does with a verified HEARTBEAT of its peer. -/
def heartbeatFrom (path : Nat) (b : Bytes) (s : State) : State :=
  let s := pathHeard path s
  let s := setPair (fun p => { p with
    peerGen := beN b 20 4, peerChallenge := some (beN b 8 4)
    epoch := if p.state = 3 ∨ p.state = 5 then max p.epoch (beN b 32 4) else p.epoch }) s
  let s := judgeResponse b s
  let s := if u8 b 3 = 2 ∧ s.pair.fenceOut then raise 11 4 (setPair (fun p => { p with fenceOut := false }) s) else s
  let t := now s
  if s.pair.state = 4 ∧ u8 b 3 = 2 then
    raise 8 3 (setPair (fun p => { p with state := 2, acked := none, inSync := false, degraded := false, goodResp := some t }) s)
  else if rejoins b s then becomeStandby s
  else if s.pair.state = 3 ∧ s.pair.held.map (·.gen) ≠ some s.pair.peerGen then outOfSync s
  else s

/-- OWL_HEARTBEAT_RECEIVE (R468 to R475). -/
def execOwlHeartbeatReceive (path port : Nat) (data : Bytes) (s : State) : Res :=
  match owlTake path port data owlHeartbeat s with
  | (none, s) => .next s
  | (some b, s) =>
    let s := owlRelay path port data (count 255 257 s)
    .next (if fromPeer b s then heartbeatFrom path b s else s)

/-- OWL_LAST_GASP_RECEIVE: the standby takes over at once, the active is ALONE (R470). -/
def execOwlLastGaspReceive (path port : Nat) (data : Bytes) (s : State) : Res :=
  match owlTake path port data owlLastGasp s with
  | (none, s) => .next s
  | (some b, s) =>
    let s := owlRelay path port data s
    if !fromPeer b s then .next s
    else
      let s := raise 9 6 (pathHeard path s)
      .next (if s.pair.state = 3 then takeoverStart s else peerLost s)

/-- The device named by a TAKEOVER or BEACON on a B port; the one with the highest EPOCH seen is active now (R483). -/
def followName (port : Nat) (b : Bytes) (s : State) : State :=
  let e := beN b 32 4
  setPair (fun p => { p with
    named := Tbl.set p.named port (u8 b 2 + 1) 0
    followDev := if p.followEpoch < e ∨ p.followDev = 0 then u8 b 2 + 1 else p.followDev
    followEpoch := max p.followEpoch e }) s

/-- OWL_TAKEOVER_RECEIVE: a higher EPOCH fences a device of a pair; a follower relays it and follows (R475, R483). -/
def takeoverFrame (path port : Nat) (data : Bytes) (s : State) : State :=
  match owlTake path port data owlTakeover s with
  | (none, s) => s
  | (some b, s) =>
    let e := beN b 32 4
    let s := if s.pair.followEpoch ≤ e then owlRelay path port data s else s
    let s := if path = 1 ∧ s.pair.cfg.follower then followName port b s else s
    let s := if fromPeer b s then pathHeard path s else s
    if s.pair.cfg.en ∧ s.pair.epoch < e then
      setPair (fun p => { p with epoch := e }) (fenceEnter false (raise 11 1 s))
    else s

def execOwlTakeoverReceive (path port : Nat) (data : Bytes) (s : State) : Res := changing (takeoverFrame path port data) s

/-- OWL_BEACON_RECEIVE: a follower notes which device a port names (R483). -/
def beaconFrame (path port : Nat) (data : Bytes) (s : State) : State :=
  match owlTake path port data owlBeacon s with
  | (none, s) => s
  | (some b, s) =>
    let s := if path = 1 ∧ s.pair.cfg.follower then followName port b s else s
    if fromPeer b s then pathHeard path s else s

def execOwlBeaconReceive (path port : Nat) (data : Bytes) (s : State) : Res := changing (beaconFrame path port data) s

/-- BEACON_TIMER: the active sends BEACON on every B port every 10 ms (R483). -/
def execBeaconTimer (s : State) : Res :=
  .next (if (s.pair.state = 2 ∨ s.pair.state = 4) ∧ !s.sleep.asleep then owlSendB owlBeacon (List.range 8) s else s)

/-! ### The checkpoint (R472, R473) -/

def setVerOf (s : State) : SetVer := { gen := s.sets.gen, shadow := s.sets.shadow, dirty := s.sets.dirty }

/-- Dynamic MAC entries of a set. -/
def dynMacs (c : CfgSet) : List EmEntry := (c.em.filter (fun e => e.2.kind == 1 && !e.2.static)).map (·.2)

/-- The checkpoint that the active sends now, under a number (R472). -/
def ckptNow (seq : Nat) (s : State) : Ckpt :=
  let p := s.pair
  let v := setVerOf s
  let cur := dynMacs (activeSet s)
  let whole := p.acked.isNone || seq % 100 == 0
  let keys := cur.map (·.key)
  { ver := v
    active := if p.acked.map (·.gen) = some v.gen then none else some (activeSet s)
    shadow := if p.acked = some v then none else some (shadowSet s)
    swap := if s.sets.shadow = .armed then some (s.sets.swapTb, s.sets.swapTime, nextGen s.sets.gen) else none
    macsWhole := whole, macs := if whole then cur else cur.filter (fun e => !p.sentMacs.contains e)
    macsGone := if whole then [] else (p.sentMacs.filter (fun e => !keys.contains e.key)).map (·.key)
    tb := s.time.tb.filter (fun e => e.1 != 0), tb0 := now s, gptp := s.time.slot
    asCapable := (s.time.gport.filter (fun e => e.2.asCapable)).map (·.1)
    nm := s.sleep.nm, frer := p.frer, fv := s.gw.fv, resv := allResv s }

/-- The segments of a checkpoint: at most 2,048 bytes with header and CRC-32 (R462, R472). -/
def ckptSegments (seq : Nat) (body : Bytes) : List Bytes :=
  let l := if body.isEmpty then [[]] else chunksOf 2036 (body.length / 2036 + 1) body
  (List.range l.length).map (fun i => b4 seq ++ b2 i ++ b2 l.length ++ l.getD i [])

/-- The active sends a checkpoint (R472). -/
def ckptSend (s : State) : State :=
  let seq := (s.pair.ckptSeq + 1) % 4294967296
  let c := ckptNow seq s
  let s := setPair (fun p => { p with ckptSeq := seq, sent := some c.ver, sentMacs := dynMacs (activeSet s) }) s
  count 255 262 (forEach (ckptSegments seq (Config.ckptBytes c)) (fun b s => pairSend 4 b s) s)

/-- PAIR_CHECKPOINT_TIMER: every CKPT_PERIOD_MS (R472). -/
def execPairCheckpointTimer (s : State) : Res :=
  .next (if s.pair.state = 2 ∧ dieshUp s ∧ s.pair.link ∧ !s.pair.owlOff ∧ !s.sleep.asleep then ckptSend s else s)

/-- Dynamic MAC entries of a checkpoint enter a pool. -/
def macsApply (c : Ckpt) (x : CfgSet) : CfgSet :=
  let keep (e : EmEntry) : Bool := e.kind != 1 || e.static || !(c.macsWhole || c.macsGone.contains e.key)
  let x := { x with em := x.em.filter (fun e => keep e.2) }
  c.macs.foldl (fun x e =>
    match emFind x 1 e.key with
    | some (i, old) => if old.static then x else { x with em := Tbl.insert x.em i e }
    | none => match emAdd x e with
      | .ok (_, x') => x'
      | .error _ => x) x

/-- The carried time bases: the reading of the active projected with the carried rate. The offset between the devices'
TB0 is measured at the balls: the count is a free value (R471). -/
def tbApply (c : Ckpt) (s : State) : State :=
  forEach c.tb (fun e s =>
    if e.2.state = .disabled then s
    else
      let (k, s) := takeFresh s
      let t := tbOf e.1 s
      setTb e.1 { t with
        state := if t.state = .disabled then .enabled else t.state, rate := e.2.rate
        count := Config.freeNat k % 18446744073709551616, frac := 0 } s) s

/-- The carried state of network management, over the own settings (R472). -/
def nmApply (c : Nm) (n : Nm) : Nm :=
  { n with
    buses := n.buses.map (fun e => let x := Tbl.get c.buses e.1 {}; (e.1, { e.2 with ready := x.ready, hold := x.hold }))
    nodes := c.nodes, log := c.log, req0 := c.req0, req2 := c.req2, state := c.state, windowEnd := c.windowEnd
    commitAt := c.commitAt, local_ := c.local_ }

/-- The standby applies a checkpoint in one step (R472, R473). -/
def ckptApply (seq : Nat) (c : Ckpt) (s : State) : State :=
  let h := s.pair.held
  let s := match c.active with
    | some x => withActive x s
    | none => s
  let s := match c.shadow with
    | some x => withShadow x s
    | none => s
  let okA := c.active.isSome || h.map (·.gen) == some c.ver.gen
  let okS := c.shadow.isSome || h == some c.ver
  let s := { s with sets := { s.sets with
    gen := if okA then c.ver.gen else s.sets.gen, dirty := c.ver.dirty, swapTb := 0, swapTime := 0
    shadow := if c.ver.shadow = .draining ∨ c.ver.shadow = .copying then .copying else .ready } }
  let s := bothPools (macsApply c) s
  let s := tbApply c s
  let s := setNm (nmApply c.nm) s
  let s := keepSettings (fun x => { x with stay := c.nm.log }) s
  let s := { s with gw := { s.gw with fv := c.fv.foldl (fun t e => Tbl.set t e.1 e.2 0) s.gw.fv } }
  let s := setPair (fun p => { p with
    frer := c.frer, ckptSeq := seq, ckpt := some { c with active := none, shadow := none }
    held := if okA && okS then some c.ver else p.held }) s
  let s := count 255 263 s
  if okA && okS && c.ver.gen == s.pair.peerGen then setPair (fun p => { p with inSync := true }) s else s

/-- A segment arrives: the last one makes the checkpoint whole; one that another checkpoint cuts short is discarded
(R472). -/
def ckptSegment (q : Bytes) (s : State) : State :=
  let seq := u32 q 0
  let n := u16 q 6
  let fresh := s.pair.segSeq != seq || s.pair.segCount != n
  let s := if fresh && !s.pair.segs.isEmpty then count 255 264 s else s
  let s := setPair (fun p => { p with
    segSeq := seq, segCount := n, segs := Tbl.insert (if fresh then [] else p.segs) (u16 q 4) (q.drop 8) }) s
  if (List.range n).all (fun i => (Tbl.find s.pair.segs i).isSome) then
    let body := (List.range n).flatMap (fun i => (Tbl.find s.pair.segs i).getD [])
    let s := setPair (fun p => { p with segs := [], segCount := 0 }) s
    match Config.ckptOf body with
    | some c => ckptApply seq c s
    | none => count 255 264 s
  else s

/-- IN_SYNC_LAPSE: no checkpoint for three periods (R473). -/
def execInSyncLapse (s : State) : Res := .next (if s.pair.state = 3 ∨ s.pair.state = 2 then outOfSync s else s)

/-- The standby's acknowledgement of a checkpoint, with the reservations that it releases (R358, R472). -/
def ckptAck (seq : Nat) (s : State) : State :=
  if s.pair.state ≠ 2 then s
  else
    let s := if seq = s.pair.ckptSeq then setPair (fun p => { p with acked := p.sent, inSync := true }) s else s
    let due := s.gw.resvWait.filter (fun e => decide (e.2.2 ≤ seq))
    { s with gw := { s.gw with
      resv := due.foldl (fun t e => Tbl.set t e.1 e.2.1 0) s.gw.resv
      resvWait := s.gw.resvWait.filter (fun e => !decide (e.2.2 ≤ seq)) } }

/-- PAIR_MB3_FRAME_RECEIVE: a class 3 or 4 frame of MB3: 0 a request or checkpoint segment as a request, 1 a response, 2 a
notice (R462, R472). Vintner writes MB3 for the peer, after an ACK of what is DONE (R105). -/
def execPairMb3FrameReceive (kind : Nat) (data : Bytes) (s : State) : Res :=
  if !pairTalks s then .next s
  else if kind = 0 then .next (mbDoorbell 3 (mbWrite 3 0 (data.take 0xE00) (mbAck 3 s)))
  else if kind = 1 then
    .next (if u8 data 0 = 2 ∧ u8 data 1 = stOk ∧ u16 data 2 = 4 then ckptAck (u32 data 16) s else s)
  else .next (emit (.toVintner data) s)

/-! ### Handover (R476) -/

/-- HANDOVER_ACK_RECEIVE: the active fences itself with LAST_GASP (R476). -/
def execHandoverAckReceive (s : State) : Res :=
  match s.pair.handover with
  | none => .next s
  | some m =>
    let s := ckptAck s.pair.ckptSeq s
    let s := raise 12 1 (setPair (fun p => { p with handover := none }) s)
    .next (mbDone m stOk s.sets.gen [] (fenceEnter true s))

/-- HANDOVER_ACK_TIMEOUT: 20 ms without it; nothing changes (R476). -/
def execHandoverAckTimeout (s : State) : Res := .next (handoverEnds stInterrupted s)

/-! ### Pair sleep (R479) -/

/-- PAIR_SLEEP_RECEIVE: the standby acknowledges and starts its entry (R479). -/
def execPairSleepReceive (target : Nat) (s : State) : Res :=
  if !pairTalks s ∨ s.pair.state ≠ 3 ∨ s.sleep.state ≠ 2 ∨ s.sleep.entry ≠ .none ∨ s.pair.taking then .next s
  else .next (entryStart target true (pairControl s))

/-- PAIR_SLEEP_ACK_RECEIVE: the active starts its entry (R479). -/
def execPairSleepAckReceive (s : State) : Res := .next (if s.sleep.nm.pairWait ∧ coordRuns s then netEntry s else s)

/-- PAIR_SLEEP_ACK_TIMEOUT: the commit is abandoned as by a wake (R479). -/
def execPairSleepAckTimeout (s : State) : Res := .next (if s.sleep.nm.pairWait then networkWake false s else s)

/-- PAIR_SLEEP_ABORT_RECEIVE: the own entry is abandoned at its next abort point (R479). -/
def execPairSleepAbortReceive (s : State) : Res :=
  let e := s.sleep.entry
  .next (if pairTalks s ∧ s.sleep.net ∧ (e = .drain ∨ e = .save) then wakeEntry { source := 31 } s else s)

/-! ### Dissolution (R480) -/

/-- The pair is dissolved on this device (R480). -/
def dissolve (s : State) : State :=
  if s.pair.state = 0 then s
  else
    let quiet := s.pair.state == 3 || s.pair.state == 5 || s.pair.awaiting || s.pair.parked
    let s := leaveActive s
    let s := if s.pair.fencing then fenceRoost s else s
    let s := if s.pair.taking then { s with sleep := { s.sleep with state := 2 } } else s
    pairBankFree (raise 8 2 (setPair (fun p => { p with
      cfg := { p.cfg with en := false }, state := 0, pathA := false, pathB := false, fenceOut := false, inSync := false
      degraded := false, taking := false, repeats := 0, awaiting := false, parked := quiet, slept := 0, held := none
      ckpt := none, acked := none, sent := none, segs := [], segCount := 0, challenges := [], peerChallenge := none
      goodResp := none, mismatch := 0, genKey := none, verKey := none }) s))

/-- PAIR_DISSOLVE_RECEIVE: as if the own host had sent OP 2 (R480). -/
def execPairDissolveReceive (s : State) : Res := .next (if pairTalks s then dissolve s else s)

end Sys2Proof.Machine
end

