-- ==== Sys2Proof/Machine/PairCmds.lean ====
section
/-! DEFINITION. The commands of group 0x0C but CMD_LOCKSTEP_STATUS (spec/15, R490), and PAIR_STATUS. -/

namespace Sys2Proof.Machine

/-- PAIR_STATUS (spec/15, Registers). -/
def pairStatus (s : State) : Nat :=
  let p := s.pair
  p.state + 8 * b2n p.pathA + 16 * b2n p.pathB + 32 * b2n p.fenceIn + 64 * b2n p.fenceOut + 128 * b2n p.inSync +
    256 * p.cfg.peer + 0x4000 * b2n p.degraded + 0x10000 * (p.epoch % 65536)

/-! ### CMD_PAIR_CONFIG -/

/-- A slot that may hold an Owl key: usable by class 3 for its use, without a limit (R466). -/
def owlSlotOk (n use : Nat) (s : State) : Bool :=
  slotCheck 3 n use false s == stOk && !attrLimited (slotOf n s).attr

def pairCfgRsp (op : Nat) (s : State) : Bytes :=
  let c := s.pair.cfg
  b1 op ++ b1 (b2n c.en + 2 * b2n c.prefer + 4 * b2n c.follower) ++ b1 c.peer ++ b1 c.hbPort ++ b2 c.hbUs ++ b2 c.detectUs ++
    b2 c.ckptMs ++ b2 c.respMs ++ b1 c.genSlot ++ b1 c.verSlot ++ b2 c.rejoinMs

/-- The settings of a request as applied. -/
def pairCfgOf (q : Bytes) : PairCfg :=
  let hb := clamp 10 1000 (u16 q 4)
  { en := bit q 1 0, prefer := bit q 1 1, follower := bit q 1 2, peer := u8 q 2, hbPort := u8 q 3, hbUs := hb
    detectUs := clamp (4 * hb) 10000 (u16 q 6), ckptMs := clamp 1 1000 (u16 q 8), respMs := clamp 2 100 (u16 q 10)
    genSlot := u8 q 12, verSlot := u8 q 13, rejoinMs := clamp 10 10000 (u16 q 14) }

/-- New settings: PAIR_EN starts forming; without it the state is NONE, and a device in Roost stays there (R463, R480). -/
def pairConfigure (c : PairCfg) (s : State) : State :=
  let p := s.pair
  let quiet := p.state == 5 || p.awaiting || p.parked
  let s := owlKeys c (setPair (fun p => { p with cfg := c }) s)
  if c.en then setPair (fun p => { p with state := if p.state = 0 ∨ p.state = 6 then 1 else p.state, mismatch := 0 }) s
  else
    let s := if p.fencing then fenceRoost s else s
    setPair (fun p => { p with state := 0, awaiting := false, parked := quiet, repeats := 0, slept := 0 }) s

/-- CMD_PAIR_CONFIG. -/
def cmdPairConfig : Cmd :=
  { code := 0x0C00, may := readOps 2 0 [0], lenOk := len 16
    idx := fun r _ =>
      let q := r.params
      need (decide (u8 q 0 < 3) && (u8 q 0 != 1 || (decide (u8 q 2 < 64) && decide (u8 q 3 < 8) && decide (u8 q 12 < 240) &&
        decide (u8 q 13 < 240))))
    body := fun r s =>
      let q := r.params
      if u8 q 0 = 0 then ok (pairCfgRsp 0 s) s
      else if u8 q 0 = 2 then
        if s.pair.state = 0 then fail stState s
        else
          let s := dissolve (pairControl s)
          ok (pairCfgRsp 2 s) s
      else if s.pair.state = 2 ∨ s.pair.state = 3 then fail stState s
      else if u8 q 2 = devId ∨ !owlSlotOk (u8 q 12) 5 s ∨ !owlSlotOk (u8 q 13) 6 s then fail stConflict s
      else
        let s := pairConfigure (pairCfgOf q) s
        ok (pairCfgRsp 1 s) s }

/-- CMD_PAIR_STATUS. -/
def cmdPairStatus : Cmd :=
  { code := 0x0C01, may := fun _ => true, lenOk := len 0
    body := fun _ s =>
      let p := s.pair
      ok (b4 (pairStatus s) ++ b4 p.epoch ++ b4 p.ckptSeq ++ b4 p.peerGen ++ b1 p.mismatch ++ zeros 3 ++ b4 p.lastTakeover) s }

/-- CMD_PAIR_HANDOVER: a last checkpoint is sent, and its acknowledgement is awaited (R476). -/
def cmdPairHandover : Cmd :=
  { code := 0x0C02, may := mbs [0], lenOk := len 0
    body := fun r s =>
      let p := s.pair
      if p.handover = some r.mb then .busy s
      else if p.state ≠ 2 ∨ !p.inSync ∨ p.acked.map (·.gen) ≠ some s.sets.gen ∨ p.degraded then fail stState s
      else .busy (setPair (fun p => { p with handover := some r.mb }) (ckptSend s)) }

/-- CMD_PAIR_FENCE: fences in any state, or leaves FENCED to wait in Roost for the pair to form (R475). -/
def cmdPairFence : Cmd :=
  { code := 0x0C03, may := mbs [0, 2, 3], lenOk := len 4
    idx := fun r _ => need (decide (u8 r.params 0 < 2))
    body := fun r s =>
      let rsp := b1 (u8 r.params 0) ++ zeros 3
      if u8 r.params 0 = 0 then ok rsp (fenceEnter true s)
      else if s.pair.state ≠ 5 ∨ s.pair.fenceIn then fail stState s
      else
        let s := if s.pair.fencing then fenceRoost s else s
        ok rsp (setPair (fun p => { p with state := 1, awaiting := true }) s) }

/-- CMD_PAIR_CHECKPOINT: one segment (R472). -/
def cmdPairCheckpoint : Cmd :=
  { code := 0x0C04, may := mbs [3], lenOk := fun p => decide (8 ≤ p.length) && decide (p.length ≤ 3568)
    body := fun r s =>
      if s.pair.state ≠ 3 then fail stState s
      else
        let s := ckptSegment r.params s
        ok (b4 s.pair.ckptSeq) s }

/-! ### Logical ports and compound streams -/

/-- The live members of an entry, and the member that PAIR_FOLLOW chooses now (R483). -/
def entryMembers (b : Bytes) (s : State) : Nat × Nat :=
  let live := (bitsOf 32 (leN b 1 4)).filter (fun q => portUp q s)
  let named := live.find? (fun q => s.pair.followDev != 0 && Tbl.get s.pair.named q 0 == s.pair.followDev)
  let q := if u8 b 0 = 3 then (match named with
    | some q => q
    | none => live.head?.getD 0xFF) else 0xFF
  (q, live.length)

/-- CMD_LOGICAL_PORT. -/
def cmdLogicalPort : Cmd :=
  { code := 0x0C06, may := fun _ => true, lenOk := len 9, sets := .either
    idx := fun r _ => need (decide (136 ≤ u8 r.params 0) && decide (u8 r.params 0 < 168))
    body := fun r s =>
      let n := u8 r.params 0
      let rsp (b : Bytes) (s : State) : Bytes := b1 n ++ b ++ b1 (entryMembers b s).1 ++ b1 (entryMembers b s).2
      if r.target = 0 then ok (rsp (logicalOf (activeSet s) n) s) s
      else if 3 < u8 r.params 1 then fail stConflict s
      else
        let b := slice r.params 1 5 ++ zeros 3
        ok (rsp b s) (editShadow (fun c => { c with logical := Tbl.set c.logical n b (zeros 8) }) s) }

/-- The 16 bytes of a compound stream as applied (R481). -/
def streamApply (q : Bytes) : Bytes :=
  b1 (u8 q 0 % 64) ++ zeros 1 ++ b2 (clamp 2 1024 (u16 q 2)) ++ b2 (max 1 (u16 q 4)) ++ b1 (clamp 2 8 (u8 q 6)) ++ zeros 1 ++
    slice q 8 4 ++ b2 (max 10 (u16 q 12)) ++ b2 (max 1 (u16 q 14))

/-- CMD_FRER_STREAM. -/
def cmdFrerStream : Cmd :=
  { code := 0x0C07, may := fun _ => true, lenOk := len 20, sets := .either
    idx := fun r _ => need (decide (u16 r.params 0 < 2048))
    body := fun r s =>
      let n := u16 r.params 0
      if r.target = 0 then ok (b2 n ++ zeros 2 ++ streamOf (activeSet s) n) s
      else
        let b := streamApply (slice r.params 4 16)
        ok (b2 n ++ zeros 2 ++ b) (editShadow (fun c => { c with streams := Tbl.set c.streams n b stream0 }) s) }

/-- CMD_FRER_BIND. -/
def cmdFrerBind : Cmd :=
  { code := 0x0C08, may := fun _ => true
    lenOk := fun p => decide (1 ≤ u16 p 2) && decide (u16 p 2 ≤ 256) && len (4 + 2 * u16 p 2) p, sets := .either
    idx := fun r _ => need (decide (u16 r.params 0 + u16 r.params 2 ≤ 8192))
    body := fun r s =>
      let a := u16 r.params 0
      let n := u16 r.params 2
      let v (i : Nat) : Nat := let x := u16 r.params (4 + 2 * i); x % 2048 + 0x8000 * b2n (x.testBit 15)
      if r.target = 0 then ok (b2 a ++ b2 n ++ (List.range n).flatMap (fun i => b2 (bindOf (activeSet s) (a + i)))) s
      else if (List.range n).any (fun i => (v i).testBit 15 && !bit (streamOf (shadowSet s) (v i % 2048)) 0 0) then
        fail stConflict s
      else
        ok (b2 a ++ b2 n ++ (List.range n).flatMap (fun i => b2 (v i)))
          (editShadow (fun c => { c with
            binds := (List.range n).foldl (fun t i => Tbl.set t (a + i) (b2 (v i)) (zeros 2)) c.binds }) s) }

/-- CMD_FRER_COUNTERS: the layout of CMD_GW_COUNTERS (R490). -/
def cmdFrerCounters : Cmd :=
  { code := 0x0C09, may := fun r => !(bit r.params 1 0 && (r.mb == 1 || r.mb == 3)), lenOk := len 10
    idx := fun r _ => need (u8 r.params 0 == 0 && decide (u32 r.params 4 < 2048))
    body := fun r s => entryCountersRun (ecFrer 0) 8 2048 63 r s }

/-- CMD_FRER_RESET: OP 0 sets take_any, OP 1 resync (R482, R490). -/
def cmdFrerReset : Cmd :=
  { code := 0x0C0A, may := mbs [0], lenOk := len 5
    idx := fun r _ => need (decide (u8 r.params 4 < 2) && decide (u16 r.params 0 + u16 r.params 2 ≤ 2048))
    body := fun r s =>
      let op := u8 r.params 4
      ok (slice r.params 0 5) (forEach (List.range (u16 r.params 2)) (fun i s =>
        let n := u16 r.params 0 + i
        let x := frerState n s
        setFrer n (if op = 0 then { x with takeAny := true } else { x with resync := true }) s) s) }

def execCmdPairConfig (mb : Nat) (s : State) : Res := .next (runCmd cmdPairConfig mb s)
def execCmdPairStatus (mb : Nat) (s : State) : Res := .next (runCmd cmdPairStatus mb s)
def execCmdPairHandover (mb : Nat) (s : State) : Res := .next (runCmd cmdPairHandover mb s)
def execCmdPairFence (mb : Nat) (s : State) : Res := .next (runCmd cmdPairFence mb s)
def execCmdPairCheckpoint (mb : Nat) (s : State) : Res := .next (runCmd cmdPairCheckpoint mb s)
def execCmdLogicalPort (mb : Nat) (s : State) : Res := .next (runCmd cmdLogicalPort mb s)
def execCmdFrerStream (mb : Nat) (s : State) : Res := .next (runCmd cmdFrerStream mb s)
def execCmdFrerBind (mb : Nat) (s : State) : Res := .next (runCmd cmdFrerBind mb s)
def execCmdFrerCounters (mb : Nat) (s : State) : Res := .next (runCmd cmdFrerCounters mb s)
def execCmdFrerReset (mb : Nat) (s : State) : Res := .next (runCmd cmdFrerReset mb s)

end Sys2Proof.Machine
end

