-- ==== Sys2Proof/Machine/Trace.lean ====
section
/-! DEFINITION. The trace ring, the alarm registers, ownership of scratch banks and the Mole (spec/17, R525 to R537) with
their commands. -/

namespace Sys2Proof.Machine

/-- An initiator may write W0 registers that R61 gives no row of their own. -/
def mayWrite (init : Nat) : Bool := init == 0 || init == 4

/-! ### Trace ring (R533 to R536) -/

/-- E. -/
def ringEntries (s : State) : Nat := 2 ^ s.test.log2

/-- U. -/
def unread (s : State) : Nat := (s.test.wr + ringEntries s - s.test.rd) % ringEntries s

/-- The limit of U below which a record of a severity is written (R536). -/
def traceLimit (sev e : Nat) : Nat :=
  match sev with
  | 0 => e / 2
  | 1 => 7 * e / 8
  | 2 => e - 64
  | _ => e - 1

/-- The 32 bytes of a record (R533). -/
def recordBytes (r : TraceRec) : Bytes :=
  b4 r.seq ++ b4 r.time ++ b1 r.sev ++ b1 r.ev ++ b1 r.bit ++ zeros 1 ++ b4 r.loc ++ b2 r.code ++ zeros 2 ++ slice r.data 0 12

/-- CORE is clocked and the device is out of reset: the trace writer and the Mole run. -/
def coreRuns (s : State) : Bool := s.power.phase == .done && !s.sleep.gated && !s.sleep.asleep

/-- TRACE_WRITER_DRAIN: the oldest record of the FIFO is written or dropped (R535, R536). -/
def execTraceWriterDrain (s : State) : Res :=
  match coreRuns s, s.test.fifo with
  | true, r :: rest =>
    let s := { s with test := { s.test with fifo := rest } }
    match s.test.traceBank with
    | some n =>
      if unread s < traceLimit r.sev (ringEntries s) then
        let s := bankWrite n (32 * s.test.wr) (recordBytes r) s
        .next (count 255 300 { s with test := { s.test with wr := (s.test.wr + 1) % ringEntries s } })
      else .next (traceDrop r.sev s)
    | none => .next (traceDrop r.sev s)
  | _, _ => .next s

/-- RD as a write leaves it: a value that would pass WR is WR (TRACE_RD). -/
def traceRd (v : Nat) (s : State) : State :=
  let e := ringEntries s
  let v := v % 16384
  let ok := decide (v < e) && decide ((v + e - s.test.rd) % e ≤ unread s)
  { s with test := { s.test with rd := if ok then v else s.test.wr } }

/-- TRACE_RD_WRITE (R61, R536). -/
def execTraceRdWrite (init value : Nat) (s : State) : Res :=
  if mayWrite init then .next (traceRd value s) else .next (denied 0x20108 init false s)

/-! ### Alarms (R537) -/

/-- The alarm kinds named by ones are cleared with their counts and locations. -/
def alarmClear (v : Nat) (s : State) : State :=
  let kinds := bitsOf 18 v
  { s with alarms := { s.alarms with
    status := s.alarms.status &&& ~~~ BitVec.ofNat 18 v
    kinds := s.alarms.kinds.filter (fun e => !kinds.contains e.1) } }

/-- ALARM_CLEAR (R61, R537). -/
def execAlarmClear (init value : Nat) (s : State) : Res :=
  if mayWrite init then .next (alarmClear value s) else .next (denied 0x300 init false s)

/-! ### Ownership (R525 to R527) -/

/-- A FREE bank takes the trace ring if it has none (R536). -/
def traceHome (s : State) : State := if s.test.traceBank.isNone then relocateTrace s else s

/-- SCR_OWNn as written: OWNER and ZERO (R526, R527). -/
def scrOwn (n v : Nat) (s : State) : State :=
  let o := v % 8
  if o = 0 ∨ v.testBit 4 then zeroBank n o s else setBank n { bankOf n s with owner := o } s

/-- Whether R526 lets a write of SCR_OWNn change OWNER. -/
def mayOwn (init n v : Nat) (s : State) : Bool :=
  let b := bankOf n s
  !b.busy && !b.retired && (init == 4 || (decide (init < 3) && b.owner == init + 1 && decide (v % 8 < 4)))

/-- SCR_OWN_WRITE (R526, R527). -/
def execScrOwnWrite (init bank value : Nat) (s : State) : Res :=
  if mayOwn init bank value s then .next (scrOwn bank value s) else .next (denied (0x2000 + 4 * bank) init false s)

/-- SCRATCH_ZERO_COMPLETE: the bank is blank and has its new owner (R527). -/
def execScratchZeroComplete (bank : Nat) (s : State) : Res :=
  match (bankOf bank s).zeroFor with
  | some o =>
    .next (traceHome (setBank bank { bankOf bank s with owner := o, busy := false, zeroFor := none, mem := [], poison := [] } s))
  | none => .next s

/-- SCR_OWNn as it reads. -/
def scrOwnRead (n : Nat) (s : State) : Nat :=
  let b := bankOf n s
  b.owner + 32 * b2n b.busy + 64 * b2n b.retired

/-! ### The Mole (R530, R531) -/

/-- Banks of a pass: the enabled general banks that are neither BUSY nor RETIRED, then the secure banks. -/
def moleBanks (s : State) : List Nat :=
  (List.range 16).filter (fun n => s.test.moleMask.getLsbD n && !(bankOf n s).busy && !(bankOf n s).retired) ++ [16, 17]

/-- Bank and region that the next visit tests. -/
def moleAt (s : State) : Nat × Nat :=
  if (moleBanks s).contains s.test.moleBank then (s.test.moleBank, s.test.moleRegion)
  else (((moleBanks s).find? (fun n => decide (s.test.moleBank < n))).getD 16, 0)

/-- The region after a visit; the end of a pass is counted. -/
def moleNext (b r : Nat) (s : State) : State :=
  if r + 1 < (if b < 16 then 2048 else 1024) then { s with test := { s.test with moleBank := b, moleRegion := r + 1 } }
  else match (moleBanks s).find? (fun n => decide (b < n)) with
    | some n => { s with test := { s.test with moleBank := n, moleRegion := 0 } }
    | none =>
      let t := s.test
      count 255 295 { s with test := { t with
        moleBank := ((moleBanks s).head?).getD 16, moleRegion := 0, molePasses := satAdd max32 t.molePasses 1
        moleMs := (now s - t.moleStart) / 1000000, moleStart := now s } }

/-- Words of a bank's region are found uncorrectable: they stay poisoned and their row is a candidate (R523, R530). -/
def molePoison (b off : Nat) (words : List Nat) (s : State) : State :=
  if words.isEmpty then s
  else
    let offs := words.map (fun w => off + 8 * w)
    let s := if b < 16 then
        let k := bankOf b s
        setBank b { k with poison := (k.poison ++ offs).eraseDups } s
      else
        let k := secureOf (b - 16) s
        setSecure (b - 16) { k with poison := (k.poison ++ offs).eraseDups } s
    bankFault b off s

/-- Corrected errors of a region (R523, R532). -/
def moleCorrected (b off n : Nat) (s : State) : State :=
  if n = 0 then s
  else
    let (mem, i) := regionItem b off
    let s := if b < 16 then raise 107 0 (countN 255 296 n (setBank b { bankOf b s with ce := satAdd max32 (bankOf b s).ce n } s))
      else
        let k := secureOf (b - 16) s
        countN 255 298 n (setSecure (b - 16) { k with ce := satAdd max32 k.ce n } s)
    let (out, s) := rowCorrected mem i s
    if out ∧ b < 16 then retireBank b s else s

/-- A region that cannot be repaired (R531). -/
def moleUnrepairable (b : Nat) (s : State) : State :=
  if b < 16 then retireBank b s
  else
    let s := alarm 11 locDev (raise 105 2 s)
    alarm 12 (locDevIdx b) (raise 107 3 (count 255 299 s))

/-- A march failure of a region; `again` says that the test after the repair fails too (R531). -/
def moleFault (b off : Nat) (again : Bool) (s : State) : State :=
  let (mem, i) := regionItem b off
  let s := raise 106 0 (count 255 294 s)
  let (out, s) := toRepair mem i s
  if out ∨ again then moleUnrepairable b s else raise 106 1 (applyRow mem i s)

/-- MOLE_VISIT: one region is tested. `ce` counts its corrected errors, `ue` masks its uncorrectable words, `fault` is a
march failure, `again` a failure after the repair (R523, R530, R531). -/
def execMoleVisit (ce ue : Nat) (fault again : Bool) (s : State) : Res :=
  if !s.test.moleEn ∨ !coreRuns s then .next s
  else
    let (b, r) := moleAt s
    let off := 256 * r
    let (mem, i) := regionItem b off
    let s := count 255 293 (applyRow mem i s)
    let s := molePoison b off (bitsOf 32 ue) (moleCorrected b off ce s)
    .next (moleNext b r (if fault then moleFault b off again s else s))

/-! ### Commands (R540) -/

/-- CMD_SCRATCH_OWN. -/
def cmdScratchOwn : Cmd :=
  { code := 0x0E04, may := mbs [0, 1, 2], lenOk := len 4
    idx := fun r _ =>
      let p := r.params
      need (decide (u8 p 0 < 16) && decide (u8 p 1 < 3) && (u8 p 1 != 2 || (decide (1 ≤ u8 p 2) && decide (u8 p 2 < 4))))
    body := fun r s =>
      let p := r.params
      let n := u8 p 0
      let b := bankOf n s
      let z := if bit p 3 0 then 16 else 0
      let done (s : State) : Ans := ok (p ++ b1 (bankOf n s).owner) s
      if b.retired then fail stRetired s
      else if b.busy then fail stState s
      else if u8 p 1 = 0 then
        if b.owner = 0 then done (scrOwn n (mbOwner r.mb + z) s) else fail stState s
      else if b.owner ≠ mbOwner r.mb then fail stState s
      else if u8 p 1 = 1 then done (scrOwn n 0 s)
      else done (scrOwn n (u8 p 2 + z) s) }

/-- CMD_SCRATCH_STATUS. -/
def cmdScratchStatus : Cmd :=
  { code := 0x0E05, may := fun _ => true, lenOk := len 0
    body := fun _ s =>
      ok ((List.range 16).flatMap (fun n =>
          let b := bankOf n s
          b1 b.owner ++ b1 (b2n b.busy + 2 * b2n b.retired) ++
            b1 (countIf (fun t => decide (now s < t + 60000000000)) b.ueTimes) ++ zeros 1 ++ b4 b.ce) ++
        (List.range 2).flatMap (fun n => b1 0xFF ++ zeros 3 ++ b4 (secureOf n s).ce)) s }

/-- CMD_MOLE_CONFIG. -/
def cmdMoleConfig : Cmd :=
  { code := 0x0E06, may := readAny 0 [0], lenOk := len 8
    idx := fun r _ => need (decide (u8 r.params 0 < 2))
    body := fun r s =>
      let p := r.params
      let s := if u8 p 0 = 1 then
          { s with test := { s.test with
            moleEn := bit p 1 0, moleMask := BitVec.ofNat 16 (u16 p 2), moleUs := clamp 10 10000 (u32 p 4) } }
        else s
      let t := s.test
      ok (b1 (u8 p 0) ++ b1 (b2n t.moleEn) ++ b2 t.moleMask.toNat ++ b4 t.moleUs ++ b4 t.molePasses ++ b4 t.moleMs ++
        b1 t.moleBank ++ zeros 1 ++ b2 t.moleRegion) s }

/-- CMD_LOG_CONFIG. -/
def cmdLogConfig : Cmd :=
  { code := 0x0F03, may := readAny 0 [0], lenOk := len 4
    idx := fun r _ => need (decide (u8 r.params 0 < 2) && (u8 r.params 0 == 0 || decide (u8 r.params 1 < 16)))
    body := fun r s =>
      let p := r.params
      let rsp (s : State) : Bytes := b1 (u8 p 0) ++ b1 (s.test.traceBank.getD 15) ++ b1 s.test.log2 ++ zeros 1
      let n := u8 p 1
      let b := bankOf n s
      if u8 p 0 = 0 then ok (rsp s) s
      else if s.test.traceBank ≠ some n ∧ (b.owner ≠ 0 ∨ b.busy ∨ b.retired) then fail stState s
      else
        let s := match s.test.traceBank with
          | some old => if old = n then s else zeroBank old 0 s
          | none => s
        let s := setBank n { bankOf n s with owner := 6 } s
        let s := { s with test := { s.test with traceBank := some n, log2 := clamp 10 14 (u8 p 2), wr := 0, rd := 0 } }
        ok (rsp s) s }

/-- CMD_LOG_READ. -/
def cmdLogRead : Cmd :=
  { code := 0x0F04, may := fun r => !bit r.params 0 0 || (r.mb != 1 && r.mb != 3), lenOk := len 4
    body := fun r s =>
      let n := min (clamp 1 127 (u16 r.params 2)) (unread s)
      let e := ringEntries s
      let rd := s.test.rd
      let (data, s) := match s.test.traceBank with
        | some b => (List.range n).foldl (fun (acc : Bytes × State) i =>
            let (d, _, s) := bankRead b (32 * ((rd + i) % e)) 32 acc.2
            (acc.1 ++ d, s)) ([], s)
        | none => ([], s)
      let s := if bit r.params 0 0 ∧ s.test.rd = rd ∧ n ≤ unread s then { s with test := { s.test with rd := (rd + n) % e } } else s
      ok (b2 n ++ zeros 2 ++ b4 (unread s) ++ data) s }

def execCmdScratchOwn (mb : Nat) (s : State) : Res := .next (runCmd cmdScratchOwn mb s)
def execCmdScratchStatus (mb : Nat) (s : State) : Res := .next (runCmd cmdScratchStatus mb s)
def execCmdMoleConfig (mb : Nat) (s : State) : Res := .next (runCmd cmdMoleConfig mb s)
def execCmdLogConfig (mb : Nat) (s : State) : Res := .next (runCmd cmdLogConfig mb s)
def execCmdLogRead (mb : Nat) (s : State) : Res := .next (runCmd cmdLogRead mb s)

end Sys2Proof.Machine
end

