-- ==== Sys2Proof/Machine/Regs.lean ====
section
/-! DEFINITION. The register map W0 (spec/03, R70): what each register reads as, who may write it (R61), and what a write
does under its access code (R1). -/

namespace Sys2Proof.Machine

/-- Word `k` of a wide register. -/
def word (v k : Nat) : Nat := v / 4294967296 ^ k % 4294967296

/-- A wide register with word `k` replaced (two words). -/
def withWord (v k w : Nat) : Nat := if k = 0 then v / 4294967296 * 4294967296 + w else w * 4294967296 + v % 4294967296

/-- A written word: the enabled bytes come from the write, the others stay. -/
def mixed (old m v : Nat) : Nat := (old &&& (0xFFFFFFFF ^^^ m)) ||| (v &&& m)

/-! ### Reading -/

/-- BOOT_STATUS. -/
def bootStatus (s : State) : Nat :=
  let b := s.boot
  b.stage + 16 * s.power.strap.toNat + 256 * b2n (b.bank == 1) + 512 * b2n b.trial + 0x10000 * b.failCode + 0x1000000 * b.count

/-- PWR_STATUS. -/
def pwrStatus (s : State) : Nat :=
  let z := s.sleep
  z.level + 4 * z.state + 16 * z.lastTarget + 64 * z.lastResult + 512 * b2n z.vselEn + 1024 * b2n z.resumeLost

/-- ALARM_KINDk, as one number. -/
def alarmKindReg (k : Nat) (s : State) : Nat :=
  let a := Tbl.get s.alarms.kinds k {}
  a.count + 4294967296 * a.firstLoc

def semOf (n : Nat) (s : State) : Nat := (Tbl.get s.host.sem n 0).toNat

/-- W0 0x00_0000 to 0x00_FFFF. -/
def lowWord (a : Nat) (s : State) : Option Nat :=
  if a = 0x0 then some 0x96244101
  else if a = 0x4 then some s.boot.fwrev.toNat
  else if a = 0x100 then some (bootStatus s)
  else if a = 0x104 then some (s.boot.cause.toNat + 256 * s.boot.rail.toNat)
  else if a = 0x200 then some (pairStatus s)
  else if a = 0x300 then some s.alarms.status.toNat
  else if 0x308 ≤ a ∧ a < 0x398 then some (word (alarmKindReg ((a - 0x308) / 8) s) (a / 4 % 2))
  else if 0xE00 ≤ a ∧ a < 0x1000 then some (word (semOf ((a - 0xE00) / 8) s) (a / 4 % 2))
  else if a = 0x1000 then some (pwrStatus s)
  else if a = 0x1004 then some s.sleep.wakeCause.toNat
  else if a = 0x1008 then some (s.sleep.infoFirst + 32 * s.sleep.infoMatcher + 256 * s.sleep.infoChannel)
  else if a = 0x100C then some s.sleep.infoTime
  else if 0x2000 ≤ a ∧ a < 0x2040 then some (scrOwnRead ((a - 0x2000) / 4) s)
  else none

/-- A word of mailbox MBk (R104 to R106). -/
def mbWord (k off : Nat) (s : State) : Option Nat :=
  let m := mbOf k s
  if off < 0xE00 then some (leN (Memory.readN m.req off 4) 0 4)
  else if off = 0xE00 ∨ off = 0xE04 then some 0
  else if off = 0xE08 then some (m.noticeWr + 256 * m.noticeRd)
  else if off = 0xE10 then some m.refused
  else if off = 0xE14 then some m.reqWrBusy
  else if off = 0xE18 then some m.noticeLost
  else if off < 0xF00 then none
  else if off < 0x1000 then some (leN (Memory.readN m.notices (off - 0xF00) 4) 0 4)
  else if off < 0x1010 then some (leN (rspHeader m) (off - 0x1000) 4)
  else some (leN (Memory.readN m.result (off - 0x1010) 4) 0 4)

/-- 32 bits, bit j from a test of `base + j`. -/
def mask32 (base : Nat) (p : Nat → Bool) : Nat := sumBy (fun j => b2n (p (base + j)) * 2 ^ j) (List.range 32)

/-- Word `k` of an MSI-X table entry (R65). -/
def msixWord (v k : Nat) (s : State) : Nat :=
  let e := msixEntry v s
  match k with
  | 0 => e.addr
  | 1 => e.addrHi
  | 2 => e.data
  | _ => b2n e.mask

/-- W0 0x02_0000 to 0x02_FFFF: events, trace registers, MSI-X. -/
def eventWord (a : Nat) (s : State) : Option Nat :=
  if a < 0x20010 then some (mask32 (8 * (a - 0x20000)) (fun n => evPending n s))
  else if 0x20020 ≤ a ∧ a < 0x20030 then some (Tbl.get s.ctl.enSpi ((a - 0x20020) / 4) 0).toNat
  else if a = 0x20100 then some (s.test.traceBank.getD 15 + 16 * s.test.log2)
  else if a = 0x20104 then some s.test.wr
  else if a = 0x20108 then some s.test.rd
  else if 0x20400 ≤ a ∧ a < 0x20600 then some (causeEnOf ((a - 0x20400) / 4) s).toNat
  else if 0x20700 ≤ a ∧ a < 0x20710 then
    some (mask32 (8 * (a - 0x20700)) (fun n => evPending n s && (msixEntry n s).mask))
  else if 0x20800 ≤ a ∧ a < 0x21000 then some (msixWord ((a - 0x20800) / 16) (a / 4 % 4) s)
  else if 0x21000 ≤ a ∧ a < 0x21200 then some (causeOf ((a - 0x21000) / 4) s).toNat
  else none

/-- Word `j` of discarded-read log entry `i`. -/
def logWord (i j : Nat) (s : State) : Nat :=
  let e := Tbl.get s.host.log i {}
  match j with
  | 0 => e.addr + 0x1000000 * e.init + 0x10000000 * e.bridge + 0x80000000 * b2n e.valid
  | 1 => e.size + 128 * b2n e.pop
  | 2 => leN e.data 0 4
  | 3 => leN e.data 4 4
  | 4 => e.time
  | _ => 0

/-- HOST_MAP. -/
def hostMap (s : State) : Nat := s.host.secRid + 0x10000 * b2n s.host.secEn

/-- W0 0x03_0000 to 0x03_FFFF: the bridge registers and HOST_MAP. -/
def bridgeWord (a : Nat) (s : State) : Option Nat :=
  let h := s.host
  if a = 0x30000 then some (h.status.toNat + 256 * h.logNext + 0x10000 * min 255 h.held.length)
  else if a = 0x30008 then some (h.errLast.addr + 0x1000000 * h.errLast.init + 0x8000000 * b2n h.errLast.w2 + 0x10000000 * h.errLast.kind)
  else if 0x30010 ≤ a ∧ a < 0x30030 then some (Tbl.get h.counters ((a - 0x30010) / 4) 0)
  else if a = 0x30040 then some (hostMap s)
  else if 0x30100 ≤ a ∧ a < 0x30200 then some (logWord ((a - 0x30100) / 32) (a / 4 % 8) s)
  else none

/-- The 8 bytes of an error FIFO entry (R327). -/
def errBytes (e : EdgeErr) : Bytes :=
  b1 (e.chan + 16 * e.kind) ++ b1 (b2n e.dataPhase + 2 * b2n e.sending) ++ b1 (min 255 e.tec) ++ b1 (min 255 e.rec_) ++ b4 e.time

/-- EDGE_ERR_POPm as it reads: the head, or zero (R327). -/
def errHead (m : Nat) (s : State) : Bytes :=
  match (edgeCl m s).errs with
  | [] => zeros 8
  | e :: _ => errBytes e

/-- A word of a time-base block (spec/09, Registers). -/
def tbWord (n off : Nat) (s : State) : Option Nat :=
  let t := tbOf n s
  let k := (off - 0x20) / 16
  let c := cmpOf n k s
  let j := (off - 0x60) / 16
  let p := capOf n j s
  if off < 0x8 then some (word (tbNow n s) (off / 4))
  else if off < 0x10 then some (word t.latchNs (off / 4 % 2))
  else if off = 0x10 then some t.latchFrac
  else if off = 0x14 then some (tbStateWord n s)
  else if off < 0x20 then some (word (t.rate % 18446744073709551616).toNat (off / 4 % 2))
  else if off < 0x60 then
    (match off % 16 with
      | 0 => some (word c.time 0)
      | 4 => some (word c.time 1)
      | 8 => some (b2n c.arm + 2 * c.out)
      | _ => some c.period)
  else if off < 0xA0 then
    (match off % 16 with
      | 0 => some (word p.value 0)
      | 4 => some (word p.value 1)
      | 8 => some (p.source + 32 * p.edge)
      | _ => some (b2n p.valid + 2 * b2n p.overrun))
  else none

/-- W0 0x08_0000 to 0x08_0FFF: the TIME island. -/
def timeWord (a : Nat) (s : State) : Option Nat :=
  if a < 0x80C00 then tbWord ((a - 0x80000) / 0x200) ((a - 0x80000) % 0x200) s
  else if a = 0x80C00 then some 0
  else if a = 0x80C10 ∨ a = 0x80C14 then
    let p := ppsOf ((a - 0x80C10) / 4) s
    some (p.width + 0x40000000 * b2n p.invert)
  else none

/-- A word of the counter snapshot region (R130, R131). -/
def snapWord (a : Nat) (s : State) : Nat :=
  let x := s.ctl.snap
  if a < 0x1FF000 ∨ 0x1FF040 ≤ a then word (Tbl.get x.values ((a - 0x100000) / 8) 0) (a / 4 % 2)
  else match a - 0x1FF000 with
    | 0 => x.seq
    | 4 => x.gen
    | 8 => word x.time 0
    | 12 => word x.time 1
    | 16 => s.ctl.periodMs
    | _ => 0

/-- The 32-bit word of W0 at a multiple of 4 below the pass-through range; none where the offset is reserved (R70, R72). -/
def regWord (a : Nat) (s : State) : Option Nat :=
  if a < 0x10000 then lowWord a s
  else if a < 0x1A000 then mbWord ((a - 0x10000) / 0x2000) ((a - 0x10000) % 0x2000) s
  else if a < 0x20000 then none
  else if a < 0x30000 then eventWord a s
  else if a < 0x40000 then bridgeWord a s
  else if a < 0x44000 then ringRead (decide (0x42000 ≤ a)) ((a - 0x40000) / 0x100 % 32) (a % 0x100) s
  else if 0x50000 ≤ a ∧ a < 0x50060 then
    (if a % 16 < 8 then some (leN (errHead ((a - 0x50000) / 16) s) (a % 8) 4) else none)
  else if 0x80000 ≤ a ∧ a < 0x81000 then timeWord a s
  else if 0x100000 ≤ a ∧ a < 0x200000 then some (snapWord a s)
  else none

/-- The words that an access of a permitted size touches. -/
def wordsAt (addr size : Nat) : List Nat := (List.range (max 1 (size / 4))).map (fun i => addr / 4 * 4 + 4 * i)

/-- Whether an access touches a reserved offset (R72; log entry 60). -/
def touchesReserved (addr size : Nat) (s : State) : Bool := (wordsAt addr size).any (fun a => (regWord a s).isNone)

/-- Bytes of W0 as they read; a reserved offset reads zero. -/
def regBytes (addr size : Nat) (s : State) : Bytes :=
  slice ((wordsAt addr size).flatMap (fun a => b4 ((regWord a s).getD 0))) (addr % 4) size

/-- A permitted size and alignment (R99). -/
def sizeOk (addr size : Nat) : Bool := [1, 2, 4, 8, 16, 32, 64].contains size && addr % size == 0

/-- The mailbox whose region holds an offset. -/
def mbAt (a : Nat) : Option Nat := if 0x10000 ≤ a ∧ a < 0x1A000 then some ((a - 0x10000) / 0x2000) else none

/-- Whether an initiator may read an offset (R61): the mailbox regions alone restrict reads. -/
def mayRead (init a : Nat) : Bool :=
  match mbAt a with
  | some k => init == 0 || init == 2 || init == 4 || (init == 1 && k == 1)
  | none => true

/-- What an initiator's read of W0 answers: a region it may not read reads zero (R62), and so does an access that touches
a reserved offset (R72). -/
def readFor (init addr size : Nat) (s : State) : Bytes :=
  if mayRead init addr && !touchesReserved addr size s then regBytes addr size s else zeros size

/-! ### Writing -/

/-- The ring whose registers hold an offset. -/
def ringAt (a : Nat) : Option (Bool × Nat) :=
  if 0x40000 ≤ a ∧ a < 0x44000 then some (decide (0x42000 ≤ a), (a - 0x40000) / 0x100 % 32) else none

/-- Whether an initiator may write a word (R61). -/
def mayWriteWord (init a m v : Nat) (s : State) : Bool :=
  if init = 4 then true
  else match mbAt a, ringAt a with
    | some k, _ => k == init && decide (a % 0x2000 < 0xF00)
    | _, some (tx, n) => mayWriteRing init (ringOf tx n s)
    | _, _ =>
      if 0xE00 ≤ a ∧ a < 0x1000 then true
      else if 0x2000 ≤ a ∧ a < 0x2040 then mayOwn init ((a - 0x2000) / 4) (mixed (scrOwnRead ((a - 0x2000) / 4) s) m v) s
      else if 0x21000 ≤ a ∧ a < 0x21200 then init == 0 || init == 2 || (init == 1 && decide (0x211C0 ≤ a))
      else init == 0

/-- Cause bits of a ring-group event that the secondary may clear: those of its own rings (R62). -/
def ownCause (g : Nat) (s : State) : Nat :=
  sumBy (fun j => b2n (ringOf (decide (2 ≤ j)) (2 * g + j % 2) s).owner1 * (2 ^ j + 2 ^ (4 + j))) [0, 1, 2, 3]

/-- A W1C write to EV_CAUSEn (R62, R127). -/
def causeWrite (init n w : Nat) (s : State) : State :=
  let own := ownCause (n - 112) s
  let clear := if init = 1 then w &&& own else w
  let s := setCause n (causeOf n s &&& ~~~ BitVec.ofNat 32 clear) s
  if init = 1 ∧ w ≠ clear then denied (0x21000 + 4 * n) init false s else s

/-- A write to an MSI-X table entry; unmasking a pending vector sends its message (R65). -/
def msixWrite (v k rw : Nat) (s : State) : State :=
  let e := msixEntry v s
  let put (e : MsixEntry) : State := { s with host := { s.host with msix := Tbl.set s.host.msix v e {} } }
  match k with
  | 0 => put { e with addr := rw }
  | 1 => put { e with addrHi := rw }
  | 2 => put { e with data := rw }
  | _ =>
    let s := put { e with mask := rw.testBit 0 }
    if e.mask && !rw.testBit 0 && evPending v s then msixSend v s else s

/-- A write to a compare or capture register of a time-base block (spec/09, Registers). -/
def tbWrite (n off rw w : Nat) (s : State) : State :=
  let k := (off - 0x20) / 16
  let c := cmpOf n k s
  let j := (off - 0x60) / 16
  let p := capOf n j s
  if off < 0x20 then s
  else if off < 0x60 then
    (match off % 16 with
      | 0 => setCmp n k { c with time := withWord c.time 0 (rw / 2 * 2) } s
      | 4 => setCmp n k { c with time := withWord c.time 1 rw } s
      | 8 => setCmp n k { c with arm := rw.testBit 0, out := min 2 (bits rw 2 1) } s
      | _ => setCmp n k { c with period := if rw = 0 then 0 else max 1000 rw / 2 * 2 } s)
  else
    (match off % 16 with
      | 8 => setCap n j { p with source := if 20 ≤ rw % 32 then 31 else rw % 32, edge := max 1 (bits rw 6 5) } s
      | 12 => capStatusWrite n j w s
      | _ => s)

/-- A write to PPS_OUT_CFGk; a change of INVERT turns the ball over. -/
def ppsWrite (k rw : Nat) (s : State) : State :=
  let p := ppsOf k s
  let inv := rw.testBit 30
  let s := setPps k { p with width := max 8 (rw % 0x40000000) / 2 * 2, invert := inv } s
  if inv = p.invert then s else emit (.pps k (p.active != inv)) s

/-- A write to a mailbox register (R105, R107, R108, R116). -/
def mbRegWrite (k off rw w : Nat) (s : State) : State :=
  match off with
  | 0xE00 => if w.testBit 0 then mbDoorbell k s else s
  | 0xE04 => if w.testBit 0 then mbAck k s else s
  | 0xE08 => setMb k { mbOf k s with noticeRd := bits rw 11 8 } s
  | _ => s

/-- A write to W0 0x00_0000 to 0x00_FFFF. -/
def lowWrite (a m rw w : Nat) (s : State) : State :=
  if a = 0x104 then { s with boot := { s.boot with cause := s.boot.cause &&& ~~~ BitVec.ofNat 8 w } }
  else if a = 0x300 then alarmClear w s
  else if 0xE00 ≤ a ∧ a < 0x1000 then
    let n := (a - 0xE00) / 8
    { s with host := { s.host with
      sem := Tbl.set s.host.sem n (BitVec.ofNat 64 (withWord (semOf n s) (a / 4 % 2) rw)) 0 } }
  else if a = 0x1000 then
    { s with sleep := { s.sleep with resumeLost := s.sleep.resumeLost && !w.testBit 10 } }
  else if a = 0x1004 then
    { s with sleep := { s.sleep with wakeCause := s.sleep.wakeCause &&& ~~~ BitVec.ofNat 31 w } }
  else if 0x2000 ≤ a ∧ a < 0x2040 then (if m % 2 = 1 then scrOwn ((a - 0x2000) / 4) rw s else s)
  else s

/-- A write to W0 0x02_0000 to 0x02_FFFF. -/
def eventWrite (init a rw w : Nat) (s : State) : State :=
  if 0x20020 ≤ a ∧ a < 0x20030 then setEnSpi ((a - 0x20020) / 4) rw s
  else if a = 0x20108 then traceRd rw s
  else if 0x20400 ≤ a ∧ a < 0x20600 then setCauseEn ((a - 0x20400) / 4) (BitVec.ofNat 32 rw) s
  else if 0x20800 ≤ a ∧ a < 0x21000 then msixWrite ((a - 0x20800) / 16) (a / 4 % 4) rw s
  else if 0x21000 ≤ a ∧ a < 0x21200 then causeWrite init ((a - 0x21000) / 4) w s
  else s

/-- A write to W0 0x03_0000 to 0x03_FFFF. -/
def bridgeWrite (a rw w : Nat) (s : State) : State :=
  if a = 0x30000 then { s with host := { s.host with status := s.host.status &&& ~~~ BitVec.ofNat 7 w } }
  else if a = 0x30040 then { s with host := { s.host with secRid := rw % 65536, secEn := rw.testBit 16 } }
  else s

/-- A permitted write of the enabled bytes `m` of a word, under the access codes of its fields (R1). -/
def wordWrite (init a m v : Nat) (s : State) : State :=
  let rw := mixed ((regWord a s).getD 0) m v
  let w := v &&& m
  if a < 0x10000 then lowWrite a m rw w s
  else if a < 0x1A000 then mbRegWrite ((a - 0x10000) / 0x2000) ((a - 0x10000) % 0x2000) rw w s
  else if a < 0x30000 then eventWrite init a rw w s
  else if a < 0x40000 then bridgeWrite a rw w s
  else if a < 0x44000 then
    ringWrite (decide (0x42000 ≤ a)) ((a - 0x40000) / 0x100 % 32) (a % 0x100) (if a % 0x100 = 0x20 then w else rw) s
  else if 0x80000 ≤ a ∧ a < 0x80C00 then tbWrite ((a - 0x80000) / 0x200) ((a - 0x80000) % 0x200) rw w s
  else if a = 0x80C00 then latchWrite w s
  else if a = 0x80C10 ∨ a = 0x80C14 then ppsWrite ((a - 0x80C10) / 4) rw s
  else s

/-- The words of a write: offset, enabled bits, value. -/
def writeWords (addr : Nat) (d : Bytes) : List (Nat × Nat × Nat) :=
  if d.length < 4 then
    [(addr / 4 * 4, (256 ^ d.length - 1) * 256 ^ (addr % 4), leN d 0 d.length * 256 ^ (addr % 4))]
  else (List.range (d.length / 4)).map (fun i => (addr + 4 * i, 0xFFFFFFFF, leN d (4 * i) 4))

/-- Why a write of W0 below the pass-through range is refused: 0 not, 2 size, 4 reserved offset, 5 not permitted. The
numbers are those of the SPI status (R88). -/
def judgeWrite (init addr : Nat) (d : Bytes) (s : State) : Nat :=
  if !sizeOk addr d.length then 2
  else if touchesReserved addr d.length s then 4
  else if (writeWords addr d).all (fun w => mayWriteWord init w.1 w.2.1 w.2.2 s) then 0 else 5

/-- The record of a refused access: 2 size, 4 reserved offset, 5 not permitted (R62, R72, R99). -/
def refusal (why addr init : Nat) (w2 : Bool) (s : State) : State :=
  match why with
  | 2 => sizeErr addr init w2 s
  | 4 => addrErr addr init w2 s
  | 5 => denied addr init w2 s
  | _ => s

/-- A write that has been judged takes effect: a write to a request area as a whole (R107), else word by word. -/
def putBytes (init addr : Nat) (d : Bytes) (s : State) : State :=
  match mbAt addr with
  | some k =>
    if addr % 0x2000 < 0xE00 then mbWrite k (addr % 0x2000) d s
    else forEach (writeWords addr d) (fun w s => wordWrite init w.1 w.2.1 w.2.2 s) s
  | none => forEach (writeWords addr d) (fun w s => wordWrite init w.1 w.2.1 w.2.2 s) s

/-- A semaphore word is accessed while another initiator holds the lock (R100). -/
def semBlocked (init addr : Nat) (s : State) : Bool :=
  decide (0xE00 ≤ addr) && decide (addr < 0x1000) && s.host.lock.isSome && s.host.lock != some init

/-- The initiator has a posted write waiting in a bridge. -/
def hasPosted (bridge init : Nat) (s : State) : Bool :=
  s.host.posted.any (fun (w : PostedWrite) => w.bridge == bridge && w.init == init)

/-- Accept a posted write (R92). -/
def post (bridge init addr : Nat) (d : Bytes) (s : State) : State :=
  let w : PostedWrite := { bridge := bridge, init := init, addr := addr, data := d }
  { s with host := { s.host with posted := s.host.posted ++ [w] } }

/-- A write of W0 that reaches its register: judged, then done, or kept while the semaphore lock is another's (R61, R62,
R72, R99, R100). -/
def writeReg (init addr : Nat) (d : Bytes) (s : State) : State :=
  let why := judgeWrite init addr d s
  if why ≠ 0 then refusal why addr init false s
  else if semBlocked init addr s then post 3 init addr d s
  else putBytes init addr d s

/-! ### The rows of single registers -/

/-- REGISTER_WRITE (R1, R61). -/
def execRegisterWrite (init addr : Nat) (data : Bytes) (s : State) : Res :=
  if addr < 0x200000 then .next (writeReg init addr data s) else .next s

/-- HOST_MAP_WRITE (R63). -/
def execHostMapWrite (init value : Nat) (s : State) : Res := .next (writeReg init 0x30040 (b4 value) s)

/-- MSIX_UNMASK: Vector Control is written with Mask 0 (R65). -/
def execMsixUnmask (init vector : Nat) (s : State) : Res := .next (writeReg init (0x2080C + 16 * vector) (b4 0) s)

/-- EV_CAUSE_CLEAR (R127). -/
def execEvCauseClear (init ev value : Nat) (s : State) : Res := .next (writeReg init (0x21000 + 4 * ev) (b4 value) s)

/-- CAPTURE_REARM: a write to CAP_STATUS (R282). -/
def execCaptureRearm (init tb unit value : Nat) (s : State) : Res :=
  .next (writeReg init (0x8006C + 0x200 * tb + 16 * unit) (b4 value) s)

/-- TB_LATCH_WRITE (R269). -/
def execTbLatchWrite (init value : Nat) (s : State) : Res := .next (writeReg init 0x80C00 (b4 value) s)

/-- MB_DOORBELL_WRITE: GO = 1 (R107). -/
def execMbDoorbellWrite (init mb : Nat) (s : State) : Res := .next (writeReg init (0x10E00 + 0x2000 * mb) (b4 1) s)

/-- MB_RSP_ACK_WRITE: ACK = 1 (R108). -/
def execMbRspAckWrite (init mb : Nat) (s : State) : Res := .next (writeReg init (0x10E04 + 0x2000 * mb) (b4 1) s)

/-- MB_REQUEST_WRITE (R107). -/
def execMbRequestWrite (init mb off : Nat) (data : Bytes) (s : State) : Res :=
  if off < 0xE00 then .next (writeReg init (0x10000 + 0x2000 * mb + off) data s) else .next s

/-- NOTICE_RD_WRITE (R116). -/
def execNoticeRdWrite (init mb value : Nat) (s : State) : Res :=
  .next (writeReg init (0x10E08 + 0x2000 * mb) (b4 value) s)

end Sys2Proof.Machine
end

