-- ==== Sys2Proof/Machine/Host.lean ====
section
/-! DEFINITION. The host attachments and the bridges: PCIe reads, writes and AtomicOps, SPI transactions, held reads,
posted writes, the semaphore lock and the pair pass-through (spec/03, R60 to R72, R86 to R102). -/

namespace Sys2Proof.Machine

/-! ### Who is attached -/

/-- The PCIe endpoint answers: PCIE_PERST_N is high and the island is supplied (R44, R67, R69). -/
def pcieUp (s : State) : Bool := !s.power.perst && timeRuns s

/-- The initiator of a PCIe request (R60, R63). -/
def initOf (rid : Nat) (s : State) : Nat := if s.host.secEn && rid == s.host.secRid then 1 else 0

/-- A pair is formed and its link is up (R98). -/
def passUp (s : State) : Bool := s.pair.link && (s.pair.state == 2 || s.pair.state == 3)

/-- Island that a delayed access waits for: 1 DEN, 2 EDGE, 3 the pair link; 0 a fast island (R68, R70). -/
def slowIsland (a : Nat) : Nat :=
  if 0x200000 ≤ a then 3
  else if (0x100 ≤ a ∧ a < 0x200) ∨ (0x300 ≤ a ∧ a < 0x400) ∨ (0x1000 ≤ a ∧ a < 0x2000) then 1
  else if 0x50000 ≤ a ∧ a < 0x50060 then 2
  else 0

/-! ### Held reads (R93) -/

/-- The first held read that satisfies a test and, when `ready`, has one of the four places of its initiator; with the
reads before and after it. -/
def findHeld (ready : Bool) (p : HeldRead → Bool) (seen : List HeldRead) : List HeldRead → Option (List HeldRead × HeldRead × List HeldRead)
  | [] => none
  | h :: rest =>
    if p h && (!ready || decide (countIf (fun x => x.bridge == h.bridge && x.init == h.init) seen < 4)) then
      some (seen, h, rest)
    else findHeld ready p (seen ++ [h]) rest

def setHeld (l : List HeldRead) (s : State) : State := { s with host := { s.host with held := l } }

/-- The request of a held read as it crosses the pair link; its layout is the model's own (log entry 61). -/
def requestFrame (h : HeldRead) : Bytes := b1 (if h.op = 0 then 1 else h.op) ++ b4 (h.addr - 0x200000) ++ b1 h.size ++ h.arg

/-- The next request of the pair outbound bridge leaves (R92, R96). -/
def pumpOne (s : State) : State :=
  match findHeld true (fun h => h.bridge == 1 && !h.sent && h.ahead == 0) [] s.host.held with
  | some (pre, h, rest) => pairSend 2 (requestFrame h) (setHeld (pre ++ { h with sent := true } :: rest) s)
  | none => s

/-- Every request that may leave leaves. -/
def pump (s : State) : State := forEach s.host.held (fun _ s => pumpOne s) s

/-- Posted writes of an initiator that a read of an address must wait for (R92). -/
def writesAhead (init addr : Nat) (s : State) : Nat :=
  countIf (fun (w : PostedWrite) => w.init == init && slowIsland w.addr == slowIsland addr) s.host.posted

/-- A delayed read starts (R93). -/
def startRead (bridge init op addr size : Nat) (arg : Bytes) (s : State) : State :=
  let h : HeldRead := { bridge := bridge, init := init, op := op, addr := addr, size := size, arg := arg, data := none
                        status := 0, answered := false, ahead := writesAhead init addr s }
  pump (setHeld (s.host.held ++ [h]) s)

/-- Error FIFOs whose head a read of W0 returns with its byte 0 (R327). -/
def popsOf (addr size : Nat) : List Nat :=
  (List.range 6).filter (fun m => decide (addr ≤ 0x50000 + 16 * m) && decide (0x50000 + 16 * m < addr + size))

/-- The pop of EDGE_ERR_POPm: the entry that was read, if it is still the head (R95, R327). -/
def popHead (m : Nat) (d : Bytes) (s : State) : State :=
  match (edgeCl m s).errs with
  | [] => s
  | e :: rest => if (errBytes e).take d.length = d then setEdgeCl m { edgeCl m s with errs := rest } s else s

/-- The pops of a collected read (R95). -/
def popAll (addr : Nat) (d : Bytes) (s : State) : State :=
  forEach (popsOf addr d.length) (fun m s => popHead m ((d.drop (0x50000 + 16 * m - addr)).take 8) s) s

/-- What a read delivered to its initiator leaves: the pops of this device's own registers, or the news to the peer that a
read of its POP registers was collected (log entry 61). -/
def collected (bridge addr : Nat) (d : Bytes) (s : State) : State :=
  if bridge ≠ 1 then popAll addr d s
  else if (popsOf (addr - 0x200000) d.length).isEmpty then s
  else pairSend 2 (b1 5 ++ b4 (addr - 0x200000) ++ b1 d.length) s

/-- An access to a semaphore word must wait: the lock is another's, or an earlier write of the initiator waits (R92, R100). -/
def semWaits (init addr : Nat) (s : State) : Bool :=
  semBlocked init addr s || (hasPosted 3 init s && decide (0xE00 ≤ addr) && decide (addr < 0x1000))

/-! ### AtomicOps (R66) -/

/-- FetchAdd, Swap or CAS of a value: 0, 1, 2. -/
def atomicNew (op size old x y : Nat) : Nat :=
  match op with
  | 0 => (old + x) % 256 ^ size
  | 1 => x % 256 ^ size
  | _ => if old = x % 256 ^ size then y % 256 ^ size else old

/-- An AtomicOp on a semaphore word: the bytes it answers, and what it leaves. -/
def atomicRun (init op addr size x y : Nat) (s : State) : Bytes × State :=
  let old := regBytes addr size s
  (old, putBytes init addr (le size (atomicNew op size (leN old 0 size) x y)) s)

/-- An AtomicOp that the endpoint executes: a semaphore word, 4 or 8 bytes (R66). -/
def atomicOk (addr size : Nat) : Bool :=
  (size == 4 || size == 8) && addr % size == 0 && decide (0xE00 ≤ addr) && decide (addr < 0x1000)

/-- Operands of an AtomicOp as a held request carries them. -/
def atomicArg (size x y : Nat) : Bytes := le size x ++ le size y

/-! ### PCIe (R60 to R72) -/

/-- A PCIe read of W0 that needs a delayed read (R68, R93). A repeat re-attaches to a read already answered. -/
def delayedRead (bridge init addr size : Nat) (s : State) : State :=
  match findHeld false (fun h => sameRead bridge init 0 addr size h && h.answered) [] s.host.held with
  | some (pre, h, rest) =>
    (match h.data with
      | some d => pump (collected bridge addr d (emit (.pcieData d false) (setHeld (pre ++ rest) s)))
      | none => setHeld (pre ++ { h with answered := false } :: rest) s)
  | none => startRead bridge init 0 addr size [] s

/-- Owner code of an initiator's bank (R525). -/
def mayReadBank (init : Nat) (b : Bank) : Bool :=
  init == 4 || (!b.busy && (b.owner == init + 1 || b.owner == 6 || b.owner == 7))

def mayWriteBank (init : Nat) (b : Bank) : Bool := init == 4 || (!b.busy && b.owner == init + 1)

/-- The pieces of a W2 access by bank: bank, offset in it, bytes. -/
def bankPieces (addr size : Nat) : List (Nat × Nat × Nat) :=
  (List.range 17).filterMap (fun n =>
    let lo := max addr (bankSize * n)
    let hi := min (addr + size) (bankSize * (n + 1))
    if lo < hi then some (n, lo - bankSize * n, hi - lo) else none)

/-- A PCIe read of W2 (R61, R62, R71, R72, R532). -/
def w2Read (init addr size : Nat) (s : State) : State :=
  if 0x800000 < addr + size then emit (.pcieData (zeros size) false) (addrErr addr init true s)
  else
    let r := (bankPieces addr size).foldl (fun (a : Bytes × Bool × State) (e : Nat × Nat × Nat) =>
      if mayReadBank init (bankOf e.1 a.2.2) then
        let x := bankRead e.1 e.2.1 e.2.2 a.2.2
        (a.1 ++ x.1, a.2.1 || x.2.1, x.2.2)
      else (a.1 ++ zeros e.2.2, a.2.1, a.2.2)) (([], false, s) : Bytes × Bool × State)
    emit (.pcieData r.1 r.2.1) r.2.2

/-- A PCIe write of W2 (R61, R62, R71, R72). -/
def w2Write (init addr : Nat) (d : Bytes) (s : State) : State :=
  if 0x800000 < addr + d.length then addrErr addr init true s
  else
    let ps := bankPieces addr d.length
    if ps.all (fun e => mayWriteBank init (bankOf e.1 s)) then
      forEach ps (fun e s => bankWrite e.1 e.2.1 ((d.drop (bankSize * e.1 + e.2.1 - addr)).take e.2.2) s) s
    else denied addr init true s

/-- A PCIe read of W0 of a permitted size (R68, R72, R98, R100). -/
def w0Read (init addr size : Nat) (s : State) : State :=
  if 0x200000 ≤ addr then
    (if passUp s then delayedRead 1 init addr size s else emit .pcieAbort s)
  else if touchesReserved addr size s then emit (.pcieData (zeros size) false) (addrErr addr init false s)
  else if slowIsland addr ≠ 0 ∨ semWaits init addr s then delayedRead 3 init addr size s
  else emit (.pcieData (readFor init addr size s) false) s

/-- PCIE_MEM_READ (R62, R68, R99). -/
def execPcieMemRead (rid : Nat) (w2 : Bool) (addr size : Nat) (s : State) : Res :=
  let i := initOf rid s
  if !pcieUp s then .next s
  else if w2 then .next (w2Read i addr size s)
  else if 0x400000 ≤ addr then .next s
  else if !sizeOk addr size then .next (emit .pcieAbort (sizeErr addr i false s))
  else .next (w0Read i addr size s)

/-- A PCIe posted write of W0 of a permitted size (R62, R72, R92, R98, R100). -/
def w0Write (init addr : Nat) (d : Bytes) (s : State) : State :=
  if 0x200000 ≤ addr then
    (if init ≠ 0 then denied addr init false s
     else if passUp s then post 1 init addr d s
     else pairWrLost addr init 1 s)
  else
    let why := judgeWrite init addr d s
    if why ≠ 0 then refusal why addr init false s
    else if slowIsland addr ≠ 0 ∨ semWaits init addr s then
      post 3 init addr d s
    else putBytes init addr d s

/-- PCIE_MEM_WRITE (R62, R72, R99). -/
def execPcieMemWrite (rid : Nat) (w2 : Bool) (addr : Nat) (data : Bytes) (s : State) : Res :=
  let i := initOf rid s
  if !pcieUp s then .next s
  else if w2 then .next (w2Write i addr data s)
  else if 0x400000 ≤ addr then .next s
  else if !sizeOk addr data.length then
    let s := sizeErr addr i false s
    .next { s with host := { s.host with aer := true } }
  else .next (w0Write i addr data s)

/-- PCIE_ATOMIC_OP: `x` is the operand, or the compare value of a CAS, whose swap value is `y` (R66, R100). -/
def execPcieAtomicOp (rid : Nat) (w2 : Bool) (addr size op x y : Nat) (s : State) : Res :=
  let i := initOf rid s
  if !pcieUp s then .next s
  else if w2 then .next (emit .pcieAbort s)
  else if 0x200000 ≤ addr then
    if atomicOk (addr - 0x200000) size && i == 0 && passUp s then .next (startRead 1 i (16 + op) addr size (atomicArg size x y) s)
    else .next (emit .pcieAbort s)
  else if !atomicOk addr size then .next (emit .pcieAbort s)
  else if semWaits i addr s then .next (startRead 3 i (16 + op) addr size (atomicArg size x y) s)
  else
    let r := atomicRun i op addr size x y s
    .next (emit (.pcieData r.1 false) r.2)

/-- ATOMIC_OP_RETRY: the endpoint repeats an AtomicOp that was answered LOCK_RETRY (R101). -/
def execAtomicOpRetry (s : State) : Res :=
  match findHeld false (fun h => h.bridge == 1 && decide (16 ≤ h.op) && h.status == 7) [] s.host.held with
  | some (pre, h, rest) => .next (pump (setHeld (pre ++ { h with status := 0, sent := false } :: rest) s))
  | none => .next s

/-- A held read that a PCIe requester still waits for: it has not been answered. -/
def waitsPcie (init addr size : Nat) (h : HeldRead) : Bool :=
  decide (init < 2) && (h.bridge == 1 || h.bridge == 3) && h.init == init && h.addr == addr && h.size == size && h.data.isNone && !h.answered

/-- PCIE_DELAYED_READ_TIMEOUT: 40 µs have passed (R66, R68). The read stays held; an AtomicOp, or a read that never had a
place in its bridge, is given up. -/
def execPcieDelayedReadTimeout (init addr size : Nat) (s : State) : Res :=
  match findHeld false (waitsPcie init addr size) [] s.host.held with
  | some (pre, h, rest) =>
    let placed := decide (countIf (fun x => x.bridge == h.bridge && x.init == h.init) pre < 4)
    let keep := if h.op = 0 ∧ placed then [{ h with answered := true }] else []
    .next (pump (emit .pcieAbort (setHeld (pre ++ keep ++ rest) s)))
  | none => .next s

/-- PCIE_PERST_RELEASE: the endpoint leaves reset, PCIE_WAKE_N is released, and the edge is a wake source (R436, R447). -/
def execPciePerstRelease (s : State) : Res :=
  if !s.power.perst then .next s
  else
    let s := if s.power.wakeN then emit (.pcieWake false) s else s
    .next (wake { source := 22 } { s with power := { s.power with perst := false, wakeN := false } })

/-! ### SPI (R86 to R91) -/

/-- The bytes of a request that the CRC covers. -/
def spiHeader (op addr size : Nat) (d : Bytes) : Bytes := b1 op ++ le 3 addr ++ b1 size ++ d

/-- The response phase: STATUS, data, CRC-8 (R86). -/
def spiAnswer (status : Nat) (d : Bytes) : Bytes := b1 status ++ d ++ [crc8 (b1 status ++ d)]

/-- Answer a transaction. -/
def spiSay (status : Nat) (d : Bytes) (s : State) : State := emit (.spi (spiAnswer status d)) s

/-- A transaction: the falling edge of SPI_CS_N is a wake source, an earlier response is off the wire, and the request is
judged by its CRC (R88, R89, R91). -/
def spiRequest (frame : Bytes) (crc : Nat) (body : State → State) (s : State) : Res :=
  let s := wake { source := 23 } { s with host := { s.host with spiLive := none } }
  if !timeRuns s then .next s
  else if crc8 frame ≠ BitVec.ofNat 8 crc then .next (spiSay 3 [] (spiFrameErr s))
  else .next (body s)

/-- The held operation is on the wire: it is released when SPI_CS_N rises after the whole response (R89). -/
def spiHeldAnswer (h : HeldRead) (d : Bytes) (s : State) : State :=
  let s := spiSay h.status d s
  { s with host := { s.host with spiLive := some { read := some h, resp := spiAnswer h.status d } } }

/-- A delayed operation of the SPI initiator: repeated, refused or started (R88, R93). -/
def spiDelayed (bridge op addr size : Nat) (arg : Bytes) (s : State) : State :=
  match findHeld false (sameRead bridge 2 op addr size) [] s.host.held with
  | some (pre, h, rest) =>
    (match h.data with
      | none => spiSay 1 [] s
      | some d =>
        if h.status = 9 then spiSay 9 [] (setHeld (pre ++ rest) s)
        else spiHeldAnswer h (if op = 4 then [] else d) s)
  | none =>
    if 4 ≤ countIf (fun h => h.init == 2) s.host.held then spiSay 6 [] s
    else if bridge = 1 ∧ !passUp s then spiSay 9 [] s
    else if op = 3 ∧ s.host.lock.isSome ∧ s.host.lock ≠ some 2 then spiSay 7 [] s
    else spiSay 1 [] (startRead bridge 2 op addr size arg s)

/-- Size and offset of an SPI access are refused (R72, R88, R99). -/
def spiRefused (addr size : Nat) (s : State) : Nat :=
  if !sizeOk addr size then 2
  else if 0x400000 ≤ addr ∨ (addr < 0x200000 ∧ touchesReserved addr size s) then 4 else 0

/-- SPI_READ (R87, R88, R93). -/
def execSpiRead (addr size crc : Nat) (s : State) : Res :=
  spiRequest (spiHeader 1 addr size []) crc (fun s =>
    let why := spiRefused addr size s
    if why ≠ 0 then spiSay why [] (refusal why addr 2 false s)
    else spiDelayed (if 0x200000 ≤ addr then 1 else 0) 1 addr size [] s) s

/-- SPI_WRITE (R62, R88, R92): the pass-through range is read only for SPI (R61). -/
def execSpiWrite (addr : Nat) (data : Bytes) (crc : Nat) (s : State) : Res :=
  spiRequest (spiHeader 2 addr data.length data) crc (fun s =>
    let why := spiRefused addr data.length s
    let why := if why ≠ 0 then why else if 0x200000 ≤ addr then 5 else judgeWrite 2 addr data s
    if why ≠ 0 then spiSay why [] (refusal why addr 2 false s)
    else if 16 ≤ countIf (fun (w : PostedWrite) => w.init == 2) s.host.posted then spiSay 6 [] s
    else spiSay 0 [] (post 0 2 addr data s)) s

/-- Refusals of LOCK_READ and UNLOCK_WRITE: SIZE 4 or 8 on a semaphore word of this device (R87, R88). -/
def lockRefused (addr size : Nat) : Nat :=
  if !sizeOk addr size || !(size == 4 || size == 8) then 2
  else if 0xE00 ≤ addr ∧ addr < 0x1000 then 0 else 4

/-- SPI_LOCK_READ (R87, R95, R100). -/
def execSpiLockRead (addr size crc : Nat) (s : State) : Res :=
  spiRequest (spiHeader 3 addr size []) crc (fun s =>
    match lockRefused addr size with
    | 0 => spiDelayed 0 3 addr size [] s
    | 2 => spiSay 2 [] (sizeErr addr 2 false s)
    | _ => spiSay 4 [] s) s

/-- SPI_UNLOCK_WRITE (R87, R100). -/
def execSpiUnlockWrite (addr : Nat) (data : Bytes) (crc : Nat) (s : State) : Res :=
  spiRequest (spiHeader 4 addr data.length data) crc (fun s =>
    match lockRefused addr data.length with
    | 0 => spiDelayed 0 4 addr data.length data s
    | 2 => spiSay 2 [] (sizeErr addr 2 false s)
    | _ => spiSay 4 [] s) s

/-- SPI_CANCEL (R87, R95). -/
def execSpiCancel (crc : Nat) (s : State) : Res :=
  spiRequest (spiHeader 5 0 0 []) crc (fun s =>
    let mine := s.host.held.filter (fun h => h.init == 2)
    let s := forEach mine (fun h s => releaseLockOf h s) (releaseHeld (fun h => h.init == 2) s)
    spiSay 0 [] (pump s)) s

/-- SPI_NOP, and an opcode that R87 does not list. -/
def execSpiNop (opcode crc : Nat) (s : State) : Res :=
  if (1 ≤ opcode ∧ opcode ≤ 5) ∨ opcode = 7 then .next s
  else spiRequest (spiHeader opcode 0 0 []) crc (fun s => spiSay (if opcode = 6 then 0 else 4) [] s) s

/-- SPI_REPEAT_LAST (R89). -/
def execSpiRepeatLast (crc : Nat) (s : State) : Res :=
  spiRequest (spiHeader 7 0 0 []) crc (fun s =>
    match s.host.spiLast with
    | some d => spiSay 0 d s
    | none => spiSay 4 [] s) s

/-- SPI_READ_COLLECT (R89, R95). -/
def execSpiReadCollect (s : State) : Res :=
  let off (s : State) : State := { s with host := { s.host with spiLive := none } }
  match s.host.spiLive with
  | some { read := some h, .. } =>
    match findHeld false (fun x => x == h) [] s.host.held, h.data with
    | some (pre, _, rest), some d =>
      let s := off (setHeld (pre ++ rest) s)
      let s := if h.op = 4 then s
        else collected h.bridge h.addr d { s with host := { s.host with spiLast := some d } }
      .next (pump s)
    | _, _ => .next (off s)
  | _ => .next (off s)

/-- SPI_CS_EARLY_RISE: before the request CRC, or during the response (R89, R103). -/
def execSpiCsEarlyRise (inRequest : Bool) (s : State) : Res :=
  let s := { s with host := { s.host with spiLive := none } }
  if inRequest then
    let s := wake { source := 23 } s
    .next (if timeRuns s then spiFrameErr s else s)
  else .next s

/-! ### Delivery and fetch (R92 to R96, R100 to R102) -/

/-- The request of a response frame; its layout is the model's own (log entry 61). -/
def pairReply (status : Nat) (d : Bytes) (s : State) : State := pairSend 1 (b1 status ++ d) s

/-- The outcome of an inbound read: the answer leaves; a read of POP registers stays held until it is known to have been
collected (spec/03, Worked timelines). -/
def inboundDone (pre rest : List HeldRead) (h : HeldRead) (d : Bytes) (s : State) : State :=
  let keep := if (popsOf h.addr h.size).isEmpty then [] else [{ h with data := some d, answered := true }]
  pairReply 0 d (setHeld (pre ++ keep ++ rest) s)

/-- The data of a delayed read are there (R93): PCIe completes at once, unless it was answered before. -/
def heldArrive (pre rest : List HeldRead) (h : HeldRead) (d : Bytes) (s : State) : State :=
  if h.init = 2 ∨ h.answered then setHeld (pre ++ { h with data := some d } :: rest) s
  else pump (collected h.bridge h.addr d (emit (.pcieData d false) (setHeld (pre ++ rest) s)))

/-- A delayed operation is given up by the far side: ABORT (R98). -/
def heldAbort (pre rest : List HeldRead) (h : HeldRead) (s : State) : State :=
  if h.init = 2 then setHeld (pre ++ { h with data := some [], status := 9 } :: rest) s
  else
    let s := pump (setHeld (pre ++ rest) s)
    if h.answered then s else emit .pcieAbort s

/-- The peer's answer to an outbound request; none is an answer without data: LOCK_RETRY to an AtomicOp, else ABORT. -/
def outboundAnswer (pre rest : List HeldRead) (h : HeldRead) (answer : Option Bytes) (s : State) : State :=
  match answer with
  | some d => heldArrive pre rest h (slice d 0 h.size) s
  | none =>
    if 16 ≤ h.op then bridgeCount 4 1 (setHeld (pre ++ { h with status := 7 } :: rest) s)
    else heldAbort pre rest h s

/-- The semaphore lock is taken (R100). -/
def takeLock (init addr : Nat) (s : State) : State := { s with host := { s.host with lock := some init, lockAt := addr } }

/-- A fetch on this device (R93, R100). -/
def localFetch (pre rest : List HeldRead) (h : HeldRead) (s : State) : State :=
  if h.op = 4 then
    (if s.host.lock = some h.init then
       let s := putBytes h.init h.addr h.arg s
       setHeld (pre ++ { h with data := some [], status := 0 } :: rest) { s with host := { s.host with lock := none } }
     else setHeld (pre ++ { h with data := some [], status := 8 } :: rest) s)
  else if semBlocked h.init h.addr s then s
  else if 16 ≤ h.op then
    let r := atomicRun h.init (h.op - 16) h.addr h.size (leN h.arg 0 h.size) (leN h.arg h.size h.size) s
    if h.bridge = 2 then pairReply 0 r.1 (setHeld (pre ++ rest) r.2)
    else pump (emit (.pcieData r.1 false) (setHeld (pre ++ rest) r.2))
  else
    let d := readFor h.init h.addr h.size s
    let s := if h.op = 3 then takeLock h.init h.addr s else s
    if h.bridge = 2 then inboundDone pre rest h d s else heldArrive pre rest h d s

/-- BRIDGE_FETCH_COMPLETE (R92, R93). -/
def execBridgeFetchComplete (bridge init op addr size : Nat) (answer : Option Bytes) (s : State) : Res :=
  let mine (h : HeldRead) : Bool :=
    sameRead bridge init op addr size h && h.data.isNone && h.ahead == 0 && h.status == 0 && (bridge != 1 || h.sent)
  match findHeld true mine [] s.host.held with
  | some (pre, h, rest) => .next (if bridge = 1 then outboundAnswer pre rest h answer s else localFetch pre rest h s)
  | none => .next s

/-- BRIDGE_READ_DISCARD: 200 µs after the data arrived (R94, R95). The end of an UNLOCK_WRITE holds no data and is not
logged. -/
def execBridgeReadDiscard (bridge init op addr size : Nat) (s : State) : Res :=
  match findHeld false (fun h => sameRead bridge init op addr size h && h.data.isSome) [] s.host.held with
  | some (pre, h, rest) =>
    let s := releaseLockOf h (setHeld (pre ++ rest) s)
    let far := if 0x200000 ≤ addr then addr - 0x200000 else addr
    .next (pump (if op = 4 then s else logDiscard h (!(popsOf far size).isEmpty) s))
  | none => .next s

/-- A posted write reaches its target: the pair link, or a register of this device (R92, R98). -/
def deliver (w : PostedWrite) (s : State) : State :=
  if w.bridge = 1 then
    (if passUp s then pairSend 2 (b1 2 ++ b4 (w.addr - 0x200000) ++ b1 w.data.length ++ w.data) s
     else pairWrLost w.addr w.init 1 s)
  else
    let why := judgeWrite w.init w.addr w.data s
    if why ≠ 0 then refusal why w.addr w.init false s else putBytes w.init w.addr w.data s

/-- The reads that waited for this write wait for one less (R92). -/
def readsWait (w : PostedWrite) (s : State) : State :=
  setHeld (s.host.held.map (fun h =>
    if h.init = w.init ∧ slowIsland h.addr = slowIsland w.addr then { h with ahead := h.ahead - 1 } else h)) s

/-- BRIDGE_WRITE_DELIVER: the oldest posted write of an initiator in a bridge; one to a semaphore word waits for the lock
(R92, R100). -/
def execBridgeWriteDeliver (bridge init : Nat) (s : State) : Res :=
  match takeFirst (fun (w : PostedWrite) => w.bridge == bridge && w.init == init) s.host.posted with
  | some (w, rest) =>
    if bridge ≠ 1 ∧ semBlocked init w.addr s then .next s
    else .next (pump (readsWait w (deliver w { s with host := { s.host with posted := rest } })))
  | none => .next s

/-- SEM_LOCK_LAPSE: 10 µs have passed since the lock was taken (R100). -/
def execSemLockLapse (s : State) : Res := .next (lockLapse s)

/-- This device has an outbound locked request outstanding on the pair link (R101). -/
def lockOutbound (s : State) : Bool :=
  s.host.held.any (fun h => h.bridge == 1 && decide (16 ≤ h.op) && h.sent && h.status == 0)

/-- PAIR_BRIDGE_REQUEST: 1 READ, 2 WRITE, 16 to 18 FetchAdd, Swap and CAS with operand and second operand in `data`; 5
says that the peer has collected a read of POP registers (R61, R101, R102; log entry 61). -/
def execPairBridgeRequest (op addr size : Nat) (data : Bytes) (s : State) : Res :=
  if !passUp s ∨ 0x200000 ≤ addr then .next s
  else match op with
    | 1 =>
      if !sizeOk addr size then .next (pairReply 9 [] (sizeErr addr 3 false s))
      else if touchesReserved addr size s then .next (pairReply 0 (zeros size) (addrErr addr 3 false s))
      else .next (startRead 2 3 1 addr size [] s)
    | 2 =>
      let why := judgeWrite 3 addr data s
      if why ≠ 0 then .next (refusal why addr 3 false s) else .next (post 2 3 addr data s)
    | 5 =>
      (match findHeld false (fun h => sameRead 2 3 1 addr size h && h.data.isSome) [] s.host.held with
        | some (pre, h, rest) => .next (popAll addr (h.data.getD []) (setHeld (pre ++ rest) s))
        | none => .next s)
    | _ =>
      if op < 16 ∨ 18 < op then .next s
      else if !atomicOk addr size then .next (pairReply 9 [] s)
      else if lockOutbound s ∧ devId < s.pair.cfg.peer then .next (pairReply 7 [] s)
      else .next (startRead 2 3 op addr size (slice data 0 (2 * size)) s)

/-- EDGE_ERR_POP_READ: a read of EDGE_ERR_POPm from its byte 0 that is collected (R95, R327). -/
def execEdgeErrPopRead (init cluster size : Nat) (s : State) : Res :=
  let a := 0x50000 + 16 * cluster
  if !sizeOk a size then .next (sizeErr a init false s)
  else if 8 < size then .next (addrErr a init false s)
  else
    let d := regBytes a size s
    let s := match init with
      | 2 => spiSay 0 d { s with host := { s.host with spiLast := some d } }
      | 3 => pairReply 0 d s
      | 4 => s
      | _ => emit (.pcieData d false) s
    .next (popAll a d s)

end Sys2Proof.Machine
end

