-- ==== Sys2Proof/Machine/Lockstep.lean ====
section
/-! DEFINITION. The Vintner lockstep: mismatches, restarts, the permanent fault, the controller checkpoint, WDO (spec/15,
R484 to R487; spec/04, R114), and CMD_LOCKSTEP_STATUS. -/

namespace Sys2Proof.Machine

/-- The command that a mailbox holds runs on: a unit that the lockstep does not touch works for it, or it waits (R485). -/
def startedBy (mb : Nat) (s : State) : Bool :=
  let mine (o : MdioOp) : Bool := match o.origin with
    | .mailbox k => k == mb
    | .tc10 _ => false
  (Tbl.find s.press.runs mb).isSome || s.sleep.rising.map (·.2) == some (some mb) || s.pair.handover == some mb ||
    s.test.field.map (·.mb) == some mb || s.ports.tc10.any (fun e => e.2.mb == some mb) ||
    s.ports.mdio.any (fun e => (e.2.busy.toList ++ e.2.queue).any mine)

/-- A restart ends the commands of a mask that had begun without passing their commit point: INTERRUPTED (R114). -/
def restartEnd (mask k : Nat) (s : State) : State :=
  if mask.testBit k ∧ (mbOf k s).state = .busy ∧ startedBy k s = false then mbDone k stInterrupted s.sets.gen [] s else s

def restartEnds (mask : Nat) (s : State) : State := forEach (List.range 5) (restartEnd mask) s

/-- An armed swap is cancelled, and no notice can tell it (R486). -/
def swapDropped (x : Sets) : Sets := if x.shadow = .armed then { x with shadow := .ready, swapTb := 0, swapTime := 0 } else x

/-- Vintner stands still; FAULT_N is asserted (R486). -/
def vintnerStop (s : State) : State :=
  { s with
    power := { s.power with faultN := true }, sets := swapDropped s.sets
    pair := { s.pair with vintnerHalted := true, handover := none } }

/-- The fault is permanent: Vintner halts, and an active fences itself (R486). -/
def vintnerHalt (s : State) : State :=
  let s := vintnerStop (alarm 1 locDev (raise 2 0 (raise 10 2 s)))
  if s.pair.state = 2 ∨ s.pair.state = 4 then fenceEnter true s else s

/-- LOCKSTEP_MISMATCH: `bad` copies of the controller checkpoint do not verify; `mask` are mailboxes whose command the
restart ends (R485, R486). -/
def execLockstepMismatch (bad mask : Nat) (s : State) : Res :=
  if !dieshUp s ∨ s.sleep.asleep then .next s
  else
    let ts := faultsNow s.pair.mismatches 10000000000 s
    let t := now32 s
    let s := alarm 7 locDev (raise 10 0 (count 255 265 s))
    let s := setPair (fun p => { p with mismatches := ts, lastMismatch := t }) s
    let wiped : Bool := match s.pair.wiped with
      | some w => decide (now s < w + 100000)
      | none => false
    if 3 ≤ ts.length ∨ s.pair.ctlCopies ≤ bad ∨ wiped then .next (vintnerHalt s)
    else
      let s := raise 10 1 (count 255 266 (setPair (fun p => { p with restarts := p.restarts + 1 }) s))
      let s := if 0 < bad then raise 10 3 s else s
      .next (restartEnds mask s)

/-- The controller checkpoint is written to the older copy, and WDO toggles while READY is high (R485). -/
def ctlWrite (s : State) : State :=
  setPair (fun p => { p with
    ctlSeq := p.ctlSeq + 1, ctlCopies := min 2 (p.ctlCopies + 1), wdo := if s.power.ready then !p.wdo else false }) s

/-- CONTROLLER_CHECKPOINT_WRITE: every 2 ms (R485). -/
def execControllerCheckpointWrite (s : State) : Res := .next (if dieshUp s ∧ !s.sleep.asleep then ctlWrite s else s)

/-- TAMPER_REDERIVE: after a wipe Diesh derives slots 240 to 255 again and rewrites its checkpoint (R414). -/
def execTamperRederive (s : State) : Res :=
  if s.cellar.rederive ∧ dieshUp s ∧ !s.sleep.asleep then
    .next (ctlWrite (deriveOwn { s with cellar := { s.cellar with rederive := false } }))
  else .next s

/-- CMD_LOCKSTEP_STATUS. -/
def cmdLockstepStatus : Cmd :=
  { code := 0x0C05, may := fun _ => true, lenOk := len 0
    body := fun _ s =>
      let p := s.pair
      let w := countIf (fun t => decide (now s < t + 10000000000)) p.mismatches
      ok (b1 (b2n p.vintnerHalted) ++ b1 w ++ zeros 2 ++ b4 p.restarts ++ b4 p.lastMismatch ++ b4 p.ctlSeq) s }

def execCmdLockstepStatus (mb : Nat) (s : State) : Res := .next (runCmd cmdLockstepStatus mb s)

end Sys2Proof.Machine
end

