-- ==== Sys2Proof/Machine/Selftest.lean ====
section
/-! DEFINITION. Field tests, the BIST record and repairs: commands 0x0E00 to 0x0E03 (spec/17, R517 to R524). -/

namespace Sys2Proof.Machine

/-! ### CMD_SELFTEST_RUN (R519, R520) -/

/-- Lanes that a test of lane `l` tests: both lanes of a 50G_PAIR. -/
def testLanes (l : Nat) (s : State) : List Nat := if (laneOf l s).mode = 6 then [l / 2 * 2, l / 2 * 2 + 1] else [l]

/-- The ports of a tested lane. -/
def testPorts (l : Nat) (s : State) : List Nat := (testLanes l s).flatMap portsOfLane

/-- Units that KIND and INDEX may name. -/
def testUnit (kind index : Nat) : Bool :=
  decide (1 ≤ kind) && decide (kind ≤ 6) && decide (index < [0, 48, 8, 15, 96, 8, 16].getD kind 0)

/-- The unit was retired before the test. -/
def unitIsRetired (kind i : Nat) (s : State) : Bool :=
  match kind with
  | 1 => (unitOf false i s).state == 1
  | 2 => (unitOf true i s).state == 1
  | 3 => (laneOf i s).retired || (testPorts i s).any (fun p => (ethPort p s).state == 4)
  | 4 => (edgeChan i s).state == 6
  | 5 => s.press.retired.getLsbD i
  | _ => (bankOf i s).retired

/-- Why a test may not start, in the order of the command. -/
def testRefused (kind i : Nat) (s : State) : Nat :=
  if s.test.field.isSome then stBusy
  else if s.sleep.entry ≠ .none then stState
  else if kind = 1 ∨ kind = 2 then
    if (unitOf (kind == 2) i s).state = 0 ∧ unitsInService (kind == 2) s ≤ 1 then stState else stOk
  else if kind = 6 then
    if ((bankOf i s).owner = 0 ∧ !(bankOf i s).busy) ∨ (bankOf i s).retired then stOk else stState
  else if kind = 3 then (if (testPorts i s).any (fun p => (ethPort p s).state == 3) then stState else stOk)
  else stOk

/-- The start of a test: the unit is isolated (R519). -/
def isolate (kind i mb : Nat) (s : State) : State :=
  let t : FieldTest := { kind := kind, index := i, mb := mb, retired := unitIsRetired kind i s }
  let start (t : FieldTest) (s : State) : State := { s with test := { s.test with field := some t } }
  match kind with
  | 3 =>
    let ps := testPorts i s
    let up := ps.filter (fun p => (ethPort p s).state == 1 || (ethPort p s).state == 2)
    start { t with back := up.map (fun p => (p, 1)) } (forEach up (fun p s => refusePort p 0 7 s) s)
  | 4 =>
    if t.retired then start t s
    else start { t with back := (partners i s).map (fun k => (k, (edgeChan k s).state)) } (chanState i 1 s)
  | 5 => start t (flushQueue i false s)
  | 6 => start t (setBank i { bankOf i s with busy := true, zeroFor := none } s)
  | k =>
    let s := evictUnit (k == 2) i s
    start t (if t.retired then s else setUnit (k == 2) i { unitOf (k == 2) i s with state := 2 } s)

/-- The unit passes (R519). -/
def testPassed (t : FieldTest) (s : State) : State :=
  match t.kind with
  | 3 => forEach t.back (fun e s => if (ethPort e.1 s).state = 0 then enterState e.1 1 7 s else s) s
  | 4 => forEach t.back (fun e s => chanSet (if e.2 = 3 then 2 else e.2) e.1 s) s
  | 5 =>
    { s with press := { s.press with
      retired := s.press.retired &&& ~~~ BitVec.ofNat 8 (2 ^ t.index), faults := Tbl.set s.press.faults t.index [] [] } }
  | 6 =>
    traceHome (setBank t.index { bankOf t.index s with
      owner := 0, busy := false, retired := false, mem := [], poison := [], ueTimes := [] } s)
  | k =>
    if t.retired then s else setUnit (k == 2) t.index { unitOf (k == 2) t.index s with state := 0 } s

/-- The unit fails: it is retired, unless it was (R519). -/
def testFailed (t : FieldTest) (s : State) : State :=
  let s := alarm 17 locDev (raise 104 1 (count 255 289 s))
  if t.retired then (if t.kind = 6 then setBank t.index { bankOf t.index s with busy := false } s else s)
  else match t.kind with
  | 3 => forEach (testLanes t.index s) (fun l s => retireLane l s) s
  | 4 => retireChan t.index s
  | 5 => retirePress t.index s
  | 6 => retireBank t.index s
  | k => retireUnit (k == 2) t.index s

/-- ACTION of the response. -/
def testAction (t : FieldTest) (pass : Bool) : Nat :=
  if t.retired then (if pass && decide (5 ≤ t.kind) then 2 else 3) else if pass then 0 else 1

/-- CMD_SELFTEST_RUN: it starts the test and, served again while the test runs, ends it with what the test found. -/
def cmdSelftestRun (pass : Bool) (detail : Nat) : Cmd :=
  { code := 0x0E00, may := mbs [0, 2], lenOk := len 4
    idx := fun r _ => need (testUnit (u8 r.params 0) (u8 r.params 1))
    body := fun r s =>
      let kind := u8 r.params 0
      let i := u8 r.params 1
      match s.test.field with
      | some t =>
        if t.mb ≠ r.mb then fail stBusy s
        else
          let s := { s with test := { s.test with field := none } }
          let s := if pass then raise 104 0 (testPassed t s) else testFailed t s
          ok (b1 (b2n (!pass)) ++ b1 (testAction t pass) ++ zeros 2 ++ b4 detail) s
      | none =>
        let st := testRefused kind i s
        if st ≠ stOk then fail st s else .busy (count 255 288 (isolate kind i r.mb s)) }

/-! ### BIST and repairs -/

/-- CMD_BIST_RESULT. -/
def cmdBistResult : Cmd :=
  { code := 0x0E01, may := fun _ => true, lenOk := len 0
    body := fun _ s =>
      let b := s.test.bist
      let fs := b.fails.take 64
      ok (b1 b.run ++ b1 b.outcome ++ b2 b.duration ++ b2 b.noRef ++ b1 b.softApplied ++ b1 fs.length ++
        fs.flatMap (fun f => b1 f.kind ++ b1 f.index ++ b1 (b2n f.fatal) ++ zeros 1 ++ b4 f.detail)) s }

/-- A record of CMD_REPAIR_LIST. -/
def repairBytes (r : Repair) : Bytes :=
  b1 r.memory ++ b1 (r.origin + 4 * b2n r.column + 8 * b2n r.candidate) ++ b2 r.segment ++ b2 r.address ++ zeros 2

/-- CMD_REPAIR_LIST. -/
def cmdRepairList : Cmd :=
  { code := 0x0E02, may := fun _ => true, lenOk := len 0
    body := fun _ s =>
      ok (b1 (repairs s).length ++ b1 (16 - s.otp.fusesUsed) ++ zeros 2 ++ (repairs s).flatMap repairBytes) s }

/-- CMD_REPAIR_BURN; `good` is what the read-back finds (R524). -/
def cmdRepairBurn (good : Bool) : Cmd :=
  { code := 0x0E03, may := mbs [0], lenOk := len 4
    body := fun r s =>
      let i := u16 r.params 0
      match s.alarms.soft[i]? with
      | none => fail stNotFound s
      | some x =>
        if x.candidate then fail stNotFound s
        else if 16 ≤ s.otp.fusesUsed then fail stNoSpace s
        else if s.otp.life = 3 then fail stState s
        else
          let slot := s.otp.fusesUsed
          let rsp : Bytes := b1 slot ++ b1 (15 - slot)
          let s := emit (.fuse 4 (leN (repairBytes x) 0 8)) { s with otp := { s.otp with fusesUsed := slot + 1 } }
          if good then
            ok rsp (raise 105 3 (count 255 292 { s with
              otp := { s.otp with fuses := s.otp.fuses ++ [{ x with origin := 2 }] }
              alarms := { s.alarms with soft := s.alarms.soft.eraseIdx i } }))
          else .done stConflict rsp (raise 105 4 s) }

def execCmdSelftestRun (mb : Nat) (pass : Bool) (detail : Nat) (s : State) : Res :=
  changing (fun s => runCmd (cmdSelftestRun pass detail) mb s) s
def execCmdBistResult (mb : Nat) (s : State) : Res := .next (runCmd cmdBistResult mb s)
def execCmdRepairList (mb : Nat) (s : State) : Res := .next (runCmd cmdRepairList mb s)
def execCmdRepairBurn (mb : Nat) (good : Bool) (s : State) : Res := .next (runCmd (cmdRepairBurn good) mb s)

end Sys2Proof.Machine
end

