-- ==== Sys2Proof/Machine/Dispatch.lean ====
section
/-! DEFINITION. The meaning of every command: one arm per constructor. -/

namespace Sys2Proof.Machine

/-- The effect of a command on everything but the queue. -/
def exec (i : Instr) (s : State) : Host.Outcome State Fault Refusal :=
  match i with
  | .registerWrite init addr data => Sys2Proof.Machine.execRegisterWrite init addr data s
  | .denPowerOnReset xtal => Sys2Proof.Machine.execDenPowerOnReset xtal s
  | .porstNAssert => Sys2Proof.Machine.execPorstNAssert s
  | .porstNRelease boot => Sys2Proof.Machine.execPorstNRelease boot s
  | .allRailsGood => Sys2Proof.Machine.execAllRailsGood s
  | .pllLockComplete => Sys2Proof.Machine.execPllLockComplete s
  | .supplyWindowExpiry late => Sys2Proof.Machine.execSupplyWindowExpiry late s
  | .railOutOfRange rail => Sys2Proof.Machine.execRailOutOfRange rail s
  | .brownOut rail => Sys2Proof.Machine.execBrownOut rail s
  | .vddAonLoss => Sys2Proof.Machine.execVddAonLoss s
  | .faultRestart xtal => Sys2Proof.Machine.execFaultRestart xtal s
  | .refClockFault => Sys2Proof.Machine.execRefClockFault s
  | .tjThresholdCross tj => Sys2Proof.Machine.execTjThresholdCross tj s
  | .overtempReset tj => Sys2Proof.Machine.execOvertempReset tj s
  | .warmNAssert => Sys2Proof.Machine.execWarmNAssert s
  | .warmResetStart => Sys2Proof.Machine.execWarmResetStart s
  | .powerUpBistComplete duration noRef fails soft root => Sys2Proof.Machine.execPowerUpBistComplete duration noRef fails soft root s
  | .bootImageLoadComplete => Sys2Proof.Machine.execBootImageLoadComplete s
  | .dieshInitComplete => Sys2Proof.Machine.execDieshInitComplete s
  | .pcieMemRead rid w2 addr size => Sys2Proof.Machine.execPcieMemRead rid w2 addr size s
  | .pcieMemWrite rid w2 addr data => Sys2Proof.Machine.execPcieMemWrite rid w2 addr data s
  | .pcieAtomicOp rid w2 addr size op x y => Sys2Proof.Machine.execPcieAtomicOp rid w2 addr size op x y s
  | .atomicOpRetry => Sys2Proof.Machine.execAtomicOpRetry s
  | .pcieDelayedReadTimeout init addr size => Sys2Proof.Machine.execPcieDelayedReadTimeout init addr size s
  | .pciePerstAssert => Sys2Proof.Machine.execPciePerstAssert s
  | .pcieHotReset => Sys2Proof.Machine.execPcieHotReset s
  | .pcieFlr => Sys2Proof.Machine.execPcieFlr s
  | .hostMapWrite init value => Sys2Proof.Machine.execHostMapWrite init value s
  | .msixUnmask init vector => Sys2Proof.Machine.execMsixUnmask init vector s
  | .evCauseClear init ev value => Sys2Proof.Machine.execEvCauseClear init ev value s
  | .ringCtrlWrite init tx ring value => Sys2Proof.Machine.execRingCtrlWrite init tx ring value s
  | .ringTailWrite init tx ring value => Sys2Proof.Machine.execRingTailWrite init tx ring value s
  | .txDescriptorProcess desc data => Sys2Proof.Machine.execTxDescriptorProcess desc data s
  | .rxFrameDeliver buf => Sys2Proof.Machine.execRxFrameDeliver buf s
  | .dmaError tx ring => Sys2Proof.Machine.execDmaError tx ring s
  | .ringModTimeout tx ring => Sys2Proof.Machine.execRingModTimeout tx ring s
  | .tsRecordWrite ring => Sys2Proof.Machine.execTsRecordWrite ring s
  | .tsRecordTimeout ring => Sys2Proof.Machine.execTsRecordTimeout ring s
  | .spiRead addr size crc => Sys2Proof.Machine.execSpiRead addr size crc s
  | .spiWrite addr data crc => Sys2Proof.Machine.execSpiWrite addr data crc s
  | .spiLockRead addr size crc => Sys2Proof.Machine.execSpiLockRead addr size crc s
  | .spiUnlockWrite addr data crc => Sys2Proof.Machine.execSpiUnlockWrite addr data crc s
  | .spiCancel crc => Sys2Proof.Machine.execSpiCancel crc s
  | .spiNop opcode crc => Sys2Proof.Machine.execSpiNop opcode crc s
  | .spiRepeatLast crc => Sys2Proof.Machine.execSpiRepeatLast crc s
  | .spiReadCollect => Sys2Proof.Machine.execSpiReadCollect s
  | .spiCsEarlyRise inRequest => Sys2Proof.Machine.execSpiCsEarlyRise inRequest s
  | .bridgeFetchComplete bridge init op addr size answer => Sys2Proof.Machine.execBridgeFetchComplete bridge init op addr size answer s
  | .bridgeReadDiscard bridge init op addr size => Sys2Proof.Machine.execBridgeReadDiscard bridge init op addr size s
  | .bridgeWriteDeliver bridge init => Sys2Proof.Machine.execBridgeWriteDeliver bridge init s
  | .semLockLapse => Sys2Proof.Machine.execSemLockLapse s
  | .pairBridgeRequest op addr size data => Sys2Proof.Machine.execPairBridgeRequest op addr size data s
  | .edgeErrPopRead init cluster size => Sys2Proof.Machine.execEdgeErrPopRead init cluster size s
  | .mbDoorbellWrite init mb => Sys2Proof.Machine.execMbDoorbellWrite init mb s
  | .mbRspAckWrite init mb => Sys2Proof.Machine.execMbRspAckWrite init mb s
  | .mbRequestWrite init mb off data => Sys2Proof.Machine.execMbRequestWrite init mb off data s
  | .noticeRdWrite init mb value => Sys2Proof.Machine.execNoticeRdWrite init mb value s
  | .timedSwapFire => Sys2Proof.Machine.execTimedSwapFire s
  | .setDrainEnd => Sys2Proof.Machine.execSetDrainEnd s
  | .setDrainTimeout => Sys2Proof.Machine.execSetDrainTimeout s
  | .shadowCopyComplete => Sys2Proof.Machine.execShadowCopyComplete s
  | .snapshotPeriodicTimer => Sys2Proof.Machine.execSnapshotPeriodicTimer s
  | .snapshotPublish => Sys2Proof.Machine.execSnapshotPublish s
  | .serviceSessionExpiry => Sys2Proof.Machine.execServiceSessionExpiry s
  | .ethFrameReceive port data last how => Sys2Proof.Machine.execEthFrameReceive port data last how s
  | .pickerThreadAllocate picker => Sys2Proof.Machine.execPickerThreadAllocate picker s
  | .ldf picker => Sys2Proof.Machine.execLdf picker s
  | .cmp picker => Sys2Proof.Machine.execCmp picker s
  | .br picker => Sys2Proof.Machine.execBr picker s
  | .jt picker => Sys2Proof.Machine.execJt picker s
  | .add picker => Sys2Proof.Machine.execAdd picker s
  | .sub picker => Sys2Proof.Machine.execSub picker s
  | .and picker => Sys2Proof.Machine.execAnd picker s
  | .or picker => Sys2Proof.Machine.execOr picker s
  | .shr picker => Sys2Proof.Machine.execShr picker s
  | .shl picker => Sys2Proof.Machine.execShl picker s
  | .adv picker => Sys2Proof.Machine.execAdv picker s
  | .push picker => Sys2Proof.Machine.execPush picker s
  | .key picker => Sys2Proof.Machine.execKey picker s
  | .metaField picker => Sys2Proof.Machine.execMetaField picker s
  | .chklen picker => Sys2Proof.Machine.execChklen picker s
  | .defer picker => Sys2Proof.Machine.execDefer picker s
  | .done picker => Sys2Proof.Machine.execDone picker s
  | .mal picker => Sys2Proof.Machine.execMal picker s
  | .pickerStallResume picker => Sys2Proof.Machine.execPickerStallResume picker s
  | .parseBudgetExhausted picker => Sys2Proof.Machine.execParseBudgetExhausted picker s
  | .walkerTakeover walker => Sys2Proof.Machine.execWalkerTakeover walker s
  | .trellisNodeVisit walker => Sys2Proof.Machine.execTrellisNodeVisit walker s
  | .trellisVisitLimit walker => Sys2Proof.Machine.execTrellisVisitLimit walker s
  | .parseResultDeliver port => Sys2Proof.Machine.execParseResultDeliver port s
  | .pickerFaultRerun isWalker unit => Sys2Proof.Machine.execPickerFaultRerun isWalker unit s
  | .pstoreEccError setB kind addr ue => Sys2Proof.Machine.execPstoreEccError setB kind addr ue s
  | .pstoreRewrite setB kind addr => Sys2Proof.Machine.execPstoreRewrite setB kind addr s
  | .macAgeScan => Sys2Proof.Machine.execMacAgeScan s
  | .tableEccError setB table index ue => Sys2Proof.Machine.execTableEccError setB table index ue s
  | .tableWordRewrite setB table index => Sys2Proof.Machine.execTableWordRewrite setB table index s
  | .vintnerDirectedSend port queue data launch => Sys2Proof.Machine.execVintnerDirectedSend port queue data launch s
  | .egressSelect port side => Sys2Proof.Machine.execEgressSelect port side s
  | .transmissionComplete port pre => Sys2Proof.Machine.execTransmissionComplete port pre s
  | .macsecHoldExpiry port => Sys2Proof.Machine.execMacsecHoldExpiry port s
  | .residenceSweep => Sys2Proof.Machine.execResidenceSweep s
  | .vatEccError kind ue index => Sys2Proof.Machine.execVatEccError kind ue index s
  | .badgerAudit => Sys2Proof.Machine.execBadgerAudit s
  | .pfcRepeatTimer port prio => Sys2Proof.Machine.execPfcRepeatTimer port prio s
  | .pfcFrameReceive port classes quanta => Sys2Proof.Machine.execPfcFrameReceive port classes quanta s
  | .pfcPauseExpiry port prio => Sys2Proof.Machine.execPfcPauseExpiry port prio s
  | .gateEntryChange port => Sys2Proof.Machine.execGateEntryChange port s
  | .preemptVerifyAttempt port good => Sys2Proof.Machine.execPreemptVerifyAttempt port good s
  | .streamGateEntryChange gate => Sys2Proof.Machine.execStreamGateEntryChange gate s
  | .edgeQueueTransfer chan => Sys2Proof.Machine.execEdgeQueueTransfer chan s
  | .timeCycleTick => Sys2Proof.Machine.execTimeCycleTick s
  | .compareFire tb unit => Sys2Proof.Machine.execCompareFire tb unit s
  | .captureEdge source rising => Sys2Proof.Machine.execCaptureEdge source rising s
  | .captureRearm init tb unit value => Sys2Proof.Machine.execCaptureRearm init tb unit value s
  | .tbLatchWrite init value => Sys2Proof.Machine.execTbLatchWrite init value s
  | .ppsPulseEnd k => Sys2Proof.Machine.execPpsPulseEnd k s
  | .gptpSyncReceive slot port off steps gm ts => Sys2Proof.Machine.execGptpSyncReceive slot port off steps gm ts s
  | .gptpSyncTxTimer slot port => Sys2Proof.Machine.execGptpSyncTxTimer slot port s
  | .gptpSyncTimeout slot => Sys2Proof.Machine.execGptpSyncTimeout slot s
  | .gptpAnnounceReceive slot port prio1 quality prio2 gm steps => Sys2Proof.Machine.execGptpAnnounceReceive slot port prio1 quality prio2 gm steps s
  | .gptpPdelayTimer port => Sys2Proof.Machine.execGptpPdelayTimer port s
  | .gptpPdelayResponse port neighbour delay ratio ts => Sys2Proof.Machine.execGptpPdelayResponse port neighbour delay ratio ts s
  | .gptpPdelayRequestRx port => Sys2Proof.Machine.execGptpPdelayRequestRx port s
  | .edgeFrameReceive chan kind flags ctrl ident prio vcid data ago err => Sys2Proof.Machine.execEdgeFrameReceive chan kind flags ctrl ident prio vcid data ago err s
  | .edgeFrameToVat chan => Sys2Proof.Machine.execEdgeFrameToVat chan s
  | .edgeIntegrationComplete chan => Sys2Proof.Machine.execEdgeIntegrationComplete chan s
  | .canTxAttempt chan => Sys2Proof.Machine.execCanTxAttempt chan s
  | .canTxAttemptEnd chan result kind dataPhase => Sys2Proof.Machine.execCanTxAttemptEnd chan result kind dataPhase s
  | .busOffRecovery chan => Sys2Proof.Machine.execBusOffRecovery chan s
  | .ltWindowExpiry chan => Sys2Proof.Machine.execLtWindowExpiry chan s
  | .linSlotStart chan => Sys2Proof.Machine.execLinSlotStart chan s
  | .linResponseTimeout chan => Sys2Proof.Machine.execLinResponseTimeout chan s
  | .linHeaderReceive chan ident good => Sys2Proof.Machine.execLinHeaderReceive chan ident good s
  | .linStuckDominant chan => Sys2Proof.Machine.execLinStuckDominant chan s
  | .frSlot ctl slot cycle => Sys2Proof.Machine.execFrSlot ctl slot cycle s
  | .frPocChange ctl poc => Sys2Proof.Machine.execFrPocChange ctl poc s
  | .t1sTxOpportunity chan fits collisions => Sys2Proof.Machine.execT1sTxOpportunity chan fits collisions s
  | .t1sBeaconTimeout chan => Sys2Proof.Machine.execT1sBeaconTimeout chan s
  | .t1sJabber chan => Sys2Proof.Machine.execT1sJabber chan s
  | .tmcFrame cluster inbound => Sys2Proof.Machine.execTmcFrame cluster inbound s
  | .trxFaultPersist chan => Sys2Proof.Machine.execTrxFaultPersist chan s
  | .gwCopyProcess => Sys2Proof.Machine.execGwCopyProcess s
  | .gwPressCompletion => Sys2Proof.Machine.execGwPressCompletion s
  | .gwPressTimeout num => Sys2Proof.Machine.execGwPressTimeout num s
  | .batchCloseTimer tunnel => Sys2Proof.Machine.execBatchCloseTimer tunnel s
  | .fvSaveTimer => Sys2Proof.Machine.execFvSaveTimer s
  | .fvReservationCommit index => Sys2Proof.Machine.execFvReservationCommit index s
  | .portCJob => Sys2Proof.Machine.execPortCJob s
  | .pcsConditionChange port lock laneLock localFault remoteFault errs corrected uncorrected => Sys2Proof.Machine.execPcsConditionChange port lock laneLock localFault remoteFault errs corrected uncorrected s
  | .linkUpHoldExpiry port => Sys2Proof.Machine.execLinkUpHoldExpiry port s
  | .linkDownHoldExpiry port => Sys2Proof.Machine.execLinkDownHoldExpiry port s
  | .anControlWord port word link duplex speed => Sys2Proof.Machine.execAnControlWord port word link duplex speed s
  | .mdioTransactionComplete bus value => Sys2Proof.Machine.execMdioTransactionComplete bus value s
  | .tc10StatusPoll lane value => Sys2Proof.Machine.execTc10StatusPoll lane value s
  | .tc10AckTimeout lane => Sys2Proof.Machine.execTc10AckTimeout lane s
  | .phyWakeInput lane => Sys2Proof.Machine.execPhyWakeInput lane s
  | .serviceRequest => Sys2Proof.Machine.execServiceRequest s
  | .servicePoll => Sys2Proof.Machine.execServicePoll s
  | .serviceAck => Sys2Proof.Machine.execServiceAck s
  | .serviceLinkLost => Sys2Proof.Machine.execServiceLinkLost s
  | .mkaFrameReceive port st an sak peer txSsci rxSsci salt => Sys2Proof.Machine.execMkaFrameReceive port st an sak peer txSsci rxSsci salt s
  | .mkaHelloTimer port lost => Sys2Proof.Machine.execMkaHelloTimer port lost s
  | .pressTurn host fault => Sys2Proof.Machine.execPressTurn host fault s
  | .pressDescriptorComplete cls => Sys2Proof.Machine.execPressDescriptorComplete cls s
  | .keySlotScrub slot disturb => Sys2Proof.Machine.execKeySlotScrub slot disturb s
  | .tamperDetect source => Sys2Proof.Machine.execTamperDetect source s
  | .tamperRederive => Sys2Proof.Machine.execTamperRederive s
  | .pressLockExpiry => Sys2Proof.Machine.execPressLockExpiry s
  | .trngHealthFail => Sys2Proof.Machine.execTrngHealthFail s
  | .trngRecovered => Sys2Proof.Machine.execTrngRecovered s
  | .drbgReseed => Sys2Proof.Machine.execDrbgReseed s
  | .persistSlotStore slot => Sys2Proof.Machine.execPersistSlotStore slot s
  | .vselSettleExpiry => Sys2Proof.Machine.execVselSettleExpiry s
  | .wakeDetect source matcher channel periods => Sys2Proof.Machine.execWakeDetect source matcher channel periods s
  | .sleepEntryStart => Sys2Proof.Machine.execSleepEntryStart s
  | .sleepDrainComplete => Sys2Proof.Machine.execSleepDrainComplete s
  | .sleepDrainTimeout => Sys2Proof.Machine.execSleepDrainTimeout s
  | .sleepSaveComplete => Sys2Proof.Machine.execSleepSaveComplete s
  | .inhReleaseAfterFall => Sys2Proof.Machine.execInhReleaseAfterFall s
  | .sleepExitRailsGood => Sys2Proof.Machine.execSleepExitRailsGood s
  | .sleepExitComplete periods duration noRef fails => Sys2Proof.Machine.execSleepExitComplete periods duration noRef fails s
  | .levelRestore => Sys2Proof.Machine.execLevelRestore s
  | .falseWakeTimeout => Sys2Proof.Machine.execFalseWakeTimeout s
  | .nmFrameReceive port => Sys2Proof.Machine.execNmFrameReceive port s
  | .nmBusTimeout port => Sys2Proof.Machine.execNmBusTimeout port s
  | .nmNodeExpiry port node => Sys2Proof.Machine.execNmNodeExpiry port node s
  | .nmTxCycle port => Sys2Proof.Machine.execNmTxCycle port s
  | .nmHoldExpiry port => Sys2Proof.Machine.execNmHoldExpiry port s
  | .nmCommitStart => Sys2Proof.Machine.execNmCommitStart s
  | .linSlaveSilenceTimeout chan => Sys2Proof.Machine.execLinSlaveSilenceTimeout chan s
  | .offenderTimeout port node => Sys2Proof.Machine.execOffenderTimeout port node s
  | .pairLinkUp => Sys2Proof.Machine.execPairLinkUp s
  | .pairLinkDown => Sys2Proof.Machine.execPairLinkDown s
  | .pairHelloTimer => Sys2Proof.Machine.execPairHelloTimer s
  | .pairHelloReceive dev peer ident fwrev hbUs detectUs ckptMs respMs active prefer fenced epoch => Sys2Proof.Machine.execPairHelloReceive dev peer ident fwrev hbUs detectUs ckptMs respMs active prefer fenced epoch s
  | .heartbeatTimer => Sys2Proof.Machine.execHeartbeatTimer s
  | .owlChallengeRefresh => Sys2Proof.Machine.execOwlChallengeRefresh s
  | .owlResponseWrite => Sys2Proof.Machine.execOwlResponseWrite s
  | .owlHeartbeatReceive path port data => Sys2Proof.Machine.execOwlHeartbeatReceive path port data s
  | .owlLastGaspReceive path port data => Sys2Proof.Machine.execOwlLastGaspReceive path port data s
  | .owlTakeoverReceive path port data => Sys2Proof.Machine.execOwlTakeoverReceive path port data s
  | .owlBeaconReceive path port data => Sys2Proof.Machine.execOwlBeaconReceive path port data s
  | .pathSilence path => Sys2Proof.Machine.execPathSilence path s
  | .responseStale => Sys2Proof.Machine.execResponseStale s
  | .takeoverForwarding => Sys2Proof.Machine.execTakeoverForwarding s
  | .takeoverRepeat => Sys2Proof.Machine.execTakeoverRepeat s
  | .fenceInRise level => Sys2Proof.Machine.execFenceInRise level s
  | .fenceRoostEntry => Sys2Proof.Machine.execFenceRoostEntry s
  | .pairCheckpointTimer => Sys2Proof.Machine.execPairCheckpointTimer s
  | .inSyncLapse => Sys2Proof.Machine.execInSyncLapse s
  | .handoverAckReceive => Sys2Proof.Machine.execHandoverAckReceive s
  | .pairSleepReceive target => Sys2Proof.Machine.execPairSleepReceive target s
  | .pairSleepAckTimeout => Sys2Proof.Machine.execPairSleepAckTimeout s
  | .pairSleepAbortReceive => Sys2Proof.Machine.execPairSleepAbortReceive s
  | .pairRejoinTimeout => Sys2Proof.Machine.execPairRejoinTimeout s
  | .pairDissolveReceive => Sys2Proof.Machine.execPairDissolveReceive s
  | .beaconTimer => Sys2Proof.Machine.execBeaconTimer s
  | .frerRecoveryTimeout stream => Sys2Proof.Machine.execFrerRecoveryTimeout stream s
  | .frerLatentCheck stream => Sys2Proof.Machine.execFrerLatentCheck stream s
  | .frerLatentReset stream => Sys2Proof.Machine.execFrerLatentReset stream s
  | .lockstepMismatch bad mask => Sys2Proof.Machine.execLockstepMismatch bad mask s
  | .controllerCheckpointWrite => Sys2Proof.Machine.execControllerCheckpointWrite s
  | .chainDataReceive port => Sys2Proof.Machine.execChainDataReceive port s
  | .chainDataAckReceive port => Sys2Proof.Machine.execChainDataAckReceive port s
  | .chainRetransmitTimer port part block => Sys2Proof.Machine.execChainRetransmitTimer port part block s
  | .chainArmReceive port => Sys2Proof.Machine.execChainArmReceive port s
  | .chainConfirmReceive port => Sys2Proof.Machine.execChainConfirmReceive port s
  | .chainAbortReceive port => Sys2Proof.Machine.execChainAbortReceive port s
  | .chainStatusReceive port => Sys2Proof.Machine.execChainStatusReceive port s
  | .chainCtrlAckReceive port => Sys2Proof.Machine.execChainCtrlAckReceive port s
  | .updStatusTimer => Sys2Proof.Machine.execUpdStatusTimer s
  | .armRepeatTimer => Sys2Proof.Machine.execArmRepeatTimer s
  | .updateActivation => Sys2Proof.Machine.execUpdateActivation s
  | .trialWindowExpiry => Sys2Proof.Machine.execTrialWindowExpiry s
  | .confirmRepeatTimer => Sys2Proof.Machine.execConfirmRepeatTimer s
  | .incompleteCheck => Sys2Proof.Machine.execIncompleteCheck s
  | .packageReadbackComplete flashErr => Sys2Proof.Machine.execPackageReadbackComplete flashErr s
  | .moleVisit ce ue fault again => Sys2Proof.Machine.execMoleVisit ce ue fault again s
  | .scratchZeroComplete bank => Sys2Proof.Machine.execScratchZeroComplete bank s
  | .scrOwnWrite init bank value => Sys2Proof.Machine.execScrOwnWrite init bank value s
  | .traceWriterDrain => Sys2Proof.Machine.execTraceWriterDrain s
  | .traceRdWrite init value => Sys2Proof.Machine.execTraceRdWrite init value s
  | .alarmClear init value => Sys2Proof.Machine.execAlarmClear init value s
  | .cmdDeviceInfo mb => Sys2Proof.Machine.execCmdDeviceInfo mb s
  | .cmdNoticeSubscribe mb => Sys2Proof.Machine.execCmdNoticeSubscribe mb s
  | .cmdEventSpiMask mb => Sys2Proof.Machine.execCmdEventSpiMask mb s
  | .cmdDeviceReset mb => Sys2Proof.Machine.execCmdDeviceReset mb s
  | .cmdServiceAuth mb => Sys2Proof.Machine.execCmdServiceAuth mb s
  | .cmdServiceEnd mb => Sys2Proof.Machine.execCmdServiceEnd mb s
  | .cmdBootImage mb => Sys2Proof.Machine.execCmdBootImage mb s
  | .cmdSetStatus mb => Sys2Proof.Machine.execCmdSetStatus mb s
  | .cmdSetCopy mb => Sys2Proof.Machine.execCmdSetCopy mb s
  | .cmdSetLoad mb => Sys2Proof.Machine.execCmdSetLoad mb s
  | .cmdSetSwap mb => Sys2Proof.Machine.execCmdSetSwap mb s
  | .cmdSetSwapCancel mb => Sys2Proof.Machine.execCmdSetSwapCancel mb s
  | .cmdCounterSnapshot mb => Sys2Proof.Machine.execCmdCounterSnapshot mb s
  | .cmdCounterRead mb => Sys2Proof.Machine.execCmdCounterRead mb s
  | .cmdCounterClear mb => Sys2Proof.Machine.execCmdCounterClear mb s
  | .cmdLogConfig mb => Sys2Proof.Machine.execCmdLogConfig mb s
  | .cmdLogRead mb => Sys2Proof.Machine.execCmdLogRead mb s
  | .cmdParseLoad mb => Sys2Proof.Machine.execCmdParseLoad mb s
  | .cmdParsePort mb => Sys2Proof.Machine.execCmdParsePort mb s
  | .cmdParseDevice mb => Sys2Proof.Machine.execCmdParseDevice mb s
  | .cmdParseTry mb => Sys2Proof.Machine.execCmdParseTry mb s
  | .cmdPickerStatus mb => Sys2Proof.Machine.execCmdPickerStatus mb s
  | .cmdPickerRetire mb => Sys2Proof.Machine.execCmdPickerRetire mb s
  | .cmdPickerReadmit mb pass => Sys2Proof.Machine.execCmdPickerReadmit mb pass s
  | .cmdClsProfile mb => Sys2Proof.Machine.execCmdClsProfile mb s
  | .cmdClsPort mb => Sys2Proof.Machine.execCmdClsPort mb s
  | .cmdEmWrite mb => Sys2Proof.Machine.execCmdEmWrite mb s
  | .cmdEmRead mb => Sys2Proof.Machine.execCmdEmRead mb s
  | .cmdActionWrite mb => Sys2Proof.Machine.execCmdActionWrite mb s
  | .cmdTernaryWrite mb => Sys2Proof.Machine.execCmdTernaryWrite mb s
  | .cmdZoneWrite mb => Sys2Proof.Machine.execCmdZoneWrite mb s
  | .cmdAnomalyWrite mb => Sys2Proof.Machine.execCmdAnomalyWrite mb s
  | .cmdVlanWrite mb => Sys2Proof.Machine.execCmdVlanWrite mb s
  | .cmdMcastWrite mb => Sys2Proof.Machine.execCmdMcastWrite mb s
  | .cmdMacControl mb => Sys2Proof.Machine.execCmdMacControl mb s
  | .cmdFoxPort mb => Sys2Proof.Machine.execCmdFoxPort mb s
  | .cmdMirrorSession mb => Sys2Proof.Machine.execCmdMirrorSession mb s
  | .cmdClsDevice mb => Sys2Proof.Machine.execCmdClsDevice mb s
  | .cmdClsCounters mb => Sys2Proof.Machine.execCmdClsCounters mb s
  | .cmdVatQueue mb => Sys2Proof.Machine.execCmdVatQueue mb s
  | .cmdVatPort mb => Sys2Proof.Machine.execCmdVatPort mb s
  | .cmdVatStatus mb => Sys2Proof.Machine.execCmdVatStatus mb s
  | .cmdVatQueueStatus mb => Sys2Proof.Machine.execCmdVatQueueStatus mb s
  | .cmdVatPeek mb => Sys2Proof.Machine.execCmdVatPeek mb s
  | .cmdVatPortReset mb => Sys2Proof.Machine.execCmdVatPortReset mb s
  | .cmdVatBadger mb => Sys2Proof.Machine.execCmdVatBadger mb s
  | .cmdSchedPort mb => Sys2Proof.Machine.execCmdSchedPort mb s
  | .cmdGateList mb => Sys2Proof.Machine.execCmdGateList mb s
  | .cmdPreempt mb => Sys2Proof.Machine.execCmdPreempt mb s
  | .cmdSchedStatus mb => Sys2Proof.Machine.execCmdSchedStatus mb s
  | .cmdStreamFilter mb => Sys2Proof.Machine.execCmdStreamFilter mb s
  | .cmdStreamGate mb => Sys2Proof.Machine.execCmdStreamGate mb s
  | .cmdMeter mb => Sys2Proof.Machine.execCmdMeter mb s
  | .cmdPoliceCounters mb => Sys2Proof.Machine.execCmdPoliceCounters mb s
  | .cmdPoliceUnlatch mb => Sys2Proof.Machine.execCmdPoliceUnlatch mb s
  | .cmdEdgeQueues mb => Sys2Proof.Machine.execCmdEdgeQueues mb s
  | .cmdTbEnable mb => Sys2Proof.Machine.execCmdTbEnable mb s
  | .cmdTbStep mb => Sys2Proof.Machine.execCmdTbStep mb s
  | .cmdTbRate mb => Sys2Proof.Machine.execCmdTbRate mb s
  | .cmdTbReset mb => Sys2Proof.Machine.execCmdTbReset mb s
  | .cmdTbStatus mb => Sys2Proof.Machine.execCmdTbStatus mb s
  | .cmdGptpDomain mb => Sys2Proof.Machine.execCmdGptpDomain mb s
  | .cmdGptpPort mb => Sys2Proof.Machine.execCmdGptpPort mb s
  | .cmdGptpStatus mb => Sys2Proof.Machine.execCmdGptpStatus mb s
  | .cmdEdgeConfig mb => Sys2Proof.Machine.execCmdEdgeConfig mb s
  | .cmdEdgeState mb => Sys2Proof.Machine.execCmdEdgeState mb s
  | .cmdEdgeStatus mb => Sys2Proof.Machine.execCmdEdgeStatus mb s
  | .cmdEdgeFilter mb => Sys2Proof.Machine.execCmdEdgeFilter mb s
  | .cmdEdgeRetire mb => Sys2Proof.Machine.execCmdEdgeRetire mb s
  | .cmdEdgeReadmit mb => Sys2Proof.Machine.execCmdEdgeReadmit mb s
  | .cmdLinTable mb => Sys2Proof.Machine.execCmdLinTable mb s
  | .cmdFrConfig mb => Sys2Proof.Machine.execCmdFrConfig mb s
  | .cmdT1sPlca mb => Sys2Proof.Machine.execCmdT1sPlca mb s
  | .cmdTmc mb => Sys2Proof.Machine.execCmdTmc mb s
  | .cmdGwTunnel mb => Sys2Proof.Machine.execCmdGwTunnel mb s
  | .cmdGwProgram mb => Sys2Proof.Machine.execCmdGwProgram mb s
  | .cmdGwSecoc mb => Sys2Proof.Machine.execCmdGwSecoc mb s
  | .cmdGwFreshness mb => Sys2Proof.Machine.execCmdGwFreshness mb s
  | .cmdGwStatus mb => Sys2Proof.Machine.execCmdGwStatus mb s
  | .cmdGwCounters mb => Sys2Proof.Machine.execCmdGwCounters mb s
  | .cmdLaneMode mb => Sys2Proof.Machine.execCmdLaneMode mb s
  | .cmdPortConfig mb => Sys2Proof.Machine.execCmdPortConfig mb s
  | .cmdPortState mb => Sys2Proof.Machine.execCmdPortState mb s
  | .cmdPortStatus mb => Sys2Proof.Machine.execCmdPortStatus mb s
  | .cmdPortRetire mb => Sys2Proof.Machine.execCmdPortRetire mb s
  | .cmdPortReadmit mb => Sys2Proof.Machine.execCmdPortReadmit mb s
  | .cmdPhyBind mb => Sys2Proof.Machine.execCmdPhyBind mb s
  | .cmdMdio mb => Sys2Proof.Machine.execCmdMdio mb s
  | .cmdTc10 mb => Sys2Proof.Machine.execCmdTc10 mb s
  | .cmdMacsecPort mb => Sys2Proof.Machine.execCmdMacsecPort mb s
  | .cmdMacsecTxsa mb => Sys2Proof.Machine.execCmdMacsecTxsa mb s
  | .cmdMacsecRxsc mb => Sys2Proof.Machine.execCmdMacsecRxsc mb s
  | .cmdMacsecRxsa mb => Sys2Proof.Machine.execCmdMacsecRxsa mb s
  | .cmdMacsecStatus mb => Sys2Proof.Machine.execCmdMacsecStatus mb s
  | .cmdKeyWrite mb => Sys2Proof.Machine.execCmdKeyWrite mb s
  | .cmdKeyGenerate mb => Sys2Proof.Machine.execCmdKeyGenerate mb s
  | .cmdKeyDerive mb => Sys2Proof.Machine.execCmdKeyDerive mb s
  | .cmdKeyClear mb => Sys2Proof.Machine.execCmdKeyClear mb s
  | .cmdKeyInfo mb => Sys2Proof.Machine.execCmdKeyInfo mb s
  | .cmdPressRun mb => Sys2Proof.Machine.execCmdPressRun mb s
  | .cmdPressLock mb => Sys2Proof.Machine.execCmdPressLock mb s
  | .cmdPressStatus mb => Sys2Proof.Machine.execCmdPressStatus mb s
  | .cmdAsymVerify mb => Sys2Proof.Machine.execCmdAsymVerify mb s
  | .cmdAnchor mb => Sys2Proof.Machine.execCmdAnchor mb s
  | .cmdLifeCycle mb => Sys2Proof.Machine.execCmdLifeCycle mb s
  | .cmdTamper mb => Sys2Proof.Machine.execCmdTamper mb s
  | .cmdPowerLevel mb => Sys2Proof.Machine.execCmdPowerLevel mb s
  | .cmdSleepEnter mb => Sys2Proof.Machine.execCmdSleepEnter mb s
  | .cmdSleepExit mb => Sys2Proof.Machine.execCmdSleepExit mb s
  | .cmdWakeConfig mb => Sys2Proof.Machine.execCmdWakeConfig mb s
  | .cmdWakeMatcher mb => Sys2Proof.Machine.execCmdWakeMatcher mb s
  | .cmdNmBus mb => Sys2Proof.Machine.execCmdNmBus mb s
  | .cmdNmControl mb => Sys2Proof.Machine.execCmdNmControl mb s
  | .cmdStayawakeLog mb => Sys2Proof.Machine.execCmdStayawakeLog mb s
  | .cmdPairConfig mb => Sys2Proof.Machine.execCmdPairConfig mb s
  | .cmdPairStatus mb => Sys2Proof.Machine.execCmdPairStatus mb s
  | .cmdPairHandover mb => Sys2Proof.Machine.execCmdPairHandover mb s
  | .cmdPairFence mb => Sys2Proof.Machine.execCmdPairFence mb s
  | .cmdPairCheckpoint mb => Sys2Proof.Machine.execCmdPairCheckpoint mb s
  | .cmdLockstepStatus mb => Sys2Proof.Machine.execCmdLockstepStatus mb s
  | .cmdLogicalPort mb => Sys2Proof.Machine.execCmdLogicalPort mb s
  | .cmdFrerStream mb => Sys2Proof.Machine.execCmdFrerStream mb s
  | .cmdFrerBind mb => Sys2Proof.Machine.execCmdFrerBind mb s
  | .cmdFrerCounters mb => Sys2Proof.Machine.execCmdFrerCounters mb s
  | .cmdFrerReset mb => Sys2Proof.Machine.execCmdFrerReset mb s
  | .cmdUpdStatus mb => Sys2Proof.Machine.execCmdUpdStatus mb s
  | .cmdUpdManifest mb => Sys2Proof.Machine.execCmdUpdManifest mb s
  | .cmdUpdData mb => Sys2Proof.Machine.execCmdUpdData mb s
  | .cmdUpdChain mb => Sys2Proof.Machine.execCmdUpdChain mb s
  | .cmdUpdArm mb => Sys2Proof.Machine.execCmdUpdArm mb s
  | .cmdUpdConfirm mb => Sys2Proof.Machine.execCmdUpdConfirm mb s
  | .cmdUpdAbort mb => Sys2Proof.Machine.execCmdUpdAbort mb s
  | .cmdUpdVehicle mb => Sys2Proof.Machine.execCmdUpdVehicle mb s
  | .cmdSelftestRun mb pass detail => Sys2Proof.Machine.execCmdSelftestRun mb pass detail s
  | .cmdBistResult mb => Sys2Proof.Machine.execCmdBistResult mb s
  | .cmdRepairList mb => Sys2Proof.Machine.execCmdRepairList mb s
  | .cmdRepairBurn mb good => Sys2Proof.Machine.execCmdRepairBurn mb good s
  | .cmdScratchOwn mb => Sys2Proof.Machine.execCmdScratchOwn mb s
  | .cmdScratchStatus mb => Sys2Proof.Machine.execCmdScratchStatus mb s
  | .cmdMoleConfig mb => Sys2Proof.Machine.execCmdMoleConfig mb s
  | .pciePerstRelease => Sys2Proof.Machine.execPciePerstRelease s
  | .handoverAckTimeout => Sys2Proof.Machine.execHandoverAckTimeout s
  | .pairSleepAckReceive => Sys2Proof.Machine.execPairSleepAckReceive s
  | .pairMb3FrameReceive kind data => Sys2Proof.Machine.execPairMb3FrameReceive kind data s
  | .shadowReadyDeadline => Sys2Proof.Machine.execShadowReadyDeadline s
  | .tamperSourceClear source => Sys2Proof.Machine.execTamperSourceClear source s
  | .suppressionEnd port node => Sys2Proof.Machine.execSuppressionEnd port node s

end Sys2Proof.Machine
end

