-- ==== Sys2Proof/Safety.lean ====
section
/-! DEFINITION. The terms that statements use: a command that answers, a mailbox that is served, states that the fuses and
the memories allow. -/

namespace Sys2Proof

open Machine

/-- The command answers the next state `t`. -/
def Gives (c : Instr) (s t : State) : Prop := exec c s = .next t

/-- The command answers a next state of which `P` holds. -/
def Ends (c : Instr) (s : State) (P : State → Prop) : Prop := ∃ t, exec c s = .next t ∧ P t

/-- Diesh serves mailbox `mb`, which holds a request of command `code` with these parameters; MB4 has the right it needs
(R106, R109, R110, R504). -/
def Served (mb code target : Nat) (p : Bytes) (s : State) : Prop :=
  (∃ tag, (mbOf mb s).cur = some { mb := mb, cmd := code, tag := tag, target := target, params := p }) ∧
    servesNow mb s = true ∧ (mb = 4 → sessionAllows code s = true)

/-- A command may write the shadow now: it is READY, the device is no standby, no earlier writer waits (R109, R119). -/
def ShadowFree (mb : Nat) (s : State) : Prop :=
  mustWait mb s = false ∧ s.sets.shadow = .ready ∧ s.pair.state ≠ 3

/-- The mailbox command ends with DONE, STATUS OK, this GENERATION and these results, over the state `u` that its effect
leaves (R106, R108). -/
def Answers (c : Instr) (mb gen : Nat) (data : Bytes) (s u : State) : Prop := exec c s = .next (mbDone mb stOk gen data u)

/-- The mailbox command ends with DONE and a status other than OK, and changes nothing else (R110, R113). -/
def Refuses (c : Instr) (mb st : Nat) (s : State) : Prop := exec c s = .next (mbDone mb st s.sets.gen [] s)

/-- What the one-time-programmable memory may hold (R395, R414, R524): a legal life-cycle code, at most 64 wipes burned, at
most 16 field fuses used, and no more repairs than fuses used. -/
def OtpLegal (s : State) : Prop :=
  s.otp.life ≤ 3 ∧ s.otp.tamperCount ≤ 64 ∧ s.otp.fusesUsed ≤ 16 ∧ s.otp.fuses.length ≤ s.otp.fusesUsed

/-- Nothing that is burned is undone (R395, R414, R524): the life cycle, the wipes and the fuses only grow. -/
def OtpGrows (s t : State) : Prop :=
  s.otp.life ≤ t.otp.life ∧ s.otp.tamperCount ≤ t.otp.tamperCount ∧ s.otp.fusesUsed ≤ t.otp.fusesUsed ∧
    s.otp.fuses <+: t.otp.fuses

/-- Picker `p` is at word `w`, of opcode `op`, in its thread `t` of the frame `v`, and may execute it: the unit is in
service, the thread does not stall, fewer than 64 instructions have executed, and no word it needs is bad (R132, R135, R136,
R161, R162). -/
def Fetches (p op w : Nat) (t : Thread) (v : VFrame) (s : State) : Prop :=
  (pickerOf p s).job = some t ∧ (pickerOf p s).state = 0 ∧ frameOf t.fid s = some v ∧ t.stalled = none ∧ t.count < 64 ∧
    wordAt (setOf v.frame.gen s) t.pc = w ∧ opcodeOf w = op ∧ badWord v.frame.gen 0 t.pc s = false ∧
    (op = 4 → badWord v.frame.gen 1 (bits w 38 32) s = false)

/-- Bytes up to the highest offset `e` have arrived, lie before the logical end and inside the window of 512 bytes (R135). -/
def Readable (e : Nat) (t : Thread) (v : VFrame) : Prop :=
  e < 512 ∧ e < v.frame.bytes.length ∧ ∀ l, t.lend = some l → e < l

/-- The command leaves thread `t` on Picker `p` and changes nothing else. -/
def Threads (c : Instr) (p : Nat) (s : State) (t : Thread) : Prop :=
  Gives c s (setPicker p { pickerOf p s with job := some t } s)

/-- HIGH_READ after a read whose highest offset is `e` (R135). -/
def highRead (t : Thread) (e : Nat) : Option Nat := some (match t.high with | some h => max h e | none => e)

/-- A thread after an instruction that writes `v` to register `d` with its flags (R143, R144). -/
def aluThread (t : Thread) (d v : Nat) (c : Bool) : Thread :=
  { t with count := t.count + 1, pc := t.pc + 1, g := t.g.setIfInBounds d (BitVec.ofNat 16 v), z := decide (v % 65536 = 0), c := c }

/-- On TARGET 1 from MB0, with the shadow free, the command answers `data` and changes the shadow by `f` (R109, R119). -/
def SetsShadow (c : Instr) (code : Nat) (p data : Bytes) (f : CfgSet → CfgSet) (s : State) : Prop :=
  ShadowFree 0 s → Served 0 code 1 p s → Answers c 0 (shadowGen s) data s (editShadow f s)

/-- On TARGET 0, from any mailbox, the command answers `data` and changes nothing else (R109). -/
def ReadsActive (c : Nat → Instr) (code : Nat) (p data : Bytes) (s : State) : Prop :=
  ∀ mb < 5, Served mb code 0 p s → Answers (c mb) mb s.sets.gen data s s

/-- A command that uses no set answers `data` over the state `u`, whatever its TARGET (R109). -/
def Serves (c : Instr) (mb code : Nat) (p data : Bytes) (s u : State) : Prop :=
  ∀ t, Served mb code t p s → Answers c mb s.sets.gen data s u

/-- As `Serves`, for a command that can raise the configured ingress rate: EV56 OVER_COMPLEMENT follows when it does so
beyond the complement of the level (R432). -/
def ServesOver (c : Instr) (mb code : Nat) (p data : Bytes) (s u : State) : Prop :=
  ∀ t, Served mb code t p s → exec c s = .next (overCheck (fun _ => mbDone mb stOk s.sets.gen data u) s)

/-- As `Serves`, for a command that can change which ports are UP: the logical ports follow (R483). -/
def ServesPorts (c : Instr) (mb code : Nat) (p data : Bytes) (s u : State) : Prop :=
  ∀ t, Served mb code t p s → exec c s = .next (membersChanged s (mbDone mb stOk s.sets.gen data u))

/-- As `ServesPorts`, with EV56 OVER_COMPLEMENT where the configured rate rises beyond the complement (R432). -/
def ServesLanes (c : Instr) (mb code : Nat) (p data : Bytes) (s u : State) : Prop :=
  ∀ t, Served mb code t p s → exec c s = .next (membersChanged s (overCheck (fun _ => mbDone mb stOk s.sets.gen data u) s))

/-- A command that uses no set is taken up, and its answer comes later: the state is then `u` and the mailbox stays BUSY. -/
def Begins (c : Instr) (mb code : Nat) (p : Bytes) (s u : State) : Prop :=
  ∀ t, Served mb code t p s → exec c s = .next u

/-- The command is refused with a status other than OK, whatever its TARGET, and changes nothing else (R110, R113). -/
def Declines (c : Instr) (mb code : Nat) (p : Bytes) (st : Nat) (s : State) : Prop :=
  ∀ t, Served mb code t p s → Refuses c mb st s

end Sys2Proof
end

