-- ==== Sys2Proof/Certificates/Slice0/Obligations.lean ====
section
/-! DEFINITION. The statements for the provers, by family (OBLIGATIONS.json names the rule each one formalises). -/

open Sys2Proof Sys2Proof.Machine

/-- For every command c and state s, step of s with c at the front of its queue is exec c on s with the queue's rest;
on an empty queue the block idles. The queue and the idling are the model's (log entries 6 and 8). (derived:
spec/00_scope.md) -/
def Obligations.StepRunsTheFrontCommand : Prop :=
  (∀ (c : Instr) (rest : List Instr) (s : State),
    step { s with pending := c :: rest } = exec c { s with pending := rest }) ∧
  (∀ s : State, step { s with pending := [] } = .next { s with pending := [] })

/-- Right after the power-on reset of Den, PORST_N is low and holds the device in reset, no start runs, BOOT_STATUS
and BOOT_CAUSE read zero, FWREV reads zero, no cause bit of any event is set, no host ring is enabled, every mailbox
is EMPTY, the fuses are legal, and the memories are in canonical form with nothing listed. (derived:
spec/02_package_balls_power_clocks.md; spec/04_diesh_mailboxes_sets_events.md;
spec/03_host_attachments_and_bridging.md) -/
def Obligations.ResetLeavesNothingRunning : Prop :=
  State.reset.power.porst = false ∧ State.reset.power.hold = .porst ∧ State.reset.power.phase = .off ∧
  regWord 0x100 State.reset = some 0 ∧ regWord 0x104 State.reset = some 0 ∧ regWord 0x4 State.reset = some 0 ∧
  (∀ ev, causeOf ev State.reset = 0) ∧ (∀ tx n, (ringOf tx n State.reset).enable = false) ∧
  (∀ k, (mbOf k State.reset).state = .empty) ∧ OtpLegal State.reset ∧ State.reset.pending = []

/-- For every state whose life-cycle code, wipe count and field fuses are legal (at most 3, 64 and 16, no more repairs
than fuses used), any step that answers a next state leaves them legal. (derived: spec/13_cellar_and_press.md;
spec/17_selftest_scratchpads_trouble.md) -/
def Obligations.StepKeepsFusesLegal : Prop :=
  ∀ s t : State, OtpLegal s → step s = .next t → OtpLegal t

/-- Whatever the state and the command, a step that answers a next state never lowers the life-cycle code, the number
of wipes burned (while it is at most 64) or the number of fuses used, keeps every field fuse burned, and leaves the
queue's rest as it was: only the front command is gone. (derived: spec/13_cellar_and_press.md;
spec/17_selftest_scratchpads_trouble.md) -/
def Obligations.StepOnlyBurnsFuses : Prop :=
  ∀ s t : State, s.otp.tamperCount ≤ 64 → step s = .next t → OtpGrows s t ∧ t.pending = s.pending.tail

/-- The one-time-programmable memory right after reset is legal: OtpLegal holds of State.reset. (derived:
spec/13_cellar_and_press.md) -/
def Obligations.ResetFusesLegal : Prop := OtpLegal State.reset

/-- Every byte memory in canonical form stays in canonical form under a write of a byte string and under clearing a
range; after the write the bytes written read as written and every other byte reads as before; after clearing, the
range reads as a byte that nothing has written and every other byte reads as before. What such a byte reads as is the
model's choice (log entry 9). (derived: spec/03_host_attachments_and_bridging.md;
spec/17_selftest_scratchpads_trouble.md) -/
def Obligations.MemoryOperationsKeepForm : Prop :=
  ∀ (m : Machine.Memory) (a : Nat) (d : Bytes), Memory.wf m = true →
    Memory.wf (Memory.writeN m a d) = true ∧
    Memory.readN (Memory.writeN m a d) a d.length = d ∧
    (∀ b, b < a ∨ a + d.length ≤ b → Memory.read (Memory.writeN m a d) b = Memory.read m b) ∧
    ∀ n, Memory.wf (Memory.clear m a n) = true ∧
      ∀ b, Memory.read (Memory.clear m a n) b = if a ≤ b ∧ b < a + n then Memory.blank else Memory.read m b

/-- DEN_POWER_ON_RESET, PORST_N_ASSERT and VDD_AON_LOSS answer, in every state, a next state with PORST_N held as the
reason of the reset, no start under way, BOOT_CAUSE (but for an absent crystal at power-on) and BOOT_COUNT zero, READY
low and FAULT_N released, every configuration set, table, buffer, key slot, counter, event and mailbox at its reset
value, and OTP and flash as they were. That flash survives is the model's reading (log entry 2). (derived:
spec/02_package_balls_power_clocks.md) -/
def Obligations.DenResetsKeepOnlyOtpAndFlash : Prop :=
  ∀ s : State,
    (∀ xtal, Ends (.denPowerOnReset xtal) s (fun t =>
      t.power.hold = .porst ∧ t.power.phase = .off ∧ t.power.railGood = 0x40 ∧ t.power.xtal32 = xtal ∧
      t.boot.cause = (if xtal then 0 else 0x20) ∧ t.otp = s.otp ∧ t.flash = s.flash ∧ t.ctl = State.reset.ctl)) ∧
    (∀ c ∈ [Instr.porstNAssert, Instr.vddAonLoss], Ends c s (fun t =>
      t.power.hold = .porst ∧ t.power.phase = .off ∧ t.power.porst = false ∧ t.power.ready = false ∧ t.power.faultN = false ∧
      t.boot = State.reset.boot ∧ t.sets = State.reset.sets ∧ t.vat = State.reset.vat ∧ t.cellar = State.reset.cellar ∧
      t.ctl = State.reset.ctl ∧ t.host = State.reset.host ∧ t.sleep = State.reset.sleep ∧ t.alarms = State.reset.alarms ∧
      t.otp = s.otp ∧ t.flash = s.flash))

/-- PORST_N_RELEASE with VDD_AON good latches the strap code and waits for the rails, recording a reserved code;
ALL_RAILS_GOOD counts the boot and starts the PLLs; PLL_LOCK_COMPLETE starts BIST at STAGE 1; POWER_UP_BIST_COMPLETE
without a fatal record, with a root, records the run and enters the ROM; BOOT_IMAGE_LOAD_COMPLETE with a flash bank
found starts Diesh at STAGE 5 if it verifies and fails the boot with its FAIL_CODE if not; DIESH_INIT_COMPLETE ends at
STAGE 6 with READY high, FAULT_N released, generation 1 and the shadow READY. (derived:
spec/02_package_balls_power_clocks.md; spec/04_diesh_mailboxes_sets_events.md;
spec/17_selftest_scratchpads_trouble.md) -/
def Obligations.StartRunsInOrder : Prop :=
  (∀ (boot : Nat) (s : State), boot < 8 → s.power.porst = false → s.power.railGood.getLsbD 6 = true →
    ¬(boot = 7 ∧ s.otp.life = 0) → Ends (.porstNRelease boot) s (fun t =>
      t.power.porst = true ∧ t.power.hold = .rails ∧ t.power.strap.toNat = boot ∧
      t.boot.cause.getLsbD 0 = (s.boot.cause.getLsbD 0 || boot == 5 || boot == 6) ∧
      t.boot.cause.getLsbD 1 = (s.boot.cause.getLsbD 1 || boot == 7) ∧ t.otp = s.otp ∧ t.ctl = s.ctl)) ∧
  (∀ s : State, s.power.hold = .rails → Ends .allRailsGood s (fun t =>
    t.power.hold = .none ∧ t.power.phase = .pllLock ∧ t.boot.count = min 255 (s.boot.count + 1) ∧
    t.power.strap = s.power.strap ∧ t.otp = s.otp)) ∧
  (∀ s : State, s.power.phase = .pllLock → Gives .pllLockComplete s
    { s with power := { s.power with phase := .bist }, boot := { s.boot with stage := 1 } }) ∧
  (∀ (duration noRef : Nat) (s : State), s.power.phase = .bist → s.otp.root.isSome = true →
    Ends (.powerUpBistComplete duration noRef [] [] true) s (fun t =>
      t.power.phase = .rom ∧ t.boot.stage = 2 ∧ t.test.bist.outcome = 0 ∧ t.test.bist.duration = duration ∧ t.test.bist.run = 0)) ∧
  (∀ s : State, s.power.phase = .rom → s.power.strap = 0 → s.otp.life ≠ 3 → s.boot.found = true → Ends .bootImageLoadComplete s (fun t =>
    t.otp = s.otp ∧ (bankVerify s.boot.bank s ≠ 0 → t = bootFailed (bankVerify s.boot.bank s) s) ∧
    (bankVerify s.boot.bank s = 0 → t.power.phase = .dieshInit ∧ t.boot.stage = 5 ∧ t.boot.rev = BitVec.ofNat 32 (bankRev s.boot.bank s)))) ∧
  (∀ s : State, s.power.phase = .dieshInit → s.boot.emptyCfg = true → s.boot.found = false → Ends .dieshInitComplete s (fun t =>
    t.power.phase = .done ∧ t.boot.stage = 6 ∧ t.boot.failCode = 0 ∧ t.boot.fwrev = s.boot.rev ∧ t.power.ready = true ∧
    t.power.faultN = false ∧ t.sets.gen = 1 ∧ t.sets.shadow = .ready))

/-- PORST_N_RELEASE with strap code 111 in life-cycle state BLANK stops as manufacturing test. SUPPLY_WINDOW_EXPIRY on
a cold start records the late rails in SUPPLY_LATE, RAIL and alarm 6. RAIL_OUT_OF_RANGE raises only EV5's bit of the
rail. BROWN_OUT of a rail in use and REF_CLOCK_FAULT hold the device in reset with their cause bit, RAIL or FAULT_N
and their alarm; FAULT_RESTART starts the device again from there. BOOT_COUNT, OTP and the straps stay throughout.
(derived: spec/02_package_balls_power_clocks.md) -/
def Obligations.SupplyAndClockFaultsHoldTheDevice : Prop :=
  (∀ s : State, s.power.porst = false → s.power.railGood.getLsbD 6 = true → s.otp.life = 0 →
    exec (.porstNRelease 7) s = .fault .manufacturingTest) ∧
  (∀ (late : Nat) (s : State), s.power.hold = .rails → BitVec.ofNat 7 late &&& 0x3F ≠ 0 → Ends (.supplyWindowExpiry late) s (fun t =>
    t.power.hold = .supplyLate ∧ t.boot.cause.getLsbD 2 = true ∧ t.boot.rail = BitVec.ofNat 7 late &&& 0x3F ∧
    t.alarms.status.getLsbD 6 = true ∧ t.boot.count = s.boot.count ∧ t.otp = s.otp)) ∧
  (∀ (rail : Nat) (s : State), s.power.hold = .none → railOff rail s = false →
    Gives (.railOutOfRange rail) s (raise 5 rail s)) ∧
  (∀ (rail : Nat) (s : State), rail < 6 → s.power.hold = .none → railOff rail s = false → Ends (.brownOut rail) s (fun t =>
    t.power.hold = .brownOut ∧ t.power.phase = .off ∧ t.power.ready = false ∧ t.boot.cause.getLsbD 3 = true ∧
    t.boot.rail = BitVec.ofNat 7 (2 ^ rail) ∧ t.alarms.status.getLsbD 4 = true ∧ t.boot.count = s.boot.count ∧ t.otp = s.otp ∧
    t.power.strap = s.power.strap)) ∧
  (∀ s : State, s.power.hold = .none → s.sleep.asleep = false → Ends .refClockFault s (fun t =>
    t.power.hold = .clockLoss ∧ t.power.refGood = false ∧ t.power.faultN = true ∧ t.boot.cause.getLsbD 4 = true ∧
    t.alarms.status.getLsbD 5 = true ∧ t.boot.count = s.boot.count ∧ t.otp = s.otp ∧ t.power.strap = s.power.strap)) ∧
  (∀ (xtal : Bool) (s : State), s.power.hold = .brownOut ∨ s.power.hold = .clockLoss → Ends (.faultRestart xtal) s (fun t =>
    t.power.hold = .none ∧ t.power.phase = .pllLock ∧ t.boot.count = min 255 (s.boot.count + 1) ∧ t.power.xtal32 = xtal ∧
    t.otp = s.otp ∧ t.power.strap = s.power.strap))

/-- WARM_N_ASSERT while the device is past BIST and not asleep, and WARM_RESET_START when one is due, give a state
with BOOT_CAUSE.WARM set, BOOT_COUNT one higher (at most 255), the ROM stage entered, HOST_MAP, straps and OTP kept,
every mailbox at its reset value and every ring disabled. TJ_THRESHOLD_CROSS sets Tj and raises WARN at 115 °C once
while armed; OVERTEMP_RESET at 140 °C holds the device in reset with its cause bit and alarm 3. (derived:
spec/02_package_balls_power_clocks.md; spec/04_diesh_mailboxes_sets_events.md) -/
def Obligations.WarmResetKeepsWhatItMust : Prop :=
  (∀ s : State, warmActs s = true → s.test.bist.fails = [] → ∀ c ∈ [Instr.warmNAssert, Instr.warmResetStart],
    (c = .warmResetStart → s.power.warmDue = true) → Ends c s (fun t =>
      t.boot.cause.getLsbD 7 = true ∧ t.boot.count = min 255 (s.boot.count + 1) ∧ t.boot.stage = 2 ∧ t.power.phase = .rom ∧
      t.host.secRid = s.host.secRid ∧ t.host.secEn = s.host.secEn ∧ t.power.strap = s.power.strap ∧ t.otp = s.otp ∧
      t.vat = State.reset.vat ∧ t.ctl.mb = State.reset.ctl.mb ∧ t.host.rx = [] ∧ t.host.tx = [])) ∧
  (∀ (tj : Int) (s : State), s.power.hold = .none → 115 ≤ tj → tj < 125 → s.power.warnArmed = true →
    Ends (.tjThresholdCross tj) s (fun t =>
      t.power.tj = tj ∧ t.power.warnArmed = false ∧ causeOf 4 t = causeOf 4 s ||| 1 ∧ t.otp = s.otp ∧ t.boot = s.boot)) ∧
  (∀ (tj : Int) (s : State), s.power.hold ≠ .porst → 140 ≤ tj → Ends (.overtempReset tj) s (fun t =>
    t.power.hold = .overTemp ∧ t.power.tj = tj ∧ t.boot.cause.getLsbD 6 = true ∧ t.alarms.status.getLsbD 3 = true ∧
    t.boot.count = s.boot.count ∧ t.otp = s.otp ∧ t.power.strap = s.power.strap))

/-- MB_DOORBELL_WRITE by the attachment of a mailbox that is EMPTY and served makes it BUSY with the request and its
TAG and queues it behind the commands already waiting; on one that is not EMPTY or not served the doorbell is
discarded and counted and the STATE stays. MB_RSP_ACK_WRITE returns DONE to EMPTY and otherwise does nothing.
MB_REQUEST_WRITE stores a permitted write, or counts it while BUSY. NOTICE_RD_WRITE sets RD. Entries that confirm a
wake are left to the wake's own statement: the premise is that no wake waits to be confirmed. (derived:
spec/04_diesh_mailboxes_sets_events.md) -/
def Obligations.MailboxRegistersDoWhatTheyMust : Prop :=
  (∀ (k : Nat) (s : State), k < 3 → s.sleep.unconfirmed = none → s.host.lock = none →
    (¬((mbOf k s).state = .empty ∧ mbServed k s = true) →
      Gives (.mbDoorbellWrite k k) s (setMb k { mbOf k s with refused := satAdd max32 (mbOf k s).refused 1 } s)) ∧
    ((mbOf k s).state = .empty → mbServed k s = true → s.sleep.entry = .none → dieshUp s = true →
      knownCmd (requestIn k (mbOf k s)).cmd = true → (requestIn k (mbOf k s)).cmd ≠ 0x0007 →
      Gives (.mbDoorbellWrite k k) s
        (let r := requestIn k (mbOf k s)
         let u := setMb k { mbOf k s with state := .busy, tag := r.tag, cur := some r } s
         { u with ctl := { u.ctl with order := u.ctl.order ++ [k] } })) ∧
    ((mbOf k s).state = .done → Gives (.mbRspAckWrite k k) s
      (setMb k { mbOf k s with state := .empty, status := 0, tag := 0, gen := 0, length := 0 } s)) ∧
    ((mbOf k s).state ≠ .done → Gives (.mbRspAckWrite k k) s s) ∧
    (∀ v, v < 4294967296 → Gives (.noticeRdWrite k k v) s (setMb k { mbOf k s with noticeRd := v / 256 % 16 } s)) ∧
    (∀ (off : Nat) (d : Bytes), off < 0xE00 → sizeOk off d.length = true →
      Gives (.mbRequestWrite k k off d) s
        (if (mbOf k s).state = .busy then setMb k { mbOf k s with reqWrBusy := satAdd max32 (mbOf k s).reqWrBusy 1 } s
         else setMb k { mbOf k s with req := Memory.writeN (mbOf k s).req off d } s)))

/-- Ending a command on MB0 to MB2 writes DONE with its STATUS, GENERATION and LENGTH and the results after the
header, keeps TAG, clears the request, takes the mailbox out of the queue of waiting commands, forgets that it was
accepted before AP1, and raises bit k of EV0. It changes no other part of the device. (derived:
spec/04_diesh_mailboxes_sets_events.md) -/
def Obligations.DoneWritesTheResponseHeader : Prop :=
  ∀ (k st gen : Nat) (d : Bytes) (s : State), k < 3 →
    mbDone k st gen d s =
      raise 0 k
        (let u := setMb k { mbOf k s with state := .done, status := st, gen := gen, length := d.length, cur := none,
                                          result := Memory.writeN (mbOf k s).result 0 d } s
         { u with ctl := { u.ctl with order := u.ctl.order.filter (fun j => j != k) }
                  sleep := { u.sleep with before := u.sleep.before.filter (fun j => j != k) } })

/-- When a mailbox that is served holds the request, CMD_DEVICE_INFO answers IDENT, FWREV, device id, mailbox, life
cycle, level, generation, pair role and TB0; CMD_NOTICE_SUBSCRIBE sets the mailbox's groups; CMD_EVENT_SPI_MASK sets
the four SPI enable words; CMD_DEVICE_RESET makes a warm reset due after saving the resume record;
CMD_COUNTER_SNAPSHOT mode 0 latches every counter, mode 1 also starts the period, clamped to 10 to 60,000 ms, and mode
2 stops it; CMD_COUNTER_READ answers each named counter; CMD_COUNTER_CLEAR with a mask that names no table clears the
selected counters and answers their number; CMD_BOOT_IMAGE in LOAD_WAIT stores a chunk of MB2 in bank 0. (derived:
spec/04_diesh_mailboxes_sets_events.md; spec/00_scope.md) -/
def Obligations.DeviceCommandsAnswer : Prop :=
  (∀ (mb t : Nat) (s : State), Served mb 0x0000 t [] s → Answers (.cmdDeviceInfo mb) mb s.sets.gen
    (b4 0x96244101 ++ b4 s.boot.fwrev.toNat ++ b1 devId ++ b1 mb ++ b1 s.otp.life ++ b1 s.sleep.level ++ b4 s.sets.gen ++
      b1 (pairRole s) ++ zeros 3 ++ b8 (now s)) s s) ∧
  (∀ (mb t : Nat) (p : Bytes) (s : State), p.length = 4 → Served mb 0x0002 t p s → Answers (.cmdNoticeSubscribe mb) mb s.sets.gen
    (b2 (u16 p 0) ++ zeros 2) s (setMb mb { mbOf mb s with groups := BitVec.ofNat 16 (u16 p 0) } s)) ∧
  (∀ (mb t : Nat) (p : Bytes) (s : State), p.length = 16 → mb = 0 ∨ mb = 2 → Served mb 0x0003 t p s →
    Answers (.cmdEventSpiMask mb) mb s.sets.gen p s
      (setEnSpi 3 (u32 p 12) (setEnSpi 2 (u32 p 8) (setEnSpi 1 (u32 p 4) (setEnSpi 0 (u32 p 0) s))))) ∧
  (∀ (mb t : Nat) (s : State), mb = 0 ∨ mb = 2 → Served mb 0x0004 t [] s → Answers (.cmdDeviceReset mb) mb s.sets.gen [] s
    (saveRecord { s with power := { s.power with warmDue := true } })) ∧
  (∀ (mb t mode : Nat) (p : Bytes) (s : State), p.length = 8 → u8 p 0 = mode → mode < 3 → mb ≠ 3 → (mb = 0 ∨ mode = 0) →
    Served mb 0x0F00 t p s →
      let latched := (latchSnapshot s).ctl.snapNext.getD s.ctl.snap
      let last := s.ctl.snapNext.getD s.ctl.snap
      let ms := clamp 10 60000 (u32 p 4)
      (mode = 0 → Answers (.cmdCounterSnapshot mb) mb s.sets.gen (b4 latched.seq ++ b8 latched.time ++ b4 s.ctl.periodMs) s
        (latchSnapshot s)) ∧
      (mode = 1 → Answers (.cmdCounterSnapshot mb) mb s.sets.gen (b4 latched.seq ++ b8 latched.time ++ b4 ms) s
        (let u := latchSnapshot s; { u with ctl := { u.ctl with periodMs := ms } })) ∧
      (mode = 2 → Answers (.cmdCounterSnapshot mb) mb s.sets.gen (b4 last.seq ++ b8 last.time ++ b4 0) s
        { s with ctl := { s.ctl with periodMs := 0 } })) ∧
  (∀ (mb t n : Nat) (p : Bytes) (s : State), u16 p 0 = n → 1 ≤ n → n ≤ 256 → p.length = 4 + 8 * n → Served mb 0x0F01 t p s →
    Answers (.cmdCounterRead mb) mb s.sets.gen (b2 n ++ zeros 2 ++ (List.range n).flatMap (fun i =>
      match namedCounter (u32 p (4 + 8 * i)) (u16 p (8 + 8 * i)) s with
      | some q => b8 (counter q (u16 p (8 + 8 * i)) s) ++ zeros 4
      | none => zeros 8 ++ b1 stNotFound ++ zeros 3)) s s) ∧
  (∀ (mb t : Nat) (p : Bytes) (s : State), p.length = 9 → u32 p 4 ≠ 0 → u8 p 8 = 0 → mb = 0 ∨ mb = 4 → Served mb 0x0F02 t p s →
    let picked := slots.flatMap (fun q =>
      ((slotCounters q s).filter (fun e => (counterLoc q e.2 &&& u32 p 4) == (u32 p 0 &&& u32 p 4))).map (fun e => (q, e.1)))
    Answers (.cmdCounterClear mb) mb s.sets.gen (b4 picked.length) s (forEach picked (fun e s => counterClear e.1 e.2 s) s)) ∧
  (∀ (t : Nat) (p : Bytes) (s : State), 12 ≤ p.length → p.length ≤ 3568 → s.power.phase = .loadWait → bit p 8 0 = false →
    u32 p 4 ≤ 524288 → u32 p 0 + (p.drop 12).length ≤ u32 p 4 → Served 2 0x0007 t p s →
    Answers (.cmdBootImage 2) 2 s.sets.gen [] s (bankWrite 0 (u32 p 0) (p.drop 12) s))

/-- CMD_SET_STATUS answers the state of the sets. With the shadow free, CMD_SET_COPY copies the active set into the
shadow; CMD_SET_LOAD from the flash part replaces the shadow whole, or answers CONFLICT with the offset of the image's
fault; an untimed CMD_SET_SWAP of a consistent shadow swaps at once and answers the new generation, a timed one at
least 100 µs ahead arms it; CMD_SET_SWAP_CANCEL of an armed swap returns the shadow to READY. TIMED_SWAP_FIRE swaps
when the named time base has reached TIME; SET_DRAIN_END starts the copy when no old frame remains, SET_DRAIN_TIMEOUT
does so in any case; SHADOW_COPY_COMPLETE copies the active set and makes the shadow READY. (derived:
spec/04_diesh_mailboxes_sets_events.md) -/
def Obligations.ConfigurationSetsSwap : Prop :=
  (∀ (mb : Nat) (s : State), Served mb 0x0100 0 [] s → Answers (.cmdSetStatus mb) mb s.sets.gen
    (b1 (b2n s.sets.activeB) ++ b1 (match s.sets.shadow with | .ready => 0 | .armed => 2 | _ => 1) ++ b1 (b2n s.sets.dirty) ++
      b1 s.sets.swapTb ++ b4 s.sets.gen ++ b4 (oldFrames s) ++ b8 s.sets.swapTime ++ b4 s.sets.drainMs) s s) ∧
  (∀ s : State, ShadowFree 0 s → Served 0 0x0101 1 [] s →
    Answers (.cmdSetCopy 0) 0 (shadowGen s) [] s (copyToShadow s)) ∧
  (∀ (p : Bytes) (s : State), p.length = 12 → u8 p 0 = 1 → ShadowFree 0 s → Served 0 0x0104 1 p s →
    match Config.configImage (bankPart (imageBank s) 4 s) with
    | .ok c => Answers (.cmdSetLoad 0) 0 (shadowGen s) (b4 0) s (editShadow (fun _ => c) s)
    | .error e => exec (.cmdSetLoad 0) s = .next (mbDone 0 stConflict (shadowGen s) (b4 e) s)) ∧
  (∀ (p : Bytes) (s : State), p.length = 16 → ShadowFree 0 s → Served 0 0x0102 1 p s → inconsistent (shadowSet s) = none →
    let ms := if u32 p 12 = 0 then s.sets.drainMs else min 10000 (u32 p 12)
    let v : State := { s with sets := { s.sets with drainMs := ms } }
    (bit p 0 0 = false → Answers (.cmdSetSwap 0) 0 (shadowGen s) (swapRsp (shadowGen s) (now s) ms 0 0) s (swapNow v)) ∧
    (bit p 0 0 = true → u8 p 1 < 6 → tbEnabled (u8 p 1) s = true → tbNow (u8 p 1) s + 100000 ≤ u64 p 4 →
      Answers (.cmdSetSwap 0) 0 (shadowGen s) (swapRsp (shadowGen s) (u64 p 4) ms 0 0) s
        { v with sets := { v.sets with shadow := .armed, swapTb := u8 p 1, swapTime := u64 p 4 } })) ∧
  (∀ (t : Nat) (s : State), s.sets.shadow = .armed → s.upd.state ≠ 3 → Served 0 0x0103 t [] s →
    Answers (.cmdSetSwapCancel 0) 0 s.sets.gen [] s (swapCancel s)) ∧
  (∀ s : State, s.sets.shadow = .armed → s.upd.state ≠ 3 → tbEnabled s.sets.swapTb s = true →
    s.sets.swapTime ≤ tbNow s.sets.swapTb s → Ends .timedSwapFire s (fun t =>
      t = swapNow s ∧ t.sets.activeB = !s.sets.activeB ∧ t.sets.gen = nextGen s.sets.gen ∧ t.sets.shadow = .draining)) ∧
  (∀ s : State, s.sets.shadow = .draining → oldFrames s = 0 →
    Gives .setDrainEnd s { s with sets := { s.sets with shadow := .copying } }) ∧
  (∀ s : State, s.sets.shadow = .draining → Ends .setDrainTimeout s (fun t => t.sets.shadow = .copying)) ∧
  (∀ s : State, s.sets.shadow = .copying → s.upd.fallDue = false → s.upd.state ≠ 3 → Ends .shadowCopyComplete s (fun t =>
    t.sets.shadow = .ready ∧ t.sets.dirty = false ∧ shadowSet t = activeSet s ∧ activeSet t = activeSet s ∧ t.sets.gen = s.sets.gen))

/-- SNAPSHOT_PERIODIC_TIMER latches every counter while a period is set; SNAPSHOT_PUBLISH makes a latched snapshot the
visible one. SERVICE_SESSION_EXPIRY, and SERVICE_LINK_LOST while port S is not UP, close an open session: SERVICE_END
is sent, then the session, its rights and PEER are gone. CMD_SERVICE_END answers and closes it. SERVICE_REQUEST of a
fragment that is out of sequence discards the assembly and counts it; SERVICE_POLL sends the response again;
SERVICE_ACK with the request's SEQ acknowledges MB4. (derived: spec/04_diesh_mailboxes_sets_events.md;
spec/12_backbone_trunk_service_ports.md) -/
def Obligations.SnapshotsAndServiceSession : Prop :=
  (∀ s : State, 0 < s.ctl.periodMs → Gives .snapshotPeriodicTimer s (latchSnapshot s)) ∧
  (∀ (x : Snapshot) (s : State), s.ctl.snapNext = some x →
    Gives .snapshotPublish s { s with ctl := { s.ctl with snap := x, snapNext := none } }) ∧
  (∀ s : State, s.svc.session.isSome = true →
    let u := notice 0x0001 locDev 0 s
    let closed : State := { u with svc := { u.svc with session := none, rights := 0, peer := none } }
    Gives .serviceSessionExpiry s closed ∧ (portUp 129 s = false → Gives .serviceLinkLost s closed)) ∧
  (∀ (t : Nat) (s : State), s.svc.session.isSome = true → Served 4 0x0006 t [] s → Ends (.cmdServiceEnd 4) s (fun u =>
    u.svc.session = none ∧ u.svc.rights = 0 ∧ u.svc.peer = none)) ∧
  (∀ (src b : Bytes) (s : State), s.svc.inbox = [(src, b)] → u8 b 1 = 1 → beN b 4 2 ≠ 0 → s.svc.asm ≠ some (beN b 4 2) →
    Gives .serviceRequest s (svcFormat { s with svc := { s.svc with inbox := [] } })) ∧
  (∀ (src b : Bytes) (s : State), s.svc.inbox = [(src, b)] → u8 b 1 = 3 → (mbOf 4 s).state = .done →
    Gives .servicePoll s (serviceRespond { s with svc := { s.svc with inbox := [] } })) ∧
  (∀ (src b : Bytes) (s : State), s.svc.inbox = [(src, b)] → u8 b 1 = 4 → beN b 2 2 = s.svc.seq →
    Gives .serviceAck s (mbAck 4 { s with svc := { s.svc with inbox := [] } }))

/-- Setting bit b of BRIDGE_STATUS, for b = 0 to 6, sets bit b of BRIDGE_STATUS and of EV7's cause register and clears
none; a W1C write of BRIDGE_STATUS by the primary clears the bits written as one there and leaves EV7, and a W1C write
of EV7's cause register leaves BRIDGE_STATUS. (R103) -/
def Obligations.BridgeStatusAndEv7AreSetTogether : Prop :=
  (∀ (b : Nat) (s : State), b < 7 →
    (bridgeBit b s).host.status = s.host.status ||| BitVec.ofNat 7 (2 ^ b) ∧
    causeOf 7 (bridgeBit b s) = causeOf 7 s ||| BitVec.ofNat 32 (2 ^ b)) ∧
  (∀ (v : Nat) (s : State), v < 4294967296 → Ends (.registerWrite 0 0x30000 (b4 v)) s (fun t =>
    t.host.status = s.host.status &&& ~~~ BitVec.ofNat 7 v ∧ t.ctl.cause = s.ctl.cause)) ∧
  (∀ (v : Nat) (s : State), v < 4294967296 → Ends (.evCauseClear 0 7 v) s (fun t => t.host.status = s.host.status))

/-- REGISTER_WRITE by the primary of EV_CAUSE_ENn writes the enables; a write of a permitted size that the secondary
or SPI may not make is refused and counted and changes nothing else; one of a size or alignment that is not permitted
is counted as such; one to a reserved offset likewise. HOST_MAP_WRITE sets SEC_RID and SEC_EN for the primary and is
refused to the others. MSIX_UNMASK by the primary clears Mask and sends the message if the event is pending.
EV_CAUSE_CLEAR by the primary or SPI clears the bits written as one. CAPTURE_REARM and TB_LATCH_WRITE by the primary
act on the capture unit and latch the named time bases. (derived: spec/03_host_attachments_and_bridging.md;
spec/04_diesh_mailboxes_sets_events.md; spec/09_time_bases.md) -/
def Obligations.RegisterWritesFollowTheirAccessCodes : Prop :=
  (∀ (n v : Nat) (s : State), n < 128 → v < 4294967296 →
    Gives (.registerWrite 0 (0x20400 + 4 * n) (b4 v)) s (setCauseEn n (BitVec.ofNat 32 v) s)) ∧
  (∀ (init n v : Nat) (s : State), n < 128 → 1 ≤ init → init < 4 →
    Gives (.registerWrite init (0x20400 + 4 * n) (b4 v)) s (denied (0x20400 + 4 * n) init false s)) ∧
  (∀ (init addr : Nat) (d : Bytes) (s : State), addr < 0x200000 → sizeOk addr d.length = false →
    Gives (.registerWrite init addr d) s (sizeErr addr init false s)) ∧
  (∀ (init v : Nat) (s : State), Gives (.registerWrite init 0x8 (b4 v)) s (addrErr 0x8 init false s)) ∧
  (∀ (v : Nat) (s : State), v < 4294967296 →
    Gives (.hostMapWrite 0 v) s { s with host := { s.host with secRid := v % 65536, secEn := v.testBit 16 } } ∧
    (∀ init, 1 ≤ init → init < 4 → Gives (.hostMapWrite init v) s (denied 0x30040 init false s))) ∧
  (∀ (n : Nat) (s : State), n < 128 →
    let u : State := { s with host := { s.host with msix := Tbl.set s.host.msix n { msixEntry n s with mask := false } {} } }
    Gives (.msixUnmask 0 n) s (if (msixEntry n s).mask && evPending n s then msixSend n u else u)) ∧
  (∀ (init ev v : Nat) (s : State), init = 0 ∨ init = 2 → ev < 128 → v < 4294967296 →
    Gives (.evCauseClear init ev v) s (setCause ev (causeOf ev s &&& ~~~ BitVec.ofNat 32 v) s)) ∧
  (∀ (tb unit v : Nat) (s : State), tb < 6 → unit < 4 → v < 4294967296 →
    Gives (.captureRearm 0 tb unit v) s (capStatusWrite tb unit v s)) ∧
  (∀ (v : Nat) (s : State), v < 4294967296 → Gives (.tbLatchWrite 0 v) s (latchWrite v s))

/-- EV_CAUSE_CLEAR by the secondary on EV112 to EV127 clears those ones that belong to its own rings and keeps every
other bit; if the write holds a one in another bit it is counted as denied as well. On any other event it is refused
whole. (derived: spec/03_host_attachments_and_bridging.md) -/
def Obligations.SecondaryClearsOnlyItsRingBits : Prop :=
  (∀ (g v : Nat) (s : State), g < 16 → v < 4294967296 →
    let u := setCause (112 + g) (causeOf (112 + g) s &&& ~~~ BitVec.ofNat 32 (v &&& ownCause g s)) s
    Gives (.evCauseClear 1 (112 + g) v) s (if v = v &&& ownCause g s then u else denied (0x21000 + 4 * (112 + g)) 1 false u)) ∧
  (∀ (ev v : Nat) (s : State), ev < 112 → v < 4294967296 →
    Gives (.evCauseClear 1 ev v) s (denied (0x21000 + 4 * ev) 1 false s))

/-- With the endpoint up, PCIE_MEM_READ of a fast register of a permitted size completes at once with its bytes, one
of a DEN register is held by the slow-island crossing, one of a size that is not permitted completes with Completer
Abort and is counted, and one in the pass-through range without a pair completes with Completer Abort. PCIE_MEM_WRITE
of a permitted register on a fast island writes it, one of a bad size is discarded and reported under AER.
PCIE_ATOMIC_OP on a free semaphore word answers the old value and writes the new one; any other address completes with
Completer Abort. PCIE_DELAYED_READ_TIMEOUT answers a placed read with Completer Abort and keeps it held.
ATOMIC_OP_RETRY sends an AtomicOp answered LOCK_RETRY again. (derived: spec/03_host_attachments_and_bridging.md) -/
def Obligations.PcieRequestsComplete : Prop :=
  (∀ (rid addr size : Nat) (s : State), pcieUp s = true → addr < 0x200000 → sizeOk addr size = true →
    touchesReserved addr size s = false → slowIsland addr = 0 → semWaits (initOf rid s) addr s = false →
    Gives (.pcieMemRead rid false addr size) s (emit (.pcieData (readFor (initOf rid s) addr size s) false) s)) ∧
  (∀ (rid : Nat) (s : State), pcieUp s = true → s.host.held = [] → s.host.posted = [] →
    Ends (.pcieMemRead rid false 0x1000 4) s (fun t => ∃ h, t.host.held = [h] ∧ h.bridge = 3 ∧ h.init = initOf rid s ∧
      h.addr = 0x1000 ∧ h.size = 4 ∧ h.data = none ∧ h.answered = false ∧ t.out = s.out)) ∧
  (∀ (rid addr size : Nat) (s : State), pcieUp s = true → addr < 0x400000 → sizeOk addr size = false →
    Gives (.pcieMemRead rid false addr size) s (emit .pcieAbort (sizeErr addr (initOf rid s) false s))) ∧
  (∀ (rid addr size : Nat) (s : State), pcieUp s = true → 0x200000 ≤ addr → addr < 0x400000 → sizeOk addr size = true →
    passUp s = false → Gives (.pcieMemRead rid false addr size) s (emit .pcieAbort s)) ∧
  (∀ (rid addr : Nat) (d : Bytes) (s : State), pcieUp s = true → addr < 0x200000 → judgeWrite (initOf rid s) addr d s = 0 →
    slowIsland addr = 0 → semWaits (initOf rid s) addr s = false →
    Gives (.pcieMemWrite rid false addr d) s (putBytes (initOf rid s) addr d s)) ∧
  (∀ (rid addr : Nat) (d : Bytes) (s : State), pcieUp s = true → addr < 0x400000 → sizeOk addr d.length = false →
    Ends (.pcieMemWrite rid false addr d) s (fun t => t.host.aer = true ∧ t.sets = s.sets ∧ t.vat = s.vat)) ∧
  (∀ (rid addr size op x y : Nat) (s : State), pcieUp s = true → addr < 0x200000 → op < 3 → atomicOk addr size = true →
    semWaits (initOf rid s) addr s = false →
    let old := regBytes addr size s
    Gives (.pcieAtomicOp rid false addr size op x y) s
      (emit (.pcieData old false) (putBytes (initOf rid s) addr (le size (atomicNew op size (leN old 0 size) x y)) s))) ∧
  (∀ (rid addr size op x y : Nat) (w2 : Bool) (s : State), pcieUp s = true →
    (w2 = true ∨ (addr < 0x200000 ∧ atomicOk addr size = false)) →
    Gives (.pcieAtomicOp rid w2 addr size op x y) s (emit .pcieAbort s)) ∧
  (∀ (h : HeldRead) (s : State), s.host.held = [h] → h.bridge = 3 → h.init < 2 → h.data = none → h.answered = false → h.op = 0 →
    Gives (.pcieDelayedReadTimeout h.init h.addr h.size) s (emit .pcieAbort (setHeld [{ h with answered := true }] s))) ∧
  (∀ (h : HeldRead) (s : State), s.host.held = [h] → h.bridge = 1 → 16 ≤ h.op → h.status = 7 → h.ahead = 0 →
    Gives .atomicOpRetry s (pairSend 2 (requestFrame { h with status := 0, sent := false })
      (setHeld [{ h with status := 0, sent := true }] s)))

/-- PCIE_HOT_RESET and PCIE_FLR, with PCIE_PERST_N high, and PCIE_PERST_ASSERT disable every host ring, discard the
reads held for the PCIe initiators without a log entry, empty the MSI-X table, and leave forwarding, mailboxes, events
and counters alone; the first two keep HOST_MAP, PCIE_PERST_ASSERT resets it and holds the endpoint in reset.
PCIE_PERST_RELEASE ends that and releases PCIE_WAKE_N. (derived: spec/03_host_attachments_and_bridging.md) -/
def Obligations.EndpointResetsClearRingsAndReads : Prop :=
  (∀ (c : Instr) (s : State), c = .pcieHotReset ∨ c = .pcieFlr → s.power.perst = false → s.host.held = [] → Ends c s (fun t =>
    t.host.rx = ringOff s.host.rx ∧ t.host.tx = ringOff s.host.tx ∧ t.host.msix = [] ∧ t.host.held = [] ∧
    t.host.secRid = s.host.secRid ∧ t.host.secEn = s.host.secEn ∧ t.ctl = s.ctl ∧ t.vat = s.vat ∧ t.host.log = s.host.log)) ∧
  (∀ s : State, Ends .pciePerstAssert s (fun t =>
    t.power.perst = true ∧ t.host.secRid = 0 ∧ t.host.secEn = false ∧ t.host.msix = [] ∧
    (∀ h ∈ t.host.held, 2 ≤ h.init) ∧ t.ctl = s.ctl ∧ t.vat = s.vat ∧ t.host.log = s.host.log)) ∧
  (∀ s : State, s.power.perst = true → s.power.wakeN = true → s.sleep.nm.state = 0 → s.sleep.nm.commitAt = none →
    s.sleep.state = 0 → s.sleep.entry = .none → s.sleep.asleep = false →
    Gives .pciePerstRelease s (emit (.pcieWake false) { s with power := { s.power with perst := false, wakeN := false } }))

/-- RING_CTRL_WRITE by the primary of ENABLE 1 on a stopped ring starts it with HEAD zero; RING_TAIL_WRITE stores
TAIL, clamped to size minus one; a write the initiator may not make is refused and counted. TX_DESCRIPTOR_PROCESS
writes DONE and STATUS of the descriptor at HEAD of the next ring in round robin and moves the turn; a descriptor of a
wrong KIND completes with STATUS 2, is counted and sets DESC_ERR, and the ring goes on. RX_FRAME_DELIVER with no frame
waiting and no ring enabled changes nothing else. DMA_ERROR stops an enabled ring and sets DMA_ERR. RING_MOD_TIMEOUT
signals completions that wait. TS_RECORD_WRITE uses one posted descriptor; TS_RECORD_TIMEOUT drops the record and
counts it. (derived: spec/03_host_attachments_and_bridging.md) -/
def Obligations.HostRingsRun : Prop :=
  (∀ (tx : Bool) (n v : Nat) (s : State), (ringOf tx n s).enable = false → v.testBit 0 = true →
    Gives (.ringCtrlWrite 0 tx n v) s
      (let still := (ringOf tx n s).noBufEpisode && decide ((ringOf tx n s).tail = 0)
       hostCheck (setRing tx n
         { ringOf tx n s with owner1 := v.testBit 1, enable := true, head := 0, noBufEpisode := still } s))) ∧
  (∀ (init n v : Nat) (tx : Bool) (s : State), init = 2 ∨ init = 3 ∨ (init = 1 ∧ (ringOf tx n s).owner1 = false) →
    Gives (.ringCtrlWrite init tx n v) s (denied (ringAddr tx n 0xC) init false s) ∧
    Gives (.ringTailWrite init tx n v) s (denied (ringAddr tx n 0x10) init false s)) ∧
  (∀ (tx : Bool) (n v : Nat) (s : State), v < 65536 → Gives (.ringTailWrite 0 tx n v) s
    (let t := if (ringOf tx n s).size ≤ v then (ringOf tx n s).size - 1 else v
     let still := (ringOf tx n s).noBufEpisode && (!(ringOf tx n s).enable || decide ((ringOf tx n s).head = t))
     setRing tx n { ringOf tx n s with tail := t, noBufEpisode := still } s)) ∧
  (∀ (desc d : Bytes) (n : Nat) (s : State), roundRobin s.host.txNext (fun n => (ringOf true n s).posted) = some n →
    txStatus desc = 2 → Gives (.txDescriptorProcess desc d) s
      (let u := ringStatus true n 0 (count 128 (128 + 4 * n + 2) { s with host := { s.host with txNext := (n + 1) % 32 } })
       ringComplete true n (bit desc 11 2) (advanceHead true n (emit (.dma ((ringOf true n s).headAddr + 31) (b1 0x82)) u)))) ∧
  (∀ (desc d : Bytes) (n : Nat) (s : State), roundRobin s.host.txNext (fun n => (ringOf true n s).posted) = some n →
    Ends (.txDescriptorProcess desc d) s (fun t =>
      t.host.txNext = (n + 1) % 32 ∧ Output.dma ((ringOf true n s).headAddr + 31) (b1 (0x80 + txStatus desc)) ∈ t.out)) ∧
  (∀ (tx : Bool) (n : Nat) (s : State), (ringOf tx n s).enable = true →
    Gives (.dmaError tx n) s (ringStatus tx n 2 (setRing tx n { ringOf tx n s with enable := false } s))) ∧
  (∀ (tx : Bool) (n : Nat) (s : State), 0 < (ringOf tx n s).unsignalled → 0 < (ringOf tx n s).modTime →
    Gives (.ringModTimeout tx n) s (raise (112 + n / 2) (ringBit tx n) (setRing tx n { ringOf tx n s with unsignalled := 0 } s))) ∧
  (∀ (n : Nat) (x : TsRecord) (s : State), s.host.tsWait = [x] → x.ring = n → (ringOf false n s).posted = true →
    Ends (.tsRecordWrite n) s (fun t => t.host.tsWait = [] ∧ t.sets = s.sets ∧ t.power = s.power)) ∧
  (∀ (n : Nat) (x : TsRecord) (s : State), s.host.tsWait = [x] → x.ring = n →
    Gives (.tsRecordTimeout n) s (count 128 (400 + n) { s with host := { s.host with tsWait := [] } })) ∧
  (∀ (buf q : Nat) (x : Copy) (s : State), q < 32 → copiesOf (640 + q) s = [x] →
    roundRobin s.host.rxNext (fun n => (ringOf false n s).posted && !(copiesOf (640 + n) s).isEmpty && !halted 128 s) = some q →
    (∀ n < 32, dropBad (640 + n) (ageQueue (640 + n) s) = s) → Ends (.rxFrameDeliver buf) s (fun t =>
      t.host.rxNext = (q + 1) % 32 ∧ Output.dma buf ((copyBytes x s).take (ringOf false q s).bufSize) ∈ t.out))

/-- A transaction with the right CRC while the target answers: SPI_READ of a permitted register starts a delayed read
and returns RETRY; SPI_WRITE that is permitted is posted and returns OK; SPI_LOCK_READ and SPI_UNLOCK_WRITE on a
semaphore word start a delayed operation and return RETRY; SPI_CANCEL releases every read held for SPI and returns OK;
SPI_NOP returns OK; SPI_REPEAT_LAST returns the last collected data or ERR_ADDR. A wrong CRC is answered ERR_CRC and
counted. SPI_READ_COLLECT releases the read on the wire and keeps its data for REPEAT_LAST; SPI_CS_EARLY_RISE in the
request is counted. The premise that no edge of SPI_CS_N is a wake now, and that no read is held or posted, keeps the
statement to the transaction's own effect. (derived: spec/03_host_attachments_and_bridging.md) -/
def Obligations.SpiTransactionsAnswer : Prop :=
  ∀ s : State, timeRuns s = true → wake { source := 23 } s = s → s.host.spiLive = none → s.host.held = [] → s.host.posted = [] →
    s.host.lock = none → s.sleep.asleep = false →
    (∀ (addr size crc : Nat), addr < 0x200000 → spiRefused addr size s = 0 → crc8 (spiHeader 1 addr size []) = BitVec.ofNat 8 crc →
      Ends (.spiRead addr size crc) s (fun t => ∃ h, t.host.held = [h] ∧ h.bridge = 0 ∧ h.init = 2 ∧ h.op = 1 ∧ h.addr = addr ∧
        h.size = size ∧ h.data = none ∧ t.out = .spi (spiAnswer 1 []) :: s.out ∧ t.ctl = s.ctl ∧ t.host.sem = s.host.sem)) ∧
    (∀ (addr crc : Nat) (d : Bytes), addr < 0x200000 → judgeWrite 2 addr d s = 0 →
      crc8 (spiHeader 2 addr d.length d) = BitVec.ofNat 8 crc → Ends (.spiWrite addr d crc) s (fun t =>
        t.host.posted = [{ bridge := 0, init := 2, addr := addr, data := d }] ∧ t.out = .spi (spiAnswer 0 []) :: s.out ∧
        t.ctl = s.ctl ∧ t.host.sem = s.host.sem)) ∧
    (∀ (addr size crc : Nat), lockRefused addr size = 0 → crc8 (spiHeader 3 addr size []) = BitVec.ofNat 8 crc →
      Ends (.spiLockRead addr size crc) s (fun t => ∃ h, t.host.held = [h] ∧ h.op = 3 ∧ h.addr = addr ∧ h.size = size ∧
        h.data = none ∧ t.host.lock = none ∧ t.out = .spi (spiAnswer 1 []) :: s.out)) ∧
    (∀ (addr crc : Nat) (d : Bytes), lockRefused addr d.length = 0 → crc8 (spiHeader 4 addr d.length d) = BitVec.ofNat 8 crc →
      Ends (.spiUnlockWrite addr d crc) s (fun t => ∃ h, t.host.held = [h] ∧ h.op = 4 ∧ h.addr = addr ∧ h.arg = d ∧
        h.data = none ∧ t.host.sem = s.host.sem ∧ t.out = .spi (spiAnswer 1 []) :: s.out)) ∧
    (∀ crc, crc8 (spiHeader 5 0 0 []) = BitVec.ofNat 8 crc → Gives (.spiCancel crc) s (spiSay 0 [] s)) ∧
    (∀ crc, crc8 (spiHeader 6 0 0 []) = BitVec.ofNat 8 crc → Gives (.spiNop 6 crc) s (spiSay 0 [] s)) ∧
    (∀ crc, crc8 (spiHeader 7 0 0 []) = BitVec.ofNat 8 crc → Gives (.spiRepeatLast crc) s
      (match s.host.spiLast with | some d => spiSay 0 d s | none => spiSay 4 [] s)) ∧
    (∀ (addr size crc : Nat), crc8 (spiHeader 1 addr size []) ≠ BitVec.ofNat 8 crc →
      Gives (.spiRead addr size crc) s (spiSay 3 [] (spiFrameErr s))) ∧
    Gives (.spiCsEarlyRise true) s (spiFrameErr s) ∧
    (∀ (h : HeldRead) (d r : Bytes), h.data = some d → h.op = 1 → h.bridge = 0 → popsOf h.addr d.length = [] →
      Gives .spiReadCollect { s with host := { s.host with held := [h], spiLive := some { read := some h, resp := r } } }
        { s with host := { s.host with spiLast := some d } })

/-- BRIDGE_FETCH_COMPLETE of a local SPI read holds the bytes of the register; of a LOCK_READ with the lock free it
takes the lock. BRIDGE_READ_DISCARD logs held data and releases it. BRIDGE_WRITE_DELIVER writes the oldest posted
write of an initiator to its register. SEM_LOCK_LAPSE frees the lock and counts the lapse. PAIR_BRIDGE_REQUEST with a
formed pair holds a read for the peer as initiator 3 and refuses a write the peer may not make. EDGE_ERR_POP_READ by
the primary of 8 bytes answers the head of the cluster's error FIFO and removes it. (derived:
spec/03_host_attachments_and_bridging.md; spec/10_edge_channels.md) -/
def Obligations.BridgesFetchDeliverAndLock : Prop :=
  (∀ (h : HeldRead) (s : State), s.host.held = [h] → h.bridge = 0 → h.init = 2 → h.op = 1 → h.data = none → h.ahead = 0 →
    h.status = 0 → semBlocked 2 h.addr s = false → Gives (.bridgeFetchComplete 0 2 1 h.addr h.size none) s
      (setHeld [{ h with data := some (readFor 2 h.addr h.size s) }] s)) ∧
  (∀ (h : HeldRead) (s : State), s.host.held = [h] → h.bridge = 0 → h.init = 2 → h.op = 3 → h.data = none → h.ahead = 0 →
    h.status = 0 → s.host.lock = none → Ends (.bridgeFetchComplete 0 2 3 h.addr h.size none) s (fun t =>
      t.host.lock = some 2 ∧ t.host.held = [{ h with data := some (readFor 2 h.addr h.size s) }] ∧ t.host.sem = s.host.sem)) ∧
  (∀ (h : HeldRead) (d : Bytes) (s : State), s.host.held = [h] → h.bridge = 0 → h.op = 1 → h.addr < 0x200000 → h.data = some d →
    Gives (.bridgeReadDiscard 0 h.init 1 h.addr h.size) s (logDiscard h (!(popsOf h.addr h.size).isEmpty) (setHeld [] s))) ∧
  (∀ (w : PostedWrite) (s : State), s.host.posted = [w] → s.host.held = [] → w.bridge = 0 → semBlocked w.init w.addr s = false →
    judgeWrite w.init w.addr w.data { s with host := { s.host with posted := [] } } = 0 →
    Gives (.bridgeWriteDeliver 0 w.init) s (putBytes w.init w.addr w.data { s with host := { s.host with posted := [] } })) ∧
  (∀ (i : Nat) (s : State), s.host.lock = some i → Ends .semLockLapse s (fun t =>
    t.host.lock = none ∧ t.host.sem = s.host.sem ∧ t.host.status.getLsbD 4 = true ∧ t.host.errLast.kind = 4 ∧
    t.host.errLast.init = i)) ∧
  (∀ (addr size : Nat) (s : State), passUp s = true → addr < 0x200000 → sizeOk addr size = true →
    touchesReserved addr size s = false → s.host.held = [] → s.host.posted = [] →
    Ends (.pairBridgeRequest 1 addr size []) s (fun t => ∃ h, t.host.held = [h] ∧ h.bridge = 2 ∧ h.init = 3 ∧ h.op = 1 ∧
      h.addr = addr ∧ h.size = size ∧ h.data = none ∧ t.out = s.out)) ∧
  (∀ (v : Nat) (s : State), passUp s = true →
    Gives (.pairBridgeRequest 2 0x30040 4 (b4 v)) s (denied 0x30040 3 false s)) ∧
  (∀ (m : Nat) (e : EdgeErr) (rest : List EdgeErr) (s : State), m < 6 → (edgeCl m s).errs = e :: rest →
    Gives (.edgeErrPopRead 0 m 8) s (setEdgeCl m { edgeCl m s with errs := rest } (emit (.pcieData (errBytes e) false) s)))

/-- An arithmetic instruction of a Picker writes the 16-bit result to gD, sets Z when it is zero, sets C to the carry
of ADD and the borrow of SUB and clears it for the others, counts one instruction and goes to the next address; CMP
sets the flags alone; BR takes its target when its condition holds; JT goes to the entry of its jump table; META
writes the field it names. No other part of the device changes. (derived: spec/05_pickers_and_trellis.md) -/
def Obligations.ArithmeticInstructionsOfAPicker : Prop :=
  ∀ (p w : Nat) (t : Thread) (v : VFrame) (s : State),
    let a := reg t (bits w 53 50)
    let d := bits w 57 54
    let b := opB t w
    let next : Thread := { t with count := t.count + 1, pc := t.pc + 1 }
    (Fetches p 0x08 w t v s → Threads (.add p) p s (aluThread t d (a + b) (decide (65536 ≤ a + b)))) ∧
    (Fetches p 0x09 w t v s → Threads (.sub p) p s (aluThread t d (a + 65536 - b) (decide (a < b)))) ∧
    (Fetches p 0x0A w t v s → Threads (.and p) p s (aluThread t d (a &&& b) false)) ∧
    (Fetches p 0x0B w t v s → Threads (.or p) p s (aluThread t d (a ||| b) false)) ∧
    (Fetches p 0x0C w t v s → Threads (.shr p) p s (aluThread t d (a / 2 ^ (b % 16)) false)) ∧
    (Fetches p 0x0D w t v s → Threads (.shl p) p s (aluThread t d (a * 2 ^ (b % 16)) false)) ∧
    (Fetches p 0x02 w t v s → Threads (.cmp p) p s { next with z := decide (a = b), c := decide (a < b) }) ∧
    (Fetches p 0x03 w t v s →
      let k := bits w 57 55
      let take := k = 0 ∨ k = 1 ∧ t.z = true ∨ k = 2 ∧ t.z = false ∨ k = 3 ∧ t.c = true ∨ k = 4 ∧ t.c = false
      (take → Threads (.br p) p s { next with pc := bits w 11 0 }) ∧ (¬take → Threads (.br p) p s next)) ∧
    (Fetches p 0x04 w t v s → Threads (.jt p) p s
      { next with pc := Tbl.get (setOf v.frame.gen s).jump (16 * bits w 38 32 + a / 2 ^ bits w 47 44 % 16) 0 }) ∧
    (Fetches p 0x13 w t v s →
      let x := if w.testBit 49 then bits w 15 0 else a
      (d = 0 → Threads (.metaField p) p s { next with md := setMd t.md 52 41 x }) ∧
      (d = 1 → Threads (.metaField p) p s { next with md := setMd t.md 55 53 x }) ∧
      (d = 2 → Threads (.metaField p) p s { next with md := setMd t.md 57 56 x }))

/-- When the bytes an instruction needs have arrived, lie before the logical end and inside the window, LDF writes the
extracted field to gD, sets Z, keeps C and notes HIGH_READ; KEY copies bytes, a register or an immediate into the key
buffer; ADV moves the cursor; PUSH without CK appends its type and the cursor to a header stack with room; CHKLEN of a
whole frame with the length it names goes on and notes the frame's last byte as read. A read behind the window ends
the parse with WINDOW, one behind the end with TRUNCATED, and one of bytes that have not arrived stalls. (derived:
spec/05_pickers_and_trellis.md) -/
def Obligations.FrameInstructionsOfAPicker : Prop :=
  ∀ (p w : Nat) (t : Thread) (v : VFrame) (s : State),
    let len := v.frame.bytes.length
    let next : Thread := { t with count := t.count + 1, pc := t.pc + 1 }
    (Fetches p 0x01 w t v s →
      let lo := t.cursor + bits w 40 32 + (if w.testBit 22 then reg t (bits w 53 50) else 0)
      let e := lo + (bits w 31 29 + (bits w 28 24 + 1) + 7) / 8 - 1
      let f := if w.testBit 23 then u16 v.frame.bytes lo else extract v.frame.bytes lo (bits w 31 29) (bits w 28 24 + 1)
      (Readable e t v → Threads (.ldf p) p s
        { next with high := highRead t e, g := t.g.setIfInBounds (bits w 57 54) (BitVec.ofNat 16 f), z := decide (f % 65536 = 0) }) ∧
      (512 ≤ e → e < len → (∀ l, t.lend = some l → e < l) → Gives (.ldf p) s
        (putResult t.fid (resultOf { t with count := t.count + 1 } 5 0) (setPicker p { pickerOf p s with job := none } s))) ∧
      (v.ended = true → t.lend = none → len ≤ e → Gives (.ldf p) s
        (putResult t.fid (resultOf { t with count := t.count + 1 } 8 0) (setPicker p { pickerOf p s with job := none } s))) ∧
      (v.ended = false → t.lend = none → len ≤ e → Threads (.ldf p) p s { t with stalled := some (e + 1) })) ∧
    (Fetches p 0x10 w t v s →
      let dst := t.cursor + (if w.testBit 49 then bits w 15 0 else reg t (bits w 53 50) * 2 ^ bits w 44 42 + bits w 15 0)
      dst ≤ len → (∀ l, t.lend = some l → dst ≤ l) → Threads (.adv p) p s { next with cursor := dst }) ∧
    (Fetches p 0x11 w t v s → w.testBit 49 = false → t.stack.length < 12 →
      (bits w 57 50 / 16 = 6 → countIf (fun e => decide (e.1 / 16 = 6)) t.stack < 6) →
      Threads (.push p) p s { next with stack := t.stack ++ [(bits w 57 50, t.cursor)] }) ∧
    (Fetches p 0x12 w t v s →
      let n := bits w 44 42 + 1
      let k (b : Bytes) : Bytes := (setBytes t.key (bits w 55 50) b).take 48
      let lo := t.cursor + bits w 40 32 + (if w.testBit 22 then reg t (bits w 48 45) else 0)
      (bits w 57 56 = 0 → Readable (lo + n - 1) t v → Threads (.key p) p s
        { next with high := highRead t (lo + n - 1), key := k (slice v.frame.bytes lo n) }) ∧
      (bits w 57 56 = 1 → Threads (.key p) p s { next with key := k (be n (reg t (bits w 48 45))) }) ∧
      (bits w 57 56 = 2 → Threads (.key p) p s { next with key := k (be n (bits w 15 0)) })) ∧
    (Fetches p 0x14 w t v s → v.ended = true →
      (if w.testBit 48 then reg t (bits w 53 50) ≤ t.lend.getD len - t.cursor
       else reg t (bits w 53 50) = t.lend.getD len - t.cursor) →
      Threads (.chklen p) p s { next with high := some (len - 1) })

/-- A thread on a Picker that has executed 64 instructions executes none of the eighteen instructions any more: the
command leaves the device as it is; PARSE_BUDGET_EXHAUSTED then ends the parse with reason BUDGET. DEFER, DONE and MAL
each count one: DONE ends the parse with its profile, MAL with its reason, DEFER hands it to the Trellis. A walker's
visit leaves the count of instructions as it is. (R136) -/
def Obligations.AParseExecutesAtMost64Instructions : Prop :=
  (∀ (p : Nat) (t : Thread) (v : VFrame) (s : State), (pickerOf p s).job = some t → frameOf t.fid s = some v → t.count = 64 →
    (∀ c ∈ [Instr.ldf p, .cmp p, .br p, .jt p, .add p, .sub p, .and p, .or p, .shr p, .shl p, .adv p, .push p, .key p,
      .metaField p, .chklen p, .defer p, .done p, .mal p], Gives c s s) ∧
    Gives (.parseBudgetExhausted p) s
      (putResult t.fid (resultOf t 4 0) (setPicker p { pickerOf p s with job := none } s))) ∧
  (∀ (p w : Nat) (t : Thread) (v : VFrame) (s : State),
    let free := setPicker p { pickerOf p s with job := none } s
    (Fetches p 0x18 w t v s → Gives (.defer p) s
      { free with parse := { free.parse with deferred :=
        free.parse.deferred ++ [{ t with count := t.count + 1, node := bits w 8 0 }] } }) ∧
    (Fetches p 0x19 w t v s → Gives (.done p) s (putResult t.fid (resultOf { t with count := t.count + 1 } 0 (bits w 5 0)) free)) ∧
    (Fetches p 0x1A w t v s → Gives (.mal p) s (putResult t.fid (resultOf { t with count := t.count + 1 } (bits w 3 0) 0) free))) ∧
  (∀ (k : Nat) (t t' : Thread) (s u : State), Tbl.sorted s.parse.walkers = true → (walkerOf k s).job = some t →
    Gives (.trellisNodeVisit k) s u → (walkerOf k u).job = some t' → t'.count = t.count)

/-- PICKER_THREAD_ALLOCATE gives the first frame in commit order to a free Picker at the entry of its port, stamped
with the active generation, with empty registers, stack and key and the metadata preloaded, and counts it.
PICKER_STALL_RESUME lets a stalled thread go on when its bytes have arrived. WALKER_TAKEOVER gives the first deferred
parse to a free walker without registers and flags. TRELLIS_NODE_VISIT without push, key and advance goes to the next
node; a 24th visit that names another node ends with GRAPH_LOOP. PARSE_RESULT_DELIVER of a malformed frame under DROP
counts it by reason, raises EV60 and forwards nothing. (derived: spec/05_pickers_and_trellis.md;
spec/01_neraz_blocks_and_islands.md) -/
def Obligations.ThreadsRunFromAllocationToResult : Prop :=
  (∀ (p fid : Nat) (rest : List Nat) (v : VFrame) (s : State), p < 48 → (pickerOf p s).job = none → (pickerOf p s).state = 0 →
    s.parse.waiting = fid :: rest → s.parse.order = [] → frameOf fid s = some v → v.frame.gen = 0 → v.frame.edge = false →
    v.frame.port < 32 → v.reruns = 0 →
    let f := { v.frame with gen := s.sets.gen }
    let u := putFrame fid { v with frame := f } s
    let q := count f.port 448 { u with parse := { u.parse with waiting := rest, order := [fid] } }
    let start : Thread := { fid := fid, pc := entryOf (activeSet s) f.port, md := preload (activeSet s) f v.frame.kind }
    Gives (.pickerThreadAllocate p) s (setPicker p { pickerOf p s with job := some start } q)) ∧
  (∀ (p n : Nat) (t : Thread) (v : VFrame) (s : State), (pickerOf p s).job = some t → frameOf t.fid s = some v →
    t.stalled = some n → (v.ended = true ∨ n ≤ v.frame.bytes.length) →
    Threads (.pickerStallResume p) p s { t with stalled := none }) ∧
  (∀ (k : Nat) (t : Thread) (rest : List Thread) (s : State), k < 8 → (walkerOf k s).job = none → (walkerOf k s).state = 0 →
    s.parse.deferred = t :: rest →
    let taken : Thread := { t with g := Vector.replicate 16 0, z := false, c := false }
    Gives (.walkerTakeover k) s (count 255 66
      (setWalker k { walkerOf k s with job := some taken } { s with parse := { s.parse with deferred := rest } }))) ∧
  (∀ (k : Nat) (t : Thread) (v : VFrame) (s : State), (walkerOf k s).job = some t → (walkerOf k s).state = 0 →
    frameOf t.fid s = some v → t.stalled = none → badWord v.frame.gen 2 t.node s = false →
    let n := nodeOf (setOf v.frame.gen s) t.node
    let w0 := nodeW n 0
    let so := t.cursor + bits w0 8 0
    let e := so + (bits w0 11 9 + (bits w0 16 12 + 1) + 7) / 8 - 1
    let nx := nodeNext n (extract v.frame.bytes so (bits w0 11 9) (bits w0 16 12 + 1) &&& nodeW n 1)
    w0.testBit 24 = false → w0.testBit 26 = false → bits w0 23 22 = 0 → Readable e t v → nx < 0x200 →
    let on : Thread := { t with nodes := t.nodes + 1, high := highRead t e, node := nx }
    (t.nodes < 23 → Gives (.trellisNodeVisit k) s (count 255 67 (setWalker k { walkerOf k s with job := some on } s))) ∧
    (t.nodes = 23 → Gives (.trellisVisitLimit k) s (putResult t.fid
      (resultOf { t with nodes := t.nodes + 1, high := highRead t e } 9 0)
      (count 255 67 (setWalker k { walkerOf k s with job := none } s))))) ∧
  (∀ (port fid : Nat) (v : VFrame) (r : ParseResult) (s : State), s.parse.order = [fid] → frameOf fid s = some v →
    v.frame.port = port → v.ended = true → Tbl.find s.parse.results fid = some r → r.reason ≠ 0 →
    malAction (setOf v.frame.gen s) port r.reason = 0 →
    let u := raise 60 r.reason (count port (448 + r.reason) (forgetParse fid s))
    foxTake (setOf v.frame.gen s) port 0 u = (false, u) →
    Gives (.parseResultDeliver port) s (admitFrame fid v.frame r true [] u))

/-- ETH_FRAME_RECEIVE of a whole good frame on a trunk port that is UP writes it into the Vat with the timestamp of
its start and counts it; one with a bad FCS is dropped and counted. PICKER_FAULT_RERUN discards the thread, re-runs
the frame from the start and raises EV61 RERUN; at the third fault the frame is dropped, counted and EV61 FAULT_DROP
raised. PSTORE_ECC_ERROR corrected is counted and raises EV61 PSTORE_CE; uncorrectable it makes the word bad until
PSTORE_REWRITE. Premises: no wake waits to be seen on the port, and the unit had no fault before. (derived:
spec/12_backbone_trunk_service_ports.md; spec/05_pickers_and_trellis.md) -/
def Obligations.FramesArriveAndFaultsRerunThem : Prop :=
  (∀ (port : Nat) (d : Bytes) (s : State), 8 ≤ port → port < 32 → portUp port s = true → (ethPort port s).rx = none → 60 ≤ d.length →
    d.length + 4 ≤ (ethPort port s).maxFrame → forwards s = true → wakeEth port d s = s →
    (let u := (intoVat port d (startStamp port s) false true (countRx port d.length d s)).2
     Gives (.ethFrameReceive port d true 0) s (setEthPort port { ethPort port u with rx := none } u)) ∧
    (let u := count port 4 s
     Gives (.ethFrameReceive port d true 1) s (setEthPort port { ethPort port u with rx := none } u))) ∧
  (∀ (k fid : Nat) (t : Thread) (v : VFrame) (s : State), (pickerOf k s).job = some t → (pickerOf k s).lastFault = none →
    t.fid = fid → frameOf fid s = some v →
    let u := setPicker k { pickerOf k s with job := none, faults := satAdd max32 (pickerOf k s).faults 1, lastFault := some (now s) } s
    (v.reruns ≠ 2 → Gives (.pickerFaultRerun false k) s
      (raise 61 0 (count 255 64 (rerunFrame fid (putFrame fid { v with reruns := v.reruns + 1 } u))))) ∧
    (v.reruns = 2 → Gives (.pickerFaultRerun false k) s (raise 61 4 (count 255 65 (dropParsed fid u))))) ∧
  (∀ (b : Bool) (kind addr : Nat) (s : State),
    Gives (.pstoreEccError b kind addr false) s (raise 61 5 (count 255 68 (memoryError 5 (65536 * kind + addr) false s))) ∧
    (kind = 1 → Ends (.pstoreEccError b kind addr true) s (fun t =>
      (b, kind, addr) ∈ t.parse.badWords ∧ t.alarms.status.getLsbD 16 = true ∧ t.vat = s.vat)) ∧
    Gives (.pstoreRewrite b kind addr) s
      { s with parse := { s.parse with badWords := s.parse.badWords.filter (fun w => !(w == (b, kind, addr))) } })

/-- SHARED is 98,304 minus 1,024 minus 8,192 minus the sum of RESERVE over all 1,024 queue slots, in every state whose
queue table is sorted and names queues below 1,024 only. CMD_VAT_QUEUE with OP 1 from MB0 applies RESERVE, MAX and
MAX_RES clamped, or answers NO_SPACE and changes nothing when the sum would exceed 89,088. At reset the sum is 320 and
SHARED 88,768. (R208) -/
def Obligations.SharedPoolIsWhatReservesLeave : Prop :=
  (∀ s : State, Tbl.sorted s.vat.queues = true → (∀ e ∈ s.vat.queues, e.1 < 1024) →
    sharedPool s = 98304 - 1024 - 8192 - sumBy (fun q => queueReserve q s) (List.range 1024)) ∧
  (∀ (p : Bytes) (s : State), p.length = 16 → isLimitQueue (u16 p 0) = true → u8 p 2 = 1 →
    let q := u16 p 0
    let res := min 16384 (u32 p 4)
    let mx := max (max 1 res) (min 98304 (u32 p 8))
    let u := setVatQueue q { vatQueue q s with reserve := held res (queueReserve0 q), max := held mx (queueMax0 q)
                                               maxRes := held (min 2000000 (u32 p 12)) (queueMaxRes0 q) } s
    (sumReserve u ≤ 89088 → Serves (.cmdVatQueue 0) 0 0x0700 p (vatQueueRsp q 1 u) s u) ∧
    (89088 < sumReserve u → ∀ t, Served 0 0x0700 t p s → Refuses (.cmdVatQueue 0) 0 stNoSpace s)) ∧
  sumReserve State.reset = 320 ∧ sharedPool State.reset = 88768

/-- RESIDENCE_SWEEP drops a copy over age at the head of a queue with MAX_RES, counts it and raises EV73. BADGER_AUDIT
of a sound item goes to the next item. VAT_ECC_ERROR corrected is counted and raises EV75; an uncorrectable one in a
descriptor of a queue unlinks the queue, is counted and raises EV75 and alarm 9. VINTNER_DIRECTED_SEND to a queue of
the port queues the frame as a control copy; without cells it is counted and raises EV72. MAC_AGE_SCAN with ageing on
removes the dynamic addresses not hit. TABLE_ECC_ERROR corrected is counted and raises EV66; TABLE_WORD_REWRITE makes
the word whole. PFC_REPEAT_TIMER repeats a pause frame above XON; PFC_FRAME_RECEIVE counts the frame and pauses the
priorities of PFC_RX_EN; PFC_PAUSE_EXPIRY ends a pause. (derived: spec/07_the_vat.md;
spec/06_classification_and_firewall.md) -/
def Obligations.TheVatAgesAuditsAndPauses : Prop :=
  (∀ (q : Nat) (x : Copy) (s : State), busyQueues s = [q] → copiesOf q s = [x] → 0 < queueMaxRes q s →
    overAge x (queueMaxRes q s) s = true → Gives .residenceSweep s (raise 73 0 (countQueue q 2 (dropHead q s)))) ∧
  (∀ s : State, 0 < s.vat.badgerAt → s.vat.badgerAt < 163839 → s.vat.leaked = [] → s.vat.marked = [] → s.vat.dup = [] →
    heldTwice (badgerItem s.vat.badgerAt) s = false →
    Gives .badgerAudit s { s with vat := { s.vat with badgerAt := s.vat.badgerAt + 1 } }) ∧
  (∀ (i : Nat) (s : State), Gives (.vatEccError 0 false i) s (raise 75 0 (count 255 96 (memoryError 0 i false s)))) ∧
  (∀ (q : Nat) (s : State), Gives (.vatEccError 2 true q) s
    (let u := (unlinkQueue q (memoryError 1 q true s)).2
     alarm 9 (locPort (queuePort q) (queueIdx q)) (raise 75 2 (count (queuePort q) 392 u)))) ∧
  (∀ (port queue : Nat) (d : Bytes) (launch : Option (Nat × Nat)) (s : State), queueOn port queue = true → queue ≠ 673 → d ≠ [] →
    (freeCells s < max 1 (cellsFor d.length) →
      Gives (.vintnerDirectedSend port queue d launch) s (hostCheck (raise 72 5 (count 130 387 s)))) ∧
    (max 1 (cellsFor d.length) ≤ freeCells s → Ends (.vintnerDirectedSend port queue d launch) s (fun t =>
      t.vat.nextFid = s.vat.nextFid + 1 ∧ t.sets = s.sets ∧ t.power = s.power ∧ t.otp = s.otp))) ∧
  (∀ s : State, 0 < s.flow.ageS → s.sets.shadow = .draining →
    Gives .macAgeScan s (countN 255 82 (agePool (activeSet s)).1 (withActive (agePool (activeSet s)).2 s))) ∧
  (∀ (b : Bool) (table i : Nat) (s : State),
    Gives (.tableEccError b table i false) s
      (raise 66 0 (count 255 84 (memoryError ([2, 3, 4, 4].getD table 11) i false s))) ∧
    ((b, table, i) ∈ s.flow.badWords → table ≠ 0 → Gives (.tableWordRewrite b table i) s
      { s with flow := { s.flow with badWords := s.flow.badWords.filter (fun w => !(w == (b, table, i))) } })) ∧
  (∀ (port prio : Nat) (s : State), (vatPort port s).xoffSent.getLsbD prio = true → (vatPort port s).pfcTx.getLsbD prio = true →
    (vatPort port s).xon < inOcc port prio s → Gives (.pfcRepeatTimer port prio) s
      (raise 76 0 (count port 393 (emit (.pfc port prio 0xFFFF) s)))) ∧
  (∀ (port prio : Nat) (q : Bytes) (s : State), prio < 8 → Tbl.sorted s.vat.paused = true →
    Ends (.pfcFrameReceive port (2 ^ prio) q) s (fun t =>
      prioPaused port prio t = (if (vatPort port s).pfcRx.getLsbD prio then decide (beN q (2 * prio) 2 ≠ 0) else prioPaused port prio s) ∧
      t.ctl = (count port 394 s).ctl ∧ t.vat.queues = s.vat.queues)) ∧
  (∀ (port prio : Nat) (s : State), Tbl.sorted s.vat.paused = true → Ends (.pfcPauseExpiry port prio) s (fun t =>
    prioPaused port prio t = false ∧ t.ctl = s.ctl ∧ t.vat.queues = s.vat.queues))

/-- EGRESS_SELECT on a port that may select and whose line is idle starts the copy that the procedure picks, and
changes nothing when nothing is eligible. TRANSMISSION_COMPLETE of a stored copy sends its bytes, counts it and frees
the line. GATE_ENTRY_CHANGE of a list before its BASE_TIME leaves the gates in their idle state; of a running one sets
the states of the entry that now holds. PREEMPT_VERIFY_ATTEMPT that succeeds activates preemption and raises EV82; the
third failure ends it. STREAM_GATE_ENTRY_CHANGE starts the entry that holds with a zero octet count.
MACSEC_HOLD_EXPIRY makes held copies be dropped. EDGE_QUEUE_TRANSFER hands the head of the highest queue that may go
to the controller. (derived: spec/08_egress_scheduling_shaping_policing.md; spec/12_backbone_trunk_service_ports.md)
-/
def Obligations.SchedulersSelectAndSend : Prop :=
  (∀ (p t i q : Nat) (x : Copy) (s u : State), maySelect p s = true → preemptOn (egrOf p s) = false → (egrOf p s).tx = none →
    (egrOf p s).txPre = none → pickOnce p .all s = (.send t i q x, u) → Gives (.egressSelect p 0) s (startCopy p t i q x false u)) ∧
  (∀ (p : Nat) (s : State), maySelect p s = true → preemptOn (egrOf p s) = false → (egrOf p s).tx = none →
    (egrOf p s).txPre = none → pickOnce p .all s = (.idle, s) → Gives (.egressSelect p 0) s s) ∧
  (∀ (p : Nat) (w : OnWire) (s : State), (egrOf p s).tx = some w → w.copy.ct = false →
    Gives (.transmissionComplete p false) s (sendDone p w (setEgr p { egrOf p s with tx := none } s)) ∧
    Ends (.transmissionComplete p false) s (fun t => t.out = .eth p w.bytes w.invert :: s.out ∧ t.vat = s.vat ∧ t.sets = s.sets)) ∧
  (∀ (p : Nat) (s : State),
    let l := gateListOf (activeSet s) p
    let idle := setEgr p { egrOf p s with running := false, states := gatesIdle (activeSet s) p, entry := 0, hold := false } s
    (l.entries = [] → Gives (.gateEntryChange p) s idle) ∧
    (l.entries ≠ [] → tbEnabled l.tb s = true → tbNow l.tb s < l.base → Gives (.gateEntryChange p) s idle) ∧
    (∀ (start i left : Nat) (x : GateEntry), l.entries ≠ [] → tbEnabled l.tb s = true → (egrOf p s).running = true →
      preemptOn (egrOf p s) = false → (egrOf p s).txPre = none → l.at_ (tbNow l.tb s) = some (start, i, x, left) →
      Gives (.gateEntryChange p) s
        (setEgr p { egrOf p s with states := x.states, entry := i, cycleStart := start, hold := false } s))) ∧
  (∀ (p : Nat) (s : State), (egrOf p s).preempt.state = 1 → portUp p s = true →
    let r := (egrOf p s).preempt
    Gives (.preemptVerifyAttempt p true) s (raise 82 0 (setEgr p { egrOf p s with preempt := { r with state := 2 } } s)) ∧
    (r.attempts = 2 → Gives (.preemptVerifyAttempt p false) s
      (raise 82 1 (count p 418 (setEgr p { egrOf p s with preempt := { r with state := 3, attempts := 3 } } s))))) ∧
  (∀ (g start i left : Nat) (x : GateEntry) (s : State),
    let l := (streamGateOf (activeSet s) g).list
    tbEnabled l.tb s = true → l.at_ (tbNow l.tb s) = some (start, i, x, left) →
    Gives (.streamGateEntryChange g) s (setSgate g (octetsIn start i (sgateState g s)) s)) ∧
  (∀ (p : Nat) (s : State), (macsecOf p s).txState = 1 →
    Gives (.macsecHoldExpiry p) s (setMacsec p { macsecOf p s with txState := 2 } s)) ∧
  (∀ (n k : Nat) (x : EdgeCopy) (s : State), (edgeChan n s).state = 3 → (edgeChan n s).mode ≠ 6 → forwards s = true →
    halted (32 + n) s = false → (∀ j < 4, dropBad (256 + 4 * n + j) (ageQueue (256 + 4 * n + j) s) = s) → k < 4 →
    (∀ j < 4, k < j → mayTransfer n j s = none) → mayTransfer n k s = some x →
    Gives (.edgeQueueTransfer n) s (ctlTake n x (takeHead n k s)))

/-- From a served mailbox, CMD_VAT_QUEUE with OP 0 answers the limits and occupancy of a queue; CMD_VAT_PORT with OP 0
answers those of a port and with OP 1 from MB0 applies them, clamped; CMD_VAT_STATUS answers FREE_LOW, the free list,
staging, reserves, the shared pool and the free descriptors; CMD_VAT_QUEUE_STATUS answers occupancy and copies of a
range of queues; CMD_VAT_PORT_RESET of a port resets it and answers how many copies it removed; CMD_VAT_BADGER answers
passes, the last pass's time, marked items and eight records; CMD_VAT_PEEK answers the descriptors at the head of a
queue; CMD_PREEMPT reads and sets; CMD_SCHED_STATUS answers the state of a scheduler. (derived: spec/07_the_vat.md;
spec/08_egress_scheduling_shaping_policing.md) -/
def Obligations.VatCommandsAnswer : Prop :=
  ∀ (mb : Nat) (p : Bytes) (s : State), mb < 5 →
    (p.length = 16 → u8 p 2 = 0 → isLimitQueue (u16 p 0) = true → Serves (.cmdVatQueue mb) mb 0x0700 p
      (b2 (u16 p 0) ++ b1 0 ++ zeros 1 ++ b4 (queueReserve (u16 p 0) s) ++ b4 (queueMax (u16 p 0) s) ++
        b4 (queueMaxRes (u16 p 0) s) ++ b4 (occ (u16 p 0) s) ++ b4 (copiesOf (u16 p 0) s).length) s s) ∧
    (p.length = 12 → isVatPort (u8 p 0) = true → u8 p 1 = 0 → Serves (.cmdVatPort mb) mb 0x0701 p
      (b1 (u8 p 0) ++ b1 0 ++ b1 (vatPort (u8 p 0) s).pfcTx.toNat ++ b1 (vatPort (u8 p 0) s).pfcRx.toNat ++
        b4 (portMaxOf (u8 p 0) s) ++ b2 (vatPort (u8 p 0) s).xoff ++ b2 (vatPort (u8 p 0) s).xon ++ b4 (pocc (u8 p 0) s) ++
        b1 (b2n (halted (u8 p 0) s)) ++ zeros 3) s s) ∧
    (p.length = 8 → u8 p 0 = 0 → Serves (.cmdVatStatus mb) mb 0x0702 p
      (b4 s.vat.freeLow ++ b4 (freeCells s) ++ b4 (stagedCells s) ++ b4 (ctrlUsed s) ++ b4 (sharedUsed s) ++ b4 (sharedPool s) ++
        b4 (sumReserve s) ++ b4 (descFree s)) s s) ∧
    (p.length = 4 → u16 p 0 + clamp 1 256 (u16 p 2) ≤ 1024 → Serves (.cmdVatQueueStatus mb) mb 0x0703 p
      (b2 (u16 p 0) ++ b2 (clamp 1 256 (u16 p 2)) ++ (List.range (clamp 1 256 (u16 p 2))).flatMap (fun i =>
        b4 (occ (u16 p 0 + i) s) ++ b4 (copiesOf (u16 p 0 + i) s).length)) s s) ∧
    (p.length = 4 → isVatPort (u8 p 0) = true →
      Serves (.cmdVatPortReset 0) 0 0x0704 p (b4 (portReset (u8 p 0) s).1) s (portReset (u8 p 0) s).2) ∧
    (p = [] → Serves (.cmdVatBadger mb) mb 0x0705 p
      (b4 s.vat.passes ++ b4 s.vat.passUs ++ b4 s.vat.marked.length ++ zeros 4 ++ slice (s.vat.records.flatMap badgerBytes) 0 96) s s) ∧
    (p.length = 3 → mb ≠ 3 → queuePort (u16 p 0) ≠ 255 → Serves (.cmdVatPeek mb) mb 0x0706 p
      (let cs := copiesOf (u16 p 0) s
       let n := min (clamp 1 64 (u8 p 2)) cs.length
       b2 n ++ zeros 2 ++ (List.range n).flatMap (fun i =>
         descBytes (cs.getD i {}) ((cs.drop (i + 1)).head?.elim 0xFFFF (·.desc)) s)) s s) ∧
    (p.length = 8 → u8 p 0 < 32 → u8 p 1 = 0 → Serves (.cmdPreempt mb) mb 0x0802 p (preemptRsp (u8 p 0) 0 s) s s) ∧
    (p.length = 8 → u8 p 0 < 32 → u8 p 1 = 1 →
      let r : Preempt := { en := bit p 2 0, verifyEn := bit p 2 1, express := BitVec.ofNat 8 (u8 p 3)
                           addFrag := min 3 (u8 p 4), verifyTime := clamp 1 128 (u16 p 6) }
      let n := if !r.en then 0 else if r.verifyEn then 1 else if portUp (u8 p 0) s then 2 else 0
      let u := setEgr (u8 p 0) { egrOf (u8 p 0) s with preempt := { r with state := n }, interrupted := false, hold := false } s
      Serves (.cmdPreempt 0) 0 0x0802 p (preemptRsp (u8 p 0) 1 u) s u) ∧
    (p.length = 4 → u8 p 0 < 32 → Serves (.cmdSchedStatus mb) mb 0x0803 p
      (let e := egrOf (u8 p 0) s
       b1 (b2n e.running) ++ b1 e.entry ++ b1 e.states ++ b1 e.preempt.state ++ b8 e.cycleStart ++
         sle 4 (tokenBytes (portTbBurst (activeSet s) (u8 p 0)) e.portSpent) ++ (List.range 8).flatMap (fun t =>
           sle 4 ((tcState e t).credit / 1000000) ++ sle 4 (tokenBytes (tcBurst (activeSet s) (u8 p 0) t) (tcState e t).spent) ++
             b1 (headCode (u8 p 0) t s) ++ zeros 3)) s s)

/-- On TARGET 0, CMD_SCHED_PORT, CMD_GATE_LIST, CMD_STREAM_FILTER, CMD_STREAM_GATE, CMD_METER and CMD_EDGE_QUEUES
answer the settings of the active set; on TARGET 1 from MB0, with the shadow free, they apply the settings clamped,
echo them and change only the shadow. A port whose groups mix a TC that is not fair with another answers CONFLICT.
CMD_POLICE_COUNTERS answers the counters of its table and clears them when asked; CMD_POLICE_UNLATCH clears a latch
that is set and answers NOT_FOUND otherwise. (derived: spec/08_egress_scheduling_shaping_policing.md) -/
def Obligations.SchedulerCommandsReadAndWriteSets : Prop :=
  ∀ (p : Bytes) (s : State),
    (p.length = 152 → u8 p 0 < 32 →
      ReadsActive .cmdSchedPort 0x0800 p (schedOf (activeSet s) (u8 p 0)) s ∧
      (let b := schedApply p (portRate (u8 p 0) s)
       (groupConflict b = false → SetsShadow (.cmdSchedPort 0) 0x0800 p b
         (fun c => { c with sched := Tbl.set c.sched (u8 p 0) b (sched0 (u8 p 0)) }) s) ∧
       (groupConflict b = true → ShadowFree 0 s → Served 0 0x0800 1 p s →
         exec (.cmdSchedPort 0) s = .next (mbDone 0 stConflict (shadowGen s) [] s)))) ∧
    (p.length = 16 + 8 * u16 p 2 → u8 p 0 < 32 →
      ReadsActive .cmdGateList 0x0801 p (gateRsp (u8 p 0) (gateListOf (activeSet s) (u8 p 0))) s ∧
      (u16 p 2 = 1 → u8 p 1 < 6 → u8 p 17 % 4 < 3 →
        let l : GateList := { tb := u8 p 1, base := u64 p 4, cycle := cycleTime (u32 p 12)
                              entries := [{ states := u8 p 16, op := u8 p 17 % 4, interval := gateTime (u32 p 20) }] }
        SetsShadow (.cmdGateList 0) 0x0801 p (gateRsp (u8 p 0) l)
          (fun c => { c with gates := Tbl.set c.gates (u8 p 0) l {} }) s)) ∧
    (p.length = 12 → u16 p 0 < 8192 →
      let rsp (b : Bytes) := b2 (u16 p 0) ++ b ++ zeros 2 ++ b1 (b2n (Tbl.get s.flow.blocked (u16 p 0) false)) ++ zeros 3
      ReadsActive .cmdStreamFilter 0x0804 p (rsp (filterOf (activeSet s) (u16 p 0))) s ∧
      (u16 p 6 < 1024 ∨ u16 p 6 = 0xFFFF → u16 p 8 < 8192 ∨ u16 p 8 = 0xFFFF →
        let b := b1 (u8 p 2 % 4) ++ b1 (u8 p 3) ++ b2 (min 16383 (u16 p 4)) ++ b2 (u16 p 6) ++ b2 (u16 p 8)
        SetsShadow (.cmdStreamFilter 0) 0x0804 p (rsp b)
          (fun c => { c with filters := Tbl.set c.filters (u16 p 0) b filter0 }) s)) ∧
    (p.length = 20 + 12 * u16 p 16 → u16 p 0 < 1024 →
      ReadsActive .cmdStreamGate 0x0805 p (streamGateRsp (u16 p 0) (streamGateOf (activeSet s) (u16 p 0))) s ∧
      (u16 p 16 = 0 → u8 p 2 < 6 → (sumBy (fun e => e.2.list.entries.length) (Tbl.erase (shadowSet s).streamGates (u16 p 0))) ≤ 16384 →
        let x : StreamGate := { flags := u8 p 3 % 8, list := { tb := u8 p 2, base := u64 p 4, cycle := cycleTime (u32 p 12), entries := [] } }
        SetsShadow (.cmdStreamGate 0) 0x0805 p (streamGateRsp (u16 p 0) x)
          (fun c => { c with streamGates := Tbl.set c.streamGates (u16 p 0) x {} }) s)) ∧
    (p.length = 20 → u16 p 0 < 8192 →
      let t := meterTokens (meterOf (activeSet s) (u16 p 0)) (u16 p 0) s
      let b := b1 (u8 p 2 % 16) ++ zeros 1 ++ b4 (min 200000000 (u32 p 4)) ++ b4 (min 16777215 (u32 p 8)) ++
        b4 (min 200000000 (u32 p 12)) ++ b4 (min 16777215 (u32 p 16))
      ReadsActive .cmdMeter 0x0806 p (b2 (u16 p 0) ++ meterOf (activeSet s) (u16 p 0) ++ b4 t.1 ++ b4 t.2) s ∧
      SetsShadow (.cmdMeter 0) 0x0806 p (b2 (u16 p 0) ++ b ++ b4 t.1 ++ b4 t.2)
        (fun c => { c with meters := Tbl.set c.meters (u16 p 0) b (zeros 18) }) s) ∧
    (p.length = 8 → u8 p 0 < 96 →
      let b := (List.range 4).flatMap (fun k => b1 (min 32 (u8 p (1 + k)))) ++ b1 (u8 p 5)
      ReadsActive .cmdEdgeQueues 0x0809 p (b1 (u8 p 0) ++ edgeQueuesOf (activeSet s) (u8 p 0) ++ zeros 2) s ∧
      (u8 p 5 < 4 ∨ u8 p 5 = 0xFF → sumBy (fun k => u8 b k) (List.range 4) ≤ 32 →
        SetsShadow (.cmdEdgeQueues 0) 0x0809 p (b1 (u8 p 0) ++ b ++ zeros 2)
          (fun c => { c with edgeQueues := Tbl.set c.edgeQueues (u8 p 0) b edgeQueues0 }) s)) ∧
    (∀ mb < 5, p.length = 10 → u8 p 0 = 0 → u32 p 4 < 8192 → bit p 1 0 = false →
      let n := min (clamp 1 100 (u16 p 8)) (8192 - u32 p 4)
      Serves (.cmdPoliceCounters mb) mb 0x0807 p (b4 (u32 p 4) ++ b2 n ++ zeros 2 ++
        ((List.range n).flatMap (fun i => (List.range 5).map (fun j => (ecFilter 0 + j, u32 p 4 + i)))).flatMap
          (fun e => b8 (entryCounter e.1 e.2 s))) s s) ∧
    (p.length = 4 → u8 p 0 = 0 → u16 p 2 < 8192 →
      (Tbl.get s.flow.blocked (u16 p 2) false = true → Serves (.cmdPoliceUnlatch 0) 0 0x0808 p [] s
        { s with flow := { s.flow with blocked := Tbl.set s.flow.blocked (u16 p 2) false false } }) ∧
      (Tbl.get s.flow.blocked (u16 p 2) false = false → ∀ t, Served 0 0x0808 t p s → Refuses (.cmdPoliceUnlatch 0) 0 stNotFound s))

/-- CMD_TB_STEP of TB1 to TB5 with an offset, when the host owns the time base and it is ENABLED, adds the offset to
its count in one step, clamped so that the count does not fall below zero, moves it to STEPPED and answers the applied
offset and TB0. In STEPPED the command answers STEP_USED and changes nothing. (R271) -/
def Obligations.ATimeBaseStepsOnce : Prop :=
  ∀ (n : Nat) (p : Bytes) (s : State), 1 ≤ n → n ≤ 5 → p.length = 24 → u8 p 0 = n → u8 p 1 = 0 →
    ((tbOf n s).state = .enabled → hostOwns n s = true →
      let want := (BitVec.ofNat 64 (u64 p 8)).toInt
      let off : Int := if ((tbOf n s).count : Int) + want < 0 then -((tbOf n s).count : Int) else want
      let u := (stepTb n want s).2
      Serves (.cmdTbStep 0) 0 0x0901 p (sle 8 off ++ b8 (now u)) s u ∧
      (Tbl.sorted s.time.tb = true → tbOf n u = { tbOf n s with
        state := .stepped, count := (((tbOf n s).count : Int) + off).toNat % 18446744073709551616, lastEvent := now s })) ∧
    ((tbOf n s).state = .stepped → ∀ t, Served 0 0x0901 t p s → Refuses (.cmdTbStep 0) 0 stStepUsed s)

/-- CMD_TB_RATE of an ENABLED or STEPPED time base that the host owns writes RATE, absolute or relative, clamped to
plus or minus 8,796,093,022, echoes it and changes nothing else. A TIME cycle advances the count with its fraction by
2 times (2^44 plus RATE) units of 2^-44 ns. (R272) -/
def Obligations.RatesAreClampedAndTakeEffect : Prop :=
  (∀ (n : Nat) (p : Bytes) (s : State), 1 ≤ n → n ≤ 5 → p.length = 16 → u8 p 0 = n → u8 p 1 < 2 →
    (tbOf n s).state = .enabled ∨ (tbOf n s).state = .stepped → hostOwns n s = true →
    let v : Int := max (-8796093022) (min 8796093022
      ((BitVec.ofNat 64 (u64 p 8)).toInt + (if u8 p 1 = 1 then (tbOf n s).rate else 0)))
    Serves (.cmdTbRate 0) 0 0x0902 p (sle 8 v) s (setTb n { tbOf n s with rate := v } s)) ∧
  (∀ t : TimeBase, t.state ≠ .disabled → t.frac < 17592186044416 → -8796093022 ≤ t.rate → t.rate ≤ 8796093022 →
    let x : Int := (t.count : Int) * 17592186044416 + t.frac + 2 * (17592186044416 + t.rate)
    ((tbTick t).count : Int) = x / 17592186044416 % 18446744073709551616 ∧ ((tbTick t).frac : Int) = x % 17592186044416 ∧
    (tbTick t).rate = t.rate ∧ (tbTick t).state = t.state) ∧
  (∀ s : State, timeRuns s = true → Ends .timeCycleTick s (fun t =>
    t.time.tb = s.time.tb.map (fun e => (e.1, tbTick e.2)) ∧ t.vat = s.vat ∧ t.ctl = s.ctl ∧ t.sets = s.sets))

/-- CMD_TB_ENABLE takes a DISABLED time base to ENABLED with count, fraction and RATE zero, and answers STATE if it is
enabled already; disabling an unbound one applies a reset and then DISABLED. CMD_TB_RESET resets it and answers the
DATA of its notice. CMD_TB_STATUS answers the six time bases. COMPARE_FIRE of an armed unit whose time has come
disarms it, or adds PERIOD, and acts as the unit's firing; on a time base that is not enabled it does nothing.
CAPTURE_EDGE reaches the units of its source: one that is not VALID stores the count and raises its cause, one that is
VALID keeps its value, sets OVERRUN and raises the overrun cause. PPS_PULSE_END at the end of a pulse drives the
output back. (derived: spec/09_time_bases.md) -/
def Obligations.TimeUnitsActOnTime : Prop :=
  (∀ (n : Nat) (p : Bytes) (s : State), 1 ≤ n → n ≤ 5 → p.length = 4 → u8 p 0 = n →
    (u8 p 1 = 1 → (tbOf n s).state = .disabled →
      let u := gateRejoin n (setTb n { tbOf n s with state := .enabled, count := 0, frac := 0, rate := 0, firstSync := true } s)
      Serves (.cmdTbEnable 0) 0 0x0900 p (b4 (tbStateWord n u)) s u) ∧
    (u8 p 1 = 1 → (tbOf n s).state ≠ .disabled → ∀ t, Served 0 0x0900 t p s → Refuses (.cmdTbEnable 0) 0 stState s) ∧
    (u8 p 1 = 0 → (tbOf n s).state ≠ .disabled → boundSlot n s = none → s.upd.state ≠ 3 →
      let u := (resetTb n true s).2
      Serves (.cmdTbEnable 0) 0 0x0900 p (b4 (tbStateWord n u)) s u) ∧
    ((tbOf n s).state ≠ .disabled → hostOwns n s = true → s.upd.state ≠ 3 →
      Serves (.cmdTbReset 0) 0 0x0903 p (b4 (resetTb n false s).1) s (resetTb n false s).2)) ∧
  (∀ (mb : Nat) (s : State), Serves (.cmdTbStatus mb) mb 0x0904 [] ((List.range 6).flatMap (fun n =>
    b4 (tbStateWord n s) ++ zeros 4 ++ sle 8 (tbOf n s).rate ++ b8 (tbNow n s) ++ b8 (tbOf n s).lastEvent)) s s) ∧
  (∀ (n k : Nat) (s : State), timeRuns s = true →
    let c := cmpOf n k s
    (tbEnabled n s = true → c.arm = true → c.time ≤ tbNow n s →
      (c.period = 0 → Gives (.compareFire n k) s (cmpFired n k (setCmp n k { c with arm := false } s))) ∧
      (c.period ≠ 0 → Gives (.compareFire n k) s
        (cmpFired n k (setCmp n k { c with time := (c.time + c.period) % 18446744073709551616 } s)))) ∧
    (tbEnabled n s = false → Gives (.compareFire n k) s s)) ∧
  (∀ (n k : Nat) (s : State), (cmpOf n k s).out = 0 → n ≠ 0 →
    cmpFired n k s = raise (16 + n) k (count 255 (115 + 4 * n) s)) ∧
  (∀ (source : Nat) (rising : Bool) (s : State), source < 2 → timeRuns s = true → Gives (.captureEdge source rising) s
    (captureAll source (if rising then 1 else 2) (raise 22 (2 + source) s))) ∧
  (∀ (n k : Nat) (s : State),
    ((capOf n k s).valid = false →
      capture n k s = raise (16 + n) (4 + k) (setCap n k { capOf n k s with value := tbNow n s, valid := true } s)) ∧
    ((capOf n k s).valid = true → capture n k s = raise (16 + n) (8 + k) (setCap n k { capOf n k s with overrun := true } s))) ∧
  (∀ (k : Nat) (s : State), (ppsOf k s).active = true → (ppsOf k s).until_ ≤ now s →
    Gives (.ppsPulseEnd k) s (emit (.pps k (ppsOf k s).invert) (setPps k { ppsOf k s with active := false } s)))

/-- GPTP_SYNC_RECEIVE without a timestamp is counted and taken no further; the first Sync beyond STEP_MIN steps an
ENABLED time base by the offset and the slot goes on UNLOCKED. GPTP_SYNC_TX_TIMER sends and counts a Sync on a master
port; GPTP_SYNC_TIMEOUT raises SYNC_LOST once and goes on UNLOCKED. GPTP_ANNOUNCE_RECEIVE on a slot under BMCA that
may not be master takes the first master heard. GPTP_PDELAY_TIMER sends a request, GPTP_PDELAY_RESPONSE within the
limits makes the port asCapable, GPTP_PDELAY_REQUEST_RX sends two answers. CMD_GPTP_DOMAIN, CMD_GPTP_PORT and
CMD_GPTP_STATUS read, and the first two set. The contents of gPTP frames and the servo are the model's choices (log
entry 43). (derived: spec/09_time_bases.md) -/
def Obligations.GptpKeepsTime : Prop :=
  (∀ (slot port gm steps : Nat) (off : Int) (s : State),
    let g := gptpSlot slot s
    g.valid = true → g.state ≠ 4 → slavePort g = some port → (gptpPort port s).en = true → portUp port s = true →
    copiesOf 673 s = [] →
    Gives (.gptpSyncReceive slot port off steps gm false) s (count port 502 (count port 496 s)) ∧
    ((tbOf g.tb s).firstSync = true → (tbOf g.tb s).state = .enabled → (g.stepMin : Int) < off.natAbs →
      let a := gmChange slot gm (count port 496 s)
      let b := setGptpSlot slot { gptpSlot slot a with offset := off, lastSync := now a, steps := steps, lost := false } a
      Gives (.gptpSyncReceive slot port off steps gm true) s
        (gptpState slot 2 (stepTb g.tb (-off) (setTb g.tb { tbOf g.tb b with firstSync := false } b)).2))) ∧
  (∀ (slot port : Nat) (s : State),
    let g := gptpSlot slot s
    (g.valid = true → g.external = true → port ∈ masterPorts g s → gptpSends port s = true → g.state = 4 →
      Gives (.gptpSyncTxTimer slot port) s (count port 497 (gptpSend port s))) ∧
    (g.valid = true → g.state = 2 ∨ g.state = 3 → g.lost = false → Gives (.gptpSyncTimeout slot) s (gptpState slot 2
      (raise (16 + g.tb) 17 (setGptpSlot slot { g with lost := true, lockRun := 0, jumpRun := 0, best := none } s))))) ∧
  (∀ (slot port prio1 quality prio2 gm steps : Nat) (s : State), (gptpPort port s).en = true → portUp port s = true →
    copiesOf 673 s = [] →
    let g := gptpSlot slot s
    (g.valid = true → g.external = false → g.role = 0 → g.best = none → g.state ≠ 4 →
      let m : Master := { prio1 := prio1, quality := quality, prio2 := prio2, gm := gm, steps := steps + 1, port := port }
      Gives (.gptpAnnounceReceive slot port prio1 quality prio2 gm steps) s
        (gmChange slot gm (setGptpSlot slot { g with best := some m, steps := steps + 1 } (count port 501 s)))) ∧
    (gptpSends port s = true → Gives (.gptpPdelayRequestRx port) s (gptpSend port (gptpSend port s)))) ∧
  (∀ (port : Nat) (s : State), gptpSends port s = true → (gptpPort port s).waiting = false → Gives (.gptpPdelayTimer port) s
    (count port 498 (gptpSend port (setGptpPort port { gptpPort port s with waiting := true, answered := none } s)))) ∧
  (∀ (port n d : Nat) (ratio : Int) (s : State), (gptpPort port s).en = true → portUp port s = true → copiesOf 673 s = [] →
    (gptpPort port s).answered = none → (gptpPort port s).waiting = true → d ≤ (gptpPort port s).thresh →
    let u := setGptpPort port { gptpPort port s with
      waiting := false, answered := some n, lost := 0, delay := d, ratio := ratio, neighbour := n } (count port 499 s)
    Gives (.gptpPdelayResponse port n d ratio true) s (setGptpPort port { gptpPort port u with asCapable := true } u)) ∧
  (∀ (mb : Nat) (p : Bytes) (s : State),
    (p.length = 28 → u8 p 0 < 5 → u8 p 1 = 0 → Serves (.cmdGptpDomain mb) mb 0x0905 p (gptpSlotBytes (u8 p 0) 0 s) s s) ∧
    (p.length = 28 → u8 p 0 < 5 → u8 p 1 = 1 → bit p 2 0 = false → u8 p 3 < 128 → 1 ≤ u8 p 4 → u8 p 4 ≤ 5 → u8 p 5 < 3 →
      u8 p 11 < 32 ∨ u8 p 11 = 0xFF →
      let g : GptpSlot :=
        { external := bit p 2 1, jumpAction := bit p 2 2, domain := u8 p 3, tb := u8 p 4, role := u8 p 5
          prio1 := u8 p 6, prio2 := u8 p 7, logSync := max (-7) (min 0 (i8 p 8)), logAnnounce := max (-3) (min 3 (i8 p 9))
          timeout := max 2 (u8 p 10), slavePort := u8 p 11, masters := u32 p 12, stepMin := min 1000000 (u32 p 16)
          lockThresh := clamp 1 100000 (u32 p 20), jumpLimit := clamp 1000 1000000000 (u32 p 24), state := (gptpSlot (u8 p 0) s).state }
      let u := gptpState (u8 p 0) 0 (setGptpSlot (u8 p 0) g s)
      Serves (.cmdGptpDomain 0) 0 0x0905 p (gptpSlotBytes (u8 p 0) 1 u) s u) ∧
    (p.length = 16 → u8 p 0 < 32 → u8 p 1 = 0 → Serves (.cmdGptpPort mb) mb 0x0906 p (gptpPortBytes (u8 p 0) 0 s) s s) ∧
    (p.length = 16 → u8 p 0 < 32 → u8 p 1 = 1 → bit p 2 0 = true →
      let u := setGptpPort (u8 p 0) { gptpPort (u8 p 0) s with
        en := true, logPdelay := max (-3) (min 3 (i8 p 3)), ing := i16 p 4, egr := i16 p 6
        thresh := min 1000000 (u32 p 8), allowed := max 1 (u8 p 12) } s
      Serves (.cmdGptpPort 0) 0 0x0906 p (gptpPortBytes (u8 p 0) 1 u) s u) ∧
    (p.length = 1 → u8 p 0 < 5 → Serves (.cmdGptpStatus mb) mb 0x0907 p
      (let g := gptpSlot (u8 p 0) s
       b1 g.state ++ b1 ((slavePort g).getD 0xFF) ++ b2 g.steps ++ b8 g.gm ++ sle 8 g.offset ++
         sle 8 (if g.valid then (tbOf g.tb s).rate else 0) ++ b8 g.lastSync) s s))

/-- EDGE_FRAME_RECEIVE of a good frame that the mode receives counts it, stores it with its edge header and, on an
ACTIVE channel, lowers REC; a frame in error is counted and never stored. EDGE_FRAME_TO_VAT gives the first frame of
the FIFO to the Vat with the active generation if the filter accepts it, and else counts it. EDGE_INTEGRATION_COMPLETE
makes the channel ACTIVE or LISTEN_ONLY. CAN_TX_ATTEMPT starts the only copy held; CAN_TX_ATTEMPT_END sends it and
lowers TEC, or keeps it after lost arbitration. BUS_OFF_RECOVERY with BUSOFF_AUTO returns to ACTIVE; LT_WINDOW_EXPIRY
drops the copies whose window has ended. (derived: spec/10_edge_channels.md;
spec/08_egress_scheduling_shaping_policing.md) -/
def Obligations.EdgeFramesArriveAndLeave : Prop :=
  (∀ (n kind flags ctrl ident prio vcid ago : Nat) (d : Bytes) (s : State), s.sleep.asleep = false → s.pair.state ≠ 5 →
    let c := edgeChan n s
    isCan c.mode = true → modeReceives c.mode kind = true →
    let ts := tbAgo ago s
    let f : Frame := { bytes := edgeHeader n kind c.tsTb flags ctrl ident d.length prio vcid (ts.getD c.tsTb 0 % 4294967296) ++ d,
                       port := 32 + n, edge := true, kind := kind, ts := ts }
    let u := countN (32 + n) 1 d.length (countEdge n 0 s)
    (c.state = 4 → Gives (.edgeFrameReceive n kind flags ctrl ident prio vcid d ago 0) s (rxStore n f u)) ∧
    (c.state = 3 → c.rec_ ≤ 127 → Gives (.edgeFrameReceive n kind flags ctrl ident prio vcid d ago 0) s
      (let v : State := { u with fresh := u.fresh + 1 }
       rxStore n f (passiveCheck n (setEdgeChan n { edgeChan n v with rec_ := c.rec_ - 1 } v))))) ∧
  (∀ (n kind flags ctrl ident prio vcid ago err : Nat) (d : Bytes) (s : State), s.sleep.asleep = false → s.pair.state ≠ 5 →
    (edgeChan n s).state = 3 ∨ (edgeChan n s).state = 4 → err ≠ 0 →
    Gives (.edgeFrameReceive n kind flags ctrl ident prio vcid d ago err) s (rxError n err s)) ∧
  (∀ (n : Nat) (f : Frame) (rest : List Frame) (s : State), (edgeChan n s).rx = f :: rest → s.sleep.gated = false →
    s.sleep.asleep = false →
    let u := setEdgeChan n { edgeChan n s with rx := rest } s
    (acceptedNow n f u = false → Gives (.edgeFrameToVat n) s (countEdge n 4 u)) ∧
    (∀ (fid : Nat) (v : State), acceptedNow n f u = true → fromSuppressed (32 + n) f.edge f.bytes u = true →
      stageFrame { f with gen := s.sets.gen } true u = (some fid, v) → Gives (.edgeFrameToVat n) s (commitFrame fid v)) ∧
    (∀ (fid : Nat) (v : State), acceptedNow n f u = true → fromSuppressed (32 + n) f.edge f.bytes u = false →
      stageFrame { f with gen := s.sets.gen } true (confirmChannel n u) = (some fid, v) →
      Gives (.edgeFrameToVat n) s (commitFrame fid v))) ∧
  (∀ (n : Nat) (s : State), (edgeChan n s).state = 2 → (edgeChan n s).mode ≠ 8 →
    Gives (.edgeIntegrationComplete n) s (chanState n (if (edgeChan n s).listen then 4 else 3) s)) ∧
  (∀ (n : Nat) (x : EdgeCopy) (s : State), Tbl.sorted s.edge.ch = true → isCan (edgeChan n s).mode = true →
    (edgeChan n s).state = 3 → (edgeChan n s).tx = none → s.sleep.asleep = false → (edgeChan n s).held = [x] →
    launched x s = true → ctlExpired (edgeChan n s) x s = (false, false) →
    Ends (.canTxAttempt n) s (fun t => (edgeChan n t).tx = some x ∧ (edgeChan n t).held = [x] ∧ t.vat = s.vat ∧ t.ctl = s.ctl)) ∧
  (∀ (n kind : Nat) (dp : Bool) (x : EdgeCopy) (s : State), (edgeChan n s).tx = some x →
    let c := edgeChan n s
    (ehKind x.bytes ≠ 2 → Gives (.canTxAttemptEnd n 0 kind dp) s (passiveCheck n (setEdgeChan n
      { c with tx := none, held := c.held.erase x, tec := c.tec - 1 }
      (emit (.bus n x.bytes) (countN (32 + n) 3 (ehLength x.bytes) (countEdge n 2 s)))))) ∧
    (let u := countEdge n 8 (setEdgeChan n { c with tx := none } s)
     x.launch = none → (edgeChan n u).tec < 256 → Gives (.canTxAttemptEnd n 1 kind dp) s u)) ∧
  (∀ (n : Nat) (s : State), (edgeChan n s).state = 5 → (edgeChan n s).flags.testBit 0 = true → Gives (.busOffRecovery n) s
    (chanSet 3 n (setEdgeChan n { edgeChan n s with tec := 0, rec_ := 0, passive := false } s))) ∧
  (∀ (n : Nat) (s : State), (edgeChan n s).mode ≠ 6 → Gives (.ltWindowExpiry n) s (ctlSweep n (fun x => windowOver (edgeChan n s) x s) false s))

/-- LIN_SLOT_START of an unconditional entry sends its header; LIN_RESPONSE_TIMEOUT ends the wait, counts it and
writes the error FIFO; LIN_HEADER_RECEIVE with an error in the sync field is counted, and a slave then awaits a
SUBSCRIBE response. FR_SLOT sends the transmit buffer of the slot; FR_POC_CHANGE to NORMAL_PASSIVE is counted and
raises FR_STATE. T1S_TX_OPPORTUNITY sends one frame, and counts a collision; T1S_BEACON_TIMEOUT is counted.
LIN_STUCK_DOMINANT and TRX_FAULT_PERSIST retire the channel at once; T1S_JABBER is counted and retires it at the third
fault within 60 s. (derived: spec/10_edge_channels.md) -/
def Obligations.LinFlexRayAndT1sRun : Prop :=
  (∀ (n lim : Nat) (s : State),
    let ts := faultsNow (edgeChan n s).faults 60000000000 s
    let u := setEdgeChan n { edgeChan n s with faults := ts, lastFault := now32 s } s
    chanFault n lim s = if lim ≤ ts.length then (true, retireChan n u) else (false, u)) ∧
  (∀ (n : Nat) (s : State), (edgeChan n s).state = 3 → s.sleep.asleep = false →
    (∀ e, (edgeChan n s).mode = 4 → (edgeChan n s).select = none → (edgeChan n s).resume = none →
      Tbl.get (edgeChan n s).tables (edgeChan n s).table [] = [e] → bits e 7 6 = 0 →
      Ends (.linSlotStart n) s (fun t => Output.linHeader n (bits e 5 0) ∈ t.out ∧ t.vat = s.vat ∧ t.sets = s.sets)) ∧
    (∀ p, isLin (edgeChan n s).mode = true → (edgeChan n s).await = some p → Gives (.linResponseTimeout n) s
      (edgeErr n 7 false false (countEdge n 14 (setEdgeChan n { edgeChan n s with await := none } s)))) ∧
    (∀ ident, (edgeChan n s).mode = 5 →
      Gives (.linHeaderReceive n ident false) s (edgeErr n 8 false false (countEdge n 17 s)) ∧
      (Tbl.get (edgeChan n s).ids ident 0 % 4 = 1 → Gives (.linHeaderReceive n ident true) s
        (setEdgeChan n { edgeChan n s with await := some (ident, none) } s))) ∧
    (isLin (edgeChan n s).mode = true → Gives (.linStuckDominant n) s (chanFault n 1 (edgeEv n 21 s)).2) ∧
    ((edgeChan n s).trxFault = true → Gives (.trxFaultPersist n) s (chanFault n 1 s).2) ∧
    ((edgeChan n s).mode = 6 →
      Gives (.t1sBeaconTimeout n) s (countEdge n 24 (setEdgeChan n { edgeChan n s with beacon := false } s)) ∧
      Gives (.t1sJabber n) s (chanFault n 3 (edgeEv n 23 (countEdge n 25 s))).2 ∧
      (forwards s = true → halted (32 + n) s = false →
        Gives (.t1sTxOpportunity n 0 1) s (edgeErr n 11 false true (countEdge n 23 s)) ∧
        (∀ (k : Nat) (x : EdgeCopy), t1sLate n (fun y => windowPast (edgeChan n s) y s) s = s → (∀ j < 4, dropBad (256 + 4 * n + j) (ageQueue (256 + 4 * n + j) s) = s) →
          t1sPick n s = some (k, x) → x.edge = false → 60 ≤ x.bytes.length → x.bytes.length ≤ 1518 →
          Gives (.t1sTxOpportunity n 1 0) s
            (emit (.bus n x.bytes) (countN (32 + n) 3 x.bytes.length (countEdge n 2 (takeHead n k s)))))))) ∧
  (∀ (f : Nat) (s : State), (edgeChan (2 * f) s).mode = 7 → (edgeChan (2 * f) s).state = 3 → s.sleep.asleep = false →
    (∀ (slot cycle w : Nat), (frCtl f s).poc = 5 → (frCtl f s).bufs = [w] → frBufHit w true slot (some cycle) false = true →
      Gives (.frSlot f slot cycle) s (frSend f 0 slot s)) ∧
    Gives (.frPocChange f 6) s (edgeEv (2 * f) 22 (countEdge (2 * f) 20 (setFrCtl f { frCtl f s with poc := 6 } s))))

/-- TMC_FRAME with use FULL sends the outbound frame; an inbound frame with a bit 3 at 1 is discarded and counted in
TMC_FRAME_ERR of the cluster, every channel keeps the status of the last good frame and its state, and the sixteenth
discarded frame in a row raises EV(46 + m) TMC_CHAIN with its record. A good frame ends the row. (R322) -/
def Obligations.ChainFramesWithBit3AreDiscarded : Prop :=
  (∀ (m inbound k : Nat) (s : State), m < 6 → (edgeCl m s).use = 2 → s.sleep.asleep = false → s.power.railGood.getLsbD 5 = true →
    k < 16 → inbound.testBit (4 * k + 3) = true →
    let o := frameOut m s
    let u := count 255 (136 + m) (setEdgeCl m
      { edgeCl m s with outFrame := o, bad := satAdd max32 (edgeCl m s).bad 1 } (emit (.tmc m o) s))
    let t := if (edgeCl m s).bad + 1 = 16 then trace 1 (46 + m) 19 (chanLoc (16 * m)) (raise (46 + m) 19 u) else u
    Gives (.tmcFrame m inbound) s t ∧ t.edge.ch = s.edge.ch) ∧
  (∀ (m inbound : Nat) (s : State), m < 6 → (edgeCl m s).use = 2 → s.sleep.asleep = false → s.power.railGood.getLsbD 5 = true →
    (∀ k < 16, inbound.testBit (4 * k + 3) = false) →
    let o := frameOut m s
    let u := setEdgeCl m { edgeCl m s with outFrame := o, inFrame := inbound, bad := 0 } (emit (.tmc m o) s)
    Gives (.tmcFrame m inbound) s
      (forEach (List.range 16) (fun k s => tmcNibble m (16 * m + k) (inbound / 16 ^ k % 16) s) u))

/-- CMD_EDGE_CONFIG, CMD_LIN_TABLE, CMD_FR_CONFIG, CMD_T1S_PLCA and CMD_TMC with OP 0 answer the settings, and with OP
1 from MB0, in the states that allow it, apply them clamped and echo them; CMD_EDGE_STATE moves a channel that is
neither OFF nor RETIRED; CMD_EDGE_STATUS answers its state and counters; CMD_EDGE_FILTER reads the active and writes
the shadow set; CMD_EDGE_RETIRE retires a channel; CMD_EDGE_READMIT returns a retired one to DOWN or OFF with an empty
fault history. (derived: spec/10_edge_channels.md) -/
def Obligations.EdgeCommandsAnswer : Prop :=
  ∀ (mb : Nat) (p : Bytes) (s : State), mb < 5 →
    let n := u8 p 0
    let c := edgeChan n s
    (p.length = 48 → n < 96 → u8 p 1 = 0 → ServesOver (.cmdEdgeConfig mb) mb 0x0300 p (edgeConfigRsp n 0 s) s s) ∧
    (p.length = 48 → n < 96 → u8 p 1 = 1 → u8 p 3 < 6 → c.state = 0 ∨ c.state = 1 ∨ c.state = 6 → u8 p 2 < 6 → c.mode ≠ 8 →
      let t := timingApply (slice p 8 14)
      ratesOk (u8 p 2) (bit p 4 3) t = true →
      let v := modeWrite n (u8 p 2) s
      let u := setEdgeChan n { edgeChan n v with
        tsTb := u8 p 3, flags := u8 p 4 % 16, timing := t, baud := clamp 1000 20000 (u32 p 24),
        ltWindow := [28, 32, 36, 40].map (fun i => min 1000000000 (u32 p i)) } v
      ServesOver (.cmdEdgeConfig 0) 0 0x0300 p (edgeConfigRsp n 1 u) s u) ∧
    (p.length = 4 → n < 96 → u8 p 1 ≤ 2 → 1 ≤ c.state → c.state ≤ 5 → c.mode ≠ 8 → c.mode ≠ 6 →
      let u := edgeStateOp n (u8 p 1) s
      ServesOver (.cmdEdgeState 0) 0 0x0301 p (b4 (edgeChan n u).state) s u) ∧
    (p.length = 1 → n < 96 → Serves (.cmdEdgeStatus mb) mb 0x0302 p
      (b1 c.state ++ b1 (min 255 c.tec) ++ b1 (min 255 c.rec_) ++
        b1 (countIf (fun t => decide (now s < t + 60000000000)) c.faults) ++ b1 c.tmcIn ++ b1 (nibbleOut n s) ++ b1 (subState n s) ++
        b1 (heldCount n s) ++ b4 c.lastFault) s s) ∧
    (p.length = 4 + 12 * u8 p 2 → 1 ≤ u8 p 2 → u8 p 2 ≤ 16 → n < 96 → u8 p 1 < 64 → u8 p 1 + u8 p 2 ≤ 64 → c.mode ≠ 6 →
      ReadsActive .cmdEdgeFilter 0x0303 p (slice p 0 3 ++ zeros 1 ++
        (List.range (u8 p 2)).flatMap (fun i => accEntry (activeSet s) n (u8 p 1 + i))) s ∧
      SetsShadow (.cmdEdgeFilter 0) 0x0303 p (slice p 0 3 ++ zeros 1 ++
          (List.range (u8 p 2)).flatMap (fun i => accApply (slice p (4 + 12 * i) 12)))
        (fun c => (List.range (u8 p 2)).foldl (fun c i =>
          let e := accApply (slice p (4 + 12 * i) 12)
          { c with acceptance := Tbl.set c.acceptance (64 * n + (u8 p 1 + i)) e (zeros 12) }) c) s) ∧
    (p.length = 1 → n < 96 → 1 ≤ c.state → c.state ≤ 5 → mb = 0 ∨ mb = 2 →
      Serves (.cmdEdgeRetire mb) mb 0x0304 p (b1 n) s (retireChan n s)) ∧
    (p.length = 1 → n < 96 → c.state = 6 → c.trxFault = false → c.mode < 7 →
      let v := chanSet (if c.mode = 0 then 0 else 1) n s
      ServesOver (.cmdEdgeReadmit 0) 0 0x0305 p (b1 n) s (setEdgeChan n { edgeChan n v with faults := [] } v)) ∧
    (p.length = 4 → n < 96 → u8 p 2 < 4 →
      (u8 p 1 = 0 → isLin c.mode = true → Serves (.cmdLinTable mb) mb 0x0306 p (linRsp n 0 (u8 p 2) s) s s) ∧
      (u8 p 1 = 3 → c.mode = 4 → c.state = 3 → Serves (.cmdLinTable 0) 0 0x0306 p (slice p 0 4) s
        (setEdgeChan n { c with select := some (u8 p 2) } s))) ∧
    (n < 4 → (p.length = 4 → u8 p 1 = 0 → Serves (.cmdFrConfig mb) mb 0x0307 p (frRsp n 0 s) s s) ∧
      (p.length = 68 → u8 p 1 = 1 → u16 p 2 = 0 → (edgeChan (2 * n) s).mode = 7 → (edgeChan (2 * n) s).state = 1 →
        u8 (frApply (slice p 4 64)) 1 ≠ 0 → frFits (frApply (slice p 4 64)) = true →
        let u := setFrCtl n { frCtl n s with block := frApply (slice p 4 64), bufs := [], tx := [] } s
        Serves (.cmdFrConfig 0) 0 0x0307 p (frRsp n 1 u) s u)) ∧
    (p.length = 8 → n < 96 → c.mode = 6 →
      (u8 p 1 = 0 → Serves (.cmdT1sPlca mb) mb 0x0308 p (b1 n ++ b1 0 ++ c.plca) s s) ∧
      (u8 p 1 = 1 → c.state = 1 →
        let b := b1 (min 1 (u8 p 2)) ++ b1 (min 254 (u8 p 3)) ++ b1 (max 1 (u8 p 4)) ++ b1 (max 1 (u8 p 5)) ++ b1 (u8 p 6) ++
          b1 (max 1 (u8 p 7))
        Serves (.cmdT1sPlca 0) 0 0x0308 p (b1 n ++ b1 1 ++ b) s (setEdgeChan n { c with plca := b } s))) ∧
    (p.length = 4 → n < 6 →
      (u8 p 1 = 0 → Serves (.cmdTmc mb) mb 0x0309 p (tmcRsp n 0 s) s s) ∧
      (u8 p 1 = 1 → u8 p 2 = 2 →
        let u := setEdgeCl n { edgeCl n s with use := 2, settleMs := min 100 (u8 p 3) } s
        Serves (.cmdTmc 0) 0 0x0309 p (tmcRsp n 1 u) s u))

/-- GW_COPY_PROCESS of a copy with neither tunnel nor program is discarded and counted; a copy of a valid program
without security, with nothing held, re-enters with the program's output. GW_PRESS_COMPLETION gives the held frame its
answer: a check with the expected MAC commits the counter and builds the output, a wrong MAC or a failed request fails
the check, a generation puts the value and the MAC behind the authentic data. GW_PRESS_TIMEOUT answers with status 4.
BATCH_CLOSE_TIMER closes a batch that is due. FV_SAVE_TIMER saves the record; FV_RESERVATION_COMMIT puts a saved
reservation in force. PORT_C_JOB submits the job of its program to class 4 of the Press, or counts it as refused.
(derived: spec/11_bus_gateway.md; spec/13_cellar_and_press.md) -/
def Obligations.TheGatewayEngineRuns : Prop :=
  (∀ (x : Copy) (v : VFrame) (s : State), forwards s = true → halted 131 s = false → dropBad 672 (ageQueue 672 s) = s →
    gwHead s = some (x, v) → v.frame.passes < 3 → mdKind x.md ≠ 0 → mdKind x.md ≠ 6 → x.tunnel = none →
    let taken := countG 0 (dropHead 672 s)
    (x.rewrite = none → Gives .gwCopyProcess s (countG 1 taken)) ∧
    (∀ (r : Nat) (out : Bytes), x.rewrite = some r → r < 2048 → s.gw.held = [] →
      let p := programOf (setOf x.gen s) r
      bit p 0 0 = true → bit p 0 2 = false → bit p 0 3 = false → buildOutput p (copyBytes x s) = .ok out →
      Gives .gwCopyProcess s
        (let u := gwUnit { taken with gw := { taken.gw with nextNum := s.gw.nextNum + 1 } }
         countG 19 (reenter 131 { v.frame with bytes := out, edge := true, gen := x.gen, zone := some x.zone, launch := x.launch,
                                               prio := none, tsReq := none, passes := v.frame.passes + 1 }
           (countEntry (ecProgram 1) r (countEntry (ecProgram 0) r u)))))) ∧
  (∀ (n st : Nat) (z : Bytes) (rest : List (Nat × Nat × Bytes)) (h : GwHeld) (s : State),
    s.press.answers = (n, (st, z)) :: rest → s.gw.held.find? (fun h => h.num == n) = some h →
    Gives .gwPressCompletion s (gwFlush (gwAnswer h st z { s with press := { s.press with answers := rest } }))) ∧
  (∀ (h : GwHeld) (prof c mac st : Nat) (z : Bytes) (s : State), h.wait = .check prof c mac →
    let p := secocOf (setOf h.frame.gen s) prof
    (st ≠ 0 → gwAnswer h st z s = gwCheckFail h prof 3 s) ∧
    (getBits z 0 (scMacBits p) ≠ mac → gwAnswer h 0 z s = gwCheckFail h prof 4 s) ∧
    (getBits z 0 (scMacBits p) = mac →
      gwAnswer h 0 z s = gwBuild h false (setFv (scIndex p) c (countEntry (ecProfile 0) prof s)))) ∧
  (∀ (h : GwHeld) (prof c st : Nat) (z : Bytes) (s : State), h.wait = .generate prof c →
    let p := secocOf (setOf h.frame.gen s) prof
    let at_ := 128 + 8 * scAuth p
    (st ≠ 0 → gwAnswer h st z s = genFail h prof s) ∧
    gwAnswer h 0 z s = heldReady h (putBits (putBits h.out at_ (scTxBits p) c) (at_ + scTxBits p) (scMacBits p)
      (getBits z 0 (scMacBits p))) (countEntry (ecProfile 5) prof s)) ∧
  (∀ (n : Nat) (h : GwHeld) (s : State), s.gw.held.find? (fun h => h.num == n && h.wait != .turn) = some h →
    Tbl.find s.press.answers n = none → Gives (.gwPressTimeout n) s (gwFlush (gwAnswer h 4 [] (countG 5 s)))) ∧
  (∀ (n : Nat) (b : GwBatch) (s : State), Tbl.find s.gw.batches n = some b → forwards s = true →
    let due := batchDue (tunnelOf (setOf b.gen s) n) b
    due.1 ≤ now s → Gives (.batchCloseTimer n) s (closeBatch n (if due.2 then 2 else 1) s)) ∧
  (∀ s : State, s.power.phase = .done → s.sleep.asleep = false → Gives .fvSaveTimer s (saveRecord s)) ∧
  (∀ (i v : Nat) (s : State), Tbl.find s.gw.resvNext i = some v → s.pair.state ≠ 2 →
    let u := saveRecord { s with gw := { s.gw with resvNext := Tbl.erase s.gw.resvNext i } }
    Gives (.fvReservationCommit i) s
      { u with flash := { u.flash with resv := Tbl.set u.flash.resv i v 0 }, gw := { u.gw with resv := Tbl.set u.gw.resv i v 0 } }) ∧
  (∀ (x : Copy) (rest : List Copy) (s : State), dropBad 674 (ageQueue 674 s) = s → copiesOf 674 s = x :: rest →
    halted 132 s = false →
    (x.rewrite = none → Gives .portCJob s (count 132 2 (dropHead 674 s))) ∧
    (∀ r, x.rewrite = some r → r < 256 →
      let job := cJobOf (setOf x.gen s) r
      let b := copyBytes x s
      let p := u16 job 4
      let data := b.length - 28 - p
      u8 job 2 = 0 → bit job 0 0 = true → bit job 0 1 = true → p + 28 ≤ b.length →
      Ends .portCJob s (fun t => ∃ f : Frame,
        let desc := b1 3 ++ b1 1 ++ b1 (u8 job 1) ++ b1 0 ++ b4 data ++ b4 (p + 12) ++ b1 2 ++ b1 2 ++ b1 16 ++ b1 0 ++
          zeros 16 ++ slice b p 12 ++ zeros 4
        let src := setBytes b p (slice b p 12)
        f.bytes = src ∧
        (let u := dropHead 674 s
         let v : State := { u with press := { u.press with
            nextJob := s.press.nextJob + 1
            jobs := Tbl.insert s.press.jobs s.press.nextJob { copy := x, frame := f, data := p + 12, inverse := true } } }
         t = pressSubmit 4 { desc := desc, origin := .portC s.press.nextJob,
                             src := some (src.take (p + 12 + data) ++ src.drop (b.length - 16)) } (count 132 0 v)))))

/-- CMD_GW_TUNNEL, CMD_GW_PROGRAM and CMD_GW_SECOC with TARGET 0 answer the entry of the active set; with TARGET 1
from MB0, with the shadow free and legal values, they echo the applied entry and write it. CMD_GW_FRESHNESS answers
the counters, after writing them with OP 1 from MB0. CMD_GW_STATUS answers the save period, the skip and the loads,
after setting the first two clamped with OP 1 from MB0. CMD_GW_COUNTERS answers the counters of the entries named and
clears them where its flag says so. (derived: spec/11_bus_gateway.md) -/
def Obligations.GatewayCommandsAnswer : Prop :=
  (∀ (n : Nat) (p : Bytes) (s : State), p.length = 164 → u16 p 0 = n → n < 512 →
    ReadsActive .cmdGwTunnel 0x0400 p (b2 n ++ zeros 2 ++ tunnelOf (activeSet s) n) s ∧
    (u8 p 5 < 6 → tunnelConflict (slice p 4 160) = false →
      let b := tunnelApply (slice p 4 160)
      SetsShadow (.cmdGwTunnel 0) 0x0400 p (b2 n ++ zeros 2 ++ b) (fun c => { c with tunnels := Tbl.set c.tunnels n b tunnel0 }) s)) ∧
  (∀ (n : Nat) (p : Bytes) (s : State), p.length = 228 → u16 p 0 = n → n < 2048 →
    ReadsActive .cmdGwProgram 0x0401 p (b2 n ++ zeros 2 ++ programOf (activeSet s) n) s ∧
    ((bit p 4 2 = true → u16 p 26 < 4096) → (bit p 4 3 = true → u16 p 28 < 4096) →
      let b := programApply (slice p 4 224)
      programConflict (shadowSet s) b = false →
      SetsShadow (.cmdGwProgram 0) 0x0401 p (b2 n ++ zeros 2 ++ b) (fun c => { c with programs := Tbl.set c.programs n b program0 }) s)) ∧
  (∀ (n : Nat) (p : Bytes) (s : State), p.length = 36 → u16 p 0 = n → n < 4096 →
    ReadsActive .cmdGwSecoc 0x0402 p (b2 n ++ zeros 2 ++ secocOf (activeSet s) n) s ∧
    (u8 p 13 < 6 → u16 p 14 < 16384 →
      let b := secocApply (slice p 4 32)
      scTxBits b ≤ scFullBits b →
      SetsShadow (.cmdGwSecoc 0) 0x0402 p (b2 n ++ zeros 2 ++ b) (fun c => { c with secoc := Tbl.set c.secoc n b secoc0 }) s)) ∧
  (∀ (mb a n : Nat) (p : Bytes) (s : State), u32 p 4 = a → u16 p 2 = n → 1 ≤ n → n ≤ 64 → a + n ≤ 16384 →
    let answer (u : State) : Bytes := b4 a ++ b2 n ++ zeros 2 ++ (List.range n).flatMap (fun i => b8 (fvOf (a + i) u))
    (u8 p 0 = 0 → p.length = 8 → Serves (.cmdGwFreshness mb) mb 0x0403 p (answer s) s s) ∧
    (u8 p 0 = 1 → p.length = 8 + 8 * n →
      let u := forEach (List.range n) (fun i s =>
        let v := setFv (a + i) (u64 p (8 + 8 * i)) s
        if (fvUsers true (activeSet s)).contains (a + i) then reserveCheck (a + i) v else v) s
      Serves (.cmdGwFreshness 0) 0 0x0403 p (answer u) s u)) ∧
  (∀ (mb : Nat) (p : Bytes) (s : State), p.length = 12 →
    let answer (u : State) : Bytes := b1 (u8 p 0) ++ zeros 3 ++ b4 u.gw.fvSave ++ b4 u.gw.fvSkip ++
      b4 (1000 * countIf (fun t => decide (now s < t + 1000000)) s.gw.units) ++ b4 (batchMem s) ++ b2 s.gw.batches.length ++
      b2 (pressWaiting s)
    (u8 p 0 = 0 → Serves (.cmdGwStatus mb) mb 0x0404 p (answer s) s s) ∧
    (u8 p 0 = 1 →
      let u : State := { s with gw := { s.gw with fvSave := clamp 10 3600 (u32 p 4), fvSkip := max 1024 (u32 p 8) } }
      Serves (.cmdGwStatus 0) 0 0x0404 p (answer u) s (forEach (fvUsers true (activeSet s)) reserveCheck u))) ∧
  (∀ (mb : Nat) (p : Bytes) (s : State), p.length = 10 → u8 p 0 < 3 → bit p 1 0 = false ∨ mb = 0 →
    let e := gwTable (u8 p 0)
    let a := u32 p 4
    a < e.2.2 →
    let n := min (clamp 1 63 (u16 p 8)) (e.2.2 - a)
    let keys := (List.range n).flatMap (fun i => (List.range e.2.1).map (fun j => (e.1 + j, a + i)))
    Serves (.cmdGwCounters mb) mb 0x0405 p (b4 a ++ b2 n ++ zeros 2 ++ keys.flatMap (fun k => b8 (entryCounter k.1 k.2 s))) s
      (if bit p 1 0 then forEach keys (fun k s => clearEntry k.1 k.2 s) s else s))

/-- PCS_CONDITION_CHANGE keeps the conditions of the port and the lock of its lane and counts the errors.
LINK_UP_HOLD_EXPIRY takes a TRAINING port whose conditions hold to UP; LINK_DOWN_HOLD_EXPIRY takes an UP port that
misses one back to TRAINING and counts a link fault. AN_CONTROL_WORD judges the partner's word.
MDIO_TRANSACTION_COMPLETE answers the mailbox that asked. TC10_STATUS_POLL ends a handshake that the PHY confirms,
TC10_ACK_TIMEOUT one that it does not; PHY_WAKE_INPUT wakes the lane and is a wake source. MKA_FRAME_RECEIVE enters
the new state and installs a distributed key; MKA_HELLO_TIMER sends a hello. (derived:
spec/12_backbone_trunk_service_ports.md; spec/14_sleep_wake_and_power_levels.md) -/
def Obligations.PortsAndLanesRun : Prop :=
  (∀ (p errs corr unc : Nat) (lock laneLock lf rf : Bool) (s : State), lf = (ethPort p s).localFault → rf = (ethPort p s).remoteFault →
    let l := laneOf (laneNo p) s
    let u := setLane (laneNo p) { l with lock := laneLock, lossCounted := l.lossCounted && !laneLock }
      (setEthPort p { ethPort p s with pcs := lock } s)
    let v := countN p 14 errs (countN p 15 corr (countN p 16 unc u))
    Gives (.pcsConditionChange p lock laneLock lf rf errs corr unc) s (if 0 < unc then linkEvent p 10 v else v)) ∧
  (∀ (p : Nat) (s : State), (ethPort p s).state = 1 → upConditions p s = true → keptDown p s = false →
    Gives (.linkUpHoldExpiry p) s (membersChanged s (linkEvent p 0
      (let u := enterState p 2 0 s
       let pr := (egrOf p s).preempt
       setEgr p { egrOf p s with preempt := { pr with state := if !pr.en then 0 else if pr.verifyEn then 1 else 2, attempts := 0 } } u)))) ∧
  (∀ (p : Nat) (s : State), (ethPort p s).state = 2 → upConditions p s = false →
    let u := linkEvent p 1 (cutWire p (enterState p 1 (downCause p s) s))
    Gives (.linkDownHoldExpiry p) s (membersChanged s (if (ethPort p s).tc10 then u else linkFault p u))) ∧
  (∀ (p w sp : Nat) (lk dx : Bool) (s : State), (ethPort p s).an = true →
    let m := (laneOf (laneNo p) s).mode
    let u := setEthPort p { ethPort p s with word := w } s
    let judged (good : Bool) (why : Nat) : State := setEthPort p { ethPort p u with anOk := good, anWhy := why } u
    (m = 2 → Gives (.anControlWord p w lk true sp) s (judged true 0) ∧
      Gives (.anControlWord p w lk false sp) s (linkEvent p 5 (judged false 4))) ∧
    (m = 1 ∨ m = 3 ∨ m = 7 ∨ m = 8 →
      Gives (.anControlWord p w true true (ethPort p s).rate) s (judged true 0) ∧
      (¬(lk = true ∧ dx = true ∧ sp = (ethPort p s).rate) →
        Gives (.anControlWord p w lk dx sp) s (linkEvent p 6 (count p 18 (judged false 5)))))) ∧
  (∀ (b v mb : Nat) (o : MdioOp) (r : Req) (s : State), (mdioOf b s).busy = some o → o.origin = .mailbox mb →
    (mdioOf b s).queue = [] → (mbOf mb s).cur = some r →
    Gives (.mdioTransactionComplete b v) s (mbDone mb stOk s.sets.gen (slice r.params 0 6 ++ b2 (o.write.getD v))
      (setMdio b { mdioOf b s with busy := none } s))) ∧
  (∀ (l v : Nat) (s : State), (tc10Of l s).on = true →
    let p := phyOf l s
    let u := emit (.mdio p.bus p.addr (if p.clause = 22 then 0 else p.mmd) p.statusReg none) s
    (v &&& p.statusMask = p.statusSleep → Gives (.tc10StatusPoll l v) s (membersChanged u (laneEnds l 3 0 u))) ∧
    (v &&& p.statusMask ≠ p.statusSleep → Gives (.tc10StatusPoll l v) s u) ∧
    Gives (.tc10AckTimeout l) s (membersChanged s (laneEnds l 1 1 (phyWrite l p.sleepReg p.wakeVal s)))) ∧
  (∀ (l : Nat) (s : State), l < 14 → s.sleep.asleep = false →
    let v := phyWakeSeen l s
    let u : State := { v with sleep := { v.sleep with nm := { v.sleep.nm with lanes := v.sleep.nm.lanes.filter (· != l) } } }
    Gives (.phyWakeInput l) s (membersChanged u (wake { source := 8 + l } u))) ∧
  (∀ (p st an peer txSsci rxSsci : Nat) (salt : Bytes) (s : State),
    let u := takeVintner p 0x888E s
    let m := macsecOf p u
    mkaOn p u = true → slotCheck 6 m.cakSlot 4 false u = 0 →
    let v := mkaEnter p st (invoke m.cakSlot u)
    Gives (.mkaFrameReceive p st an none peer txSsci rxSsci salt) s v ∧
    ∀ key, Gives (.mkaFrameReceive p st an (some key) peer txSsci rxSsci salt) s (mkaInstall p (an % 4) key peer txSsci rxSsci salt v)) ∧
  (∀ (p : Nat) (s : State), mkaOn p s = true →
    let u : State := { s with fresh := s.fresh + 1 }
    Gives (.mkaHelloTimer p false) s (directedSend p (8 * p + 7)
      (be 6 0x0180C2000003 ++ macAddr p u ++ be 2 0x888E ++ Config.freeFrame s.fresh) none u))

/-- CMD_LANE_MODE, CMD_PORT_CONFIG, CMD_PHY_BIND and CMD_MACSEC_PORT with OP 0 answer the settings, and with OP 1 from
MB0, in the states that allow it, apply them clamped and echo them; CMD_PORT_STATE starts or stops a port;
CMD_PORT_STATUS and CMD_MACSEC_STATUS answer states; CMD_PORT_RETIRE retires a port, CMD_PORT_READMIT returns it to
DOWN; CMD_MDIO starts its transaction on an idle bus; CMD_TC10 starts a handshake, or wakes a sleeping lane;
CMD_MACSEC_TXSA, CMD_MACSEC_RXSC and CMD_MACSEC_RXSA write the association named. Ports that go UP or leave UP take
the logical ports along. (derived: spec/12_backbone_trunk_service_ports.md) -/
def Obligations.PortCommandsAnswer : Prop :=
  ∀ (mb q : Nat) (p : Bytes) (s : State), u8 p 0 = q →
    (p.length = 8 → q < 15 →
      (u8 p 1 = 0 → ServesLanes (.cmdLaneMode mb) mb 0x0200 p (laneRsp q 0 s) s s) ∧
      (u8 p 1 = 1 → modeConflict q (u8 p 2) (u8 p 3) s = false → u8 p 2 = (laneOf q s).mode → u8 p 2 ≠ 4 → u8 p 2 ≠ 5 →
        let u := setLane q { laneOf q s with fec := 0, swing := min 15 (u8 p 4), pre := min 15 (u8 p 5), post := min 15 (u8 p 6) } s
        ServesLanes (.cmdLaneMode 0) 0 0x0200 p (laneRsp q 1 u) s u) ∧
      (u8 p 1 = 1 → q = 14 → u8 p 2 = 1 → (laneOf q s).mode = 0 → (ethPort 129 s).state = 0 →
        let u := setRate 129 0 (setLane q { laneOf q s with mode := 1, fec := 0, swing := min 15 (u8 p 4), pre := min 15 (u8 p 5),
                                                            post := min 15 (u8 p 6), lock := false } s)
        ServesLanes (.cmdLaneMode 0) 0 0x0200 p (laneRsp q 1 u) s u)) ∧
    (p.length = 16 → isEthPort q = true →
      (u8 p 1 = 0 → ServesLanes (.cmdPortConfig mb) mb 0x0201 p (portRsp q 0 s) s s) ∧
      (u8 p 1 = 1 → (modeRates (laneOf (laneNo q) s).mode).contains (u8 p 2) = true →
        let v := setRate q (u8 p 2) s
        let u := setEthPort q { ethPort q v with an := bit p 3 0, maxFrame := clamp 64 9216 (u16 p 4), upHold := min 1000 (u16 p 6),
                                                 downHold := min 10000 (u16 p 8), mac := some (beN p 10 6) } v
        ServesLanes (.cmdPortConfig 0) 0 0x0201 p (portRsp q 1 u) s u)) ∧
    (p.length = 2 → isEthPort q = true → (ethPort q s).state ≠ 4 →
      (u8 p 1 = 1 → keptDown q s = false →
        let u := if (ethPort q s).state = 0 ∨ (ethPort q s).state = 3 then enterState q 1 7 s else s
        ServesPorts (.cmdPortState 0) 0 0x0202 p (b1 (ethPort q u).state ++ zeros 3) s u) ∧
      (u8 p 1 = 0 → mb = 0 ∨ mb = 2 →
        let u := if (ethPort q s).state = 0 then s else refusePort q 0 7 s
        ServesPorts (.cmdPortState mb) mb 0x0202 p (b1 (ethPort q u).state ++ zeros 3) s u)) ∧
    (p.length = 1 → isEthPort q = true → mb < 5 →
      let e := ethPort q s
      Serves (.cmdPortStatus mb) mb 0x0203 p (b1 e.state ++ b1 e.cause ++
        b1 (countIf (fun t => decide (now s < t + 60000000000)) e.faults) ++ zeros 1 ++ b2 e.word ++ zeros 2 ++ b4 e.lastChange) s s) ∧
    (p.length = 4 → q < 32 →
      ((ethPort q s).state ≠ 4 → mb = 0 ∨ mb = 2 → ServesPorts (.cmdPortRetire mb) mb 0x0204 p (b1 q ++ zeros 3) s (retirePort q s)) ∧
      ((ethPort q s).state = 4 → (laneOf (laneNo q) s).retired = false →
        Serves (.cmdPortReadmit 0) 0 0x0205 p (b1 q ++ zeros 3) s
          (setEthPort q { ethPort q s with state := 0, faults := [], lastChange := now32 s } s))) ∧
    (p.length = 24 → q < 14 →
      (u8 p 1 = 0 → Serves (.cmdPhyBind mb) mb 0x0206 p (phyRsp q 0 s) s s) ∧
      (u8 p 1 = 1 → u8 p 2 < 2 → u8 p 3 < 32 → u8 p 4 = 22 ∨ u8 p 4 = 45 →
        let x : Phy := { bus := u8 p 2, addr := u8 p 3, clause := u8 p 4, mmd := u8 p 5, sleepReg := u16 p 6, sleepVal := u16 p 8,
                         wakeVal := u16 p 10, statusReg := u16 p 12, statusMask := u16 p 14, statusSleep := u16 p 16,
                         ackMs := clamp 1 100 (u8 p 18) }
        let v : State := { s with ports := { s.ports with phy := Tbl.set s.ports.phy q x {} } }
        let u := setMdio x.bus { mdioOf x.bus v with hz := clamp 1000000 12500000 (u32 p 20) } v
        Serves (.cmdPhyBind 0) 0 0x0206 p (phyRsp q 1 u) s u)) ∧
    (p.length = 8 → q < 2 → u8 p 2 < 32 → u8 p 3 < 32 → (mdioOf q s).busy = none → (mdioOf q s).queue = [] →
      (u8 p 1 = 0 → mb = 0 ∨ mb = 2 ∨ mb = 4 → Begins (.cmdMdio mb) mb 0x0207 p s
        (mdioStart q { origin := .mailbox mb, phy := u8 p 2, dev := u8 p 3, reg := u16 p 4, write := none } s)) ∧
      (u8 p 1 = 1 → mb = 0 ∨ mb = 4 → Begins (.cmdMdio mb) mb 0x0207 p s
        (mdioStart q { origin := .mailbox mb, phy := u8 p 2, dev := u8 p 3, reg := u16 p 4, write := some (u16 p 6) } s))) ∧
    (p.length = 2 → q < 14 → mb = 0 ∨ mb = 2 → (tc10Of q s).on = false →
      (u8 p 1 = 0 → (lanePorts q s).any (fun j => (ethPort j s).state == 2) = true →
        Begins (.cmdTc10 mb) mb 0x0208 p s (membersChanged s (tc10Sleep q (some mb) s))) ∧
      (u8 p 1 = 1 → (lanePorts q s).any (fun j => (ethPort j s).state == 3) = true →
        ServesPorts (.cmdTc10 mb) mb 0x0208 p (b1 3) s (laneWake q (phyWrite q (phyOf q s).sleepReg (phyOf q s).wakeVal s)))) ∧
    (q < 8 →
      let m := macsecOf q s
      (p.length = 60 → keptDown q s = false →
        (u8 p 1 = 0 → Serves (.cmdMacsecPort mb) mb 0x0209 p (macsecRsp q 0 s) s s) ∧
        (u8 p 1 = 1 → u8 p 3 ≤ 3 → u8 p 4 = 0 ∨ u8 p 4 = 30 ∨ u8 p 4 = 50 → u8 p 5 < 4 → u8 p 25 ≤ 232 → u8 p 3 = m.cipher →
          bit p 2 0 = true → bit p 2 1 = false →
          let m' : Macsec := { m with en := true, mka := false, encrypt := bit p 2 2, rxUntagged := bit p 2 3, unknownSci := bit p 2 4,
                                      txFlags := u8 p 2 / 32, confOff := u8 p 4, an := u8 p 5, sci := some (beN p 8 8),
                                      bypass := (List.range 4).map (fun i => u16 p (16 + 2 * i)), cakSlot := u8 p 24, sakBase := u8 p 25,
                                      prio := u8 p 26, ckn := slice p 28 (clamp 1 32 (u8 p 27)), mkaState := 0 }
          let u := txCheck q (setMacsec q m' s)
          Serves (.cmdMacsecPort 0) 0 0x0209 p (macsecRsp q 1 u) s u)) ∧
      (p.length = 28 → u8 p 1 < 4 → bit p 2 0 = true → saSlot m (u8 p 3) 1 s = stOk → m.mka = false →
        let pn := clamp 1 (lastPn m) (u64 p 4)
        let sa : TxSa := { inUse := true, slot := u8 p 3, nextPn := pn, ssci := u32 p 12, salt := slice p 16 12,
                           key := some (slotKey (slotOf (u8 p 3) s)) }
        Serves (.cmdMacsecTxsa 0) 0 0x020A p (p.take 2 ++ b1 1 ++ b1 (u8 p 3) ++ b8 pn ++ slice p 12 16) s
          (txCheck q (setMacsec q { m with tx := Tbl.set m.tx (u8 p 1) sa {} } s))) ∧
      (p.length = 16 → u8 p 1 < 32 → bit p 2 0 = false → bits (u8 p 2) 3 2 ≠ 3 → m.mka = false →
        let c := { Tbl.get m.rx (u8 p 1) {} with valid := false, replay := bit p 2 1, validate := bits (u8 p 2) 3 2,
                                                 window := min 1073741824 (u32 p 4), sci := beN p 8 8 }
        Serves (.cmdMacsecRxsc 0) 0 0x020B p (p.take 2 ++ b1 (u8 p 2 % 16) ++ zeros 1 ++ b4 c.window ++ slice p 8 8) s
          (setSc q (u8 p 1) c s)) ∧
      (p.length = 32 → u8 p 1 < 32 → u8 p 2 < 4 → bit p 3 0 = true → saSlot m (u8 p 4) 2 s = stOk → m.mka = false →
        let c := Tbl.get m.rx (u8 p 1) {}
        let low := min (lastPn m) (u64 p 8)
        let sa : RxSa := { inUse := true, slot := u8 p 4, lowestPn := low, nextPn := low, ssci := u32 p 16, salt := slice p 20 12,
                           key := some (slotKey (slotOf (u8 p 4) s)) }
        Serves (.cmdMacsecRxsa 0) 0 0x020C p (p.take 3 ++ b1 1 ++ b1 (u8 p 4) ++ zeros 3 ++ b8 low ++ slice p 16 16 ++ b8 low) s
          (setSc q (u8 p 1) { c with sa := Tbl.set c.sa (u8 p 2) sa {} } s)) ∧
      (p.length = 1 → mb < 5 → Serves (.cmdMacsecStatus mb) mb 0x020D p (b1 m.an ++ b1 m.txState ++ b1 m.mkaState ++
        b1 (countIf (fun e => e.2.valid) m.rx) ++ (List.range 4).flatMap (fun a => b8 (Tbl.get m.tx a {}).nextPn)) s s))

/-- PRESS_TURN serves the next ready class: a retired queue and a fault end its job with FAULT, a failing start check
with its status, and a CMAC of at most 256 bytes for the gateway is finished in one turn. PRESS_DESCRIPTOR_COMPLETE
answers the finished head and counts it. PRESS_LOCK_EXPIRY takes the lock away. KEY_SLOT_SCRUB makes a slot whose tag
fails BAD; PERSIST_SLOT_STORE stores a PERSIST slot wrapped. TAMPER_DETECT of an enabled source wipes every slot and
burns the count; TAMPER_SOURCE_CLEAR ends a source; TAMPER_REDERIVE derives the own slots. TRNG_HEALTH_FAIL stops the
random source, TRNG_RECOVERED starts it, DRBG_RESEED draws. (derived: spec/13_cellar_and_press.md) -/
def Obligations.ThePressAndTheCellarRun : Prop :=
  (∀ (host : Bytes) (fault : Bool) (c : Nat) (j : PressJob) (rest : List PressJob) (s : State),
    ((List.range 8).map (fun i => (s.press.rr + i) % 8)).find? (fun c => pressReady s c) = some c →
    pressQueue c s = j :: rest →
    let u : State := { s with press := { s.press with rr := (c + 1) % 8 } }
    let ends (st : Nat) : Prop := Gives (.pressTurn host fault) s (setPressQueue c ({ j with finished := some st } :: rest) u)
    (s.press.retired.getLsbD c = true → ends 10) ∧
    (s.press.retired.getLsbD c = false →
      (j.started = true → fault = true → ends 10) ∧
      (∀ st, j.started = false → startCheck c j u = st → st ≠ 0 → st ≠ 3 → ends st) ∧
      (∀ (b : Bytes) (n : Nat), j.src = some b → j.origin = .gateway n → j.started = false → j.input = [] → fault = false →
        dMode j.desc = 4 → dRoot j.desc = false → dDst j.desc = 2 → dLen j.desc ≤ 256 → startCheck c j u = 0 →
        Ends (.pressTurn host fault) s (fun t => ∃ j' : PressJob,
          t = setPressQueue c (j' :: rest) (invoke (dSlot j.desc) u) ∧ j'.finished = some 0 ∧ j'.origin = .gateway n ∧
          j'.tag = (cmac (slotKey (slotOf (dSlot j.desc) s)) (slice b 0 (dLen j.desc))).take (dTag j.desc))))) ∧
  (∀ (cls : Nat) (j : PressJob) (rest : List PressJob) (s : State), pressQueue cls s = j :: rest →
    let u := count 255 (144 + cls) (setPressQueue cls rest s)
    (j.finished = some 0 → Gives (.pressDescriptorComplete cls) s (pressAnswer j 0 u)) ∧
    (j.finished = some 1 → dZero j.desc = false → Gives (.pressDescriptorComplete cls) s
      (pressAnswer j 1 (raise 89 0 (count 255 152 u))))) ∧
  (∀ (l : PressLock) (s : State), s.press.lock = some l → Gives .pressLockExpiry s (raise 91 0 (count 255 155
    { s with press := { s.press with lock := none, barred := Tbl.set s.press.barred l.cls (now s + 2000000) 0 } }))) ∧
  (∀ (n d : Nat) (s : State), (slotOf n s).status = 1 →
    let good := slotTag n (slotOf n s).key (slotOf n s).attr s
    (((slotOf n s).tag ^^^ d) = good → Gives (.keySlotScrub n d) s s) ∧
    (((slotOf n s).tag ^^^ d) ≠ good → Gives (.keySlotScrub n d) s (slotBad n s))) ∧
  (∀ (n : Nat) (s : State), s.cellar.storeDue.contains n = true → (slotOf n s).status = 1 → attrPersist (slotOf n s).attr = true →
    let w := kwWrap (storageKey s) ((slotOf n s).key ++ b8 (slotOf n s).attr)
    Gives (.persistSlotStore n) s { s with
      cellar := { s.cellar with storeDue := s.cellar.storeDue.filter (fun k => k != n) },
      flash := { s.flash with persist := Tbl.insert s.flash.persist n w } }) ∧
  (∀ (n : Nat) (s : State), n < 5 → s.cellar.enables.getLsbD n = true → s.cellar.active.getLsbD n = false →
    ((n = 2 ∨ n = 3) → glitchArmed s = true) → Ends (.tamperDetect n) s (fun t => t.cellar.slots = [] ∧
      t.cellar.active.getLsbD n = true ∧ t.otp = { s.otp with tampered := true, tamperCount := min 64 (s.otp.tamperCount + 1) })) ∧
  (∀ (n : Nat) (s : State), Gives (.tamperSourceClear n) s
    { s with cellar := { s.cellar with active := s.cellar.active &&& ~~~ BitVec.ofNat 5 (2 ^ n) } }) ∧
  (∀ s : State,
    (s.cellar.rederive = true → dieshUp s = true → s.sleep.asleep = false →
      Gives .tamperRederive s (ctlWrite (deriveOwn { s with cellar := { s.cellar with rederive := false } }))) ∧
    (s.press.trngOk = true →
      Gives .trngHealthFail s (alarm 15 locDev (raise 94 0 (count 255 159 { s with press := { s.press with trngOk := false } }))) ∧
      Gives .drbgReseed s { s with fresh := s.fresh + 1 }) ∧
    (s.press.trngOk = false → Gives .trngRecovered s (raise 94 1 { s with press := { s.press with trngOk := true } })))

/-- CMD_KEY_WRITE, CMD_KEY_GENERATE and CMD_KEY_DERIVE write the slot with the attributes as applied, and refuse slots
240 and up; CMD_KEY_CLEAR empties it; CMD_KEY_INFO answers its status, attributes and check value. CMD_PRESS_RUN
submits its descriptors; CMD_PRESS_LOCK takes and releases the lock; CMD_PRESS_STATUS answers the queues.
CMD_ASYM_VERIFY answers both signatures and the anchor. CMD_ANCHOR reads, programs and revokes an owner anchor.
CMD_LIFE_CYCLE steps to the next state and burns it. CMD_TAMPER reads, enables and clears. (derived:
spec/13_cellar_and_press.md) -/
def Obligations.KeyAndPressCommandsAnswer : Prop :=
  (∀ (p : Bytes) (s : State),
    let n := u8 p 0
    let a := u64 p 8
    (240 ≤ n → (p.length = 48 → Declines (.cmdKeyWrite 0) 0 0x0A00 p stDenied s) ∧
      (p.length = 16 → Declines (.cmdKeyGenerate 0) 0 0x0A01 p stDenied s)) ∧
    (n < 240 → attrOk a = true →
      (p.length = 48 → s.otp.life < 2 →
        let b := attrApply a (u32 p 4) 0
        Serves (.cmdKeyWrite 0) 0 0x0A00 p (p.take 8 ++ b8 b) s (writeSlot n (placeKey (attrAlg a) (slice p 16 32)) b s)) ∧
      (p.length = 16 → s.press.trngOk = true →
        let b := attrApply a (u32 p 4) 3
        let u : State := { s with fresh := s.fresh + 1 }
        Serves (.cmdKeyGenerate 0) 0 0x0A01 p (p.take 8 ++ b8 b) s
          (writeSlot n (placeKey (attrAlg a) (slice (Config.randomBytes s.fresh 32) 0 32)) b u)) ∧
      (1 ≤ u8 p 2 → u8 p 2 ≤ 32 → u8 p 3 ≤ 64 → p.length = 16 + u8 p 2 + u8 p 3 → u8 p 16 ≠ 0 →
        let b := attrApply a (u32 p 4) 2
        let label := slice p 16 (u8 p 2)
        let ctx := slice p (16 + u8 p 2) (u8 p 3)
        let put (key label : Bytes) (u : State) : State :=
          writeSlot n (placeKey (attrAlg a) (kdf key label ctx (algBytes (attrAlg a)))) b u
        (∀ src, u8 p 1 = src → src < 240 → slotCheck 0 src 4 false s = 0 →
          Serves (.cmdKeyDerive 0) 0 0x0A02 p (p.take 8 ++ b8 b ++ p.drop 16) s
            (put (slotKey (slotOf src s)) label (invoke src s))) ∧
        (u8 p 1 = 255 → rootUsable s = true →
          Serves (.cmdKeyDerive 0) 0 0x0A02 p (p.take 8 ++ b8 b ++ p.drop 16) s (put (rootKey s) (0x80 :: label) s))))) ∧
  (∀ (mb : Nat) (p : Bytes) (s : State), p.length = 1 → u8 p 0 < 240 →
    let x := slotOf (u8 p 0) s
    (mb = 0 ∨ mb = 2 → Serves (.cmdKeyClear mb) mb 0x0A03 p [] s (clearSlot (u8 p 0) s)) ∧
    (mb < 5 → x.status = 0 → Serves (.cmdKeyInfo mb) mb 0x0A04 p (b1 0 ++ zeros 7 ++ b8 x.attr ++ zeros 4) s s) ∧
    (mb < 5 → x.status = 1 → x.tag = slotTag (u8 p 0) x.key x.attr s → attrUsage x.attr ≠ 4 → attrAlg x.attr ≠ 2 →
      Serves (.cmdKeyInfo mb) mb 0x0A04 p (b1 1 ++ zeros 7 ++ b8 x.attr ++ (cmac (slotKey x) (zeros 16)).take 4) s s)) ∧
  (∀ (mb : Nat) (p : Bytes) (s : State), mb < 3 →
    (1 ≤ u16 p 0 → u16 p 0 ≤ 64 → p.length = 4 + 48 * u16 p 0 → s.press.retired.getLsbD mb = false →
      Tbl.find s.press.runs mb = none → Begins (.cmdPressRun mb) mb 0x0A05 p s
        (forEach (List.range (u16 p 0)) (fun i s => pressSubmit mb { desc := slice p (4 + 48 * i) 48, origin := .run mb } s)
          { s with press := { s.press with runs := Tbl.insert s.press.runs mb { count := u16 p 0 } } })) ∧
    (p.length = 8 → u8 p 0 = 1 → s.press.lock = none → Tbl.get s.press.barred mb 0 ≤ now s →
      let us := clamp 1 2000 (u32 p 4)
      Serves (.cmdPressLock mb) mb 0x0A06 p (p.take 4 ++ b4 us) s
        { s with press := { s.press with lock := some { cls := mb, us := us, start := now s } } }) ∧
    (∀ l, p.length = 8 → u8 p 0 = 0 → s.press.lock = some l → l.cls = mb → Serves (.cmdPressLock mb) mb 0x0A06 p p s
      { s with press := { s.press with lock := none, barred := Tbl.set s.press.barred mb (now s + 2000000) 0 } })) ∧
  (∀ (mb : Nat) (s : State), mb < 5 → s.press.lock = none →
    Serves (.cmdPressStatus mb) mb 0x0A07 [] (((List.range 8).map (fun c => BitVec.ofNat 8 (pressQueue c s).length)) ++
      b1 0xFF ++ zeros 3 ++ b4 0 ++ b1 s.press.retired.toNat ++ b1 (b2n (!s.press.trngOk)) ++ b1 (b2n s.otp.tampered) ++ zeros 1) s s) ∧
  (∀ (mb t : Nat) (p : Bytes) (s : State), mb < 2 → p.length = 64 → u8 p 0 < 4 → u8 p 1 < 16 → bit p 2 0 = false →
    let b := bankOf (u8 p 1) s
    b.owner = mbOwner mb → b.busy = false → b.retired = false → u32 p 12 + 5454 ≤ bankSize →
    poisonIn b.poison (u32 p 12) 5454 = [] → (anchorOf (u8 p 0) s).revoked = false → Served mb 0x0A08 t p s →
    let v := verify (u8 p 0) (slice p 16 48) (Memory.readN b.mem (u32 p 12) 5454) s
    exec (.cmdAsymVerify mb) s = .next (mbDone mb (if v.1 && v.2.1 && v.2.2 then stOk else stAuth) s.sets.gen
      (b1 (b2n v.1 + 2 * b2n v.2.1 + 4 * b2n v.2.2) ++ zeros 3 ++ slice p 16 48) (countVerify v s))) ∧
  (∀ (n : Nat) (p : Bytes) (s : State), u8 p 0 = n → 1 ≤ n → n ≤ 3 → p.length = 52 →
    let a := anchorOf n s
    let answer (a : Anchor) : Bytes := slice p 0 4 ++ slice a.digest 0 48 ++ b1 (b2n a.revoked)
    (u8 p 1 = 0 → Serves (.cmdAnchor 0) 0 0x0A09 p (answer a) s s) ∧
    (u8 p 1 = 1 → a.programmed = false → s.otp.life < 2 →
      let a' := { a with programmed := true, digest := slice p 4 48 }
      Serves (.cmdAnchor 0) 0 0x0A09 p (answer a') s (setAnchor n a' s)) ∧
    (u8 p 1 = 2 → liveAnchors s ≠ [n] →
      Serves (.cmdAnchor 0) 0 0x0A09 p (answer { a with revoked := true }) s (setAnchor n { a with revoked := true } s))) ∧
  (∀ (p : Bytes) (s : State), p.length = 8 → u8 p 0 = s.otp.life + 1 → u32 p 4 = 0x4C435943 →
    let burn (u : State) : State := raise 92 0 (emit (.fuse 0 (s.otp.life + 1)) { u with otp := { u.otp with life := s.otp.life + 1 } })
    (s.otp.life = 0 → liveAnchors s ≠ [] → Serves (.cmdLifeCycle 0) 0 0x0A0A p p s (burn (zeroSecure s))) ∧
    (s.otp.life = 1 → Serves (.cmdLifeCycle 0) 0 0x0A0A p p s (burn (zeroSecure s))) ∧
    (s.otp.life = 2 → Serves (.cmdLifeCycle 0) 0 0x0A0A p p s
      (let u := zeroSecure s
       burn (unloadSlots (fun _ => true) { u with cellar := { u.cellar with slots := [], storeDue := [], limitSeen := [] } })))) ∧
  (∀ (mb : Nat) (p : Bytes) (s : State), p.length = 2 →
    let answer (u : State) : Bytes := b1 (u8 p 0) ++ b1 u.cellar.enables.toNat ++ b1 (b2n u.otp.tampered) ++ b1 u.otp.tamperCount ++
      b4 u.cellar.lastWipe
    (u8 p 0 = 0 → Serves (.cmdTamper mb) mb 0x0A0B p (answer s) s s) ∧
    (u8 p 0 = 1 → s.otp.life < 2 →
      let u : State := { s with cellar := { s.cellar with enables := BitVec.ofNat 5 (u8 p 1) } }
      Serves (.cmdTamper 0) 0 0x0A0B p (answer u) s u) ∧
    (u8 p 0 = 2 →
      let u := restorePersist (raise 92 1 { s with otp := { s.otp with tampered := decide (64 ≤ s.otp.tamperCount) } })
      Serves (.cmdTamper 0) 0 0x0A0B p (answer u) s u))

/-- SLEEP_DRAIN_COMPLETE with the drain done enters Roost, or starts the save of Burrow and Hibernate; with a wake
waiting it abandons the entry at AP2. SLEEP_DRAIN_TIMEOUT abandons it. SLEEP_SAVE_COMPLETE takes the supplies off;
INH_RELEASE_AFTER_FALL and SLEEP_EXIT_RAILS_GOOD step on from there. WAKE_DETECT of a live source in sleep starts an
exit and sets its cause bit. SLEEP_EXIT_COMPLETE ends Roost, or Burrow at level P0. FALSE_WAKE_TIMEOUT counts the wake
and enters again; LEVEL_RESTORE changes to the saved level; VSEL_SETTLE_EXPIRY steps the clocks up. (derived:
spec/14_sleep_wake_and_power_levels.md) -/
def Obligations.SleepEntriesAndExits : Prop :=
  (∀ s : State, s.sleep.entry = .drain →
    (s.sleep.wake = none → drained s = true →
      let u := forEach (List.range 6) finalTmc s
      (s.sleep.target = 1 → Gives .sleepDrainComplete s (raise 53 5 (count 255 168 { u with
        sleep := { u.sleep with gated := true, entry := .none, state := 2, lastResult := 1, before := [], fromRoost := false } }))) ∧
      (s.sleep.target ≠ 1 → s.sleep.tc10 = false → Gives .sleepDrainComplete s { u with
        sleep := { u.sleep with gated := true, entry := .save, lanes := [] },
        pair := { u.pair with owlOff := s.pair.state == 2 || s.pair.state == 3 } })) ∧
    (∀ w, s.sleep.wake = some w → Gives .sleepDrainComplete s (sleepAbort 2 w s) ∧ Gives .sleepDrainTimeout s (sleepAbort 2 w s)) ∧
    (s.sleep.wake = none → s.sleep.net = false →
      let u := raise 53 4 (count 255 172 (entryUndo 5 s))
      Gives .sleepDrainTimeout s (notice 0x0B00 locDev (resultData 0x1F u) u))) ∧
  (∀ s : State, s.sleep.entry = .save → s.sleep.lanes = [] → s.sleep.wake = none → Ends .sleepSaveComplete s (fun t =>
    t.sleep.asleep = true ∧ t.sleep.entry = .off ∧ t.sleep.lastResult = 1 ∧ t.power.ready = false ∧
    t.sleep.inhLow = inhFor s.sleep.inhMap s.sleep.target ∧ t.otp = s.otp ∧ t.sets = s.sets)) ∧
  (∀ s : State, s.sleep.entry = .off → Gives .inhReleaseAfterFall s
    { s with sleep := { s.sleep with entry := .none, inhLow := if s.sleep.state = 3 then 0 else s.sleep.inhLow } }) ∧
  (∀ s : State, s.sleep.asleep = true → s.sleep.state = 3 → s.sleep.entry = .none → s.sleep.inhLow = 0 →
    Gives .sleepExitRailsGood s { s with sleep := { s.sleep with railsUp := true } }) ∧
  (∀ (source m ch periods : Nat) (s : State), source < 24 ∨ source = 25 → s.sleep.asleep = true → s.sleep.state ≠ 3 →
    s.sleep.entry = .none → wakesFrom s.sleep.target source = true → sourceLive { source := source, channel := ch } s = true →
    Ends (.wakeDetect source m ch periods) s (fun t =>
      t.sleep.state = 3 ∧ t.sleep.wakeCause.getLsbD source = true ∧ t.sleep.infoFirst = source ∧ t.otp = s.otp)) ∧
  (∀ (periods duration noRef : Nat) (fails : List BistFail) (s : State), s.sleep.state = 3 → s.pair.taking = false →
    s.sleep.net = false →
    (s.sleep.asleep = false →
      let u : State := { s with sleep := { s.sleep with state := 0, target := 0, gated := false, left := 1 },
                                pair := { s.pair with parked := false } }
      Gives (.sleepExitComplete periods duration noRef fails) s (notice 0x0B00 locDev (resultData 0x1F u) (raise 52 0 u))) ∧
    (s.sleep.asleep = true → s.sleep.railsUp = true → s.sleep.target = 2 → s.pair.slept = 0 →
      Ends (.sleepExitComplete periods duration noRef fails) s (fun t => t.sleep.state = 0 ∧ t.sleep.asleep = false ∧
        t.sleep.level = 0 ∧ t.sleep.left = 2 ∧ t.power.ready = true ∧ t.vat.frames = [] ∧ t.otp = s.otp ∧ t.flash = s.flash))) ∧
  (∀ (w : Wake) (s : State), s.sleep.unconfirmed = some w → s.sleep.state = 0 → s.power.phase = .done →
    let v := falseWake w { s with sleep := { s.sleep with unconfirmed := none } }
    Gives .falseWakeTimeout s (entryStart s.sleep.left false v)) ∧
  (∀ s : State, s.sleep.restore = true → s.sleep.state = 0 → s.power.phase = .done →
    Gives .levelRestore s (levelChange s.sleep.saved none { s with sleep := { s.sleep with restore := false } })) ∧
  (∀ (l : Nat) (s : State),
    let u := clocksAt l { s with sleep := { s.sleep with rising := none } }
    (s.sleep.rising = some (l, none) → Gives .vselSettleExpiry s u) ∧
    (∀ (k : Nat) (r : Req), s.sleep.rising = some (l, some k) → (mbOf k s).cur = some r →
      Gives .vselSettleExpiry s (mbDone k stOk s.sets.gen (levelRsp 1 l (b2n (bit r.params 2 0)) u) u)))

/-- NM_FRAME_RECEIVE takes the first NM frame of a port from queue 673 to the coordination. NM_BUS_TIMEOUT of a quiet
bus makes it ready and seeks agreement; NM_NODE_EXPIRY removes a node silent for ten times the timeout; NM_TX_CYCLE
sends an own frame and counts it; NM_HOLD_EXPIRY ends the hold of a bus. NM_COMMIT_START at its time starts the
commit; LIN_SLAVE_SILENCE_TIMEOUT takes the channel down; SLEEP_ENTRY_START enters the target state when nothing is
left to do, or asks the standby first. OFFENDER_TIMEOUT logs a node that held too long, SUPPRESSION_END ends its
suppression. (derived: spec/14_sleep_wake_and_power_levels.md) -/
def Obligations.NetworkCoordinationRuns : Prop :=
  (∀ (p : Nat) (x : Copy) (rest : List Copy) (f : VFrame) (s : State), dieshUp s = true → (nmBusOf p s).en = true →
    takeFirst (fun x => isNmCopy p x s) (vatQueue 673 s).copies = some (x, rest) → frameOf x.fid s = some f →
    Gives (.nmFrameReceive p) s (nmFrame p (nmPdu f.frame x.stack) (f.frame.ts.getD 0 0)
      (releaseRef x.fid (setVatQueue 673 { vatQueue 673 s with copies := rest } (emit (.toVintner (copyBytes x s)) s))))) ∧
  (∀ (p : Nat) (s : State), dieshUp s = true → (nmBusOf p s).en = true → (nmBusOf p s).ready = false →
    (∀ x ∈ s.sleep.nm.nodes, x.port = p → keepsAwake x s = false) →
    (∀ t, (nmBusOf p s).untracked = some t → msOver t (nmBusOf p s).timeoutMs s = true) →
    Gives (.nmBusTimeout p) s (nmChanged (setNmBus p { nmBusOf p s with ready := true } s))) ∧
  (∀ (p node : Nat) (s : State), Gives (.nmNodeExpiry p node) s (nmHolders (setNm (fun n => { n with
    nodes := n.nodes.filter (fun x => !(x.port == p && x.node == node && msOver x.lastSeen (10 * (nmBusOf p s).timeoutMs) s)) }) s))) ∧
  (∀ (p : Nat) (s : State), (nmBusOf p s).en = true → coordRuns s = true → s.sleep.gated = false → (nmBusOf p s).hold = true →
    Ends (.nmTxCycle p) s (fun t => ∃ q : Nat,
      t = count p 33 (directedSend p q (ownFrame p s).1 none { (ownFrame p s).2 with fresh := (ownFrame p s).2.fresh + 1 }) ∧
      (p < 32 → 8 * p ≤ q ∧ q < 8 * p + 8))) ∧
  (∀ (p : Nat) (s : State), (nmBusOf p s).hold = true →
    let u := setNmBus p { nmBusOf p s with hold := false } s
    ((nmBusPorts u).any (fun q => (nmBusOf q u).hold) = true → Gives (.nmHoldExpiry p) s u) ∧
    ((nmBusPorts u).any (fun q => (nmBusOf q u).hold) = false →
      let v := setNm (fun n => { n with local_ := false }) u
      Gives (.nmHoldExpiry p) s (nmChanged (if s.sleep.nm.state = 1 then nmState 0 v else v)))) ∧
  (∀ s : State, coordRuns s = true → (s.sleep.nm.state = 2 ∧ s.sleep.nm.windowEnd + 1000000 ≤ now s) ∨
      (∃ t, s.sleep.nm.commitAt = some t ∧ t ≤ now s) →
    Ends .nmCommitStart s (fun t => t = commitStart s ∧ t.sleep.nm.state = 3 ∧ t.sleep.nm.commitAt = none)) ∧
  (∀ (n : Nat) (s : State), s.sleep.nm.state = 3 → s.sleep.nm.lins.contains n = true →
    Gives (.linSlaveSilenceTimeout n) s (setNm (fun m => { m with lins := m.lins.filter (· != n) }) (linDown n s))) ∧
  (∀ s : State, s.sleep.nm.state = 3 → s.sleep.nm.lanes = [] → s.sleep.nm.lins = [] → s.sleep.nm.pairWait = false →
    coordRuns s = true →
    (s.pair.state = 2 → Gives .sleepEntryStart s (pairSend 3 (Config.freeFrame s.fresh)
      (setNm (fun n => { n with pairWait := true }) { s with fresh := s.fresh + 1 }))) ∧
    (s.pair.state ≠ 2 → Ends .sleepEntryStart s (fun t => t.sleep.entry = .drain ∧ t.sleep.target = s.sleep.nm.target ∧
      t.sleep.net = true ∧ t.sleep.nm.state = 4 ∧ t.sleep.state = 1 ∧ t.vat = s.vat ∧ t.otp = s.otp))) ∧
  (∀ (p node t : Nat) (x : NmNode) (s : State), s.sleep.nm.nodes.find? (fun x => x.port == p && x.node == node) = some x →
    x.since = some t → x.logged = false → t + 1000000000 * s.sleep.nm.offendS ≤ now s → coordRuns s = true →
    Gives (.offenderTimeout p node) s (nmChanged (offender x ((now s - t) / 1000000000) (setNm (fun n => { n with
      nodes := n.nodes.map (fun y => if y.port = p ∧ y.node = node then { y with logged := true } else y) }) s)))) ∧
  (∀ (p node i : Nat) (s : State), stayIdx p node s = some i → (stayAt i s).suppressed = true →
    (∀ x ∈ s.sleep.nm.nodes, x.port = p → x.node = node → msOver x.lastSeen (nmBusOf p s).timeoutMs s = true) →
    Gives (.suppressionEnd p node) s (setStay i { stayAt i s with suppressed := false } s))

/-- CMD_POWER_LEVEL answers the level, or changes it at once when it falls and through SETTLE_US when it rises.
CMD_SLEEP_ENTER starts an entry; CMD_SLEEP_EXIT is a wake of source COMMAND. CMD_WAKE_CONFIG and CMD_WAKE_MATCHER
answer and apply the settings clamped. CMD_NM_BUS answers and configures a bus; CMD_NM_CONTROL answers the state, sets
the target and takes and releases a request; CMD_STAYAWAKE_LOG answers entries and clears the log. (derived:
spec/14_sleep_wake_and_power_levels.md) -/
def Obligations.SleepCommandsAnswer : Prop :=
  (∀ (mb : Nat) (p : Bytes) (s : State), p.length = 8 →
    (u8 p 0 = 0 → Serves (.cmdPowerLevel mb) mb 0x0B00 p (levelRsp 0 s.sleep.level 0 s) s s) ∧
    (u8 p 0 = 1 → u8 p 1 < 4 → s.sleep.rising = none → s.sleep.entry = .none → s.sleep.state = 0 →
      ingressTenths s ≤ complement (u8 p 1) ∨ bit p 2 0 = true →
      let l := u8 p 1
      let u : State := { s with sleep := { s.sleep with vselEn := bit p 2 1, settleUs := clamp 10 1000 (u32 p 4) } }
      (s.sleep.level < l →
        let v := driveVsel l (clocksAt l u)
        Serves (.cmdPowerLevel 0) 0 0x0B00 p (levelRsp 1 l (b2n (bit p 2 0)) v) s v) ∧
      (s.sleep.level = l → Serves (.cmdPowerLevel 0) 0 0x0B00 p (levelRsp 1 l (b2n (bit p 2 0)) u) s u) ∧
      (l < s.sleep.level → Begins (.cmdPowerLevel 0) 0 0x0B00 p s
        (let v := driveVsel l u
         { v with sleep := { v.sleep with rising := some (l, some 0) } }))) ∧
    (mb = 0 ∨ mb = 2 → 1 ≤ u8 p 0 → u8 p 0 ≤ 3 → s.sleep.entry = .none → s.sleep.asleep = false → s.sleep.state = 0 →
      s.pair.state ≠ 2 → s.pair.state ≠ 3 →
      let ms := if u32 p 4 = 0 then s.sleep.drainMax else clamp 1 100 (u32 p 4)
      Serves (.cmdSleepEnter mb) mb 0x0B01 p (b1 (u8 p 0) ++ b1 (b2n (bit p 1 0)) ++ zeros 2 ++ b4 ms) s
        (entryStart (u8 p 0) false { s with sleep := { s.sleep with tc10 := bit p 1 0, drainMax := ms } }))) ∧
  (∀ (mb : Nat) (s : State), mb < 4 →
    (s.sleep.state ≠ 0 ∨ s.sleep.entry ≠ .none → Serves (.cmdSleepExit mb) mb 0x0B02 [] [] s (wake { source := 30 } s)) ∧
    (s.sleep.state = 0 → s.sleep.entry = .none → Declines (.cmdSleepExit mb) mb 0x0B02 [] stState s)) ∧
  (∀ (mb : Nat) (p : Bytes) (s : State), p.length = 44 →
    (u8 p 0 = 0 → Serves (.cmdWakeConfig mb) mb 0x0B03 p (wakeRsp 0 s) s s) ∧
    (u8 p 0 = 1 →
      let z := s.sleep
      let u : State := { s with sleep := { z with
        sourceEn := BitVec.ofNat 31 (u32 p 4), edgeEn := BitVec.ofNat 96 (leN p 8 12), actFilter := max 1 (u8 p 20),
        fwTimeout := clamp 10 10000 (u16 p 22), inhMap := (List.range 4).map (fun k => u8 p (24 + k) % 4),
        muted := z.muted &&& ~~~BitVec.ofNat 31 (u32 p 28), mutedCh := z.mutedCh &&& ~~~BitVec.ofNat 96 (leN p 32 12) } }
      Serves (.cmdWakeConfig 0) 0 0x0B03 p (wakeRsp 1 u) s u)) ∧
  (∀ (mb : Nat) (p : Bytes) (s : State), p.length = 32 → u8 p 0 < 8 →
    (u8 p 1 = 0 → Serves (.cmdWakeMatcher mb) mb 0x0B04 p (matcherRsp (u8 p 0) 0 s) s s) ∧
    (u8 p 1 = 1 → u8 p 3 < 96 → isCan (edgeChan (u8 p 3) s).mode = true → u8 p 4 ≤ 3 → u8 p 5 ≤ 8 ∨ u8 p 5 = 255 →
      let m : Matcher := { flags := u8 p 2 % 8, channel := u8 p 3, rate := u8 p 4, dlc := u8 p 5, id := u32 p 8 % 536870912,
                           idMask := u32 p 12 % 536870912, data := slice p 16 8, dataMask := slice p 24 8 }
      let u : State := { s with sleep := { s.sleep with matchers := Tbl.set s.sleep.matchers (u8 p 0) m {} } }
      Serves (.cmdWakeMatcher 0) 0 0x0B04 p (matcherRsp (u8 p 0) 1 u) s u)) ∧
  (∀ (mb q : Nat) (p : Bytes) (s : State), p.length = 74 → u8 p 0 = q → q < 128 →
    (u8 p 1 = 0 → Serves (.cmdNmBus mb) mb 0x0B05 p (nmBusRsp q 0 s) s s) ∧
    (u8 p 1 = 1 → nmBusConflict p s = false → bit p 2 0 = true →
      let old := nmBusOf q s
      let b : NmBus := { en := true, ide := bit p 2 1, tc10 := bit p 2 2, ownNode := u8 p 3, nodePos := min 63 (u8 p 4),
                         cbvPos := (if u8 p 5 = 0xFF then 0xFF else min 63 (u8 p 5)), rmBit := u8 p 6 % 8, awBit := u8 p 6 / 8 % 8,
                         pduLen := clamp 1 64 (u8 p 7), idLo := u32 p 8, idHi := u32 p 12, txId := u32 p 16,
                         cycleMs := clamp 10 10000 (u16 p 20), timeoutMs := max 100 (u16 p 22), repeatMs := u16 p 24,
                         template := slice (slice p 28 46) 0 (min 46 (u8 p 26)), ready := old.ready && old.en, hold := old.hold,
                         untracked := old.untracked, ident := old.ident }
      let u := setNmBus q b s
      Serves (.cmdNmBus 0) 0 0x0B05 p (nmBusRsp q 1 u) s (nmChanged u))) ∧
  (∀ (mb : Nat) (p : Bytes) (s : State), p.length = 12 →
    (u8 p 0 = 0 → Serves (.cmdNmControl mb) mb 0x0B06 p (nmRsp 0 s) s s) ∧
    (u8 p 0 = 1 → 1 ≤ u8 p 1 → u8 p 1 ≤ 3 → Serves (.cmdNmControl 0) 0 0x0B06 p (nmRsp 1 (nmSettings p s)) s (nmSettings p s)) ∧
    (u8 p 0 = 2 →
      let u := nmHolders (nmEvent (now s) true (setNm (fun n => { n with req0 := true }) s))
      Serves (.cmdNmControl 0) 0 0x0B06 p (nmRsp 2 u) s u) ∧
    (u8 p 0 = 3 →
      let u := nmChanged (setNm (fun n => { n with req2 := false }) s)
      Serves (.cmdNmControl 2) 2 0x0B06 p (nmRsp 3 u) s u)) ∧
  (∀ (mb f n : Nat) (p : Bytes) (s : State), p.length = 6 → u16 p 2 = f → clamp 1 100 (u16 p 4) = n → f + n ≤ 512 →
    let answer (u : State) : Bytes := b2 f ++ b2 n ++ (List.range n).flatMap (fun i =>
      let e := stayAt (f + i) u
      b1 e.port ++ b1 e.node ++ b1 (b2n e.suppressed + 2 * b2n e.valid) ++ zeros 1 ++ b4 e.episodes ++ b4 e.longest ++ zeros 4 ++
        b8 e.lastSeen)
    (u8 p 0 = 0 → Serves (.cmdStayawakeLog mb) mb 0x0B07 p (answer s) s (nmHolders s)) ∧
    (mb = 0 ∨ mb = 2 →
      (u8 p 0 = 1 →
        let u := keepSettings (fun x => { x with stay := [] }) (setNm (fun n => { n with log := [] }) s)
        Serves (.cmdStayawakeLog mb) mb 0x0B07 p (answer u) s (nmHolders u)) ∧
      (u8 p 0 = 2 →
        let u := forEach (List.range n) (fun i s => unsuppress (f + i) s) s
        Serves (.cmdStayawakeLog mb) mb 0x0B07 p (answer u) s (nmHolders u))))

/-- PAIR_LINK_UP and PAIR_LINK_DOWN set the link; PAIR_HELLO_TIMER sends; PAIR_HELLO_RECEIVE makes the device active,
standby or MISMATCH. HEARTBEAT_TIMER sends on both paths, OWL_CHALLENGE_REFRESH keeps a new challenge,
OWL_RESPONSE_WRITE answers the peer's. A heartbeat with a wrong tag is counted and a right one of the peer acted on;
LAST_GASP makes a standby take over and an active lose its peer; TAKEOVER with a higher epoch fences; BEACON is noted.
PATH_SILENCE ends a path, on both paths the peer is lost or the standby takes over; RESPONSE_STALE degrades an active
and makes a standby take over. (derived: spec/15_pair_frer_lockstep.md) -/
def Obligations.ThePairFormsAndListens : Prop :=
  (∀ s : State, Gives .pairLinkUp s { s with pair := { s.pair with link := true } } ∧
    ((∀ w ∈ s.host.posted, w.bridge ≠ 1) → (∀ h ∈ s.host.held, h.bridge ≠ 1) →
      Gives .pairLinkDown s { s with pair := { s.pair with link := false } }) ∧
    (helloing s = true → Gives .pairHelloTimer s (pairSend 3 (Config.freeFrame s.fresh) { s with fresh := s.fresh + 1 })) ∧
    (pairFormedNow s = true → s.pair.genKey.isSome = true → s.pair.owlOff = false → s.sleep.asleep = false →
      Gives .heartbeatTimer s (countN 255 256 ((if s.pair.link then 1 else 0) + (if portUp s.pair.cfg.hbPort s then 1 else 0))
        (owlSendB owlHeartbeat [s.pair.cfg.hbPort] (owlSendA owlHeartbeat s))) ∧
      (let old := s.pair.challenges.filter (fun c => decide (now s < c.2 + 1000000 * s.pair.cfg.respMs))
       let c := (beN (slice (Config.randomBytes s.fresh 4) 0 4) 0 4, now s)
       Gives .owlChallengeRefresh s { s with fresh := s.fresh + 1, pair := { s.pair with challenges := c :: old } })) ∧
    (∀ c, s.pair.peerChallenge = some c → dieshUp s = true → s.pair.cfg.en = true → s.sleep.asleep = false →
      slotCheck 3 s.pair.cfg.genSlot 5 false s = 0 →
      let g := s.pair.cfg.genSlot
      let r := owlAnswer (slotKey (slotOf g s)) c devId
      Gives .owlResponseWrite s (setPair (fun p => { p with response := r, answered := c }) (invoke g s)))) ∧
  (∀ (h : Hello) (s : State), pairTalks s = true → s.pair.state = 1 ∨ s.pair.state = 4 ∨ s.pair.state = 6 →
    let c : Instr := .pairHelloReceive h.dev h.peer h.ident h.fwrev h.hbUs h.detectUs h.ckptMs h.respMs h.active h.prefer h.fenced h.epoch
    (helloItem h s ≠ 0 → Ends c s (fun t => t.pair.state = 6 ∧ t.pair.mismatch = helloItem h s)) ∧
    (helloItem h s = 0 → takesActive h s = true → Ends c s (fun t => t = becomeActive h.epoch (raise 8 0 s) ∧ t.pair.state = 2 ∧
      t.pair.epoch = max 1 (max s.pair.epoch h.epoch))) ∧
    (helloItem h s = 0 → takesActive h s = false → Ends c s (fun t => t.pair.state = 3 ∧ t.sleep.state = 2 ∧ t.sleep.gated = true ∧
      t.pair.epoch = max 1 (max s.pair.epoch h.epoch)))) ∧
  (∀ (port : Nat) (k data : Bytes) (s : State), s.pair.verKey = some k → s.pair.cfg.en = true → s.pair.link = true →
    s.pair.owlOff = false → s.sleep.asleep = false → data.length = 48 → u8 data 1 = owlHeartbeat → u8 data 2 ≠ devId →
    Tbl.get s.pair.lastSeq (seqKey 0 (u8 data 2)) 0 ≤ beN data 4 4 →
    (data.drop 40 ≠ owlTag k (data.take 40) → Gives (.owlHeartbeatReceive 0 port data) s (raise 9 5 (count 255 258 s))) ∧
    (data.drop 40 = owlTag k (data.take 40) → u8 data 2 = s.pair.cfg.peer →
      Gives (.owlHeartbeatReceive 0 port data) s (heartbeatFrom 0 data (count 255 257 (setPair (fun p => { p with
        lastSeq := Tbl.set p.lastSeq (seqKey 0 (u8 data 2)) (beN data 4 4 + 1) 0 }) s))))) ∧
  (∀ (path port : Nat) (data b : Bytes) (s u : State),
    (owlTake path port data owlLastGasp s = (some b, u) →
      let v := owlRelay path port data u
      fromPeer b v = true →
      let w := raise 9 6 (pathHeard path v)
      Gives (.owlLastGaspReceive path port data) s (if w.pair.state = 3 then takeoverStart w else peerLost w)) ∧
    (owlTake 0 port data owlTakeover s = (some b, u) → fromPeer b u = true →
      let v := pathHeard 0 u
      (v.pair.epoch < beN b 32 4 → Gives (.owlTakeoverReceive 0 port data) s (membersChanged s
        (setPair (fun p => { p with epoch := beN b 32 4 }) (fenceEnter false (raise 11 1 v))))) ∧
      (beN b 32 4 ≤ v.pair.epoch → Gives (.owlTakeoverReceive 0 port data) s (membersChanged s v))) ∧
    (owlTake path port data owlBeacon s = (some b, u) →
      let v := if path = 1 ∧ u.pair.cfg.follower then followName port b u else u
      Gives (.owlBeaconReceive path port data) s (membersChanged s (if fromPeer b v then pathHeard path v else v)))) ∧
  (∀ s : State, owlWatches s = true →
    (s.pair.pathA = true →
      let u := setPair (fun p => { p with pathA := false }) s
      (s.pair.pathB = true → Gives (.pathSilence 0) s (raise 9 0 u)) ∧
      (s.pair.pathB = false → s.pair.state = 2 → Gives (.pathSilence 0) s (peerLost u)) ∧
      (s.pair.pathB = false → s.pair.state = 3 → s.pair.verKey.isSome = true → Gives (.pathSilence 0) s (takeoverStart u))) ∧
    (∀ t, s.pair.goodResp = some t → t + 1000000 * s.pair.cfg.respMs ≤ now s → s.pair.pathA = true ∨ s.pair.pathB = true →
      (s.pair.state = 3 → s.pair.taking = false → Gives .responseStale s (takeoverStart (raise 9 4 s))) ∧
      (s.pair.state = 2 → s.pair.degraded = false → Gives .responseStale s
        (raise 9 4 (setPair (fun p => { p with degraded := true }) s)))))

/-- TAKEOVER_FORWARDING makes a standby that takes over ALONE with a higher epoch and FENCE_OUT; TAKEOVER_REPEAT and
BEACON_TIMER send. FENCE_IN_RISE fences a device of a pair; FENCE_ROOST_ENTRY enters Roost. PAIR_CHECKPOINT_TIMER
sends, IN_SYNC_LAPSE ends IN_SYNC. HANDOVER_ACK_RECEIVE fences the active and ends its command, the timeout ends it
INTERRUPTED. The pair sleep frames start or abandon entries; PAIR_DISSOLVE_RECEIVE dissolves. The FRER timers set
take_any, count latent errors and restart the counts. LOCKSTEP_MISMATCH restarts Diesh, or halts it; the controller
checkpoint toggles WDO. (derived: spec/15_pair_frer_lockstep.md) -/
def Obligations.ThePairActsOnEvents : Prop :=
  (∀ s : State, s.pair.taking = true → Ends .takeoverForwarding s (fun t => t.pair.state = 4 ∧ t.pair.taking = false ∧
    t.pair.epoch = s.pair.epoch + 1 ∧ t.pair.fenceOut = true ∧ t.pair.repeats = 9 ∧ t.sleep.state = 0 ∧ t.sleep.gated = false ∧
    t.otp = s.otp)) ∧
  (∀ s : State,
    (s.pair.state = 4 → 0 < s.pair.repeats → Gives .takeoverRepeat s
      (sendTakeover (setPair (fun p => { p with repeats := p.repeats - 1 }) s))) ∧
    (s.pair.state = 2 ∨ s.pair.state = 4 → s.sleep.asleep = false → Gives .beaconTimer s (owlSendB owlBeacon (List.range 8) s)) ∧
    (s.pair.fenceIn = false → s.pair.cfg.en = true → s.sleep.asleep = false → Gives (.fenceInRise true) s
      (fenceEnter false (raise 11 0 { s with pair := { s.pair with fenceIn := true } }))) ∧
    Gives (.fenceInRise false) s { s with pair := { s.pair with fenceIn := false } } ∧
    (s.pair.fencing = true → Ends .fenceRoostEntry s (fun t => t.pair.fencing = false ∧ t.sleep.state = 2 ∧ t.sleep.gated = true ∧
      t.pair.state = s.pair.state)) ∧
    (s.pair.state = 2 → dieshUp s = true → s.pair.link = true → s.pair.owlOff = false → s.sleep.asleep = false →
      Gives .pairCheckpointTimer s (ckptSend s)) ∧
    (s.pair.state = 2 ∨ s.pair.state = 3 → s.pair.inSync = true → Gives .inSyncLapse s
      (raise 8 7 { s with pair := { s.pair with inSync := false } })) ∧
    (∀ m, s.pair.handover = some m →
      Gives .handoverAckReceive s (mbDone m stOk s.sets.gen []
        (fenceEnter true (raise 12 1 (setPair (fun p => { p with handover := none }) (ckptAck s.pair.ckptSeq s))))) ∧
      Gives .handoverAckTimeout s (mbDone m stInterrupted s.sets.gen [] (setPair (fun p => { p with handover := none }) s))) ∧
    (pairTalks s = true → s.pair.state = 3 → s.sleep.state = 2 → s.sleep.entry = .none → s.pair.taking = false →
      ∀ target, Gives (.pairSleepReceive target) s (entryStart target true (pairControl s))) ∧
    (s.sleep.nm.pairWait = true → coordRuns s = true → Gives .pairSleepAckReceive s (netEntry s)) ∧
    (s.sleep.nm.pairWait = true → Gives .pairSleepAckTimeout s (networkWake false s)) ∧
    (pairTalks s = true → s.sleep.net = true → s.sleep.entry = .drain ∨ s.sleep.entry = .save →
      Gives .pairSleepAbortReceive s (wakeEntry { source := 31 } s)) ∧
    (s.pair.awaiting = true → s.pair.slept = 2 → s.pair.state = 1 → s.pair.heard = false →
      Gives .pairRejoinTimeout s (takeoverStart s)) ∧
    (pairTalks s = true → s.pair.state ≠ 0 → Ends .pairDissolveReceive s (fun t => t.pair.state = 0 ∧ t.pair.cfg.en = false ∧
      t.pair.genKey = none ∧ t.pair.verKey = none ∧ t.pair.fenceOut = false ∧ t.otp = s.otp)) ∧
    (∀ data, pairTalks s = true →
      Gives (.pairMb3FrameReceive 0 data) s (mbDoorbell 3 (mbWrite 3 0 (data.take 0xE00) (mbAck 3 s))) ∧
      Gives (.pairMb3FrameReceive 2 data) s (emit (.toVintner data) s) ∧
      (u8 data 0 = 2 → u8 data 1 = stOk → u16 data 2 = 4 → Gives (.pairMb3FrameReceive 1 data) s (ckptAck (u32 data 16) s)))) ∧
  (∀ (n : Nat) (s : State),
    let b := streamOf (activeSet s) n
    let x := frerState n s
    (isRecover (activeSet s) n = true →
      (x.takeAny = false → x.lastPass + 1000000 * u16 b 4 < now s → Gives (.frerRecoveryTimeout n) s
        (raise 13 1 (countEntry (ecFrer 4) n (setFrer n { x with takeAny := true } s)))) ∧
      (bit b 0 5 = true → u32 b 8 + x.discarded < x.passed * (u8 b 6 - 1) → Gives (.frerLatentCheck n) s
        (raise 13 0 (countEntry (ecFrer 5) n s))) ∧
      (x.passed * (u8 b 6 - 1) ≤ u32 b 8 + x.discarded → Gives (.frerLatentCheck n) s s)) ∧
    Gives (.frerLatentReset n) s (setFrer n { x with passed := 0, discarded := 0 } s)) ∧
  (∀ (bad mask : Nat) (s : State), dieshUp s = true → s.sleep.asleep = false →
    Gives .controllerCheckpointWrite s { s with pair := { s.pair with
      ctlSeq := s.pair.ctlSeq + 1, ctlCopies := min 2 (s.pair.ctlCopies + 1), wdo := if s.power.ready then !s.pair.wdo else false } } ∧
    (let ts := faultsNow s.pair.mismatches 10000000000 s
     let u := setPair (fun p => { p with mismatches := ts, lastMismatch := now32 s }) (alarm 7 locDev (raise 10 0 (count 255 265 s)))
     (3 ≤ ts.length ∨ s.pair.ctlCopies ≤ bad → Gives (.lockstepMismatch bad mask) s (vintnerHalt u)) ∧
     (ts.length < 3 → bad < s.pair.ctlCopies → s.pair.wiped = none →
       let v := raise 10 1 (count 255 266 (setPair (fun p => { p with restarts := p.restarts + 1 }) u))
       Gives (.lockstepMismatch bad mask) s (restartEnds mask (if 0 < bad then raise 10 3 v else v)))))

/-- CMD_PAIR_CONFIG answers, configures and dissolves; CMD_PAIR_STATUS and CMD_LOCKSTEP_STATUS answer the state;
CMD_PAIR_HANDOVER of an active that may hand over sends a last checkpoint and waits; CMD_PAIR_FENCE fences, or returns
a fenced device to forming; CMD_PAIR_CHECKPOINT takes a segment on the standby. CMD_LOGICAL_PORT, CMD_FRER_STREAM and
CMD_FRER_BIND read the active and write the shadow set; CMD_FRER_COUNTERS answers and clears counters; CMD_FRER_RESET
sets take_any or resync. (derived: spec/15_pair_frer_lockstep.md) -/
def Obligations.PairCommandsAnswer : Prop :=
  (∀ (mb : Nat) (p : Bytes) (s : State), p.length = 16 →
    (u8 p 0 = 0 → Serves (.cmdPairConfig mb) mb 0x0C00 p (pairCfgRsp 0 s) s s) ∧
    (u8 p 0 = 1 → u8 p 2 < 64 → u8 p 3 < 8 → u8 p 12 < 240 → u8 p 13 < 240 → s.pair.state ≠ 2 → s.pair.state ≠ 3 →
      u8 p 2 ≠ devId → owlSlotOk (u8 p 12) 5 s = true → owlSlotOk (u8 p 13) 6 s = true →
      let u := pairConfigure (pairCfgOf p) s
      Serves (.cmdPairConfig 0) 0 0x0C00 p (pairCfgRsp 1 u) s u) ∧
    (u8 p 0 = 2 → s.pair.state ≠ 0 →
      let u := dissolve (pairControl s)
      Serves (.cmdPairConfig 0) 0 0x0C00 p (pairCfgRsp 2 u) s u)) ∧
  (∀ (mb : Nat) (s : State),
    Serves (.cmdPairStatus mb) mb 0x0C01 [] (b4 (pairStatus s) ++ b4 s.pair.epoch ++ b4 s.pair.ckptSeq ++ b4 s.pair.peerGen ++
      b1 s.pair.mismatch ++ zeros 3 ++ b4 s.pair.lastTakeover) s s ∧
    Serves (.cmdLockstepStatus mb) mb 0x0C05 [] (b1 (b2n s.pair.vintnerHalted) ++
      b1 (countIf (fun t => decide (now s < t + 10000000000)) s.pair.mismatches) ++ zeros 2 ++ b4 s.pair.restarts ++
      b4 s.pair.lastMismatch ++ b4 s.pair.ctlSeq) s s) ∧
  (∀ s : State, s.pair.handover ≠ some 0 →
    (s.pair.state = 2 → s.pair.inSync = true → s.pair.acked.map (·.gen) = some s.sets.gen → s.pair.degraded = false →
      Begins (.cmdPairHandover 0) 0 0x0C02 [] s (setPair (fun p => { p with handover := some 0 }) (ckptSend s))) ∧
    (s.pair.state ≠ 2 → Declines (.cmdPairHandover 0) 0 0x0C02 [] stState s)) ∧
  (∀ (mb : Nat) (p : Bytes) (s : State), p.length = 4 → mb = 0 ∨ mb = 2 ∨ mb = 3 →
    (u8 p 0 = 0 → Serves (.cmdPairFence mb) mb 0x0C03 p (b1 0 ++ zeros 3) s (fenceEnter true s)) ∧
    (u8 p 0 = 1 → s.pair.state = 5 → s.pair.fenceIn = false →
      let u := if s.pair.fencing then fenceRoost s else s
      Serves (.cmdPairFence mb) mb 0x0C03 p (b1 1 ++ zeros 3) s (setPair (fun p => { p with state := 1, awaiting := true }) u))) ∧
  (∀ (t : Nat) (p : Bytes) (s : State), 8 ≤ p.length → p.length ≤ 3568 → s.pair.state = 3 → Served 3 0x0C04 t p s →
    let u := ckptSegment p s
    Answers (.cmdPairCheckpoint 3) 3 u.sets.gen (b4 u.pair.ckptSeq) s u) ∧
  (∀ (n : Nat) (p : Bytes) (s : State), p.length = 9 → u8 p 0 = n → 136 ≤ n → n < 168 →
    let answer (b : Bytes) : Bytes := b1 n ++ b ++ b1 (entryMembers b s).1 ++ b1 (entryMembers b s).2
    ReadsActive .cmdLogicalPort 0x0C06 p (answer (logicalOf (activeSet s) n)) s ∧
    (u8 p 1 ≤ 3 →
      let b := slice p 1 5 ++ zeros 3
      SetsShadow (.cmdLogicalPort 0) 0x0C06 p (answer b) (fun c => { c with logical := Tbl.set c.logical n b (zeros 8) }) s)) ∧
  (∀ (n : Nat) (p : Bytes) (s : State), p.length = 20 → u16 p 0 = n → n < 2048 →
    let b := streamApply (slice p 4 16)
    ReadsActive .cmdFrerStream 0x0C07 p (b2 n ++ zeros 2 ++ streamOf (activeSet s) n) s ∧
    SetsShadow (.cmdFrerStream 0) 0x0C07 p (b2 n ++ zeros 2 ++ b) (fun c => { c with streams := Tbl.set c.streams n b stream0 }) s) ∧
  (∀ (a n : Nat) (p : Bytes) (s : State), u16 p 0 = a → u16 p 2 = n → 1 ≤ n → n ≤ 256 → p.length = 4 + 2 * n → a + n ≤ 8192 →
    let v (i : Nat) : Nat := u16 p (4 + 2 * i) % 2048 + 0x8000 * b2n ((u16 p (4 + 2 * i)).testBit 15)
    ReadsActive .cmdFrerBind 0x0C08 p (b2 a ++ b2 n ++ (List.range n).flatMap (fun i => b2 (bindOf (activeSet s) (a + i)))) s ∧
    ((List.range n).any (fun i => (v i).testBit 15 && !bit (streamOf (shadowSet s) (v i % 2048)) 0 0) = false →
      SetsShadow (.cmdFrerBind 0) 0x0C08 p (b2 a ++ b2 n ++ (List.range n).flatMap (fun i => b2 (v i)))
        (fun c => { c with binds := (List.range n).foldl (fun t i => Tbl.set t (a + i) (b2 (v i)) (zeros 2)) c.binds }) s)) ∧
  (∀ (mb : Nat) (p : Bytes) (s : State), p.length = 10 → u8 p 0 = 0 → u32 p 4 < 2048 → bit p 1 0 = false ∨ mb = 0 →
    let a := u32 p 4
    let n := min (clamp 1 63 (u16 p 8)) (2048 - a)
    let keys := (List.range n).flatMap (fun i => (List.range 8).map (fun j => (ecFrer 0 + j, a + i)))
    Serves (.cmdFrerCounters mb) mb 0x0C09 p (b4 a ++ b2 n ++ zeros 2 ++ keys.flatMap (fun k => b8 (entryCounter k.1 k.2 s))) s
      (if bit p 1 0 then forEach keys (fun k s => clearEntry k.1 k.2 s) s else s)) ∧
  (∀ (p : Bytes) (s : State), p.length = 5 → u16 p 0 + u16 p 2 ≤ 2048 →
    (u8 p 4 = 0 → Serves (.cmdFrerReset 0) 0 0x0C0A p (slice p 0 5) s (forEach (List.range (u16 p 2)) (fun i s =>
      setFrer (u16 p 0 + i) { frerState (u16 p 0 + i) s with takeAny := true } s) s)) ∧
    (u8 p 4 = 1 → Serves (.cmdFrerReset 0) 0 0x0C0A p (slice p 0 5) s (forEach (List.range (u16 p 2)) (fun i s =>
      setFrer (u16 p 0 + i) { frerState (u16 p 0 + i) s with resync := true } s) s)))

/-- CHAIN_DATA_RECEIVE from UPSTREAM takes a manifest or a piece and acknowledges it; CHAIN_DATA_ACK_RECEIVE and
CHAIN_RETRANSMIT_TIMER run the window of each DOWNSTREAM port. A verified ARM that may be kept arms the device, a late
one is counted; CONFIRM in a trial makes the TRIAL bank GOOD and raises the floor; ABORT withdraws or falls back;
STATUS and CTRL_ACK reach the coordinator. UPDATE_ACTIVATION at T restarts into or swaps to the package;
TRIAL_WINDOW_EXPIRY falls back. PACKAGE_READBACK_COMPLETE judges the parts. The repeat, deadline and completeness
timers act at their times. (derived: spec/16_field_update.md) -/
def Obligations.FieldUpdateRuns : Prop :=
  (∀ (port : Nat) (p : Bytes) (s u : State), takeChain port 6 s = some (p, u) → u.upd.chain.upstream = port → u8 p 0 = 1 →
    chKind p = 6 → 24 + chLen p ≤ p.length → chLen p ≤ 1440 →
    (chPart p = 0xFF → Gives (.chainDataReceive port) s (chainManifest p u)) ∧
    (∀ part block, chPart p = part → part ≠ 0xFF → chBlock p = block → chPkg p = updPkg u → 1 ≤ u.upd.state → u.upd.state ≠ 6 →
      pieceExists u.upd.manifest part block = true → chOff p + chLen p ≤ pieceLen u.upd.manifest part block →
      (u.upd.have_.contains (65536 * part + block) = true → Gives (.chainDataReceive port) s (dataAck part block (updPkg u) u)) ∧
      (u.upd.have_.contains (65536 * part + block) = false → relayFull u = false →
        ∀ k v, pieceBytes part block (chOff p) (slice p 24 (chLen p)) u = (k, v) →
          Gives (.chainDataReceive port) s (if k = 1 then dataAck part block (updPkg v) v else v)))) ∧
  (∀ (port : Nat) (p : Bytes) (s u : State), takeChain port 7 s = some (p, u) → u.upd.chain.downstream.getLsbD port = true →
    chPkg p = updPkg u → Gives (.chainDataAckReceive port) s
      (relaySend (relayDone port (fun x => samePiece (chPart p) (chBlock p) x && decide (0 < sentOn x port)) u))) ∧
  (∀ (port part block : Nat) (x : RelayItem) (s : State),
    s.upd.queue.find? (fun x => samePiece part block x && x.ports.contains port && decide (0 < sentOn x port)) = some x →
    (sentOn x port < 10 → Gives (.chainRetransmitTimer port part block) s (sendOn port x (count 255 277 s))) ∧
    (10 ≤ sentOn x port → Gives (.chainRetransmitTimer port part block) s
      (raise 97 0 (relayDone port (fun _ => true) { s with upd := { s.upd with failed := port :: s.upd.failed } })))) ∧
  (∀ (port : Nat) (p : Bytes) (s u : State), u.upd.chain.upstream = port →
    (takeControl port 8 s = (some p, u) →
      let v := relayDown (beN p 36 8) p u
      v.upd.state ≠ 3 →
      (armJudge (chPkg p) (beN p 36 8) (beN p 24 8) v = 0 → Gives (.chainArmReceive port) s
        (ctrlAck p (armAccept (beN p 24 8) (beN p 32 4) (beN p 36 8) v))) ∧
      (armJudge (chPkg p) (beN p 36 8) (beN p 24 8) v = 1 → Gives (.chainArmReceive port) s (armLate v))) ∧
    (takeControl port 9 s = (some p, u) → (beN p 24 8).testBit devId = true →
      let v := relayDown (beN p 24 8) p u
      ∀ n, chPkg p = updPkg v → inTrial v = true → bankIn 3 v = some n → Ends (.chainConfirmReceive port) s (fun t =>
        t = ctrlAck p (confirmTrial v) ∧ t.upd.state = 0 ∧ t.flash.floor = max v.flash.floor (mfFloor v.upd.manifest))) ∧
    (takeControl port 10 s = (some p, u) → (beN p 24 8).testBit devId = true →
      let v := relayDown (beN p 24 8) p u
      chPkg p = updPkg v → v.upd.state = 3 ∨ inTrial v = true → Gives (.chainAbortReceive port) s (abortHere (ctrlAck p v)))) ∧
  (∀ (port : Nat) (p : Bytes) (s u : State), u.upd.chain.downstream.getLsbD port = true →
    (takeControl port 11 s = (some p, u) →
      (u.upd.chain.coord = true → Gives (.chainStatusReceive port) s (takeReport (chDev p)
        { state := u8 p 24, fellBack := bit p 25 0, flags := u8 p 25, remain := beN p 28 4, fwrev := beN p 40 4, time := now32 u } u)) ∧
      (u.upd.chain.coord = false → Gives (.chainStatusReceive port) s (relayFrame (upPorts u) p u))) ∧
    (takeControl port 12 s = (some p, u) →
      (u.upd.chain.coord = true → u8 p 24 = 8 → Gives (.chainCtrlAckReceive port) s
        { u with upd := { u.upd with armWait := u.upd.armWait.filter (fun k => k != chDev p) } }) ∧
      (u.upd.chain.coord = false → Gives (.chainCtrlAckReceive port) s (relayFrame (upPorts u) p u)))) ∧
  (∀ s : State,
    (dieshUp s = true → s.upd.state ≠ 0 → s.upd.state ≠ 6 → Gives .updStatusTimer s (sendStatus s)) ∧
    (s.upd.chain.coord = true → s.upd.armWait ≠ [] → tbEnabled 1 s = true → tbNow 1 s + 200000000 ≤ s.upd.armT →
      Gives .armRepeatTimer s (sendArm s.upd.armWait s)) ∧
    (s.upd.state = 3 → tbEnabled 1 s = true → s.upd.t ≤ tbNow 1 s →
      (s.upd.restart = true → Gives .updateActivation s (activateRestart s)) ∧
      (s.upd.restart = false → updSwap s = true → Gives .updateActivation s (activateSwap s))) ∧
    (s.upd.state = 3 → s.upd.loadDue = true → tbEnabled 1 s = true → s.upd.t ≤ tbNow 1 s + 100000000 →
      Gives .shadowReadyDeadline s
        (armLate (updState 2 s.upd.fellBack { s with upd := { s.upd with t := 0, loadDue := false } }))) ∧
    (inTrial s = true → s.upd.trialFrom + 1000000000 * s.upd.trialS ≤ now s → Gives .trialWindowExpiry s (fallBack s)) ∧
    (s.upd.chain.coord = true → s.upd.confirming = true →
      let w := s.upd.confWait.filter (fun d => windowRuns d s)
      w ≠ [] → Gives .confirmRepeatTimer s (sendMask 9 w { s with upd := { s.upd with confWait := w } })) ∧
    (s.upd.chain.coord = true → inTrial s = false → tbEnabled 1 s = true → s.upd.armT + 5000000000 ≤ tbNow 1 s →
      (∃ d ∈ maskDevs s.upd.armMask, devState d s ≠ 4 ∧ devState d s ≠ 5) →
      Gives .incompleteCheck s (raise 99 3 { s with upd := { s.upd with armMask := 0 } })) ∧
    (s.upd.state = 1 → s.upd.relay = false → blocksTotal s ≤ blocksDone s →
      ((∀ i ∈ ownParts s, rootOf (bankPart (otherBank s) (partKind s.upd.manifest i) s) = partRoot s.upd.manifest i) →
        Gives (.packageReadbackComplete false) s
          (raise 96 3 (updState 2 false (bankHeader (otherBank s) (fun b => { b with state := 2, fell := 0 }) s)))) ∧
      Gives (.packageReadbackComplete true) s (raise 96 4 (count 255 284 (updState 6 false s)))))

/-- CMD_UPD_STATUS answers the state; CMD_UPD_MANIFEST of the last part of a manifest in a bank of MB0 accepts or
refuses it by R494; CMD_UPD_DATA takes a piece; CMD_UPD_CHAIN answers and sets the chain. CMD_UPD_ARM, CMD_UPD_CONFIRM
and CMD_UPD_ABORT of this device alone arm it, confirm its trial, withdraw or fall back; CMD_UPD_VEHICLE answers the
reports of all devices on the coordinator. CMD_SERVICE_AUTH of a token that verifies opens a session with its rights;
one that does not is refused and counted. (derived: spec/16_field_update.md; spec/12_backbone_trunk_service_ports.md)
-/
def Obligations.UpdateCommandsAnswer : Prop :=
  (∀ (mb : Nat) (s : State), Serves (.cmdUpdStatus mb) mb 0x0D00 [] (b1 s.upd.state ++ b1 (b2n s.upd.fellBack + 2 * b2n s.upd.restart) ++
    b1 (flashBank 0 s).state ++ b1 (flashBank 1 s).state ++ b8 (updPkg s) ++ b4 (blocksDone s) ++ b4 (blocksTotal s) ++
    b8 s.upd.t ++ b4 (remainS s) ++ b4 s.flash.floor) s s) ∧
  (∀ (t st : Nat) (p : Bytes) (s v : State), p.length = 12 → u8 p 0 = 0 → bankRange (u8 p 1) (u32 p 4) (u32 p 8) s = true →
    s.upd.state < 3 ∨ s.upd.state = 6 → Served 0 0x0D01 t p s →
    let b := bankOf (u8 p 1) s
    (bit p 2 0 = false → Answers (.cmdUpdManifest 0) 0 s.sets.gen [] s s) ∧
    (bit p 2 0 = true → u32 p 8 ≤ 65536 → b.retired = false → b.poison = [] →
      let m := Memory.readN b.mem (u32 p 4) (u32 p 8)
      manifestStatus m { s with upd := { s.upd with draft := {} } } = (st, v) →
      exec (.cmdUpdManifest 0) s = .next (mbDone 0 st s.sets.gen [] (if st = stOk then manifestAccept m false v else manifestFail v)))) ∧
  (∀ (t k : Nat) (p : Bytes) (s v : State), p.length = 20 → u8 p 1 = 0 → bankRange (u8 p 2) (u32 p 16) (u32 p 12) s = true →
    s.upd.state = 1 → pieceExists s.upd.manifest (u8 p 0) (u16 p 4) = true →
    u32 p 8 + u32 p 12 ≤ pieceLen s.upd.manifest (u8 p 0) (u16 p 4) → relayFull s = false →
    let b := bankOf (u8 p 2) s
    b.retired = false → b.poison = [] →
    pieceBytes (u8 p 0) (u16 p 4) (u32 p 8) (Memory.readN b.mem (u32 p 16) (u32 p 12)) s = (k, v) → Served 0 0x0D02 t p s →
    (k ≠ 3 → exec (.cmdUpdData 0) s = .next (mbDone 0 stOk s.sets.gen (b1 k) v)) ∧
    (k = 3 → exec (.cmdUpdData 0) s = .next (mbDone 0 stAuth s.sets.gen (b1 2) v))) ∧
  (∀ (mb : Nat) (p : Bytes) (s : State), p.length = 12 →
    (u8 p 0 = 0 → Serves (.cmdUpdChain mb) mb 0x0D03 p (chainRsp 0 s) s s) ∧
    (u8 p 0 = 1 → u8 p 1 < 32 → u8 p 3 < 8 → u8 p 8 < 240 → u8 p 9 < 240 → s.upd.state = 0 ∨ s.upd.state = 6 →
      (bitsOf 32 (u32 p 4)).length ≤ 4 → (u32 p 4).testBit (u8 p 1) = false → bit p 2 0 = false →
      chainSlotOk (u8 p 8) 5 s = true → chainSlotOk (u8 p 9) 6 s = true →
      let c : Chain := { upstream := u8 p 1, downstream := BitVec.ofNat 32 (u32 p 4), coord := false, tc := u8 p 3,
                         genSlot := u8 p 8, verSlot := u8 p 9 }
      let u := keepSettings (fun x => { x with chain := c }) { s with upd := { s.upd with chain := c, failed := [] } }
      Serves (.cmdUpdChain 0) 0 0x0D03 p (chainRsp 1 u) s u)) ∧
  (∀ (mb : Nat) (p : Bytes) (s : State), mb = 0 ∨ mb = 4 → u8 p 0 = 0 →
    (p.length = 24 → s.upd.chain.upstream = 0xFF → armJudge (updPkg s) (2 ^ devId) (u64 p 4) s = 0 →
      let secs := clamp 10 3600 (u32 p 12)
      Serves (.cmdUpdArm mb) mb 0x0D04 p (slice p 0 12 ++ b4 secs ++ slice p 16 8) s
        (armAccept (u64 p 4) secs (2 ^ devId) s)) ∧
    (p.length = 16 → inTrial s = true → Serves (.cmdUpdConfirm mb) mb 0x0D05 p p s (confirmTrial s)) ∧
    (∀ t, p.length = 16 → s.upd.state = 3 ∨ inTrial s = true → Served mb 0x0D06 t p s →
      Answers (.cmdUpdAbort mb) mb (abortHere s).sets.gen p s (abortHere s))) ∧
  (∀ (mb : Nat) (s : State), mb = 0 ∨ mb = 1 ∨ mb = 4 →
    let devs := (mfTable s.upd.manifest).map (·.1)
    (s.upd.chain.coord = true → Serves (.cmdUpdVehicle mb) mb 0x0D07 [] (b1 devs.length ++ zeros 3 ++ devs.flatMap (fun d =>
      let r := devReport d s
      b1 d ++ b1 r.state ++ b1 r.flags ++ zeros 1 ++ b4 r.remain ++ b4 r.fwrev ++ b4 r.time)) s s) ∧
    (s.upd.chain.coord = false → Declines (.cmdUpdVehicle mb) mb 0x0D07 [] stState s)) ∧
  (∀ (t : Nat) (p : Bytes) (s : State), 1 ≤ p.length → p.length ≤ 3568 → s.otp.life ≠ 3 → Served 4 0x0005 t p s →
    let refused (u : State) : State := mbDone 4 stAuth s.sets.gen [] (raise 100 1 (count 255 283 u))
    (p.length ≠ 3469 ∨ u32 p 0 ≠ 0x4B545653 ∨ u32 p 16 ≤ s.flash.tokenSeq → exec (.cmdServiceAuth 4) s = .next (refused s)) ∧
    (∀ k, p.length = 3469 → u32 p 0 = 0x4B545653 → u16 p 4 = 1 → u8 p 6 ≤ 3 → u64 p 8 = Config.serialNumber.toNat →
      s.flash.tokenSeq < u32 p 16 → tokenKeys (u8 p 6) s = some k →
      let v := verify (u8 p 6) (sha384 (p.take 64)) (k ++ p.drop 64) s
      let w := countVerify v s
      let secs := min 1800 (u16 p 20)
      let x : State := { w with flash := { w.flash with tokenSeq := u32 p 16 },
                                svc := { w.svc with session := some secs, rights := u8 p 7 % 8 } }
      exec (.cmdServiceAuth 4) s = .next (if v.1 && v.2.1 && v.2.2 then mbDone 4 stOk s.sets.gen (b4 secs) (raise 100 0 (saveRecord x))
        else refused w)))

/-- MOLE_VISIT tests a region when the Mole is enabled and DEN runs: it counts it, poisons the uncorrectable words,
counts corrected errors, repairs or gives up a region with a march failure, and moves on; a disabled Mole visits
nothing. SCR_OWN_WRITE by its owner or Diesh changes OWNER at once, or zeroes first for OWNER 0 or ZERO; any other
write is refused and counted. SCRATCH_ZERO_COMPLETE gives the blank bank to its new owner. TRACE_WRITER_DRAIN writes
the oldest record at WR when the severity leaves room, else counts it as dropped. TRACE_RD_WRITE sets RD, or RD = WR
for a value that would pass it. ALARM_CLEAR clears the alarm bits written as one; other writers are refused. (derived:
spec/17_selftest_scratchpads_trouble.md) -/
def Obligations.MoleScratchTraceAndAlarmsRun : Prop :=
  (∀ (ce ue : Nat) (again : Bool) (s : State), s.test.moleEn = true → coreRuns s = true →
    let b := (moleAt s).1
    let off := 256 * (moleAt s).2
    let u := count 255 293 (applyRow (regionItem b off).1 (regionItem b off).2 s)
    let v := molePoison b off (bitsOf 32 ue) (moleCorrected b off ce u)
    Gives (.moleVisit ce ue false again) s (moleNext b (moleAt s).2 v) ∧
    Gives (.moleVisit ce ue true again) s (moleNext b (moleAt s).2 (moleFault b off again v))) ∧
  (∀ (ce ue : Nat) (fault again : Bool) (s : State), s.test.moleEn = false → Gives (.moleVisit ce ue fault again) s s) ∧
  (∀ (init n v : Nat) (s : State), (bankOf n s).busy = false → (bankOf n s).retired = false →
    init = 4 ∨ (init < 3 ∧ (bankOf n s).owner = init + 1 ∧ v % 8 < 4) →
    (v % 8 ≠ 0 → v.testBit 4 = false → Gives (.scrOwnWrite init n v) s (setBank n { bankOf n s with owner := v % 8 } s)) ∧
    (v % 8 = 0 ∨ v.testBit 4 = true → Gives (.scrOwnWrite init n v) s
      (setBank n { bankOf n s with owner := v % 8, busy := true, zeroFor := some (v % 8) } s))) ∧
  (∀ (init n v : Nat) (s : State), init ≠ 4 → (bankOf n s).owner ≠ init + 1 →
    Gives (.scrOwnWrite init n v) s (denied (0x2000 + 4 * n) init false s)) ∧
  (∀ (n o : Nat) (s : State), (bankOf n s).zeroFor = some o → Gives (.scratchZeroComplete n) s
    (traceHome (setBank n { bankOf n s with owner := o, busy := false, zeroFor := none, mem := [], poison := [] } s))) ∧
  (∀ (n : Nat) (r : TraceRec) (rest : List TraceRec) (s : State), coreRuns s = true → s.test.fifo = r :: rest →
    s.test.traceBank = some n →
    let u : State := { s with test := { s.test with fifo := rest } }
    (unread s < traceLimit r.sev (2 ^ s.test.log2) →
      let v := bankWrite n (32 * s.test.wr) (recordBytes r) u
      Gives .traceWriterDrain s (count 255 300 { v with test := { v.test with wr := (s.test.wr + 1) % 2 ^ s.test.log2 } })) ∧
    (traceLimit r.sev (2 ^ s.test.log2) ≤ unread s → Gives .traceWriterDrain s (traceDrop r.sev u))) ∧
  (∀ (init v : Nat) (s : State), init = 0 ∨ init = 4 →
    (v % 16384 < 2 ^ s.test.log2 → (v % 16384 + 2 ^ s.test.log2 - s.test.rd) % 2 ^ s.test.log2 ≤ unread s →
      Gives (.traceRdWrite init v) s { s with test := { s.test with rd := v % 16384 } }) ∧
    (2 ^ s.test.log2 ≤ v % 16384 ∨ unread s < (v % 16384 + 2 ^ s.test.log2 - s.test.rd) % 2 ^ s.test.log2 →
      Gives (.traceRdWrite init v) s { s with test := { s.test with rd := s.test.wr } })) ∧
  (∀ (init v : Nat) (s : State), init = 0 ∨ init = 4 → v < 2 ^ 18 → Ends (.alarmClear init v) s (fun t =>
    t.alarms.status = s.alarms.status &&& ~~~ BitVec.ofNat 18 v ∧ t.alarms.soft = s.alarms.soft ∧ t.out = s.out ∧
    ∀ k, k < 18 → Tbl.find t.alarms.kinds k = if v.testBit k = true then none else Tbl.find s.alarms.kinds k)) ∧
  (∀ (init v : Nat) (s : State), 1 ≤ init → init ≤ 3 →
    Gives (.traceRdWrite init v) s (denied 0x20108 init false s) ∧ Gives (.alarmClear init v) s (denied 0x300 init false s))

/-- CMD_SELFTEST_RUN isolates a unit that may be tested and stays BUSY; served again at the end it answers RESULT and
ACTION and returns a unit that passed to service, or retires one that failed. CMD_BIST_RESULT and CMD_REPAIR_LIST
answer their records; CMD_REPAIR_BURN uses the next fuse record and, if the read-back is good, moves the soft repair
to it, else answers CONFLICT. CMD_SCRATCH_OWN claims a FREE bank, releases it or hands it over; CMD_SCRATCH_STATUS
lists the banks. CMD_MOLE_CONFIG sets and answers the Mole. CMD_LOG_CONFIG answers the ring or moves it; CMD_LOG_READ
answers unread records and consumes them if asked. (derived: spec/17_selftest_scratchpads_trouble.md) -/
def Obligations.TestAndLogCommandsAnswer : Prop :=
  (∀ (mb detail : Nat) (pass : Bool) (p : Bytes) (s : State), mb = 0 ∨ mb = 2 → p.length = 4 → testUnit (u8 p 0) (u8 p 1) = true →
    (s.test.field = none → testRefused (u8 p 0) (u8 p 1) s = stOk →
      Begins (.cmdSelftestRun mb pass detail) mb 0x0E00 p s
        (membersChanged s (count 255 288 (isolate (u8 p 0) (u8 p 1) mb s)))) ∧
    (∀ t, s.test.field = some t → t.mb = mb →
      let u : State := { s with test := { s.test with field := none } }
      (pass = true → ServesPorts (.cmdSelftestRun mb true detail) mb 0x0E00 p (b1 0 ++ b1 (testAction t true) ++ zeros 2 ++ b4 detail) s
        (raise 104 0 (testPassed t u))) ∧
      (pass = false → ServesPorts (.cmdSelftestRun mb false detail) mb 0x0E00 p
        (b1 1 ++ b1 (testAction t false) ++ zeros 2 ++ b4 detail) s (testFailed t u)))) ∧
  (∀ (mb : Nat) (s : State), Serves (.cmdBistResult mb) mb 0x0E01 [] (b1 s.test.bist.run ++ b1 s.test.bist.outcome ++
    b2 s.test.bist.duration ++ b2 s.test.bist.noRef ++ b1 s.test.bist.softApplied ++ b1 (s.test.bist.fails.take 64).length ++
    (s.test.bist.fails.take 64).flatMap (fun f => b1 f.kind ++ b1 f.index ++ b1 (b2n f.fatal) ++ zeros 1 ++ b4 f.detail)) s s) ∧
  (∀ (mb : Nat) (s : State), Serves (.cmdRepairList mb) mb 0x0E02 []
    (b1 (repairs s).length ++ b1 (16 - s.otp.fusesUsed) ++ zeros 2 ++ (repairs s).flatMap repairBytes) s s) ∧
  (∀ (p : Bytes) (x : Repair) (s : State), p.length = 4 → s.alarms.soft[u16 p 0]? = some x → x.candidate = false →
    s.otp.fusesUsed < 16 → s.otp.life ≠ 3 →
    let u := emit (.fuse 4 (leN (repairBytes x) 0 8)) { s with otp := { s.otp with fusesUsed := s.otp.fusesUsed + 1 } }
    Serves (.cmdRepairBurn 0 true) 0 0x0E03 p (b1 s.otp.fusesUsed ++ b1 (15 - s.otp.fusesUsed)) s
      (raise 105 3 (count 255 292 { u with otp := { u.otp with fuses := s.otp.fuses ++ [{ x with origin := 2 }] }, alarms := { u.alarms with soft := s.alarms.soft.eraseIdx (u16 p 0) } })) ∧
    ∀ t, Served 0 0x0E03 t p s → exec (.cmdRepairBurn 0 false) s = .next
      (mbDone 0 stConflict s.sets.gen (b1 s.otp.fusesUsed ++ b1 (15 - s.otp.fusesUsed)) (raise 105 4 u))) ∧
  (∀ (mb : Nat) (p : Bytes) (s : State), mb < 3 → p.length = 4 → u8 p 0 < 16 →
    let n := u8 p 0
    let b := bankOf n s
    let rsp (t : State) : Bytes := p ++ b1 (bankOf n t).owner
    b.busy = false → b.retired = false →
    (u8 p 1 = 0 → b.owner = 0 → bit p 3 0 = false →
      Serves (.cmdScratchOwn mb) mb 0x0E04 p (rsp (scrOwn n (mb + 1) s)) s (scrOwn n (mb + 1) s)) ∧
    (u8 p 1 = 0 → b.owner ≠ 0 → Declines (.cmdScratchOwn mb) mb 0x0E04 p stState s) ∧
    (u8 p 1 = 1 → b.owner = mb + 1 → Serves (.cmdScratchOwn mb) mb 0x0E04 p (rsp (scrOwn n 0 s)) s (scrOwn n 0 s)) ∧
    (u8 p 1 = 2 → 1 ≤ u8 p 2 → u8 p 2 < 4 → b.owner = mb + 1 → bit p 3 0 = true →
      Serves (.cmdScratchOwn mb) mb 0x0E04 p (rsp (zeroBank n (u8 p 2) s)) s (zeroBank n (u8 p 2) s))) ∧
  (∀ (mb : Nat) (s : State), Serves (.cmdScratchStatus mb) mb 0x0E05 [] ((List.range 16).flatMap (fun n =>
    b1 (bankOf n s).owner ++ b1 (b2n (bankOf n s).busy + 2 * b2n (bankOf n s).retired) ++
      b1 (countIf (fun t => decide (now s < t + 60000000000)) (bankOf n s).ueTimes) ++ zeros 1 ++ b4 (bankOf n s).ce) ++
    (List.range 2).flatMap (fun n => b1 0xFF ++ zeros 3 ++ b4 (secureOf n s).ce)) s s) ∧
  (∀ (p : Bytes) (s : State), p.length = 8 →
    let rsp (op : Nat) (t : State) : Bytes := b1 op ++ b1 (b2n t.test.moleEn) ++ b2 t.test.moleMask.toNat ++ b4 t.test.moleUs ++
      b4 t.test.molePasses ++ b4 t.test.moleMs ++ b1 t.test.moleBank ++ zeros 1 ++ b2 t.test.moleRegion
    (u8 p 0 = 0 → ∀ mb < 5, Serves (.cmdMoleConfig mb) mb 0x0E06 p (rsp 0 s) s s) ∧
    (u8 p 0 = 1 →
      let u : State := { s with test := { s.test with moleEn := bit p 1 0, moleMask := BitVec.ofNat 16 (u16 p 2), moleUs := clamp 10 10000 (u32 p 4) } }
      Serves (.cmdMoleConfig 0) 0 0x0E06 p (rsp 1 u) s u)) ∧
  (∀ (p : Bytes) (s : State), p.length = 4 →
    (u8 p 0 = 0 → ∀ mb < 5, Serves (.cmdLogConfig mb) mb 0x0F03 p
      (b1 0 ++ b1 (s.test.traceBank.getD 15) ++ b1 s.test.log2 ++ zeros 1) s s) ∧
    (u8 p 0 = 1 → u8 p 1 < 16 → s.test.traceBank = some (u8 p 1) →
      let u := setBank (u8 p 1) { bankOf (u8 p 1) s with owner := 6 } s
      Serves (.cmdLogConfig 0) 0 0x0F03 p (b1 1 ++ b1 (u8 p 1) ++ b1 (clamp 10 14 (u8 p 2)) ++ zeros 1) s
        { u with test := { u.test with traceBank := some (u8 p 1), log2 := clamp 10 14 (u8 p 2), wr := 0, rd := 0 } }) ∧
    (u8 p 0 = 1 → u8 p 1 < 16 → ∀ old, s.test.traceBank = some old → old ≠ u8 p 1 → (bankOf (u8 p 1) s).owner = 0 →
      (bankOf (u8 p 1) s).busy = false → (bankOf (u8 p 1) s).retired = false →
      let v := zeroBank old 0 s
      let u := setBank (u8 p 1) { bankOf (u8 p 1) v with owner := 6 } v
      Serves (.cmdLogConfig 0) 0 0x0F03 p (b1 1 ++ b1 (u8 p 1) ++ b1 (clamp 10 14 (u8 p 2)) ++ zeros 1) s
        { u with test := { u.test with traceBank := some (u8 p 1), log2 := clamp 10 14 (u8 p 2), wr := 0, rd := 0 } })) ∧
  (∀ (mb b : Nat) (p : Bytes) (s : State), mb < 5 → p.length = 4 → s.test.traceBank = some b → (bankOf b s).retired = false →
    (bankOf b s).poison = [] →
    let n := min (clamp 1 127 (u16 p 2)) (unread s)
    let data (u : Nat) : Bytes := b2 n ++ zeros 2 ++ b4 u ++
      (List.range n).flatMap (fun i => Memory.readN (bankOf b s).mem (32 * ((s.test.rd + i) % 2 ^ s.test.log2)) 32)
    (bit p 0 0 = false → Serves (.cmdLogRead mb) mb 0x0F04 p (data (unread s)) s s) ∧
    (bit p 0 0 = true → mb ≠ 1 → mb ≠ 3 →
      let u : State := { s with test := { s.test with rd := (s.test.rd + n) % 2 ^ s.test.log2 } }
      Serves (.cmdLogRead mb) mb 0x0F04 p (data (unread u)) s u))

/-- CMD_PARSE_LOAD of an image that passes the load check replaces the program, jump tables and nodes of the shadow;
one that fails answers CONFLICT with the offset of the fault. CMD_PARSE_PORT and CMD_PARSE_DEVICE read the active set
or write the shadow. CMD_PARSE_TRY answers what a whole parse of the given frame yields and leaves no trace.
CMD_PICKER_STATUS answers the units and their fault counts; CMD_PICKER_RETIRE takes a unit out while another of its
kind stays; CMD_PICKER_READMIT returns a retired one whose self-test passes. (derived: spec/05_pickers_and_trellis.md)
-/
def Obligations.ParserCommandsAnswer : Prop :=
  (∀ (p : Bytes) (s : State), p.length = 12 → ownRange 0 (u8 p 0) (u32 p 4) (u32 p 8) s = true →
    (bankOf (u8 p 0) s).poison = [] → (bankOf (u8 p 0) s).retired = false →
    let image := Memory.readN (bankOf (u8 p 0) s).mem (u32 p 4) (u32 p 8)
    (imageFault image = none → SetsShadow (.cmdParseLoad 0) 0x0500 p (b4 0) (loadImage image) s) ∧
    (∀ e, imageFault image = some e → ShadowFree 0 s → Served 0 0x0500 1 p s →
      exec (.cmdParseLoad 0) s = .next (mbDone 0 stConflict (shadowGen s) (b4 e) s))) ∧
  (∀ (p : Bytes) (s : State), p.length = 40 → isIngress (u8 p 0) = true →
    let b := parsePortApply p
    ReadsActive .cmdParsePort 0x0501 p (parsePortOf (activeSet s) (u8 p 0)) s ∧
    SetsShadow (.cmdParsePort 0) 0x0501 p b
      (fun c => { c with parsePort := Tbl.set c.parsePort (u8 p 0) b (parsePort0 (u8 p 0)) }) s) ∧
  (∀ (p : Bytes) (s : State), p.length = 4 →
    ReadsActive .cmdParseDevice 0x0502 p (b1 (activeSet s).malRing ++ zeros 3) s ∧
    (u8 p 0 < 32 → SetsShadow (.cmdParseDevice 0) 0x0502 p (b1 (u8 p 0) ++ zeros 3) (fun c => { c with malRing := u8 p 0 }) s)) ∧
  (∀ (mb : Nat) (p : Bytes) (s : State), mb = 0 ∨ mb = 1 ∨ mb = 4 → p.length = 16 + u16 p 2 → 14 ≤ u16 p 2 → u16 p 2 ≤ 3552 →
    isIngress (u8 p 0) = true → Served mb 0x0503 0 p s →
    let f : Frame := { bytes := slice p 16 (u16 p 2), port := u8 p 0, edge := tryEdge (u8 p 0) (u8 p 1) s, macsec := bit p 1 0 }
    Answers (.cmdParseTry mb) mb s.sets.gen (tryRsp (parseWhole (activeSet s) f (frameKind f s) (portMode (u8 p 0) s))) s s) ∧
  (∀ (mb : Nat) (s : State), mb < 5 → Serves (.cmdPickerStatus mb) mb 0x0504 []
    (b1 (unitsInService false s) ++ b1 (unitsInService true s) ++ zeros 2 ++ (List.range 48).flatMap (fun n => b1 (pickerOf n s).state) ++
      (List.range 8).flatMap (fun n => b1 (walkerOf n s).state) ++ zeros 4 ++ (List.range 48).flatMap (fun n => b4 (pickerOf n s).faults)) s s) ∧
  (∀ (mb : Nat) (p : Bytes) (s : State), mb = 0 ∨ mb = 2 → p.length = 4 → isUnit (u8 p 0) = true →
    let w := decide (64 ≤ u8 p 0)
    let n := unitNo (u8 p 0)
    let x := unitOf w n s
    (x.state ≠ 1 → 2 ≤ unitsInService w s → Serves (.cmdPickerRetire mb) mb 0x0505 p (b1 (u8 p 0) ++ zeros 3) s (retireUnit w n s)) ∧
    (x.state = 1 → Declines (.cmdPickerRetire mb) mb 0x0505 p stRetired s) ∧
    (x.state = 0 → unitsInService w s = 1 → Declines (.cmdPickerRetire mb) mb 0x0505 p stState s) ∧
    (x.state = 1 →
      Serves (.cmdPickerReadmit mb true) mb 0x0506 p (b1 (u8 p 0) ++ zeros 3) s
        (capacityCheck (setUnit w n { x with state := 0, lastFault := none } s)) ∧
      Declines (.cmdPickerReadmit mb false) mb 0x0506 p stRetired s) ∧
    (x.state ≠ 1 → ∀ pass, Declines (.cmdPickerReadmit mb pass) mb 0x0506 p stState s))

/-- On TARGET 0 CMD_CLS_PROFILE, CLS_PORT, ACTION_WRITE, TERNARY_WRITE, ZONE_WRITE, ANOMALY_WRITE, VLAN_WRITE,
MCAST_WRITE, FOX_PORT, MIRROR_SESSION and CLS_DEVICE answer what the active set holds. On TARGET 1 from MB0, each
writes its entry of the shadow as applied, if the values are legal. CMD_EM_WRITE adds, changes or removes an entry of
the shadow's exact-match pool and CMD_EM_READ finds one by key or index. CMD_MAC_CONTROL sets the ageing time, flushes
the dynamic entries of a port and VLAN from both pools, or reports. CMD_CLS_COUNTERS answers counters of entries and
clears them if asked. (derived: spec/06_classification_and_firewall.md) -/
def Obligations.ClassificationCommandsAnswer : Prop :=
  (∀ (p : Bytes) (s : State), p.length = 132 → u8 p 0 < 64 →
    let b := profileApply (slice p 4 128)
    ReadsActive .cmdClsProfile 0x0600 p (b1 (u8 p 0) ++ zeros 3 ++ profileOf (activeSet s) (u8 p 0)) s ∧
    (profileOk (slice p 4 128) = true → SetsShadow (.cmdClsProfile 0) 0x0600 p (b1 (u8 p 0) ++ zeros 3 ++ b)
      (fun c => { c with profiles := Tbl.set c.profiles (u8 p 0) b (zeros 128) }) s)) ∧
  (∀ (p : Bytes) (s : State), p.length = 16 → isClsPort (u8 p 0) = true →
    let b := clsPortApply p
    ReadsActive .cmdClsPort 0x0601 p (clsPortApply (clsPortOf (activeSet s) (u8 p 0))) s ∧
    (u8 p 1 < 32 → (∀ m, queueTop (u8 p 0) = some m → u8 p 13 ≤ m) → SetsShadow (.cmdClsPort 0) 0x0601 p b
      (fun c => { c with clsPort := Tbl.set c.clsPort (u8 p 0) b (clsPort0 (u8 p 0)) }) s)) ∧
  (∀ (p : Bytes) (s : State), p.length = 28 → ShadowFree 0 s → Served 0 0x0602 1 p s →
    let c := shadowSet s
    let kind := u8 p 4 % 16
    let key := slice p 12 16
    let e : EmEntry := { kind := kind, static := kind == 1, result := u16 p 6, key := key }
    (u8 p 0 = 0 → 1 ≤ kind → kind ≤ 6 → resultOk kind (u16 p 6) = true → bit p 4 4 = true → emFind c kind key = none →
      (∀ i d, emAdd c e = .ok (i, d) → Answers (.cmdEmWrite 0) 0 (shadowGen s) (b4 i) s (emPut d s)) ∧
      (∀ x, emAdd c e = .error x →
        exec (.cmdEmWrite 0) s = .next (mbDone 0 stNoSpace (shadowGen s) [] s))) ∧
    (u8 p 0 = 1 → 1 ≤ kind → kind ≤ 6 → resultOk kind (u16 p 6) = true → bit p 4 4 = true → ∀ i x, emFind c kind key = some (i, x) →
      Answers (.cmdEmWrite 0) 0 (shadowGen s) (b4 i) s (emPut { c with em := Tbl.insert c.em i e } s)) ∧
    (u8 p 0 = 2 → ∀ i x, emFind c kind key = some (i, x) →
      Answers (.cmdEmWrite 0) 0 (shadowGen s) (b4 i) s (emPut (emRemove c i) s))) ∧
  (∀ (p : Bytes) (i : Nat) (e : EmEntry) (s : State), p.length = 28 →
    (u8 p 0 = 0 → emFind (activeSet s) (u8 p 4 % 16) (slice p 12 16) = some (i, e) →
      ReadsActive .cmdEmRead 0x0603 p (b4 i ++ entryBytes e) s) ∧
    (u8 p 0 = 1 → u32 p 4 < 262400 → Tbl.find (activeSet s).em (u32 p 4) = some e →
      ReadsActive .cmdEmRead 0x0603 p (b4 (u32 p 4) ++ entryBytes e) s)) ∧
  (∀ (p : Bytes) (n : Nat) (s : State), u16 p 2 = n → 1 ≤ n → n ≤ 100 → p.length = 4 + 32 * n → u16 p 0 + n ≤ 65536 →
    ReadsActive .cmdActionWrite 0x0604 p (slice p 0 4 ++ (List.range n).flatMap (fun i => actionOf (activeSet s) (u16 p 0 + i))) s ∧
    ((∀ i < n, actionIdx (actionIn p i) = true ∧ actionOk (actionIn p i) = true) → SetsShadow (.cmdActionWrite 0) 0x0604 p p
      (fun c => (List.range n).foldl (fun c i => { c with actions := Tbl.set c.actions (u16 p 0 + i) (actionIn p i) action0 }) c) s)) ∧
  (∀ (p : Bytes) (n : Nat) (s : State), u16 p 4 = n → 1 ≤ n → n ≤ 32 → p.length = 8 + 88 * n → u8 p 0 < 4 → u16 p 2 + n ≤ 2048 →
    let head := b1 (u8 p 0) ++ zeros 1 ++ slice p 2 4 ++ zeros 2
    let rule (i : Nat) : Bytes := ruleApply (slice p (8 + 88 * i) 88)
    ReadsActive .cmdTernaryWrite 0x0605 p
      (head ++ (List.range n).flatMap (fun i => ternaryOf (activeSet s) (u8 p 0) (u16 p 2 + i))) s ∧
    SetsShadow (.cmdTernaryWrite 0) 0x0605 p (head ++ (List.range n).flatMap rule)
      (fun c => (List.range n).foldl (fun c i => { c with ternary := Tbl.set c.ternary (2048 * u8 p 0 + u16 p 2 + i) (rule i) (zeros 88) }) c) s) ∧
  (∀ (p : Bytes) (s : State), p.length = 16 →
    let row := BitVec.ofNat 64 (u64 p 4)
    let x := rangeApply p
    (u8 p 0 = 0 → u8 p 1 < 32 →
      ReadsActive .cmdZoneWrite 0x0606 p (b1 0 ++ b1 (u8 p 1) ++ zeros 2 ++ b8 (zoneRowOf (activeSet s) (u8 p 1)).toNat ++ zeros 4) s ∧
      SetsShadow (.cmdZoneWrite 0) 0x0606 p (b1 0 ++ b1 (u8 p 1) ++ zeros 2 ++ b8 row.toNat ++ zeros 4)
        (fun c => { c with zoneRows := Tbl.set c.zoneRows (u8 p 1) row (zoneRow0 (u8 p 1)) }) s) ∧
    (u8 p 0 = 1 →
      ReadsActive .cmdZoneWrite 0x0606 p (b1 1 ++ b1 (u8 p 1) ++ zeros 2 ++ rangeOf (activeSet s) (u8 p 1)) s ∧
      (u8 p 5 < 96 ∨ u8 p 5 = 0xFF → u8 p 7 < 32 → u32 x 4 ≤ u32 x 8 →
        SetsShadow (.cmdZoneWrite 0) 0x0606 p (b1 1 ++ b1 (u8 p 1) ++ zeros 2 ++ x)
          (fun c => { c with ranges := Tbl.set c.ranges (u8 p 1) x (zeros 12) }) s)) ∧
    (u8 p 0 = 2 →
      ReadsActive .cmdZoneWrite 0x0606 p (b1 2 ++ b1 (activeSet s).zoneRing ++ zeros 14) s ∧
      (u8 p 1 < 32 → SetsShadow (.cmdZoneWrite 0) 0x0606 p (b1 2 ++ b1 (u8 p 1) ++ zeros 14) (fun c => { c with zoneRing := u8 p 1 }) s))) ∧
  (∀ (p : Bytes) (s : State), p.length = 8 → u16 p 0 < 4096 →
    ReadsActive .cmdAnomalyWrite 0x0607 p (b2 (u16 p 0) ++ monitorOf (activeSet s) (u16 p 0)) s ∧
    (u8 p 7 < 32 → u8 p 6 ≤ 3 → SetsShadow (.cmdAnomalyWrite 0) 0x0607 p p
      (fun c => { c with monitors := Tbl.set c.monitors (u16 p 0) (slice p 2 6) (zeros 6) }) s)) ∧
  (∀ (p : Bytes) (s : State), p.length = 32 → u16 p 0 < 4096 →
    let b := b1 (u8 p 2 % 16) ++ slice p 3 22 ++ zeros 3 ++ slice p 28 4
    ReadsActive .cmdVlanWrite 0x0608 p (b2 (u16 p 0) ++ vlanOf (activeSet s) (u16 p 0)) s ∧
    (u8 p 3 < 32 → bits (u8 p 2) 3 2 ≠ 3 → SetsShadow (.cmdVlanWrite 0) 0x0608 p (b2 (u16 p 0) ++ b)
      (fun c => { c with vlans := Tbl.set c.vlans (u16 p 0) b (zeros 30) }) s)) ∧
  (∀ (p : Bytes) (s : State), p.length = 25 → u16 p 0 < 4096 →
    ReadsActive .cmdMcastWrite 0x0609 p (b2 (u16 p 0) ++ zeros 2 ++ mcastOf (activeSet s) (u16 p 0)) s ∧
    SetsShadow (.cmdMcastWrite 0) 0x0609 p (b2 (u16 p 0) ++ zeros 2 ++ slice p 4 21)
      (fun c => { c with mcast := Tbl.set c.mcast (u16 p 0) (slice p 4 21) (zeros 21) }) s) ∧
  (∀ (p : Bytes) (s : State), p.length = 8 →
    (u8 p 0 = 0 →
      let a := if u32 p 4 = 0 then 0 else clamp 10 1000000 (u32 p 4)
      Serves (.cmdMacControl 0) 0 0x060A p (b4 a ++ b4 0) s { s with flow := { s.flow with ageS := a } }) ∧
    (u8 p 0 = 1 → u8 p 1 = 0xFF ∨ isPort (u8 p 1) = true → u16 p 2 = 0xFFFF ∨ u16 p 2 < 4096 →
      Serves (.cmdMacControl 0) 0 0x060A p
        (b4 s.flow.ageS ++ b4 (((activeSet s).em.filter (fun e => flushHit (u8 p 1) (u16 p 2) e.2)).length)) s
        (bothPools (fun c => (flushPool (u8 p 1) (u16 p 2) c).2) s)) ∧
    (u8 p 0 = 2 → Serves (.cmdMacControl 0) 0 0x060A p (b4 s.flow.ageS ++ b4 0) s s)) ∧
  (∀ (p : Bytes) (s : State), p.length = 14 → isIngress (u8 p 0) = true →
    let b := slice p 2 4 ++ zeros 2 ++ slice p 8 4 ++ zeros 2
    ReadsActive .cmdFoxPort 0x060B p (b1 (u8 p 0) ++ zeros 1 ++ foxOf (activeSet s) (u8 p 0)) s ∧
    (u8 p 4 ≤ 2 → u8 p 10 ≤ 2 → u8 p 5 < 32 → u8 p 11 < 32 → SetsShadow (.cmdFoxPort 0) 0x060B p (b1 (u8 p 0) ++ zeros 1 ++ b)
      (fun c => { c with fox := Tbl.set c.fox (u8 p 0) b (zeros 12) }) s)) ∧
  (∀ (p : Bytes) (s : State), p.length = 6 → u8 p 0 < 4 →
    let b := slice p 1 2 ++ zeros 1 ++ b2 (mirrorTrunc (u16 p 4))
    ReadsActive .cmdMirrorSession 0x060C p (b1 (u8 p 0) ++ mirrorOf (activeSet s) (u8 p 0)) s ∧
    ((u8 p 1 = 128 ∧ u8 p 2 < 32) ∨ (u8 p 1 < 32 ∧ u8 p 2 < 8) → SetsShadow (.cmdMirrorSession 0) 0x060C p (b1 (u8 p 0) ++ b)
      (fun c => { c with mirrors := Tbl.set c.mirrors (u8 p 0) b (zeros 5) }) s)) ∧
  (∀ (p : Bytes) (s : State), p.length = 28 →
    let qs := (List.range 6).map (fun i => min (quotaTop.getD i 0) (u32 p (4 * i)))
    let rs := (List.range 4).map (fun i => u8 p (24 + i))
    let c := { shadowSet s with quotas := qs, ranks := rs }
    ReadsActive .cmdClsDevice 0x060D p (clsDeviceRsp (activeSet s)) s ∧
    (sumBy (fun x => x) qs ≤ 262144 → (∀ i < 6, emCount (shadowSet s) (i + 1) ≤ qs.getD i 0) → (∀ k < 4, k ∈ rs) →
      SetsShadow (.cmdClsDevice 0) 0x060D p (clsDeviceRsp c) (fun _ => c) s)) ∧
  (∀ (mb : Nat) (p : Bytes) (s : State), mb < 5 → p.length = 10 → u8 p 0 ≤ 4 →
    let n := clamp 1 500 (u16 p 8)
    let rsp := b4 (u32 p 4) ++ b2 n ++ zeros 2 ++ (List.range n).flatMap (fun i => b8 (entryCounter (u8 p 0) (u32 p 4 + i) s))
    u32 p 4 + n ≤ clsTableSize (u8 p 0) →
    (bit p 1 0 = false → Serves (.cmdClsCounters mb) mb 0x060E p rsp s s) ∧
    (bit p 1 0 = true → mb ≠ 1 → mb ≠ 3 → Serves (.cmdClsCounters mb) mb 0x060E p rsp s
      (forEach ((List.range n).map (u32 p 4 + ·)) (fun i s => clearEntry (u8 p 0) i s) s)))
end

