-- ==== Sys2Proof/Laws/Ops.lean ====
section
/-! SUPPORT. What the operations that every family shares leave unchanged: one lemma per operation and field of State. -/

namespace Sys2Proof.Machine

/-! `emit` adds an output. -/

@[simp] theorem emit_power (o : Output) (s : State) : (emit o s).power = s.power := rfl
@[simp] theorem emit_boot (o : Output) (s : State) : (emit o s).boot = s.boot := rfl
@[simp] theorem emit_host (o : Output) (s : State) : (emit o s).host = s.host := rfl
@[simp] theorem emit_ctl (o : Output) (s : State) : (emit o s).ctl = s.ctl := rfl
@[simp] theorem emit_sets (o : Output) (s : State) : (emit o s).sets = s.sets := rfl
@[simp] theorem emit_parse (o : Output) (s : State) : (emit o s).parse = s.parse := rfl
@[simp] theorem emit_vat (o : Output) (s : State) : (emit o s).vat = s.vat := rfl
@[simp] theorem emit_flow (o : Output) (s : State) : (emit o s).flow = s.flow := rfl
@[simp] theorem emit_time (o : Output) (s : State) : (emit o s).time = s.time := rfl
@[simp] theorem emit_edge (o : Output) (s : State) : (emit o s).edge = s.edge := rfl
@[simp] theorem emit_ports (o : Output) (s : State) : (emit o s).ports = s.ports := rfl
@[simp] theorem emit_svc (o : Output) (s : State) : (emit o s).svc = s.svc := rfl
@[simp] theorem emit_cellar (o : Output) (s : State) : (emit o s).cellar = s.cellar := rfl
@[simp] theorem emit_press (o : Output) (s : State) : (emit o s).press = s.press := rfl
@[simp] theorem emit_gw (o : Output) (s : State) : (emit o s).gw = s.gw := rfl
@[simp] theorem emit_pair (o : Output) (s : State) : (emit o s).pair = s.pair := rfl
@[simp] theorem emit_sleep (o : Output) (s : State) : (emit o s).sleep = s.sleep := rfl
@[simp] theorem emit_test (o : Output) (s : State) : (emit o s).test = s.test := rfl
@[simp] theorem emit_alarms (o : Output) (s : State) : (emit o s).alarms = s.alarms := rfl
@[simp] theorem emit_otp (o : Output) (s : State) : (emit o s).otp = s.otp := rfl
@[simp] theorem emit_flash (o : Output) (s : State) : (emit o s).flash = s.flash := rfl
@[simp] theorem emit_upd (o : Output) (s : State) : (emit o s).upd = s.upd := rfl
@[simp] theorem emit_fresh (o : Output) (s : State) : (emit o s).fresh = s.fresh := rfl
@[simp] theorem emit_pending (o : Output) (s : State) : (emit o s).pending = s.pending := rfl

/-! `takeFresh` advances the count of free values. -/

@[simp] theorem takeFresh_power (s : State) : ((takeFresh s).2).power = s.power := rfl
@[simp] theorem takeFresh_boot (s : State) : ((takeFresh s).2).boot = s.boot := rfl
@[simp] theorem takeFresh_host (s : State) : ((takeFresh s).2).host = s.host := rfl
@[simp] theorem takeFresh_ctl (s : State) : ((takeFresh s).2).ctl = s.ctl := rfl
@[simp] theorem takeFresh_sets (s : State) : ((takeFresh s).2).sets = s.sets := rfl
@[simp] theorem takeFresh_parse (s : State) : ((takeFresh s).2).parse = s.parse := rfl
@[simp] theorem takeFresh_vat (s : State) : ((takeFresh s).2).vat = s.vat := rfl
@[simp] theorem takeFresh_flow (s : State) : ((takeFresh s).2).flow = s.flow := rfl
@[simp] theorem takeFresh_time (s : State) : ((takeFresh s).2).time = s.time := rfl
@[simp] theorem takeFresh_edge (s : State) : ((takeFresh s).2).edge = s.edge := rfl
@[simp] theorem takeFresh_ports (s : State) : ((takeFresh s).2).ports = s.ports := rfl
@[simp] theorem takeFresh_svc (s : State) : ((takeFresh s).2).svc = s.svc := rfl
@[simp] theorem takeFresh_cellar (s : State) : ((takeFresh s).2).cellar = s.cellar := rfl
@[simp] theorem takeFresh_press (s : State) : ((takeFresh s).2).press = s.press := rfl
@[simp] theorem takeFresh_gw (s : State) : ((takeFresh s).2).gw = s.gw := rfl
@[simp] theorem takeFresh_pair (s : State) : ((takeFresh s).2).pair = s.pair := rfl
@[simp] theorem takeFresh_sleep (s : State) : ((takeFresh s).2).sleep = s.sleep := rfl
@[simp] theorem takeFresh_test (s : State) : ((takeFresh s).2).test = s.test := rfl
@[simp] theorem takeFresh_alarms (s : State) : ((takeFresh s).2).alarms = s.alarms := rfl
@[simp] theorem takeFresh_otp (s : State) : ((takeFresh s).2).otp = s.otp := rfl
@[simp] theorem takeFresh_flash (s : State) : ((takeFresh s).2).flash = s.flash := rfl
@[simp] theorem takeFresh_upd (s : State) : ((takeFresh s).2).upd = s.upd := rfl
@[simp] theorem takeFresh_out (s : State) : ((takeFresh s).2).out = s.out := rfl
@[simp] theorem takeFresh_pending (s : State) : ((takeFresh s).2).pending = s.pending := rfl

/-! `countN` changes a counter. -/

@[simp] theorem countN_power (p i n : Nat) (s : State) : (countN p i n s).power = s.power := rfl
@[simp] theorem countN_boot (p i n : Nat) (s : State) : (countN p i n s).boot = s.boot := rfl
@[simp] theorem countN_host (p i n : Nat) (s : State) : (countN p i n s).host = s.host := rfl
@[simp] theorem countN_sets (p i n : Nat) (s : State) : (countN p i n s).sets = s.sets := rfl
@[simp] theorem countN_parse (p i n : Nat) (s : State) : (countN p i n s).parse = s.parse := rfl
@[simp] theorem countN_vat (p i n : Nat) (s : State) : (countN p i n s).vat = s.vat := rfl
@[simp] theorem countN_flow (p i n : Nat) (s : State) : (countN p i n s).flow = s.flow := rfl
@[simp] theorem countN_time (p i n : Nat) (s : State) : (countN p i n s).time = s.time := rfl
@[simp] theorem countN_edge (p i n : Nat) (s : State) : (countN p i n s).edge = s.edge := rfl
@[simp] theorem countN_ports (p i n : Nat) (s : State) : (countN p i n s).ports = s.ports := rfl
@[simp] theorem countN_svc (p i n : Nat) (s : State) : (countN p i n s).svc = s.svc := rfl
@[simp] theorem countN_cellar (p i n : Nat) (s : State) : (countN p i n s).cellar = s.cellar := rfl
@[simp] theorem countN_press (p i n : Nat) (s : State) : (countN p i n s).press = s.press := rfl
@[simp] theorem countN_gw (p i n : Nat) (s : State) : (countN p i n s).gw = s.gw := rfl
@[simp] theorem countN_pair (p i n : Nat) (s : State) : (countN p i n s).pair = s.pair := rfl
@[simp] theorem countN_sleep (p i n : Nat) (s : State) : (countN p i n s).sleep = s.sleep := rfl
@[simp] theorem countN_test (p i n : Nat) (s : State) : (countN p i n s).test = s.test := rfl
@[simp] theorem countN_alarms (p i n : Nat) (s : State) : (countN p i n s).alarms = s.alarms := rfl
@[simp] theorem countN_otp (p i n : Nat) (s : State) : (countN p i n s).otp = s.otp := rfl
@[simp] theorem countN_flash (p i n : Nat) (s : State) : (countN p i n s).flash = s.flash := rfl
@[simp] theorem countN_upd (p i n : Nat) (s : State) : (countN p i n s).upd = s.upd := rfl
@[simp] theorem countN_out (p i n : Nat) (s : State) : (countN p i n s).out = s.out := rfl
@[simp] theorem countN_fresh (p i n : Nat) (s : State) : (countN p i n s).fresh = s.fresh := rfl
@[simp] theorem countN_pending (p i n : Nat) (s : State) : (countN p i n s).pending = s.pending := rfl

/-! `count` changes a counter. -/

@[simp] theorem count_power (p i : Nat) (s : State) : (count p i s).power = s.power := rfl
@[simp] theorem count_boot (p i : Nat) (s : State) : (count p i s).boot = s.boot := rfl
@[simp] theorem count_host (p i : Nat) (s : State) : (count p i s).host = s.host := rfl
@[simp] theorem count_sets (p i : Nat) (s : State) : (count p i s).sets = s.sets := rfl
@[simp] theorem count_parse (p i : Nat) (s : State) : (count p i s).parse = s.parse := rfl
@[simp] theorem count_vat (p i : Nat) (s : State) : (count p i s).vat = s.vat := rfl
@[simp] theorem count_flow (p i : Nat) (s : State) : (count p i s).flow = s.flow := rfl
@[simp] theorem count_time (p i : Nat) (s : State) : (count p i s).time = s.time := rfl
@[simp] theorem count_edge (p i : Nat) (s : State) : (count p i s).edge = s.edge := rfl
@[simp] theorem count_ports (p i : Nat) (s : State) : (count p i s).ports = s.ports := rfl
@[simp] theorem count_svc (p i : Nat) (s : State) : (count p i s).svc = s.svc := rfl
@[simp] theorem count_cellar (p i : Nat) (s : State) : (count p i s).cellar = s.cellar := rfl
@[simp] theorem count_press (p i : Nat) (s : State) : (count p i s).press = s.press := rfl
@[simp] theorem count_gw (p i : Nat) (s : State) : (count p i s).gw = s.gw := rfl
@[simp] theorem count_pair (p i : Nat) (s : State) : (count p i s).pair = s.pair := rfl
@[simp] theorem count_sleep (p i : Nat) (s : State) : (count p i s).sleep = s.sleep := rfl
@[simp] theorem count_test (p i : Nat) (s : State) : (count p i s).test = s.test := rfl
@[simp] theorem count_alarms (p i : Nat) (s : State) : (count p i s).alarms = s.alarms := rfl
@[simp] theorem count_otp (p i : Nat) (s : State) : (count p i s).otp = s.otp := rfl
@[simp] theorem count_flash (p i : Nat) (s : State) : (count p i s).flash = s.flash := rfl
@[simp] theorem count_upd (p i : Nat) (s : State) : (count p i s).upd = s.upd := rfl
@[simp] theorem count_out (p i : Nat) (s : State) : (count p i s).out = s.out := rfl
@[simp] theorem count_fresh (p i : Nat) (s : State) : (count p i s).fresh = s.fresh := rfl
@[simp] theorem count_pending (p i : Nat) (s : State) : (count p i s).pending = s.pending := rfl

/-! `countEntry` changes an entry counter. -/

@[simp] theorem countEntry_power (t i : Nat) (s : State) : (countEntry t i s).power = s.power := rfl
@[simp] theorem countEntry_boot (t i : Nat) (s : State) : (countEntry t i s).boot = s.boot := rfl
@[simp] theorem countEntry_host (t i : Nat) (s : State) : (countEntry t i s).host = s.host := rfl
@[simp] theorem countEntry_sets (t i : Nat) (s : State) : (countEntry t i s).sets = s.sets := rfl
@[simp] theorem countEntry_parse (t i : Nat) (s : State) : (countEntry t i s).parse = s.parse := rfl
@[simp] theorem countEntry_vat (t i : Nat) (s : State) : (countEntry t i s).vat = s.vat := rfl
@[simp] theorem countEntry_flow (t i : Nat) (s : State) : (countEntry t i s).flow = s.flow := rfl
@[simp] theorem countEntry_time (t i : Nat) (s : State) : (countEntry t i s).time = s.time := rfl
@[simp] theorem countEntry_edge (t i : Nat) (s : State) : (countEntry t i s).edge = s.edge := rfl
@[simp] theorem countEntry_ports (t i : Nat) (s : State) : (countEntry t i s).ports = s.ports := rfl
@[simp] theorem countEntry_svc (t i : Nat) (s : State) : (countEntry t i s).svc = s.svc := rfl
@[simp] theorem countEntry_cellar (t i : Nat) (s : State) : (countEntry t i s).cellar = s.cellar := rfl
@[simp] theorem countEntry_press (t i : Nat) (s : State) : (countEntry t i s).press = s.press := rfl
@[simp] theorem countEntry_gw (t i : Nat) (s : State) : (countEntry t i s).gw = s.gw := rfl
@[simp] theorem countEntry_pair (t i : Nat) (s : State) : (countEntry t i s).pair = s.pair := rfl
@[simp] theorem countEntry_sleep (t i : Nat) (s : State) : (countEntry t i s).sleep = s.sleep := rfl
@[simp] theorem countEntry_test (t i : Nat) (s : State) : (countEntry t i s).test = s.test := rfl
@[simp] theorem countEntry_alarms (t i : Nat) (s : State) : (countEntry t i s).alarms = s.alarms := rfl
@[simp] theorem countEntry_otp (t i : Nat) (s : State) : (countEntry t i s).otp = s.otp := rfl
@[simp] theorem countEntry_flash (t i : Nat) (s : State) : (countEntry t i s).flash = s.flash := rfl
@[simp] theorem countEntry_upd (t i : Nat) (s : State) : (countEntry t i s).upd = s.upd := rfl
@[simp] theorem countEntry_out (t i : Nat) (s : State) : (countEntry t i s).out = s.out := rfl
@[simp] theorem countEntry_fresh (t i : Nat) (s : State) : (countEntry t i s).fresh = s.fresh := rfl
@[simp] theorem countEntry_pending (t i : Nat) (s : State) : (countEntry t i s).pending = s.pending := rfl

/-! `countMax` raises a water mark. -/

@[simp] theorem countMax_power (p i v : Nat) (s : State) : (countMax p i v s).power = s.power := by
  unfold countMax; split <;> rfl
@[simp] theorem countMax_boot (p i v : Nat) (s : State) : (countMax p i v s).boot = s.boot := by
  unfold countMax; split <;> rfl
@[simp] theorem countMax_host (p i v : Nat) (s : State) : (countMax p i v s).host = s.host := by
  unfold countMax; split <;> rfl
@[simp] theorem countMax_sets (p i v : Nat) (s : State) : (countMax p i v s).sets = s.sets := by
  unfold countMax; split <;> rfl
@[simp] theorem countMax_parse (p i v : Nat) (s : State) : (countMax p i v s).parse = s.parse := by
  unfold countMax; split <;> rfl
@[simp] theorem countMax_vat (p i v : Nat) (s : State) : (countMax p i v s).vat = s.vat := by
  unfold countMax; split <;> rfl
@[simp] theorem countMax_flow (p i v : Nat) (s : State) : (countMax p i v s).flow = s.flow := by
  unfold countMax; split <;> rfl
@[simp] theorem countMax_time (p i v : Nat) (s : State) : (countMax p i v s).time = s.time := by
  unfold countMax; split <;> rfl
@[simp] theorem countMax_edge (p i v : Nat) (s : State) : (countMax p i v s).edge = s.edge := by
  unfold countMax; split <;> rfl
@[simp] theorem countMax_ports (p i v : Nat) (s : State) : (countMax p i v s).ports = s.ports := by
  unfold countMax; split <;> rfl
@[simp] theorem countMax_svc (p i v : Nat) (s : State) : (countMax p i v s).svc = s.svc := by
  unfold countMax; split <;> rfl
@[simp] theorem countMax_cellar (p i v : Nat) (s : State) : (countMax p i v s).cellar = s.cellar := by
  unfold countMax; split <;> rfl
@[simp] theorem countMax_press (p i v : Nat) (s : State) : (countMax p i v s).press = s.press := by
  unfold countMax; split <;> rfl
@[simp] theorem countMax_gw (p i v : Nat) (s : State) : (countMax p i v s).gw = s.gw := by
  unfold countMax; split <;> rfl
@[simp] theorem countMax_pair (p i v : Nat) (s : State) : (countMax p i v s).pair = s.pair := by
  unfold countMax; split <;> rfl
@[simp] theorem countMax_sleep (p i v : Nat) (s : State) : (countMax p i v s).sleep = s.sleep := by
  unfold countMax; split <;> rfl
@[simp] theorem countMax_test (p i v : Nat) (s : State) : (countMax p i v s).test = s.test := by
  unfold countMax; split <;> rfl
@[simp] theorem countMax_alarms (p i v : Nat) (s : State) : (countMax p i v s).alarms = s.alarms := by
  unfold countMax; split <;> rfl
@[simp] theorem countMax_otp (p i v : Nat) (s : State) : (countMax p i v s).otp = s.otp := by
  unfold countMax; split <;> rfl
@[simp] theorem countMax_flash (p i v : Nat) (s : State) : (countMax p i v s).flash = s.flash := by
  unfold countMax; split <;> rfl
@[simp] theorem countMax_upd (p i v : Nat) (s : State) : (countMax p i v s).upd = s.upd := by
  unfold countMax; split <;> rfl
@[simp] theorem countMax_out (p i v : Nat) (s : State) : (countMax p i v s).out = s.out := by
  unfold countMax; split <;> rfl
@[simp] theorem countMax_fresh (p i v : Nat) (s : State) : (countMax p i v s).fresh = s.fresh := by
  unfold countMax; split <;> rfl
@[simp] theorem countMax_pending (p i v : Nat) (s : State) : (countMax p i v s).pending = s.pending := by
  unfold countMax; split <;> rfl

/-! `msixSend` sends a message. -/

@[simp] theorem msixSend_power (v : Nat) (s : State) : (msixSend v s).power = s.power := rfl
@[simp] theorem msixSend_boot (v : Nat) (s : State) : (msixSend v s).boot = s.boot := rfl
@[simp] theorem msixSend_host (v : Nat) (s : State) : (msixSend v s).host = s.host := rfl
@[simp] theorem msixSend_ctl (v : Nat) (s : State) : (msixSend v s).ctl = s.ctl := rfl
@[simp] theorem msixSend_sets (v : Nat) (s : State) : (msixSend v s).sets = s.sets := rfl
@[simp] theorem msixSend_parse (v : Nat) (s : State) : (msixSend v s).parse = s.parse := rfl
@[simp] theorem msixSend_vat (v : Nat) (s : State) : (msixSend v s).vat = s.vat := rfl
@[simp] theorem msixSend_flow (v : Nat) (s : State) : (msixSend v s).flow = s.flow := rfl
@[simp] theorem msixSend_time (v : Nat) (s : State) : (msixSend v s).time = s.time := rfl
@[simp] theorem msixSend_edge (v : Nat) (s : State) : (msixSend v s).edge = s.edge := rfl
@[simp] theorem msixSend_ports (v : Nat) (s : State) : (msixSend v s).ports = s.ports := rfl
@[simp] theorem msixSend_svc (v : Nat) (s : State) : (msixSend v s).svc = s.svc := rfl
@[simp] theorem msixSend_cellar (v : Nat) (s : State) : (msixSend v s).cellar = s.cellar := rfl
@[simp] theorem msixSend_press (v : Nat) (s : State) : (msixSend v s).press = s.press := rfl
@[simp] theorem msixSend_gw (v : Nat) (s : State) : (msixSend v s).gw = s.gw := rfl
@[simp] theorem msixSend_pair (v : Nat) (s : State) : (msixSend v s).pair = s.pair := rfl
@[simp] theorem msixSend_sleep (v : Nat) (s : State) : (msixSend v s).sleep = s.sleep := rfl
@[simp] theorem msixSend_test (v : Nat) (s : State) : (msixSend v s).test = s.test := rfl
@[simp] theorem msixSend_alarms (v : Nat) (s : State) : (msixSend v s).alarms = s.alarms := rfl
@[simp] theorem msixSend_otp (v : Nat) (s : State) : (msixSend v s).otp = s.otp := rfl
@[simp] theorem msixSend_flash (v : Nat) (s : State) : (msixSend v s).flash = s.flash := rfl
@[simp] theorem msixSend_upd (v : Nat) (s : State) : (msixSend v s).upd = s.upd := rfl
@[simp] theorem msixSend_fresh (v : Nat) (s : State) : (msixSend v s).fresh = s.fresh := rfl
@[simp] theorem msixSend_pending (v : Nat) (s : State) : (msixSend v s).pending = s.pending := rfl

/-! `evChanged` sends at most a message. -/

@[simp] theorem evChanged_power (ev : Nat) (b : Bool) (s : State) : (evChanged ev b s).power = s.power := by
  unfold evChanged; split <;> rfl
@[simp] theorem evChanged_boot (ev : Nat) (b : Bool) (s : State) : (evChanged ev b s).boot = s.boot := by
  unfold evChanged; split <;> rfl
@[simp] theorem evChanged_host (ev : Nat) (b : Bool) (s : State) : (evChanged ev b s).host = s.host := by
  unfold evChanged; split <;> rfl
@[simp] theorem evChanged_ctl (ev : Nat) (b : Bool) (s : State) : (evChanged ev b s).ctl = s.ctl := by
  unfold evChanged; split <;> rfl
@[simp] theorem evChanged_sets (ev : Nat) (b : Bool) (s : State) : (evChanged ev b s).sets = s.sets := by
  unfold evChanged; split <;> rfl
@[simp] theorem evChanged_parse (ev : Nat) (b : Bool) (s : State) : (evChanged ev b s).parse = s.parse := by
  unfold evChanged; split <;> rfl
@[simp] theorem evChanged_vat (ev : Nat) (b : Bool) (s : State) : (evChanged ev b s).vat = s.vat := by
  unfold evChanged; split <;> rfl
@[simp] theorem evChanged_flow (ev : Nat) (b : Bool) (s : State) : (evChanged ev b s).flow = s.flow := by
  unfold evChanged; split <;> rfl
@[simp] theorem evChanged_time (ev : Nat) (b : Bool) (s : State) : (evChanged ev b s).time = s.time := by
  unfold evChanged; split <;> rfl
@[simp] theorem evChanged_edge (ev : Nat) (b : Bool) (s : State) : (evChanged ev b s).edge = s.edge := by
  unfold evChanged; split <;> rfl
@[simp] theorem evChanged_ports (ev : Nat) (b : Bool) (s : State) : (evChanged ev b s).ports = s.ports := by
  unfold evChanged; split <;> rfl
@[simp] theorem evChanged_svc (ev : Nat) (b : Bool) (s : State) : (evChanged ev b s).svc = s.svc := by
  unfold evChanged; split <;> rfl
@[simp] theorem evChanged_cellar (ev : Nat) (b : Bool) (s : State) : (evChanged ev b s).cellar = s.cellar := by
  unfold evChanged; split <;> rfl
@[simp] theorem evChanged_press (ev : Nat) (b : Bool) (s : State) : (evChanged ev b s).press = s.press := by
  unfold evChanged; split <;> rfl
@[simp] theorem evChanged_gw (ev : Nat) (b : Bool) (s : State) : (evChanged ev b s).gw = s.gw := by
  unfold evChanged; split <;> rfl
@[simp] theorem evChanged_pair (ev : Nat) (b : Bool) (s : State) : (evChanged ev b s).pair = s.pair := by
  unfold evChanged; split <;> rfl
@[simp] theorem evChanged_sleep (ev : Nat) (b : Bool) (s : State) : (evChanged ev b s).sleep = s.sleep := by
  unfold evChanged; split <;> rfl
@[simp] theorem evChanged_test (ev : Nat) (b : Bool) (s : State) : (evChanged ev b s).test = s.test := by
  unfold evChanged; split <;> rfl
@[simp] theorem evChanged_alarms (ev : Nat) (b : Bool) (s : State) : (evChanged ev b s).alarms = s.alarms := by
  unfold evChanged; split <;> rfl
@[simp] theorem evChanged_otp (ev : Nat) (b : Bool) (s : State) : (evChanged ev b s).otp = s.otp := by
  unfold evChanged; split <;> rfl
@[simp] theorem evChanged_flash (ev : Nat) (b : Bool) (s : State) : (evChanged ev b s).flash = s.flash := by
  unfold evChanged; split <;> rfl
@[simp] theorem evChanged_upd (ev : Nat) (b : Bool) (s : State) : (evChanged ev b s).upd = s.upd := by
  unfold evChanged; split <;> rfl
@[simp] theorem evChanged_fresh (ev : Nat) (b : Bool) (s : State) : (evChanged ev b s).fresh = s.fresh := by
  unfold evChanged; split <;> rfl
@[simp] theorem evChanged_pending (ev : Nat) (b : Bool) (s : State) : (evChanged ev b s).pending = s.pending := by
  unfold evChanged; split <;> rfl

/-! `setCause` writes a cause register. -/

@[simp] theorem setCause_power (ev : Nat) (v : BitVec 32) (s : State) : (setCause ev v s).power = s.power := by
  simp [setCause]
@[simp] theorem setCause_boot (ev : Nat) (v : BitVec 32) (s : State) : (setCause ev v s).boot = s.boot := by
  simp [setCause]
@[simp] theorem setCause_host (ev : Nat) (v : BitVec 32) (s : State) : (setCause ev v s).host = s.host := by
  simp [setCause]
@[simp] theorem setCause_sets (ev : Nat) (v : BitVec 32) (s : State) : (setCause ev v s).sets = s.sets := by
  simp [setCause]
@[simp] theorem setCause_parse (ev : Nat) (v : BitVec 32) (s : State) : (setCause ev v s).parse = s.parse := by
  simp [setCause]
@[simp] theorem setCause_vat (ev : Nat) (v : BitVec 32) (s : State) : (setCause ev v s).vat = s.vat := by
  simp [setCause]
@[simp] theorem setCause_flow (ev : Nat) (v : BitVec 32) (s : State) : (setCause ev v s).flow = s.flow := by
  simp [setCause]
@[simp] theorem setCause_time (ev : Nat) (v : BitVec 32) (s : State) : (setCause ev v s).time = s.time := by
  simp [setCause]
@[simp] theorem setCause_edge (ev : Nat) (v : BitVec 32) (s : State) : (setCause ev v s).edge = s.edge := by
  simp [setCause]
@[simp] theorem setCause_ports (ev : Nat) (v : BitVec 32) (s : State) : (setCause ev v s).ports = s.ports := by
  simp [setCause]
@[simp] theorem setCause_svc (ev : Nat) (v : BitVec 32) (s : State) : (setCause ev v s).svc = s.svc := by
  simp [setCause]
@[simp] theorem setCause_cellar (ev : Nat) (v : BitVec 32) (s : State) : (setCause ev v s).cellar = s.cellar := by
  simp [setCause]
@[simp] theorem setCause_press (ev : Nat) (v : BitVec 32) (s : State) : (setCause ev v s).press = s.press := by
  simp [setCause]
@[simp] theorem setCause_gw (ev : Nat) (v : BitVec 32) (s : State) : (setCause ev v s).gw = s.gw := by simp [setCause]
@[simp] theorem setCause_pair (ev : Nat) (v : BitVec 32) (s : State) : (setCause ev v s).pair = s.pair := by
  simp [setCause]
@[simp] theorem setCause_sleep (ev : Nat) (v : BitVec 32) (s : State) : (setCause ev v s).sleep = s.sleep := by
  simp [setCause]
@[simp] theorem setCause_test (ev : Nat) (v : BitVec 32) (s : State) : (setCause ev v s).test = s.test := by
  simp [setCause]
@[simp] theorem setCause_alarms (ev : Nat) (v : BitVec 32) (s : State) : (setCause ev v s).alarms = s.alarms := by
  simp [setCause]
@[simp] theorem setCause_otp (ev : Nat) (v : BitVec 32) (s : State) : (setCause ev v s).otp = s.otp := by
  simp [setCause]
@[simp] theorem setCause_flash (ev : Nat) (v : BitVec 32) (s : State) : (setCause ev v s).flash = s.flash := by
  simp [setCause]
@[simp] theorem setCause_upd (ev : Nat) (v : BitVec 32) (s : State) : (setCause ev v s).upd = s.upd := by
  simp [setCause]
@[simp] theorem setCause_fresh (ev : Nat) (v : BitVec 32) (s : State) : (setCause ev v s).fresh = s.fresh := by
  simp [setCause]
@[simp] theorem setCause_pending (ev : Nat) (v : BitVec 32) (s : State) : (setCause ev v s).pending = s.pending := by
  simp [setCause]

/-! `setCauseEn` writes cause enables. -/

@[simp] theorem setCauseEn_power (ev : Nat) (v : BitVec 32) (s : State) : (setCauseEn ev v s).power = s.power := by
  simp [setCauseEn]
@[simp] theorem setCauseEn_boot (ev : Nat) (v : BitVec 32) (s : State) : (setCauseEn ev v s).boot = s.boot := by
  simp [setCauseEn]
@[simp] theorem setCauseEn_host (ev : Nat) (v : BitVec 32) (s : State) : (setCauseEn ev v s).host = s.host := by
  simp [setCauseEn]
@[simp] theorem setCauseEn_sets (ev : Nat) (v : BitVec 32) (s : State) : (setCauseEn ev v s).sets = s.sets := by
  simp [setCauseEn]
@[simp] theorem setCauseEn_parse (ev : Nat) (v : BitVec 32) (s : State) : (setCauseEn ev v s).parse = s.parse := by
  simp [setCauseEn]
@[simp] theorem setCauseEn_vat (ev : Nat) (v : BitVec 32) (s : State) : (setCauseEn ev v s).vat = s.vat := by
  simp [setCauseEn]
@[simp] theorem setCauseEn_flow (ev : Nat) (v : BitVec 32) (s : State) : (setCauseEn ev v s).flow = s.flow := by
  simp [setCauseEn]
@[simp] theorem setCauseEn_time (ev : Nat) (v : BitVec 32) (s : State) : (setCauseEn ev v s).time = s.time := by
  simp [setCauseEn]
@[simp] theorem setCauseEn_edge (ev : Nat) (v : BitVec 32) (s : State) : (setCauseEn ev v s).edge = s.edge := by
  simp [setCauseEn]
@[simp] theorem setCauseEn_ports (ev : Nat) (v : BitVec 32) (s : State) : (setCauseEn ev v s).ports = s.ports := by
  simp [setCauseEn]
@[simp] theorem setCauseEn_svc (ev : Nat) (v : BitVec 32) (s : State) : (setCauseEn ev v s).svc = s.svc := by
  simp [setCauseEn]
@[simp] theorem setCauseEn_cellar (ev : Nat) (v : BitVec 32) (s : State) : (setCauseEn ev v s).cellar = s.cellar := by
  simp [setCauseEn]
@[simp] theorem setCauseEn_press (ev : Nat) (v : BitVec 32) (s : State) : (setCauseEn ev v s).press = s.press := by
  simp [setCauseEn]
@[simp] theorem setCauseEn_gw (ev : Nat) (v : BitVec 32) (s : State) : (setCauseEn ev v s).gw = s.gw := by
  simp [setCauseEn]
@[simp] theorem setCauseEn_pair (ev : Nat) (v : BitVec 32) (s : State) : (setCauseEn ev v s).pair = s.pair := by
  simp [setCauseEn]
@[simp] theorem setCauseEn_sleep (ev : Nat) (v : BitVec 32) (s : State) : (setCauseEn ev v s).sleep = s.sleep := by
  simp [setCauseEn]
@[simp] theorem setCauseEn_test (ev : Nat) (v : BitVec 32) (s : State) : (setCauseEn ev v s).test = s.test := by
  simp [setCauseEn]
@[simp] theorem setCauseEn_alarms (ev : Nat) (v : BitVec 32) (s : State) : (setCauseEn ev v s).alarms = s.alarms := by
  simp [setCauseEn]
@[simp] theorem setCauseEn_otp (ev : Nat) (v : BitVec 32) (s : State) : (setCauseEn ev v s).otp = s.otp := by
  simp [setCauseEn]
@[simp] theorem setCauseEn_flash (ev : Nat) (v : BitVec 32) (s : State) : (setCauseEn ev v s).flash = s.flash := by
  simp [setCauseEn]
@[simp] theorem setCauseEn_upd (ev : Nat) (v : BitVec 32) (s : State) : (setCauseEn ev v s).upd = s.upd := by
  simp [setCauseEn]
@[simp] theorem setCauseEn_fresh (ev : Nat) (v : BitVec 32) (s : State) : (setCauseEn ev v s).fresh = s.fresh := by
  simp [setCauseEn]
@[simp] theorem setCauseEn_pending (ev : Nat) (v : BitVec 32) (s : State) : (setCauseEn ev v s).pending = s.pending := by
  simp [setCauseEn]

/-! `raiseMask` sets cause bits. -/

@[simp] theorem raiseMask_power (ev : Nat) (m : BitVec 32) (s : State) : (raiseMask ev m s).power = s.power := by
  simp [raiseMask]
@[simp] theorem raiseMask_boot (ev : Nat) (m : BitVec 32) (s : State) : (raiseMask ev m s).boot = s.boot := by
  simp [raiseMask]
@[simp] theorem raiseMask_host (ev : Nat) (m : BitVec 32) (s : State) : (raiseMask ev m s).host = s.host := by
  simp [raiseMask]
@[simp] theorem raiseMask_sets (ev : Nat) (m : BitVec 32) (s : State) : (raiseMask ev m s).sets = s.sets := by
  simp [raiseMask]
@[simp] theorem raiseMask_parse (ev : Nat) (m : BitVec 32) (s : State) : (raiseMask ev m s).parse = s.parse := by
  simp [raiseMask]
@[simp] theorem raiseMask_vat (ev : Nat) (m : BitVec 32) (s : State) : (raiseMask ev m s).vat = s.vat := by
  simp [raiseMask]
@[simp] theorem raiseMask_flow (ev : Nat) (m : BitVec 32) (s : State) : (raiseMask ev m s).flow = s.flow := by
  simp [raiseMask]
@[simp] theorem raiseMask_time (ev : Nat) (m : BitVec 32) (s : State) : (raiseMask ev m s).time = s.time := by
  simp [raiseMask]
@[simp] theorem raiseMask_edge (ev : Nat) (m : BitVec 32) (s : State) : (raiseMask ev m s).edge = s.edge := by
  simp [raiseMask]
@[simp] theorem raiseMask_ports (ev : Nat) (m : BitVec 32) (s : State) : (raiseMask ev m s).ports = s.ports := by
  simp [raiseMask]
@[simp] theorem raiseMask_svc (ev : Nat) (m : BitVec 32) (s : State) : (raiseMask ev m s).svc = s.svc := by
  simp [raiseMask]
@[simp] theorem raiseMask_cellar (ev : Nat) (m : BitVec 32) (s : State) : (raiseMask ev m s).cellar = s.cellar := by
  simp [raiseMask]
@[simp] theorem raiseMask_press (ev : Nat) (m : BitVec 32) (s : State) : (raiseMask ev m s).press = s.press := by
  simp [raiseMask]
@[simp] theorem raiseMask_gw (ev : Nat) (m : BitVec 32) (s : State) : (raiseMask ev m s).gw = s.gw := by
  simp [raiseMask]
@[simp] theorem raiseMask_pair (ev : Nat) (m : BitVec 32) (s : State) : (raiseMask ev m s).pair = s.pair := by
  simp [raiseMask]
@[simp] theorem raiseMask_sleep (ev : Nat) (m : BitVec 32) (s : State) : (raiseMask ev m s).sleep = s.sleep := by
  simp [raiseMask]
@[simp] theorem raiseMask_test (ev : Nat) (m : BitVec 32) (s : State) : (raiseMask ev m s).test = s.test := by
  simp [raiseMask]
@[simp] theorem raiseMask_alarms (ev : Nat) (m : BitVec 32) (s : State) : (raiseMask ev m s).alarms = s.alarms := by
  simp [raiseMask]
@[simp] theorem raiseMask_otp (ev : Nat) (m : BitVec 32) (s : State) : (raiseMask ev m s).otp = s.otp := by
  simp [raiseMask]
@[simp] theorem raiseMask_flash (ev : Nat) (m : BitVec 32) (s : State) : (raiseMask ev m s).flash = s.flash := by
  simp [raiseMask]
@[simp] theorem raiseMask_upd (ev : Nat) (m : BitVec 32) (s : State) : (raiseMask ev m s).upd = s.upd := by
  simp [raiseMask]
@[simp] theorem raiseMask_fresh (ev : Nat) (m : BitVec 32) (s : State) : (raiseMask ev m s).fresh = s.fresh := by
  simp [raiseMask]
@[simp] theorem raiseMask_pending (ev : Nat) (m : BitVec 32) (s : State) : (raiseMask ev m s).pending = s.pending := by
  simp [raiseMask]

/-! `raise` sets a cause bit. -/

@[simp] theorem raise_power (ev b : Nat) (s : State) : (raise ev b s).power = s.power := by simp [raise]
@[simp] theorem raise_boot (ev b : Nat) (s : State) : (raise ev b s).boot = s.boot := by simp [raise]
@[simp] theorem raise_host (ev b : Nat) (s : State) : (raise ev b s).host = s.host := by simp [raise]
@[simp] theorem raise_sets (ev b : Nat) (s : State) : (raise ev b s).sets = s.sets := by simp [raise]
@[simp] theorem raise_parse (ev b : Nat) (s : State) : (raise ev b s).parse = s.parse := by simp [raise]
@[simp] theorem raise_vat (ev b : Nat) (s : State) : (raise ev b s).vat = s.vat := by simp [raise]
@[simp] theorem raise_flow (ev b : Nat) (s : State) : (raise ev b s).flow = s.flow := by simp [raise]
@[simp] theorem raise_time (ev b : Nat) (s : State) : (raise ev b s).time = s.time := by simp [raise]
@[simp] theorem raise_edge (ev b : Nat) (s : State) : (raise ev b s).edge = s.edge := by simp [raise]
@[simp] theorem raise_ports (ev b : Nat) (s : State) : (raise ev b s).ports = s.ports := by simp [raise]
@[simp] theorem raise_svc (ev b : Nat) (s : State) : (raise ev b s).svc = s.svc := by simp [raise]
@[simp] theorem raise_cellar (ev b : Nat) (s : State) : (raise ev b s).cellar = s.cellar := by simp [raise]
@[simp] theorem raise_press (ev b : Nat) (s : State) : (raise ev b s).press = s.press := by simp [raise]
@[simp] theorem raise_gw (ev b : Nat) (s : State) : (raise ev b s).gw = s.gw := by simp [raise]
@[simp] theorem raise_pair (ev b : Nat) (s : State) : (raise ev b s).pair = s.pair := by simp [raise]
@[simp] theorem raise_sleep (ev b : Nat) (s : State) : (raise ev b s).sleep = s.sleep := by simp [raise]
@[simp] theorem raise_test (ev b : Nat) (s : State) : (raise ev b s).test = s.test := by simp [raise]
@[simp] theorem raise_alarms (ev b : Nat) (s : State) : (raise ev b s).alarms = s.alarms := by simp [raise]
@[simp] theorem raise_otp (ev b : Nat) (s : State) : (raise ev b s).otp = s.otp := by simp [raise]
@[simp] theorem raise_flash (ev b : Nat) (s : State) : (raise ev b s).flash = s.flash := by simp [raise]
@[simp] theorem raise_upd (ev b : Nat) (s : State) : (raise ev b s).upd = s.upd := by simp [raise]
@[simp] theorem raise_fresh (ev b : Nat) (s : State) : (raise ev b s).fresh = s.fresh := by simp [raise]
@[simp] theorem raise_pending (ev b : Nat) (s : State) : (raise ev b s).pending = s.pending := by simp [raise]

/-! `traceDrop` counts a record. -/

@[simp] theorem traceDrop_power (sev : Nat) (s : State) : (traceDrop sev s).power = s.power := by simp [traceDrop]
@[simp] theorem traceDrop_boot (sev : Nat) (s : State) : (traceDrop sev s).boot = s.boot := by simp [traceDrop]
@[simp] theorem traceDrop_host (sev : Nat) (s : State) : (traceDrop sev s).host = s.host := by simp [traceDrop]
@[simp] theorem traceDrop_sets (sev : Nat) (s : State) : (traceDrop sev s).sets = s.sets := by simp [traceDrop]
@[simp] theorem traceDrop_parse (sev : Nat) (s : State) : (traceDrop sev s).parse = s.parse := by simp [traceDrop]
@[simp] theorem traceDrop_vat (sev : Nat) (s : State) : (traceDrop sev s).vat = s.vat := by simp [traceDrop]
@[simp] theorem traceDrop_flow (sev : Nat) (s : State) : (traceDrop sev s).flow = s.flow := by simp [traceDrop]
@[simp] theorem traceDrop_time (sev : Nat) (s : State) : (traceDrop sev s).time = s.time := by simp [traceDrop]
@[simp] theorem traceDrop_edge (sev : Nat) (s : State) : (traceDrop sev s).edge = s.edge := by simp [traceDrop]
@[simp] theorem traceDrop_ports (sev : Nat) (s : State) : (traceDrop sev s).ports = s.ports := by simp [traceDrop]
@[simp] theorem traceDrop_svc (sev : Nat) (s : State) : (traceDrop sev s).svc = s.svc := by simp [traceDrop]
@[simp] theorem traceDrop_cellar (sev : Nat) (s : State) : (traceDrop sev s).cellar = s.cellar := by simp [traceDrop]
@[simp] theorem traceDrop_press (sev : Nat) (s : State) : (traceDrop sev s).press = s.press := by simp [traceDrop]
@[simp] theorem traceDrop_gw (sev : Nat) (s : State) : (traceDrop sev s).gw = s.gw := by simp [traceDrop]
@[simp] theorem traceDrop_pair (sev : Nat) (s : State) : (traceDrop sev s).pair = s.pair := by simp [traceDrop]
@[simp] theorem traceDrop_sleep (sev : Nat) (s : State) : (traceDrop sev s).sleep = s.sleep := by simp [traceDrop]
@[simp] theorem traceDrop_test (sev : Nat) (s : State) : (traceDrop sev s).test = s.test := by simp [traceDrop]
@[simp] theorem traceDrop_alarms (sev : Nat) (s : State) : (traceDrop sev s).alarms = s.alarms := by simp [traceDrop]
@[simp] theorem traceDrop_otp (sev : Nat) (s : State) : (traceDrop sev s).otp = s.otp := by simp [traceDrop]
@[simp] theorem traceDrop_flash (sev : Nat) (s : State) : (traceDrop sev s).flash = s.flash := by simp [traceDrop]
@[simp] theorem traceDrop_upd (sev : Nat) (s : State) : (traceDrop sev s).upd = s.upd := by simp [traceDrop]
@[simp] theorem traceDrop_fresh (sev : Nat) (s : State) : (traceDrop sev s).fresh = s.fresh := by simp [traceDrop]
@[simp] theorem traceDrop_pending (sev : Nat) (s : State) : (traceDrop sev s).pending = s.pending := by simp [traceDrop]

/-! `traceRec` offers a record. -/

@[simp] theorem traceRec_power (sev ev b loc code : Nat) (d : Bytes) (s : State) : (traceRec sev ev b loc code d s).power = s.power := by
  unfold traceRec; repeat (first | split | simp)
@[simp] theorem traceRec_boot (sev ev b loc code : Nat) (d : Bytes) (s : State) : (traceRec sev ev b loc code d s).boot = s.boot := by
  unfold traceRec; repeat (first | split | simp)
@[simp] theorem traceRec_host (sev ev b loc code : Nat) (d : Bytes) (s : State) : (traceRec sev ev b loc code d s).host = s.host := by
  unfold traceRec; repeat (first | split | simp)
@[simp] theorem traceRec_sets (sev ev b loc code : Nat) (d : Bytes) (s : State) : (traceRec sev ev b loc code d s).sets = s.sets := by
  unfold traceRec; repeat (first | split | simp)
@[simp] theorem traceRec_parse (sev ev b loc code : Nat) (d : Bytes) (s : State) : (traceRec sev ev b loc code d s).parse = s.parse := by
  unfold traceRec; repeat (first | split | simp)
@[simp] theorem traceRec_vat (sev ev b loc code : Nat) (d : Bytes) (s : State) : (traceRec sev ev b loc code d s).vat = s.vat := by
  unfold traceRec; repeat (first | split | simp)
@[simp] theorem traceRec_flow (sev ev b loc code : Nat) (d : Bytes) (s : State) : (traceRec sev ev b loc code d s).flow = s.flow := by
  unfold traceRec; repeat (first | split | simp)
@[simp] theorem traceRec_time (sev ev b loc code : Nat) (d : Bytes) (s : State) : (traceRec sev ev b loc code d s).time = s.time := by
  unfold traceRec; repeat (first | split | simp)
@[simp] theorem traceRec_edge (sev ev b loc code : Nat) (d : Bytes) (s : State) : (traceRec sev ev b loc code d s).edge = s.edge := by
  unfold traceRec; repeat (first | split | simp)
@[simp] theorem traceRec_ports (sev ev b loc code : Nat) (d : Bytes) (s : State) : (traceRec sev ev b loc code d s).ports = s.ports := by
  unfold traceRec; repeat (first | split | simp)
@[simp] theorem traceRec_svc (sev ev b loc code : Nat) (d : Bytes) (s : State) : (traceRec sev ev b loc code d s).svc = s.svc := by
  unfold traceRec; repeat (first | split | simp)
@[simp] theorem traceRec_cellar (sev ev b loc code : Nat) (d : Bytes) (s : State) : (traceRec sev ev b loc code d s).cellar = s.cellar := by
  unfold traceRec; repeat (first | split | simp)
@[simp] theorem traceRec_press (sev ev b loc code : Nat) (d : Bytes) (s : State) : (traceRec sev ev b loc code d s).press = s.press := by
  unfold traceRec; repeat (first | split | simp)
@[simp] theorem traceRec_gw (sev ev b loc code : Nat) (d : Bytes) (s : State) : (traceRec sev ev b loc code d s).gw = s.gw := by
  unfold traceRec; repeat (first | split | simp)
@[simp] theorem traceRec_pair (sev ev b loc code : Nat) (d : Bytes) (s : State) : (traceRec sev ev b loc code d s).pair = s.pair := by
  unfold traceRec; repeat (first | split | simp)
@[simp] theorem traceRec_sleep (sev ev b loc code : Nat) (d : Bytes) (s : State) : (traceRec sev ev b loc code d s).sleep = s.sleep := by
  unfold traceRec; repeat (first | split | simp)
@[simp] theorem traceRec_alarms (sev ev b loc code : Nat) (d : Bytes) (s : State) : (traceRec sev ev b loc code d s).alarms = s.alarms := by
  unfold traceRec; repeat (first | split | simp)
@[simp] theorem traceRec_otp (sev ev b loc code : Nat) (d : Bytes) (s : State) : (traceRec sev ev b loc code d s).otp = s.otp := by
  unfold traceRec; repeat (first | split | simp)
@[simp] theorem traceRec_flash (sev ev b loc code : Nat) (d : Bytes) (s : State) : (traceRec sev ev b loc code d s).flash = s.flash := by
  unfold traceRec; repeat (first | split | simp)
@[simp] theorem traceRec_upd (sev ev b loc code : Nat) (d : Bytes) (s : State) : (traceRec sev ev b loc code d s).upd = s.upd := by
  unfold traceRec; repeat (first | split | simp)
@[simp] theorem traceRec_fresh (sev ev b loc code : Nat) (d : Bytes) (s : State) : (traceRec sev ev b loc code d s).fresh = s.fresh := by
  unfold traceRec; repeat (first | split | simp)
@[simp] theorem traceRec_pending (sev ev b loc code : Nat) (d : Bytes) (s : State) : (traceRec sev ev b loc code d s).pending = s.pending := by
  unfold traceRec; repeat (first | split | simp)

/-! `trace` offers a record. -/

@[simp] theorem trace_power (sev ev b loc : Nat) (s : State) : (trace sev ev b loc s).power = s.power := by
  simp [trace, takeFresh]
@[simp] theorem trace_boot (sev ev b loc : Nat) (s : State) : (trace sev ev b loc s).boot = s.boot := by
  simp [trace, takeFresh]
@[simp] theorem trace_host (sev ev b loc : Nat) (s : State) : (trace sev ev b loc s).host = s.host := by
  simp [trace, takeFresh]
@[simp] theorem trace_sets (sev ev b loc : Nat) (s : State) : (trace sev ev b loc s).sets = s.sets := by
  simp [trace, takeFresh]
@[simp] theorem trace_parse (sev ev b loc : Nat) (s : State) : (trace sev ev b loc s).parse = s.parse := by
  simp [trace, takeFresh]
@[simp] theorem trace_vat (sev ev b loc : Nat) (s : State) : (trace sev ev b loc s).vat = s.vat := by
  simp [trace, takeFresh]
@[simp] theorem trace_flow (sev ev b loc : Nat) (s : State) : (trace sev ev b loc s).flow = s.flow := by
  simp [trace, takeFresh]
@[simp] theorem trace_time (sev ev b loc : Nat) (s : State) : (trace sev ev b loc s).time = s.time := by
  simp [trace, takeFresh]
@[simp] theorem trace_edge (sev ev b loc : Nat) (s : State) : (trace sev ev b loc s).edge = s.edge := by
  simp [trace, takeFresh]
@[simp] theorem trace_ports (sev ev b loc : Nat) (s : State) : (trace sev ev b loc s).ports = s.ports := by
  simp [trace, takeFresh]
@[simp] theorem trace_svc (sev ev b loc : Nat) (s : State) : (trace sev ev b loc s).svc = s.svc := by
  simp [trace, takeFresh]
@[simp] theorem trace_cellar (sev ev b loc : Nat) (s : State) : (trace sev ev b loc s).cellar = s.cellar := by
  simp [trace, takeFresh]
@[simp] theorem trace_press (sev ev b loc : Nat) (s : State) : (trace sev ev b loc s).press = s.press := by
  simp [trace, takeFresh]
@[simp] theorem trace_gw (sev ev b loc : Nat) (s : State) : (trace sev ev b loc s).gw = s.gw := by
  simp [trace, takeFresh]
@[simp] theorem trace_pair (sev ev b loc : Nat) (s : State) : (trace sev ev b loc s).pair = s.pair := by
  simp [trace, takeFresh]
@[simp] theorem trace_sleep (sev ev b loc : Nat) (s : State) : (trace sev ev b loc s).sleep = s.sleep := by
  simp [trace, takeFresh]
@[simp] theorem trace_alarms (sev ev b loc : Nat) (s : State) : (trace sev ev b loc s).alarms = s.alarms := by
  simp [trace, takeFresh]
@[simp] theorem trace_otp (sev ev b loc : Nat) (s : State) : (trace sev ev b loc s).otp = s.otp := by
  simp [trace, takeFresh]
@[simp] theorem trace_flash (sev ev b loc : Nat) (s : State) : (trace sev ev b loc s).flash = s.flash := by
  simp [trace, takeFresh]
@[simp] theorem trace_upd (sev ev b loc : Nat) (s : State) : (trace sev ev b loc s).upd = s.upd := by
  simp [trace, takeFresh]
@[simp] theorem trace_pending (sev ev b loc : Nat) (s : State) : (trace sev ev b loc s).pending = s.pending := by
  simp [trace, takeFresh]

/-! `alarmDen` records an alarm in Den. -/

@[simp] theorem alarmDen_power (k loc : Nat) (s : State) : (alarmDen k loc s).power = s.power := rfl
@[simp] theorem alarmDen_boot (k loc : Nat) (s : State) : (alarmDen k loc s).boot = s.boot := rfl
@[simp] theorem alarmDen_host (k loc : Nat) (s : State) : (alarmDen k loc s).host = s.host := rfl
@[simp] theorem alarmDen_ctl (k loc : Nat) (s : State) : (alarmDen k loc s).ctl = s.ctl := rfl
@[simp] theorem alarmDen_sets (k loc : Nat) (s : State) : (alarmDen k loc s).sets = s.sets := rfl
@[simp] theorem alarmDen_parse (k loc : Nat) (s : State) : (alarmDen k loc s).parse = s.parse := rfl
@[simp] theorem alarmDen_vat (k loc : Nat) (s : State) : (alarmDen k loc s).vat = s.vat := rfl
@[simp] theorem alarmDen_flow (k loc : Nat) (s : State) : (alarmDen k loc s).flow = s.flow := rfl
@[simp] theorem alarmDen_time (k loc : Nat) (s : State) : (alarmDen k loc s).time = s.time := rfl
@[simp] theorem alarmDen_edge (k loc : Nat) (s : State) : (alarmDen k loc s).edge = s.edge := rfl
@[simp] theorem alarmDen_ports (k loc : Nat) (s : State) : (alarmDen k loc s).ports = s.ports := rfl
@[simp] theorem alarmDen_svc (k loc : Nat) (s : State) : (alarmDen k loc s).svc = s.svc := rfl
@[simp] theorem alarmDen_cellar (k loc : Nat) (s : State) : (alarmDen k loc s).cellar = s.cellar := rfl
@[simp] theorem alarmDen_press (k loc : Nat) (s : State) : (alarmDen k loc s).press = s.press := rfl
@[simp] theorem alarmDen_gw (k loc : Nat) (s : State) : (alarmDen k loc s).gw = s.gw := rfl
@[simp] theorem alarmDen_pair (k loc : Nat) (s : State) : (alarmDen k loc s).pair = s.pair := rfl
@[simp] theorem alarmDen_sleep (k loc : Nat) (s : State) : (alarmDen k loc s).sleep = s.sleep := rfl
@[simp] theorem alarmDen_test (k loc : Nat) (s : State) : (alarmDen k loc s).test = s.test := rfl
@[simp] theorem alarmDen_otp (k loc : Nat) (s : State) : (alarmDen k loc s).otp = s.otp := rfl
@[simp] theorem alarmDen_flash (k loc : Nat) (s : State) : (alarmDen k loc s).flash = s.flash := rfl
@[simp] theorem alarmDen_upd (k loc : Nat) (s : State) : (alarmDen k loc s).upd = s.upd := rfl
@[simp] theorem alarmDen_out (k loc : Nat) (s : State) : (alarmDen k loc s).out = s.out := rfl
@[simp] theorem alarmDen_fresh (k loc : Nat) (s : State) : (alarmDen k loc s).fresh = s.fresh := rfl
@[simp] theorem alarmDen_pending (k loc : Nat) (s : State) : (alarmDen k loc s).pending = s.pending := rfl

/-! `alarmReg` records an alarm and its event. -/

@[simp] theorem alarmReg_power (k loc : Nat) (s : State) : (alarmReg k loc s).power = s.power := by simp [alarmReg]
@[simp] theorem alarmReg_boot (k loc : Nat) (s : State) : (alarmReg k loc s).boot = s.boot := by simp [alarmReg]
@[simp] theorem alarmReg_host (k loc : Nat) (s : State) : (alarmReg k loc s).host = s.host := by simp [alarmReg]
@[simp] theorem alarmReg_sets (k loc : Nat) (s : State) : (alarmReg k loc s).sets = s.sets := by simp [alarmReg]
@[simp] theorem alarmReg_parse (k loc : Nat) (s : State) : (alarmReg k loc s).parse = s.parse := by simp [alarmReg]
@[simp] theorem alarmReg_vat (k loc : Nat) (s : State) : (alarmReg k loc s).vat = s.vat := by simp [alarmReg]
@[simp] theorem alarmReg_flow (k loc : Nat) (s : State) : (alarmReg k loc s).flow = s.flow := by simp [alarmReg]
@[simp] theorem alarmReg_time (k loc : Nat) (s : State) : (alarmReg k loc s).time = s.time := by simp [alarmReg]
@[simp] theorem alarmReg_edge (k loc : Nat) (s : State) : (alarmReg k loc s).edge = s.edge := by simp [alarmReg]
@[simp] theorem alarmReg_ports (k loc : Nat) (s : State) : (alarmReg k loc s).ports = s.ports := by simp [alarmReg]
@[simp] theorem alarmReg_svc (k loc : Nat) (s : State) : (alarmReg k loc s).svc = s.svc := by simp [alarmReg]
@[simp] theorem alarmReg_cellar (k loc : Nat) (s : State) : (alarmReg k loc s).cellar = s.cellar := by simp [alarmReg]
@[simp] theorem alarmReg_press (k loc : Nat) (s : State) : (alarmReg k loc s).press = s.press := by simp [alarmReg]
@[simp] theorem alarmReg_gw (k loc : Nat) (s : State) : (alarmReg k loc s).gw = s.gw := by simp [alarmReg]
@[simp] theorem alarmReg_pair (k loc : Nat) (s : State) : (alarmReg k loc s).pair = s.pair := by simp [alarmReg]
@[simp] theorem alarmReg_sleep (k loc : Nat) (s : State) : (alarmReg k loc s).sleep = s.sleep := by simp [alarmReg]
@[simp] theorem alarmReg_test (k loc : Nat) (s : State) : (alarmReg k loc s).test = s.test := by simp [alarmReg]
@[simp] theorem alarmReg_otp (k loc : Nat) (s : State) : (alarmReg k loc s).otp = s.otp := by simp [alarmReg]
@[simp] theorem alarmReg_flash (k loc : Nat) (s : State) : (alarmReg k loc s).flash = s.flash := by simp [alarmReg]
@[simp] theorem alarmReg_upd (k loc : Nat) (s : State) : (alarmReg k loc s).upd = s.upd := by simp [alarmReg]
@[simp] theorem alarmReg_fresh (k loc : Nat) (s : State) : (alarmReg k loc s).fresh = s.fresh := by simp [alarmReg]
@[simp] theorem alarmReg_pending (k loc : Nat) (s : State) : (alarmReg k loc s).pending = s.pending := by
  simp [alarmReg]

/-! `alarm` records an alarm, its event and its record. -/

@[simp] theorem alarm_power (k loc : Nat) (s : State) : (alarm k loc s).power = s.power := by simp [alarm]
@[simp] theorem alarm_boot (k loc : Nat) (s : State) : (alarm k loc s).boot = s.boot := by simp [alarm]
@[simp] theorem alarm_host (k loc : Nat) (s : State) : (alarm k loc s).host = s.host := by simp [alarm]
@[simp] theorem alarm_sets (k loc : Nat) (s : State) : (alarm k loc s).sets = s.sets := by simp [alarm]
@[simp] theorem alarm_parse (k loc : Nat) (s : State) : (alarm k loc s).parse = s.parse := by simp [alarm]
@[simp] theorem alarm_vat (k loc : Nat) (s : State) : (alarm k loc s).vat = s.vat := by simp [alarm]
@[simp] theorem alarm_flow (k loc : Nat) (s : State) : (alarm k loc s).flow = s.flow := by simp [alarm]
@[simp] theorem alarm_time (k loc : Nat) (s : State) : (alarm k loc s).time = s.time := by simp [alarm]
@[simp] theorem alarm_edge (k loc : Nat) (s : State) : (alarm k loc s).edge = s.edge := by simp [alarm]
@[simp] theorem alarm_ports (k loc : Nat) (s : State) : (alarm k loc s).ports = s.ports := by simp [alarm]
@[simp] theorem alarm_svc (k loc : Nat) (s : State) : (alarm k loc s).svc = s.svc := by simp [alarm]
@[simp] theorem alarm_cellar (k loc : Nat) (s : State) : (alarm k loc s).cellar = s.cellar := by simp [alarm]
@[simp] theorem alarm_press (k loc : Nat) (s : State) : (alarm k loc s).press = s.press := by simp [alarm]
@[simp] theorem alarm_gw (k loc : Nat) (s : State) : (alarm k loc s).gw = s.gw := by simp [alarm]
@[simp] theorem alarm_pair (k loc : Nat) (s : State) : (alarm k loc s).pair = s.pair := by simp [alarm]
@[simp] theorem alarm_sleep (k loc : Nat) (s : State) : (alarm k loc s).sleep = s.sleep := by simp [alarm]
@[simp] theorem alarm_otp (k loc : Nat) (s : State) : (alarm k loc s).otp = s.otp := by simp [alarm]
@[simp] theorem alarm_flash (k loc : Nat) (s : State) : (alarm k loc s).flash = s.flash := by simp [alarm]
@[simp] theorem alarm_upd (k loc : Nat) (s : State) : (alarm k loc s).upd = s.upd := by simp [alarm]
@[simp] theorem alarm_pending (k loc : Nat) (s : State) : (alarm k loc s).pending = s.pending := by simp [alarm]

/-! `withActive` replaces the active set. -/

@[simp] theorem withActive_power (c : CfgSet) (s : State) : (withActive c s).power = s.power := by
  unfold withActive; split <;> rfl
@[simp] theorem withActive_boot (c : CfgSet) (s : State) : (withActive c s).boot = s.boot := by
  unfold withActive; split <;> rfl
@[simp] theorem withActive_host (c : CfgSet) (s : State) : (withActive c s).host = s.host := by
  unfold withActive; split <;> rfl
@[simp] theorem withActive_ctl (c : CfgSet) (s : State) : (withActive c s).ctl = s.ctl := by
  unfold withActive; split <;> rfl
@[simp] theorem withActive_parse (c : CfgSet) (s : State) : (withActive c s).parse = s.parse := by
  unfold withActive; split <;> rfl
@[simp] theorem withActive_vat (c : CfgSet) (s : State) : (withActive c s).vat = s.vat := by
  unfold withActive; split <;> rfl
@[simp] theorem withActive_flow (c : CfgSet) (s : State) : (withActive c s).flow = s.flow := by
  unfold withActive; split <;> rfl
@[simp] theorem withActive_time (c : CfgSet) (s : State) : (withActive c s).time = s.time := by
  unfold withActive; split <;> rfl
@[simp] theorem withActive_edge (c : CfgSet) (s : State) : (withActive c s).edge = s.edge := by
  unfold withActive; split <;> rfl
@[simp] theorem withActive_ports (c : CfgSet) (s : State) : (withActive c s).ports = s.ports := by
  unfold withActive; split <;> rfl
@[simp] theorem withActive_svc (c : CfgSet) (s : State) : (withActive c s).svc = s.svc := by
  unfold withActive; split <;> rfl
@[simp] theorem withActive_cellar (c : CfgSet) (s : State) : (withActive c s).cellar = s.cellar := by
  unfold withActive; split <;> rfl
@[simp] theorem withActive_press (c : CfgSet) (s : State) : (withActive c s).press = s.press := by
  unfold withActive; split <;> rfl
@[simp] theorem withActive_gw (c : CfgSet) (s : State) : (withActive c s).gw = s.gw := by
  unfold withActive; split <;> rfl
@[simp] theorem withActive_pair (c : CfgSet) (s : State) : (withActive c s).pair = s.pair := by
  unfold withActive; split <;> rfl
@[simp] theorem withActive_sleep (c : CfgSet) (s : State) : (withActive c s).sleep = s.sleep := by
  unfold withActive; split <;> rfl
@[simp] theorem withActive_test (c : CfgSet) (s : State) : (withActive c s).test = s.test := by
  unfold withActive; split <;> rfl
@[simp] theorem withActive_alarms (c : CfgSet) (s : State) : (withActive c s).alarms = s.alarms := by
  unfold withActive; split <;> rfl
@[simp] theorem withActive_otp (c : CfgSet) (s : State) : (withActive c s).otp = s.otp := by
  unfold withActive; split <;> rfl
@[simp] theorem withActive_flash (c : CfgSet) (s : State) : (withActive c s).flash = s.flash := by
  unfold withActive; split <;> rfl
@[simp] theorem withActive_upd (c : CfgSet) (s : State) : (withActive c s).upd = s.upd := by
  unfold withActive; split <;> rfl
@[simp] theorem withActive_out (c : CfgSet) (s : State) : (withActive c s).out = s.out := by
  unfold withActive; split <;> rfl
@[simp] theorem withActive_fresh (c : CfgSet) (s : State) : (withActive c s).fresh = s.fresh := by
  unfold withActive; split <;> rfl
@[simp] theorem withActive_pending (c : CfgSet) (s : State) : (withActive c s).pending = s.pending := by
  unfold withActive; split <;> rfl

/-! `withShadow` replaces the shadow set. -/

@[simp] theorem withShadow_power (c : CfgSet) (s : State) : (withShadow c s).power = s.power := by
  unfold withShadow; split <;> rfl
@[simp] theorem withShadow_boot (c : CfgSet) (s : State) : (withShadow c s).boot = s.boot := by
  unfold withShadow; split <;> rfl
@[simp] theorem withShadow_host (c : CfgSet) (s : State) : (withShadow c s).host = s.host := by
  unfold withShadow; split <;> rfl
@[simp] theorem withShadow_ctl (c : CfgSet) (s : State) : (withShadow c s).ctl = s.ctl := by
  unfold withShadow; split <;> rfl
@[simp] theorem withShadow_parse (c : CfgSet) (s : State) : (withShadow c s).parse = s.parse := by
  unfold withShadow; split <;> rfl
@[simp] theorem withShadow_vat (c : CfgSet) (s : State) : (withShadow c s).vat = s.vat := by
  unfold withShadow; split <;> rfl
@[simp] theorem withShadow_flow (c : CfgSet) (s : State) : (withShadow c s).flow = s.flow := by
  unfold withShadow; split <;> rfl
@[simp] theorem withShadow_time (c : CfgSet) (s : State) : (withShadow c s).time = s.time := by
  unfold withShadow; split <;> rfl
@[simp] theorem withShadow_edge (c : CfgSet) (s : State) : (withShadow c s).edge = s.edge := by
  unfold withShadow; split <;> rfl
@[simp] theorem withShadow_ports (c : CfgSet) (s : State) : (withShadow c s).ports = s.ports := by
  unfold withShadow; split <;> rfl
@[simp] theorem withShadow_svc (c : CfgSet) (s : State) : (withShadow c s).svc = s.svc := by
  unfold withShadow; split <;> rfl
@[simp] theorem withShadow_cellar (c : CfgSet) (s : State) : (withShadow c s).cellar = s.cellar := by
  unfold withShadow; split <;> rfl
@[simp] theorem withShadow_press (c : CfgSet) (s : State) : (withShadow c s).press = s.press := by
  unfold withShadow; split <;> rfl
@[simp] theorem withShadow_gw (c : CfgSet) (s : State) : (withShadow c s).gw = s.gw := by
  unfold withShadow; split <;> rfl
@[simp] theorem withShadow_pair (c : CfgSet) (s : State) : (withShadow c s).pair = s.pair := by
  unfold withShadow; split <;> rfl
@[simp] theorem withShadow_sleep (c : CfgSet) (s : State) : (withShadow c s).sleep = s.sleep := by
  unfold withShadow; split <;> rfl
@[simp] theorem withShadow_test (c : CfgSet) (s : State) : (withShadow c s).test = s.test := by
  unfold withShadow; split <;> rfl
@[simp] theorem withShadow_alarms (c : CfgSet) (s : State) : (withShadow c s).alarms = s.alarms := by
  unfold withShadow; split <;> rfl
@[simp] theorem withShadow_otp (c : CfgSet) (s : State) : (withShadow c s).otp = s.otp := by
  unfold withShadow; split <;> rfl
@[simp] theorem withShadow_flash (c : CfgSet) (s : State) : (withShadow c s).flash = s.flash := by
  unfold withShadow; split <;> rfl
@[simp] theorem withShadow_upd (c : CfgSet) (s : State) : (withShadow c s).upd = s.upd := by
  unfold withShadow; split <;> rfl
@[simp] theorem withShadow_out (c : CfgSet) (s : State) : (withShadow c s).out = s.out := by
  unfold withShadow; split <;> rfl
@[simp] theorem withShadow_fresh (c : CfgSet) (s : State) : (withShadow c s).fresh = s.fresh := by
  unfold withShadow; split <;> rfl
@[simp] theorem withShadow_pending (c : CfgSet) (s : State) : (withShadow c s).pending = s.pending := by
  unfold withShadow; split <;> rfl

/-! `editShadow` edits the shadow set. -/

@[simp] theorem editShadow_power (f : CfgSet → CfgSet) (s : State) : (editShadow f s).power = s.power := by
  simp [editShadow]
@[simp] theorem editShadow_boot (f : CfgSet → CfgSet) (s : State) : (editShadow f s).boot = s.boot := by
  simp [editShadow]
@[simp] theorem editShadow_host (f : CfgSet → CfgSet) (s : State) : (editShadow f s).host = s.host := by
  simp [editShadow]
@[simp] theorem editShadow_ctl (f : CfgSet → CfgSet) (s : State) : (editShadow f s).ctl = s.ctl := by simp [editShadow]
@[simp] theorem editShadow_parse (f : CfgSet → CfgSet) (s : State) : (editShadow f s).parse = s.parse := by
  simp [editShadow]
@[simp] theorem editShadow_vat (f : CfgSet → CfgSet) (s : State) : (editShadow f s).vat = s.vat := by simp [editShadow]
@[simp] theorem editShadow_flow (f : CfgSet → CfgSet) (s : State) : (editShadow f s).flow = s.flow := by
  simp [editShadow]
@[simp] theorem editShadow_time (f : CfgSet → CfgSet) (s : State) : (editShadow f s).time = s.time := by
  simp [editShadow]
@[simp] theorem editShadow_edge (f : CfgSet → CfgSet) (s : State) : (editShadow f s).edge = s.edge := by
  simp [editShadow]
@[simp] theorem editShadow_ports (f : CfgSet → CfgSet) (s : State) : (editShadow f s).ports = s.ports := by
  simp [editShadow]
@[simp] theorem editShadow_svc (f : CfgSet → CfgSet) (s : State) : (editShadow f s).svc = s.svc := by simp [editShadow]
@[simp] theorem editShadow_cellar (f : CfgSet → CfgSet) (s : State) : (editShadow f s).cellar = s.cellar := by
  simp [editShadow]
@[simp] theorem editShadow_press (f : CfgSet → CfgSet) (s : State) : (editShadow f s).press = s.press := by
  simp [editShadow]
@[simp] theorem editShadow_gw (f : CfgSet → CfgSet) (s : State) : (editShadow f s).gw = s.gw := by simp [editShadow]
@[simp] theorem editShadow_pair (f : CfgSet → CfgSet) (s : State) : (editShadow f s).pair = s.pair := by
  simp [editShadow]
@[simp] theorem editShadow_sleep (f : CfgSet → CfgSet) (s : State) : (editShadow f s).sleep = s.sleep := by
  simp [editShadow]
@[simp] theorem editShadow_test (f : CfgSet → CfgSet) (s : State) : (editShadow f s).test = s.test := by
  simp [editShadow]
@[simp] theorem editShadow_alarms (f : CfgSet → CfgSet) (s : State) : (editShadow f s).alarms = s.alarms := by
  simp [editShadow]
@[simp] theorem editShadow_otp (f : CfgSet → CfgSet) (s : State) : (editShadow f s).otp = s.otp := by simp [editShadow]
@[simp] theorem editShadow_flash (f : CfgSet → CfgSet) (s : State) : (editShadow f s).flash = s.flash := by
  simp [editShadow]
@[simp] theorem editShadow_upd (f : CfgSet → CfgSet) (s : State) : (editShadow f s).upd = s.upd := by simp [editShadow]
@[simp] theorem editShadow_out (f : CfgSet → CfgSet) (s : State) : (editShadow f s).out = s.out := by simp [editShadow]
@[simp] theorem editShadow_fresh (f : CfgSet → CfgSet) (s : State) : (editShadow f s).fresh = s.fresh := by
  simp [editShadow]
@[simp] theorem editShadow_pending (f : CfgSet → CfgSet) (s : State) : (editShadow f s).pending = s.pending := by
  simp [editShadow]

/-! `setEthPort` writes a port. -/

@[simp] theorem setEthPort_power (p : Nat) (e : EthPort) (s : State) : (setEthPort p e s).power = s.power := rfl
@[simp] theorem setEthPort_boot (p : Nat) (e : EthPort) (s : State) : (setEthPort p e s).boot = s.boot := rfl
@[simp] theorem setEthPort_host (p : Nat) (e : EthPort) (s : State) : (setEthPort p e s).host = s.host := rfl
@[simp] theorem setEthPort_ctl (p : Nat) (e : EthPort) (s : State) : (setEthPort p e s).ctl = s.ctl := rfl
@[simp] theorem setEthPort_sets (p : Nat) (e : EthPort) (s : State) : (setEthPort p e s).sets = s.sets := rfl
@[simp] theorem setEthPort_parse (p : Nat) (e : EthPort) (s : State) : (setEthPort p e s).parse = s.parse := rfl
@[simp] theorem setEthPort_vat (p : Nat) (e : EthPort) (s : State) : (setEthPort p e s).vat = s.vat := rfl
@[simp] theorem setEthPort_flow (p : Nat) (e : EthPort) (s : State) : (setEthPort p e s).flow = s.flow := rfl
@[simp] theorem setEthPort_time (p : Nat) (e : EthPort) (s : State) : (setEthPort p e s).time = s.time := rfl
@[simp] theorem setEthPort_edge (p : Nat) (e : EthPort) (s : State) : (setEthPort p e s).edge = s.edge := rfl
@[simp] theorem setEthPort_svc (p : Nat) (e : EthPort) (s : State) : (setEthPort p e s).svc = s.svc := rfl
@[simp] theorem setEthPort_cellar (p : Nat) (e : EthPort) (s : State) : (setEthPort p e s).cellar = s.cellar := rfl
@[simp] theorem setEthPort_press (p : Nat) (e : EthPort) (s : State) : (setEthPort p e s).press = s.press := rfl
@[simp] theorem setEthPort_gw (p : Nat) (e : EthPort) (s : State) : (setEthPort p e s).gw = s.gw := rfl
@[simp] theorem setEthPort_pair (p : Nat) (e : EthPort) (s : State) : (setEthPort p e s).pair = s.pair := rfl
@[simp] theorem setEthPort_sleep (p : Nat) (e : EthPort) (s : State) : (setEthPort p e s).sleep = s.sleep := rfl
@[simp] theorem setEthPort_test (p : Nat) (e : EthPort) (s : State) : (setEthPort p e s).test = s.test := rfl
@[simp] theorem setEthPort_alarms (p : Nat) (e : EthPort) (s : State) : (setEthPort p e s).alarms = s.alarms := rfl
@[simp] theorem setEthPort_otp (p : Nat) (e : EthPort) (s : State) : (setEthPort p e s).otp = s.otp := rfl
@[simp] theorem setEthPort_flash (p : Nat) (e : EthPort) (s : State) : (setEthPort p e s).flash = s.flash := rfl
@[simp] theorem setEthPort_upd (p : Nat) (e : EthPort) (s : State) : (setEthPort p e s).upd = s.upd := rfl
@[simp] theorem setEthPort_out (p : Nat) (e : EthPort) (s : State) : (setEthPort p e s).out = s.out := rfl
@[simp] theorem setEthPort_fresh (p : Nat) (e : EthPort) (s : State) : (setEthPort p e s).fresh = s.fresh := rfl
@[simp] theorem setEthPort_pending (p : Nat) (e : EthPort) (s : State) : (setEthPort p e s).pending = s.pending := rfl

/-! `serviceSend` sends at most a frame. -/

@[simp] theorem serviceSend_power (k q o : Nat) (l : Bool) (d : Bytes) (s : State) : (serviceSend k q o l d s).power = s.power := by
  unfold serviceSend; split <;> (try split) <;> rfl
@[simp] theorem serviceSend_boot (k q o : Nat) (l : Bool) (d : Bytes) (s : State) : (serviceSend k q o l d s).boot = s.boot := by
  unfold serviceSend; split <;> (try split) <;> rfl
@[simp] theorem serviceSend_host (k q o : Nat) (l : Bool) (d : Bytes) (s : State) : (serviceSend k q o l d s).host = s.host := by
  unfold serviceSend; split <;> (try split) <;> rfl
@[simp] theorem serviceSend_ctl (k q o : Nat) (l : Bool) (d : Bytes) (s : State) : (serviceSend k q o l d s).ctl = s.ctl := by
  unfold serviceSend; split <;> (try split) <;> rfl
@[simp] theorem serviceSend_sets (k q o : Nat) (l : Bool) (d : Bytes) (s : State) : (serviceSend k q o l d s).sets = s.sets := by
  unfold serviceSend; split <;> (try split) <;> rfl
@[simp] theorem serviceSend_parse (k q o : Nat) (l : Bool) (d : Bytes) (s : State) : (serviceSend k q o l d s).parse = s.parse := by
  unfold serviceSend; split <;> (try split) <;> rfl
@[simp] theorem serviceSend_vat (k q o : Nat) (l : Bool) (d : Bytes) (s : State) : (serviceSend k q o l d s).vat = s.vat := by
  unfold serviceSend; split <;> (try split) <;> rfl
@[simp] theorem serviceSend_flow (k q o : Nat) (l : Bool) (d : Bytes) (s : State) : (serviceSend k q o l d s).flow = s.flow := by
  unfold serviceSend; split <;> (try split) <;> rfl
@[simp] theorem serviceSend_time (k q o : Nat) (l : Bool) (d : Bytes) (s : State) : (serviceSend k q o l d s).time = s.time := by
  unfold serviceSend; split <;> (try split) <;> rfl
@[simp] theorem serviceSend_edge (k q o : Nat) (l : Bool) (d : Bytes) (s : State) : (serviceSend k q o l d s).edge = s.edge := by
  unfold serviceSend; split <;> (try split) <;> rfl
@[simp] theorem serviceSend_ports (k q o : Nat) (l : Bool) (d : Bytes) (s : State) : (serviceSend k q o l d s).ports = s.ports := by
  unfold serviceSend; split <;> (try split) <;> rfl
@[simp] theorem serviceSend_svc (k q o : Nat) (l : Bool) (d : Bytes) (s : State) : (serviceSend k q o l d s).svc = s.svc := by
  unfold serviceSend; split <;> (try split) <;> rfl
@[simp] theorem serviceSend_cellar (k q o : Nat) (l : Bool) (d : Bytes) (s : State) : (serviceSend k q o l d s).cellar = s.cellar := by
  unfold serviceSend; split <;> (try split) <;> rfl
@[simp] theorem serviceSend_press (k q o : Nat) (l : Bool) (d : Bytes) (s : State) : (serviceSend k q o l d s).press = s.press := by
  unfold serviceSend; split <;> (try split) <;> rfl
@[simp] theorem serviceSend_gw (k q o : Nat) (l : Bool) (d : Bytes) (s : State) : (serviceSend k q o l d s).gw = s.gw := by
  unfold serviceSend; split <;> (try split) <;> rfl
@[simp] theorem serviceSend_pair (k q o : Nat) (l : Bool) (d : Bytes) (s : State) : (serviceSend k q o l d s).pair = s.pair := by
  unfold serviceSend; split <;> (try split) <;> rfl
@[simp] theorem serviceSend_sleep (k q o : Nat) (l : Bool) (d : Bytes) (s : State) : (serviceSend k q o l d s).sleep = s.sleep := by
  unfold serviceSend; split <;> (try split) <;> rfl
@[simp] theorem serviceSend_test (k q o : Nat) (l : Bool) (d : Bytes) (s : State) : (serviceSend k q o l d s).test = s.test := by
  unfold serviceSend; split <;> (try split) <;> rfl
@[simp] theorem serviceSend_alarms (k q o : Nat) (l : Bool) (d : Bytes) (s : State) : (serviceSend k q o l d s).alarms = s.alarms := by
  unfold serviceSend; split <;> (try split) <;> rfl
@[simp] theorem serviceSend_otp (k q o : Nat) (l : Bool) (d : Bytes) (s : State) : (serviceSend k q o l d s).otp = s.otp := by
  unfold serviceSend; split <;> (try split) <;> rfl
@[simp] theorem serviceSend_flash (k q o : Nat) (l : Bool) (d : Bytes) (s : State) : (serviceSend k q o l d s).flash = s.flash := by
  unfold serviceSend; split <;> (try split) <;> rfl
@[simp] theorem serviceSend_upd (k q o : Nat) (l : Bool) (d : Bytes) (s : State) : (serviceSend k q o l d s).upd = s.upd := by
  unfold serviceSend; split <;> (try split) <;> rfl
@[simp] theorem serviceSend_fresh (k q o : Nat) (l : Bool) (d : Bytes) (s : State) : (serviceSend k q o l d s).fresh = s.fresh := by
  unfold serviceSend; split <;> (try split) <;> rfl
@[simp] theorem serviceSend_pending (k q o : Nat) (l : Bool) (d : Bytes) (s : State) : (serviceSend k q o l d s).pending = s.pending := by
  unfold serviceSend; split <;> (try split) <;> rfl

/-! `pairSend` sends at most a frame. -/

@[simp] theorem pairSend_power (c : Nat) (d : Bytes) (s : State) : (pairSend c d s).power = s.power := by
  unfold pairSend; split <;> rfl
@[simp] theorem pairSend_boot (c : Nat) (d : Bytes) (s : State) : (pairSend c d s).boot = s.boot := by
  unfold pairSend; split <;> rfl
@[simp] theorem pairSend_host (c : Nat) (d : Bytes) (s : State) : (pairSend c d s).host = s.host := by
  unfold pairSend; split <;> rfl
@[simp] theorem pairSend_ctl (c : Nat) (d : Bytes) (s : State) : (pairSend c d s).ctl = s.ctl := by
  unfold pairSend; split <;> rfl
@[simp] theorem pairSend_sets (c : Nat) (d : Bytes) (s : State) : (pairSend c d s).sets = s.sets := by
  unfold pairSend; split <;> rfl
@[simp] theorem pairSend_parse (c : Nat) (d : Bytes) (s : State) : (pairSend c d s).parse = s.parse := by
  unfold pairSend; split <;> rfl
@[simp] theorem pairSend_vat (c : Nat) (d : Bytes) (s : State) : (pairSend c d s).vat = s.vat := by
  unfold pairSend; split <;> rfl
@[simp] theorem pairSend_flow (c : Nat) (d : Bytes) (s : State) : (pairSend c d s).flow = s.flow := by
  unfold pairSend; split <;> rfl
@[simp] theorem pairSend_time (c : Nat) (d : Bytes) (s : State) : (pairSend c d s).time = s.time := by
  unfold pairSend; split <;> rfl
@[simp] theorem pairSend_edge (c : Nat) (d : Bytes) (s : State) : (pairSend c d s).edge = s.edge := by
  unfold pairSend; split <;> rfl
@[simp] theorem pairSend_ports (c : Nat) (d : Bytes) (s : State) : (pairSend c d s).ports = s.ports := by
  unfold pairSend; split <;> rfl
@[simp] theorem pairSend_svc (c : Nat) (d : Bytes) (s : State) : (pairSend c d s).svc = s.svc := by
  unfold pairSend; split <;> rfl
@[simp] theorem pairSend_cellar (c : Nat) (d : Bytes) (s : State) : (pairSend c d s).cellar = s.cellar := by
  unfold pairSend; split <;> rfl
@[simp] theorem pairSend_press (c : Nat) (d : Bytes) (s : State) : (pairSend c d s).press = s.press := by
  unfold pairSend; split <;> rfl
@[simp] theorem pairSend_gw (c : Nat) (d : Bytes) (s : State) : (pairSend c d s).gw = s.gw := by
  unfold pairSend; split <;> rfl
@[simp] theorem pairSend_pair (c : Nat) (d : Bytes) (s : State) : (pairSend c d s).pair = s.pair := by
  unfold pairSend; split <;> rfl
@[simp] theorem pairSend_sleep (c : Nat) (d : Bytes) (s : State) : (pairSend c d s).sleep = s.sleep := by
  unfold pairSend; split <;> rfl
@[simp] theorem pairSend_test (c : Nat) (d : Bytes) (s : State) : (pairSend c d s).test = s.test := by
  unfold pairSend; split <;> rfl
@[simp] theorem pairSend_alarms (c : Nat) (d : Bytes) (s : State) : (pairSend c d s).alarms = s.alarms := by
  unfold pairSend; split <;> rfl
@[simp] theorem pairSend_otp (c : Nat) (d : Bytes) (s : State) : (pairSend c d s).otp = s.otp := by
  unfold pairSend; split <;> rfl
@[simp] theorem pairSend_flash (c : Nat) (d : Bytes) (s : State) : (pairSend c d s).flash = s.flash := by
  unfold pairSend; split <;> rfl
@[simp] theorem pairSend_upd (c : Nat) (d : Bytes) (s : State) : (pairSend c d s).upd = s.upd := by
  unfold pairSend; split <;> rfl
@[simp] theorem pairSend_fresh (c : Nat) (d : Bytes) (s : State) : (pairSend c d s).fresh = s.fresh := by
  unfold pairSend; split <;> rfl
@[simp] theorem pairSend_pending (c : Nat) (d : Bytes) (s : State) : (pairSend c d s).pending = s.pending := by
  unfold pairSend; split <;> rfl

/-! `setMb` writes a mailbox. -/

@[simp] theorem setMb_power (k : Nat) (m : Mailbox) (s : State) : (setMb k m s).power = s.power := rfl
@[simp] theorem setMb_boot (k : Nat) (m : Mailbox) (s : State) : (setMb k m s).boot = s.boot := rfl
@[simp] theorem setMb_host (k : Nat) (m : Mailbox) (s : State) : (setMb k m s).host = s.host := rfl
@[simp] theorem setMb_sets (k : Nat) (m : Mailbox) (s : State) : (setMb k m s).sets = s.sets := rfl
@[simp] theorem setMb_parse (k : Nat) (m : Mailbox) (s : State) : (setMb k m s).parse = s.parse := rfl
@[simp] theorem setMb_vat (k : Nat) (m : Mailbox) (s : State) : (setMb k m s).vat = s.vat := rfl
@[simp] theorem setMb_flow (k : Nat) (m : Mailbox) (s : State) : (setMb k m s).flow = s.flow := rfl
@[simp] theorem setMb_time (k : Nat) (m : Mailbox) (s : State) : (setMb k m s).time = s.time := rfl
@[simp] theorem setMb_edge (k : Nat) (m : Mailbox) (s : State) : (setMb k m s).edge = s.edge := rfl
@[simp] theorem setMb_ports (k : Nat) (m : Mailbox) (s : State) : (setMb k m s).ports = s.ports := rfl
@[simp] theorem setMb_svc (k : Nat) (m : Mailbox) (s : State) : (setMb k m s).svc = s.svc := rfl
@[simp] theorem setMb_cellar (k : Nat) (m : Mailbox) (s : State) : (setMb k m s).cellar = s.cellar := rfl
@[simp] theorem setMb_press (k : Nat) (m : Mailbox) (s : State) : (setMb k m s).press = s.press := rfl
@[simp] theorem setMb_gw (k : Nat) (m : Mailbox) (s : State) : (setMb k m s).gw = s.gw := rfl
@[simp] theorem setMb_pair (k : Nat) (m : Mailbox) (s : State) : (setMb k m s).pair = s.pair := rfl
@[simp] theorem setMb_sleep (k : Nat) (m : Mailbox) (s : State) : (setMb k m s).sleep = s.sleep := rfl
@[simp] theorem setMb_test (k : Nat) (m : Mailbox) (s : State) : (setMb k m s).test = s.test := rfl
@[simp] theorem setMb_alarms (k : Nat) (m : Mailbox) (s : State) : (setMb k m s).alarms = s.alarms := rfl
@[simp] theorem setMb_otp (k : Nat) (m : Mailbox) (s : State) : (setMb k m s).otp = s.otp := rfl
@[simp] theorem setMb_flash (k : Nat) (m : Mailbox) (s : State) : (setMb k m s).flash = s.flash := rfl
@[simp] theorem setMb_upd (k : Nat) (m : Mailbox) (s : State) : (setMb k m s).upd = s.upd := rfl
@[simp] theorem setMb_out (k : Nat) (m : Mailbox) (s : State) : (setMb k m s).out = s.out := rfl
@[simp] theorem setMb_fresh (k : Nat) (m : Mailbox) (s : State) : (setMb k m s).fresh = s.fresh := rfl
@[simp] theorem setMb_pending (k : Nat) (m : Mailbox) (s : State) : (setMb k m s).pending = s.pending := rfl

/-! `noticeTo` writes a notice. -/

@[simp] theorem noticeTo_power (k c l d : Nat) (s : State) : (noticeTo k c l d s).power = s.power := by
  unfold noticeTo; repeat (first | split | simp)
@[simp] theorem noticeTo_boot (k c l d : Nat) (s : State) : (noticeTo k c l d s).boot = s.boot := by
  unfold noticeTo; repeat (first | split | simp)
@[simp] theorem noticeTo_host (k c l d : Nat) (s : State) : (noticeTo k c l d s).host = s.host := by
  unfold noticeTo; repeat (first | split | simp)
@[simp] theorem noticeTo_sets (k c l d : Nat) (s : State) : (noticeTo k c l d s).sets = s.sets := by
  unfold noticeTo; repeat (first | split | simp)
@[simp] theorem noticeTo_parse (k c l d : Nat) (s : State) : (noticeTo k c l d s).parse = s.parse := by
  unfold noticeTo; repeat (first | split | simp)
@[simp] theorem noticeTo_vat (k c l d : Nat) (s : State) : (noticeTo k c l d s).vat = s.vat := by
  unfold noticeTo; repeat (first | split | simp)
@[simp] theorem noticeTo_flow (k c l d : Nat) (s : State) : (noticeTo k c l d s).flow = s.flow := by
  unfold noticeTo; repeat (first | split | simp)
@[simp] theorem noticeTo_time (k c l d : Nat) (s : State) : (noticeTo k c l d s).time = s.time := by
  unfold noticeTo; repeat (first | split | simp)
@[simp] theorem noticeTo_edge (k c l d : Nat) (s : State) : (noticeTo k c l d s).edge = s.edge := by
  unfold noticeTo; repeat (first | split | simp)
@[simp] theorem noticeTo_ports (k c l d : Nat) (s : State) : (noticeTo k c l d s).ports = s.ports := by
  unfold noticeTo; repeat (first | split | simp)
@[simp] theorem noticeTo_svc (k c l d : Nat) (s : State) : (noticeTo k c l d s).svc = s.svc := by
  unfold noticeTo; repeat (first | split | simp)
@[simp] theorem noticeTo_cellar (k c l d : Nat) (s : State) : (noticeTo k c l d s).cellar = s.cellar := by
  unfold noticeTo; repeat (first | split | simp)
@[simp] theorem noticeTo_press (k c l d : Nat) (s : State) : (noticeTo k c l d s).press = s.press := by
  unfold noticeTo; repeat (first | split | simp)
@[simp] theorem noticeTo_gw (k c l d : Nat) (s : State) : (noticeTo k c l d s).gw = s.gw := by
  unfold noticeTo; repeat (first | split | simp)
@[simp] theorem noticeTo_pair (k c l d : Nat) (s : State) : (noticeTo k c l d s).pair = s.pair := by
  unfold noticeTo; repeat (first | split | simp)
@[simp] theorem noticeTo_sleep (k c l d : Nat) (s : State) : (noticeTo k c l d s).sleep = s.sleep := by
  unfold noticeTo; repeat (first | split | simp)
@[simp] theorem noticeTo_test (k c l d : Nat) (s : State) : (noticeTo k c l d s).test = s.test := by
  unfold noticeTo; repeat (first | split | simp)
@[simp] theorem noticeTo_alarms (k c l d : Nat) (s : State) : (noticeTo k c l d s).alarms = s.alarms := by
  unfold noticeTo; repeat (first | split | simp)
@[simp] theorem noticeTo_otp (k c l d : Nat) (s : State) : (noticeTo k c l d s).otp = s.otp := by
  unfold noticeTo; repeat (first | split | simp)
@[simp] theorem noticeTo_flash (k c l d : Nat) (s : State) : (noticeTo k c l d s).flash = s.flash := by
  unfold noticeTo; repeat (first | split | simp)
@[simp] theorem noticeTo_upd (k c l d : Nat) (s : State) : (noticeTo k c l d s).upd = s.upd := by
  unfold noticeTo; repeat (first | split | simp)
@[simp] theorem noticeTo_pending (k c l d : Nat) (s : State) : (noticeTo k c l d s).pending = s.pending := by
  unfold noticeTo; repeat (first | split | simp)

/-! `notice` writes a notice to every mailbox. -/

@[simp] theorem notice_power (c l d : Nat) (s : State) : (notice c l d s).power = s.power := by
  simp [notice, List.range, List.range.loop]
@[simp] theorem notice_boot (c l d : Nat) (s : State) : (notice c l d s).boot = s.boot := by
  simp [notice, List.range, List.range.loop]
@[simp] theorem notice_host (c l d : Nat) (s : State) : (notice c l d s).host = s.host := by
  simp [notice, List.range, List.range.loop]
@[simp] theorem notice_sets (c l d : Nat) (s : State) : (notice c l d s).sets = s.sets := by
  simp [notice, List.range, List.range.loop]
@[simp] theorem notice_parse (c l d : Nat) (s : State) : (notice c l d s).parse = s.parse := by
  simp [notice, List.range, List.range.loop]
@[simp] theorem notice_vat (c l d : Nat) (s : State) : (notice c l d s).vat = s.vat := by
  simp [notice, List.range, List.range.loop]
@[simp] theorem notice_flow (c l d : Nat) (s : State) : (notice c l d s).flow = s.flow := by
  simp [notice, List.range, List.range.loop]
@[simp] theorem notice_time (c l d : Nat) (s : State) : (notice c l d s).time = s.time := by
  simp [notice, List.range, List.range.loop]
@[simp] theorem notice_edge (c l d : Nat) (s : State) : (notice c l d s).edge = s.edge := by
  simp [notice, List.range, List.range.loop]
@[simp] theorem notice_ports (c l d : Nat) (s : State) : (notice c l d s).ports = s.ports := by
  simp [notice, List.range, List.range.loop]
@[simp] theorem notice_svc (c l d : Nat) (s : State) : (notice c l d s).svc = s.svc := by
  simp [notice, List.range, List.range.loop]
@[simp] theorem notice_cellar (c l d : Nat) (s : State) : (notice c l d s).cellar = s.cellar := by
  simp [notice, List.range, List.range.loop]
@[simp] theorem notice_press (c l d : Nat) (s : State) : (notice c l d s).press = s.press := by
  simp [notice, List.range, List.range.loop]
@[simp] theorem notice_gw (c l d : Nat) (s : State) : (notice c l d s).gw = s.gw := by
  simp [notice, List.range, List.range.loop]
@[simp] theorem notice_pair (c l d : Nat) (s : State) : (notice c l d s).pair = s.pair := by
  simp [notice, List.range, List.range.loop]
@[simp] theorem notice_sleep (c l d : Nat) (s : State) : (notice c l d s).sleep = s.sleep := by
  simp [notice, List.range, List.range.loop]
@[simp] theorem notice_test (c l d : Nat) (s : State) : (notice c l d s).test = s.test := by
  simp [notice, List.range, List.range.loop]
@[simp] theorem notice_alarms (c l d : Nat) (s : State) : (notice c l d s).alarms = s.alarms := by
  simp [notice, List.range, List.range.loop]
@[simp] theorem notice_otp (c l d : Nat) (s : State) : (notice c l d s).otp = s.otp := by
  simp [notice, List.range, List.range.loop]
@[simp] theorem notice_flash (c l d : Nat) (s : State) : (notice c l d s).flash = s.flash := by
  simp [notice, List.range, List.range.loop]
@[simp] theorem notice_upd (c l d : Nat) (s : State) : (notice c l d s).upd = s.upd := by
  simp [notice, List.range, List.range.loop]
@[simp] theorem notice_pending (c l d : Nat) (s : State) : (notice c l d s).pending = s.pending := by
  simp [notice, List.range, List.range.loop]

/-! Folding over a list. -/

theorem forEach_power {α : Type} (l : List α) (g : α → State → State) (s : State) (h : ∀ x s, (g x s).power = s.power) :
    (forEach l g s).power = s.power := by
  unfold forEach
  induction l generalizing s with
  | nil => rfl
  | cons x l ih => simpa [List.foldl] using (ih (g x s)).trans (h x s)

theorem forEach_boot {α : Type} (l : List α) (g : α → State → State) (s : State) (h : ∀ x s, (g x s).boot = s.boot) :
    (forEach l g s).boot = s.boot := by
  unfold forEach
  induction l generalizing s with
  | nil => rfl
  | cons x l ih => simpa [List.foldl] using (ih (g x s)).trans (h x s)

theorem forEach_host {α : Type} (l : List α) (g : α → State → State) (s : State) (h : ∀ x s, (g x s).host = s.host) :
    (forEach l g s).host = s.host := by
  unfold forEach
  induction l generalizing s with
  | nil => rfl
  | cons x l ih => simpa [List.foldl] using (ih (g x s)).trans (h x s)

theorem forEach_ctl {α : Type} (l : List α) (g : α → State → State) (s : State) (h : ∀ x s, (g x s).ctl = s.ctl) :
    (forEach l g s).ctl = s.ctl := by
  unfold forEach
  induction l generalizing s with
  | nil => rfl
  | cons x l ih => simpa [List.foldl] using (ih (g x s)).trans (h x s)

theorem forEach_sets {α : Type} (l : List α) (g : α → State → State) (s : State) (h : ∀ x s, (g x s).sets = s.sets) :
    (forEach l g s).sets = s.sets := by
  unfold forEach
  induction l generalizing s with
  | nil => rfl
  | cons x l ih => simpa [List.foldl] using (ih (g x s)).trans (h x s)

theorem forEach_parse {α : Type} (l : List α) (g : α → State → State) (s : State) (h : ∀ x s, (g x s).parse = s.parse) :
    (forEach l g s).parse = s.parse := by
  unfold forEach
  induction l generalizing s with
  | nil => rfl
  | cons x l ih => simpa [List.foldl] using (ih (g x s)).trans (h x s)

theorem forEach_vat {α : Type} (l : List α) (g : α → State → State) (s : State) (h : ∀ x s, (g x s).vat = s.vat) :
    (forEach l g s).vat = s.vat := by
  unfold forEach
  induction l generalizing s with
  | nil => rfl
  | cons x l ih => simpa [List.foldl] using (ih (g x s)).trans (h x s)

theorem forEach_flow {α : Type} (l : List α) (g : α → State → State) (s : State) (h : ∀ x s, (g x s).flow = s.flow) :
    (forEach l g s).flow = s.flow := by
  unfold forEach
  induction l generalizing s with
  | nil => rfl
  | cons x l ih => simpa [List.foldl] using (ih (g x s)).trans (h x s)

theorem forEach_time {α : Type} (l : List α) (g : α → State → State) (s : State) (h : ∀ x s, (g x s).time = s.time) :
    (forEach l g s).time = s.time := by
  unfold forEach
  induction l generalizing s with
  | nil => rfl
  | cons x l ih => simpa [List.foldl] using (ih (g x s)).trans (h x s)

theorem forEach_edge {α : Type} (l : List α) (g : α → State → State) (s : State) (h : ∀ x s, (g x s).edge = s.edge) :
    (forEach l g s).edge = s.edge := by
  unfold forEach
  induction l generalizing s with
  | nil => rfl
  | cons x l ih => simpa [List.foldl] using (ih (g x s)).trans (h x s)

theorem forEach_ports {α : Type} (l : List α) (g : α → State → State) (s : State) (h : ∀ x s, (g x s).ports = s.ports) :
    (forEach l g s).ports = s.ports := by
  unfold forEach
  induction l generalizing s with
  | nil => rfl
  | cons x l ih => simpa [List.foldl] using (ih (g x s)).trans (h x s)

theorem forEach_svc {α : Type} (l : List α) (g : α → State → State) (s : State) (h : ∀ x s, (g x s).svc = s.svc) :
    (forEach l g s).svc = s.svc := by
  unfold forEach
  induction l generalizing s with
  | nil => rfl
  | cons x l ih => simpa [List.foldl] using (ih (g x s)).trans (h x s)

theorem forEach_cellar {α : Type} (l : List α) (g : α → State → State) (s : State) (h : ∀ x s, (g x s).cellar = s.cellar) :
    (forEach l g s).cellar = s.cellar := by
  unfold forEach
  induction l generalizing s with
  | nil => rfl
  | cons x l ih => simpa [List.foldl] using (ih (g x s)).trans (h x s)

theorem forEach_press {α : Type} (l : List α) (g : α → State → State) (s : State) (h : ∀ x s, (g x s).press = s.press) :
    (forEach l g s).press = s.press := by
  unfold forEach
  induction l generalizing s with
  | nil => rfl
  | cons x l ih => simpa [List.foldl] using (ih (g x s)).trans (h x s)

theorem forEach_gw {α : Type} (l : List α) (g : α → State → State) (s : State) (h : ∀ x s, (g x s).gw = s.gw) :
    (forEach l g s).gw = s.gw := by
  unfold forEach
  induction l generalizing s with
  | nil => rfl
  | cons x l ih => simpa [List.foldl] using (ih (g x s)).trans (h x s)

theorem forEach_pair {α : Type} (l : List α) (g : α → State → State) (s : State) (h : ∀ x s, (g x s).pair = s.pair) :
    (forEach l g s).pair = s.pair := by
  unfold forEach
  induction l generalizing s with
  | nil => rfl
  | cons x l ih => simpa [List.foldl] using (ih (g x s)).trans (h x s)

theorem forEach_sleep {α : Type} (l : List α) (g : α → State → State) (s : State) (h : ∀ x s, (g x s).sleep = s.sleep) :
    (forEach l g s).sleep = s.sleep := by
  unfold forEach
  induction l generalizing s with
  | nil => rfl
  | cons x l ih => simpa [List.foldl] using (ih (g x s)).trans (h x s)

theorem forEach_test {α : Type} (l : List α) (g : α → State → State) (s : State) (h : ∀ x s, (g x s).test = s.test) :
    (forEach l g s).test = s.test := by
  unfold forEach
  induction l generalizing s with
  | nil => rfl
  | cons x l ih => simpa [List.foldl] using (ih (g x s)).trans (h x s)

theorem forEach_alarms {α : Type} (l : List α) (g : α → State → State) (s : State) (h : ∀ x s, (g x s).alarms = s.alarms) :
    (forEach l g s).alarms = s.alarms := by
  unfold forEach
  induction l generalizing s with
  | nil => rfl
  | cons x l ih => simpa [List.foldl] using (ih (g x s)).trans (h x s)

theorem forEach_otp {α : Type} (l : List α) (g : α → State → State) (s : State) (h : ∀ x s, (g x s).otp = s.otp) :
    (forEach l g s).otp = s.otp := by
  unfold forEach
  induction l generalizing s with
  | nil => rfl
  | cons x l ih => simpa [List.foldl] using (ih (g x s)).trans (h x s)

theorem forEach_flash {α : Type} (l : List α) (g : α → State → State) (s : State) (h : ∀ x s, (g x s).flash = s.flash) :
    (forEach l g s).flash = s.flash := by
  unfold forEach
  induction l generalizing s with
  | nil => rfl
  | cons x l ih => simpa [List.foldl] using (ih (g x s)).trans (h x s)

theorem forEach_upd {α : Type} (l : List α) (g : α → State → State) (s : State) (h : ∀ x s, (g x s).upd = s.upd) :
    (forEach l g s).upd = s.upd := by
  unfold forEach
  induction l generalizing s with
  | nil => rfl
  | cons x l ih => simpa [List.foldl] using (ih (g x s)).trans (h x s)

theorem forEach_out {α : Type} (l : List α) (g : α → State → State) (s : State) (h : ∀ x s, (g x s).out = s.out) :
    (forEach l g s).out = s.out := by
  unfold forEach
  induction l generalizing s with
  | nil => rfl
  | cons x l ih => simpa [List.foldl] using (ih (g x s)).trans (h x s)

theorem forEach_fresh {α : Type} (l : List α) (g : α → State → State) (s : State) (h : ∀ x s, (g x s).fresh = s.fresh) :
    (forEach l g s).fresh = s.fresh := by
  unfold forEach
  induction l generalizing s with
  | nil => rfl
  | cons x l ih => simpa [List.foldl] using (ih (g x s)).trans (h x s)

theorem forEach_pending {α : Type} (l : List α) (g : α → State → State) (s : State) (h : ∀ x s, (g x s).pending = s.pending) :
    (forEach l g s).pending = s.pending := by
  unfold forEach
  induction l generalizing s with
  | nil => rfl
  | cons x l ih => simpa [List.foldl] using (ih (g x s)).trans (h x s)

/-! `serviceRespond` sends frames. -/

@[simp] theorem serviceRespond_power (s : State) : (serviceRespond s).power = s.power := by
  unfold serviceRespond; exact forEach_power _ _ _ (fun _ _ => by simp)
@[simp] theorem serviceRespond_boot (s : State) : (serviceRespond s).boot = s.boot := by
  unfold serviceRespond; exact forEach_boot _ _ _ (fun _ _ => by simp)
@[simp] theorem serviceRespond_host (s : State) : (serviceRespond s).host = s.host := by
  unfold serviceRespond; exact forEach_host _ _ _ (fun _ _ => by simp)
@[simp] theorem serviceRespond_ctl (s : State) : (serviceRespond s).ctl = s.ctl := by
  unfold serviceRespond; exact forEach_ctl _ _ _ (fun _ _ => by simp)
@[simp] theorem serviceRespond_sets (s : State) : (serviceRespond s).sets = s.sets := by
  unfold serviceRespond; exact forEach_sets _ _ _ (fun _ _ => by simp)
@[simp] theorem serviceRespond_parse (s : State) : (serviceRespond s).parse = s.parse := by
  unfold serviceRespond; exact forEach_parse _ _ _ (fun _ _ => by simp)
@[simp] theorem serviceRespond_vat (s : State) : (serviceRespond s).vat = s.vat := by
  unfold serviceRespond; exact forEach_vat _ _ _ (fun _ _ => by simp)
@[simp] theorem serviceRespond_flow (s : State) : (serviceRespond s).flow = s.flow := by
  unfold serviceRespond; exact forEach_flow _ _ _ (fun _ _ => by simp)
@[simp] theorem serviceRespond_time (s : State) : (serviceRespond s).time = s.time := by
  unfold serviceRespond; exact forEach_time _ _ _ (fun _ _ => by simp)
@[simp] theorem serviceRespond_edge (s : State) : (serviceRespond s).edge = s.edge := by
  unfold serviceRespond; exact forEach_edge _ _ _ (fun _ _ => by simp)
@[simp] theorem serviceRespond_ports (s : State) : (serviceRespond s).ports = s.ports := by
  unfold serviceRespond; exact forEach_ports _ _ _ (fun _ _ => by simp)
@[simp] theorem serviceRespond_svc (s : State) : (serviceRespond s).svc = s.svc := by
  unfold serviceRespond; exact forEach_svc _ _ _ (fun _ _ => by simp)
@[simp] theorem serviceRespond_cellar (s : State) : (serviceRespond s).cellar = s.cellar := by
  unfold serviceRespond; exact forEach_cellar _ _ _ (fun _ _ => by simp)
@[simp] theorem serviceRespond_press (s : State) : (serviceRespond s).press = s.press := by
  unfold serviceRespond; exact forEach_press _ _ _ (fun _ _ => by simp)
@[simp] theorem serviceRespond_gw (s : State) : (serviceRespond s).gw = s.gw := by
  unfold serviceRespond; exact forEach_gw _ _ _ (fun _ _ => by simp)
@[simp] theorem serviceRespond_pair (s : State) : (serviceRespond s).pair = s.pair := by
  unfold serviceRespond; exact forEach_pair _ _ _ (fun _ _ => by simp)
@[simp] theorem serviceRespond_sleep (s : State) : (serviceRespond s).sleep = s.sleep := by
  unfold serviceRespond; exact forEach_sleep _ _ _ (fun _ _ => by simp)
@[simp] theorem serviceRespond_test (s : State) : (serviceRespond s).test = s.test := by
  unfold serviceRespond; exact forEach_test _ _ _ (fun _ _ => by simp)
@[simp] theorem serviceRespond_alarms (s : State) : (serviceRespond s).alarms = s.alarms := by
  unfold serviceRespond; exact forEach_alarms _ _ _ (fun _ _ => by simp)
@[simp] theorem serviceRespond_otp (s : State) : (serviceRespond s).otp = s.otp := by
  unfold serviceRespond; exact forEach_otp _ _ _ (fun _ _ => by simp)
@[simp] theorem serviceRespond_flash (s : State) : (serviceRespond s).flash = s.flash := by
  unfold serviceRespond; exact forEach_flash _ _ _ (fun _ _ => by simp)
@[simp] theorem serviceRespond_upd (s : State) : (serviceRespond s).upd = s.upd := by
  unfold serviceRespond; exact forEach_upd _ _ _ (fun _ _ => by simp)
@[simp] theorem serviceRespond_fresh (s : State) : (serviceRespond s).fresh = s.fresh := by
  unfold serviceRespond; exact forEach_fresh _ _ _ (fun _ _ => by simp)
@[simp] theorem serviceRespond_pending (s : State) : (serviceRespond s).pending = s.pending := by
  unfold serviceRespond; exact forEach_pending _ _ _ (fun _ _ => by simp)



/-! `mbDone` ends a mailbox command. -/

@[simp] theorem mbDone_power (k st g : Nat) (d : Bytes) (s : State) : (mbDone k st g d s).power = s.power := by
  unfold mbDone; (repeat' split) <;> simp
@[simp] theorem mbDone_boot (k st g : Nat) (d : Bytes) (s : State) : (mbDone k st g d s).boot = s.boot := by
  unfold mbDone; (repeat' split) <;> simp
@[simp] theorem mbDone_host (k st g : Nat) (d : Bytes) (s : State) : (mbDone k st g d s).host = s.host := by
  unfold mbDone; (repeat' split) <;> simp
@[simp] theorem mbDone_sets (k st g : Nat) (d : Bytes) (s : State) : (mbDone k st g d s).sets = s.sets := by
  unfold mbDone; (repeat' split) <;> simp
@[simp] theorem mbDone_parse (k st g : Nat) (d : Bytes) (s : State) : (mbDone k st g d s).parse = s.parse := by
  unfold mbDone; (repeat' split) <;> simp
@[simp] theorem mbDone_vat (k st g : Nat) (d : Bytes) (s : State) : (mbDone k st g d s).vat = s.vat := by
  unfold mbDone; (repeat' split) <;> simp
@[simp] theorem mbDone_flow (k st g : Nat) (d : Bytes) (s : State) : (mbDone k st g d s).flow = s.flow := by
  unfold mbDone; (repeat' split) <;> simp
@[simp] theorem mbDone_time (k st g : Nat) (d : Bytes) (s : State) : (mbDone k st g d s).time = s.time := by
  unfold mbDone; (repeat' split) <;> simp
@[simp] theorem mbDone_edge (k st g : Nat) (d : Bytes) (s : State) : (mbDone k st g d s).edge = s.edge := by
  unfold mbDone; (repeat' split) <;> simp
@[simp] theorem mbDone_ports (k st g : Nat) (d : Bytes) (s : State) : (mbDone k st g d s).ports = s.ports := by
  unfold mbDone; (repeat' split) <;> simp
@[simp] theorem mbDone_svc (k st g : Nat) (d : Bytes) (s : State) : (mbDone k st g d s).svc = s.svc := by
  unfold mbDone; (repeat' split) <;> simp
@[simp] theorem mbDone_cellar (k st g : Nat) (d : Bytes) (s : State) : (mbDone k st g d s).cellar = s.cellar := by
  unfold mbDone; (repeat' split) <;> simp
@[simp] theorem mbDone_press (k st g : Nat) (d : Bytes) (s : State) : (mbDone k st g d s).press = s.press := by
  unfold mbDone; (repeat' split) <;> simp
@[simp] theorem mbDone_gw (k st g : Nat) (d : Bytes) (s : State) : (mbDone k st g d s).gw = s.gw := by
  unfold mbDone; (repeat' split) <;> simp
@[simp] theorem mbDone_pair (k st g : Nat) (d : Bytes) (s : State) : (mbDone k st g d s).pair = s.pair := by
  unfold mbDone; (repeat' split) <;> simp
@[simp] theorem mbDone_test (k st g : Nat) (d : Bytes) (s : State) : (mbDone k st g d s).test = s.test := by
  unfold mbDone; (repeat' split) <;> simp
@[simp] theorem mbDone_alarms (k st g : Nat) (d : Bytes) (s : State) : (mbDone k st g d s).alarms = s.alarms := by
  unfold mbDone; (repeat' split) <;> simp
@[simp] theorem mbDone_otp (k st g : Nat) (d : Bytes) (s : State) : (mbDone k st g d s).otp = s.otp := by
  unfold mbDone; (repeat' split) <;> simp
@[simp] theorem mbDone_flash (k st g : Nat) (d : Bytes) (s : State) : (mbDone k st g d s).flash = s.flash := by
  unfold mbDone; (repeat' split) <;> simp
@[simp] theorem mbDone_upd (k st g : Nat) (d : Bytes) (s : State) : (mbDone k st g d s).upd = s.upd := by
  unfold mbDone; (repeat' split) <;> simp
@[simp] theorem mbDone_fresh (k st g : Nat) (d : Bytes) (s : State) : (mbDone k st g d s).fresh = s.fresh := by
  unfold mbDone; (repeat' split) <;> simp
@[simp] theorem mbDone_pending (k st g : Nat) (d : Bytes) (s : State) : (mbDone k st g d s).pending = s.pending := by
  unfold mbDone; (repeat' split) <;> simp


end Sys2Proof.Machine
end

