-- ==== Sys2Proof/Laws/Mailbox.lean ====
section
/-! SUPPORT. What serving a mailbox command does, once: the command that passes the checks of R110 answers DONE. -/

namespace Sys2Proof.Machine

open Sys2Proof

/-- A command that uses no configuration set and passes its checks. -/
theorem runCmd_neither {c : Cmd} {mb tgt st : Nat} {p data : Bytes} {s u : State} (hs : c.sets = .neither)
    (h : Served mb c.code tgt p s) (hm : ∀ tag, c.may ⟨mb, c.code, tag, tgt, p⟩ = true) (hl : c.lenOk p = true)
    (hi : ∀ tag, c.idx ⟨mb, c.code, tag, tgt, p⟩ s = stOk)
    (hb : ∀ tag, c.body ⟨mb, c.code, tag, tgt, p⟩ s = .done st data u) : runCmd c mb s = mbDone mb st u.sets.gen data u := by
  obtain ⟨⟨tag, hc⟩, hn, h4⟩ := h
  simp [runCmd, hc, hn, hm, hl, hi, hb, hs, writesSet, rspGen, stOk]
  exact fun e he => by simp [h4 e] at he

/-- A command that reads the active set. -/
theorem runCmd_active {c : Cmd} {mb st : Nat} {p data : Bytes} {s u : State} (hs : c.sets = .either ∨ c.sets = .reads)
    (h : Served mb c.code 0 p s) (hm : ∀ tag, c.may ⟨mb, c.code, tag, 0, p⟩ = true) (hl : c.lenOk p = true)
    (hi : ∀ tag, c.idx ⟨mb, c.code, tag, 0, p⟩ s = stOk)
    (hb : ∀ tag, c.body ⟨mb, c.code, tag, 0, p⟩ s = .done st data u) : runCmd c mb s = mbDone mb st s.sets.gen data u := by
  obtain ⟨⟨tag, hc⟩, hn, h4⟩ := h
  rcases hs with hs | hs <;> simp [runCmd, hc, hn, hm, hl, hi, hb, hs, writesSet, rspGen, stOk] <;>
    exact fun e he => by simp [h4 e] at he

/-- A shadow that is free passes the check of R119. -/
theorem shadowCheck_free {mb : Nat} {s : State} (h : ShadowFree mb s) : shadowCheck s = stOk := by
  obtain ⟨_, hr, hp⟩ := h
  simp [shadowCheck, isStandby, hr, hp]

/-- A command that writes the shadow. -/
theorem runCmd_shadow {c : Cmd} {mb st : Nat} {p data : Bytes} {s u : State}
    (hs : c.sets = .shadow ∨ (c.sets = .either ∧ mb = 0)) (hf : ShadowFree mb s)
    (h : Served mb c.code 1 p s) (hm : ∀ tag, c.may ⟨mb, c.code, tag, 1, p⟩ = true) (hl : c.lenOk p = true)
    (hi : ∀ tag, c.idx ⟨mb, c.code, tag, 1, p⟩ s = stOk)
    (hb : ∀ tag, c.body ⟨mb, c.code, tag, 1, p⟩ s = .done st data u) :
    runCmd c mb s = mbDone mb st (shadowGen s) data u := by
  have hsh := shadowCheck_free hf
  obtain ⟨⟨tag, hc⟩, hn, h4⟩ := h
  rcases hs with hs | ⟨hs, rfl⟩
  · simp [runCmd, hc, hn, hm, hl, hi, hb, hs, writesSet, rspGen, stOk, hsh, hf.1]
    exact fun e he => by simp [h4 e] at he
  · simp [runCmd, hc, hn, hm, hl, hi, hb, hs, writesSet, rspGen, stOk, hsh, hf.1]

/-! The same as `Answers`, for the command of the table whose meaning serves `c`. -/

theorem answers_neither {i : Instr} (c : Cmd) {mb tgt gen : Nat} {p data : Bytes} {s u : State}
    (he : exec i s = .next (runCmd c mb s)) (hs : c.sets = .neither) (h : Served mb c.code tgt p s)
    (hm : ∀ tag, c.may ⟨mb, c.code, tag, tgt, p⟩ = true) (hl : c.lenOk p = true)
    (hi : ∀ tag, c.idx ⟨mb, c.code, tag, tgt, p⟩ s = stOk)
    (hb : ∀ tag, c.body ⟨mb, c.code, tag, tgt, p⟩ s = .done stOk data u) (hg : u.sets.gen = gen) :
    Answers i mb gen data s u := by
  unfold Answers
  rw [he, runCmd_neither hs h hm hl hi hb, hg]

theorem answers_active {i : Instr} (c : Cmd) {mb : Nat} {p data : Bytes} {s u : State}
    (he : exec i s = .next (runCmd c mb s)) (hs : c.sets = .either ∨ c.sets = .reads) (h : Served mb c.code 0 p s)
    (hm : ∀ tag, c.may ⟨mb, c.code, tag, 0, p⟩ = true) (hl : c.lenOk p = true)
    (hi : ∀ tag, c.idx ⟨mb, c.code, tag, 0, p⟩ s = stOk)
    (hb : ∀ tag, c.body ⟨mb, c.code, tag, 0, p⟩ s = .done stOk data u) : Answers i mb s.sets.gen data s u := by
  unfold Answers
  rw [he, runCmd_active hs h hm hl hi hb]

theorem answers_shadow {i : Instr} (c : Cmd) {mb : Nat} {p data : Bytes} {s u : State}
    (he : exec i s = .next (runCmd c mb s)) (hs : c.sets = .shadow ∨ (c.sets = .either ∧ mb = 0)) (hf : ShadowFree mb s)
    (h : Served mb c.code 1 p s) (hm : ∀ tag, c.may ⟨mb, c.code, tag, 1, p⟩ = true) (hl : c.lenOk p = true)
    (hi : ∀ tag, c.idx ⟨mb, c.code, tag, 1, p⟩ s = stOk)
    (hb : ∀ tag, c.body ⟨mb, c.code, tag, 1, p⟩ s = .done stOk data u) : Answers i mb (shadowGen s) data s u := by
  unfold Answers
  rw [he, runCmd_shadow hs hf h hm hl hi hb]

end Sys2Proof.Machine
end

