-- ==== Sys2Proof/Laws/Tbl.lean ====
section
/-! SUPPORT. Sparse tables and byte memory: read after write, and that every operation keeps the canonical form. -/

namespace Sys2Proof.Machine

/-! ### Reading -/

theorem Tbl.get_erase_ne {α : Type} (t : Tbl α) {i j : Nat} (d : α) (h : i ≠ j) : Tbl.get (Tbl.erase t i) j d = Tbl.get t j d := by
  induction t with
  | nil => rfl
  | cons e t ih =>
    obtain ⟨k, v⟩ := e
    by_cases hk : k = i
    · have : k ≠ j := fun e => h (hk ▸ e)
      simp [Tbl.erase, Tbl.get, hk, h]
    · by_cases hj : k = j
      · subst hj; simp [Tbl.erase, Tbl.get, hk]
      · simp only [Tbl.erase, Tbl.get, hk, hj, ih, if_false]

theorem Tbl.get_insert {α : Type} (t : Tbl α) (i j : Nat) (v d : α) :
    Tbl.get (Tbl.insert t i v) j d = if i = j then v else Tbl.get t j d := by
  induction t with
  | nil => simp [Tbl.insert, Tbl.get]
  | cons e t ih =>
    obtain ⟨k, w⟩ := e
    unfold Tbl.insert
    by_cases h1 : i < k
    · simp [h1, Tbl.get]
    · by_cases h2 : k = i
      · by_cases hj : i = j <;> simp [h2, Tbl.get, hj]
      · by_cases hk : k = j
        · have : i ≠ j := fun e => h2 (hk.trans e.symm)
          subst hk; simp [h1, h2, Tbl.get, this]
        · simp only [h1, h2, Tbl.get, hk, ih, if_false]

/-- Every key is above `k`. -/
def Tbl.above {α : Type} (k : Nat) (t : Tbl α) : Prop := ∀ e ∈ t, k < e.1

theorem Tbl.sorted_cons {α : Type} (k : Nat) (v : α) (t : Tbl α) :
    Tbl.sorted ((k, v) :: t) = true ↔ Tbl.above k t ∧ Tbl.sorted t = true := by
  induction t generalizing k v with
  | nil => simp [Tbl.sorted, Tbl.above]
  | cons e t ih =>
    obtain ⟨k', v'⟩ := e
    simp only [Tbl.sorted, Bool.and_eq_true, decide_eq_true_eq]
    constructor
    · rintro ⟨h, hs⟩
      refine ⟨?_, hs⟩
      intro e he
      rcases List.mem_cons.mp he with rfl | he
      · exact h
      · exact Nat.lt_trans h (((ih k' v').mp hs).1 e he)
    · rintro ⟨h, hs⟩
      exact ⟨h (k', v') (List.mem_cons_self ..), hs⟩

theorem Tbl.get_above {α : Type} {k : Nat} {t : Tbl α} (d : α) (h : Tbl.above k t) : Tbl.get t k d = d := by
  induction t with
  | nil => rfl
  | cons e t ih =>
    obtain ⟨k', v'⟩ := e
    have hk : k < k' := h (k', v') (List.mem_cons_self ..)
    have ht : Tbl.above k t := fun e he => h e (List.mem_cons_of_mem _ he)
    simp [Tbl.get, Nat.ne_of_gt hk, ih ht]

theorem Tbl.get_erase_self {α : Type} (t : Tbl α) (i : Nat) (d : α) (h : Tbl.sorted t = true) : Tbl.get (Tbl.erase t i) i d = d := by
  induction t with
  | nil => rfl
  | cons e t ih =>
    obtain ⟨k, v⟩ := e
    have hs := (Tbl.sorted_cons k v t).mp h
    by_cases hk : k = i
    · subst hk
      simp [Tbl.erase, Tbl.get_above d hs.1]
    · simp [Tbl.erase, Tbl.get, hk, ih hs.2]

/-- Reading after a write, at any key of a sorted table. -/
theorem Tbl.get_set {α : Type} [DecidableEq α] (t : Tbl α) (i j : Nat) (v d : α) (h : Tbl.sorted t = true) :
    Tbl.get (Tbl.set t i v d) j d = if i = j then v else Tbl.get t j d := by
  unfold Tbl.set
  by_cases hv : v = d
  · by_cases hij : i = j
    · subst hij; simp [hv, Tbl.get_erase_self t i d h]
    · simp [hv, hij, Tbl.get_erase_ne t d hij]
  · simp [hv, Tbl.get_insert]

/-- Reading elsewhere after a write, in any table. -/
theorem Tbl.get_set_ne {α : Type} [DecidableEq α] (t : Tbl α) {i j : Nat} (v d : α) (h : i ≠ j) :
    Tbl.get (Tbl.set t i v d) j d = Tbl.get t j d := by
  unfold Tbl.set
  by_cases hv : v = d <;> simp [hv, Tbl.get_erase_ne t d h, Tbl.get_insert, h]

/-! ### The canonical form -/

theorem Tbl.above_erase {α : Type} {k : Nat} {t : Tbl α} (i : Nat) (h : Tbl.above k t) : Tbl.above k (Tbl.erase t i) := by
  induction t with
  | nil => exact h
  | cons e t ih =>
    obtain ⟨k', v'⟩ := e
    have ht : Tbl.above k t := fun e he => h e (List.mem_cons_of_mem _ he)
    by_cases hk : k' = i
    · simpa [Tbl.erase, hk] using ht
    · intro e he
      simp only [Tbl.erase, hk, if_false] at he
      rcases List.mem_cons.mp he with rfl | he
      · exact h _ (List.mem_cons_self ..)
      · exact ih ht e he

theorem Tbl.sorted_erase {α : Type} {t : Tbl α} (i : Nat) (h : Tbl.sorted t = true) : Tbl.sorted (Tbl.erase t i) = true := by
  induction t with
  | nil => rfl
  | cons e t ih =>
    obtain ⟨k, v⟩ := e
    have hs := (Tbl.sorted_cons k v t).mp h
    by_cases hk : k = i
    · simpa [Tbl.erase, hk] using hs.2
    · simp only [Tbl.erase, hk, if_false]
      exact (Tbl.sorted_cons ..).mpr ⟨Tbl.above_erase i hs.1, ih hs.2⟩

theorem Tbl.above_insert {α : Type} {k : Nat} {t : Tbl α} {i : Nat} (v : α) (hi : k < i) (h : Tbl.above k t) :
    Tbl.above k (Tbl.insert t i v) := by
  induction t with
  | nil => intro e he; simp [Tbl.insert] at he; exact he ▸ hi
  | cons e t ih =>
    obtain ⟨k', v'⟩ := e
    have ht : Tbl.above k t := fun e he => h e (List.mem_cons_of_mem _ he)
    intro e he
    unfold Tbl.insert at he
    split at he
    · rcases List.mem_cons.mp he with rfl | he
      · exact hi
      · exact h e he
    · split at he
      · rcases List.mem_cons.mp he with rfl | he
        · exact hi
        · exact ht e he
      · rcases List.mem_cons.mp he with rfl | he
        · exact h _ (List.mem_cons_self ..)
        · exact ih ht e he

theorem Tbl.sorted_insert {α : Type} {t : Tbl α} (i : Nat) (v : α) (h : Tbl.sorted t = true) :
    Tbl.sorted (Tbl.insert t i v) = true := by
  induction t with
  | nil => rfl
  | cons e t ih =>
    obtain ⟨k, w⟩ := e
    have hs := (Tbl.sorted_cons k w t).mp h
    unfold Tbl.insert
    split
    · rename_i hlt
      refine (Tbl.sorted_cons ..).mpr ⟨?_, h⟩
      intro e he
      rcases List.mem_cons.mp he with rfl | he
      · exact hlt
      · exact Nat.lt_trans hlt (hs.1 e he)
    · split
      · rename_i heq
        subst heq
        exact (Tbl.sorted_cons ..).mpr hs
      · rename_i h1 h2
        exact (Tbl.sorted_cons ..).mpr ⟨Tbl.above_insert v (by omega) hs.1, ih hs.2⟩

theorem Tbl.mem_erase {α : Type} {t : Tbl α} {i : Nat} {e : Nat × α} (h : e ∈ Tbl.erase t i) : e ∈ t := by
  induction t with
  | nil => exact h
  | cons a t ih =>
    obtain ⟨k, v⟩ := a
    by_cases hk : k = i
    · exact List.mem_cons_of_mem _ (by simpa [Tbl.erase, hk] using h)
    · simp only [Tbl.erase, hk, if_false] at h
      rcases List.mem_cons.mp h with rfl | h
      · exact List.mem_cons_self ..
      · exact List.mem_cons_of_mem _ (ih h)

theorem Tbl.mem_insert {α : Type} {t : Tbl α} {i : Nat} {v : α} {e : Nat × α} (h : e ∈ Tbl.insert t i v) :
    e = (i, v) ∨ e ∈ t := by
  induction t with
  | nil => simp [Tbl.insert] at h; exact .inl h
  | cons a t ih =>
    obtain ⟨k, w⟩ := a
    unfold Tbl.insert at h
    split at h
    · rcases List.mem_cons.mp h with rfl | h
      · exact .inl rfl
      · exact .inr h
    · split at h
      · rcases List.mem_cons.mp h with rfl | h
        · exact .inl rfl
        · exact .inr (List.mem_cons_of_mem _ h)
      · rcases List.mem_cons.mp h with rfl | h
        · exact .inr (List.mem_cons_self ..)
        · exact (ih h).imp id (List.mem_cons_of_mem _)

/-- A write keeps the canonical form. -/
theorem Tbl.set_wf {α : Type} [DecidableEq α] {t : Tbl α} {d : α} (i : Nat) (v : α) (h : Tbl.wf t d = true) :
    Tbl.wf (Tbl.set t i v d) d = true := by
  simp only [Tbl.wf, Bool.and_eq_true, List.all_eq_true, decide_eq_true_eq] at h ⊢
  unfold Tbl.set
  by_cases hv : v = d
  · simp only [hv, if_true]
    exact ⟨Tbl.sorted_erase i h.1, fun e he => h.2 e (Tbl.mem_erase he)⟩
  · simp only [hv, if_false]
    refine ⟨Tbl.sorted_insert i v h.1, fun e he => ?_⟩
    rcases Tbl.mem_insert he with rfl | he
    · exact hv
    · exact h.2 e he

theorem Tbl.sorted_filter {α : Type} {t : Tbl α} (p : Nat × α → Bool) (h : Tbl.sorted t = true) :
    Tbl.sorted (t.filter p) = true := by
  induction t with
  | nil => rfl
  | cons e t ih =>
    obtain ⟨k, v⟩ := e
    have hs := (Tbl.sorted_cons k v t).mp h
    by_cases hp : p (k, v)
    · simp only [List.filter_cons, hp, if_true]
      exact (Tbl.sorted_cons ..).mpr ⟨fun e he => hs.1 e (List.mem_filter.mp he).1, ih hs.2⟩
    · simpa [List.filter_cons, hp] using ih hs.2

/-- Removing entries keeps the canonical form. -/
theorem Tbl.filter_wf {α : Type} [DecidableEq α] {t : Tbl α} {d : α} (p : Nat × α → Bool) (h : Tbl.wf t d = true) :
    Tbl.wf (t.filter p) d = true := by
  simp only [Tbl.wf, Bool.and_eq_true, List.all_eq_true, decide_eq_true_eq] at h ⊢
  exact ⟨Tbl.sorted_filter p h.1, fun e he => h.2 e (List.mem_filter.mp he).1⟩

/-! ### Byte memory -/

theorem Memory.write_wf {m : Memory} (a : Nat) (v : Byte) (h : m.wf = true) : (Memory.write m a v).wf = true := Tbl.set_wf a v h

theorem Memory.writeN_wf {m : Memory} (a : Nat) (l : Bytes) (h : m.wf = true) : (Memory.writeN m a l).wf = true := by
  induction l generalizing m a with
  | nil => exact h
  | cons b l ih => exact ih (a + 1) (Memory.write_wf a b h)

theorem Memory.clear_wf {m : Memory} (a n : Nat) (h : m.wf = true) : (Memory.clear m a n).wf = true := Tbl.filter_wf _ h

theorem Memory.wf_sorted {m : Memory} (h : m.wf = true) : Tbl.sorted m = true := by
  simp only [Memory.wf, Tbl.wf, Bool.and_eq_true] at h
  exact h.1

theorem Memory.read_write {m : Memory} (a b : Nat) (v : Byte) (h : m.wf = true) :
    (Memory.write m a v).read b = if a = b then v else m.read b := Tbl.get_set m a b v _ (Memory.wf_sorted h)

/-- Bytes outside a written range read as before. -/
theorem Memory.read_writeN_out (m : Memory) (a b : Nat) (l : Bytes) (h : b < a ∨ a + l.length ≤ b) :
    (Memory.writeN m a l).read b = m.read b := by
  induction l generalizing m a with
  | nil => rfl
  | cons x l ih =>
    simp only [List.length_cons] at h
    have hne : a ≠ b := by omega
    rw [Memory.writeN, ih _ _ (by omega)]
    exact Tbl.get_set_ne m x _ hne

/-- Bytes inside a written range read as written. -/
theorem Memory.read_writeN_in {m : Memory} (a : Nat) (l : Bytes) (i : Nat) (h : i < l.length) (hm : m.wf = true) :
    (Memory.writeN m a l).read (a + i) = l[i] := by
  induction l generalizing m a i with
  | nil => exact absurd h (by simp)
  | cons x l ih =>
    rw [Memory.writeN]
    cases i with
    | zero =>
      rw [Memory.read_writeN_out _ _ _ _ (by omega)]
      simp [Memory.read_write, hm]
    | succ i =>
      have := ih (a + 1) i (by simpa using h) (Memory.write_wf a x hm)
      rw [show a + (i + 1) = a + 1 + i by omega, this]
      rfl

end Sys2Proof.Machine
end

