-- ==== Sys2Proof/Laws/State.lean ====
section
/-! SUPPORT. What each named update of State writes and leaves: one lemma per field of State, and reading back what a table
of State holds after a write of it. -/

namespace Sys2Proof.Machine

/-! ### Fields that an update leaves -/

@[simp] theorem setSlot_power (n : Nat) (x : Slot) (s : State) : (setSlot n x s).power = s.power := rfl
@[simp] theorem setSlot_boot (n : Nat) (x : Slot) (s : State) : (setSlot n x s).boot = s.boot := rfl
@[simp] theorem setSlot_host (n : Nat) (x : Slot) (s : State) : (setSlot n x s).host = s.host := rfl
@[simp] theorem setSlot_ctl (n : Nat) (x : Slot) (s : State) : (setSlot n x s).ctl = s.ctl := rfl
@[simp] theorem setSlot_sets (n : Nat) (x : Slot) (s : State) : (setSlot n x s).sets = s.sets := rfl
@[simp] theorem setSlot_parse (n : Nat) (x : Slot) (s : State) : (setSlot n x s).parse = s.parse := rfl
@[simp] theorem setSlot_vat (n : Nat) (x : Slot) (s : State) : (setSlot n x s).vat = s.vat := rfl
@[simp] theorem setSlot_flow (n : Nat) (x : Slot) (s : State) : (setSlot n x s).flow = s.flow := rfl
@[simp] theorem setSlot_time (n : Nat) (x : Slot) (s : State) : (setSlot n x s).time = s.time := rfl
@[simp] theorem setSlot_edge (n : Nat) (x : Slot) (s : State) : (setSlot n x s).edge = s.edge := rfl
@[simp] theorem setSlot_ports (n : Nat) (x : Slot) (s : State) : (setSlot n x s).ports = s.ports := rfl
@[simp] theorem setSlot_svc (n : Nat) (x : Slot) (s : State) : (setSlot n x s).svc = s.svc := rfl
@[simp] theorem setSlot_press (n : Nat) (x : Slot) (s : State) : (setSlot n x s).press = s.press := rfl
@[simp] theorem setSlot_gw (n : Nat) (x : Slot) (s : State) : (setSlot n x s).gw = s.gw := rfl
@[simp] theorem setSlot_pair (n : Nat) (x : Slot) (s : State) : (setSlot n x s).pair = s.pair := rfl
@[simp] theorem setSlot_sleep (n : Nat) (x : Slot) (s : State) : (setSlot n x s).sleep = s.sleep := rfl
@[simp] theorem setSlot_test (n : Nat) (x : Slot) (s : State) : (setSlot n x s).test = s.test := rfl
@[simp] theorem setSlot_alarms (n : Nat) (x : Slot) (s : State) : (setSlot n x s).alarms = s.alarms := rfl
@[simp] theorem setSlot_otp (n : Nat) (x : Slot) (s : State) : (setSlot n x s).otp = s.otp := rfl
@[simp] theorem setSlot_flash (n : Nat) (x : Slot) (s : State) : (setSlot n x s).flash = s.flash := rfl
@[simp] theorem setSlot_upd (n : Nat) (x : Slot) (s : State) : (setSlot n x s).upd = s.upd := rfl
@[simp] theorem setSlot_out (n : Nat) (x : Slot) (s : State) : (setSlot n x s).out = s.out := rfl
@[simp] theorem setSlot_fresh (n : Nat) (x : Slot) (s : State) : (setSlot n x s).fresh = s.fresh := rfl
@[simp] theorem setSlot_pending (n : Nat) (x : Slot) (s : State) : (setSlot n x s).pending = s.pending := rfl

@[simp] theorem setMacsec_power (p : Nat) (x : Macsec) (s : State) : (setMacsec p x s).power = s.power := rfl
@[simp] theorem setMacsec_boot (p : Nat) (x : Macsec) (s : State) : (setMacsec p x s).boot = s.boot := rfl
@[simp] theorem setMacsec_host (p : Nat) (x : Macsec) (s : State) : (setMacsec p x s).host = s.host := rfl
@[simp] theorem setMacsec_ctl (p : Nat) (x : Macsec) (s : State) : (setMacsec p x s).ctl = s.ctl := rfl
@[simp] theorem setMacsec_sets (p : Nat) (x : Macsec) (s : State) : (setMacsec p x s).sets = s.sets := rfl
@[simp] theorem setMacsec_parse (p : Nat) (x : Macsec) (s : State) : (setMacsec p x s).parse = s.parse := rfl
@[simp] theorem setMacsec_vat (p : Nat) (x : Macsec) (s : State) : (setMacsec p x s).vat = s.vat := rfl
@[simp] theorem setMacsec_flow (p : Nat) (x : Macsec) (s : State) : (setMacsec p x s).flow = s.flow := rfl
@[simp] theorem setMacsec_time (p : Nat) (x : Macsec) (s : State) : (setMacsec p x s).time = s.time := rfl
@[simp] theorem setMacsec_edge (p : Nat) (x : Macsec) (s : State) : (setMacsec p x s).edge = s.edge := rfl
@[simp] theorem setMacsec_svc (p : Nat) (x : Macsec) (s : State) : (setMacsec p x s).svc = s.svc := rfl
@[simp] theorem setMacsec_cellar (p : Nat) (x : Macsec) (s : State) : (setMacsec p x s).cellar = s.cellar := rfl
@[simp] theorem setMacsec_press (p : Nat) (x : Macsec) (s : State) : (setMacsec p x s).press = s.press := rfl
@[simp] theorem setMacsec_gw (p : Nat) (x : Macsec) (s : State) : (setMacsec p x s).gw = s.gw := rfl
@[simp] theorem setMacsec_pair (p : Nat) (x : Macsec) (s : State) : (setMacsec p x s).pair = s.pair := rfl
@[simp] theorem setMacsec_sleep (p : Nat) (x : Macsec) (s : State) : (setMacsec p x s).sleep = s.sleep := rfl
@[simp] theorem setMacsec_test (p : Nat) (x : Macsec) (s : State) : (setMacsec p x s).test = s.test := rfl
@[simp] theorem setMacsec_alarms (p : Nat) (x : Macsec) (s : State) : (setMacsec p x s).alarms = s.alarms := rfl
@[simp] theorem setMacsec_otp (p : Nat) (x : Macsec) (s : State) : (setMacsec p x s).otp = s.otp := rfl
@[simp] theorem setMacsec_flash (p : Nat) (x : Macsec) (s : State) : (setMacsec p x s).flash = s.flash := rfl
@[simp] theorem setMacsec_upd (p : Nat) (x : Macsec) (s : State) : (setMacsec p x s).upd = s.upd := rfl
@[simp] theorem setMacsec_out (p : Nat) (x : Macsec) (s : State) : (setMacsec p x s).out = s.out := rfl
@[simp] theorem setMacsec_fresh (p : Nat) (x : Macsec) (s : State) : (setMacsec p x s).fresh = s.fresh := rfl
@[simp] theorem setMacsec_pending (p : Nat) (x : Macsec) (s : State) : (setMacsec p x s).pending = s.pending := rfl

@[simp] theorem setEdgeCl_power (m : Nat) (x : EdgeCluster) (s : State) : (setEdgeCl m x s).power = s.power := rfl
@[simp] theorem setEdgeCl_boot (m : Nat) (x : EdgeCluster) (s : State) : (setEdgeCl m x s).boot = s.boot := rfl
@[simp] theorem setEdgeCl_host (m : Nat) (x : EdgeCluster) (s : State) : (setEdgeCl m x s).host = s.host := rfl
@[simp] theorem setEdgeCl_ctl (m : Nat) (x : EdgeCluster) (s : State) : (setEdgeCl m x s).ctl = s.ctl := rfl
@[simp] theorem setEdgeCl_sets (m : Nat) (x : EdgeCluster) (s : State) : (setEdgeCl m x s).sets = s.sets := rfl
@[simp] theorem setEdgeCl_parse (m : Nat) (x : EdgeCluster) (s : State) : (setEdgeCl m x s).parse = s.parse := rfl
@[simp] theorem setEdgeCl_vat (m : Nat) (x : EdgeCluster) (s : State) : (setEdgeCl m x s).vat = s.vat := rfl
@[simp] theorem setEdgeCl_flow (m : Nat) (x : EdgeCluster) (s : State) : (setEdgeCl m x s).flow = s.flow := rfl
@[simp] theorem setEdgeCl_time (m : Nat) (x : EdgeCluster) (s : State) : (setEdgeCl m x s).time = s.time := rfl
@[simp] theorem setEdgeCl_ports (m : Nat) (x : EdgeCluster) (s : State) : (setEdgeCl m x s).ports = s.ports := rfl
@[simp] theorem setEdgeCl_svc (m : Nat) (x : EdgeCluster) (s : State) : (setEdgeCl m x s).svc = s.svc := rfl
@[simp] theorem setEdgeCl_cellar (m : Nat) (x : EdgeCluster) (s : State) : (setEdgeCl m x s).cellar = s.cellar := rfl
@[simp] theorem setEdgeCl_press (m : Nat) (x : EdgeCluster) (s : State) : (setEdgeCl m x s).press = s.press := rfl
@[simp] theorem setEdgeCl_gw (m : Nat) (x : EdgeCluster) (s : State) : (setEdgeCl m x s).gw = s.gw := rfl
@[simp] theorem setEdgeCl_pair (m : Nat) (x : EdgeCluster) (s : State) : (setEdgeCl m x s).pair = s.pair := rfl
@[simp] theorem setEdgeCl_sleep (m : Nat) (x : EdgeCluster) (s : State) : (setEdgeCl m x s).sleep = s.sleep := rfl
@[simp] theorem setEdgeCl_test (m : Nat) (x : EdgeCluster) (s : State) : (setEdgeCl m x s).test = s.test := rfl
@[simp] theorem setEdgeCl_alarms (m : Nat) (x : EdgeCluster) (s : State) : (setEdgeCl m x s).alarms = s.alarms := rfl
@[simp] theorem setEdgeCl_otp (m : Nat) (x : EdgeCluster) (s : State) : (setEdgeCl m x s).otp = s.otp := rfl
@[simp] theorem setEdgeCl_flash (m : Nat) (x : EdgeCluster) (s : State) : (setEdgeCl m x s).flash = s.flash := rfl
@[simp] theorem setEdgeCl_upd (m : Nat) (x : EdgeCluster) (s : State) : (setEdgeCl m x s).upd = s.upd := rfl
@[simp] theorem setEdgeCl_out (m : Nat) (x : EdgeCluster) (s : State) : (setEdgeCl m x s).out = s.out := rfl
@[simp] theorem setEdgeCl_fresh (m : Nat) (x : EdgeCluster) (s : State) : (setEdgeCl m x s).fresh = s.fresh := rfl
@[simp] theorem setEdgeCl_pending (m : Nat) (x : EdgeCluster) (s : State) : (setEdgeCl m x s).pending = s.pending := rfl

@[simp] theorem setFrCtl_power (f : Nat) (x : FrCtl) (s : State) : (setFrCtl f x s).power = s.power := rfl
@[simp] theorem setFrCtl_boot (f : Nat) (x : FrCtl) (s : State) : (setFrCtl f x s).boot = s.boot := rfl
@[simp] theorem setFrCtl_host (f : Nat) (x : FrCtl) (s : State) : (setFrCtl f x s).host = s.host := rfl
@[simp] theorem setFrCtl_ctl (f : Nat) (x : FrCtl) (s : State) : (setFrCtl f x s).ctl = s.ctl := rfl
@[simp] theorem setFrCtl_sets (f : Nat) (x : FrCtl) (s : State) : (setFrCtl f x s).sets = s.sets := rfl
@[simp] theorem setFrCtl_parse (f : Nat) (x : FrCtl) (s : State) : (setFrCtl f x s).parse = s.parse := rfl
@[simp] theorem setFrCtl_vat (f : Nat) (x : FrCtl) (s : State) : (setFrCtl f x s).vat = s.vat := rfl
@[simp] theorem setFrCtl_flow (f : Nat) (x : FrCtl) (s : State) : (setFrCtl f x s).flow = s.flow := rfl
@[simp] theorem setFrCtl_time (f : Nat) (x : FrCtl) (s : State) : (setFrCtl f x s).time = s.time := rfl
@[simp] theorem setFrCtl_ports (f : Nat) (x : FrCtl) (s : State) : (setFrCtl f x s).ports = s.ports := rfl
@[simp] theorem setFrCtl_svc (f : Nat) (x : FrCtl) (s : State) : (setFrCtl f x s).svc = s.svc := rfl
@[simp] theorem setFrCtl_cellar (f : Nat) (x : FrCtl) (s : State) : (setFrCtl f x s).cellar = s.cellar := rfl
@[simp] theorem setFrCtl_press (f : Nat) (x : FrCtl) (s : State) : (setFrCtl f x s).press = s.press := rfl
@[simp] theorem setFrCtl_gw (f : Nat) (x : FrCtl) (s : State) : (setFrCtl f x s).gw = s.gw := rfl
@[simp] theorem setFrCtl_pair (f : Nat) (x : FrCtl) (s : State) : (setFrCtl f x s).pair = s.pair := rfl
@[simp] theorem setFrCtl_sleep (f : Nat) (x : FrCtl) (s : State) : (setFrCtl f x s).sleep = s.sleep := rfl
@[simp] theorem setFrCtl_test (f : Nat) (x : FrCtl) (s : State) : (setFrCtl f x s).test = s.test := rfl
@[simp] theorem setFrCtl_alarms (f : Nat) (x : FrCtl) (s : State) : (setFrCtl f x s).alarms = s.alarms := rfl
@[simp] theorem setFrCtl_otp (f : Nat) (x : FrCtl) (s : State) : (setFrCtl f x s).otp = s.otp := rfl
@[simp] theorem setFrCtl_flash (f : Nat) (x : FrCtl) (s : State) : (setFrCtl f x s).flash = s.flash := rfl
@[simp] theorem setFrCtl_upd (f : Nat) (x : FrCtl) (s : State) : (setFrCtl f x s).upd = s.upd := rfl
@[simp] theorem setFrCtl_out (f : Nat) (x : FrCtl) (s : State) : (setFrCtl f x s).out = s.out := rfl
@[simp] theorem setFrCtl_fresh (f : Nat) (x : FrCtl) (s : State) : (setFrCtl f x s).fresh = s.fresh := rfl
@[simp] theorem setFrCtl_pending (f : Nat) (x : FrCtl) (s : State) : (setFrCtl f x s).pending = s.pending := rfl

@[simp] theorem setFv_power (i : Nat) (x : Nat) (s : State) : (setFv i x s).power = s.power := rfl
@[simp] theorem setFv_boot (i : Nat) (x : Nat) (s : State) : (setFv i x s).boot = s.boot := rfl
@[simp] theorem setFv_host (i : Nat) (x : Nat) (s : State) : (setFv i x s).host = s.host := rfl
@[simp] theorem setFv_ctl (i : Nat) (x : Nat) (s : State) : (setFv i x s).ctl = s.ctl := rfl
@[simp] theorem setFv_sets (i : Nat) (x : Nat) (s : State) : (setFv i x s).sets = s.sets := rfl
@[simp] theorem setFv_parse (i : Nat) (x : Nat) (s : State) : (setFv i x s).parse = s.parse := rfl
@[simp] theorem setFv_vat (i : Nat) (x : Nat) (s : State) : (setFv i x s).vat = s.vat := rfl
@[simp] theorem setFv_flow (i : Nat) (x : Nat) (s : State) : (setFv i x s).flow = s.flow := rfl
@[simp] theorem setFv_time (i : Nat) (x : Nat) (s : State) : (setFv i x s).time = s.time := rfl
@[simp] theorem setFv_edge (i : Nat) (x : Nat) (s : State) : (setFv i x s).edge = s.edge := rfl
@[simp] theorem setFv_ports (i : Nat) (x : Nat) (s : State) : (setFv i x s).ports = s.ports := rfl
@[simp] theorem setFv_svc (i : Nat) (x : Nat) (s : State) : (setFv i x s).svc = s.svc := rfl
@[simp] theorem setFv_cellar (i : Nat) (x : Nat) (s : State) : (setFv i x s).cellar = s.cellar := rfl
@[simp] theorem setFv_press (i : Nat) (x : Nat) (s : State) : (setFv i x s).press = s.press := rfl
@[simp] theorem setFv_pair (i : Nat) (x : Nat) (s : State) : (setFv i x s).pair = s.pair := rfl
@[simp] theorem setFv_sleep (i : Nat) (x : Nat) (s : State) : (setFv i x s).sleep = s.sleep := rfl
@[simp] theorem setFv_test (i : Nat) (x : Nat) (s : State) : (setFv i x s).test = s.test := rfl
@[simp] theorem setFv_alarms (i : Nat) (x : Nat) (s : State) : (setFv i x s).alarms = s.alarms := rfl
@[simp] theorem setFv_otp (i : Nat) (x : Nat) (s : State) : (setFv i x s).otp = s.otp := rfl
@[simp] theorem setFv_flash (i : Nat) (x : Nat) (s : State) : (setFv i x s).flash = s.flash := rfl
@[simp] theorem setFv_upd (i : Nat) (x : Nat) (s : State) : (setFv i x s).upd = s.upd := rfl
@[simp] theorem setFv_out (i : Nat) (x : Nat) (s : State) : (setFv i x s).out = s.out := rfl
@[simp] theorem setFv_fresh (i : Nat) (x : Nat) (s : State) : (setFv i x s).fresh = s.fresh := rfl
@[simp] theorem setFv_pending (i : Nat) (x : Nat) (s : State) : (setFv i x s).pending = s.pending := rfl

@[simp] theorem setGwSeq_power (t : Nat) (x : GwSeq) (s : State) : (setGwSeq t x s).power = s.power := rfl
@[simp] theorem setGwSeq_boot (t : Nat) (x : GwSeq) (s : State) : (setGwSeq t x s).boot = s.boot := rfl
@[simp] theorem setGwSeq_host (t : Nat) (x : GwSeq) (s : State) : (setGwSeq t x s).host = s.host := rfl
@[simp] theorem setGwSeq_ctl (t : Nat) (x : GwSeq) (s : State) : (setGwSeq t x s).ctl = s.ctl := rfl
@[simp] theorem setGwSeq_sets (t : Nat) (x : GwSeq) (s : State) : (setGwSeq t x s).sets = s.sets := rfl
@[simp] theorem setGwSeq_parse (t : Nat) (x : GwSeq) (s : State) : (setGwSeq t x s).parse = s.parse := rfl
@[simp] theorem setGwSeq_vat (t : Nat) (x : GwSeq) (s : State) : (setGwSeq t x s).vat = s.vat := rfl
@[simp] theorem setGwSeq_flow (t : Nat) (x : GwSeq) (s : State) : (setGwSeq t x s).flow = s.flow := rfl
@[simp] theorem setGwSeq_time (t : Nat) (x : GwSeq) (s : State) : (setGwSeq t x s).time = s.time := rfl
@[simp] theorem setGwSeq_edge (t : Nat) (x : GwSeq) (s : State) : (setGwSeq t x s).edge = s.edge := rfl
@[simp] theorem setGwSeq_ports (t : Nat) (x : GwSeq) (s : State) : (setGwSeq t x s).ports = s.ports := rfl
@[simp] theorem setGwSeq_svc (t : Nat) (x : GwSeq) (s : State) : (setGwSeq t x s).svc = s.svc := rfl
@[simp] theorem setGwSeq_cellar (t : Nat) (x : GwSeq) (s : State) : (setGwSeq t x s).cellar = s.cellar := rfl
@[simp] theorem setGwSeq_press (t : Nat) (x : GwSeq) (s : State) : (setGwSeq t x s).press = s.press := rfl
@[simp] theorem setGwSeq_pair (t : Nat) (x : GwSeq) (s : State) : (setGwSeq t x s).pair = s.pair := rfl
@[simp] theorem setGwSeq_sleep (t : Nat) (x : GwSeq) (s : State) : (setGwSeq t x s).sleep = s.sleep := rfl
@[simp] theorem setGwSeq_test (t : Nat) (x : GwSeq) (s : State) : (setGwSeq t x s).test = s.test := rfl
@[simp] theorem setGwSeq_alarms (t : Nat) (x : GwSeq) (s : State) : (setGwSeq t x s).alarms = s.alarms := rfl
@[simp] theorem setGwSeq_otp (t : Nat) (x : GwSeq) (s : State) : (setGwSeq t x s).otp = s.otp := rfl
@[simp] theorem setGwSeq_flash (t : Nat) (x : GwSeq) (s : State) : (setGwSeq t x s).flash = s.flash := rfl
@[simp] theorem setGwSeq_upd (t : Nat) (x : GwSeq) (s : State) : (setGwSeq t x s).upd = s.upd := rfl
@[simp] theorem setGwSeq_out (t : Nat) (x : GwSeq) (s : State) : (setGwSeq t x s).out = s.out := rfl
@[simp] theorem setGwSeq_fresh (t : Nat) (x : GwSeq) (s : State) : (setGwSeq t x s).fresh = s.fresh := rfl
@[simp] theorem setGwSeq_pending (t : Nat) (x : GwSeq) (s : State) : (setGwSeq t x s).pending = s.pending := rfl

@[simp] theorem setGptpPort_power (p : Nat) (x : GptpPort) (s : State) : (setGptpPort p x s).power = s.power := rfl
@[simp] theorem setGptpPort_boot (p : Nat) (x : GptpPort) (s : State) : (setGptpPort p x s).boot = s.boot := rfl
@[simp] theorem setGptpPort_host (p : Nat) (x : GptpPort) (s : State) : (setGptpPort p x s).host = s.host := rfl
@[simp] theorem setGptpPort_ctl (p : Nat) (x : GptpPort) (s : State) : (setGptpPort p x s).ctl = s.ctl := rfl
@[simp] theorem setGptpPort_sets (p : Nat) (x : GptpPort) (s : State) : (setGptpPort p x s).sets = s.sets := rfl
@[simp] theorem setGptpPort_parse (p : Nat) (x : GptpPort) (s : State) : (setGptpPort p x s).parse = s.parse := rfl
@[simp] theorem setGptpPort_vat (p : Nat) (x : GptpPort) (s : State) : (setGptpPort p x s).vat = s.vat := rfl
@[simp] theorem setGptpPort_flow (p : Nat) (x : GptpPort) (s : State) : (setGptpPort p x s).flow = s.flow := rfl
@[simp] theorem setGptpPort_edge (p : Nat) (x : GptpPort) (s : State) : (setGptpPort p x s).edge = s.edge := rfl
@[simp] theorem setGptpPort_ports (p : Nat) (x : GptpPort) (s : State) : (setGptpPort p x s).ports = s.ports := rfl
@[simp] theorem setGptpPort_svc (p : Nat) (x : GptpPort) (s : State) : (setGptpPort p x s).svc = s.svc := rfl
@[simp] theorem setGptpPort_cellar (p : Nat) (x : GptpPort) (s : State) : (setGptpPort p x s).cellar = s.cellar := rfl
@[simp] theorem setGptpPort_press (p : Nat) (x : GptpPort) (s : State) : (setGptpPort p x s).press = s.press := rfl
@[simp] theorem setGptpPort_gw (p : Nat) (x : GptpPort) (s : State) : (setGptpPort p x s).gw = s.gw := rfl
@[simp] theorem setGptpPort_pair (p : Nat) (x : GptpPort) (s : State) : (setGptpPort p x s).pair = s.pair := rfl
@[simp] theorem setGptpPort_sleep (p : Nat) (x : GptpPort) (s : State) : (setGptpPort p x s).sleep = s.sleep := rfl
@[simp] theorem setGptpPort_test (p : Nat) (x : GptpPort) (s : State) : (setGptpPort p x s).test = s.test := rfl
@[simp] theorem setGptpPort_alarms (p : Nat) (x : GptpPort) (s : State) : (setGptpPort p x s).alarms = s.alarms := rfl
@[simp] theorem setGptpPort_otp (p : Nat) (x : GptpPort) (s : State) : (setGptpPort p x s).otp = s.otp := rfl
@[simp] theorem setGptpPort_flash (p : Nat) (x : GptpPort) (s : State) : (setGptpPort p x s).flash = s.flash := rfl
@[simp] theorem setGptpPort_upd (p : Nat) (x : GptpPort) (s : State) : (setGptpPort p x s).upd = s.upd := rfl
@[simp] theorem setGptpPort_out (p : Nat) (x : GptpPort) (s : State) : (setGptpPort p x s).out = s.out := rfl
@[simp] theorem setGptpPort_fresh (p : Nat) (x : GptpPort) (s : State) : (setGptpPort p x s).fresh = s.fresh := rfl
@[simp] theorem setGptpPort_pending (p : Nat) (x : GptpPort) (s : State) : (setGptpPort p x s).pending = s.pending := rfl

@[simp] theorem setPicker_power (p : Nat) (x : ParseUnit) (s : State) : (setPicker p x s).power = s.power := rfl
@[simp] theorem setPicker_boot (p : Nat) (x : ParseUnit) (s : State) : (setPicker p x s).boot = s.boot := rfl
@[simp] theorem setPicker_host (p : Nat) (x : ParseUnit) (s : State) : (setPicker p x s).host = s.host := rfl
@[simp] theorem setPicker_ctl (p : Nat) (x : ParseUnit) (s : State) : (setPicker p x s).ctl = s.ctl := rfl
@[simp] theorem setPicker_sets (p : Nat) (x : ParseUnit) (s : State) : (setPicker p x s).sets = s.sets := rfl
@[simp] theorem setPicker_vat (p : Nat) (x : ParseUnit) (s : State) : (setPicker p x s).vat = s.vat := rfl
@[simp] theorem setPicker_flow (p : Nat) (x : ParseUnit) (s : State) : (setPicker p x s).flow = s.flow := rfl
@[simp] theorem setPicker_time (p : Nat) (x : ParseUnit) (s : State) : (setPicker p x s).time = s.time := rfl
@[simp] theorem setPicker_edge (p : Nat) (x : ParseUnit) (s : State) : (setPicker p x s).edge = s.edge := rfl
@[simp] theorem setPicker_ports (p : Nat) (x : ParseUnit) (s : State) : (setPicker p x s).ports = s.ports := rfl
@[simp] theorem setPicker_svc (p : Nat) (x : ParseUnit) (s : State) : (setPicker p x s).svc = s.svc := rfl
@[simp] theorem setPicker_cellar (p : Nat) (x : ParseUnit) (s : State) : (setPicker p x s).cellar = s.cellar := rfl
@[simp] theorem setPicker_press (p : Nat) (x : ParseUnit) (s : State) : (setPicker p x s).press = s.press := rfl
@[simp] theorem setPicker_gw (p : Nat) (x : ParseUnit) (s : State) : (setPicker p x s).gw = s.gw := rfl
@[simp] theorem setPicker_pair (p : Nat) (x : ParseUnit) (s : State) : (setPicker p x s).pair = s.pair := rfl
@[simp] theorem setPicker_sleep (p : Nat) (x : ParseUnit) (s : State) : (setPicker p x s).sleep = s.sleep := rfl
@[simp] theorem setPicker_test (p : Nat) (x : ParseUnit) (s : State) : (setPicker p x s).test = s.test := rfl
@[simp] theorem setPicker_alarms (p : Nat) (x : ParseUnit) (s : State) : (setPicker p x s).alarms = s.alarms := rfl
@[simp] theorem setPicker_otp (p : Nat) (x : ParseUnit) (s : State) : (setPicker p x s).otp = s.otp := rfl
@[simp] theorem setPicker_flash (p : Nat) (x : ParseUnit) (s : State) : (setPicker p x s).flash = s.flash := rfl
@[simp] theorem setPicker_upd (p : Nat) (x : ParseUnit) (s : State) : (setPicker p x s).upd = s.upd := rfl
@[simp] theorem setPicker_out (p : Nat) (x : ParseUnit) (s : State) : (setPicker p x s).out = s.out := rfl
@[simp] theorem setPicker_fresh (p : Nat) (x : ParseUnit) (s : State) : (setPicker p x s).fresh = s.fresh := rfl
@[simp] theorem setPicker_pending (p : Nat) (x : ParseUnit) (s : State) : (setPicker p x s).pending = s.pending := rfl

@[simp] theorem setWalker_power (n : Nat) (x : ParseUnit) (s : State) : (setWalker n x s).power = s.power := rfl
@[simp] theorem setWalker_boot (n : Nat) (x : ParseUnit) (s : State) : (setWalker n x s).boot = s.boot := rfl
@[simp] theorem setWalker_host (n : Nat) (x : ParseUnit) (s : State) : (setWalker n x s).host = s.host := rfl
@[simp] theorem setWalker_ctl (n : Nat) (x : ParseUnit) (s : State) : (setWalker n x s).ctl = s.ctl := rfl
@[simp] theorem setWalker_sets (n : Nat) (x : ParseUnit) (s : State) : (setWalker n x s).sets = s.sets := rfl
@[simp] theorem setWalker_vat (n : Nat) (x : ParseUnit) (s : State) : (setWalker n x s).vat = s.vat := rfl
@[simp] theorem setWalker_flow (n : Nat) (x : ParseUnit) (s : State) : (setWalker n x s).flow = s.flow := rfl
@[simp] theorem setWalker_time (n : Nat) (x : ParseUnit) (s : State) : (setWalker n x s).time = s.time := rfl
@[simp] theorem setWalker_edge (n : Nat) (x : ParseUnit) (s : State) : (setWalker n x s).edge = s.edge := rfl
@[simp] theorem setWalker_ports (n : Nat) (x : ParseUnit) (s : State) : (setWalker n x s).ports = s.ports := rfl
@[simp] theorem setWalker_svc (n : Nat) (x : ParseUnit) (s : State) : (setWalker n x s).svc = s.svc := rfl
@[simp] theorem setWalker_cellar (n : Nat) (x : ParseUnit) (s : State) : (setWalker n x s).cellar = s.cellar := rfl
@[simp] theorem setWalker_press (n : Nat) (x : ParseUnit) (s : State) : (setWalker n x s).press = s.press := rfl
@[simp] theorem setWalker_gw (n : Nat) (x : ParseUnit) (s : State) : (setWalker n x s).gw = s.gw := rfl
@[simp] theorem setWalker_pair (n : Nat) (x : ParseUnit) (s : State) : (setWalker n x s).pair = s.pair := rfl
@[simp] theorem setWalker_sleep (n : Nat) (x : ParseUnit) (s : State) : (setWalker n x s).sleep = s.sleep := rfl
@[simp] theorem setWalker_test (n : Nat) (x : ParseUnit) (s : State) : (setWalker n x s).test = s.test := rfl
@[simp] theorem setWalker_alarms (n : Nat) (x : ParseUnit) (s : State) : (setWalker n x s).alarms = s.alarms := rfl
@[simp] theorem setWalker_otp (n : Nat) (x : ParseUnit) (s : State) : (setWalker n x s).otp = s.otp := rfl
@[simp] theorem setWalker_flash (n : Nat) (x : ParseUnit) (s : State) : (setWalker n x s).flash = s.flash := rfl
@[simp] theorem setWalker_upd (n : Nat) (x : ParseUnit) (s : State) : (setWalker n x s).upd = s.upd := rfl
@[simp] theorem setWalker_out (n : Nat) (x : ParseUnit) (s : State) : (setWalker n x s).out = s.out := rfl
@[simp] theorem setWalker_fresh (n : Nat) (x : ParseUnit) (s : State) : (setWalker n x s).fresh = s.fresh := rfl
@[simp] theorem setWalker_pending (n : Nat) (x : ParseUnit) (s : State) : (setWalker n x s).pending = s.pending := rfl

@[simp] theorem setMeter_power (m : Nat) (x : MeterState) (s : State) : (setMeter m x s).power = s.power := rfl
@[simp] theorem setMeter_boot (m : Nat) (x : MeterState) (s : State) : (setMeter m x s).boot = s.boot := rfl
@[simp] theorem setMeter_host (m : Nat) (x : MeterState) (s : State) : (setMeter m x s).host = s.host := rfl
@[simp] theorem setMeter_ctl (m : Nat) (x : MeterState) (s : State) : (setMeter m x s).ctl = s.ctl := rfl
@[simp] theorem setMeter_sets (m : Nat) (x : MeterState) (s : State) : (setMeter m x s).sets = s.sets := rfl
@[simp] theorem setMeter_parse (m : Nat) (x : MeterState) (s : State) : (setMeter m x s).parse = s.parse := rfl
@[simp] theorem setMeter_vat (m : Nat) (x : MeterState) (s : State) : (setMeter m x s).vat = s.vat := rfl
@[simp] theorem setMeter_time (m : Nat) (x : MeterState) (s : State) : (setMeter m x s).time = s.time := rfl
@[simp] theorem setMeter_edge (m : Nat) (x : MeterState) (s : State) : (setMeter m x s).edge = s.edge := rfl
@[simp] theorem setMeter_ports (m : Nat) (x : MeterState) (s : State) : (setMeter m x s).ports = s.ports := rfl
@[simp] theorem setMeter_svc (m : Nat) (x : MeterState) (s : State) : (setMeter m x s).svc = s.svc := rfl
@[simp] theorem setMeter_cellar (m : Nat) (x : MeterState) (s : State) : (setMeter m x s).cellar = s.cellar := rfl
@[simp] theorem setMeter_press (m : Nat) (x : MeterState) (s : State) : (setMeter m x s).press = s.press := rfl
@[simp] theorem setMeter_gw (m : Nat) (x : MeterState) (s : State) : (setMeter m x s).gw = s.gw := rfl
@[simp] theorem setMeter_pair (m : Nat) (x : MeterState) (s : State) : (setMeter m x s).pair = s.pair := rfl
@[simp] theorem setMeter_sleep (m : Nat) (x : MeterState) (s : State) : (setMeter m x s).sleep = s.sleep := rfl
@[simp] theorem setMeter_test (m : Nat) (x : MeterState) (s : State) : (setMeter m x s).test = s.test := rfl
@[simp] theorem setMeter_alarms (m : Nat) (x : MeterState) (s : State) : (setMeter m x s).alarms = s.alarms := rfl
@[simp] theorem setMeter_otp (m : Nat) (x : MeterState) (s : State) : (setMeter m x s).otp = s.otp := rfl
@[simp] theorem setMeter_flash (m : Nat) (x : MeterState) (s : State) : (setMeter m x s).flash = s.flash := rfl
@[simp] theorem setMeter_upd (m : Nat) (x : MeterState) (s : State) : (setMeter m x s).upd = s.upd := rfl
@[simp] theorem setMeter_out (m : Nat) (x : MeterState) (s : State) : (setMeter m x s).out = s.out := rfl
@[simp] theorem setMeter_fresh (m : Nat) (x : MeterState) (s : State) : (setMeter m x s).fresh = s.fresh := rfl
@[simp] theorem setMeter_pending (m : Nat) (x : MeterState) (s : State) : (setMeter m x s).pending = s.pending := rfl

@[simp] theorem setSgate_power (g : Nat) (x : SGateState) (s : State) : (setSgate g x s).power = s.power := rfl
@[simp] theorem setSgate_boot (g : Nat) (x : SGateState) (s : State) : (setSgate g x s).boot = s.boot := rfl
@[simp] theorem setSgate_host (g : Nat) (x : SGateState) (s : State) : (setSgate g x s).host = s.host := rfl
@[simp] theorem setSgate_ctl (g : Nat) (x : SGateState) (s : State) : (setSgate g x s).ctl = s.ctl := rfl
@[simp] theorem setSgate_sets (g : Nat) (x : SGateState) (s : State) : (setSgate g x s).sets = s.sets := rfl
@[simp] theorem setSgate_parse (g : Nat) (x : SGateState) (s : State) : (setSgate g x s).parse = s.parse := rfl
@[simp] theorem setSgate_vat (g : Nat) (x : SGateState) (s : State) : (setSgate g x s).vat = s.vat := rfl
@[simp] theorem setSgate_time (g : Nat) (x : SGateState) (s : State) : (setSgate g x s).time = s.time := rfl
@[simp] theorem setSgate_edge (g : Nat) (x : SGateState) (s : State) : (setSgate g x s).edge = s.edge := rfl
@[simp] theorem setSgate_ports (g : Nat) (x : SGateState) (s : State) : (setSgate g x s).ports = s.ports := rfl
@[simp] theorem setSgate_svc (g : Nat) (x : SGateState) (s : State) : (setSgate g x s).svc = s.svc := rfl
@[simp] theorem setSgate_cellar (g : Nat) (x : SGateState) (s : State) : (setSgate g x s).cellar = s.cellar := rfl
@[simp] theorem setSgate_press (g : Nat) (x : SGateState) (s : State) : (setSgate g x s).press = s.press := rfl
@[simp] theorem setSgate_gw (g : Nat) (x : SGateState) (s : State) : (setSgate g x s).gw = s.gw := rfl
@[simp] theorem setSgate_pair (g : Nat) (x : SGateState) (s : State) : (setSgate g x s).pair = s.pair := rfl
@[simp] theorem setSgate_sleep (g : Nat) (x : SGateState) (s : State) : (setSgate g x s).sleep = s.sleep := rfl
@[simp] theorem setSgate_test (g : Nat) (x : SGateState) (s : State) : (setSgate g x s).test = s.test := rfl
@[simp] theorem setSgate_alarms (g : Nat) (x : SGateState) (s : State) : (setSgate g x s).alarms = s.alarms := rfl
@[simp] theorem setSgate_otp (g : Nat) (x : SGateState) (s : State) : (setSgate g x s).otp = s.otp := rfl
@[simp] theorem setSgate_flash (g : Nat) (x : SGateState) (s : State) : (setSgate g x s).flash = s.flash := rfl
@[simp] theorem setSgate_upd (g : Nat) (x : SGateState) (s : State) : (setSgate g x s).upd = s.upd := rfl
@[simp] theorem setSgate_out (g : Nat) (x : SGateState) (s : State) : (setSgate g x s).out = s.out := rfl
@[simp] theorem setSgate_fresh (g : Nat) (x : SGateState) (s : State) : (setSgate g x s).fresh = s.fresh := rfl
@[simp] theorem setSgate_pending (g : Nat) (x : SGateState) (s : State) : (setSgate g x s).pending = s.pending := rfl

@[simp] theorem setFrer_power (n : Nat) (x : FrerState) (s : State) : (setFrer n x s).power = s.power := rfl
@[simp] theorem setFrer_boot (n : Nat) (x : FrerState) (s : State) : (setFrer n x s).boot = s.boot := rfl
@[simp] theorem setFrer_host (n : Nat) (x : FrerState) (s : State) : (setFrer n x s).host = s.host := rfl
@[simp] theorem setFrer_ctl (n : Nat) (x : FrerState) (s : State) : (setFrer n x s).ctl = s.ctl := rfl
@[simp] theorem setFrer_sets (n : Nat) (x : FrerState) (s : State) : (setFrer n x s).sets = s.sets := rfl
@[simp] theorem setFrer_parse (n : Nat) (x : FrerState) (s : State) : (setFrer n x s).parse = s.parse := rfl
@[simp] theorem setFrer_vat (n : Nat) (x : FrerState) (s : State) : (setFrer n x s).vat = s.vat := rfl
@[simp] theorem setFrer_flow (n : Nat) (x : FrerState) (s : State) : (setFrer n x s).flow = s.flow := rfl
@[simp] theorem setFrer_time (n : Nat) (x : FrerState) (s : State) : (setFrer n x s).time = s.time := rfl
@[simp] theorem setFrer_edge (n : Nat) (x : FrerState) (s : State) : (setFrer n x s).edge = s.edge := rfl
@[simp] theorem setFrer_ports (n : Nat) (x : FrerState) (s : State) : (setFrer n x s).ports = s.ports := rfl
@[simp] theorem setFrer_svc (n : Nat) (x : FrerState) (s : State) : (setFrer n x s).svc = s.svc := rfl
@[simp] theorem setFrer_cellar (n : Nat) (x : FrerState) (s : State) : (setFrer n x s).cellar = s.cellar := rfl
@[simp] theorem setFrer_press (n : Nat) (x : FrerState) (s : State) : (setFrer n x s).press = s.press := rfl
@[simp] theorem setFrer_gw (n : Nat) (x : FrerState) (s : State) : (setFrer n x s).gw = s.gw := rfl
@[simp] theorem setFrer_sleep (n : Nat) (x : FrerState) (s : State) : (setFrer n x s).sleep = s.sleep := rfl
@[simp] theorem setFrer_test (n : Nat) (x : FrerState) (s : State) : (setFrer n x s).test = s.test := rfl
@[simp] theorem setFrer_alarms (n : Nat) (x : FrerState) (s : State) : (setFrer n x s).alarms = s.alarms := rfl
@[simp] theorem setFrer_otp (n : Nat) (x : FrerState) (s : State) : (setFrer n x s).otp = s.otp := rfl
@[simp] theorem setFrer_flash (n : Nat) (x : FrerState) (s : State) : (setFrer n x s).flash = s.flash := rfl
@[simp] theorem setFrer_upd (n : Nat) (x : FrerState) (s : State) : (setFrer n x s).upd = s.upd := rfl
@[simp] theorem setFrer_out (n : Nat) (x : FrerState) (s : State) : (setFrer n x s).out = s.out := rfl
@[simp] theorem setFrer_fresh (n : Nat) (x : FrerState) (s : State) : (setFrer n x s).fresh = s.fresh := rfl
@[simp] theorem setFrer_pending (n : Nat) (x : FrerState) (s : State) : (setFrer n x s).pending = s.pending := rfl

@[simp] theorem setLane_power (n : Nat) (x : Lane) (s : State) : (setLane n x s).power = s.power := rfl
@[simp] theorem setLane_boot (n : Nat) (x : Lane) (s : State) : (setLane n x s).boot = s.boot := rfl
@[simp] theorem setLane_host (n : Nat) (x : Lane) (s : State) : (setLane n x s).host = s.host := rfl
@[simp] theorem setLane_ctl (n : Nat) (x : Lane) (s : State) : (setLane n x s).ctl = s.ctl := rfl
@[simp] theorem setLane_sets (n : Nat) (x : Lane) (s : State) : (setLane n x s).sets = s.sets := rfl
@[simp] theorem setLane_parse (n : Nat) (x : Lane) (s : State) : (setLane n x s).parse = s.parse := rfl
@[simp] theorem setLane_vat (n : Nat) (x : Lane) (s : State) : (setLane n x s).vat = s.vat := rfl
@[simp] theorem setLane_flow (n : Nat) (x : Lane) (s : State) : (setLane n x s).flow = s.flow := rfl
@[simp] theorem setLane_time (n : Nat) (x : Lane) (s : State) : (setLane n x s).time = s.time := rfl
@[simp] theorem setLane_edge (n : Nat) (x : Lane) (s : State) : (setLane n x s).edge = s.edge := rfl
@[simp] theorem setLane_svc (n : Nat) (x : Lane) (s : State) : (setLane n x s).svc = s.svc := rfl
@[simp] theorem setLane_cellar (n : Nat) (x : Lane) (s : State) : (setLane n x s).cellar = s.cellar := rfl
@[simp] theorem setLane_press (n : Nat) (x : Lane) (s : State) : (setLane n x s).press = s.press := rfl
@[simp] theorem setLane_gw (n : Nat) (x : Lane) (s : State) : (setLane n x s).gw = s.gw := rfl
@[simp] theorem setLane_pair (n : Nat) (x : Lane) (s : State) : (setLane n x s).pair = s.pair := rfl
@[simp] theorem setLane_sleep (n : Nat) (x : Lane) (s : State) : (setLane n x s).sleep = s.sleep := rfl
@[simp] theorem setLane_test (n : Nat) (x : Lane) (s : State) : (setLane n x s).test = s.test := rfl
@[simp] theorem setLane_alarms (n : Nat) (x : Lane) (s : State) : (setLane n x s).alarms = s.alarms := rfl
@[simp] theorem setLane_otp (n : Nat) (x : Lane) (s : State) : (setLane n x s).otp = s.otp := rfl
@[simp] theorem setLane_flash (n : Nat) (x : Lane) (s : State) : (setLane n x s).flash = s.flash := rfl
@[simp] theorem setLane_upd (n : Nat) (x : Lane) (s : State) : (setLane n x s).upd = s.upd := rfl
@[simp] theorem setLane_out (n : Nat) (x : Lane) (s : State) : (setLane n x s).out = s.out := rfl
@[simp] theorem setLane_fresh (n : Nat) (x : Lane) (s : State) : (setLane n x s).fresh = s.fresh := rfl
@[simp] theorem setLane_pending (n : Nat) (x : Lane) (s : State) : (setLane n x s).pending = s.pending := rfl

@[simp] theorem setEgr_power (p : Nat) (x : EgrPort) (s : State) : (setEgr p x s).power = s.power := rfl
@[simp] theorem setEgr_boot (p : Nat) (x : EgrPort) (s : State) : (setEgr p x s).boot = s.boot := rfl
@[simp] theorem setEgr_host (p : Nat) (x : EgrPort) (s : State) : (setEgr p x s).host = s.host := rfl
@[simp] theorem setEgr_ctl (p : Nat) (x : EgrPort) (s : State) : (setEgr p x s).ctl = s.ctl := rfl
@[simp] theorem setEgr_sets (p : Nat) (x : EgrPort) (s : State) : (setEgr p x s).sets = s.sets := rfl
@[simp] theorem setEgr_parse (p : Nat) (x : EgrPort) (s : State) : (setEgr p x s).parse = s.parse := rfl
@[simp] theorem setEgr_vat (p : Nat) (x : EgrPort) (s : State) : (setEgr p x s).vat = s.vat := rfl
@[simp] theorem setEgr_time (p : Nat) (x : EgrPort) (s : State) : (setEgr p x s).time = s.time := rfl
@[simp] theorem setEgr_edge (p : Nat) (x : EgrPort) (s : State) : (setEgr p x s).edge = s.edge := rfl
@[simp] theorem setEgr_ports (p : Nat) (x : EgrPort) (s : State) : (setEgr p x s).ports = s.ports := rfl
@[simp] theorem setEgr_svc (p : Nat) (x : EgrPort) (s : State) : (setEgr p x s).svc = s.svc := rfl
@[simp] theorem setEgr_cellar (p : Nat) (x : EgrPort) (s : State) : (setEgr p x s).cellar = s.cellar := rfl
@[simp] theorem setEgr_press (p : Nat) (x : EgrPort) (s : State) : (setEgr p x s).press = s.press := rfl
@[simp] theorem setEgr_gw (p : Nat) (x : EgrPort) (s : State) : (setEgr p x s).gw = s.gw := rfl
@[simp] theorem setEgr_pair (p : Nat) (x : EgrPort) (s : State) : (setEgr p x s).pair = s.pair := rfl
@[simp] theorem setEgr_sleep (p : Nat) (x : EgrPort) (s : State) : (setEgr p x s).sleep = s.sleep := rfl
@[simp] theorem setEgr_test (p : Nat) (x : EgrPort) (s : State) : (setEgr p x s).test = s.test := rfl
@[simp] theorem setEgr_alarms (p : Nat) (x : EgrPort) (s : State) : (setEgr p x s).alarms = s.alarms := rfl
@[simp] theorem setEgr_otp (p : Nat) (x : EgrPort) (s : State) : (setEgr p x s).otp = s.otp := rfl
@[simp] theorem setEgr_flash (p : Nat) (x : EgrPort) (s : State) : (setEgr p x s).flash = s.flash := rfl
@[simp] theorem setEgr_upd (p : Nat) (x : EgrPort) (s : State) : (setEgr p x s).upd = s.upd := rfl
@[simp] theorem setEgr_out (p : Nat) (x : EgrPort) (s : State) : (setEgr p x s).out = s.out := rfl
@[simp] theorem setEgr_fresh (p : Nat) (x : EgrPort) (s : State) : (setEgr p x s).fresh = s.fresh := rfl
@[simp] theorem setEgr_pending (p : Nat) (x : EgrPort) (s : State) : (setEgr p x s).pending = s.pending := rfl

@[simp] theorem setMdio_power (b : Nat) (x : Mdio) (s : State) : (setMdio b x s).power = s.power := rfl
@[simp] theorem setMdio_boot (b : Nat) (x : Mdio) (s : State) : (setMdio b x s).boot = s.boot := rfl
@[simp] theorem setMdio_host (b : Nat) (x : Mdio) (s : State) : (setMdio b x s).host = s.host := rfl
@[simp] theorem setMdio_ctl (b : Nat) (x : Mdio) (s : State) : (setMdio b x s).ctl = s.ctl := rfl
@[simp] theorem setMdio_sets (b : Nat) (x : Mdio) (s : State) : (setMdio b x s).sets = s.sets := rfl
@[simp] theorem setMdio_parse (b : Nat) (x : Mdio) (s : State) : (setMdio b x s).parse = s.parse := rfl
@[simp] theorem setMdio_vat (b : Nat) (x : Mdio) (s : State) : (setMdio b x s).vat = s.vat := rfl
@[simp] theorem setMdio_flow (b : Nat) (x : Mdio) (s : State) : (setMdio b x s).flow = s.flow := rfl
@[simp] theorem setMdio_time (b : Nat) (x : Mdio) (s : State) : (setMdio b x s).time = s.time := rfl
@[simp] theorem setMdio_edge (b : Nat) (x : Mdio) (s : State) : (setMdio b x s).edge = s.edge := rfl
@[simp] theorem setMdio_svc (b : Nat) (x : Mdio) (s : State) : (setMdio b x s).svc = s.svc := rfl
@[simp] theorem setMdio_cellar (b : Nat) (x : Mdio) (s : State) : (setMdio b x s).cellar = s.cellar := rfl
@[simp] theorem setMdio_press (b : Nat) (x : Mdio) (s : State) : (setMdio b x s).press = s.press := rfl
@[simp] theorem setMdio_gw (b : Nat) (x : Mdio) (s : State) : (setMdio b x s).gw = s.gw := rfl
@[simp] theorem setMdio_pair (b : Nat) (x : Mdio) (s : State) : (setMdio b x s).pair = s.pair := rfl
@[simp] theorem setMdio_sleep (b : Nat) (x : Mdio) (s : State) : (setMdio b x s).sleep = s.sleep := rfl
@[simp] theorem setMdio_test (b : Nat) (x : Mdio) (s : State) : (setMdio b x s).test = s.test := rfl
@[simp] theorem setMdio_alarms (b : Nat) (x : Mdio) (s : State) : (setMdio b x s).alarms = s.alarms := rfl
@[simp] theorem setMdio_otp (b : Nat) (x : Mdio) (s : State) : (setMdio b x s).otp = s.otp := rfl
@[simp] theorem setMdio_flash (b : Nat) (x : Mdio) (s : State) : (setMdio b x s).flash = s.flash := rfl
@[simp] theorem setMdio_upd (b : Nat) (x : Mdio) (s : State) : (setMdio b x s).upd = s.upd := rfl
@[simp] theorem setMdio_out (b : Nat) (x : Mdio) (s : State) : (setMdio b x s).out = s.out := rfl
@[simp] theorem setMdio_fresh (b : Nat) (x : Mdio) (s : State) : (setMdio b x s).fresh = s.fresh := rfl
@[simp] theorem setMdio_pending (b : Nat) (x : Mdio) (s : State) : (setMdio b x s).pending = s.pending := rfl

@[simp] theorem setTc10_power (l : Nat) (x : Tc10) (s : State) : (setTc10 l x s).power = s.power := rfl
@[simp] theorem setTc10_boot (l : Nat) (x : Tc10) (s : State) : (setTc10 l x s).boot = s.boot := rfl
@[simp] theorem setTc10_host (l : Nat) (x : Tc10) (s : State) : (setTc10 l x s).host = s.host := rfl
@[simp] theorem setTc10_ctl (l : Nat) (x : Tc10) (s : State) : (setTc10 l x s).ctl = s.ctl := rfl
@[simp] theorem setTc10_sets (l : Nat) (x : Tc10) (s : State) : (setTc10 l x s).sets = s.sets := rfl
@[simp] theorem setTc10_parse (l : Nat) (x : Tc10) (s : State) : (setTc10 l x s).parse = s.parse := rfl
@[simp] theorem setTc10_vat (l : Nat) (x : Tc10) (s : State) : (setTc10 l x s).vat = s.vat := rfl
@[simp] theorem setTc10_flow (l : Nat) (x : Tc10) (s : State) : (setTc10 l x s).flow = s.flow := rfl
@[simp] theorem setTc10_time (l : Nat) (x : Tc10) (s : State) : (setTc10 l x s).time = s.time := rfl
@[simp] theorem setTc10_edge (l : Nat) (x : Tc10) (s : State) : (setTc10 l x s).edge = s.edge := rfl
@[simp] theorem setTc10_svc (l : Nat) (x : Tc10) (s : State) : (setTc10 l x s).svc = s.svc := rfl
@[simp] theorem setTc10_cellar (l : Nat) (x : Tc10) (s : State) : (setTc10 l x s).cellar = s.cellar := rfl
@[simp] theorem setTc10_press (l : Nat) (x : Tc10) (s : State) : (setTc10 l x s).press = s.press := rfl
@[simp] theorem setTc10_gw (l : Nat) (x : Tc10) (s : State) : (setTc10 l x s).gw = s.gw := rfl
@[simp] theorem setTc10_pair (l : Nat) (x : Tc10) (s : State) : (setTc10 l x s).pair = s.pair := rfl
@[simp] theorem setTc10_sleep (l : Nat) (x : Tc10) (s : State) : (setTc10 l x s).sleep = s.sleep := rfl
@[simp] theorem setTc10_test (l : Nat) (x : Tc10) (s : State) : (setTc10 l x s).test = s.test := rfl
@[simp] theorem setTc10_alarms (l : Nat) (x : Tc10) (s : State) : (setTc10 l x s).alarms = s.alarms := rfl
@[simp] theorem setTc10_otp (l : Nat) (x : Tc10) (s : State) : (setTc10 l x s).otp = s.otp := rfl
@[simp] theorem setTc10_flash (l : Nat) (x : Tc10) (s : State) : (setTc10 l x s).flash = s.flash := rfl
@[simp] theorem setTc10_upd (l : Nat) (x : Tc10) (s : State) : (setTc10 l x s).upd = s.upd := rfl
@[simp] theorem setTc10_out (l : Nat) (x : Tc10) (s : State) : (setTc10 l x s).out = s.out := rfl
@[simp] theorem setTc10_fresh (l : Nat) (x : Tc10) (s : State) : (setTc10 l x s).fresh = s.fresh := rfl
@[simp] theorem setTc10_pending (l : Nat) (x : Tc10) (s : State) : (setTc10 l x s).pending = s.pending := rfl

@[simp] theorem setPressQueue_power (c : Nat) (x : List PressJob) (s : State) : (setPressQueue c x s).power = s.power := rfl
@[simp] theorem setPressQueue_boot (c : Nat) (x : List PressJob) (s : State) : (setPressQueue c x s).boot = s.boot := rfl
@[simp] theorem setPressQueue_host (c : Nat) (x : List PressJob) (s : State) : (setPressQueue c x s).host = s.host := rfl
@[simp] theorem setPressQueue_ctl (c : Nat) (x : List PressJob) (s : State) : (setPressQueue c x s).ctl = s.ctl := rfl
@[simp] theorem setPressQueue_sets (c : Nat) (x : List PressJob) (s : State) : (setPressQueue c x s).sets = s.sets := rfl
@[simp] theorem setPressQueue_parse (c : Nat) (x : List PressJob) (s : State) : (setPressQueue c x s).parse = s.parse := rfl
@[simp] theorem setPressQueue_vat (c : Nat) (x : List PressJob) (s : State) : (setPressQueue c x s).vat = s.vat := rfl
@[simp] theorem setPressQueue_flow (c : Nat) (x : List PressJob) (s : State) : (setPressQueue c x s).flow = s.flow := rfl
@[simp] theorem setPressQueue_time (c : Nat) (x : List PressJob) (s : State) : (setPressQueue c x s).time = s.time := rfl
@[simp] theorem setPressQueue_edge (c : Nat) (x : List PressJob) (s : State) : (setPressQueue c x s).edge = s.edge := rfl
@[simp] theorem setPressQueue_ports (c : Nat) (x : List PressJob) (s : State) : (setPressQueue c x s).ports = s.ports := rfl
@[simp] theorem setPressQueue_svc (c : Nat) (x : List PressJob) (s : State) : (setPressQueue c x s).svc = s.svc := rfl
@[simp] theorem setPressQueue_cellar (c : Nat) (x : List PressJob) (s : State) : (setPressQueue c x s).cellar = s.cellar := rfl
@[simp] theorem setPressQueue_gw (c : Nat) (x : List PressJob) (s : State) : (setPressQueue c x s).gw = s.gw := rfl
@[simp] theorem setPressQueue_pair (c : Nat) (x : List PressJob) (s : State) : (setPressQueue c x s).pair = s.pair := rfl
@[simp] theorem setPressQueue_sleep (c : Nat) (x : List PressJob) (s : State) : (setPressQueue c x s).sleep = s.sleep := rfl
@[simp] theorem setPressQueue_test (c : Nat) (x : List PressJob) (s : State) : (setPressQueue c x s).test = s.test := rfl
@[simp] theorem setPressQueue_alarms (c : Nat) (x : List PressJob) (s : State) : (setPressQueue c x s).alarms = s.alarms := rfl
@[simp] theorem setPressQueue_otp (c : Nat) (x : List PressJob) (s : State) : (setPressQueue c x s).otp = s.otp := rfl
@[simp] theorem setPressQueue_flash (c : Nat) (x : List PressJob) (s : State) : (setPressQueue c x s).flash = s.flash := rfl
@[simp] theorem setPressQueue_upd (c : Nat) (x : List PressJob) (s : State) : (setPressQueue c x s).upd = s.upd := rfl
@[simp] theorem setPressQueue_out (c : Nat) (x : List PressJob) (s : State) : (setPressQueue c x s).out = s.out := rfl
@[simp] theorem setPressQueue_fresh (c : Nat) (x : List PressJob) (s : State) : (setPressQueue c x s).fresh = s.fresh := rfl
@[simp] theorem setPressQueue_pending (c : Nat) (x : List PressJob) (s : State) : (setPressQueue c x s).pending = s.pending := rfl

@[simp] theorem setBank_power (n : Nat) (x : Bank) (s : State) : (setBank n x s).power = s.power := rfl
@[simp] theorem setBank_boot (n : Nat) (x : Bank) (s : State) : (setBank n x s).boot = s.boot := rfl
@[simp] theorem setBank_host (n : Nat) (x : Bank) (s : State) : (setBank n x s).host = s.host := rfl
@[simp] theorem setBank_ctl (n : Nat) (x : Bank) (s : State) : (setBank n x s).ctl = s.ctl := rfl
@[simp] theorem setBank_sets (n : Nat) (x : Bank) (s : State) : (setBank n x s).sets = s.sets := rfl
@[simp] theorem setBank_parse (n : Nat) (x : Bank) (s : State) : (setBank n x s).parse = s.parse := rfl
@[simp] theorem setBank_vat (n : Nat) (x : Bank) (s : State) : (setBank n x s).vat = s.vat := rfl
@[simp] theorem setBank_flow (n : Nat) (x : Bank) (s : State) : (setBank n x s).flow = s.flow := rfl
@[simp] theorem setBank_time (n : Nat) (x : Bank) (s : State) : (setBank n x s).time = s.time := rfl
@[simp] theorem setBank_edge (n : Nat) (x : Bank) (s : State) : (setBank n x s).edge = s.edge := rfl
@[simp] theorem setBank_ports (n : Nat) (x : Bank) (s : State) : (setBank n x s).ports = s.ports := rfl
@[simp] theorem setBank_svc (n : Nat) (x : Bank) (s : State) : (setBank n x s).svc = s.svc := rfl
@[simp] theorem setBank_cellar (n : Nat) (x : Bank) (s : State) : (setBank n x s).cellar = s.cellar := rfl
@[simp] theorem setBank_press (n : Nat) (x : Bank) (s : State) : (setBank n x s).press = s.press := rfl
@[simp] theorem setBank_gw (n : Nat) (x : Bank) (s : State) : (setBank n x s).gw = s.gw := rfl
@[simp] theorem setBank_pair (n : Nat) (x : Bank) (s : State) : (setBank n x s).pair = s.pair := rfl
@[simp] theorem setBank_sleep (n : Nat) (x : Bank) (s : State) : (setBank n x s).sleep = s.sleep := rfl
@[simp] theorem setBank_alarms (n : Nat) (x : Bank) (s : State) : (setBank n x s).alarms = s.alarms := rfl
@[simp] theorem setBank_otp (n : Nat) (x : Bank) (s : State) : (setBank n x s).otp = s.otp := rfl
@[simp] theorem setBank_flash (n : Nat) (x : Bank) (s : State) : (setBank n x s).flash = s.flash := rfl
@[simp] theorem setBank_upd (n : Nat) (x : Bank) (s : State) : (setBank n x s).upd = s.upd := rfl
@[simp] theorem setBank_out (n : Nat) (x : Bank) (s : State) : (setBank n x s).out = s.out := rfl
@[simp] theorem setBank_fresh (n : Nat) (x : Bank) (s : State) : (setBank n x s).fresh = s.fresh := rfl
@[simp] theorem setBank_pending (n : Nat) (x : Bank) (s : State) : (setBank n x s).pending = s.pending := rfl

@[simp] theorem setSecure_power (n : Nat) (x : SecureBank) (s : State) : (setSecure n x s).power = s.power := rfl
@[simp] theorem setSecure_boot (n : Nat) (x : SecureBank) (s : State) : (setSecure n x s).boot = s.boot := rfl
@[simp] theorem setSecure_host (n : Nat) (x : SecureBank) (s : State) : (setSecure n x s).host = s.host := rfl
@[simp] theorem setSecure_ctl (n : Nat) (x : SecureBank) (s : State) : (setSecure n x s).ctl = s.ctl := rfl
@[simp] theorem setSecure_sets (n : Nat) (x : SecureBank) (s : State) : (setSecure n x s).sets = s.sets := rfl
@[simp] theorem setSecure_parse (n : Nat) (x : SecureBank) (s : State) : (setSecure n x s).parse = s.parse := rfl
@[simp] theorem setSecure_vat (n : Nat) (x : SecureBank) (s : State) : (setSecure n x s).vat = s.vat := rfl
@[simp] theorem setSecure_flow (n : Nat) (x : SecureBank) (s : State) : (setSecure n x s).flow = s.flow := rfl
@[simp] theorem setSecure_time (n : Nat) (x : SecureBank) (s : State) : (setSecure n x s).time = s.time := rfl
@[simp] theorem setSecure_edge (n : Nat) (x : SecureBank) (s : State) : (setSecure n x s).edge = s.edge := rfl
@[simp] theorem setSecure_ports (n : Nat) (x : SecureBank) (s : State) : (setSecure n x s).ports = s.ports := rfl
@[simp] theorem setSecure_svc (n : Nat) (x : SecureBank) (s : State) : (setSecure n x s).svc = s.svc := rfl
@[simp] theorem setSecure_cellar (n : Nat) (x : SecureBank) (s : State) : (setSecure n x s).cellar = s.cellar := rfl
@[simp] theorem setSecure_press (n : Nat) (x : SecureBank) (s : State) : (setSecure n x s).press = s.press := rfl
@[simp] theorem setSecure_gw (n : Nat) (x : SecureBank) (s : State) : (setSecure n x s).gw = s.gw := rfl
@[simp] theorem setSecure_pair (n : Nat) (x : SecureBank) (s : State) : (setSecure n x s).pair = s.pair := rfl
@[simp] theorem setSecure_sleep (n : Nat) (x : SecureBank) (s : State) : (setSecure n x s).sleep = s.sleep := rfl
@[simp] theorem setSecure_alarms (n : Nat) (x : SecureBank) (s : State) : (setSecure n x s).alarms = s.alarms := rfl
@[simp] theorem setSecure_otp (n : Nat) (x : SecureBank) (s : State) : (setSecure n x s).otp = s.otp := rfl
@[simp] theorem setSecure_flash (n : Nat) (x : SecureBank) (s : State) : (setSecure n x s).flash = s.flash := rfl
@[simp] theorem setSecure_upd (n : Nat) (x : SecureBank) (s : State) : (setSecure n x s).upd = s.upd := rfl
@[simp] theorem setSecure_out (n : Nat) (x : SecureBank) (s : State) : (setSecure n x s).out = s.out := rfl
@[simp] theorem setSecure_fresh (n : Nat) (x : SecureBank) (s : State) : (setSecure n x s).fresh = s.fresh := rfl
@[simp] theorem setSecure_pending (n : Nat) (x : SecureBank) (s : State) : (setSecure n x s).pending = s.pending := rfl

@[simp] theorem setTb_power (n : Nat) (x : TimeBase) (s : State) : (setTb n x s).power = s.power := rfl
@[simp] theorem setTb_boot (n : Nat) (x : TimeBase) (s : State) : (setTb n x s).boot = s.boot := rfl
@[simp] theorem setTb_host (n : Nat) (x : TimeBase) (s : State) : (setTb n x s).host = s.host := rfl
@[simp] theorem setTb_ctl (n : Nat) (x : TimeBase) (s : State) : (setTb n x s).ctl = s.ctl := rfl
@[simp] theorem setTb_sets (n : Nat) (x : TimeBase) (s : State) : (setTb n x s).sets = s.sets := rfl
@[simp] theorem setTb_parse (n : Nat) (x : TimeBase) (s : State) : (setTb n x s).parse = s.parse := rfl
@[simp] theorem setTb_vat (n : Nat) (x : TimeBase) (s : State) : (setTb n x s).vat = s.vat := rfl
@[simp] theorem setTb_flow (n : Nat) (x : TimeBase) (s : State) : (setTb n x s).flow = s.flow := rfl
@[simp] theorem setTb_edge (n : Nat) (x : TimeBase) (s : State) : (setTb n x s).edge = s.edge := rfl
@[simp] theorem setTb_ports (n : Nat) (x : TimeBase) (s : State) : (setTb n x s).ports = s.ports := rfl
@[simp] theorem setTb_svc (n : Nat) (x : TimeBase) (s : State) : (setTb n x s).svc = s.svc := rfl
@[simp] theorem setTb_cellar (n : Nat) (x : TimeBase) (s : State) : (setTb n x s).cellar = s.cellar := rfl
@[simp] theorem setTb_press (n : Nat) (x : TimeBase) (s : State) : (setTb n x s).press = s.press := rfl
@[simp] theorem setTb_gw (n : Nat) (x : TimeBase) (s : State) : (setTb n x s).gw = s.gw := rfl
@[simp] theorem setTb_pair (n : Nat) (x : TimeBase) (s : State) : (setTb n x s).pair = s.pair := rfl
@[simp] theorem setTb_sleep (n : Nat) (x : TimeBase) (s : State) : (setTb n x s).sleep = s.sleep := rfl
@[simp] theorem setTb_test (n : Nat) (x : TimeBase) (s : State) : (setTb n x s).test = s.test := rfl
@[simp] theorem setTb_alarms (n : Nat) (x : TimeBase) (s : State) : (setTb n x s).alarms = s.alarms := rfl
@[simp] theorem setTb_otp (n : Nat) (x : TimeBase) (s : State) : (setTb n x s).otp = s.otp := rfl
@[simp] theorem setTb_flash (n : Nat) (x : TimeBase) (s : State) : (setTb n x s).flash = s.flash := rfl
@[simp] theorem setTb_upd (n : Nat) (x : TimeBase) (s : State) : (setTb n x s).upd = s.upd := rfl
@[simp] theorem setTb_out (n : Nat) (x : TimeBase) (s : State) : (setTb n x s).out = s.out := rfl
@[simp] theorem setTb_fresh (n : Nat) (x : TimeBase) (s : State) : (setTb n x s).fresh = s.fresh := rfl
@[simp] theorem setTb_pending (n : Nat) (x : TimeBase) (s : State) : (setTb n x s).pending = s.pending := rfl

@[simp] theorem setPps_power (k : Nat) (x : Pps) (s : State) : (setPps k x s).power = s.power := rfl
@[simp] theorem setPps_boot (k : Nat) (x : Pps) (s : State) : (setPps k x s).boot = s.boot := rfl
@[simp] theorem setPps_host (k : Nat) (x : Pps) (s : State) : (setPps k x s).host = s.host := rfl
@[simp] theorem setPps_ctl (k : Nat) (x : Pps) (s : State) : (setPps k x s).ctl = s.ctl := rfl
@[simp] theorem setPps_sets (k : Nat) (x : Pps) (s : State) : (setPps k x s).sets = s.sets := rfl
@[simp] theorem setPps_parse (k : Nat) (x : Pps) (s : State) : (setPps k x s).parse = s.parse := rfl
@[simp] theorem setPps_vat (k : Nat) (x : Pps) (s : State) : (setPps k x s).vat = s.vat := rfl
@[simp] theorem setPps_flow (k : Nat) (x : Pps) (s : State) : (setPps k x s).flow = s.flow := rfl
@[simp] theorem setPps_edge (k : Nat) (x : Pps) (s : State) : (setPps k x s).edge = s.edge := rfl
@[simp] theorem setPps_ports (k : Nat) (x : Pps) (s : State) : (setPps k x s).ports = s.ports := rfl
@[simp] theorem setPps_svc (k : Nat) (x : Pps) (s : State) : (setPps k x s).svc = s.svc := rfl
@[simp] theorem setPps_cellar (k : Nat) (x : Pps) (s : State) : (setPps k x s).cellar = s.cellar := rfl
@[simp] theorem setPps_press (k : Nat) (x : Pps) (s : State) : (setPps k x s).press = s.press := rfl
@[simp] theorem setPps_gw (k : Nat) (x : Pps) (s : State) : (setPps k x s).gw = s.gw := rfl
@[simp] theorem setPps_pair (k : Nat) (x : Pps) (s : State) : (setPps k x s).pair = s.pair := rfl
@[simp] theorem setPps_sleep (k : Nat) (x : Pps) (s : State) : (setPps k x s).sleep = s.sleep := rfl
@[simp] theorem setPps_test (k : Nat) (x : Pps) (s : State) : (setPps k x s).test = s.test := rfl
@[simp] theorem setPps_alarms (k : Nat) (x : Pps) (s : State) : (setPps k x s).alarms = s.alarms := rfl
@[simp] theorem setPps_otp (k : Nat) (x : Pps) (s : State) : (setPps k x s).otp = s.otp := rfl
@[simp] theorem setPps_flash (k : Nat) (x : Pps) (s : State) : (setPps k x s).flash = s.flash := rfl
@[simp] theorem setPps_upd (k : Nat) (x : Pps) (s : State) : (setPps k x s).upd = s.upd := rfl
@[simp] theorem setPps_out (k : Nat) (x : Pps) (s : State) : (setPps k x s).out = s.out := rfl
@[simp] theorem setPps_fresh (k : Nat) (x : Pps) (s : State) : (setPps k x s).fresh = s.fresh := rfl
@[simp] theorem setPps_pending (k : Nat) (x : Pps) (s : State) : (setPps k x s).pending = s.pending := rfl

@[simp] theorem setGptpSlot_power (i : Nat) (x : GptpSlot) (s : State) : (setGptpSlot i x s).power = s.power := rfl
@[simp] theorem setGptpSlot_boot (i : Nat) (x : GptpSlot) (s : State) : (setGptpSlot i x s).boot = s.boot := rfl
@[simp] theorem setGptpSlot_host (i : Nat) (x : GptpSlot) (s : State) : (setGptpSlot i x s).host = s.host := rfl
@[simp] theorem setGptpSlot_ctl (i : Nat) (x : GptpSlot) (s : State) : (setGptpSlot i x s).ctl = s.ctl := rfl
@[simp] theorem setGptpSlot_sets (i : Nat) (x : GptpSlot) (s : State) : (setGptpSlot i x s).sets = s.sets := rfl
@[simp] theorem setGptpSlot_parse (i : Nat) (x : GptpSlot) (s : State) : (setGptpSlot i x s).parse = s.parse := rfl
@[simp] theorem setGptpSlot_vat (i : Nat) (x : GptpSlot) (s : State) : (setGptpSlot i x s).vat = s.vat := rfl
@[simp] theorem setGptpSlot_flow (i : Nat) (x : GptpSlot) (s : State) : (setGptpSlot i x s).flow = s.flow := rfl
@[simp] theorem setGptpSlot_edge (i : Nat) (x : GptpSlot) (s : State) : (setGptpSlot i x s).edge = s.edge := rfl
@[simp] theorem setGptpSlot_ports (i : Nat) (x : GptpSlot) (s : State) : (setGptpSlot i x s).ports = s.ports := rfl
@[simp] theorem setGptpSlot_svc (i : Nat) (x : GptpSlot) (s : State) : (setGptpSlot i x s).svc = s.svc := rfl
@[simp] theorem setGptpSlot_cellar (i : Nat) (x : GptpSlot) (s : State) : (setGptpSlot i x s).cellar = s.cellar := rfl
@[simp] theorem setGptpSlot_press (i : Nat) (x : GptpSlot) (s : State) : (setGptpSlot i x s).press = s.press := rfl
@[simp] theorem setGptpSlot_gw (i : Nat) (x : GptpSlot) (s : State) : (setGptpSlot i x s).gw = s.gw := rfl
@[simp] theorem setGptpSlot_pair (i : Nat) (x : GptpSlot) (s : State) : (setGptpSlot i x s).pair = s.pair := rfl
@[simp] theorem setGptpSlot_sleep (i : Nat) (x : GptpSlot) (s : State) : (setGptpSlot i x s).sleep = s.sleep := rfl
@[simp] theorem setGptpSlot_test (i : Nat) (x : GptpSlot) (s : State) : (setGptpSlot i x s).test = s.test := rfl
@[simp] theorem setGptpSlot_alarms (i : Nat) (x : GptpSlot) (s : State) : (setGptpSlot i x s).alarms = s.alarms := rfl
@[simp] theorem setGptpSlot_otp (i : Nat) (x : GptpSlot) (s : State) : (setGptpSlot i x s).otp = s.otp := rfl
@[simp] theorem setGptpSlot_flash (i : Nat) (x : GptpSlot) (s : State) : (setGptpSlot i x s).flash = s.flash := rfl
@[simp] theorem setGptpSlot_upd (i : Nat) (x : GptpSlot) (s : State) : (setGptpSlot i x s).upd = s.upd := rfl
@[simp] theorem setGptpSlot_out (i : Nat) (x : GptpSlot) (s : State) : (setGptpSlot i x s).out = s.out := rfl
@[simp] theorem setGptpSlot_fresh (i : Nat) (x : GptpSlot) (s : State) : (setGptpSlot i x s).fresh = s.fresh := rfl
@[simp] theorem setGptpSlot_pending (i : Nat) (x : GptpSlot) (s : State) : (setGptpSlot i x s).pending = s.pending := rfl

@[simp] theorem setVatQueue_power (q : Nat) (x : VatQueue) (s : State) : (setVatQueue q x s).power = s.power := rfl
@[simp] theorem setVatQueue_boot (q : Nat) (x : VatQueue) (s : State) : (setVatQueue q x s).boot = s.boot := rfl
@[simp] theorem setVatQueue_host (q : Nat) (x : VatQueue) (s : State) : (setVatQueue q x s).host = s.host := rfl
@[simp] theorem setVatQueue_ctl (q : Nat) (x : VatQueue) (s : State) : (setVatQueue q x s).ctl = s.ctl := rfl
@[simp] theorem setVatQueue_sets (q : Nat) (x : VatQueue) (s : State) : (setVatQueue q x s).sets = s.sets := rfl
@[simp] theorem setVatQueue_parse (q : Nat) (x : VatQueue) (s : State) : (setVatQueue q x s).parse = s.parse := rfl
@[simp] theorem setVatQueue_flow (q : Nat) (x : VatQueue) (s : State) : (setVatQueue q x s).flow = s.flow := rfl
@[simp] theorem setVatQueue_time (q : Nat) (x : VatQueue) (s : State) : (setVatQueue q x s).time = s.time := rfl
@[simp] theorem setVatQueue_edge (q : Nat) (x : VatQueue) (s : State) : (setVatQueue q x s).edge = s.edge := rfl
@[simp] theorem setVatQueue_ports (q : Nat) (x : VatQueue) (s : State) : (setVatQueue q x s).ports = s.ports := rfl
@[simp] theorem setVatQueue_svc (q : Nat) (x : VatQueue) (s : State) : (setVatQueue q x s).svc = s.svc := rfl
@[simp] theorem setVatQueue_cellar (q : Nat) (x : VatQueue) (s : State) : (setVatQueue q x s).cellar = s.cellar := rfl
@[simp] theorem setVatQueue_press (q : Nat) (x : VatQueue) (s : State) : (setVatQueue q x s).press = s.press := rfl
@[simp] theorem setVatQueue_gw (q : Nat) (x : VatQueue) (s : State) : (setVatQueue q x s).gw = s.gw := rfl
@[simp] theorem setVatQueue_pair (q : Nat) (x : VatQueue) (s : State) : (setVatQueue q x s).pair = s.pair := rfl
@[simp] theorem setVatQueue_sleep (q : Nat) (x : VatQueue) (s : State) : (setVatQueue q x s).sleep = s.sleep := rfl
@[simp] theorem setVatQueue_test (q : Nat) (x : VatQueue) (s : State) : (setVatQueue q x s).test = s.test := rfl
@[simp] theorem setVatQueue_alarms (q : Nat) (x : VatQueue) (s : State) : (setVatQueue q x s).alarms = s.alarms := rfl
@[simp] theorem setVatQueue_otp (q : Nat) (x : VatQueue) (s : State) : (setVatQueue q x s).otp = s.otp := rfl
@[simp] theorem setVatQueue_flash (q : Nat) (x : VatQueue) (s : State) : (setVatQueue q x s).flash = s.flash := rfl
@[simp] theorem setVatQueue_upd (q : Nat) (x : VatQueue) (s : State) : (setVatQueue q x s).upd = s.upd := rfl
@[simp] theorem setVatQueue_out (q : Nat) (x : VatQueue) (s : State) : (setVatQueue q x s).out = s.out := rfl
@[simp] theorem setVatQueue_fresh (q : Nat) (x : VatQueue) (s : State) : (setVatQueue q x s).fresh = s.fresh := rfl
@[simp] theorem setVatQueue_pending (q : Nat) (x : VatQueue) (s : State) : (setVatQueue q x s).pending = s.pending := rfl

@[simp] theorem setVatPort_power (p : Nat) (x : VatPort) (s : State) : (setVatPort p x s).power = s.power := rfl
@[simp] theorem setVatPort_boot (p : Nat) (x : VatPort) (s : State) : (setVatPort p x s).boot = s.boot := rfl
@[simp] theorem setVatPort_host (p : Nat) (x : VatPort) (s : State) : (setVatPort p x s).host = s.host := rfl
@[simp] theorem setVatPort_ctl (p : Nat) (x : VatPort) (s : State) : (setVatPort p x s).ctl = s.ctl := rfl
@[simp] theorem setVatPort_sets (p : Nat) (x : VatPort) (s : State) : (setVatPort p x s).sets = s.sets := rfl
@[simp] theorem setVatPort_parse (p : Nat) (x : VatPort) (s : State) : (setVatPort p x s).parse = s.parse := rfl
@[simp] theorem setVatPort_flow (p : Nat) (x : VatPort) (s : State) : (setVatPort p x s).flow = s.flow := rfl
@[simp] theorem setVatPort_time (p : Nat) (x : VatPort) (s : State) : (setVatPort p x s).time = s.time := rfl
@[simp] theorem setVatPort_edge (p : Nat) (x : VatPort) (s : State) : (setVatPort p x s).edge = s.edge := rfl
@[simp] theorem setVatPort_ports (p : Nat) (x : VatPort) (s : State) : (setVatPort p x s).ports = s.ports := rfl
@[simp] theorem setVatPort_svc (p : Nat) (x : VatPort) (s : State) : (setVatPort p x s).svc = s.svc := rfl
@[simp] theorem setVatPort_cellar (p : Nat) (x : VatPort) (s : State) : (setVatPort p x s).cellar = s.cellar := rfl
@[simp] theorem setVatPort_press (p : Nat) (x : VatPort) (s : State) : (setVatPort p x s).press = s.press := rfl
@[simp] theorem setVatPort_gw (p : Nat) (x : VatPort) (s : State) : (setVatPort p x s).gw = s.gw := rfl
@[simp] theorem setVatPort_pair (p : Nat) (x : VatPort) (s : State) : (setVatPort p x s).pair = s.pair := rfl
@[simp] theorem setVatPort_sleep (p : Nat) (x : VatPort) (s : State) : (setVatPort p x s).sleep = s.sleep := rfl
@[simp] theorem setVatPort_test (p : Nat) (x : VatPort) (s : State) : (setVatPort p x s).test = s.test := rfl
@[simp] theorem setVatPort_alarms (p : Nat) (x : VatPort) (s : State) : (setVatPort p x s).alarms = s.alarms := rfl
@[simp] theorem setVatPort_otp (p : Nat) (x : VatPort) (s : State) : (setVatPort p x s).otp = s.otp := rfl
@[simp] theorem setVatPort_flash (p : Nat) (x : VatPort) (s : State) : (setVatPort p x s).flash = s.flash := rfl
@[simp] theorem setVatPort_upd (p : Nat) (x : VatPort) (s : State) : (setVatPort p x s).upd = s.upd := rfl
@[simp] theorem setVatPort_out (p : Nat) (x : VatPort) (s : State) : (setVatPort p x s).out = s.out := rfl
@[simp] theorem setVatPort_fresh (p : Nat) (x : VatPort) (s : State) : (setVatPort p x s).fresh = s.fresh := rfl
@[simp] theorem setVatPort_pending (p : Nat) (x : VatPort) (s : State) : (setVatPort p x s).pending = s.pending := rfl

@[simp] theorem setEdgeChan_power (n : Nat) (x : EdgeChan) (s : State) : (setEdgeChan n x s).power = s.power := rfl
@[simp] theorem setEdgeChan_boot (n : Nat) (x : EdgeChan) (s : State) : (setEdgeChan n x s).boot = s.boot := rfl
@[simp] theorem setEdgeChan_host (n : Nat) (x : EdgeChan) (s : State) : (setEdgeChan n x s).host = s.host := rfl
@[simp] theorem setEdgeChan_ctl (n : Nat) (x : EdgeChan) (s : State) : (setEdgeChan n x s).ctl = s.ctl := rfl
@[simp] theorem setEdgeChan_sets (n : Nat) (x : EdgeChan) (s : State) : (setEdgeChan n x s).sets = s.sets := rfl
@[simp] theorem setEdgeChan_parse (n : Nat) (x : EdgeChan) (s : State) : (setEdgeChan n x s).parse = s.parse := rfl
@[simp] theorem setEdgeChan_vat (n : Nat) (x : EdgeChan) (s : State) : (setEdgeChan n x s).vat = s.vat := rfl
@[simp] theorem setEdgeChan_flow (n : Nat) (x : EdgeChan) (s : State) : (setEdgeChan n x s).flow = s.flow := rfl
@[simp] theorem setEdgeChan_time (n : Nat) (x : EdgeChan) (s : State) : (setEdgeChan n x s).time = s.time := rfl
@[simp] theorem setEdgeChan_ports (n : Nat) (x : EdgeChan) (s : State) : (setEdgeChan n x s).ports = s.ports := rfl
@[simp] theorem setEdgeChan_svc (n : Nat) (x : EdgeChan) (s : State) : (setEdgeChan n x s).svc = s.svc := rfl
@[simp] theorem setEdgeChan_cellar (n : Nat) (x : EdgeChan) (s : State) : (setEdgeChan n x s).cellar = s.cellar := rfl
@[simp] theorem setEdgeChan_press (n : Nat) (x : EdgeChan) (s : State) : (setEdgeChan n x s).press = s.press := rfl
@[simp] theorem setEdgeChan_gw (n : Nat) (x : EdgeChan) (s : State) : (setEdgeChan n x s).gw = s.gw := rfl
@[simp] theorem setEdgeChan_pair (n : Nat) (x : EdgeChan) (s : State) : (setEdgeChan n x s).pair = s.pair := rfl
@[simp] theorem setEdgeChan_sleep (n : Nat) (x : EdgeChan) (s : State) : (setEdgeChan n x s).sleep = s.sleep := rfl
@[simp] theorem setEdgeChan_test (n : Nat) (x : EdgeChan) (s : State) : (setEdgeChan n x s).test = s.test := rfl
@[simp] theorem setEdgeChan_alarms (n : Nat) (x : EdgeChan) (s : State) : (setEdgeChan n x s).alarms = s.alarms := rfl
@[simp] theorem setEdgeChan_otp (n : Nat) (x : EdgeChan) (s : State) : (setEdgeChan n x s).otp = s.otp := rfl
@[simp] theorem setEdgeChan_flash (n : Nat) (x : EdgeChan) (s : State) : (setEdgeChan n x s).flash = s.flash := rfl
@[simp] theorem setEdgeChan_upd (n : Nat) (x : EdgeChan) (s : State) : (setEdgeChan n x s).upd = s.upd := rfl
@[simp] theorem setEdgeChan_out (n : Nat) (x : EdgeChan) (s : State) : (setEdgeChan n x s).out = s.out := rfl
@[simp] theorem setEdgeChan_fresh (n : Nat) (x : EdgeChan) (s : State) : (setEdgeChan n x s).fresh = s.fresh := rfl
@[simp] theorem setEdgeChan_pending (n : Nat) (x : EdgeChan) (s : State) : (setEdgeChan n x s).pending = s.pending := rfl

@[simp] theorem setNmBus_power (p : Nat) (x : NmBus) (s : State) : (setNmBus p x s).power = s.power := rfl
@[simp] theorem setNmBus_boot (p : Nat) (x : NmBus) (s : State) : (setNmBus p x s).boot = s.boot := rfl
@[simp] theorem setNmBus_host (p : Nat) (x : NmBus) (s : State) : (setNmBus p x s).host = s.host := rfl
@[simp] theorem setNmBus_ctl (p : Nat) (x : NmBus) (s : State) : (setNmBus p x s).ctl = s.ctl := rfl
@[simp] theorem setNmBus_sets (p : Nat) (x : NmBus) (s : State) : (setNmBus p x s).sets = s.sets := rfl
@[simp] theorem setNmBus_parse (p : Nat) (x : NmBus) (s : State) : (setNmBus p x s).parse = s.parse := rfl
@[simp] theorem setNmBus_vat (p : Nat) (x : NmBus) (s : State) : (setNmBus p x s).vat = s.vat := rfl
@[simp] theorem setNmBus_flow (p : Nat) (x : NmBus) (s : State) : (setNmBus p x s).flow = s.flow := rfl
@[simp] theorem setNmBus_time (p : Nat) (x : NmBus) (s : State) : (setNmBus p x s).time = s.time := rfl
@[simp] theorem setNmBus_edge (p : Nat) (x : NmBus) (s : State) : (setNmBus p x s).edge = s.edge := rfl
@[simp] theorem setNmBus_ports (p : Nat) (x : NmBus) (s : State) : (setNmBus p x s).ports = s.ports := rfl
@[simp] theorem setNmBus_svc (p : Nat) (x : NmBus) (s : State) : (setNmBus p x s).svc = s.svc := rfl
@[simp] theorem setNmBus_cellar (p : Nat) (x : NmBus) (s : State) : (setNmBus p x s).cellar = s.cellar := rfl
@[simp] theorem setNmBus_press (p : Nat) (x : NmBus) (s : State) : (setNmBus p x s).press = s.press := rfl
@[simp] theorem setNmBus_gw (p : Nat) (x : NmBus) (s : State) : (setNmBus p x s).gw = s.gw := rfl
@[simp] theorem setNmBus_pair (p : Nat) (x : NmBus) (s : State) : (setNmBus p x s).pair = s.pair := rfl
@[simp] theorem setNmBus_test (p : Nat) (x : NmBus) (s : State) : (setNmBus p x s).test = s.test := rfl
@[simp] theorem setNmBus_alarms (p : Nat) (x : NmBus) (s : State) : (setNmBus p x s).alarms = s.alarms := rfl
@[simp] theorem setNmBus_otp (p : Nat) (x : NmBus) (s : State) : (setNmBus p x s).otp = s.otp := rfl
@[simp] theorem setNmBus_flash (p : Nat) (x : NmBus) (s : State) : (setNmBus p x s).flash = s.flash := rfl
@[simp] theorem setNmBus_upd (p : Nat) (x : NmBus) (s : State) : (setNmBus p x s).upd = s.upd := rfl
@[simp] theorem setNmBus_out (p : Nat) (x : NmBus) (s : State) : (setNmBus p x s).out = s.out := rfl
@[simp] theorem setNmBus_fresh (p : Nat) (x : NmBus) (s : State) : (setNmBus p x s).fresh = s.fresh := rfl
@[simp] theorem setNmBus_pending (p : Nat) (x : NmBus) (s : State) : (setNmBus p x s).pending = s.pending := rfl

@[simp] theorem setHeld_power (l : List HeldRead) (s : State) : (setHeld l s).power = s.power := rfl
@[simp] theorem setHeld_boot (l : List HeldRead) (s : State) : (setHeld l s).boot = s.boot := rfl
@[simp] theorem setHeld_ctl (l : List HeldRead) (s : State) : (setHeld l s).ctl = s.ctl := rfl
@[simp] theorem setHeld_sets (l : List HeldRead) (s : State) : (setHeld l s).sets = s.sets := rfl
@[simp] theorem setHeld_parse (l : List HeldRead) (s : State) : (setHeld l s).parse = s.parse := rfl
@[simp] theorem setHeld_vat (l : List HeldRead) (s : State) : (setHeld l s).vat = s.vat := rfl
@[simp] theorem setHeld_flow (l : List HeldRead) (s : State) : (setHeld l s).flow = s.flow := rfl
@[simp] theorem setHeld_time (l : List HeldRead) (s : State) : (setHeld l s).time = s.time := rfl
@[simp] theorem setHeld_edge (l : List HeldRead) (s : State) : (setHeld l s).edge = s.edge := rfl
@[simp] theorem setHeld_ports (l : List HeldRead) (s : State) : (setHeld l s).ports = s.ports := rfl
@[simp] theorem setHeld_svc (l : List HeldRead) (s : State) : (setHeld l s).svc = s.svc := rfl
@[simp] theorem setHeld_cellar (l : List HeldRead) (s : State) : (setHeld l s).cellar = s.cellar := rfl
@[simp] theorem setHeld_press (l : List HeldRead) (s : State) : (setHeld l s).press = s.press := rfl
@[simp] theorem setHeld_gw (l : List HeldRead) (s : State) : (setHeld l s).gw = s.gw := rfl
@[simp] theorem setHeld_pair (l : List HeldRead) (s : State) : (setHeld l s).pair = s.pair := rfl
@[simp] theorem setHeld_sleep (l : List HeldRead) (s : State) : (setHeld l s).sleep = s.sleep := rfl
@[simp] theorem setHeld_test (l : List HeldRead) (s : State) : (setHeld l s).test = s.test := rfl
@[simp] theorem setHeld_alarms (l : List HeldRead) (s : State) : (setHeld l s).alarms = s.alarms := rfl
@[simp] theorem setHeld_otp (l : List HeldRead) (s : State) : (setHeld l s).otp = s.otp := rfl
@[simp] theorem setHeld_flash (l : List HeldRead) (s : State) : (setHeld l s).flash = s.flash := rfl
@[simp] theorem setHeld_upd (l : List HeldRead) (s : State) : (setHeld l s).upd = s.upd := rfl
@[simp] theorem setHeld_out (l : List HeldRead) (s : State) : (setHeld l s).out = s.out := rfl
@[simp] theorem setHeld_fresh (l : List HeldRead) (s : State) : (setHeld l s).fresh = s.fresh := rfl
@[simp] theorem setHeld_pending (l : List HeldRead) (s : State) : (setHeld l s).pending = s.pending := rfl

@[simp] theorem setNm_power (f : Nm → Nm) (s : State) : (setNm f s).power = s.power := rfl
@[simp] theorem setNm_boot (f : Nm → Nm) (s : State) : (setNm f s).boot = s.boot := rfl
@[simp] theorem setNm_host (f : Nm → Nm) (s : State) : (setNm f s).host = s.host := rfl
@[simp] theorem setNm_ctl (f : Nm → Nm) (s : State) : (setNm f s).ctl = s.ctl := rfl
@[simp] theorem setNm_sets (f : Nm → Nm) (s : State) : (setNm f s).sets = s.sets := rfl
@[simp] theorem setNm_parse (f : Nm → Nm) (s : State) : (setNm f s).parse = s.parse := rfl
@[simp] theorem setNm_vat (f : Nm → Nm) (s : State) : (setNm f s).vat = s.vat := rfl
@[simp] theorem setNm_flow (f : Nm → Nm) (s : State) : (setNm f s).flow = s.flow := rfl
@[simp] theorem setNm_time (f : Nm → Nm) (s : State) : (setNm f s).time = s.time := rfl
@[simp] theorem setNm_edge (f : Nm → Nm) (s : State) : (setNm f s).edge = s.edge := rfl
@[simp] theorem setNm_ports (f : Nm → Nm) (s : State) : (setNm f s).ports = s.ports := rfl
@[simp] theorem setNm_svc (f : Nm → Nm) (s : State) : (setNm f s).svc = s.svc := rfl
@[simp] theorem setNm_cellar (f : Nm → Nm) (s : State) : (setNm f s).cellar = s.cellar := rfl
@[simp] theorem setNm_press (f : Nm → Nm) (s : State) : (setNm f s).press = s.press := rfl
@[simp] theorem setNm_gw (f : Nm → Nm) (s : State) : (setNm f s).gw = s.gw := rfl
@[simp] theorem setNm_pair (f : Nm → Nm) (s : State) : (setNm f s).pair = s.pair := rfl
@[simp] theorem setNm_test (f : Nm → Nm) (s : State) : (setNm f s).test = s.test := rfl
@[simp] theorem setNm_alarms (f : Nm → Nm) (s : State) : (setNm f s).alarms = s.alarms := rfl
@[simp] theorem setNm_otp (f : Nm → Nm) (s : State) : (setNm f s).otp = s.otp := rfl
@[simp] theorem setNm_flash (f : Nm → Nm) (s : State) : (setNm f s).flash = s.flash := rfl
@[simp] theorem setNm_upd (f : Nm → Nm) (s : State) : (setNm f s).upd = s.upd := rfl
@[simp] theorem setNm_out (f : Nm → Nm) (s : State) : (setNm f s).out = s.out := rfl
@[simp] theorem setNm_fresh (f : Nm → Nm) (s : State) : (setNm f s).fresh = s.fresh := rfl
@[simp] theorem setNm_pending (f : Nm → Nm) (s : State) : (setNm f s).pending = s.pending := rfl

@[simp] theorem setPair_power (f : Pair → Pair) (s : State) : (setPair f s).power = s.power := rfl
@[simp] theorem setPair_boot (f : Pair → Pair) (s : State) : (setPair f s).boot = s.boot := rfl
@[simp] theorem setPair_host (f : Pair → Pair) (s : State) : (setPair f s).host = s.host := rfl
@[simp] theorem setPair_ctl (f : Pair → Pair) (s : State) : (setPair f s).ctl = s.ctl := rfl
@[simp] theorem setPair_sets (f : Pair → Pair) (s : State) : (setPair f s).sets = s.sets := rfl
@[simp] theorem setPair_parse (f : Pair → Pair) (s : State) : (setPair f s).parse = s.parse := rfl
@[simp] theorem setPair_vat (f : Pair → Pair) (s : State) : (setPair f s).vat = s.vat := rfl
@[simp] theorem setPair_flow (f : Pair → Pair) (s : State) : (setPair f s).flow = s.flow := rfl
@[simp] theorem setPair_time (f : Pair → Pair) (s : State) : (setPair f s).time = s.time := rfl
@[simp] theorem setPair_edge (f : Pair → Pair) (s : State) : (setPair f s).edge = s.edge := rfl
@[simp] theorem setPair_ports (f : Pair → Pair) (s : State) : (setPair f s).ports = s.ports := rfl
@[simp] theorem setPair_svc (f : Pair → Pair) (s : State) : (setPair f s).svc = s.svc := rfl
@[simp] theorem setPair_cellar (f : Pair → Pair) (s : State) : (setPair f s).cellar = s.cellar := rfl
@[simp] theorem setPair_press (f : Pair → Pair) (s : State) : (setPair f s).press = s.press := rfl
@[simp] theorem setPair_gw (f : Pair → Pair) (s : State) : (setPair f s).gw = s.gw := rfl
@[simp] theorem setPair_sleep (f : Pair → Pair) (s : State) : (setPair f s).sleep = s.sleep := rfl
@[simp] theorem setPair_test (f : Pair → Pair) (s : State) : (setPair f s).test = s.test := rfl
@[simp] theorem setPair_alarms (f : Pair → Pair) (s : State) : (setPair f s).alarms = s.alarms := rfl
@[simp] theorem setPair_otp (f : Pair → Pair) (s : State) : (setPair f s).otp = s.otp := rfl
@[simp] theorem setPair_flash (f : Pair → Pair) (s : State) : (setPair f s).flash = s.flash := rfl
@[simp] theorem setPair_upd (f : Pair → Pair) (s : State) : (setPair f s).upd = s.upd := rfl
@[simp] theorem setPair_out (f : Pair → Pair) (s : State) : (setPair f s).out = s.out := rfl
@[simp] theorem setPair_fresh (f : Pair → Pair) (s : State) : (setPair f s).fresh = s.fresh := rfl
@[simp] theorem setPair_pending (f : Pair → Pair) (s : State) : (setPair f s).pending = s.pending := rfl

@[simp] theorem setCmp_power (n k : Nat) (c : Compare) (s : State) : (setCmp n k c s).power = s.power := rfl
@[simp] theorem setCmp_boot (n k : Nat) (c : Compare) (s : State) : (setCmp n k c s).boot = s.boot := rfl
@[simp] theorem setCmp_host (n k : Nat) (c : Compare) (s : State) : (setCmp n k c s).host = s.host := rfl
@[simp] theorem setCmp_ctl (n k : Nat) (c : Compare) (s : State) : (setCmp n k c s).ctl = s.ctl := rfl
@[simp] theorem setCmp_sets (n k : Nat) (c : Compare) (s : State) : (setCmp n k c s).sets = s.sets := rfl
@[simp] theorem setCmp_parse (n k : Nat) (c : Compare) (s : State) : (setCmp n k c s).parse = s.parse := rfl
@[simp] theorem setCmp_vat (n k : Nat) (c : Compare) (s : State) : (setCmp n k c s).vat = s.vat := rfl
@[simp] theorem setCmp_flow (n k : Nat) (c : Compare) (s : State) : (setCmp n k c s).flow = s.flow := rfl
@[simp] theorem setCmp_edge (n k : Nat) (c : Compare) (s : State) : (setCmp n k c s).edge = s.edge := rfl
@[simp] theorem setCmp_ports (n k : Nat) (c : Compare) (s : State) : (setCmp n k c s).ports = s.ports := rfl
@[simp] theorem setCmp_svc (n k : Nat) (c : Compare) (s : State) : (setCmp n k c s).svc = s.svc := rfl
@[simp] theorem setCmp_cellar (n k : Nat) (c : Compare) (s : State) : (setCmp n k c s).cellar = s.cellar := rfl
@[simp] theorem setCmp_press (n k : Nat) (c : Compare) (s : State) : (setCmp n k c s).press = s.press := rfl
@[simp] theorem setCmp_gw (n k : Nat) (c : Compare) (s : State) : (setCmp n k c s).gw = s.gw := rfl
@[simp] theorem setCmp_pair (n k : Nat) (c : Compare) (s : State) : (setCmp n k c s).pair = s.pair := rfl
@[simp] theorem setCmp_sleep (n k : Nat) (c : Compare) (s : State) : (setCmp n k c s).sleep = s.sleep := rfl
@[simp] theorem setCmp_test (n k : Nat) (c : Compare) (s : State) : (setCmp n k c s).test = s.test := rfl
@[simp] theorem setCmp_alarms (n k : Nat) (c : Compare) (s : State) : (setCmp n k c s).alarms = s.alarms := rfl
@[simp] theorem setCmp_otp (n k : Nat) (c : Compare) (s : State) : (setCmp n k c s).otp = s.otp := rfl
@[simp] theorem setCmp_flash (n k : Nat) (c : Compare) (s : State) : (setCmp n k c s).flash = s.flash := rfl
@[simp] theorem setCmp_upd (n k : Nat) (c : Compare) (s : State) : (setCmp n k c s).upd = s.upd := rfl
@[simp] theorem setCmp_out (n k : Nat) (c : Compare) (s : State) : (setCmp n k c s).out = s.out := rfl
@[simp] theorem setCmp_fresh (n k : Nat) (c : Compare) (s : State) : (setCmp n k c s).fresh = s.fresh := rfl
@[simp] theorem setCmp_pending (n k : Nat) (c : Compare) (s : State) : (setCmp n k c s).pending = s.pending := rfl

@[simp] theorem setCap_power (n k : Nat) (c : Capture) (s : State) : (setCap n k c s).power = s.power := rfl
@[simp] theorem setCap_boot (n k : Nat) (c : Capture) (s : State) : (setCap n k c s).boot = s.boot := rfl
@[simp] theorem setCap_host (n k : Nat) (c : Capture) (s : State) : (setCap n k c s).host = s.host := rfl
@[simp] theorem setCap_ctl (n k : Nat) (c : Capture) (s : State) : (setCap n k c s).ctl = s.ctl := rfl
@[simp] theorem setCap_sets (n k : Nat) (c : Capture) (s : State) : (setCap n k c s).sets = s.sets := rfl
@[simp] theorem setCap_parse (n k : Nat) (c : Capture) (s : State) : (setCap n k c s).parse = s.parse := rfl
@[simp] theorem setCap_vat (n k : Nat) (c : Capture) (s : State) : (setCap n k c s).vat = s.vat := rfl
@[simp] theorem setCap_flow (n k : Nat) (c : Capture) (s : State) : (setCap n k c s).flow = s.flow := rfl
@[simp] theorem setCap_edge (n k : Nat) (c : Capture) (s : State) : (setCap n k c s).edge = s.edge := rfl
@[simp] theorem setCap_ports (n k : Nat) (c : Capture) (s : State) : (setCap n k c s).ports = s.ports := rfl
@[simp] theorem setCap_svc (n k : Nat) (c : Capture) (s : State) : (setCap n k c s).svc = s.svc := rfl
@[simp] theorem setCap_cellar (n k : Nat) (c : Capture) (s : State) : (setCap n k c s).cellar = s.cellar := rfl
@[simp] theorem setCap_press (n k : Nat) (c : Capture) (s : State) : (setCap n k c s).press = s.press := rfl
@[simp] theorem setCap_gw (n k : Nat) (c : Capture) (s : State) : (setCap n k c s).gw = s.gw := rfl
@[simp] theorem setCap_pair (n k : Nat) (c : Capture) (s : State) : (setCap n k c s).pair = s.pair := rfl
@[simp] theorem setCap_sleep (n k : Nat) (c : Capture) (s : State) : (setCap n k c s).sleep = s.sleep := rfl
@[simp] theorem setCap_test (n k : Nat) (c : Capture) (s : State) : (setCap n k c s).test = s.test := rfl
@[simp] theorem setCap_alarms (n k : Nat) (c : Capture) (s : State) : (setCap n k c s).alarms = s.alarms := rfl
@[simp] theorem setCap_otp (n k : Nat) (c : Capture) (s : State) : (setCap n k c s).otp = s.otp := rfl
@[simp] theorem setCap_flash (n k : Nat) (c : Capture) (s : State) : (setCap n k c s).flash = s.flash := rfl
@[simp] theorem setCap_upd (n k : Nat) (c : Capture) (s : State) : (setCap n k c s).upd = s.upd := rfl
@[simp] theorem setCap_out (n k : Nat) (c : Capture) (s : State) : (setCap n k c s).out = s.out := rfl
@[simp] theorem setCap_fresh (n k : Nat) (c : Capture) (s : State) : (setCap n k c s).fresh = s.fresh := rfl
@[simp] theorem setCap_pending (n k : Nat) (c : Capture) (s : State) : (setCap n k c s).pending = s.pending := rfl

@[simp] theorem setAnchor_power (n : Nat) (a : Anchor) (s : State) : (setAnchor n a s).power = s.power := rfl
@[simp] theorem setAnchor_boot (n : Nat) (a : Anchor) (s : State) : (setAnchor n a s).boot = s.boot := rfl
@[simp] theorem setAnchor_host (n : Nat) (a : Anchor) (s : State) : (setAnchor n a s).host = s.host := rfl
@[simp] theorem setAnchor_ctl (n : Nat) (a : Anchor) (s : State) : (setAnchor n a s).ctl = s.ctl := rfl
@[simp] theorem setAnchor_sets (n : Nat) (a : Anchor) (s : State) : (setAnchor n a s).sets = s.sets := rfl
@[simp] theorem setAnchor_parse (n : Nat) (a : Anchor) (s : State) : (setAnchor n a s).parse = s.parse := rfl
@[simp] theorem setAnchor_vat (n : Nat) (a : Anchor) (s : State) : (setAnchor n a s).vat = s.vat := rfl
@[simp] theorem setAnchor_flow (n : Nat) (a : Anchor) (s : State) : (setAnchor n a s).flow = s.flow := rfl
@[simp] theorem setAnchor_time (n : Nat) (a : Anchor) (s : State) : (setAnchor n a s).time = s.time := rfl
@[simp] theorem setAnchor_edge (n : Nat) (a : Anchor) (s : State) : (setAnchor n a s).edge = s.edge := rfl
@[simp] theorem setAnchor_ports (n : Nat) (a : Anchor) (s : State) : (setAnchor n a s).ports = s.ports := rfl
@[simp] theorem setAnchor_svc (n : Nat) (a : Anchor) (s : State) : (setAnchor n a s).svc = s.svc := rfl
@[simp] theorem setAnchor_cellar (n : Nat) (a : Anchor) (s : State) : (setAnchor n a s).cellar = s.cellar := rfl
@[simp] theorem setAnchor_press (n : Nat) (a : Anchor) (s : State) : (setAnchor n a s).press = s.press := rfl
@[simp] theorem setAnchor_gw (n : Nat) (a : Anchor) (s : State) : (setAnchor n a s).gw = s.gw := rfl
@[simp] theorem setAnchor_pair (n : Nat) (a : Anchor) (s : State) : (setAnchor n a s).pair = s.pair := rfl
@[simp] theorem setAnchor_sleep (n : Nat) (a : Anchor) (s : State) : (setAnchor n a s).sleep = s.sleep := rfl
@[simp] theorem setAnchor_test (n : Nat) (a : Anchor) (s : State) : (setAnchor n a s).test = s.test := rfl
@[simp] theorem setAnchor_alarms (n : Nat) (a : Anchor) (s : State) : (setAnchor n a s).alarms = s.alarms := rfl
@[simp] theorem setAnchor_flash (n : Nat) (a : Anchor) (s : State) : (setAnchor n a s).flash = s.flash := rfl
@[simp] theorem setAnchor_upd (n : Nat) (a : Anchor) (s : State) : (setAnchor n a s).upd = s.upd := rfl
@[simp] theorem setAnchor_out (n : Nat) (a : Anchor) (s : State) : (setAnchor n a s).out = s.out := rfl
@[simp] theorem setAnchor_fresh (n : Nat) (a : Anchor) (s : State) : (setAnchor n a s).fresh = s.fresh := rfl
@[simp] theorem setAnchor_pending (n : Nat) (a : Anchor) (s : State) : (setAnchor n a s).pending = s.pending := rfl

/-! ### Reading back -/

/-- Reading another entry after `setSlot`. -/
theorem slotOf_setSlot_ne {n j : Nat} (x : Slot) (s : State) (h : n ≠ j) : slotOf j (setSlot n x s) = slotOf j s := Tbl.get_set_ne _ _ _ h

/-- Reading any entry after `setSlot`. -/
theorem slotOf_setSlot (n j : Nat) (x : Slot) (s : State) (h : Tbl.sorted s.cellar.slots = true) :
    slotOf j (setSlot n x s) = if n = j then x else slotOf j s := Tbl.get_set _ _ _ _ _ h

/-- Reading another entry after `setMacsec`. -/
theorem macsecOf_setMacsec_ne {p j : Nat} (x : Macsec) (s : State) (h : p ≠ j) : macsecOf j (setMacsec p x s) = macsecOf j s := Tbl.get_set_ne _ _ _ h

/-- Reading any entry after `setMacsec`. -/
theorem macsecOf_setMacsec (p j : Nat) (x : Macsec) (s : State) (h : Tbl.sorted s.ports.macsec = true) :
    macsecOf j (setMacsec p x s) = if p = j then x else macsecOf j s := Tbl.get_set _ _ _ _ _ h

/-- Reading another entry after `setEdgeCl`. -/
theorem edgeCl_setEdgeCl_ne {m j : Nat} (x : EdgeCluster) (s : State) (h : m ≠ j) : edgeCl j (setEdgeCl m x s) = edgeCl j s := Tbl.get_set_ne _ _ _ h

/-- Reading any entry after `setEdgeCl`. -/
theorem edgeCl_setEdgeCl (m j : Nat) (x : EdgeCluster) (s : State) (h : Tbl.sorted s.edge.cl = true) :
    edgeCl j (setEdgeCl m x s) = if m = j then x else edgeCl j s := Tbl.get_set _ _ _ _ _ h

/-- Reading another entry after `setFrCtl`. -/
theorem frCtl_setFrCtl_ne {f j : Nat} (x : FrCtl) (s : State) (h : f ≠ j) : frCtl j (setFrCtl f x s) = frCtl j s := Tbl.get_set_ne _ _ _ h

/-- Reading any entry after `setFrCtl`. -/
theorem frCtl_setFrCtl (f j : Nat) (x : FrCtl) (s : State) (h : Tbl.sorted s.edge.fr = true) :
    frCtl j (setFrCtl f x s) = if f = j then x else frCtl j s := Tbl.get_set _ _ _ _ _ h

/-- Reading another entry after `setFv`. -/
theorem fvOf_setFv_ne {i j : Nat} (x : Nat) (s : State) (h : i ≠ j) : fvOf j (setFv i x s) = fvOf j s := Tbl.get_set_ne _ _ _ h

/-- Reading any entry after `setFv`. -/
theorem fvOf_setFv (i j : Nat) (x : Nat) (s : State) (h : Tbl.sorted s.gw.fv = true) :
    fvOf j (setFv i x s) = if i = j then x else fvOf j s := Tbl.get_set _ _ _ _ _ h

/-- Reading another entry after `setGwSeq`. -/
theorem gwSeq_setGwSeq_ne {t j : Nat} (x : GwSeq) (s : State) (h : t ≠ j) : gwSeq j (setGwSeq t x s) = gwSeq j s := Tbl.get_set_ne _ _ _ h

/-- Reading any entry after `setGwSeq`. -/
theorem gwSeq_setGwSeq (t j : Nat) (x : GwSeq) (s : State) (h : Tbl.sorted s.gw.seqs = true) :
    gwSeq j (setGwSeq t x s) = if t = j then x else gwSeq j s := Tbl.get_set _ _ _ _ _ h

/-- Reading another entry after `setGptpPort`. -/
theorem gptpPort_setGptpPort_ne {p j : Nat} (x : GptpPort) (s : State) (h : p ≠ j) : gptpPort j (setGptpPort p x s) = gptpPort j s := Tbl.get_set_ne _ _ _ h

/-- Reading any entry after `setGptpPort`. -/
theorem gptpPort_setGptpPort (p j : Nat) (x : GptpPort) (s : State) (h : Tbl.sorted s.time.gport = true) :
    gptpPort j (setGptpPort p x s) = if p = j then x else gptpPort j s := Tbl.get_set _ _ _ _ _ h

/-- Reading another entry after `setPicker`. -/
theorem pickerOf_setPicker_ne {p j : Nat} (x : ParseUnit) (s : State) (h : p ≠ j) : pickerOf j (setPicker p x s) = pickerOf j s := Tbl.get_set_ne _ _ _ h

/-- Reading any entry after `setPicker`. -/
theorem pickerOf_setPicker (p j : Nat) (x : ParseUnit) (s : State) (h : Tbl.sorted s.parse.pickers = true) :
    pickerOf j (setPicker p x s) = if p = j then x else pickerOf j s := Tbl.get_set _ _ _ _ _ h

/-- Reading another entry after `setWalker`. -/
theorem walkerOf_setWalker_ne {n j : Nat} (x : ParseUnit) (s : State) (h : n ≠ j) : walkerOf j (setWalker n x s) = walkerOf j s := Tbl.get_set_ne _ _ _ h

/-- Reading any entry after `setWalker`. -/
theorem walkerOf_setWalker (n j : Nat) (x : ParseUnit) (s : State) (h : Tbl.sorted s.parse.walkers = true) :
    walkerOf j (setWalker n x s) = if n = j then x else walkerOf j s := Tbl.get_set _ _ _ _ _ h

/-- Reading another entry after `setMeter`. -/
theorem meterState_setMeter_ne {m j : Nat} (x : MeterState) (s : State) (h : m ≠ j) : meterState j (setMeter m x s) = meterState j s := Tbl.get_set_ne _ _ _ h

/-- Reading any entry after `setMeter`. -/
theorem meterState_setMeter (m j : Nat) (x : MeterState) (s : State) (h : Tbl.sorted s.flow.meters = true) :
    meterState j (setMeter m x s) = if m = j then x else meterState j s := Tbl.get_set _ _ _ _ _ h

/-- Reading another entry after `setSgate`. -/
theorem sgateState_setSgate_ne {g j : Nat} (x : SGateState) (s : State) (h : g ≠ j) : sgateState j (setSgate g x s) = sgateState j s := Tbl.get_set_ne _ _ _ h

/-- Reading any entry after `setSgate`. -/
theorem sgateState_setSgate (g j : Nat) (x : SGateState) (s : State) (h : Tbl.sorted s.flow.sgates = true) :
    sgateState j (setSgate g x s) = if g = j then x else sgateState j s := Tbl.get_set _ _ _ _ _ h

/-- Reading another entry after `setFrer`. -/
theorem frerState_setFrer_ne {n j : Nat} (x : FrerState) (s : State) (h : n ≠ j) : frerState j (setFrer n x s) = frerState j s := Tbl.get_set_ne _ _ _ h

/-- Reading any entry after `setFrer`. -/
theorem frerState_setFrer (n j : Nat) (x : FrerState) (s : State) (h : Tbl.sorted s.pair.frer = true) :
    frerState j (setFrer n x s) = if n = j then x else frerState j s := Tbl.get_set _ _ _ _ _ h

/-- Reading another entry after `setLane`. -/
theorem laneOf_setLane_ne {n j : Nat} (x : Lane) (s : State) (h : n ≠ j) : laneOf j (setLane n x s) = laneOf j s := Tbl.get_set_ne _ _ _ h

/-- Reading any entry after `setLane`. -/
theorem laneOf_setLane (n j : Nat) (x : Lane) (s : State) (h : Tbl.sorted s.ports.lane = true) :
    laneOf j (setLane n x s) = if n = j then x else laneOf j s := Tbl.get_set _ _ _ _ _ h

/-- Reading another entry after `setEgr`. -/
theorem egrOf_setEgr_ne {p j : Nat} (x : EgrPort) (s : State) (h : p ≠ j) : egrOf j (setEgr p x s) = egrOf j s := Tbl.get_set_ne _ _ _ h

/-- Reading any entry after `setEgr`. -/
theorem egrOf_setEgr (p j : Nat) (x : EgrPort) (s : State) (h : Tbl.sorted s.flow.egr = true) :
    egrOf j (setEgr p x s) = if p = j then x else egrOf j s := Tbl.get_set _ _ _ _ _ h

/-- Reading another entry after `setMdio`. -/
theorem mdioOf_setMdio_ne {b j : Nat} (x : Mdio) (s : State) (h : b ≠ j) : mdioOf j (setMdio b x s) = mdioOf j s := Tbl.get_set_ne _ _ _ h

/-- Reading any entry after `setMdio`. -/
theorem mdioOf_setMdio (b j : Nat) (x : Mdio) (s : State) (h : Tbl.sorted s.ports.mdio = true) :
    mdioOf j (setMdio b x s) = if b = j then x else mdioOf j s := Tbl.get_set _ _ _ _ _ h

/-- Reading another entry after `setTc10`. -/
theorem tc10Of_setTc10_ne {l j : Nat} (x : Tc10) (s : State) (h : l ≠ j) : tc10Of j (setTc10 l x s) = tc10Of j s := Tbl.get_set_ne _ _ _ h

/-- Reading any entry after `setTc10`. -/
theorem tc10Of_setTc10 (l j : Nat) (x : Tc10) (s : State) (h : Tbl.sorted s.ports.tc10 = true) :
    tc10Of j (setTc10 l x s) = if l = j then x else tc10Of j s := Tbl.get_set _ _ _ _ _ h

/-- Reading another entry after `setPressQueue`. -/
theorem pressQueue_setPressQueue_ne {c j : Nat} (x : List PressJob) (s : State) (h : c ≠ j) : pressQueue j (setPressQueue c x s) = pressQueue j s := Tbl.get_set_ne _ _ _ h

/-- Reading any entry after `setPressQueue`. -/
theorem pressQueue_setPressQueue (c j : Nat) (x : List PressJob) (s : State) (h : Tbl.sorted s.press.queues = true) :
    pressQueue j (setPressQueue c x s) = if c = j then x else pressQueue j s := Tbl.get_set _ _ _ _ _ h

/-- Reading another entry after `setBank`. -/
theorem bankOf_setBank_ne {n j : Nat} (x : Bank) (s : State) (h : n ≠ j) : bankOf j (setBank n x s) = bankOf j s := Tbl.get_set_ne _ _ _ h

/-- Reading any entry after `setBank`. -/
theorem bankOf_setBank (n j : Nat) (x : Bank) (s : State) (h : Tbl.sorted s.test.banks = true) :
    bankOf j (setBank n x s) = if n = j then x else bankOf j s := Tbl.get_set _ _ _ _ _ h

/-- Reading another entry after `setSecure`. -/
theorem secureOf_setSecure_ne {n j : Nat} (x : SecureBank) (s : State) (h : n ≠ j) : secureOf j (setSecure n x s) = secureOf j s := Tbl.get_set_ne _ _ _ h

/-- Reading any entry after `setSecure`. -/
theorem secureOf_setSecure (n j : Nat) (x : SecureBank) (s : State) (h : Tbl.sorted s.test.secure = true) :
    secureOf j (setSecure n x s) = if n = j then x else secureOf j s := Tbl.get_set _ _ _ _ _ h

/-- Reading another entry after `setTb`. -/
theorem tbOf_setTb_ne {n j : Nat} (x : TimeBase) (s : State) (h : n ≠ j) : tbOf j (setTb n x s) = tbOf j s := Tbl.get_set_ne _ _ _ h

/-- Reading any entry after `setTb`. -/
theorem tbOf_setTb (n j : Nat) (x : TimeBase) (s : State) (h : Tbl.sorted s.time.tb = true) :
    tbOf j (setTb n x s) = if n = j then x else tbOf j s := Tbl.get_set _ _ _ _ _ h

/-- Reading another entry after `setPps`. -/
theorem ppsOf_setPps_ne {k j : Nat} (x : Pps) (s : State) (h : k ≠ j) : ppsOf j (setPps k x s) = ppsOf j s := Tbl.get_set_ne _ _ _ h

/-- Reading any entry after `setPps`. -/
theorem ppsOf_setPps (k j : Nat) (x : Pps) (s : State) (h : Tbl.sorted s.time.pps = true) :
    ppsOf j (setPps k x s) = if k = j then x else ppsOf j s := Tbl.get_set _ _ _ _ _ h

/-- Reading another entry after `setGptpSlot`. -/
theorem gptpSlot_setGptpSlot_ne {i j : Nat} (x : GptpSlot) (s : State) (h : i ≠ j) : gptpSlot j (setGptpSlot i x s) = gptpSlot j s := Tbl.get_set_ne _ _ _ h

/-- Reading any entry after `setGptpSlot`. -/
theorem gptpSlot_setGptpSlot (i j : Nat) (x : GptpSlot) (s : State) (h : Tbl.sorted s.time.slot = true) :
    gptpSlot j (setGptpSlot i x s) = if i = j then x else gptpSlot j s := Tbl.get_set _ _ _ _ _ h

/-- Reading another entry after `setVatQueue`. -/
theorem vatQueue_setVatQueue_ne {q j : Nat} (x : VatQueue) (s : State) (h : q ≠ j) : vatQueue j (setVatQueue q x s) = vatQueue j s := Tbl.get_set_ne _ _ _ h

/-- Reading any entry after `setVatQueue`. -/
theorem vatQueue_setVatQueue (q j : Nat) (x : VatQueue) (s : State) (h : Tbl.sorted s.vat.queues = true) :
    vatQueue j (setVatQueue q x s) = if q = j then x else vatQueue j s := Tbl.get_set _ _ _ _ _ h

/-- Reading another entry after `setVatPort`. -/
theorem vatPort_setVatPort_ne {p j : Nat} (x : VatPort) (s : State) (h : p ≠ j) : vatPort j (setVatPort p x s) = vatPort j s := Tbl.get_set_ne _ _ _ h

/-- Reading any entry after `setVatPort`. -/
theorem vatPort_setVatPort (p j : Nat) (x : VatPort) (s : State) (h : Tbl.sorted s.vat.ports = true) :
    vatPort j (setVatPort p x s) = if p = j then x else vatPort j s := Tbl.get_set _ _ _ _ _ h

/-- Reading another entry after `setEdgeChan`. -/
theorem edgeChan_setEdgeChan_ne {n j : Nat} (x : EdgeChan) (s : State) (h : n ≠ j) : edgeChan j (setEdgeChan n x s) = edgeChan j s := Tbl.get_set_ne _ _ _ h

/-- Reading any entry after `setEdgeChan`. -/
theorem edgeChan_setEdgeChan (n j : Nat) (x : EdgeChan) (s : State) (h : Tbl.sorted s.edge.ch = true) :
    edgeChan j (setEdgeChan n x s) = if n = j then x else edgeChan j s := Tbl.get_set _ _ _ _ _ h

/-- Reading another entry after `setNmBus`. -/
theorem nmBusOf_setNmBus_ne {p j : Nat} (x : NmBus) (s : State) (h : p ≠ j) : nmBusOf j (setNmBus p x s) = nmBusOf j s := Tbl.get_set_ne _ _ _ h

/-- Reading any entry after `setNmBus`. -/
theorem nmBusOf_setNmBus (p j : Nat) (x : NmBus) (s : State) (h : Tbl.sorted s.sleep.nm.buses = true) :
    nmBusOf j (setNmBus p x s) = if p = j then x else nmBusOf j s := Tbl.get_set _ _ _ _ _ h

/-- Reading another entry after `setMb`. -/
theorem mbOf_setMb_ne {k j : Nat} (x : Mailbox) (s : State) (h : k ≠ j) : mbOf j (setMb k x s) = mbOf j s := Tbl.get_set_ne _ _ _ h

/-- Reading any entry after `setMb`. -/
theorem mbOf_setMb (k j : Nat) (x : Mailbox) (s : State) (h : Tbl.sorted s.ctl.mb = true) :
    mbOf j (setMb k x s) = if k = j then x else mbOf j s := Tbl.get_set _ _ _ _ _ h

/-- Reading another entry after `setEthPort`. -/
theorem ethPort_setEthPort_ne {p j : Nat} (x : EthPort) (s : State) (h : p ≠ j) : ethPort j (setEthPort p x s) = ethPort j s := Tbl.get_set_ne _ _ _ h

/-- Reading any entry after `setEthPort`. -/
theorem ethPort_setEthPort (p j : Nat) (x : EthPort) (s : State) (h : Tbl.sorted s.ports.eth = true) :
    ethPort j (setEthPort p x s) = if p = j then x else ethPort j s := Tbl.get_set _ _ _ _ _ h

end Sys2Proof.Machine
end

