-- ==== Sys2Proof/WellFormed.lean ====
section
/-! DEFINITION. Which commands are well formed: every operand lies in the range of what it names. -/

namespace Sys2Proof

/-- The operands of a command lie in their ranges. -/
def Instr.wf : Instr → Bool
  | .registerWrite init addr _ => decide (init < 5) && decide (addr < 0x400000)
  | .denPowerOnReset _ => true
  | .porstNAssert => true
  | .porstNRelease boot => decide (boot < 8)
  | .allRailsGood => true
  | .pllLockComplete => true
  | .supplyWindowExpiry late => decide (late < 128)
  | .railOutOfRange rail => decide (rail < 7)
  | .brownOut rail => decide (rail < 7)
  | .vddAonLoss => true
  | .faultRestart _ => true
  | .refClockFault => true
  | .tjThresholdCross _ => true
  | .overtempReset _ => true
  | .warmNAssert => true
  | .warmResetStart => true
  | .powerUpBistComplete duration noRef _ _ _ => decide (duration < 65536) && decide (noRef < 65536)
  | .bootImageLoadComplete => true
  | .dieshInitComplete => true
  | .pcieMemRead rid _ addr _ => decide (rid < 65536) && decide (addr < 0x1000000)
  | .pcieMemWrite rid _ addr _ => decide (rid < 65536) && decide (addr < 0x1000000)
  | .pcieAtomicOp rid _ addr _ op _ _ => decide (rid < 65536) && decide (addr < 0x1000000) && decide (op < 3)
  | .atomicOpRetry => true
  | .pcieDelayedReadTimeout init addr _ => decide (init < 5) && decide (addr < 0x400000)
  | .pciePerstAssert => true
  | .pcieHotReset => true
  | .pcieFlr => true
  | .hostMapWrite init value => decide (init < 5) && decide (value < 4294967296)
  | .msixUnmask init vector => decide (init < 5) && decide (vector < 128)
  | .evCauseClear init ev value => decide (init < 5) && decide (ev < 128) && decide (value < 4294967296)
  | .ringCtrlWrite init _ ring value => decide (init < 5) && decide (ring < 32) && decide (value < 4294967296)
  | .ringTailWrite init _ ring value => decide (init < 5) && decide (ring < 32) && decide (value < 4294967296)
  | .txDescriptorProcess _ _ => true
  | .rxFrameDeliver _ => true
  | .dmaError _ ring => decide (ring < 32)
  | .ringModTimeout _ ring => decide (ring < 32)
  | .tsRecordWrite ring => decide (ring < 32)
  | .tsRecordTimeout ring => decide (ring < 32)
  | .spiRead addr size crc => decide (addr < 0x1000000) && decide (size < 256) && decide (crc < 256)
  | .spiWrite addr _ crc => decide (addr < 0x1000000) && decide (crc < 256)
  | .spiLockRead addr size crc => decide (addr < 0x1000000) && decide (size < 256) && decide (crc < 256)
  | .spiUnlockWrite addr _ crc => decide (addr < 0x1000000) && decide (crc < 256)
  | .spiCancel crc => decide (crc < 256)
  | .spiNop opcode crc => decide (opcode < 256) && decide (crc < 256)
  | .spiRepeatLast crc => decide (crc < 256)
  | .spiReadCollect => true
  | .spiCsEarlyRise _ => true
  | .bridgeFetchComplete bridge init _ addr _ _ => decide (bridge < 4) && decide (init < 5) && decide (addr < 0x400000)
  | .bridgeReadDiscard bridge init _ addr _ => decide (bridge < 4) && decide (init < 5) && decide (addr < 0x400000)
  | .bridgeWriteDeliver bridge init => decide (bridge < 4) && decide (init < 5)
  | .semLockLapse => true
  | .pairBridgeRequest _ addr _ _ => decide (addr < 0x400000)
  | .edgeErrPopRead init cluster _ => decide (init < 5) && decide (cluster < 6)
  | .mbDoorbellWrite init mb => decide (init < 5) && decide (mb < 5)
  | .mbRspAckWrite init mb => decide (init < 5) && decide (mb < 5)
  | .mbRequestWrite init mb _ _ => decide (init < 5) && decide (mb < 5)
  | .noticeRdWrite init mb value => decide (init < 5) && decide (mb < 5) && decide (value < 4294967296)
  | .timedSwapFire => true
  | .setDrainEnd => true
  | .setDrainTimeout => true
  | .shadowCopyComplete => true
  | .snapshotPeriodicTimer => true
  | .snapshotPublish => true
  | .serviceSessionExpiry => true
  | .ethFrameReceive port _ _ how => (decide (port < 32) || decide (port = 129)) && decide (how < 4)
  | .pickerThreadAllocate picker => decide (picker < 48)
  | .ldf picker => decide (picker < 48)
  | .cmp picker => decide (picker < 48)
  | .br picker => decide (picker < 48)
  | .jt picker => decide (picker < 48)
  | .add picker => decide (picker < 48)
  | .sub picker => decide (picker < 48)
  | .and picker => decide (picker < 48)
  | .or picker => decide (picker < 48)
  | .shr picker => decide (picker < 48)
  | .shl picker => decide (picker < 48)
  | .adv picker => decide (picker < 48)
  | .push picker => decide (picker < 48)
  | .key picker => decide (picker < 48)
  | .metaField picker => decide (picker < 48)
  | .chklen picker => decide (picker < 48)
  | .defer picker => decide (picker < 48)
  | .done picker => decide (picker < 48)
  | .mal picker => decide (picker < 48)
  | .pickerStallResume picker => decide (picker < 48)
  | .parseBudgetExhausted picker => decide (picker < 48)
  | .walkerTakeover walker => decide (walker < 8)
  | .trellisNodeVisit walker => decide (walker < 8)
  | .trellisVisitLimit walker => decide (walker < 8)
  | .parseResultDeliver port => decide (port < 168)
  | .pickerFaultRerun _ unit => decide (unit < 48)
  | .pstoreEccError _ kind _ _ => decide (kind < 3)
  | .pstoreRewrite _ kind _ => decide (kind < 3)
  | .macAgeScan => true
  | .tableEccError _ _ _ _ => true
  | .tableWordRewrite _ _ _ => true
  | .vintnerDirectedSend port _ _ _ => decide (port < 168)
  | .egressSelect port side => decide (port < 32) && decide (side < 3)
  | .transmissionComplete port _ => decide (port < 32)
  | .macsecHoldExpiry port => decide (port < 8)
  | .residenceSweep => true
  | .vatEccError kind _ _ => decide (kind < 3)
  | .badgerAudit => true
  | .pfcRepeatTimer port prio => (decide (8 ≤ port) && decide (port < 32)) && decide (prio < 8)
  | .pfcFrameReceive port classes _ => (decide (8 ≤ port) && decide (port < 32)) && decide (classes < 256)
  | .pfcPauseExpiry port prio => (decide (8 ≤ port) && decide (port < 32)) && decide (prio < 8)
  | .gateEntryChange port => decide (port < 32)
  | .preemptVerifyAttempt port _ => decide (port < 32)
  | .streamGateEntryChange gate => decide (gate < 1024)
  | .edgeQueueTransfer chan => decide (chan < 96)
  | .timeCycleTick => true
  | .compareFire tb unit => decide (tb < 6) && decide (unit < 4)
  | .captureEdge source _ => decide (source < 16)
  | .captureRearm init tb unit value => decide (init < 5) && decide (tb < 6) && decide (unit < 4) && decide (value < 4294967296)
  | .tbLatchWrite init value => decide (init < 5) && decide (value < 4294967296)
  | .ppsPulseEnd k => decide (k < 2)
  | .gptpSyncReceive slot port _ steps gm _ => decide (slot < 5) && decide (port < 32) && decide (steps < 65536) && decide (gm < 18446744073709551616)
  | .gptpSyncTxTimer slot port => decide (slot < 5) && decide (port < 32)
  | .gptpSyncTimeout slot => decide (slot < 5)
  | .gptpAnnounceReceive slot port prio1 quality prio2 gm steps => decide (slot < 5) && decide (port < 32) && decide (prio1 < 256) && decide (quality < 4294967296) && decide (prio2 < 256) && decide (gm < 18446744073709551616) && decide (steps < 65536)
  | .gptpPdelayTimer port => decide (port < 32)
  | .gptpPdelayResponse port neighbour _ _ _ => decide (port < 32) && decide (neighbour < 18446744073709551616)
  | .gptpPdelayRequestRx port => decide (port < 32)
  | .edgeFrameReceive chan _ flags ctrl ident prio vcid _ _ err => decide (chan < 96) && decide (flags < 256) && decide (ctrl < 256) && decide (ident < 4294967296) && decide (prio < 2048) && decide (vcid < 256) && decide (err < 12)
  | .edgeFrameToVat chan => decide (chan < 96)
  | .edgeIntegrationComplete chan => decide (chan < 96)
  | .canTxAttempt chan => decide (chan < 96)
  | .canTxAttemptEnd chan result kind _ => decide (chan < 96) && decide (result < 3) && decide (kind < 8)
  | .busOffRecovery chan => decide (chan < 96)
  | .ltWindowExpiry chan => decide (chan < 96)
  | .linSlotStart chan => decide (chan < 96)
  | .linResponseTimeout chan => decide (chan < 96)
  | .linHeaderReceive chan ident _ => decide (chan < 96) && decide (ident < 64)
  | .linStuckDominant chan => decide (chan < 96)
  | .frSlot ctl slot cycle => decide (ctl < 4) && decide (slot < 2048) && decide (cycle < 64)
  | .frPocChange ctl poc => decide (ctl < 4) && decide (poc < 8)
  | .t1sTxOpportunity chan _ _ => decide (chan < 96)
  | .t1sBeaconTimeout chan => decide (chan < 96)
  | .t1sJabber chan => decide (chan < 96)
  | .tmcFrame cluster inbound => decide (cluster < 6) && decide (inbound < 18446744073709551616)
  | .trxFaultPersist chan => decide (chan < 96)
  | .gwCopyProcess => true
  | .gwPressCompletion => true
  | .gwPressTimeout _ => true
  | .batchCloseTimer tunnel => decide (tunnel < 512)
  | .fvSaveTimer => true
  | .fvReservationCommit index => decide (index < 16384)
  | .portCJob => true
  | .pcsConditionChange port _ _ _ _ _ _ _ => (decide (port < 32) || decide (port = 129))
  | .linkUpHoldExpiry port => (decide (port < 32) || decide (port = 129))
  | .linkDownHoldExpiry port => (decide (port < 32) || decide (port = 129))
  | .anControlWord port word _ _ _ => (decide (port < 32) || decide (port = 129)) && decide (word < 65536)
  | .mdioTransactionComplete bus value => decide (bus < 2) && decide (value < 65536)
  | .tc10StatusPoll lane value => decide (lane < 15) && decide (value < 65536)
  | .tc10AckTimeout lane => decide (lane < 15)
  | .phyWakeInput lane => decide (lane < 15)
  | .serviceRequest => true
  | .servicePoll => true
  | .serviceAck => true
  | .serviceLinkLost => true
  | .mkaFrameReceive port _ _ _ _ txSsci rxSsci _ => decide (port < 8) && decide (txSsci < 4294967296) && decide (rxSsci < 4294967296)
  | .mkaHelloTimer port _ => decide (port < 8)
  | .pressTurn _ _ => true
  | .pressDescriptorComplete cls => decide (cls < 8)
  | .keySlotScrub slot disturb => decide (slot < 256) && decide (disturb < 4294967296)
  | .tamperDetect source => decide (source < 5)
  | .tamperRederive => true
  | .pressLockExpiry => true
  | .trngHealthFail => true
  | .trngRecovered => true
  | .drbgReseed => true
  | .persistSlotStore slot => decide (slot < 256)
  | .vselSettleExpiry => true
  | .wakeDetect source matcher channel _ => decide (source < 31) && decide (matcher < 8) && decide (channel < 96)
  | .sleepEntryStart => true
  | .sleepDrainComplete => true
  | .sleepDrainTimeout => true
  | .sleepSaveComplete => true
  | .inhReleaseAfterFall => true
  | .sleepExitRailsGood => true
  | .sleepExitComplete _ duration noRef _ => decide (duration < 65536) && decide (noRef < 65536)
  | .levelRestore => true
  | .falseWakeTimeout => true
  | .nmFrameReceive port => decide (port < 128)
  | .nmBusTimeout port => decide (port < 128)
  | .nmNodeExpiry port node => decide (port < 128) && decide (node < 256)
  | .nmTxCycle port => decide (port < 128)
  | .nmHoldExpiry port => decide (port < 128)
  | .nmCommitStart => true
  | .linSlaveSilenceTimeout chan => decide (chan < 96)
  | .offenderTimeout port node => decide (port < 128) && decide (node < 256)
  | .pairLinkUp => true
  | .pairLinkDown => true
  | .pairHelloTimer => true
  | .pairHelloReceive dev peer ident fwrev hbUs detectUs ckptMs respMs _ _ _ epoch => decide (dev < 64) && decide (peer < 64) && decide (ident < 4294967296) && decide (fwrev < 4294967296) && decide (hbUs < 65536) && decide (detectUs < 65536) && decide (ckptMs < 65536) && decide (respMs < 65536) && decide (epoch < 4294967296)
  | .heartbeatTimer => true
  | .owlChallengeRefresh => true
  | .owlResponseWrite => true
  | .owlHeartbeatReceive path port _ => decide (path < 2) && decide (port < 8)
  | .owlLastGaspReceive path port _ => decide (path < 2) && decide (port < 8)
  | .owlTakeoverReceive path port _ => decide (path < 2) && decide (port < 8)
  | .owlBeaconReceive path port _ => decide (path < 2) && decide (port < 8)
  | .pathSilence path => decide (path < 2)
  | .responseStale => true
  | .takeoverForwarding => true
  | .takeoverRepeat => true
  | .fenceInRise _ => true
  | .fenceRoostEntry => true
  | .pairCheckpointTimer => true
  | .inSyncLapse => true
  | .handoverAckReceive => true
  | .pairSleepReceive target => (decide (2 ≤ target) && decide (target ≤ 3))
  | .pairSleepAckTimeout => true
  | .pairSleepAbortReceive => true
  | .pairRejoinTimeout => true
  | .pairDissolveReceive => true
  | .beaconTimer => true
  | .frerRecoveryTimeout stream => decide (stream < 2048)
  | .frerLatentCheck stream => decide (stream < 2048)
  | .frerLatentReset stream => decide (stream < 2048)
  | .lockstepMismatch bad mask => decide (bad < 3) && decide (mask < 32)
  | .controllerCheckpointWrite => true
  | .chainDataReceive port => decide (port < 32)
  | .chainDataAckReceive port => decide (port < 32)
  | .chainRetransmitTimer port part block => decide (port < 32) && decide (part < 256) && decide (block < 65536)
  | .chainArmReceive port => decide (port < 32)
  | .chainConfirmReceive port => decide (port < 32)
  | .chainAbortReceive port => decide (port < 32)
  | .chainStatusReceive port => decide (port < 32)
  | .chainCtrlAckReceive port => decide (port < 32)
  | .updStatusTimer => true
  | .armRepeatTimer => true
  | .updateActivation => true
  | .trialWindowExpiry => true
  | .confirmRepeatTimer => true
  | .incompleteCheck => true
  | .packageReadbackComplete _ => true
  | .moleVisit _ ue _ _ => decide (ue < 4294967296)
  | .scratchZeroComplete bank => decide (bank < 16)
  | .scrOwnWrite init bank value => decide (init < 5) && decide (bank < 16) && decide (value < 4294967296)
  | .traceWriterDrain => true
  | .traceRdWrite init value => decide (init < 5) && decide (value < 4294967296)
  | .alarmClear init value => decide (init < 5) && decide (value < 4294967296)
  | .cmdDeviceInfo mb => decide (mb < 5)
  | .cmdNoticeSubscribe mb => decide (mb < 5)
  | .cmdEventSpiMask mb => decide (mb < 5)
  | .cmdDeviceReset mb => decide (mb < 5)
  | .cmdServiceAuth mb => decide (mb < 5)
  | .cmdServiceEnd mb => decide (mb < 5)
  | .cmdBootImage mb => decide (mb < 5)
  | .cmdSetStatus mb => decide (mb < 5)
  | .cmdSetCopy mb => decide (mb < 5)
  | .cmdSetLoad mb => decide (mb < 5)
  | .cmdSetSwap mb => decide (mb < 5)
  | .cmdSetSwapCancel mb => decide (mb < 5)
  | .cmdCounterSnapshot mb => decide (mb < 5)
  | .cmdCounterRead mb => decide (mb < 5)
  | .cmdCounterClear mb => decide (mb < 5)
  | .cmdLogConfig mb => decide (mb < 5)
  | .cmdLogRead mb => decide (mb < 5)
  | .cmdParseLoad mb => decide (mb < 5)
  | .cmdParsePort mb => decide (mb < 5)
  | .cmdParseDevice mb => decide (mb < 5)
  | .cmdParseTry mb => decide (mb < 5)
  | .cmdPickerStatus mb => decide (mb < 5)
  | .cmdPickerRetire mb => decide (mb < 5)
  | .cmdPickerReadmit mb _ => decide (mb < 5)
  | .cmdClsProfile mb => decide (mb < 5)
  | .cmdClsPort mb => decide (mb < 5)
  | .cmdEmWrite mb => decide (mb < 5)
  | .cmdEmRead mb => decide (mb < 5)
  | .cmdActionWrite mb => decide (mb < 5)
  | .cmdTernaryWrite mb => decide (mb < 5)
  | .cmdZoneWrite mb => decide (mb < 5)
  | .cmdAnomalyWrite mb => decide (mb < 5)
  | .cmdVlanWrite mb => decide (mb < 5)
  | .cmdMcastWrite mb => decide (mb < 5)
  | .cmdMacControl mb => decide (mb < 5)
  | .cmdFoxPort mb => decide (mb < 5)
  | .cmdMirrorSession mb => decide (mb < 5)
  | .cmdClsDevice mb => decide (mb < 5)
  | .cmdClsCounters mb => decide (mb < 5)
  | .cmdVatQueue mb => decide (mb < 5)
  | .cmdVatPort mb => decide (mb < 5)
  | .cmdVatStatus mb => decide (mb < 5)
  | .cmdVatQueueStatus mb => decide (mb < 5)
  | .cmdVatPeek mb => decide (mb < 5)
  | .cmdVatPortReset mb => decide (mb < 5)
  | .cmdVatBadger mb => decide (mb < 5)
  | .cmdSchedPort mb => decide (mb < 5)
  | .cmdGateList mb => decide (mb < 5)
  | .cmdPreempt mb => decide (mb < 5)
  | .cmdSchedStatus mb => decide (mb < 5)
  | .cmdStreamFilter mb => decide (mb < 5)
  | .cmdStreamGate mb => decide (mb < 5)
  | .cmdMeter mb => decide (mb < 5)
  | .cmdPoliceCounters mb => decide (mb < 5)
  | .cmdPoliceUnlatch mb => decide (mb < 5)
  | .cmdEdgeQueues mb => decide (mb < 5)
  | .cmdTbEnable mb => decide (mb < 5)
  | .cmdTbStep mb => decide (mb < 5)
  | .cmdTbRate mb => decide (mb < 5)
  | .cmdTbReset mb => decide (mb < 5)
  | .cmdTbStatus mb => decide (mb < 5)
  | .cmdGptpDomain mb => decide (mb < 5)
  | .cmdGptpPort mb => decide (mb < 5)
  | .cmdGptpStatus mb => decide (mb < 5)
  | .cmdEdgeConfig mb => decide (mb < 5)
  | .cmdEdgeState mb => decide (mb < 5)
  | .cmdEdgeStatus mb => decide (mb < 5)
  | .cmdEdgeFilter mb => decide (mb < 5)
  | .cmdEdgeRetire mb => decide (mb < 5)
  | .cmdEdgeReadmit mb => decide (mb < 5)
  | .cmdLinTable mb => decide (mb < 5)
  | .cmdFrConfig mb => decide (mb < 5)
  | .cmdT1sPlca mb => decide (mb < 5)
  | .cmdTmc mb => decide (mb < 5)
  | .cmdGwTunnel mb => decide (mb < 5)
  | .cmdGwProgram mb => decide (mb < 5)
  | .cmdGwSecoc mb => decide (mb < 5)
  | .cmdGwFreshness mb => decide (mb < 5)
  | .cmdGwStatus mb => decide (mb < 5)
  | .cmdGwCounters mb => decide (mb < 5)
  | .cmdLaneMode mb => decide (mb < 5)
  | .cmdPortConfig mb => decide (mb < 5)
  | .cmdPortState mb => decide (mb < 5)
  | .cmdPortStatus mb => decide (mb < 5)
  | .cmdPortRetire mb => decide (mb < 5)
  | .cmdPortReadmit mb => decide (mb < 5)
  | .cmdPhyBind mb => decide (mb < 5)
  | .cmdMdio mb => decide (mb < 5)
  | .cmdTc10 mb => decide (mb < 5)
  | .cmdMacsecPort mb => decide (mb < 5)
  | .cmdMacsecTxsa mb => decide (mb < 5)
  | .cmdMacsecRxsc mb => decide (mb < 5)
  | .cmdMacsecRxsa mb => decide (mb < 5)
  | .cmdMacsecStatus mb => decide (mb < 5)
  | .cmdKeyWrite mb => decide (mb < 5)
  | .cmdKeyGenerate mb => decide (mb < 5)
  | .cmdKeyDerive mb => decide (mb < 5)
  | .cmdKeyClear mb => decide (mb < 5)
  | .cmdKeyInfo mb => decide (mb < 5)
  | .cmdPressRun mb => decide (mb < 5)
  | .cmdPressLock mb => decide (mb < 5)
  | .cmdPressStatus mb => decide (mb < 5)
  | .cmdAsymVerify mb => decide (mb < 5)
  | .cmdAnchor mb => decide (mb < 5)
  | .cmdLifeCycle mb => decide (mb < 5)
  | .cmdTamper mb => decide (mb < 5)
  | .cmdPowerLevel mb => decide (mb < 5)
  | .cmdSleepEnter mb => decide (mb < 5)
  | .cmdSleepExit mb => decide (mb < 5)
  | .cmdWakeConfig mb => decide (mb < 5)
  | .cmdWakeMatcher mb => decide (mb < 5)
  | .cmdNmBus mb => decide (mb < 5)
  | .cmdNmControl mb => decide (mb < 5)
  | .cmdStayawakeLog mb => decide (mb < 5)
  | .cmdPairConfig mb => decide (mb < 5)
  | .cmdPairStatus mb => decide (mb < 5)
  | .cmdPairHandover mb => decide (mb < 5)
  | .cmdPairFence mb => decide (mb < 5)
  | .cmdPairCheckpoint mb => decide (mb < 5)
  | .cmdLockstepStatus mb => decide (mb < 5)
  | .cmdLogicalPort mb => decide (mb < 5)
  | .cmdFrerStream mb => decide (mb < 5)
  | .cmdFrerBind mb => decide (mb < 5)
  | .cmdFrerCounters mb => decide (mb < 5)
  | .cmdFrerReset mb => decide (mb < 5)
  | .cmdUpdStatus mb => decide (mb < 5)
  | .cmdUpdManifest mb => decide (mb < 5)
  | .cmdUpdData mb => decide (mb < 5)
  | .cmdUpdChain mb => decide (mb < 5)
  | .cmdUpdArm mb => decide (mb < 5)
  | .cmdUpdConfirm mb => decide (mb < 5)
  | .cmdUpdAbort mb => decide (mb < 5)
  | .cmdUpdVehicle mb => decide (mb < 5)
  | .cmdSelftestRun mb _ detail => decide (mb < 5) && decide (detail < 4294967296)
  | .cmdBistResult mb => decide (mb < 5)
  | .cmdRepairList mb => decide (mb < 5)
  | .cmdRepairBurn mb _ => decide (mb < 5)
  | .cmdScratchOwn mb => decide (mb < 5)
  | .cmdScratchStatus mb => decide (mb < 5)
  | .cmdMoleConfig mb => decide (mb < 5)
  | .pciePerstRelease => true
  | .handoverAckTimeout => true
  | .pairSleepAckReceive => true
  | .pairMb3FrameReceive kind _ => decide (kind < 3)
  | .shadowReadyDeadline => true
  | .tamperSourceClear source => decide (source < 5)
  | .suppressionEnd port node => decide (port < 128) && decide (node < 256)

end Sys2Proof
end

