-- ==== Sys2Proof/Tests/Slice0.lean ====
section
/-! SUPPORT. The ill-formed commands that WellFormed refuses, a few single steps with results from the spec and from the
standards it names, and for every statement with premises values that meet them, clause by clause. -/

set_option linter.unusedVariables false
set_option maxRecDepth 4000
set_option Elab.async false

namespace Sys2Proof.Tests

open Sys2Proof Sys2Proof.Machine

/-- A device that has started, on which Diesh serves the mailboxes. -/
def up : State :=
  { power := { porst := true, hold := .none, phase := .done, railGood := 0x7F, ready := true, perst := false }
    boot := { stage := 6, count := 1 }
    sets := { gen := 1 } }

/-- A mailbox holds a request that Diesh serves. -/
def ask (mb code t : Nat) (p : Bytes) (s : State) : State :=
  setMb mb { mbOf mb s with state := .busy, cur := some { mb := mb, cmd := code, tag := 7, target := t, params := p } } s

/-- Lengths and first bytes of parameters. -/
def par (n : Nat) (l : List Nat) : Bytes := slice (l.map (BitVec.ofNat 8)) 0 n

/-- The device id has 6 bits. -/
theorem devId_lt : devId < 64 := Config.deviceIdRaw.isLt

/-! ### Ill-formed commands -/

theorem test_illFormed_refused_first : ([
    .registerWrite 5 0 [], .registerWrite 0 4194304 [], .porstNRelease 8, .supplyWindowExpiry 128,
    .railOutOfRange 7, .brownOut 7, .powerUpBistComplete 65536 0 [] [] false,
    .powerUpBistComplete 0 65536 [] [] false, .pcieMemRead 65536 false 0 0, .pcieMemRead 0 false 16777216 0,
    .pcieMemWrite 65536 false 0 [], .pcieMemWrite 0 false 16777216 [], .pcieAtomicOp 65536 false 0 0 0 0 0,
    .pcieAtomicOp 0 false 16777216 0 0 0 0, .pcieAtomicOp 0 false 0 0 3 0 0, .pcieDelayedReadTimeout 5 0 0,
    .pcieDelayedReadTimeout 0 4194304 0, .hostMapWrite 5 0, .hostMapWrite 0 4294967296, .msixUnmask 5 0,
    .msixUnmask 0 128, .evCauseClear 5 0 0, .evCauseClear 0 128 0, .evCauseClear 0 0 4294967296,
    .ringCtrlWrite 5 false 0 0, .ringCtrlWrite 0 false 32 0, .ringCtrlWrite 0 false 0 4294967296,
    .ringTailWrite 5 false 0 0, .ringTailWrite 0 false 32 0, .ringTailWrite 0 false 0 4294967296,
    .dmaError false 32, .ringModTimeout false 32, .tsRecordWrite 32, .tsRecordTimeout 32, .spiRead 16777216 0 0,
    .spiRead 0 256 0, .spiRead 0 0 256, .spiWrite 16777216 [] 0, .spiWrite 0 [] 256, .spiLockRead 16777216 0 0,
    .spiLockRead 0 256 0, .spiLockRead 0 0 256, .spiUnlockWrite 16777216 [] 0, .spiUnlockWrite 0 [] 256,
    .spiCancel 256, .spiNop 256 0, .spiNop 0 256, .spiRepeatLast 256, .bridgeFetchComplete 4 0 0 0 0 none,
    .bridgeFetchComplete 0 5 0 0 0 none, .bridgeFetchComplete 0 0 0 4194304 0 none, .bridgeReadDiscard 4 0 0 0 0,
    .bridgeReadDiscard 0 5 0 0 0, .bridgeReadDiscard 0 0 0 4194304 0, .bridgeWriteDeliver 4 0,
    .bridgeWriteDeliver 0 5, .pairBridgeRequest 0 4194304 0 [], .edgeErrPopRead 5 0 0, .edgeErrPopRead 0 6 0,
    .mbDoorbellWrite 5 0] : List Instr).all (fun i => !i.wf) = true := by decide +kernel

theorem test_illFormed_refused_second : ([
    .mbDoorbellWrite 0 5, .mbRspAckWrite 5 0, .mbRspAckWrite 0 5, .mbRequestWrite 5 0 0 [],
    .mbRequestWrite 0 5 0 [], .noticeRdWrite 5 0 0, .noticeRdWrite 0 5 0, .noticeRdWrite 0 0 4294967296,
    .ethFrameReceive 32 [] false 0, .ethFrameReceive 0 [] false 4, .pickerThreadAllocate 48, .ldf 48, .cmp 48,
    .br 48, .jt 48, .add 48, .sub 48, .and 48, .or 48, .shr 48, .shl 48, .adv 48, .push 48, .key 48, .metaField 48,
    .chklen 48, .defer 48, .done 48, .mal 48, .pickerStallResume 48, .parseBudgetExhausted 48, .walkerTakeover 8,
    .trellisNodeVisit 8, .trellisVisitLimit 8, .parseResultDeliver 168, .pickerFaultRerun false 48,
    .pstoreEccError false 3 0 false, .pstoreRewrite false 3 0, .vintnerDirectedSend 168 0 [] none,
    .egressSelect 32 0, .egressSelect 0 3, .transmissionComplete 32 false, .macsecHoldExpiry 8,
    .vatEccError 3 false 0, .pfcRepeatTimer 32 0, .pfcRepeatTimer 8 8, .pfcRepeatTimer 7 0,
    .pfcFrameReceive 32 0 [], .pfcFrameReceive 8 256 [], .pfcFrameReceive 7 0 [], .pfcPauseExpiry 32 0,
    .pfcPauseExpiry 8 8, .pfcPauseExpiry 7 0, .gateEntryChange 32, .preemptVerifyAttempt 32 false,
    .streamGateEntryChange 1024, .edgeQueueTransfer 96, .compareFire 6 0, .compareFire 0 4, .captureEdge 16 false] : List Instr).all (fun i => !i.wf) = true := by decide +kernel

theorem test_illFormed_refused_third : ([
    .captureRearm 5 0 0 0, .captureRearm 0 6 0 0, .captureRearm 0 0 4 0, .captureRearm 0 0 0 4294967296,
    .tbLatchWrite 5 0, .tbLatchWrite 0 4294967296, .ppsPulseEnd 2, .gptpSyncReceive 5 0 0 0 0 false,
    .gptpSyncReceive 0 32 0 0 0 false, .gptpSyncReceive 0 0 0 65536 0 false,
    .gptpSyncReceive 0 0 0 0 18446744073709551616 false, .gptpSyncTxTimer 5 0, .gptpSyncTxTimer 0 32,
    .gptpSyncTimeout 5, .gptpAnnounceReceive 5 0 0 0 0 0 0, .gptpAnnounceReceive 0 32 0 0 0 0 0,
    .gptpAnnounceReceive 0 0 256 0 0 0 0, .gptpAnnounceReceive 0 0 0 4294967296 0 0 0,
    .gptpAnnounceReceive 0 0 0 0 256 0 0, .gptpAnnounceReceive 0 0 0 0 0 18446744073709551616 0,
    .gptpAnnounceReceive 0 0 0 0 0 0 65536, .gptpPdelayTimer 32, .gptpPdelayResponse 32 0 0 0 false,
    .gptpPdelayResponse 0 18446744073709551616 0 0 false, .gptpPdelayRequestRx 32,
    .edgeFrameReceive 96 0 0 0 0 0 0 [] 0 0, .edgeFrameReceive 0 0 256 0 0 0 0 [] 0 0,
    .edgeFrameReceive 0 0 0 256 0 0 0 [] 0 0, .edgeFrameReceive 0 0 0 0 4294967296 0 0 [] 0 0,
    .edgeFrameReceive 0 0 0 0 0 2048 0 [] 0 0, .edgeFrameReceive 0 0 0 0 0 0 256 [] 0 0,
    .edgeFrameReceive 0 0 0 0 0 0 0 [] 0 12, .edgeFrameToVat 96, .edgeIntegrationComplete 96, .canTxAttempt 96,
    .canTxAttemptEnd 96 0 0 false, .canTxAttemptEnd 0 3 0 false, .canTxAttemptEnd 0 0 8 false, .busOffRecovery 96,
    .ltWindowExpiry 96, .linSlotStart 96, .linResponseTimeout 96, .linHeaderReceive 96 0 false,
    .linHeaderReceive 0 64 false, .linStuckDominant 96, .frSlot 4 0 0, .frSlot 0 2048 0, .frSlot 0 0 64,
    .frPocChange 4 0, .frPocChange 0 8, .t1sTxOpportunity 96 0 0, .t1sBeaconTimeout 96, .t1sJabber 96,
    .tmcFrame 6 0, .tmcFrame 0 18446744073709551616, .trxFaultPersist 96, .batchCloseTimer 512,
    .fvReservationCommit 16384, .pcsConditionChange 32 false false false false 0 0 0, .linkUpHoldExpiry 32] : List Instr).all (fun i => !i.wf) = true := by decide +kernel

theorem test_illFormed_refused_fourth : ([
    .linkDownHoldExpiry 32, .anControlWord 32 0 false false 0, .anControlWord 0 65536 false false 0,
    .mdioTransactionComplete 2 0, .mdioTransactionComplete 0 65536, .tc10StatusPoll 15 0, .tc10StatusPoll 0 65536,
    .tc10AckTimeout 15, .phyWakeInput 15, .mkaFrameReceive 8 0 0 none 0 0 0 [],
    .mkaFrameReceive 0 0 0 none 0 4294967296 0 [], .mkaFrameReceive 0 0 0 none 0 0 4294967296 [],
    .mkaHelloTimer 8 false, .pressDescriptorComplete 8, .keySlotScrub 256 0, .keySlotScrub 0 4294967296,
    .tamperDetect 5, .persistSlotStore 256, .wakeDetect 31 0 0 0, .wakeDetect 0 8 0 0, .wakeDetect 0 0 96 0,
    .sleepExitComplete 0 65536 0 [], .sleepExitComplete 0 0 65536 [], .nmFrameReceive 128, .nmBusTimeout 128,
    .nmNodeExpiry 128 0, .nmNodeExpiry 0 256, .nmTxCycle 128, .nmHoldExpiry 128, .linSlaveSilenceTimeout 96,
    .offenderTimeout 128 0, .offenderTimeout 0 256, .pairHelloReceive 64 0 0 0 0 0 0 0 false false false 0,
    .pairHelloReceive 0 64 0 0 0 0 0 0 false false false 0,
    .pairHelloReceive 0 0 4294967296 0 0 0 0 0 false false false 0,
    .pairHelloReceive 0 0 0 4294967296 0 0 0 0 false false false 0,
    .pairHelloReceive 0 0 0 0 65536 0 0 0 false false false 0,
    .pairHelloReceive 0 0 0 0 0 65536 0 0 false false false 0,
    .pairHelloReceive 0 0 0 0 0 0 65536 0 false false false 0,
    .pairHelloReceive 0 0 0 0 0 0 0 65536 false false false 0,
    .pairHelloReceive 0 0 0 0 0 0 0 0 false false false 4294967296, .owlHeartbeatReceive 2 0 [],
    .owlHeartbeatReceive 0 8 [], .owlLastGaspReceive 2 0 [], .owlLastGaspReceive 0 8 [],
    .owlTakeoverReceive 2 0 [], .owlTakeoverReceive 0 8 [], .owlBeaconReceive 2 0 [], .owlBeaconReceive 0 8 [],
    .pathSilence 2, .pairSleepReceive 4, .pairSleepReceive 1, .frerRecoveryTimeout 2048, .frerLatentCheck 2048,
    .frerLatentReset 2048, .lockstepMismatch 3 0, .lockstepMismatch 0 32, .chainDataReceive 32,
    .chainDataAckReceive 32, .chainRetransmitTimer 32 0 0] : List Instr).all (fun i => !i.wf) = true := by decide +kernel

theorem test_illFormed_refused_fifth : ([
    .chainRetransmitTimer 0 256 0, .chainRetransmitTimer 0 0 65536, .chainArmReceive 32, .chainConfirmReceive 32,
    .chainAbortReceive 32, .chainStatusReceive 32, .chainCtrlAckReceive 32, .moleVisit 0 4294967296 false false,
    .scratchZeroComplete 16, .scrOwnWrite 5 0 0, .scrOwnWrite 0 16 0, .scrOwnWrite 0 0 4294967296,
    .traceRdWrite 5 0, .traceRdWrite 0 4294967296, .alarmClear 5 0, .alarmClear 0 4294967296, .cmdDeviceInfo 5,
    .cmdNoticeSubscribe 5, .cmdEventSpiMask 5, .cmdDeviceReset 5, .cmdServiceAuth 5, .cmdServiceEnd 5,
    .cmdBootImage 5, .cmdSetStatus 5, .cmdSetCopy 5, .cmdSetLoad 5, .cmdSetSwap 5, .cmdSetSwapCancel 5,
    .cmdCounterSnapshot 5, .cmdCounterRead 5, .cmdCounterClear 5, .cmdLogConfig 5, .cmdLogRead 5, .cmdParseLoad 5,
    .cmdParsePort 5, .cmdParseDevice 5, .cmdParseTry 5, .cmdPickerStatus 5, .cmdPickerRetire 5,
    .cmdPickerReadmit 5 false, .cmdClsProfile 5, .cmdClsPort 5, .cmdEmWrite 5, .cmdEmRead 5, .cmdActionWrite 5,
    .cmdTernaryWrite 5, .cmdZoneWrite 5, .cmdAnomalyWrite 5, .cmdVlanWrite 5, .cmdMcastWrite 5, .cmdMacControl 5,
    .cmdFoxPort 5, .cmdMirrorSession 5, .cmdClsDevice 5, .cmdClsCounters 5, .cmdVatQueue 5, .cmdVatPort 5,
    .cmdVatStatus 5, .cmdVatQueueStatus 5, .cmdVatPeek 5] : List Instr).all (fun i => !i.wf) = true := by decide +kernel

theorem test_illFormed_refused_sixth : ([
    .cmdVatPortReset 5, .cmdVatBadger 5, .cmdSchedPort 5, .cmdGateList 5, .cmdPreempt 5, .cmdSchedStatus 5,
    .cmdStreamFilter 5, .cmdStreamGate 5, .cmdMeter 5, .cmdPoliceCounters 5, .cmdPoliceUnlatch 5, .cmdEdgeQueues 5,
    .cmdTbEnable 5, .cmdTbStep 5, .cmdTbRate 5, .cmdTbReset 5, .cmdTbStatus 5, .cmdGptpDomain 5, .cmdGptpPort 5,
    .cmdGptpStatus 5, .cmdEdgeConfig 5, .cmdEdgeState 5, .cmdEdgeStatus 5, .cmdEdgeFilter 5, .cmdEdgeRetire 5,
    .cmdEdgeReadmit 5, .cmdLinTable 5, .cmdFrConfig 5, .cmdT1sPlca 5, .cmdTmc 5, .cmdGwTunnel 5, .cmdGwProgram 5,
    .cmdGwSecoc 5, .cmdGwFreshness 5, .cmdGwStatus 5, .cmdGwCounters 5, .cmdLaneMode 5, .cmdPortConfig 5,
    .cmdPortState 5, .cmdPortStatus 5, .cmdPortRetire 5, .cmdPortReadmit 5, .cmdPhyBind 5, .cmdMdio 5, .cmdTc10 5,
    .cmdMacsecPort 5, .cmdMacsecTxsa 5, .cmdMacsecRxsc 5, .cmdMacsecRxsa 5, .cmdMacsecStatus 5, .cmdKeyWrite 5,
    .cmdKeyGenerate 5, .cmdKeyDerive 5, .cmdKeyClear 5, .cmdKeyInfo 5, .cmdPressRun 5, .cmdPressLock 5,
    .cmdPressStatus 5, .cmdAsymVerify 5, .cmdAnchor 5] : List Instr).all (fun i => !i.wf) = true := by decide +kernel

theorem test_illFormed_refused_seventh : ([
    .cmdLifeCycle 5, .cmdTamper 5, .cmdPowerLevel 5, .cmdSleepEnter 5, .cmdSleepExit 5, .cmdWakeConfig 5,
    .cmdWakeMatcher 5, .cmdNmBus 5, .cmdNmControl 5, .cmdStayawakeLog 5, .cmdPairConfig 5, .cmdPairStatus 5,
    .cmdPairHandover 5, .cmdPairFence 5, .cmdPairCheckpoint 5, .cmdLockstepStatus 5, .cmdLogicalPort 5,
    .cmdFrerStream 5, .cmdFrerBind 5, .cmdFrerCounters 5, .cmdFrerReset 5, .cmdUpdStatus 5, .cmdUpdManifest 5,
    .cmdUpdData 5, .cmdUpdChain 5, .cmdUpdArm 5, .cmdUpdConfirm 5, .cmdUpdAbort 5, .cmdUpdVehicle 5,
    .cmdSelftestRun 5 false 0, .cmdSelftestRun 0 false 4294967296, .cmdBistResult 5, .cmdRepairList 5,
    .cmdRepairBurn 5 false, .cmdScratchOwn 5, .cmdScratchStatus 5, .cmdMoleConfig 5, .pairMb3FrameReceive 3 [],
    .tamperSourceClear 5, .suppressionEnd 128 0, .suppressionEnd 0 256] : List Instr).all (fun i => !i.wf) = true := by decide +kernel

/-! ### Single steps -/

/-- CRC-8 of R86: the check value of the polynomial over "123456789". -/
theorem test_crc8_check_value : crc8 ("123456789".toList.map (fun c => BitVec.ofNat 8 c.toNat)) = 0xF4 := by decide +kernel

/-- CRC-32C of R173: the check value over "123456789". -/
theorem test_crc32c_check_value : crc32c ("123456789".toList.map (fun c => BitVec.ofNat 8 c.toNat)) = 0xE3069283 := by
  decide +kernel

/-- AES-128 of FIPS 197, appendix C.1. -/
theorem test_aes128_fips_197 : aesBlock ((List.range 16).map (BitVec.ofNat 8)) ((List.range 16).map (fun i => BitVec.ofNat 8 (17 * i))) =
    be 16 0x69c4e0d86a7b0430d8cdb78070b4c55a := by decide +kernel

/-- SHA-384 of FIPS 180-4: the digest of "abc". -/
theorem test_sha384_abc : sha384 [0x61, 0x62, 0x63] =
    be 48 0xcb00753f45a35e8bb5a03d699ac65007272c32ab0eded1631a8b605a43ff5bed8086072ba1e7cc2358baeca134c825a7 := by decide +kernel

/-- The list of outputs after one command. -/
def outs (c : Instr) (s : State) : List Output :=
  match exec c s with
  | .next t => t.out
  | _ => []

/-- IDENT reads 0x96244101, least significant byte first (R8). -/
theorem test_ident_reads : outs (.pcieMemRead 0 false 0 4) up = [.pcieData [0x01, 0x41, 0x24, 0x96] false] := by decide +kernel

/-- A read that is not aligned ends with Completer Abort (R66). -/
theorem test_unaligned_read_aborts : outs (.pcieMemRead 0 false 2 4) up = [.pcieAbort] := by decide +kernel

/-- An SPI request with a wrong CRC is answered with STATUS 3 and its CRC (R86, R87). -/
theorem test_spi_wrong_crc : outs (.spiRead 0 4 0) up = [.spi [3, crc8 [3]]] := by decide +kernel

/-- A command is taken from the front, and what waits behind it keeps its order. -/
theorem test_step_takes_the_front :
    (match step { up with pending := [.porstNAssert, .brownOut 0, .setDrainEnd] } with
     | .next t => decide (t.pending = [.brownOut 0, .setDrainEnd]) && !t.power.porst
     | _ => false) = true := by decide +kernel

/-- The block idles on an empty queue. -/
theorem test_empty_queue_idles : step State.reset = .next State.reset := rfl

/-- The table gives no row bits, so no word spells a command. -/
theorem test_no_word_spells_a_command : decodeTableWord 8 0x41 = none := rfl

/-! ### The premises of the statements -/


/-- Values that meet the premises of StepKeepsFusesLegal, clause by clause. -/
theorem meets_StepKeepsFusesLegal :
    (let s : State := up; let t : State := up; OtpLegal s ∧ step s = Host.Outcome.next t) := by
  and_intros <;> (try dsimp only) <;> and_intros <;>
    first | exact ⟨7, rfl⟩ | exact Or.inr rfl | decide +kernel | exact rfl

/-- Values that meet the premises of StepOnlyBurnsFuses, clause by clause. -/
theorem meets_StepOnlyBurnsFuses :
    (let s : State := up; let t : State := up; s.otp.tamperCount ≤ 64 ∧ step s = Host.Outcome.next t) := by
  and_intros <;> (try dsimp only) <;> and_intros <;>
    first | exact ⟨7, rfl⟩ | exact Or.inr rfl | decide +kernel | exact rfl

/-- Values that meet the premises of MemoryOperationsKeepForm, clause by clause. -/
theorem meets_MemoryOperationsKeepForm :
    (let m : Memory := []; let a : Nat := 65535; let d : Bytes := (par 4 [1]); m.wf = true) := by
  and_intros <;> (try dsimp only) <;> and_intros <;>
    first | exact ⟨7, rfl⟩ | exact Or.inr rfl | decide +kernel | exact rfl

/-- Values that meet the premises of StartRunsInOrder, clause by clause. -/
theorem meets_StartRunsInOrder :
    (let boot : Nat := 6; let s : State := { State.reset with otp := { life := 3 } }; boot < 8 ∧
     s.power.porst = false ∧ s.power.railGood.getLsbD 6 = true ∧ ¬(boot = 7 ∧ s.otp.life = 0)) ∧
    (let boot : Nat := 7; let s : State := { State.reset with otp := { life := 1 } }; boot < 8 ∧
     s.power.porst = false ∧ s.power.railGood.getLsbD 6 = true ∧ ¬(boot = 7 ∧ s.otp.life = 0)) ∧
    (let s : State := { up with power := { up.power with hold := .rails } }; s.power.hold = Hold.rails) ∧
    (let s : State := { up with power := { up.power with phase := .pllLock } }; s.power.phase = Phase.pllLock) ∧
    (let duration : Nat := 500; let noRef : Nat := 3;
     let s : State := { up with power := { up.power with phase := .bist }, otp := { root := some 1 } };
     s.power.phase = Phase.bist ∧ s.otp.root.isSome = true) ∧
    (let s : State := { up with power := { up.power with phase := .dieshInit }, boot := { emptyCfg := true } };
     s.power.phase = Phase.dieshInit ∧ s.boot.emptyCfg = true ∧ s.boot.found = false) ∧
    (let s : State := { up with power := { up.power with phase := .rom }, boot := { found := true } };
     s.power.phase = Phase.rom ∧ s.power.strap = 0 ∧ s.otp.life ≠ 3 ∧ s.boot.found = true) := by
  and_intros <;> (try dsimp only) <;> and_intros <;>
    first | exact ⟨7, rfl⟩ | exact Or.inr rfl | decide +kernel | exact rfl

/-- Values that meet the premises of SupplyAndClockFaultsHoldTheDevice, clause by clause. -/
theorem meets_SupplyAndClockFaultsHoldTheDevice :
    (let s : State := State.reset; s.power.porst = false ∧ s.power.railGood.getLsbD 6 = true ∧ s.otp.life = 0) ∧
    (let late : Nat := 0x3F; let s : State := { up with power := { up.power with hold := .rails } };
     s.power.hold = Hold.rails ∧ BitVec.ofNat 7 late &&& 63 ≠ 0) ∧
    (let rail : Nat := 6; let s : State := up; s.power.hold = Hold.none ∧ railOff rail s = false) ∧
    (let rail : Nat := 5; let s : State := up; rail < 6 ∧ s.power.hold = Hold.none ∧ railOff rail s = false) ∧
    (let s : State := up; s.power.hold = Hold.none ∧ s.sleep.asleep = false) ∧
    (let xtal : Bool := true; let s : State := { up with power := { up.power with hold := .clockLoss } };
     (s.power.hold = Hold.brownOut ∨ s.power.hold = Hold.clockLoss)) := by
  and_intros <;> (try dsimp only) <;> and_intros <;>
    first | exact ⟨7, rfl⟩ | exact Or.inr rfl | decide +kernel | exact rfl

/-- Values that meet the premises of WarmResetKeepsWhatItMust, clause by clause. -/
theorem meets_WarmResetKeepsWhatItMust :
    (let s : State := { up with power := { up.power with warmDue := true } }; let c : Instr := .warmResetStart;
     warmActs s = true ∧ s.test.bist.fails = [] ∧ c ∈ [Instr.warmNAssert, Instr.warmResetStart] ∧
     (c = Instr.warmResetStart → s.power.warmDue = true)) ∧
    (let s : State := up; let c : Instr := .warmNAssert; warmActs s = true ∧ s.test.bist.fails = [] ∧
     c ∈ [Instr.warmNAssert, Instr.warmResetStart] ∧ (c = Instr.warmResetStart → s.power.warmDue = true)) ∧
    (let tj : Int := 124; let s : State := up; s.power.hold = Hold.none ∧ 115 ≤ tj ∧ tj < 125 ∧
     s.power.warnArmed = true) ∧
    (let tj : Int := 140; let s : State := up; s.power.hold ≠ Hold.porst ∧ 140 ≤ tj) := by
  and_intros <;> (try dsimp only) <;> and_intros <;>
    first | exact ⟨7, rfl⟩ | exact Or.inr rfl | decide +kernel | exact rfl

def loadS (p : Bytes) : State := ask 2 7 0 p { up with power := { up.power with phase := .loadWait, strap := 3 } }

/-- Values that meet the premises of MailboxRegistersDoWhatTheyMust, clause by clause. -/
theorem meets_MailboxRegistersDoWhatTheyMust :
    (let k : Nat := 0; let s : State := { up with ctl := { mb := [(0, { state := .done })] } }; k < 3 ∧
     s.sleep.unconfirmed = none ∧ s.host.lock = none ∧ ¬((mbOf k s).state = MbState.empty ∧ mbServed k s = true)) ∧
    (let k : Nat := 2; let s : State := up; k < 3 ∧ s.sleep.unconfirmed = none ∧ s.host.lock = none ∧
     (mbOf k s).state = MbState.empty ∧ mbServed k s = true ∧ s.sleep.entry = Entry.none ∧ dieshUp s = true ∧
     knownCmd (requestIn k (mbOf k s)).cmd = true ∧ (requestIn k (mbOf k s)).cmd ≠ 7) ∧
    (let k : Nat := 0; let s : State := { up with ctl := { mb := [(0, { state := .done })] } }; k < 3 ∧
     s.sleep.unconfirmed = none ∧ s.host.lock = none ∧ (mbOf k s).state = MbState.done) ∧
    (let k : Nat := 1; let s : State := up; k < 3 ∧ s.sleep.unconfirmed = none ∧ s.host.lock = none ∧
     (mbOf k s).state ≠ MbState.done) ∧
    (let k : Nat := 1; let s : State := up; let v : Nat := 4294967295; k < 3 ∧ s.sleep.unconfirmed = none ∧
     s.host.lock = none ∧ v < 4294967296) ∧
    (let k : Nat := 1; let s : State := up; let off : Nat := 0xDFC; let d : Bytes := (par 4 [9]); k < 3 ∧
     s.sleep.unconfirmed = none ∧ s.host.lock = none ∧ off < 3584 ∧ sizeOk off (List.length d) = true) := by
  and_intros <;> (try dsimp only) <;> and_intros <;>
    first | exact ⟨7, rfl⟩ | exact Or.inr rfl | decide +kernel | exact rfl

/-- Values that meet the premises of DoneWritesTheResponseHeader, clause by clause. -/
theorem meets_DoneWritesTheResponseHeader :
    (let k : Nat := 2; let st : Nat := 4; let gen : Nat := 9; let d : Bytes := (par 4 [9]);
     let s : State := (ask 2 0x0104 1 [] up); k < 3) := by
  and_intros <;> (try dsimp only) <;> and_intros <;>
    first | exact ⟨7, rfl⟩ | exact Or.inr rfl | decide +kernel | exact rfl

/-- Values that meet the premises of DeviceCommandsAnswer, clause by clause. -/
theorem meets_DeviceCommandsAnswer :
    (let mb : Nat := 1; let t : Nat := 0; let s : State := (ask 1 0 0 [] up); Served mb 0 t [] s) ∧
    (let mb : Nat := 1; let t : Nat := 0; let p : Bytes := (par 4 [255, 255, 7]);
     let s : State := (ask 1 2 0 (par 4 [255, 255, 7]) up); List.length p = 4 ∧ Served mb 2 t p s) ∧
    (let mb : Nat := 2; let t : Nat := 0; let p : Bytes := (par 16 [1, 2, 3]);
     let s : State := (ask 2 3 0 (par 16 [1, 2, 3]) up); List.length p = 16 ∧ (mb = 0 ∨ mb = 2) ∧ Served mb 3 t p s) ∧
    (let mb : Nat := 0; let t : Nat := 0; let s : State := (ask 0 4 0 [] up); (mb = 0 ∨ mb = 2) ∧
     Served mb 4 t [] s) ∧
    (let mb : Nat := 4; let t : Nat := 0; let mode : Nat := 0; let p : Bytes := (par 8 []);
     let s : State := { ask 4 0x0F00 0 (par 8 []) up with svc := { session := some 1, rights := 2 } };
     List.length p = 8 ∧ u8 p 0 = mode ∧ mode < 3 ∧ mb ≠ 3 ∧ (mb = 0 ∨ mode = 0) ∧ Served mb 3840 t p s ∧ mode = 0) ∧
    (let mb : Nat := 0; let t : Nat := 0; let mode : Nat := 1; let p : Bytes := (par 8 [1, 0, 0, 0, 9]);
     let s : State := (ask 0 0x0F00 0 (par 8 [1, 0, 0, 0, 9]) up); List.length p = 8 ∧ u8 p 0 = mode ∧ mode < 3 ∧
     mb ≠ 3 ∧ (mb = 0 ∨ mode = 0) ∧ Served mb 3840 t p s ∧ mode = 1) ∧
    (let mb : Nat := 0; let t : Nat := 0; let mode : Nat := 2; let p : Bytes := (par 8 [2]);
     let s : State := (ask 0 0x0F00 0 (par 8 [2]) up); List.length p = 8 ∧ u8 p 0 = mode ∧ mode < 3 ∧ mb ≠ 3 ∧
     (mb = 0 ∨ mode = 0) ∧ Served mb 3840 t p s ∧ mode = 2) ∧
    (let mb : Nat := 3; let t : Nat := 0; let n : Nat := 1;
     let p : Bytes := (par 12 [1, 0, 0, 0, 255, 0, 0, 0, 46]);
     let s : State := (ask 3 0x0F01 0 (par 12 [1, 0, 0, 0, 255, 0, 0, 0, 46]) up); u16 p 0 = n ∧ 1 ≤ n ∧ n ≤ 256 ∧
     List.length p = 4 + 8 * n ∧ Served mb 3841 t p s) ∧
    (let mb : Nat := 0; let t : Nat := 0; let p : Bytes := (par 9 [0, 0, 0, 255, 255, 0, 0, 0]);
     let s : State := (ask 0 0x0F02 0 (par 9 [0, 0, 0, 255, 255, 0, 0, 0]) up); List.length p = 9 ∧ u32 p 4 ≠ 0 ∧
     u8 p 8 = 0 ∧ (mb = 0 ∨ mb = 4) ∧ Served mb 3842 t p s) ∧
    (let t : Nat := 0; let p : Bytes := (par 16 [0, 0, 0, 0, 4]); let s : State := (loadS (par 16 [0, 0, 0, 0, 4]));
     12 ≤ List.length p ∧ List.length p ≤ 3568 ∧ s.power.phase = Phase.loadWait ∧ bit p 8 0 = false ∧
     u32 p 4 ≤ 524288 ∧ u32 p 0 + (List.drop 12 p).length ≤ u32 p 4 ∧ Served 2 7 t p s) := by
  and_intros <;> (try dsimp only) <;> and_intros <;>
    first | exact ⟨7, rfl⟩ | exact Or.inr rfl | decide +kernel | exact rfl

/-- Values that meet the premises of ConfigurationSetsSwap, clause by clause. -/
theorem meets_ConfigurationSetsSwap :
    (let mb : Nat := 2; let s : State := (ask 2 0x0100 0 [] up); Served mb 256 0 [] s) ∧
    (let s : State := (ask 0 0x0101 1 [] up); ShadowFree 0 s ∧ Served 0 257 1 [] s) ∧
    (let p : Bytes := (par 12 [1]); let s : State := (ask 0 0x0104 1 (par 12 [1]) up); List.length p = 12 ∧
     u8 p 0 = 1 ∧ ShadowFree 0 s ∧ Served 0 260 1 p s) ∧
    (let p : Bytes := (par 16 []);
     let s : State := (ask 0 0x0102 1 (par 16 []) { up with sets := { gen := 1, b := { nInstr := 65535 } } });
     List.length p = 16 ∧ ShadowFree 0 s ∧ Served 0 258 1 p s ∧ inconsistent (shadowSet s) = none ∧
     bit p 0 0 = false) ∧
    (let p : Bytes := (par 16 [1, 0, 0, 0, 160, 134, 1]);
     let s : State := (ask 0 0x0102 1 (par 16 [1, 0, 0, 0, 160, 134, 1]) { up with sets := { gen := 1, b := { nInstr := 65535 } } });
     List.length p = 16 ∧ ShadowFree 0 s ∧ Served 0 258 1 p s ∧ inconsistent (shadowSet s) = none ∧
     bit p 0 0 = true ∧ u8 p 1 < 6 ∧ tbEnabled (u8 p 1) s = true ∧ tbNow (u8 p 1) s + 100000 ≤ u64 p 4) ∧
    (let t : Nat := 0; let s : State := (ask 0 0x0103 0 [] { up with sets := { gen := 1, shadow := .armed } });
     s.sets.shadow = Shadow.armed ∧ s.upd.state ≠ 3 ∧ Served 0 259 t [] s) ∧
    (let s : State := { up with sets := { gen := 1, shadow := .armed } }; s.sets.shadow = Shadow.armed ∧
     s.upd.state ≠ 3 ∧ tbEnabled s.sets.swapTb s = true ∧ s.sets.swapTime ≤ tbNow s.sets.swapTb s) ∧
    (let s : State := { up with sets := { gen := 1, shadow := .draining } }; s.sets.shadow = Shadow.draining ∧
     oldFrames s = 0) ∧
    (let s : State := { up with sets := { gen := 1, shadow := .draining } }; s.sets.shadow = Shadow.draining) ∧
    (let s : State := { up with sets := { gen := 1, shadow := .copying } }; s.sets.shadow = Shadow.copying ∧
     s.upd.fallDue = false ∧ s.upd.state ≠ 3) := by
  and_intros <;> (try dsimp only) <;> and_intros <;>
    first | exact ⟨7, rfl⟩ | exact Or.inr rfl | decide +kernel | exact rfl

/-- Values that meet the premises of SnapshotsAndServiceSession, clause by clause. -/
theorem meets_SnapshotsAndServiceSession :
    (let s : State := { up with ctl := { periodMs := 1 } }; 0 < s.ctl.periodMs) ∧
    (let x : Snapshot := {}; let s : State := { up with ctl := { snapNext := some {} } }; s.ctl.snapNext = some x) ∧
    (let s : State := { up with svc := { session := some 1 } }; s.svc.session.isSome = true) ∧
    (let s : State := { up with svc := { session := some 1 } }; s.svc.session.isSome = true ∧ portUp 129 s = false) ∧
    (let t : Nat := 0; let s : State := { ask 4 6 0 [] up with svc := { session := some 1 } };
     s.svc.session.isSome = true ∧ Served 4 6 t [] s) ∧
    (let src : Bytes := (par 6 []); let b : Bytes := (par 20 [0, 1, 0, 0, 0, 1]);
     let s : State := { up with svc := { inbox := [(par 6 [], par 20 [0, 1, 0, 0, 0, 1])] } };
     s.svc.inbox = [(src, b)] ∧ u8 b 1 = 1 ∧ beN b 4 2 ≠ 0 ∧ s.svc.asm ≠ some (beN b 4 2)) ∧
    (let src : Bytes := (par 6 []); let b : Bytes := (par 20 [0, 3]);
     let s : State := { up with svc := { inbox := [(par 6 [], par 20 [0, 3])] }, ctl := { mb := [(4, { state := .done })] } };
     s.svc.inbox = [(src, b)] ∧ u8 b 1 = 3 ∧ (mbOf 4 s).state = MbState.done) ∧
    (let src : Bytes := (par 6 []); let b : Bytes := (par 20 [0, 4, 0, 5]);
     let s : State := { up with svc := { inbox := [(par 6 [], par 20 [0, 4, 0, 5])], seq := 5 } };
     s.svc.inbox = [(src, b)] ∧ u8 b 1 = 4 ∧ beN b 2 2 = s.svc.seq) := by
  and_intros <;> (try dsimp only) <;> and_intros <;>
    first | exact ⟨7, rfl⟩ | exact Or.inr rfl | decide +kernel | exact rfl

def lockedH : HeldRead := { bridge := 1, init := 0, op := 17, addr := 0x230800, size := 8, arg := par 8 [5], data := none, status := 7, answered := false, sent := true }
def txRings : State := { up with host := { tx := [(2, { enable := true, tail := 1, base := 0x1000 })], txNext := 3 } }
def tsRec : TsRecord := { ring := 4, port := 8, tb := 0, stamp := 77, cookie := 5, txRing := 1, gen := 1 }
def rxS : State :=
  { up with
    host := { rx := [(5, { enable := true, tail := 1, base := 0x2000 })] }
    vat := { nextFid := 1, frames := [(0, { frame := { bytes := par 60 [1, 2, 3], ts := [9] }, refs := 1, staged := false })],
             queues := [(645, { copies := [{ len := 60, egress := 128, queue := 645 }] })] } }
def spiUp : State := { up with host := { spiLast := some [7] } }
def spiH : HeldRead := { bridge := 0, init := 2, op := 1, addr := 0x20400, size := 4, arg := [], data := some (b4 5), status := 0, answered := false }
def fetchH : HeldRead := { bridge := 0, init := 2, op := 1, addr := 0x20400, size := 4, arg := [], data := none, status := 0, answered := false }
def pairUp : State := { up with pair := { state := 2, link := true } }

/-- Values that meet the premises of BridgeStatusAndEv7AreSetTogether, clause by clause. -/
theorem meets_BridgeStatusAndEv7AreSetTogether :
    (let b : Nat := 6; let s : State := up; b < 7) ∧
    (let v : Nat := 4294967295; let s : State := up; v < 4294967296) ∧
    (let v : Nat := 127; let s : State := { up with ctl := { cause := [(7, 127)] }, host := { status := 127 } };
     v < 4294967296) := by
  and_intros <;> (try dsimp only) <;> and_intros <;>
    first | exact ⟨7, rfl⟩ | exact Or.inr rfl | decide +kernel | exact rfl

/-- Values that meet the premises of RegisterWritesFollowTheirAccessCodes, clause by clause. -/
theorem meets_RegisterWritesFollowTheirAccessCodes :
    (let n : Nat := 127; let v : Nat := 4294967295; let s : State := up; n < 128 ∧ v < 4294967296) ∧
    (let init : Nat := 1; let n : Nat := 0; let v : Nat := 5; let s : State := up; n < 128 ∧ 1 ≤ init ∧ init < 4) ∧
    (let init : Nat := 0; let addr : Nat := 0x20401; let d : Bytes := (par 4 [1]); let s : State := up;
     addr < 2097152 ∧ sizeOk addr (List.length d) = false) ∧
    (let v : Nat := 0x1FFFF; let s : State := up; let init : Nat := 3; v < 4294967296 ∧ 1 ≤ init ∧ init < 4) ∧
    (let n : Nat := 127; let s : State := up; n < 128) ∧
    (let init : Nat := 2; let ev : Nat := 127; let v : Nat := 1; let s : State := up; (init = 0 ∨ init = 2) ∧
     ev < 128 ∧ v < 4294967296) ∧
    (let tb : Nat := 5; let unit : Nat := 3; let v : Nat := 1; let s : State := up; tb < 6 ∧ unit < 4 ∧
     v < 4294967296) ∧
    (let v : Nat := 0x1FFFF; let s : State := up; v < 4294967296) := by
  and_intros <;> (try dsimp only) <;> and_intros <;>
    first | exact ⟨7, rfl⟩ | exact Or.inr rfl | decide +kernel | exact rfl

/-- Values that meet the premises of SecondaryClearsOnlyItsRingBits, clause by clause. -/
theorem meets_SecondaryClearsOnlyItsRingBits :
    (let g : Nat := 15; let v : Nat := 255;
     let s : State := { up with host := { rx := [(30, { owner1 := true })] } }; g < 16 ∧ v < 4294967296) ∧
    (let ev : Nat := 111; let v : Nat := 1; let s : State := up; ev < 112 ∧ v < 4294967296) := by
  and_intros <;> (try dsimp only) <;> and_intros <;>
    first | exact ⟨7, rfl⟩ | exact Or.inr rfl | decide +kernel | exact rfl

/-- Values that meet the premises of PcieRequestsComplete, clause by clause. -/
theorem meets_PcieRequestsComplete :
    (let rid : Nat := 0; let addr : Nat := 0x30040; let size : Nat := 4; let s : State := up; pcieUp s = true ∧
     addr < 2097152 ∧ sizeOk addr size = true ∧ touchesReserved addr size s = false ∧ slowIsland addr = 0 ∧
     semWaits (initOf rid s) addr s = false) ∧
    (let rid : Nat := 7; let s : State := up; pcieUp s = true ∧ s.host.held = [] ∧ s.host.posted = []) ∧
    (let rid : Nat := 7; let addr : Nat := 0x30041; let size : Nat := 4; let s : State := up; pcieUp s = true ∧
     addr < 4194304 ∧ sizeOk addr size = false) ∧
    (let rid : Nat := 7; let addr : Nat := 0x200000; let size : Nat := 8; let s : State := up; pcieUp s = true ∧
     2097152 ≤ addr ∧ addr < 4194304 ∧ sizeOk addr size = true ∧ passUp s = false) ∧
    (let rid : Nat := 7; let addr : Nat := 0x20400; let d : Bytes := (b4 1); let s : State := up; pcieUp s = true ∧
     addr < 2097152 ∧ judgeWrite (initOf rid s) addr d s = 0 ∧ slowIsland addr = 0 ∧
     semWaits (initOf rid s) addr s = false) ∧
    (let rid : Nat := 7; let addr : Nat := 0x20401; let d : Bytes := (b4 1); let s : State := up; pcieUp s = true ∧
     addr < 4194304 ∧ sizeOk addr (List.length d) = false) ∧
    (let rid : Nat := 7; let addr : Nat := 0xE00; let size : Nat := 8; let op : Nat := 2; let x : Nat := 0;
     let y : Nat := 5; let s : State := up; pcieUp s = true ∧ addr < 2097152 ∧ op < 3 ∧ atomicOk addr size = true ∧
     semWaits (initOf rid s) addr s = false) ∧
    (let rid : Nat := 7; let addr : Nat := 0x30040; let size : Nat := 4; let op : Nat := 0; let x : Nat := 1;
     let y : Nat := 0; let w2 : Bool := false; let s : State := up; pcieUp s = true ∧ (w2 = true ∨ addr < 2097152 ∧
     atomicOk addr size = false)) ∧
    (let h : HeldRead := { bridge := 3, init := 1, op := 0, addr := 0x1000, size := 4, arg := [], data := none, status := 0, answered := false };
     let s : State := { up with host := { held := [{ bridge := 3, init := 1, op := 0, addr := 0x1000, size := 4, arg := [], data := none, status := 0, answered := false }] } };
     s.host.held = [h] ∧ h.bridge = 3 ∧ h.init < 2 ∧ h.data = none ∧ h.answered = false ∧ h.op = 0) ∧
    (let h : HeldRead := lockedH; let s : State := { up with host := { held := [lockedH] } }; s.host.held = [h] ∧
     h.bridge = 1 ∧ 16 ≤ h.op ∧ h.status = 7 ∧ h.ahead = 0) := by
  and_intros <;> (try dsimp only) <;> and_intros <;>
    first | exact ⟨7, rfl⟩ | exact Or.inr rfl | decide +kernel | exact rfl

/-- Values that meet the premises of EndpointResetsClearRingsAndReads, clause by clause. -/
theorem meets_EndpointResetsClearRingsAndReads :
    (let c : Instr := (.pcieFlr);
     let s : State := { up with host := { secRid := 9, secEn := true, rx := [(3, { enable := true })] } };
     (c = Instr.pcieHotReset ∨ c = Instr.pcieFlr) ∧ s.power.perst = false ∧ s.host.held = []) ∧
    (let s : State := { up with power := { up.power with perst := true, wakeN := true } }; s.power.perst = true ∧
     s.power.wakeN = true ∧ s.sleep.nm.state = 0 ∧ s.sleep.nm.commitAt = none ∧ s.sleep.state = 0 ∧
     s.sleep.entry = Entry.none ∧ s.sleep.asleep = false) := by
  and_intros <;> (try dsimp only) <;> and_intros <;>
    first | exact ⟨7, rfl⟩ | exact Or.inr rfl | decide +kernel | exact rfl

/-- Values that meet the premises of HostRingsRun, clause by clause. -/
theorem meets_HostRingsRun :
    (let tx : Bool := true; let n : Nat := 31; let v : Nat := 3; let s : State := up;
     (ringOf tx n s).enable = false ∧ v.testBit 0 = true) ∧
    (let init : Nat := 1; let n : Nat := 31; let v : Nat := 3; let tx : Bool := false; let s : State := up;
     (init = 2 ∨ init = 3 ∨ init = 1 ∧ (ringOf tx n s).owner1 = false)) ∧
    (let init : Nat := 2; let n : Nat := 31; let v : Nat := 3; let tx : Bool := true; let s : State := up;
     (init = 2 ∨ init = 3 ∨ init = 1 ∧ (ringOf tx n s).owner1 = false)) ∧
    (let tx : Bool := true; let n : Nat := 31; let v : Nat := 65535; let s : State := up; v < 65536) ∧
    (let desc : Bytes := (par 32 [0, 0, 0, 0, 0, 0, 0, 0, 0, 0, 2]); let d : Bytes := []; let n : Nat := 2;
     let s : State := txRings; (roundRobin s.host.txNext fun n ↦ (ringOf true n s).posted) = some n ∧
     txStatus desc = 2) ∧
    (let desc : Bytes := (par 32 [0, 0, 0, 0, 0, 0, 0, 0, 0, 0, 2]); let d : Bytes := []; let n : Nat := 2;
     let s : State := txRings; (roundRobin s.host.txNext fun n ↦ (ringOf true n s).posted) = some n) ∧
    (let tx : Bool := true; let n : Nat := 2; let s : State := txRings; (ringOf tx n s).enable = true) ∧
    (let tx : Bool := false; let n : Nat := 31;
     let s : State := { up with host := { rx := [(31, { enable := true, unsignalled := 1, modTime := 1 })] } };
     0 < (ringOf tx n s).unsignalled ∧ 0 < (ringOf tx n s).modTime) ∧
    (let n : Nat := 4; let x : TsRecord := tsRec;
     let s : State := { up with host := { tsWait := [tsRec], rx := [(4, { enable := true, tail := 1 })] } };
     s.host.tsWait = [x] ∧ x.ring = n ∧ (ringOf false n s).posted = true) ∧
    (let n : Nat := 4; let x : TsRecord := tsRec; let s : State := { up with host := { tsWait := [tsRec] } };
     s.host.tsWait = [x] ∧ x.ring = n) ∧
    (let buf : Nat := 0x8000; let q : Nat := 5; let x : Copy := { len := 60, egress := 128, queue := 645 };
     let s : State := rxS; q < 32 ∧ copiesOf (640 + q) s = [x] ∧
     (roundRobin s.host.rxNext fun n ↦ (ringOf false n s).posted && !(copiesOf (640 + n) s).isEmpty && !halted 128 s) = some q ∧
     (∀ (n : Nat), n < 32 → dropBad (640 + n) (ageQueue (640 + n) s) = s)) := by
  and_intros <;> (try dsimp only) <;> and_intros <;>
    first | exact ⟨7, rfl⟩ | exact Or.inr rfl | decide +kernel | exact rfl

/-- Values that meet the premises of SpiTransactionsAnswer, clause by clause. -/
theorem meets_SpiTransactionsAnswer :
    (let s : State := spiUp; let addr : Nat := 0x20400; let size : Nat := 4;
     let crc : Nat := (crc8 (spiHeader 1 0x20400 4 [])).toNat; timeRuns s = true ∧ wake { source := 23 } s = s ∧
     s.host.spiLive = none ∧ s.host.held = [] ∧ s.host.posted = [] ∧ s.host.lock = none ∧ s.sleep.asleep = false ∧
     addr < 2097152 ∧ spiRefused addr size s = 0 ∧ crc8 (spiHeader 1 addr size []) = BitVec.ofNat 8 crc) ∧
    (let s : State := spiUp; let addr : Nat := 0x21000;
     let crc : Nat := (crc8 (spiHeader 2 0x21000 4 (b4 1))).toNat; let d : Bytes := (b4 1); timeRuns s = true ∧
     wake { source := 23 } s = s ∧ s.host.spiLive = none ∧ s.host.held = [] ∧ s.host.posted = [] ∧
     s.host.lock = none ∧ s.sleep.asleep = false ∧ addr < 2097152 ∧ judgeWrite 2 addr d s = 0 ∧
     crc8 (spiHeader 2 addr (List.length d) d) = BitVec.ofNat 8 crc) ∧
    (let s : State := spiUp; let addr : Nat := 0xFF8; let size : Nat := 8;
     let crc : Nat := (crc8 (spiHeader 3 0xFF8 8 [])).toNat; timeRuns s = true ∧ wake { source := 23 } s = s ∧
     s.host.spiLive = none ∧ s.host.held = [] ∧ s.host.posted = [] ∧ s.host.lock = none ∧ s.sleep.asleep = false ∧
     lockRefused addr size = 0 ∧ crc8 (spiHeader 3 addr size []) = BitVec.ofNat 8 crc) ∧
    (let s : State := spiUp; let addr : Nat := 0xFF8; let crc : Nat := (crc8 (spiHeader 4 0xFF8 8 (b8 1))).toNat;
     let d : Bytes := (b8 1); timeRuns s = true ∧ wake { source := 23 } s = s ∧ s.host.spiLive = none ∧
     s.host.held = [] ∧ s.host.posted = [] ∧ s.host.lock = none ∧ s.sleep.asleep = false ∧
     lockRefused addr (List.length d) = 0 ∧ crc8 (spiHeader 4 addr (List.length d) d) = BitVec.ofNat 8 crc) ∧
    (let s : State := spiUp; let crc : Nat := (crc8 (spiHeader 5 0 0 [])).toNat; timeRuns s = true ∧
     wake { source := 23 } s = s ∧ s.host.spiLive = none ∧ s.host.held = [] ∧ s.host.posted = [] ∧
     s.host.lock = none ∧ s.sleep.asleep = false ∧ crc8 (spiHeader 5 0 0 []) = BitVec.ofNat 8 crc) ∧
    (let s : State := spiUp; let crc : Nat := (crc8 (spiHeader 6 0 0 [])).toNat; timeRuns s = true ∧
     wake { source := 23 } s = s ∧ s.host.spiLive = none ∧ s.host.held = [] ∧ s.host.posted = [] ∧
     s.host.lock = none ∧ s.sleep.asleep = false ∧ crc8 (spiHeader 6 0 0 []) = BitVec.ofNat 8 crc) ∧
    (let s : State := spiUp; let crc : Nat := (crc8 (spiHeader 7 0 0 [])).toNat; timeRuns s = true ∧
     wake { source := 23 } s = s ∧ s.host.spiLive = none ∧ s.host.held = [] ∧ s.host.posted = [] ∧
     s.host.lock = none ∧ s.sleep.asleep = false ∧ crc8 (spiHeader 7 0 0 []) = BitVec.ofNat 8 crc) ∧
    (let s : State := spiUp; let addr : Nat := 0x20400; let size : Nat := 4;
     let crc : Nat := ((crc8 (spiHeader 1 0x20400 4 [])).toNat + 1); timeRuns s = true ∧
     wake { source := 23 } s = s ∧ s.host.spiLive = none ∧ s.host.held = [] ∧ s.host.posted = [] ∧
     s.host.lock = none ∧ s.sleep.asleep = false ∧ crc8 (spiHeader 1 addr size []) ≠ BitVec.ofNat 8 crc) ∧
    (let s : State := spiUp; timeRuns s = true ∧ wake { source := 23 } s = s ∧ s.host.spiLive = none ∧
     s.host.held = [] ∧ s.host.posted = [] ∧ s.host.lock = none ∧ s.sleep.asleep = false) ∧
    (let s : State := spiUp; let h : HeldRead := spiH; let d : Bytes := (b4 5); let r : Bytes := [];
     timeRuns s = true ∧ wake { source := 23 } s = s ∧ s.host.spiLive = none ∧ s.host.held = [] ∧
     s.host.posted = [] ∧ s.host.lock = none ∧ s.sleep.asleep = false ∧ h.data = some d ∧ h.op = 1 ∧ h.bridge = 0 ∧
     popsOf h.addr (List.length d) = []) := by
  and_intros <;> (try dsimp only) <;> and_intros <;>
    first | exact ⟨7, rfl⟩ | exact Or.inr rfl | decide +kernel | exact rfl

/-- Values that meet the premises of BridgesFetchDeliverAndLock, clause by clause. -/
theorem meets_BridgesFetchDeliverAndLock :
    (let h : HeldRead := fetchH; let s : State := { up with host := { held := [fetchH] } }; s.host.held = [h] ∧
     h.bridge = 0 ∧ h.init = 2 ∧ h.op = 1 ∧ h.data = none ∧ h.ahead = 0 ∧ h.status = 0 ∧
     semBlocked 2 h.addr s = false) ∧
    (let h : HeldRead := { fetchH with op := 3, addr := 0xE00 };
     let s : State := { up with host := { held := [{ fetchH with op := 3, addr := 0xE00 }] } }; s.host.held = [h] ∧
     h.bridge = 0 ∧ h.init = 2 ∧ h.op = 3 ∧ h.data = none ∧ h.ahead = 0 ∧ h.status = 0 ∧ s.host.lock = none) ∧
    (let h : HeldRead := spiH; let d : Bytes := (b4 5); let s : State := { up with host := { held := [spiH] } };
     s.host.held = [h] ∧ h.bridge = 0 ∧ h.op = 1 ∧ h.addr < 2097152 ∧ h.data = some d) ∧
    (let w : PostedWrite := { bridge := 0, init := 2, addr := 0x21000, data := b4 1 };
     let s : State := { up with host := { posted := [{ bridge := 0, init := 2, addr := 0x21000, data := b4 1 }] } };
     s.host.posted = [w] ∧ s.host.held = [] ∧ w.bridge = 0 ∧ semBlocked w.init w.addr s = false ∧
     judgeWrite w.init w.addr w.data { power := s.power, boot := s.boot, ctl := s.ctl, sets := s.sets, parse := s.parse, vat := s.vat, flow := s.flow, time := s.time, edge := s.edge, ports := s.ports, svc := s.svc, cellar := s.cellar, press := s.press, gw := s.gw, pair := s.pair, sleep := s.sleep, test := s.test, alarms := s.alarms, otp := s.otp, flash := s.flash, upd := s.upd, out := s.out, fresh := s.fresh, pending := s.pending } = 0) ∧
    (let i : Nat := 1; let s : State := { up with host := { lock := some 1 } }; s.host.lock = some i) ∧
    (let m : Nat := 5; let e : EdgeErr := {}; let rest : List EdgeErr := [];
     let s : State := { up with edge := { cl := [(5, { errs := [{}] })] } }; m < 6 ∧ (edgeCl m s).errs = e :: rest) ∧
    (let addr : Nat := 0x20400; let size : Nat := 4; let s : State := pairUp; passUp s = true ∧ addr < 2097152 ∧
     sizeOk addr size = true ∧ touchesReserved addr size s = false ∧ s.host.held = [] ∧ s.host.posted = []) ∧
    (let v : Nat := 5; let s : State := pairUp; passUp s = true) := by
  and_intros <;> (try dsimp only) <;> and_intros <;>
    first | exact ⟨7, rfl⟩ | exact Or.inr rfl | decide +kernel | exact rfl

def vf : VFrame := { frame := { bytes := par 64 [0x12, 0x34, 5, 6, 7, 8], gen := 1 } }
def jobS (w : Nat) (t : Thread) (v : VFrame) : State :=
  { up with
    sets := { gen := 1, a := { prog := [(0, BitVec.ofNat 64 w)], nInstr := 1 } }
    parse := { pickers := [(47, { job := some t })] }
    vat := { nextFid := 1, frames := [(0, v)] } }
/-- An instruction: opcode and the fields given as (low bit, value). -/
def ins (op : Nat) (l : List (Nat × Nat)) : Nat := op * 2 ^ 58 + (l.map (fun e => e.2 * 2 ^ e.1)).sum
def longV : VFrame := { frame := { bytes := par 600 [1, 2], gen := 1 } }
def j64 : State := jobS 0 { count := 64 } vf
def nodeS (t : Thread) : State :=
  { up with
    sets := { gen := 1, a := { nodes := [(5, setBytes (zeros 128) 0 (b4 (15 * 4096)))] } }
    parse := { walkers := [(7, { job := some t })] }
    vat := { nextFid := 1, frames := [(0, vf)] } }
def after (r : Host.Outcome State Fault Refusal) : State := match r with | .next s => s | _ => up
def waitS : State := { up with parse := { waiting := [0] }, vat := { nextFid := 1, frames := [(0, { vf with frame := { vf.frame with gen := 0, port := 31 } })] } }
def malS : State := { up with parse := { order := [0], results := [(0, { reason := 3 })] }, vat := { nextFid := 1, frames := [(0, { vf with frame := { vf.frame with port := 31 } })] } }
def portS : State := { up with ports := { eth := [(31, { state := 2, maxFrame := 1522 })] } }

/-- Values that meet the premises of ArithmeticInstructionsOfAPicker, clause by clause. -/
theorem meets_ArithmeticInstructionsOfAPicker :
    (let p : Nat := 47; let w : Nat := (ins 8 [(54, 1), (50, 2), (49, 1), (0, 65535)]); let t : Thread := {};
     let v : VFrame := vf; let s : State := (jobS (ins 8 [(54, 1), (50, 2), (49, 1), (0, 65535)]) {} vf);
     Fetches p 8 w t v s) ∧
    (let p : Nat := 47; let w : Nat := (ins 9 [(54, 1), (50, 2), (49, 1), (0, 1)]); let t : Thread := {};
     let v : VFrame := vf; let s : State := (jobS (ins 9 [(54, 1), (50, 2), (49, 1), (0, 1)]) {} vf);
     Fetches p 9 w t v s) ∧
    (let p : Nat := 47; let w : Nat := (ins 10 [(54, 1), (49, 1), (0, 1)]); let t : Thread := {};
     let v : VFrame := vf; let s : State := (jobS (ins 10 [(54, 1), (49, 1), (0, 1)]) {} vf); Fetches p 10 w t v s) ∧
    (let p : Nat := 47; let w : Nat := (ins 11 [(54, 15), (49, 1), (0, 1)]); let t : Thread := {};
     let v : VFrame := vf; let s : State := (jobS (ins 11 [(54, 15), (49, 1), (0, 1)]) {} vf); Fetches p 11 w t v s) ∧
    (let p : Nat := 47; let w : Nat := (ins 12 [(54, 15), (49, 1), (0, 15)]); let t : Thread := {};
     let v : VFrame := vf; let s : State := (jobS (ins 12 [(54, 15), (49, 1), (0, 15)]) {} vf);
     Fetches p 12 w t v s) ∧
    (let p : Nat := 47; let w : Nat := (ins 13 [(54, 15), (49, 1), (0, 15)]); let t : Thread := {};
     let v : VFrame := vf; let s : State := (jobS (ins 13 [(54, 15), (49, 1), (0, 15)]) {} vf);
     Fetches p 13 w t v s) ∧
    (let p : Nat := 47; let w : Nat := (ins 2 [(49, 1), (0, 15)]); let t : Thread := {}; let v : VFrame := vf;
     let s : State := (jobS (ins 2 [(49, 1), (0, 15)]) {} vf); Fetches p 2 w t v s) ∧
    (let p : Nat := 47; let w : Nat := (ins 3 [(55, 4)]); let t : Thread := {}; let v : VFrame := vf;
     let s : State := (jobS (ins 3 [(55, 4)]) {} vf); let k : Nat := bits w 57 55;
     let take : Prop := k = 0 ∨ k = 1 ∧ t.z = true ∨ k = 2 ∧ t.z = false ∨ k = 3 ∧ t.c = true ∨ k = 4 ∧ t.c = false;
     Fetches p 3 w t v s ∧ take) ∧
    (let p : Nat := 47; let w : Nat := (ins 3 [(55, 1)]); let t : Thread := {}; let v : VFrame := vf;
     let s : State := (jobS (ins 3 [(55, 1)]) {} vf); let k : Nat := bits w 57 55;
     let take : Prop := k = 0 ∨ k = 1 ∧ t.z = true ∨ k = 2 ∧ t.z = false ∨ k = 3 ∧ t.c = true ∨ k = 4 ∧ t.c = false;
     Fetches p 3 w t v s ∧ ¬take) ∧
    (let p : Nat := 47; let w : Nat := (ins 4 [(32, 127)]); let t : Thread := {}; let v : VFrame := vf;
     let s : State := (jobS (ins 4 [(32, 127)]) {} vf); Fetches p 4 w t v s) ∧
    (let p : Nat := 47; let w : Nat := (ins 0x13 [(49, 1), (0, 4095)]); let t : Thread := {}; let v : VFrame := vf;
     let s : State := (jobS (ins 0x13 [(49, 1), (0, 4095)]) {} vf); let d : Nat := bits w 57 54;
     Fetches p 19 w t v s ∧ d = 0) ∧
    (let p : Nat := 47; let w : Nat := (ins 0x13 [(54, 1), (49, 1), (0, 7)]); let t : Thread := {};
     let v : VFrame := vf; let s : State := (jobS (ins 0x13 [(54, 1), (49, 1), (0, 7)]) {} vf);
     let d : Nat := bits w 57 54; Fetches p 19 w t v s ∧ d = 1) ∧
    (let p : Nat := 47; let w : Nat := (ins 0x13 [(54, 2), (49, 1), (0, 3)]); let t : Thread := {};
     let v : VFrame := vf; let s : State := (jobS (ins 0x13 [(54, 2), (49, 1), (0, 3)]) {} vf);
     let d : Nat := bits w 57 54; Fetches p 19 w t v s ∧ d = 2) := by
  and_intros <;> (try dsimp only) <;> and_intros <;>
    first | exact ⟨7, rfl⟩ | exact Or.inr rfl | decide +kernel | exact rfl

/-- Values that meet the premises of FrameInstructionsOfAPicker, clause by clause. -/
theorem meets_FrameInstructionsOfAPicker :
    (let p : Nat := 47; let w : Nat := (ins 1 [(54, 3), (32, 48), (24, 15), (23, 1)]); let t : Thread := {};
     let v : VFrame := vf; let s : State := (jobS (ins 1 [(54, 3), (32, 48), (24, 15), (23, 1)]) {} vf);
     let lo : Nat := t.cursor + bits w 40 32 + if w.testBit 22 = true then reg t (bits w 53 50) else 0;
     let e : Nat := lo + (bits w 31 29 + (bits w 28 24 + 1) + 7) / 8 - 1; Fetches p 1 w t v s ∧ Readable e t v) ∧
    (let p : Nat := 47; let w : Nat := (ins 1 [(54, 3), (32, 511), (24, 15), (23, 1)]); let t : Thread := {};
     let v : VFrame := longV; let s : State := (jobS (ins 1 [(54, 3), (32, 511), (24, 15), (23, 1)]) {} longV);
     let len : Nat := List.length v.frame.bytes;
     let lo : Nat := t.cursor + bits w 40 32 + if w.testBit 22 = true then reg t (bits w 53 50) else 0;
     let e : Nat := lo + (bits w 31 29 + (bits w 28 24 + 1) + 7) / 8 - 1; Fetches p 1 w t v s ∧ 512 ≤ e ∧ e < len ∧
     (∀ (l : Nat), t.lend = some l → e < l)) ∧
    (let p : Nat := 47; let w : Nat := (ins 1 [(54, 3), (32, 63), (24, 15), (23, 1)]); let t : Thread := {};
     let v : VFrame := vf; let s : State := (jobS (ins 1 [(54, 3), (32, 63), (24, 15), (23, 1)]) {} vf);
     let len : Nat := List.length v.frame.bytes;
     let lo : Nat := t.cursor + bits w 40 32 + if w.testBit 22 = true then reg t (bits w 53 50) else 0;
     let e : Nat := lo + (bits w 31 29 + (bits w 28 24 + 1) + 7) / 8 - 1; Fetches p 1 w t v s ∧ v.ended = true ∧
     t.lend = none ∧ len ≤ e) ∧
    (let p : Nat := 47; let w : Nat := (ins 1 [(54, 3), (32, 63), (24, 15), (23, 1)]); let t : Thread := {};
     let v : VFrame := { vf with ended := false };
     let s : State := (jobS (ins 1 [(54, 3), (32, 63), (24, 15), (23, 1)]) {} { vf with ended := false });
     let len : Nat := List.length v.frame.bytes;
     let lo : Nat := t.cursor + bits w 40 32 + if w.testBit 22 = true then reg t (bits w 53 50) else 0;
     let e : Nat := lo + (bits w 31 29 + (bits w 28 24 + 1) + 7) / 8 - 1; Fetches p 1 w t v s ∧ v.ended = false ∧
     t.lend = none ∧ len ≤ e) ∧
    (let p : Nat := 47; let w : Nat := (ins 0x10 [(49, 1), (0, 64)]); let t : Thread := {}; let v : VFrame := vf;
     let s : State := (jobS (ins 0x10 [(49, 1), (0, 64)]) {} vf); let len : Nat := List.length v.frame.bytes;
     let dst : Nat := t.cursor + if w.testBit 49 = true then bits w 15 0 else reg t (bits w 53 50) * 2 ^ bits w 44 42 + bits w 15 0;
     Fetches p 16 w t v s ∧ dst ≤ len ∧ (∀ (l : Nat), t.lend = some l → dst ≤ l)) ∧
    (let p : Nat := 47; let w : Nat := (ins 0x11 [(50, 0x60)]); let t : Thread := {}; let v : VFrame := vf;
     let s : State := (jobS (ins 0x11 [(50, 0x60)]) {} vf); Fetches p 17 w t v s ∧ w.testBit 49 = false ∧
     t.stack.length < 12 ∧ (bits w 57 50 / 16 = 6 → countIf (fun e ↦ decide (e.fst / 16 = 6)) t.stack < 6)) ∧
    (let p : Nat := 47; let w : Nat := (ins 0x12 [(50, 40), (42, 7), (32, 50)]); let t : Thread := {};
     let v : VFrame := vf; let s : State := (jobS (ins 0x12 [(50, 40), (42, 7), (32, 50)]) {} vf);
     let n : Nat := bits w 44 42 + 1;
     let lo : Nat := t.cursor + bits w 40 32 + if w.testBit 22 = true then reg t (bits w 48 45) else 0;
     Fetches p 18 w t v s ∧ bits w 57 56 = 0 ∧ Readable (lo + n - 1) t v) ∧
    (let p : Nat := 47; let w : Nat := (ins 0x12 [(56, 1), (50, 46), (45, 3), (42, 1)]); let t : Thread := {};
     let v : VFrame := vf; let s : State := (jobS (ins 0x12 [(56, 1), (50, 46), (45, 3), (42, 1)]) {} vf);
     Fetches p 18 w t v s ∧ bits w 57 56 = 1) ∧
    (let p : Nat := 47; let w : Nat := (ins 0x12 [(56, 2), (50, 46), (42, 1), (0, 65535)]); let t : Thread := {};
     let v : VFrame := vf; let s : State := (jobS (ins 0x12 [(56, 2), (50, 46), (42, 1), (0, 65535)]) {} vf);
     Fetches p 18 w t v s ∧ bits w 57 56 = 2) ∧
    (let p : Nat := 47; let w : Nat := (ins 0x14 [(48, 1)]); let t : Thread := {}; let v : VFrame := vf;
     let s : State := (jobS (ins 0x14 [(48, 1)]) {} vf); let len : Nat := List.length v.frame.bytes;
     Fetches p 20 w t v s ∧ v.ended = true ∧
     if w.testBit 48 = true then reg t (bits w 53 50) ≤ t.lend.getD len - t.cursor else reg t (bits w 53 50) = t.lend.getD len - t.cursor) := by
  and_intros <;> (try dsimp only) <;> and_intros <;>
    first | exact ⟨7, rfl⟩ | exact Or.inr rfl | decide +kernel | exact rfl

/-- Values that meet the premises of AParseExecutesAtMost64Instructions, clause by clause. -/
theorem meets_AParseExecutesAtMost64Instructions :
    (let p : Nat := 47; let t : Thread := { count := 64 }; let v : VFrame := vf; let s : State := j64;
     let c : Instr := (.done 47); (pickerOf p s).job = some t ∧ frameOf t.fid s = some v ∧ t.count = 64 ∧
     c ∈ [Instr.ldf p, Instr.cmp p, Instr.br p, Instr.jt p, Instr.add p, Instr.sub p, Instr.and p, Instr.or p, Instr.shr p, Instr.shl p, Instr.adv p, Instr.push p, Instr.key p, Instr.metaField p, Instr.chklen p, Instr.defer p, Instr.done p, Instr.mal p]) ∧
    (let p : Nat := 47; let t : Thread := { count := 64 }; let v : VFrame := vf; let s : State := j64;
     (pickerOf p s).job = some t ∧ frameOf t.fid s = some v ∧ t.count = 64) ∧
    (let p : Nat := 47; let w : Nat := (ins 0x18 [(0, 511)]); let t : Thread := {}; let v : VFrame := vf;
     let s : State := (jobS (ins 0x18 [(0, 511)]) {} vf); Fetches p 24 w t v s) ∧
    (let p : Nat := 47; let w : Nat := (ins 0x19 [(0, 63)]); let t : Thread := {}; let v : VFrame := vf;
     let s : State := (jobS (ins 0x19 [(0, 63)]) {} vf); Fetches p 25 w t v s) ∧
    (let p : Nat := 47; let w : Nat := (ins 0x1A [(0, 15)]); let t : Thread := {}; let v : VFrame := vf;
     let s : State := (jobS (ins 0x1A [(0, 15)]) {} vf); Fetches p 26 w t v s) ∧
    (let k : Nat := 7; let t : Thread := { node := 5 };
     let t' : Thread := (((walkerOf 7 (after (exec (.trellisNodeVisit 7) (nodeS { node := 5 })))).job).getD {});
     let s : State := (nodeS { node := 5 });
     let u : State := (after (exec (.trellisNodeVisit 7) (nodeS { node := 5 })));
     Tbl.sorted s.parse.walkers = true ∧ (walkerOf k s).job = some t ∧ Gives (Instr.trellisNodeVisit k) s u ∧
     (walkerOf k u).job = some t') := by
  and_intros <;> (try dsimp only) <;> and_intros <;>
    first | exact ⟨7, rfl⟩ | exact Or.inr rfl | decide +kernel | exact rfl

/-- Values that meet the premises of ThreadsRunFromAllocationToResult, clause by clause. -/
theorem meets_ThreadsRunFromAllocationToResult :
    (let p : Nat := 47; let fid : Nat := 0; let rest : List Nat := [];
     let v : VFrame := { vf with frame := { vf.frame with gen := 0, port := 31 } }; let s : State := waitS; p < 48 ∧
     (pickerOf p s).job = none ∧ (pickerOf p s).state = 0 ∧ s.parse.waiting = fid :: rest ∧ s.parse.order = [] ∧
     frameOf fid s = some v ∧ v.frame.gen = 0 ∧ v.frame.edge = false ∧ v.frame.port < 32 ∧ v.reruns = 0) ∧
    (let p : Nat := 47; let n : Nat := 64; let t : Thread := { stalled := some 64 }; let v : VFrame := vf;
     let s : State := (jobS 0 { stalled := some 64 } vf); (pickerOf p s).job = some t ∧ frameOf t.fid s = some v ∧
     t.stalled = some n ∧ (v.ended = true ∨ n ≤ List.length v.frame.bytes)) ∧
    (let k : Nat := 7; let t : Thread := {}; let rest : List Thread := [];
     let s : State := { up with parse := { deferred := [{}] } }; k < 8 ∧ (walkerOf k s).job = none ∧
     (walkerOf k s).state = 0 ∧ s.parse.deferred = t :: rest) ∧
    (let k : Nat := 7; let t : Thread := { node := 5, nodes := 22 }; let v : VFrame := vf;
     let s : State := (nodeS { node := 5, nodes := 22 }); let n : Bytes := nodeOf (setOf v.frame.gen s) t.node;
     let w0 : Nat := nodeW n 0; let so : Nat := t.cursor + bits w0 8 0;
     let e : Nat := so + (bits w0 11 9 + (bits w0 16 12 + 1) + 7) / 8 - 1;
     let nx : Nat := nodeNext n (extract v.frame.bytes so (bits w0 11 9) (bits w0 16 12 + 1) &&& nodeW n 1);
     (walkerOf k s).job = some t ∧ (walkerOf k s).state = 0 ∧ frameOf t.fid s = some v ∧ t.stalled = none ∧
     badWord v.frame.gen 2 t.node s = false ∧ w0.testBit 24 = false ∧ w0.testBit 26 = false ∧ bits w0 23 22 = 0 ∧
     Readable e t v ∧ nx < 512 ∧ t.nodes < 23) ∧
    (let k : Nat := 7; let t : Thread := { node := 5, nodes := 23 }; let v : VFrame := vf;
     let s : State := (nodeS { node := 5, nodes := 23 }); let n : Bytes := nodeOf (setOf v.frame.gen s) t.node;
     let w0 : Nat := nodeW n 0; let so : Nat := t.cursor + bits w0 8 0;
     let e : Nat := so + (bits w0 11 9 + (bits w0 16 12 + 1) + 7) / 8 - 1;
     let nx : Nat := nodeNext n (extract v.frame.bytes so (bits w0 11 9) (bits w0 16 12 + 1) &&& nodeW n 1);
     (walkerOf k s).job = some t ∧ (walkerOf k s).state = 0 ∧ frameOf t.fid s = some v ∧ t.stalled = none ∧
     badWord v.frame.gen 2 t.node s = false ∧ w0.testBit 24 = false ∧ w0.testBit 26 = false ∧ bits w0 23 22 = 0 ∧
     Readable e t v ∧ nx < 512 ∧ t.nodes = 23) ∧
    (let port : Nat := 31; let fid : Nat := 0; let v : VFrame := { vf with frame := { vf.frame with port := 31 } };
     let r : ParseResult := { reason := 3 }; let s : State := malS;
     let u : State := raise 60 r.reason (count port (448 + r.reason) (forgetParse fid s)); s.parse.order = [fid] ∧
     frameOf fid s = some v ∧ v.frame.port = port ∧ v.ended = true ∧ Tbl.find s.parse.results fid = some r ∧
     r.reason ≠ 0 ∧ malAction (setOf v.frame.gen s) port r.reason = 0 ∧
     foxTake (setOf v.frame.gen s) port 0 u = (false, u)) := by
  and_intros <;> (try dsimp only) <;> and_intros <;>
    first | exact ⟨7, rfl⟩ | exact Or.inr rfl | decide +kernel | exact rfl

/-- Values that meet the premises of FramesArriveAndFaultsRerunThem, clause by clause. -/
theorem meets_FramesArriveAndFaultsRerunThem :
    (let port : Nat := 31; let d : Bytes := (par 60 [1]); let s : State := portS; 8 ≤ port ∧ port < 32 ∧
     portUp port s = true ∧ (ethPort port s).rx = none ∧ 60 ≤ List.length d ∧
     List.length d + 4 ≤ (ethPort port s).maxFrame ∧ forwards s = true ∧ wakeEth port d s = s) ∧
    (let port : Nat := 31; let d : Bytes := (par 60 [1]); let s : State := portS; 8 ≤ port ∧ port < 32 ∧
     portUp port s = true ∧ (ethPort port s).rx = none ∧ 60 ≤ List.length d ∧
     List.length d + 4 ≤ (ethPort port s).maxFrame ∧ forwards s = true ∧ wakeEth port d s = s) ∧
    (let k : Nat := 47; let fid : Nat := 0; let t : Thread := {}; let v : VFrame := { vf with reruns := 1 };
     let s : State := (jobS 0 {} { vf with reruns := 1 }); (pickerOf k s).job = some t ∧
     (pickerOf k s).lastFault = none ∧ t.fid = fid ∧ frameOf fid s = some v ∧ v.reruns ≠ 2) ∧
    (let k : Nat := 47; let fid : Nat := 0; let t : Thread := {}; let v : VFrame := { vf with reruns := 2 };
     let s : State := (jobS 0 {} { vf with reruns := 2 }); (pickerOf k s).job = some t ∧
     (pickerOf k s).lastFault = none ∧ t.fid = fid ∧ frameOf fid s = some v ∧ v.reruns = 2) ∧
    (let b : Bool := true; let kind : Nat := 1; let addr : Nat := 4095; let s : State := up; kind = 1) := by
  and_intros <;> (try dsimp only) <;> and_intros <;>
    first | exact ⟨7, rfl⟩ | exact Or.inr rfl | decide +kernel | exact rfl

def qP (op r : Nat) (q : Nat) : Bytes := par 16 [q % 256, q / 256, op, 0, r % 256, r / 256, 0, 0, 255, 255]
def fullRes : State := { up with vat := { queues := (List.range 5).map (fun i => (i, { reserve := some 16384 })) } }
def oneCopy (q : Nat) (c : Copy) (r : Option Nat) : State :=
  { up with
    time := { tb := [(0, { state := .enabled, count := 5000000000 })] }
    vat := { nextFid := 1, frames := [(0, { frame := { bytes := par 60 [1, 2, 3], gen := 1 }, refs := 1, staged := false })]
             queues := [(q, { maxRes := r, copies := [c] })] } }
def fullV (l : List Nat) : State := { up with vat := { frames := [(0, { cells := l })] } }
theorem fullV_free (l : List Nat) (h : l.length = 98304) : freeCells (fullV l) = 0 := by
  simp [freeCells, heldCells, leakedOf, dupOf, fullV, up, h]
def pfcS : State := oneCopy 255 { len := 60, egress := 31, queue := 255, cells := 1, gen := 1, ingress := 31 } none
def pauseS : State := { pfcS with vat := { pfcS.vat with frames := [(0, { frame := { bytes := par 60 [1], port := 31 }, cells := List.range 200, prio := some 7, staged := false, refs := 1 })], ports := [(31, { pfcTx := 128, xoffSent := 128 })] } }
def selS : State :=
  { up with
    ports := { eth := [(31, { state := 2 })] }
    vat := { nextFid := 1, frames := [(0, { frame := { bytes := par 60 [1, 2, 3], gen := 1 }, refs := 1, staged := false })]
             queues := [(255, { copies := [{ len := 60, egress := 31, queue := 255, cells := 1, gen := 1 }] })] } }
def sendS : State := { selS with flow := { egr := [(31, { tx := some { bytes := par 60 [1, 2, 3], wire := 84 } })] } }
def gateS (t base : Nat) : State :=
  { up with
    time := { tb := [(0, { state := .enabled, count := t })] }
    flow := { egr := [(31, { running := true })] }
    sets := { gen := 1, a := { gates := [(31, { base := base, cycle := 0, entries := [{ states := 3, interval := 1000 }, { states := 5, interval := 500 }] })]
                               streamGates := [(1023, { flags := 1, list := { base := base, entries := [{ states := 1, interval := 1000 }] } })] } } }
def verS (n : Nat) : State := { up with ports := { eth := [(31, { state := 2 })] }, flow := { egr := [(31, { preempt := { en := true, state := 1, attempts := n } })] } }
def edgeQ : State :=
  { oneCopy (256 + 4 * 90 + 2) { len := 24, egress := 122, queue := 618, cells := 1, gen := 1 } none with
    time := up.time
    edge := { ch := [(90, { mode := 4, state := 3 })] } }
def schedP : Bytes := (List.range 8).foldl (fun b t => setByte b (24 + 16 * t) t) (par 152 [31])

def listP : Bytes := par 24 [31, 0, 1, 0, 0, 0, 0, 0, 0, 0, 0, 0, 0, 0, 0, 0, 255, 2, 0, 0, 100]

/-- Values that meet the premises of SharedPoolIsWhatReservesLeave, clause by clause. -/
theorem meets_SharedPoolIsWhatReservesLeave :
    (let s : State := { up with vat := { queues := [(1023, { reserve := some 9 })] } };
     Tbl.sorted s.vat.queues = true ∧ (∀ (e : Nat × VatQueue), e ∈ s.vat.queues → e.fst < 1024)) ∧
    (let p : Bytes := (qP 1 16384 31); let s : State := (ask 0 0x0700 0 (qP 1 16384 31) up); let q : Nat := u16 p 0;
     let res : Nat := min 16384 (u32 p 4); let mx : Nat := max (max 1 res) (min 98304 (u32 p 8));
     let u : State := setVatQueue q (have __src := vatQueue q s;
     { reserve := held res (queueReserve0 q), max := held mx (queueMax0 q), maxRes := held (min 2000000 (u32 p 12)) (queueMaxRes0 q), copies := __src.copies }) s;
     List.length p = 16 ∧ isLimitQueue (u16 p 0) = true ∧ u8 p 2 = 1 ∧ sumReserve u ≤ 89088 ∧ Served 0 1792 0 p s) ∧
    (let p : Bytes := (qP 1 16384 31); let s : State := (ask 0 0x0700 0 (qP 1 16384 31) fullRes);
     let q : Nat := u16 p 0; let res : Nat := min 16384 (u32 p 4);
     let mx : Nat := max (max 1 res) (min 98304 (u32 p 8));
     let u : State := setVatQueue q (have __src := vatQueue q s;
     { reserve := held res (queueReserve0 q), max := held mx (queueMax0 q), maxRes := held (min 2000000 (u32 p 12)) (queueMaxRes0 q), copies := __src.copies }) s;
     let t : Nat := 0; List.length p = 16 ∧ isLimitQueue (u16 p 0) = true ∧ u8 p 2 = 1 ∧ 89088 < sumReserve u ∧
     Served 0 1792 t p s) := by
  and_intros <;> (try dsimp only) <;> and_intros <;>
    first | exact ⟨7, rfl⟩ | exact Or.inr rfl | decide +kernel | exact rfl

/-- Values that meet the premises of TheVatAgesAuditsAndPauses, clause by clause. -/
theorem meets_TheVatAgesAuditsAndPauses :
    (let q : Nat := 255; let x : Copy := { len := 60, egress := 31, queue := 255, cells := 1, gen := 1, enq := 0 };
     let s : State := (oneCopy 255 { len := 60, egress := 31, queue := 255, cells := 1, gen := 1, enq := 0 } (some 1));
     busyQueues s = [q] ∧ copiesOf q s = [x] ∧ 0 < queueMaxRes q s ∧ overAge x (queueMaxRes q s) s = true) ∧
    (let s : State := { up with vat := { badgerAt := 163838 } }; 0 < s.vat.badgerAt ∧ s.vat.badgerAt < 163839 ∧
     s.vat.leaked = [] ∧ s.vat.marked = [] ∧ s.vat.dup = [] ∧ heldTwice (badgerItem s.vat.badgerAt) s = false) ∧
    (let port : Nat := 128; let queue : Nat := 671; let d : Bytes := (par 60 [1]);
     let launch : Option (Nat × Nat) := none; let s : State := (fullV (List.range 98304));
     queueOn port queue = true ∧ queue ≠ 673 ∧ d ≠ [] ∧ freeCells s < max 1 (cellsFor (List.length d))) ∧
    (let port : Nat := 128; let queue : Nat := 671; let d : Bytes := (par 60 [1]);
     let launch : Option (Nat × Nat) := none; let s : State := up; queueOn port queue = true ∧ queue ≠ 673 ∧
     d ≠ [] ∧ max 1 (cellsFor (List.length d)) ≤ freeCells s) ∧
    (let s : State := { up with sets := { gen := 1, shadow := .draining, a := { em := [(5, { kind := 1, key := par 16 [1] })] } } };
     0 < s.flow.ageS ∧ s.sets.shadow = Shadow.draining) ∧
    (let b : Bool := false; let table : Nat := 4; let i : Nat := 3;
     let s : State := { up with flow := { badWords := [(false, 4, 3)] } }; (b, table, i) ∈ s.flow.badWords ∧
     table ≠ 0) ∧
    (let port : Nat := 31; let prio : Nat := 7; let s : State := pauseS;
     (vatPort port s).xoffSent.getLsbD prio = true ∧ (vatPort port s).pfcTx.getLsbD prio = true ∧
     (vatPort port s).xon < inOcc port prio s) ∧
    (let port : Nat := 31; let prio : Nat := 7;
     let q : Bytes := (par 16 [0, 0, 0, 0, 0, 0, 0, 0, 0, 0, 0, 0, 0, 0, 255, 255]);
     let s : State := { up with vat := { ports := [(31, { pfcRx := 128 })] } }; prio < 8 ∧
     Tbl.sorted s.vat.paused = true) ∧
    (let port : Nat := 31; let prio : Nat := 7; let s : State := { up with vat := { paused := [(255, true)] } };
     Tbl.sorted s.vat.paused = true) := by
  refine ⟨?_, ?_,
    ⟨by decide +kernel, by decide +kernel, by decide +kernel, by rw [fullV_free _ List.length_range]; decide +kernel⟩,
    ?_, ?_, ?_, ?_, ?_, ?_⟩ <;> (try dsimp only) <;> and_intros <;>
    first | exact ⟨7, rfl⟩ | exact Or.inr rfl | decide +kernel | exact rfl

/-- Values that meet the premises of SchedulersSelectAndSend, clause by clause. -/
theorem meets_SchedulersSelectAndSend :
    (let p : Nat := 31; let t : Nat := 7; let i : Nat := 0; let q : Nat := 255;
     let x : Copy := { len := 60, egress := 31, queue := 255, cells := 1, gen := 1 }; let s : State := selS;
     let u : State := selS; maySelect p s = true ∧ preemptOn (egrOf p s) = false ∧ (egrOf p s).tx = none ∧
     (egrOf p s).txPre = none ∧ pickOnce p Side.all s = (Picked.send t i q x, u)) ∧
    (let p : Nat := 31; let s : State := { up with ports := { eth := [(31, { state := 2 })] } };
     maySelect p s = true ∧ preemptOn (egrOf p s) = false ∧ (egrOf p s).tx = none ∧ (egrOf p s).txPre = none ∧
     pickOnce p Side.all s = (Picked.idle, s)) ∧
    (let p : Nat := 31; let w : OnWire := { bytes := par 60 [1, 2, 3], wire := 84 }; let s : State := sendS;
     (egrOf p s).tx = some w ∧ w.copy.ct = false) ∧
    (let p : Nat := 31; let w : OnWire := { bytes := par 60 [1, 2, 3], wire := 84 }; let s : State := sendS;
     (egrOf p s).tx = some w ∧ w.copy.ct = false) ∧
    (let p : Nat := 31; let s : State := up; let l : GateList := gateListOf (activeSet s) p; l.entries = []) ∧
    (let p : Nat := 31; let s : State := (gateS 999 1000); let l : GateList := gateListOf (activeSet s) p;
     l.entries ≠ [] ∧ tbEnabled l.tb s = true ∧ tbNow l.tb s < l.base) ∧
    (let p : Nat := 31; let s : State := (gateS 2000 1000); let l : GateList := gateListOf (activeSet s) p;
     let start : Nat := 1000; let i : Nat := 1; let left : Nat := 500;
     let x : GateEntry := { states := 5, interval := 500 }; l.entries ≠ [] ∧ tbEnabled l.tb s = true ∧
     (egrOf p s).running = true ∧ preemptOn (egrOf p s) = false ∧ (egrOf p s).txPre = none ∧
     l.at_ (tbNow l.tb s) = some (start, i, x, left)) ∧
    (let p : Nat := 31; let s : State := (verS 0); (egrOf p s).preempt.state = 1 ∧ portUp p s = true) ∧
    (let p : Nat := 31; let s : State := (verS 2); let r : Preempt := (egrOf p s).preempt;
     (egrOf p s).preempt.state = 1 ∧ portUp p s = true ∧ r.attempts = 2) ∧
    (let g : Nat := 1023; let start : Nat := 1000; let i : Nat := 0; let left : Nat := 1000;
     let x : GateEntry := { states := 1, interval := 1000 }; let s : State := (gateS 1000 1000);
     let l : GateList := (streamGateOf (activeSet s) g).list; tbEnabled l.tb s = true ∧
     l.at_ (tbNow l.tb s) = some (start, i, x, left)) ∧
    (let p : Nat := 31; let s : State := { up with ports := { macsec := [(31, { txState := 1 })] } };
     (macsecOf p s).txState = 1) ∧
    (let n : Nat := 90; let k : Nat := 2; let x : EdgeCopy := ((mayTransfer 90 2 edgeQ).getD {});
     let s : State := edgeQ; (edgeChan n s).state = 3 ∧ (edgeChan n s).mode ≠ 6 ∧ forwards s = true ∧
     halted (32 + n) s = false ∧
     (∀ (j : Nat), j < 4 → dropBad (256 + 4 * n + j) (ageQueue (256 + 4 * n + j) s) = s) ∧ k < 4 ∧
     (∀ (j : Nat), j < 4 → k < j → mayTransfer n j s = none) ∧ mayTransfer n k s = some x) := by
  and_intros <;> (try dsimp only) <;> and_intros <;>
    first | exact ⟨7, rfl⟩ | exact Or.inr rfl | decide +kernel | exact rfl

/-- Values that meet the premises of VatCommandsAnswer, clause by clause. -/
theorem meets_VatCommandsAnswer :
    (let mb : Nat := 4; let p : Bytes := (qP 0 0 31);
     let s : State := { ask 4 0x0700 0 (qP 0 0 31) up with svc := { session := some 1, rights := 2 } }; mb < 5 ∧
     List.length p = 16 ∧ u8 p 2 = 0 ∧ isLimitQueue (u16 p 0) = true ∧ Served mb 1792 0 p s) ∧
    (let mb : Nat := 3; let p : Bytes := (par 12 [31]); let s : State := (ask 3 0x0701 0 (par 12 [31]) up); mb < 5 ∧
     List.length p = 12 ∧ isVatPort (u8 p 0) = true ∧ u8 p 1 = 0 ∧ Served mb 1793 0 p s) ∧
    (let mb : Nat := 3; let p : Bytes := (par 8 []); let s : State := (ask 3 0x0702 0 (par 8 []) up); mb < 5 ∧
     List.length p = 8 ∧ u8 p 0 = 0 ∧ Served mb 1794 0 p s) ∧
    (let mb : Nat := 3; let p : Bytes := (par 4 [0, 3, 0, 1]);
     let s : State := (ask 3 0x0703 0 (par 4 [0, 3, 0, 1]) up); mb < 5 ∧ List.length p = 4 ∧
     u16 p 0 + clamp 1 256 (u16 p 2) ≤ 1024 ∧ Served mb 1795 0 p s) ∧
    (let mb : Nat := 0; let p : Bytes := (par 4 [31]); let s : State := (ask 0 0x0704 0 (par 4 [31]) selS); mb < 5 ∧
     List.length p = 4 ∧ isVatPort (u8 p 0) = true ∧ Served 0 1796 0 p s) ∧
    (let mb : Nat := 1; let p : Bytes := []; let s : State := (ask 1 0x0705 0 [] up); mb < 5 ∧ p = [] ∧
     Served mb 1797 0 p s) ∧
    (let mb : Nat := 1; let p : Bytes := (par 3 [255, 0, 64]);
     let s : State := (ask 1 0x0706 0 (par 3 [255, 0, 64]) selS); mb < 5 ∧ List.length p = 3 ∧ mb ≠ 3 ∧
     queuePort (u16 p 0) ≠ 255 ∧ Served mb 1798 0 p s) ∧
    (let mb : Nat := 1; let p : Bytes := (par 8 [31]); let s : State := (ask 1 0x0802 0 (par 8 [31]) up); mb < 5 ∧
     List.length p = 8 ∧ u8 p 0 < 32 ∧ u8 p 1 = 0 ∧ Served mb 2050 0 p s) ∧
    (let mb : Nat := 0; let p : Bytes := (par 8 [31, 1, 3, 15, 2, 0, 200]);
     let s : State := (ask 0 0x0802 0 (par 8 [31, 1, 3, 15, 2, 0, 200]) up); mb < 5 ∧ List.length p = 8 ∧
     u8 p 0 < 32 ∧ u8 p 1 = 1 ∧ Served 0 2050 0 p s) ∧
    (let mb : Nat := 1; let p : Bytes := (par 4 [31]); let s : State := (ask 1 0x0803 0 (par 4 [31]) selS); mb < 5 ∧
     List.length p = 4 ∧ u8 p 0 < 32 ∧ Served mb 2051 0 p s) := by
  and_intros <;> (try dsimp only) <;> and_intros <;>
    first | exact ⟨7, rfl⟩ | exact Or.inr rfl | decide +kernel | exact rfl

/-- Values that meet the premises of SchedulerCommandsReadAndWriteSets, clause by clause. -/
theorem meets_SchedulerCommandsReadAndWriteSets :
    (let p : Bytes := (par 152 [31]); let s : State := (ask 0 0x0800 0 (par 152 [31]) up); let mb : Nat := 0;
     List.length p = 152 ∧ u8 p 0 < 32 ∧ mb < 5 ∧ Served mb 2048 0 p s) ∧
    (let p : Bytes := schedP; let s : State := (ask 0 0x0800 1 schedP up);
     let b : Bytes := schedApply p (portRate (u8 p 0) s); List.length p = 152 ∧ u8 p 0 < 32 ∧
     groupConflict b = false ∧ ShadowFree 0 s ∧ Served 0 2048 1 p s) ∧
    (let p : Bytes := (par 152 [31]); let s : State := (ask 0 0x0800 1 (par 152 [31]) up);
     let b : Bytes := schedApply p (portRate (u8 p 0) s); List.length p = 152 ∧ u8 p 0 < 32 ∧
     groupConflict b = true ∧ ShadowFree 0 s ∧ Served 0 2048 1 p s) ∧
    (let p : Bytes := listP; let s : State := (ask 0 0x0801 0 listP up); let mb : Nat := 0;
     List.length p = 16 + 8 * u16 p 2 ∧ u8 p 0 < 32 ∧ mb < 5 ∧ Served mb 2049 0 p s) ∧
    (let p : Bytes := listP; let s : State := (ask 0 0x0801 1 listP up); List.length p = 16 + 8 * u16 p 2 ∧
     u8 p 0 < 32 ∧ u16 p 2 = 1 ∧ u8 p 1 < 6 ∧ u8 p 17 % 4 < 3 ∧ ShadowFree 0 s ∧ Served 0 2049 1 p s) ∧
    (let p : Bytes := (par 12 [255, 31]); let s : State := (ask 3 0x0804 0 (par 12 [255, 31]) up);
     let mb : Nat := 3; List.length p = 12 ∧ u16 p 0 < 8192 ∧ mb < 5 ∧ Served mb 2052 0 p s) ∧
    (let p : Bytes := (par 12 [255, 31, 3, 0, 0, 0, 255, 3, 255, 255]);
     let s : State := (ask 0 0x0804 1 (par 12 [255, 31, 3, 0, 0, 0, 255, 3, 255, 255]) up); List.length p = 12 ∧
     u16 p 0 < 8192 ∧ (u16 p 6 < 1024 ∨ u16 p 6 = 65535) ∧ (u16 p 8 < 8192 ∨ u16 p 8 = 65535) ∧ ShadowFree 0 s ∧
     Served 0 2052 1 p s) ∧
    (let p : Bytes := (par 20 [255, 3]); let s : State := (ask 3 0x0805 0 (par 20 [255, 3]) up); let mb : Nat := 3;
     List.length p = 20 + 12 * u16 p 16 ∧ u16 p 0 < 1024 ∧ mb < 5 ∧ Served mb 2053 0 p s) ∧
    (let p : Bytes := (par 20 [255, 3, 5, 7]); let s : State := (ask 0 0x0805 1 (par 20 [255, 3, 5, 7]) up);
     List.length p = 20 + 12 * u16 p 16 ∧ u16 p 0 < 1024 ∧ u16 p 16 = 0 ∧ u8 p 2 < 6 ∧
     sumBy (fun e ↦ e.snd.list.entries.length) (Tbl.erase (shadowSet s).streamGates (u16 p 0)) ≤ 16384 ∧
     ShadowFree 0 s ∧ Served 0 2053 1 p s) ∧
    (let p : Bytes := (par 20 [255, 31]); let s : State := (ask 3 0x0806 0 (par 20 [255, 31]) up);
     let mb : Nat := 3; List.length p = 20 ∧ u16 p 0 < 8192 ∧ mb < 5 ∧ Served mb 2054 0 p s) ∧
    (let p : Bytes := (par 20 [255, 31, 15, 0, 1]);
     let s : State := (ask 0 0x0806 1 (par 20 [255, 31, 15, 0, 1]) up); List.length p = 20 ∧ u16 p 0 < 8192 ∧
     ShadowFree 0 s ∧ Served 0 2054 1 p s) ∧
    (let p : Bytes := (par 8 [95]); let s : State := (ask 3 0x0809 0 (par 8 [95]) up); let mb : Nat := 3;
     List.length p = 8 ∧ u8 p 0 < 96 ∧ mb < 5 ∧ Served mb 2057 0 p s) ∧
    (let p : Bytes := (par 8 [95, 8, 8, 8, 8, 255]);
     let s : State := (ask 0 0x0809 1 (par 8 [95, 8, 8, 8, 8, 255]) up);
     let b : List Byte := List.flatMap (fun k ↦ b1 (min 32 (u8 p (1 + k)))) (List.range 4) ++ b1 (u8 p 5);
     List.length p = 8 ∧ u8 p 0 < 96 ∧ (u8 p 5 < 4 ∨ u8 p 5 = 255) ∧ sumBy (fun k ↦ u8 b k) (List.range 4) ≤ 32 ∧
     ShadowFree 0 s ∧ Served 0 2057 1 p s) ∧
    (let p : Bytes := (par 10 [0, 0, 0, 0, 255, 31, 0, 0, 100]);
     let s : State := (ask 3 0x0807 0 (par 10 [0, 0, 0, 0, 255, 31, 0, 0, 100]) up); let mb : Nat := 3; mb < 5 ∧
     List.length p = 10 ∧ u8 p 0 = 0 ∧ u32 p 4 < 8192 ∧ bit p 1 0 = false ∧ Served mb 2055 0 p s) ∧
    (let p : Bytes := (par 4 [0, 0, 255, 31]);
     let s : State := (ask 0 0x0808 0 (par 4 [0, 0, 255, 31]) { up with flow := { blocked := [(8191, true)] } });
     List.length p = 4 ∧ u8 p 0 = 0 ∧ u16 p 2 < 8192 ∧ Tbl.get s.flow.blocked (u16 p 2) false = true ∧
     Served 0 2056 0 p s) ∧
    (let p : Bytes := (par 4 [0, 0, 255, 31]); let s : State := (ask 0 0x0808 0 (par 4 [0, 0, 255, 31]) up);
     let t : Nat := 0; List.length p = 4 ∧ u8 p 0 = 0 ∧ u16 p 2 < 8192 ∧
     Tbl.get s.flow.blocked (u16 p 2) false = false ∧ Served 0 2056 t p s) := by
  and_intros <;> (try dsimp only) <;> and_intros <;>
    first | exact ⟨7, rfl⟩ | exact Or.inr rfl | decide +kernel | exact rfl

def tbS (n : Nat) (st : TbState) (c : Nat) : State := { up with time := { tb := [(0, { state := .enabled, count := 1000 }), (n, { state := st, count := c })] } }
def stepP : Bytes := par 24 [5, 0, 0, 0, 0, 0, 0, 0, 255, 255, 255, 255, 255, 255, 255, 255]
def rateP : Bytes := par 16 [1, 1, 0, 0, 0, 0, 0, 0, 255, 255, 255, 255, 255, 255, 255, 127]
def cmpS (p : Nat) : State := { tbS 5 .enabled 700 with time := { (tbS 5 .enabled 700).time with cmp := [(23, { time := 700, period := p, arm := true })] } }
def gS (g : GptpSlot) (q : GptpPort) : State :=
  { up with
    ports := { eth := [(31, { state := 2 })] }
    time := { tb := [(0, { state := .enabled, count := 1000 }), (5, { state := .enabled, count := 77, firstSync := true })]
              slot := [(4, g)], gport := [(31, q)] } }
def gSlave : GptpSlot := { valid := true, external := true, slavePort := 31, tb := 5, state := 1 }

/-- Values that meet the premises of ATimeBaseStepsOnce, clause by clause. -/
theorem meets_ATimeBaseStepsOnce :
    (let n : Nat := 5; let p : Bytes := stepP; let s : State := (ask 0 0x0901 0 stepP (tbS 5 .enabled 0)); 1 ≤ n ∧
     n ≤ 5 ∧ List.length p = 24 ∧ u8 p 0 = n ∧ u8 p 1 = 0 ∧ (tbOf n s).state = TbState.enabled ∧
     hostOwns n s = true ∧ Served 0 2305 0 p s) ∧
    (let n : Nat := 5; let p : Bytes := stepP; let s : State := (ask 0 0x0901 0 stepP (tbS 5 .enabled 9)); 1 ≤ n ∧
     n ≤ 5 ∧ List.length p = 24 ∧ u8 p 0 = n ∧ u8 p 1 = 0 ∧ (tbOf n s).state = TbState.enabled ∧
     hostOwns n s = true ∧ Tbl.sorted s.time.tb = true) ∧
    (let n : Nat := 5; let p : Bytes := stepP; let s : State := (ask 0 0x0901 0 stepP (tbS 5 .stepped 0));
     let t : Nat := 0; 1 ≤ n ∧ n ≤ 5 ∧ List.length p = 24 ∧ u8 p 0 = n ∧ u8 p 1 = 0 ∧
     (tbOf n s).state = TbState.stepped ∧ Served 0 2305 t p s) := by
  and_intros <;> (try dsimp only) <;> and_intros <;>
    first | exact ⟨7, rfl⟩ | exact Or.inr rfl | decide +kernel | exact rfl

/-- Values that meet the premises of RatesAreClampedAndTakeEffect, clause by clause. -/
theorem meets_RatesAreClampedAndTakeEffect :
    (let n : Nat := 1; let p : Bytes := rateP; let s : State := (ask 0 0x0902 0 rateP (tbS 1 .stepped 0)); 1 ≤ n ∧
     n ≤ 5 ∧ List.length p = 16 ∧ u8 p 0 = n ∧ u8 p 1 < 2 ∧
     ((tbOf n s).state = TbState.enabled ∨ (tbOf n s).state = TbState.stepped) ∧ hostOwns n s = true ∧
     Served 0 2306 0 p s) ∧
    (let t : TimeBase := { state := .enabled, count := 18446744073709551615, frac := 17592186044415, rate := -8796093022 };
     t.state ≠ TbState.disabled ∧ t.frac < 17592186044416 ∧ -8796093022 ≤ t.rate ∧ t.rate ≤ 8796093022) ∧
    (let s : State := (tbS 1 .stepped 0); timeRuns s = true) := by
  and_intros <;> (try dsimp only) <;> and_intros <;>
    first | exact ⟨7, rfl⟩ | exact Or.inr rfl | decide +kernel | exact rfl

/-- Values that meet the premises of TimeUnitsActOnTime, clause by clause. -/
theorem meets_TimeUnitsActOnTime :
    (let n : Nat := 5; let p : Bytes := (par 4 [5, 1]); let s : State := (ask 0 0x0900 0 (par 4 [5, 1]) up); 1 ≤ n ∧
     n ≤ 5 ∧ List.length p = 4 ∧ u8 p 0 = n ∧ u8 p 1 = 1 ∧ (tbOf n s).state = TbState.disabled ∧
     Served 0 2304 0 p s) ∧
    (let n : Nat := 5; let p : Bytes := (par 4 [5, 1]);
     let s : State := (ask 0 0x0900 0 (par 4 [5, 1]) (tbS 5 .stepped 0)); let t : Nat := 0; 1 ≤ n ∧ n ≤ 5 ∧
     List.length p = 4 ∧ u8 p 0 = n ∧ u8 p 1 = 1 ∧ (tbOf n s).state ≠ TbState.disabled ∧ Served 0 2304 t p s) ∧
    (let n : Nat := 5; let p : Bytes := (par 4 [5, 0]);
     let s : State := (ask 0 0x0900 0 (par 4 [5, 0]) (tbS 5 .stepped 0)); 1 ≤ n ∧ n ≤ 5 ∧ List.length p = 4 ∧
     u8 p 0 = n ∧ u8 p 1 = 0 ∧ (tbOf n s).state ≠ TbState.disabled ∧ boundSlot n s = none ∧ s.upd.state ≠ 3 ∧
     Served 0 2304 0 p s) ∧
    (let n : Nat := 5; let p : Bytes := (par 4 [5, 0]);
     let s : State := (ask 0 0x0903 0 (par 4 [5, 0]) (tbS 5 .stepped 7)); 1 ≤ n ∧ n ≤ 5 ∧ List.length p = 4 ∧
     u8 p 0 = n ∧ (tbOf n s).state ≠ TbState.disabled ∧ hostOwns n s = true ∧ s.upd.state ≠ 3 ∧ Served 0 2307 0 p s) ∧
    (let mb : Nat := 1; let s : State := (ask 1 0x0904 0 [] (tbS 5 .stepped 7)); Served mb 2308 0 [] s) ∧
    (let n : Nat := 5; let k : Nat := 3; let s : State := (cmpS 0); let c : Compare := cmpOf n k s;
     timeRuns s = true ∧ tbEnabled n s = true ∧ c.arm = true ∧ c.time ≤ tbNow n s ∧ c.period = 0) ∧
    (let n : Nat := 5; let k : Nat := 3; let s : State := (cmpS 9); let c : Compare := cmpOf n k s;
     timeRuns s = true ∧ tbEnabled n s = true ∧ c.arm = true ∧ c.time ≤ tbNow n s ∧ c.period ≠ 0) ∧
    (let n : Nat := 5; let k : Nat := 3; let s : State := up; timeRuns s = true ∧ tbEnabled n s = false) ∧
    (let n : Nat := 5; let k : Nat := 3; let s : State := (cmpS 9); (cmpOf n k s).out = 0 ∧ n ≠ 0) ∧
    (let source : Nat := 1; let rising : Bool := true; let s : State := (tbS 5 .enabled 7); source < 2 ∧
     timeRuns s = true) ∧
    (let n : Nat := 5; let k : Nat := 3; let s : State := up; (capOf n k s).valid = false) ∧
    (let n : Nat := 5; let k : Nat := 3; let s : State := { up with time := { cap := [(23, { valid := true })] } };
     (capOf n k s).valid = true) ∧
    (let k : Nat := 3; let s : State := { up with time := { pps := [(3, { active := true, until_ := 0 })] } };
     (ppsOf k s).active = true ∧ (ppsOf k s).until_ ≤ now s) := by
  and_intros <;> (try dsimp only) <;> and_intros <;>
    first | exact ⟨7, rfl⟩ | exact Or.inr rfl | decide +kernel | exact rfl

/-- Values that meet the premises of GptpKeepsTime, clause by clause. -/
theorem meets_GptpKeepsTime :
    (let slot : Nat := 4; let port : Nat := 31; let gm : Nat := 9; let steps : Nat := 1; let off : Int := 1001;
     let s : State := (gS gSlave { en := true }); let g : GptpSlot := gptpSlot slot s; g.valid = true ∧
     g.state ≠ 4 ∧ slavePort g = some port ∧ (gptpPort port s).en = true ∧ portUp port s = true ∧
     copiesOf 673 s = []) ∧
    (let slot : Nat := 4; let port : Nat := 31; let gm : Nat := 9; let steps : Nat := 1; let off : Int := 1001;
     let s : State := (gS gSlave { en := true }); let g : GptpSlot := gptpSlot slot s; g.valid = true ∧
     g.state ≠ 4 ∧ slavePort g = some port ∧ (gptpPort port s).en = true ∧ portUp port s = true ∧
     copiesOf 673 s = [] ∧ (tbOf g.tb s).firstSync = true ∧ (tbOf g.tb s).state = TbState.enabled ∧
     ↑g.stepMin < ↑off.natAbs) ∧
    (let slot : Nat := 4; let port : Nat := 31;
     let s : State := (gS { gSlave with state := 4, role := 1, slavePort := 255, masters := 0x80000000 } { en := true, asCapable := true });
     let g : GptpSlot := gptpSlot slot s; g.valid = true ∧ g.external = true ∧ port ∈ masterPorts g s ∧
     gptpSends port s = true ∧ g.state = 4) ∧
    (let slot : Nat := 4; let port : Nat := 31; let s : State := (gS { gSlave with state := 3 } { en := true });
     let g : GptpSlot := gptpSlot slot s; g.valid = true ∧ (g.state = 2 ∨ g.state = 3) ∧ g.lost = false) ∧
    (let slot : Nat := 4; let port : Nat := 31; let prio1 : Nat := 1; let quality : Nat := 2; let prio2 : Nat := 3;
     let gm : Nat := 4; let steps : Nat := 5;
     let s : State := (gS { valid := true, tb := 5, state := 1 } { en := true });
     let g : GptpSlot := gptpSlot slot s; (gptpPort port s).en = true ∧ portUp port s = true ∧ copiesOf 673 s = [] ∧
     g.valid = true ∧ g.external = false ∧ g.role = 0 ∧ g.best = none ∧ g.state ≠ 4) ∧
    (let slot : Nat := 4; let port : Nat := 31; let prio1 : Nat := 1; let quality : Nat := 2; let prio2 : Nat := 3;
     let gm : Nat := 4; let steps : Nat := 5;
     let s : State := (gS { valid := true, tb := 5, state := 1 } { en := true }); (gptpPort port s).en = true ∧
     portUp port s = true ∧ copiesOf 673 s = [] ∧ gptpSends port s = true) ∧
    (let port : Nat := 31; let s : State := (gS { valid := true, tb := 5, state := 1 } { en := true });
     gptpSends port s = true ∧ (gptpPort port s).waiting = false) ∧
    (let port : Nat := 31; let n : Nat := 6; let d : Nat := 800; let ratio : Int := 0;
     let s : State := (gS { valid := true, tb := 5, state := 1 } { en := true, waiting := true });
     (gptpPort port s).en = true ∧ portUp port s = true ∧ copiesOf 673 s = [] ∧ (gptpPort port s).answered = none ∧
     (gptpPort port s).waiting = true ∧ d ≤ (gptpPort port s).thresh) ∧
    (let mb : Nat := 1; let p : Bytes := (par 28 [4]); let s : State := (ask 1 0x0905 0 (par 28 [4]) up);
     List.length p = 28 ∧ u8 p 0 < 5 ∧ u8 p 1 = 0 ∧ Served mb 2309 0 p s) ∧
    (let mb : Nat := 0; let p : Bytes := (par 28 [4, 1, 6, 127, 5, 2, 0, 0, 0, 0, 0, 31]);
     let s : State := (ask 0 0x0905 0 (par 28 [4, 1, 6, 127, 5, 2, 0, 0, 0, 0, 0, 31]) up); List.length p = 28 ∧
     u8 p 0 < 5 ∧ u8 p 1 = 1 ∧ bit p 2 0 = false ∧ u8 p 3 < 128 ∧ 1 ≤ u8 p 4 ∧ u8 p 4 ≤ 5 ∧ u8 p 5 < 3 ∧
     (u8 p 11 < 32 ∨ u8 p 11 = 255) ∧ Served 0 2309 0 p s) ∧
    (let mb : Nat := 1; let p : Bytes := (par 16 [31]); let s : State := (ask 1 0x0906 0 (par 16 [31]) up);
     List.length p = 16 ∧ u8 p 0 < 32 ∧ u8 p 1 = 0 ∧ Served mb 2310 0 p s) ∧
    (let mb : Nat := 0; let p : Bytes := (par 16 [31, 1, 1]);
     let s : State := (ask 0 0x0906 0 (par 16 [31, 1, 1]) up); List.length p = 16 ∧ u8 p 0 < 32 ∧ u8 p 1 = 1 ∧
     bit p 2 0 = true ∧ Served 0 2310 0 p s) ∧
    (let mb : Nat := 1; let p : Bytes := (par 1 [4]); let s : State := (ask 1 0x0907 0 (par 1 [4]) up);
     List.length p = 1 ∧ u8 p 0 < 5 ∧ Served mb 2311 0 p s) := by
  and_intros <;> (try dsimp only) <;> and_intros <;>
    first | exact ⟨7, rfl⟩ | exact Or.inr rfl | decide +kernel | exact rfl

def chS (n : Nat) (c : EdgeChan) : State := { up with edge := { ch := [(n, c)] } }
def rxF : Frame := { bytes := edgeHeader 95 1 0 0 0 0x123 8 3 4 7 ++ par 8 [1, 2], port := 127, edge := true }
def inS : State := chS 95 { mode := 1, state := 3, flags := 3, rx := [rxF] }
def inU : State := setEdgeChan 95 { edgeChan 95 inS with rx := [] } inS
def ecC : EdgeCopy := { bytes := edgeHeader 95 1 0 0 0 0x123 8 3 4 7 ++ par 8 [1, 2], maxRes := 1000 }
def t1S : State :=
  { up with
    edge := { ch := [(95, { mode := 6, state := 3, beacon := true })] }
    vat := { nextFid := 1, frames := [(0, { frame := { bytes := par 60 [1, 2, 3], gen := 1 }, refs := 1, staged := false })]
             queues := [(639, { copies := [{ len := 60, egress := 127, queue := 639, cells := 1, gen := 1 }] })] } }
def frS (poc : Nat) : State := { up with edge := { ch := [(6, { mode := 7, state := 3 })], fr := [(3, { poc := poc, bufs := [5 + 1 * 2 ^ 32] })] } }
def tmcS : State := { up with edge := { cl := [(5, { use := 2, bad := 15 })] } }
def canP : Bytes := par 48 [95, 1, 1, 5, 3, 0, 0, 0, 1, 0, 127, 0, 32, 32, 1, 29, 10, 10, 0, 1, 1, 0]
def frP : Bytes := par 4 [3, 1] ++ ({} : FrCtl).block
def supS : State :=
  { chS 95 { mode := 1, state := 3, flags := 3, rx := [rxF] } with
    sleep := { nm := { buses := [(127, { en := true, idLo := 0x123, idHi := 0x123 })], log := [(0, { valid := true, suppressed := true, port := 127, node := 1 })] } } }
def supU : State := setEdgeChan 95 { edgeChan 95 supS with rx := [] } supS
def frB : State := { up with edge := { ch := [(6, { mode := 7, state := 3 })], fr := [(3, { poc := 5, bufs := [2 ^ 25 + 2 ^ 23 + 2 ^ 17 + 2047] })] } }

/-- Values that meet the premises of EdgeFramesArriveAndLeave, clause by clause. -/
theorem meets_EdgeFramesArriveAndLeave :
    (let n : Nat := 95; let kind : Nat := 1; let flags : Nat := 0; let ctrl : Nat := 0; let ident : Nat := 0x123;
     let prio : Nat := 3; let vcid : Nat := 4; let ago : Nat := 100; let d : Bytes := (par 8 [1, 2]);
     let s : State := (chS 95 { mode := 1, state := 4 }); let c : EdgeChan := edgeChan n s; s.sleep.asleep = false ∧
     s.pair.state ≠ 5 ∧ isCan c.mode = true ∧ modeReceives c.mode kind = true ∧ c.state = 4) ∧
    (let n : Nat := 95; let kind : Nat := 1; let flags : Nat := 0; let ctrl : Nat := 0; let ident : Nat := 0x123;
     let prio : Nat := 3; let vcid : Nat := 4; let ago : Nat := 100; let d : Bytes := (par 8 [1, 2]);
     let s : State := (chS 95 { mode := 1, state := 3, rec_ := 127 }); let c : EdgeChan := edgeChan n s;
     s.sleep.asleep = false ∧ s.pair.state ≠ 5 ∧ isCan c.mode = true ∧ modeReceives c.mode kind = true ∧
     c.state = 3 ∧ c.rec_ ≤ 127) ∧
    (let n : Nat := 95; let kind : Nat := 1; let flags : Nat := 0; let ctrl : Nat := 0; let ident : Nat := 0x123;
     let prio : Nat := 3; let vcid : Nat := 4; let ago : Nat := 100; let err : Nat := 1;
     let d : Bytes := (par 8 [1, 2]); let s : State := (chS 95 { mode := 1, state := 3, rec_ := 127 });
     s.sleep.asleep = false ∧ s.pair.state ≠ 5 ∧ ((edgeChan n s).state = 3 ∨ (edgeChan n s).state = 4) ∧ err ≠ 0) ∧
    (let n : Nat := 95; let f : Frame := rxF; let rest : List Frame := [];
     let s : State := (chS 95 { mode := 1, state := 3, flags := 0, rx := [rxF] });
     let u : State := setEdgeChan n (have __src := edgeChan n s;
     { mode := __src.mode, state := __src.state, listen := __src.listen, tsTb := __src.tsTb, flags := __src.flags, timing := __src.timing, baud := __src.baud, ltWindow := __src.ltWindow, tec := __src.tec, rec_ := __src.rec_, passive := __src.passive, faults := __src.faults, lastFault := __src.lastFault, tmcIn := __src.tmcIn, pwrOn := __src.pwrOn, trxFault := __src.trxFault, held := __src.held, tx := __src.tx, ids := __src.ids, slots := __src.slots, tables := __src.tables, table := __src.table, pos := __src.pos, select := __src.select, resume := __src.resume, await := __src.await, plca := __src.plca, beacon := __src.beacon, netDown := __src.netDown, restart := __src.restart }) s;
     (edgeChan n s).rx = f :: rest ∧ s.sleep.gated = false ∧ s.sleep.asleep = false ∧ acceptedNow n f u = false) ∧
    (let n : Nat := 95; let f : Frame := rxF; let rest : List Frame := []; let s : State := inS;
     let u : State := setEdgeChan n (have __src := edgeChan n s;
     { mode := __src.mode, state := __src.state, listen := __src.listen, tsTb := __src.tsTb, flags := __src.flags, timing := __src.timing, baud := __src.baud, ltWindow := __src.ltWindow, tec := __src.tec, rec_ := __src.rec_, passive := __src.passive, faults := __src.faults, lastFault := __src.lastFault, tmcIn := __src.tmcIn, pwrOn := __src.pwrOn, trxFault := __src.trxFault, held := __src.held, tx := __src.tx, ids := __src.ids, slots := __src.slots, tables := __src.tables, table := __src.table, pos := __src.pos, select := __src.select, resume := __src.resume, await := __src.await, plca := __src.plca, beacon := __src.beacon, netDown := __src.netDown, restart := __src.restart }) s;
     let fid : Nat := 0;
     let v : State := (stageFrame { rxF with gen := inS.sets.gen } true (confirmChannel 95 inU)).2;
     (edgeChan n s).rx = f :: rest ∧ s.sleep.gated = false ∧ s.sleep.asleep = false ∧ acceptedNow n f u = true ∧
     fromSuppressed (32 + n) f.edge f.bytes u = false ∧
     stageFrame { bytes := f.bytes, port := f.port, edge := f.edge, kind := f.kind, gen := s.sets.gen, ts := f.ts, macsec := f.macsec, prio := f.prio, launch := f.launch, tsReq := f.tsReq, zone := f.zone, authFailed := f.authFailed, passes := f.passes } true (confirmChannel n u) = (some fid, v)) ∧
    (let n : Nat := 95; let s : State := (chS 95 { mode := 1, state := 2, listen := true });
     (edgeChan n s).state = 2 ∧ (edgeChan n s).mode ≠ 8) ∧
    (let n : Nat := 95; let x : EdgeCopy := ecC; let s : State := (chS 95 { mode := 1, state := 3, held := [ecC] });
     Tbl.sorted s.edge.ch = true ∧ isCan (edgeChan n s).mode = true ∧ (edgeChan n s).state = 3 ∧
     (edgeChan n s).tx = none ∧ s.sleep.asleep = false ∧ (edgeChan n s).held = [x] ∧ launched x s = true ∧
     ctlExpired (edgeChan n s) x s = (false, false)) ∧
    (let n : Nat := 95; let kind : Nat := 0; let dp : Bool := false; let x : EdgeCopy := ecC;
     let s : State := (chS 95 { mode := 1, state := 3, held := [ecC], tx := some ecC });
     (edgeChan n s).tx = some x ∧ ehKind x.bytes ≠ 2) ∧
    (let n : Nat := 95; let kind : Nat := 0; let dp : Bool := false; let x : EdgeCopy := ecC;
     let s : State := (chS 95 { mode := 1, state := 3, held := [ecC], tx := some ecC, tec := 255 });
     let c : EdgeChan := edgeChan n s;
     let u : State := countEdge n 8 (setEdgeChan n { mode := c.mode, state := c.state, listen := c.listen, tsTb := c.tsTb, flags := c.flags, timing := c.timing, baud := c.baud, ltWindow := c.ltWindow, tec := c.tec, rec_ := c.rec_, passive := c.passive, faults := c.faults, lastFault := c.lastFault, tmcIn := c.tmcIn, pwrOn := c.pwrOn, trxFault := c.trxFault, held := c.held, rx := c.rx, ids := c.ids, slots := c.slots, tables := c.tables, table := c.table, pos := c.pos, select := c.select, resume := c.resume, await := c.await, plca := c.plca, beacon := c.beacon, netDown := c.netDown, restart := c.restart } s);
     (edgeChan n s).tx = some x ∧ x.launch = none ∧ (edgeChan n u).tec < 256) ∧
    (let n : Nat := 95; let s : State := (chS 95 { mode := 1, state := 5, tec := 256 }); (edgeChan n s).state = 5 ∧
     (edgeChan n s).flags.testBit 0 = true) ∧
    (let n : Nat := 95; let s : State := (chS 95 { mode := 2, state := 3, tec := 256 }); (edgeChan n s).mode ≠ 6) ∧
    (let n : Nat := 95; let f : Frame := rxF; let rest : List Frame := []; let s : State := supS;
     let u : State := setEdgeChan n (have __src := edgeChan n s;
     { mode := __src.mode, state := __src.state, listen := __src.listen, tsTb := __src.tsTb, flags := __src.flags, timing := __src.timing, baud := __src.baud, ltWindow := __src.ltWindow, tec := __src.tec, rec_ := __src.rec_, passive := __src.passive, faults := __src.faults, lastFault := __src.lastFault, tmcIn := __src.tmcIn, pwrOn := __src.pwrOn, trxFault := __src.trxFault, held := __src.held, tx := __src.tx, ids := __src.ids, slots := __src.slots, tables := __src.tables, table := __src.table, pos := __src.pos, select := __src.select, resume := __src.resume, await := __src.await, plca := __src.plca, beacon := __src.beacon, netDown := __src.netDown, restart := __src.restart }) s;
     let fid : Nat := 0; let v : State := (stageFrame { rxF with gen := supS.sets.gen } true supU).2;
     (edgeChan n s).rx = f :: rest ∧ s.sleep.gated = false ∧ s.sleep.asleep = false ∧ acceptedNow n f u = true ∧
     fromSuppressed (32 + n) f.edge f.bytes u = true ∧
     stageFrame { bytes := f.bytes, port := f.port, edge := f.edge, kind := f.kind, gen := s.sets.gen, ts := f.ts, macsec := f.macsec, prio := f.prio, launch := f.launch, tsReq := f.tsReq, zone := f.zone, authFailed := f.authFailed, passes := f.passes } true u = (some fid, v)) := by
  and_intros <;> (try dsimp only) <;> and_intros <;>
    first | exact ⟨7, rfl⟩ | exact Or.inr rfl | decide +kernel | exact rfl

/-- Values that meet the premises of LinFlexRayAndT1sRun, clause by clause. -/
theorem meets_LinFlexRayAndT1sRun :
    (let n : Nat := 95; let s : State := (chS 95 { mode := 4, state := 3, tables := [(0, [63])] });
     let e : Nat := 63; (edgeChan n s).state = 3 ∧ s.sleep.asleep = false ∧ (edgeChan n s).mode = 4 ∧
     (edgeChan n s).select = none ∧ (edgeChan n s).resume = none ∧
     Tbl.get (edgeChan n s).tables (edgeChan n s).table [] = [e] ∧ bits e 7 6 = 0) ∧
    (let n : Nat := 95; let s : State := (chS 95 { mode := 4, state := 3, await := some (5, none) });
     let p : Nat × Option Nat := (5, none); (edgeChan n s).state = 3 ∧ s.sleep.asleep = false ∧
     isLin (edgeChan n s).mode = true ∧ (edgeChan n s).await = some p) ∧
    (let n : Nat := 95; let s : State := (chS 95 { mode := 5, state := 3 }); let ident : Nat := 63;
     (edgeChan n s).state = 3 ∧ s.sleep.asleep = false ∧ (edgeChan n s).mode = 5) ∧
    (let n : Nat := 95; let s : State := (chS 95 { mode := 5, state := 3, ids := [(63, 1)] });
     let ident : Nat := 63; (edgeChan n s).state = 3 ∧ s.sleep.asleep = false ∧ (edgeChan n s).mode = 5 ∧
     Tbl.get (edgeChan n s).ids ident 0 % 4 = 1) ∧
    (let n : Nat := 95; let s : State := (chS 95 { mode := 5, state := 3 }); (edgeChan n s).state = 3 ∧
     s.sleep.asleep = false ∧ isLin (edgeChan n s).mode = true) ∧
    (let n : Nat := 95; let s : State := (chS 95 { mode := 5, state := 3, trxFault := true });
     (edgeChan n s).state = 3 ∧ s.sleep.asleep = false ∧ (edgeChan n s).trxFault = true) ∧
    (let n : Nat := 95; let s : State := (chS 95 { mode := 6, state := 3, beacon := true });
     (edgeChan n s).state = 3 ∧ s.sleep.asleep = false ∧ (edgeChan n s).mode = 6) ∧
    (let n : Nat := 95; let s : State := (chS 95 { mode := 6, state := 3, beacon := true });
     (edgeChan n s).state = 3 ∧ s.sleep.asleep = false ∧ (edgeChan n s).mode = 6) ∧
    (let n : Nat := 95; let s : State := (chS 95 { mode := 6, state := 3, beacon := true });
     (edgeChan n s).state = 3 ∧ s.sleep.asleep = false ∧ (edgeChan n s).mode = 6 ∧ forwards s = true ∧
     halted (32 + n) s = false) ∧
    (let n : Nat := 95; let s : State := t1S; let k : Nat := 3;
     let x : EdgeCopy := (((t1sPick 95 t1S).getD (0, {})).2); (edgeChan n s).state = 3 ∧ s.sleep.asleep = false ∧
     (edgeChan n s).mode = 6 ∧ forwards s = true ∧ halted (32 + n) s = false ∧
     t1sLate n (fun y ↦ windowPast (edgeChan n s) y s) s = s ∧
     (∀ (j : Nat), j < 4 → dropBad (256 + 4 * n + j) (ageQueue (256 + 4 * n + j) s) = s) ∧
     t1sPick n s = some (k, x) ∧ x.edge = false ∧ 60 ≤ List.length x.bytes ∧ List.length x.bytes ≤ 1518) ∧
    (let f : Nat := 3; let s : State := (frS 5); (edgeChan (2 * f) s).mode = 7 ∧ (edgeChan (2 * f) s).state = 3 ∧
     s.sleep.asleep = false) ∧
    (let f : Nat := 3; let s : State := frB; let slot : Nat := 2047; let cycle : Nat := 63;
     let w : Nat := (2 ^ 25 + 2 ^ 23 + 2 ^ 17 + 2047); (edgeChan (2 * f) s).mode = 7 ∧
     (edgeChan (2 * f) s).state = 3 ∧ s.sleep.asleep = false ∧ (frCtl f s).poc = 5 ∧ (frCtl f s).bufs = [w] ∧
     frBufHit w true slot (some cycle) false = true) := by
  and_intros <;> (try dsimp only) <;> and_intros <;>
    first | exact ⟨7, rfl⟩ | exact Or.inr rfl | decide +kernel | exact rfl

/-- Values that meet the premises of ChainFramesWithBit3AreDiscarded, clause by clause. -/
theorem meets_ChainFramesWithBit3AreDiscarded :
    (let m : Nat := 5; let inbound : Nat := (8 * 16 ^ 15); let k : Nat := 15; let s : State := tmcS; m < 6 ∧
     (edgeCl m s).use = 2 ∧ s.sleep.asleep = false ∧ s.power.railGood.getLsbD 5 = true ∧ k < 16 ∧
     inbound.testBit (4 * k + 3) = true) ∧
    (let m : Nat := 5; let inbound : Nat := (7 * 16 ^ 15 + 1); let s : State := tmcS; m < 6 ∧ (edgeCl m s).use = 2 ∧
     s.sleep.asleep = false ∧ s.power.railGood.getLsbD 5 = true ∧
     (∀ (k : Nat), k < 16 → inbound.testBit (4 * k + 3) = false)) := by
  and_intros <;> (try dsimp only) <;> and_intros <;>
    first | exact ⟨7, rfl⟩ | exact Or.inr rfl | decide +kernel | exact rfl

/-- Values that meet the premises of EdgeCommandsAnswer, clause by clause. -/
theorem meets_EdgeCommandsAnswer :
    (let mb : Nat := 1; let p : Bytes := (par 48 [95]); let s : State := (ask 1 0x0300 0 (par 48 [95]) up);
     let n : Nat := u8 p 0; mb < 5 ∧ List.length p = 48 ∧ n < 96 ∧ u8 p 1 = 0 ∧ Served mb 768 0 p s) ∧
    (let mb : Nat := 0; let p : Bytes := canP; let s : State := (ask 0 0x0300 0 canP up); let n : Nat := u8 p 0;
     let c : EdgeChan := edgeChan n s; let t : Bytes := timingApply (slice p 8 14); mb < 5 ∧ List.length p = 48 ∧
     n < 96 ∧ u8 p 1 = 1 ∧ u8 p 3 < 6 ∧ (c.state = 0 ∨ c.state = 1 ∨ c.state = 6) ∧ u8 p 2 < 6 ∧ c.mode ≠ 8 ∧
     ratesOk (u8 p 2) (bit p 4 3) t = true ∧ Served 0 768 0 p s) ∧
    (let mb : Nat := 0; let p : Bytes := (par 4 [95, 2]);
     let s : State := (ask 0 0x0301 0 (par 4 [95, 2]) (chS 95 { mode := 1, state := 5 })); let n : Nat := u8 p 0;
     let c : EdgeChan := edgeChan n s; mb < 5 ∧ List.length p = 4 ∧ n < 96 ∧ u8 p 1 ≤ 2 ∧ 1 ≤ c.state ∧
     c.state ≤ 5 ∧ c.mode ≠ 8 ∧ c.mode ≠ 6 ∧ Served 0 769 0 p s) ∧
    (let mb : Nat := 1; let p : Bytes := (par 1 [95]);
     let s : State := (ask 1 0x0302 0 (par 1 [95]) (chS 95 { mode := 1, state := 5 })); let n : Nat := u8 p 0;
     mb < 5 ∧ List.length p = 1 ∧ n < 96 ∧ Served mb 770 0 p s) ∧
    (let mb : Nat := 1; let p : Bytes := (par 16 [95, 63, 1]);
     let s : State := (ask 1 0x0303 0 (par 16 [95, 63, 1]) (chS 95 { mode := 1, state := 5 }));
     let n : Nat := u8 p 0; let c : EdgeChan := edgeChan n s; let mb' : Nat := 1; mb < 5 ∧
     List.length p = 4 + 12 * u8 p 2 ∧ 1 ≤ u8 p 2 ∧ u8 p 2 ≤ 16 ∧ n < 96 ∧ u8 p 1 < 64 ∧ u8 p 1 + u8 p 2 ≤ 64 ∧
     c.mode ≠ 6 ∧ mb' < 5 ∧ Served mb' 771 0 p s) ∧
    (let mb : Nat := 0; let p : Bytes := (par 196 [95, 48, 16]);
     let s : State := (ask 0 0x0303 1 (par 196 [95, 48, 16]) (chS 95 { mode := 1, state := 5 }));
     let n : Nat := u8 p 0; let c : EdgeChan := edgeChan n s; mb < 5 ∧ List.length p = 4 + 12 * u8 p 2 ∧
     1 ≤ u8 p 2 ∧ u8 p 2 ≤ 16 ∧ n < 96 ∧ u8 p 1 < 64 ∧ u8 p 1 + u8 p 2 ≤ 64 ∧ c.mode ≠ 6 ∧ ShadowFree 0 s ∧
     Served 0 771 1 p s) ∧
    (let mb : Nat := 2; let p : Bytes := (par 1 [95]);
     let s : State := (ask 2 0x0304 0 (par 1 [95]) (chS 95 { mode := 1, state := 5 })); let n : Nat := u8 p 0;
     let c : EdgeChan := edgeChan n s; mb < 5 ∧ List.length p = 1 ∧ n < 96 ∧ 1 ≤ c.state ∧ c.state ≤ 5 ∧
     (mb = 0 ∨ mb = 2) ∧ Served mb 772 0 p s) ∧
    (let mb : Nat := 0; let p : Bytes := (par 1 [95]);
     let s : State := (ask 0 0x0305 0 (par 1 [95]) (chS 95 { mode := 1, state := 6 })); let n : Nat := u8 p 0;
     let c : EdgeChan := edgeChan n s; mb < 5 ∧ List.length p = 1 ∧ n < 96 ∧ c.state = 6 ∧ c.trxFault = false ∧
     c.mode < 7 ∧ Served 0 773 0 p s) ∧
    (let mb : Nat := 1; let p : Bytes := (par 4 [95, 0, 3]);
     let s : State := (ask 1 0x0306 0 (par 4 [95, 0, 3]) (chS 95 { mode := 5, state := 3 })); let n : Nat := u8 p 0;
     let c : EdgeChan := edgeChan n s; mb < 5 ∧ List.length p = 4 ∧ n < 96 ∧ u8 p 2 < 4 ∧ u8 p 1 = 0 ∧
     isLin c.mode = true ∧ Served mb 774 0 p s) ∧
    (let mb : Nat := 0; let p : Bytes := (par 4 [95, 3, 3]);
     let s : State := (ask 0 0x0306 0 (par 4 [95, 3, 3]) (chS 95 { mode := 4, state := 3 })); let n : Nat := u8 p 0;
     let c : EdgeChan := edgeChan n s; mb < 5 ∧ List.length p = 4 ∧ n < 96 ∧ u8 p 2 < 4 ∧ u8 p 1 = 3 ∧ c.mode = 4 ∧
     c.state = 3 ∧ Served 0 774 0 p s) ∧
    (let mb : Nat := 1; let p : Bytes := (par 4 [3]); let s : State := (ask 1 0x0307 0 (par 4 [3]) up);
     let n : Nat := u8 p 0; mb < 5 ∧ n < 4 ∧ List.length p = 4 ∧ u8 p 1 = 0 ∧ Served mb 775 0 p s) ∧
    (let mb : Nat := 0; let p : Bytes := frP;
     let s : State := (ask 0 0x0307 0 frP { up with edge := { ch := [(6, { mode := 7, state := 1 })] } });
     let n : Nat := u8 p 0; mb < 5 ∧ n < 4 ∧ List.length p = 68 ∧ u8 p 1 = 1 ∧ u16 p 2 = 0 ∧
     (edgeChan (2 * n) s).mode = 7 ∧ (edgeChan (2 * n) s).state = 1 ∧ u8 (frApply (slice p 4 64)) 1 ≠ 0 ∧
     frFits (frApply (slice p 4 64)) = true ∧ Served 0 775 0 p s) ∧
    (let mb : Nat := 1; let p : Bytes := (par 8 [95]);
     let s : State := (ask 1 0x0308 0 (par 8 [95]) (chS 95 { mode := 6, state := 3 })); let n : Nat := u8 p 0;
     let c : EdgeChan := edgeChan n s; mb < 5 ∧ List.length p = 8 ∧ n < 96 ∧ c.mode = 6 ∧ u8 p 1 = 0 ∧
     Served mb 776 0 p s) ∧
    (let mb : Nat := 0; let p : Bytes := (par 8 [95, 1, 0, 254, 1, 1, 0, 1]);
     let s : State := (ask 0 0x0308 0 (par 8 [95, 1, 0, 254, 1, 1, 0, 1]) (chS 95 { mode := 6, state := 1 }));
     let n : Nat := u8 p 0; let c : EdgeChan := edgeChan n s; mb < 5 ∧ List.length p = 8 ∧ n < 96 ∧ c.mode = 6 ∧
     u8 p 1 = 1 ∧ c.state = 1 ∧ Served 0 776 0 p s) ∧
    (let mb : Nat := 1; let p : Bytes := (par 4 [5]); let s : State := (ask 1 0x0309 0 (par 4 [5]) up);
     let n : Nat := u8 p 0; mb < 5 ∧ List.length p = 4 ∧ n < 6 ∧ u8 p 1 = 0 ∧ Served mb 777 0 p s) ∧
    (let mb : Nat := 0; let p : Bytes := (par 4 [5, 1, 2, 101]);
     let s : State := (ask 0 0x0309 0 (par 4 [5, 1, 2, 101]) up); let n : Nat := u8 p 0; mb < 5 ∧
     List.length p = 4 ∧ n < 6 ∧ u8 p 1 = 1 ∧ u8 p 2 = 2 ∧ Served 0 777 0 p s) := by
  and_intros <;> (try dsimp only) <;> and_intros <;>
    first | exact ⟨7, rfl⟩ | exact Or.inr rfl | decide +kernel | exact rfl

def canB : Bytes := edgeHeader 95 1 0 0 0 0x123 8 3 4 7 ++ par 8 [1, 2]
def gwV : VFrame := { frame := { bytes := canB, port := 127, edge := true, gen := 1 }, refs := 1, staged := false, cells := [0] }
def gwC (r : Option Nat) : Copy := { len := 24, egress := 131, queue := 672, cells := 1, gen := 1, ingress := 127, md := 256, rewrite := r }
def gwS (r : Option Nat) (p : Bytes) : State :=
  { up with
    sets := { gen := 1, a := { programs := [(2047, p)] } }
    vat := { nextFid := 1, frames := [(0, gwV)], queues := [(672, { copies := [gwC r] })] } }
def progP : Bytes := par 224 [3]
def heldH : GwHeld := { num := 5, frame := gwV.frame, rewrite := 2047, wait := .check 4095 9 0, out := canB }
def jobB : Bytes := par 80 [7]
def cS (r : Option Nat) (j : Bytes) : State :=
  { up with
    sets := { gen := 1, a := { portC := [(255, j)] } }
    vat := { nextFid := 1, frames := [(0, { frame := { bytes := jobB, gen := 1 }, refs := 1, staged := false, cells := [0] })]
             queues := [(674, { copies := [{ len := 80, egress := 132, queue := 674, cells := 1, gen := 1, rewrite := r }] })] } }
def progQ : Bytes := setBytes (par 228 [255, 7, 0, 0, 13]) 26 (par 4 [255, 15, 254, 15])
def secP : Bytes := par 36 [255, 15, 0, 0, 0, 0, 0, 0, 64, 64, 0, 0, 0, 5, 255, 63]

/-- Values that meet the premises of TheGatewayEngineRuns, clause by clause. -/
theorem meets_TheGatewayEngineRuns :
    (let x : Copy := (gwC none); let v : VFrame := gwV; let s : State := (gwS none []); forwards s = true ∧
     halted 131 s = false ∧ dropBad 672 (ageQueue 672 s) = s ∧ gwHead s = some (x, v) ∧ v.frame.passes < 3 ∧
     mdKind x.md ≠ 0 ∧ mdKind x.md ≠ 6 ∧ x.tunnel = none ∧ x.rewrite = none) ∧
    (let x : Copy := (gwC (some 2047)); let v : VFrame := gwV; let s : State := (gwS (some 2047) progP);
     let r : Nat := 2047; let out : Bytes := (match buildOutput progP canB with | .ok o => o | _ => []);
     let p : Bytes := programOf (setOf x.gen s) r; forwards s = true ∧ halted 131 s = false ∧
     dropBad 672 (ageQueue 672 s) = s ∧ gwHead s = some (x, v) ∧ v.frame.passes < 3 ∧ mdKind x.md ≠ 0 ∧
     mdKind x.md ≠ 6 ∧ x.tunnel = none ∧ x.rewrite = some r ∧ r < 2048 ∧ s.gw.held = [] ∧ bit p 0 0 = true ∧
     bit p 0 2 = false ∧ bit p 0 3 = false ∧ buildOutput p (copyBytes x s) = Built.ok out) ∧
    (let n : Nat := 5; let st : Nat := 0; let z : Bytes := (par 16 []); let rest : List (Nat × Nat × Bytes) := [];
     let h : GwHeld := heldH;
     let s : State := { gwS none [] with gw := { held := [heldH] }, press := { answers := [(5, (0, par 16 []))] } };
     s.press.answers = (n, st, z) :: rest ∧ List.find? (fun h ↦ h.num == n) s.gw.held = some h) ∧
    (let h : GwHeld := heldH; let prof : Nat := 4095; let c : Nat := 9; let mac : Nat := 0; let st : Nat := 3;
     let z : Bytes := (par 16 []); let s : State := (gwS none []); h.wait = GwWait.check prof c mac ∧ st ≠ 0) ∧
    (let h : GwHeld := { heldH with wait := .check 4095 9 1 }; let prof : Nat := 4095; let c : Nat := 9;
     let mac : Nat := 1; let st : Nat := 0; let z : Bytes := (par 16 []); let s : State := (gwS none []);
     let p : Bytes := secocOf (setOf h.frame.gen s) prof; h.wait = GwWait.check prof c mac ∧
     getBits z 0 (scMacBits p) ≠ mac) ∧
    (let h : GwHeld := heldH; let prof : Nat := 4095; let c : Nat := 9; let mac : Nat := 0; let st : Nat := 0;
     let z : Bytes := (par 16 []); let s : State := (gwS none []);
     let p : Bytes := secocOf (setOf h.frame.gen s) prof; h.wait = GwWait.check prof c mac ∧
     getBits z 0 (scMacBits p) = mac) ∧
    (let h : GwHeld := { heldH with wait := .generate 4095 9 }; let prof : Nat := 4095; let c : Nat := 9;
     let st : Nat := 3; let z : Bytes := (par 16 []); let s : State := (gwS none []);
     h.wait = GwWait.generate prof c ∧ st ≠ 0) ∧
    (let h : GwHeld := { heldH with wait := .generate 4095 9 }; let prof : Nat := 4095; let c : Nat := 9;
     let st : Nat := 3; let z : Bytes := (par 16 []); let s : State := (gwS none []);
     h.wait = GwWait.generate prof c) ∧
    (let n : Nat := 5; let h : GwHeld := heldH; let s : State := { gwS none [] with gw := { held := [heldH] } };
     List.find? (fun h ↦ h.num == n && h.wait != GwWait.turn) s.gw.held = some h ∧
     Tbl.find s.press.answers n = none) ∧
    (let n : Nat := 511; let b : GwBatch := { gen := 1, msgs := [{ bytes := canB, due := 0 }] };
     let s : State := { gwS none [] with gw := { batches := [(511, { gen := 1, msgs := [{ bytes := canB, due := 0 }] })] } };
     let due : Nat × Bool := batchDue (tunnelOf (setOf b.gen s) n) b; Tbl.find s.gw.batches n = some b ∧
     forwards s = true ∧ due.fst ≤ now s) ∧
    (let s : State := up; s.power.phase = Phase.done ∧ s.sleep.asleep = false) ∧
    (let i : Nat := 16383; let v : Nat := 99; let s : State := { up with gw := { resvNext := [(16383, 99)] } };
     Tbl.find s.gw.resvNext i = some v ∧ s.pair.state ≠ 2) ∧
    (let x : Copy := { len := 80, egress := 132, queue := 674, cells := 1, gen := 1 }; let rest : List Copy := [];
     let s : State := (cS none []); dropBad 674 (ageQueue 674 s) = s ∧ copiesOf 674 s = x :: rest ∧
     halted 132 s = false ∧ x.rewrite = none) ∧
    (let x : Copy := { len := 80, egress := 132, queue := 674, cells := 1, gen := 1, rewrite := some 255 };
     let rest : List Copy := []; let s : State := (cS (some 255) (par 6 [3, 9, 0, 0, 52])); let r : Nat := 255;
     let job : Bytes := cJobOf (setOf x.gen s) r; let b : Bytes := copyBytes x s; let p : Nat := u16 job 4;
     dropBad 674 (ageQueue 674 s) = s ∧ copiesOf 674 s = x :: rest ∧ halted 132 s = false ∧ x.rewrite = some r ∧
     r < 256 ∧ u8 job 2 = 0 ∧ bit job 0 0 = true ∧ bit job 0 1 = true ∧ p + 28 ≤ List.length b) := by
  and_intros <;> (try dsimp only) <;> and_intros <;>
    first | exact ⟨7, rfl⟩ | exact Or.inr rfl | decide +kernel | exact rfl

/-- Values that meet the premises of GatewayCommandsAnswer, clause by clause. -/
theorem meets_GatewayCommandsAnswer :
    (let n : Nat := 511; let p : Bytes := (par 164 [255, 1]);
     let s : State := (ask 3 0x0400 0 (par 164 [255, 1]) up); let mb : Nat := 3; List.length p = 164 ∧ u16 p 0 = n ∧
     n < 512 ∧ mb < 5 ∧ Served mb 1024 0 p s) ∧
    (let n : Nat := 511; let p : Bytes := (par 164 [255, 1]);
     let s : State := (ask 0 0x0400 1 (par 164 [255, 1]) up); List.length p = 164 ∧ u16 p 0 = n ∧ n < 512 ∧
     u8 p 5 < 6 ∧ tunnelConflict (slice p 4 160) = false ∧ ShadowFree 0 s ∧ Served 0 1024 1 p s) ∧
    (let n : Nat := 2047; let p : Bytes := (par 228 [255, 7]);
     let s : State := (ask 3 0x0401 0 (par 228 [255, 7]) up); let mb : Nat := 3; List.length p = 228 ∧ u16 p 0 = n ∧
     n < 2048 ∧ mb < 5 ∧ Served mb 1025 0 p s) ∧
    (let n : Nat := 2047; let p : Bytes := progQ;
     let s : State := (ask 0 0x0401 1 progQ { up with sets := { gen := 1, b := { secoc := [(4094, par 32 [1]), (4095, par 32 [1])] } } });
     let b : Bytes := programApply (slice p 4 224); List.length p = 228 ∧ u16 p 0 = n ∧ n < 2048 ∧
     (bit p 4 2 = true → u16 p 26 < 4096) ∧ (bit p 4 3 = true → u16 p 28 < 4096) ∧
     programConflict (shadowSet s) b = false ∧ ShadowFree 0 s ∧ Served 0 1025 1 p s) ∧
    (let n : Nat := 4095; let p : Bytes := (par 36 [255, 15]);
     let s : State := (ask 3 0x0402 0 (par 36 [255, 15]) up); let mb : Nat := 3; List.length p = 36 ∧ u16 p 0 = n ∧
     n < 4096 ∧ mb < 5 ∧ Served mb 1026 0 p s) ∧
    (let n : Nat := 4095; let p : Bytes := secP; let s : State := (ask 0 0x0402 1 secP up);
     let b : Bytes := secocApply (slice p 4 32); List.length p = 36 ∧ u16 p 0 = n ∧ n < 4096 ∧ u8 p 13 < 6 ∧
     u16 p 14 < 16384 ∧ scTxBits b ≤ scFullBits b ∧ ShadowFree 0 s ∧ Served 0 1026 1 p s) ∧
    (let mb : Nat := 3; let a : Nat := 16320; let n : Nat := 64; let p : Bytes := (par 8 [0, 0, 64, 0, 192, 63]);
     let s : State := (ask 3 0x0403 0 (par 8 [0, 0, 64, 0, 192, 63]) up); u32 p 4 = a ∧ u16 p 2 = n ∧ 1 ≤ n ∧
     n ≤ 64 ∧ a + n ≤ 16384 ∧ u8 p 0 = 0 ∧ List.length p = 8 ∧ Served mb 1027 0 p s) ∧
    (let mb : Nat := 3; let a : Nat := 16383; let n : Nat := 1;
     let p : Bytes := (par 16 [1, 0, 1, 0, 255, 63, 0, 0, 9]);
     let s : State := (ask 0 0x0403 0 (par 16 [1, 0, 1, 0, 255, 63, 0, 0, 9]) up); u32 p 4 = a ∧ u16 p 2 = n ∧
     1 ≤ n ∧ n ≤ 64 ∧ a + n ≤ 16384 ∧ u8 p 0 = 1 ∧ List.length p = 8 + 8 * n ∧ Served 0 1027 0 p s) ∧
    (let mb : Nat := 3; let p : Bytes := (par 12 []); let s : State := (ask 3 0x0404 0 (par 12 []) up);
     List.length p = 12 ∧ u8 p 0 = 0 ∧ Served mb 1028 0 p s) ∧
    (let mb : Nat := 0; let p : Bytes := (par 12 [1, 0, 0, 0, 9]);
     let s : State := (ask 0 0x0404 0 (par 12 [1, 0, 0, 0, 9]) up); List.length p = 12 ∧ u8 p 0 = 1 ∧
     Served 0 1028 0 p s) ∧
    (let mb : Nat := 0; let p : Bytes := (par 10 [2, 1, 0, 0, 0, 0, 0, 0, 63]);
     let s : State := (ask 0 0x0405 0 (par 10 [2, 1, 0, 0, 0, 0, 0, 0, 63]) up);
     let e : Nat × Nat × Nat := gwTable (u8 p 0); let a : Nat := u32 p 4; let t : Nat := 0; List.length p = 10 ∧
     u8 p 0 < 3 ∧ (bit p 1 0 = false ∨ mb = 0) ∧ a < e.snd.snd ∧ Served mb 1029 t p s) := by
  and_intros <;> (try dsimp only) <;> and_intros <;>
    first | exact ⟨7, rfl⟩ | exact Or.inr rfl | decide +kernel | exact rfl

def ethS (p : Nat) (e : EthPort) : State := { up with ports := { eth := [(p, e)] } }
def laneS (l : Nat) (x : Lane) : State := { up with ports := { lane := [(l, x)] } }
def opS : State := ask 2 0x0207 0 (par 8 [1]) { up with ports := { mdio := [(1, { busy := some { origin := .mailbox 2, phy := 31, dev := 1, reg := 9, write := none } })] } }
def tcS : State := { up with ports := { tc10 := [(13, { on := true })], phy := [(13, { statusMask := 3, statusSleep := 1 })] } }
def mkaS : State :=
  { up with
    ports := { macsec := [(7, { en := true, mka := true, cakSlot := 239 })], eth := [(7, { state := 2 })] }
    cellar := { slots := [(239, { status := 1, key := par 32 [1], attr := 2052 })] } }
def saS (a : Nat) : State :=
  { up with
    ports := { macsec := [(7, { en := true, mka := false })] }
    cellar := { slots := [(232, { status := 1, key := par 32 [1], attr := a })] } }

/-- Values that meet the premises of PortsAndLanesRun, clause by clause. -/
theorem meets_PortsAndLanesRun :
    (let p : Nat := 31; let errs : Nat := 1; let corr : Nat := 2; let unc : Nat := 3; let lock : Bool := true;
     let laneLock : Bool := true; let lf : Bool := false; let rf : Bool := false; let s : State := up;
     lf = (ethPort p s).localFault ∧ rf = (ethPort p s).remoteFault) ∧
    (let p : Nat := 31; let s : State := (ethS 31 { state := 1, pcs := true, an := false });
     (ethPort p s).state = 1 ∧ upConditions p s = true ∧ keptDown p s = false) ∧
    (let p : Nat := 31; let s : State := (ethS 31 { state := 2 }); (ethPort p s).state = 2 ∧
     upConditions p s = false) ∧
    (let p : Nat := 31; let w : Nat := 5; let sp : Nat := 0; let lk : Bool := true; let dx : Bool := true;
     let s : State := (laneS 13 { mode := 2 }); let m : Nat := (laneOf (laneNo p) s).mode; (ethPort p s).an = true ∧
     m = 2) ∧
    (let p : Nat := 31; let w : Nat := 5; let sp : Nat := 0; let lk : Bool := true; let dx : Bool := true;
     let s : State := (laneS 13 { mode := 8 }); let m : Nat := (laneOf (laneNo p) s).mode; (ethPort p s).an = true ∧
     (m = 1 ∨ m = 3 ∨ m = 7 ∨ m = 8)) ∧
    (let p : Nat := 31; let w : Nat := 5; let sp : Nat := 1; let lk : Bool := true; let dx : Bool := true;
     let s : State := (laneS 13 { mode := 8 }); let m : Nat := (laneOf (laneNo p) s).mode; (ethPort p s).an = true ∧
     (m = 1 ∨ m = 3 ∨ m = 7 ∨ m = 8) ∧ ¬(lk = true ∧ dx = true ∧ sp = (ethPort p s).rate)) ∧
    (let b : Nat := 1; let v : Nat := 65535; let mb : Nat := 2;
     let o : MdioOp := { origin := .mailbox 2, phy := 31, dev := 1, reg := 9, write := none };
     let r : Req := (((mbOf 2 opS).cur).getD default); let s : State := opS; (mdioOf b s).busy = some o ∧
     o.origin = MdioFrom.mailbox mb ∧ (mdioOf b s).queue = [] ∧ (mbOf mb s).cur = some r) ∧
    (let l : Nat := 13; let v : Nat := 1; let s : State := tcS; let p : Phy := phyOf l s; (tc10Of l s).on = true ∧
     v &&& p.statusMask = p.statusSleep) ∧
    (let l : Nat := 13; let v : Nat := 2; let s : State := tcS; let p : Phy := phyOf l s; (tc10Of l s).on = true ∧
     v &&& p.statusMask ≠ p.statusSleep) ∧
    (let l : Nat := 13; let v : Nat := 2; let s : State := tcS; (tc10Of l s).on = true) ∧
    (let l : Nat := 13; let s : State := up; l < 14 ∧ s.sleep.asleep = false) ∧
    (let p : Nat := 7; let st : Nat := 2; let an : Nat := 3; let peer : Nat := 4; let txSsci : Nat := 5;
     let rxSsci : Nat := 6; let salt : Bytes := (par 12 []); let s : State := mkaS;
     let u : State := takeVintner p 34958 s; let m : Macsec := macsecOf p u; mkaOn p u = true ∧
     slotCheck 6 m.cakSlot 4 false u = 0) ∧
    (let p : Nat := 7; let st : Nat := 2; let an : Nat := 3; let peer : Nat := 4; let txSsci : Nat := 5;
     let rxSsci : Nat := 6; let salt : Bytes := (par 12 []); let s : State := mkaS;
     let u : State := takeVintner p 34958 s; let m : Macsec := macsecOf p u; let key : Bytes := (par 32 []);
     mkaOn p u = true ∧ slotCheck 6 m.cakSlot 4 false u = 0) ∧
    (let p : Nat := 7; let s : State := mkaS; mkaOn p s = true) := by
  and_intros <;> (try dsimp only) <;> and_intros <;>
    first | exact ⟨7, rfl⟩ | exact Or.inr rfl | decide +kernel | exact rfl

/-- Values that meet the premises of PortCommandsAnswer, clause by clause. -/
theorem meets_PortCommandsAnswer :
    (let mb : Nat := 1; let q : Nat := 14; let p : Bytes := (par 8 [14]);
     let s : State := (ask 1 0x0200 0 (par 8 [14]) up); u8 p 0 = q ∧ List.length p = 8 ∧ q < 15 ∧ u8 p 1 = 0 ∧
     Served mb 512 0 p s) ∧
    (let mb : Nat := 0; let q : Nat := 14; let p : Bytes := (par 8 [14, 1, 0, 0, 255]);
     let s : State := (ask 0 0x0200 0 (par 8 [14, 1, 0, 0, 255]) up); u8 p 0 = q ∧ List.length p = 8 ∧ q < 15 ∧
     u8 p 1 = 1 ∧ modeConflict q (u8 p 2) (u8 p 3) s = false ∧ u8 p 2 = (laneOf q s).mode ∧ u8 p 2 ≠ 4 ∧
     u8 p 2 ≠ 5 ∧ Served 0 512 0 p s) ∧
    (let mb : Nat := 0; let q : Nat := 14; let p : Bytes := (par 8 [14, 1, 1]);
     let s : State := (ask 0 0x0200 0 (par 8 [14, 1, 1]) up); u8 p 0 = q ∧ List.length p = 8 ∧ q < 15 ∧ u8 p 1 = 1 ∧
     q = 14 ∧ u8 p 2 = 1 ∧ (laneOf q s).mode = 0 ∧ (ethPort 129 s).state = 0 ∧ Served 0 512 0 p s) ∧
    (let mb : Nat := 1; let q : Nat := 129; let p : Bytes := (par 16 [129]);
     let s : State := (ask 1 0x0201 0 (par 16 [129]) up); u8 p 0 = q ∧ List.length p = 16 ∧ isEthPort q = true ∧
     u8 p 1 = 0 ∧ Served mb 513 0 p s) ∧
    (let mb : Nat := 0; let q : Nat := 7; let p : Bytes := (par 16 [7, 1, 0, 1, 255, 255]);
     let s : State := (ask 0 0x0201 0 (par 16 [7, 1, 0, 1, 255, 255]) (laneS 7 { mode := 2 })); u8 p 0 = q ∧
     List.length p = 16 ∧ isEthPort q = true ∧ u8 p 1 = 1 ∧
     (modeRates (laneOf (laneNo q) s).mode).contains (u8 p 2) = true ∧ Served 0 513 0 p s) ∧
    (let mb : Nat := 0; let q : Nat := 31; let p : Bytes := (par 2 [31, 1]);
     let s : State := (ask 0 0x0202 0 (par 2 [31, 1]) up); u8 p 0 = q ∧ List.length p = 2 ∧ isEthPort q = true ∧
     (ethPort q s).state ≠ 4 ∧ u8 p 1 = 1 ∧ keptDown q s = false ∧ Served 0 514 0 p s) ∧
    (let mb : Nat := 2; let q : Nat := 31; let p : Bytes := (par 2 [31, 0]);
     let s : State := (ask 2 0x0202 0 (par 2 [31, 0]) (ethS 31 { state := 2 })); u8 p 0 = q ∧ List.length p = 2 ∧
     isEthPort q = true ∧ (ethPort q s).state ≠ 4 ∧ u8 p 1 = 0 ∧ (mb = 0 ∨ mb = 2) ∧ Served mb 514 0 p s) ∧
    (let mb : Nat := 3; let q : Nat := 129; let p : Bytes := (par 1 [129]);
     let s : State := (ask 3 0x0203 0 (par 1 [129]) (ethS 129 { state := 2 })); u8 p 0 = q ∧ List.length p = 1 ∧
     isEthPort q = true ∧ mb < 5 ∧ Served mb 515 0 p s) ∧
    (let mb : Nat := 2; let q : Nat := 31; let p : Bytes := (par 4 [31]);
     let s : State := (ask 2 0x0204 0 (par 4 [31]) (ethS 31 { state := 2 })); u8 p 0 = q ∧ List.length p = 4 ∧
     q < 32 ∧ (ethPort q s).state ≠ 4 ∧ (mb = 0 ∨ mb = 2) ∧ Served mb 516 0 p s) ∧
    (let mb : Nat := 2; let q : Nat := 31; let p : Bytes := (par 4 [31]);
     let s : State := (ask 0 0x0205 0 (par 4 [31]) (ethS 31 { state := 4 })); u8 p 0 = q ∧ List.length p = 4 ∧
     q < 32 ∧ (ethPort q s).state = 4 ∧ (laneOf (laneNo q) s).retired = false ∧ Served 0 517 0 p s) ∧
    (let mb : Nat := 1; let q : Nat := 13; let p : Bytes := (par 24 [13]);
     let s : State := (ask 1 0x0206 0 (par 24 [13]) up); u8 p 0 = q ∧ List.length p = 24 ∧ q < 14 ∧ u8 p 1 = 0 ∧
     Served mb 518 0 p s) ∧
    (let mb : Nat := 0; let q : Nat := 13; let p : Bytes := (par 24 [13, 1, 1, 31, 22]);
     let s : State := (ask 0 0x0206 0 (par 24 [13, 1, 1, 31, 22]) up); u8 p 0 = q ∧ List.length p = 24 ∧ q < 14 ∧
     u8 p 1 = 1 ∧ u8 p 2 < 2 ∧ u8 p 3 < 32 ∧ (u8 p 4 = 22 ∨ u8 p 4 = 45) ∧ Served 0 518 0 p s) ∧
    (let mb : Nat := 2; let q : Nat := 1; let p : Bytes := (par 8 [1, 0, 31, 31]);
     let s : State := (ask 2 0x0207 0 (par 8 [1, 0, 31, 31]) up); u8 p 0 = q ∧ List.length p = 8 ∧ q < 2 ∧
     u8 p 2 < 32 ∧ u8 p 3 < 32 ∧ (mdioOf q s).busy = none ∧ (mdioOf q s).queue = [] ∧ u8 p 1 = 0 ∧
     (mb = 0 ∨ mb = 2 ∨ mb = 4) ∧ Served mb 519 0 p s) ∧
    (let mb : Nat := 0; let q : Nat := 1; let p : Bytes := (par 8 [1, 1, 31, 31]);
     let s : State := (ask 0 0x0207 0 (par 8 [1, 1, 31, 31]) up); u8 p 0 = q ∧ List.length p = 8 ∧ q < 2 ∧
     u8 p 2 < 32 ∧ u8 p 3 < 32 ∧ (mdioOf q s).busy = none ∧ (mdioOf q s).queue = [] ∧ u8 p 1 = 1 ∧
     (mb = 0 ∨ mb = 4) ∧ Served mb 519 0 p s) ∧
    (let mb : Nat := 2; let q : Nat := 7; let p : Bytes := (par 2 [7, 0]);
     let s : State := (ask 2 0x0208 0 (par 2 [7, 0]) (ethS 7 { state := 2 })); u8 p 0 = q ∧ List.length p = 2 ∧
     q < 14 ∧ (mb = 0 ∨ mb = 2) ∧ (tc10Of q s).on = false ∧ u8 p 1 = 0 ∧
     ((lanePorts q s).any fun j ↦ (ethPort j s).state == 2) = true ∧ Served mb 520 0 p s) ∧
    (let mb : Nat := 2; let q : Nat := 7; let p : Bytes := (par 2 [7, 1]);
     let s : State := (ask 2 0x0208 0 (par 2 [7, 1]) (ethS 7 { state := 3 })); u8 p 0 = q ∧ List.length p = 2 ∧
     q < 14 ∧ (mb = 0 ∨ mb = 2) ∧ (tc10Of q s).on = false ∧ u8 p 1 = 1 ∧
     ((lanePorts q s).any fun j ↦ (ethPort j s).state == 3) = true ∧ Served mb 520 0 p s) ∧
    (let mb : Nat := 1; let q : Nat := 7; let p : Bytes := (par 60 [7, 0]);
     let s : State := (ask 1 0x0209 0 (par 60 [7, 0]) up); u8 p 0 = q ∧ q < 8 ∧ List.length p = 60 ∧
     keptDown q s = false ∧ u8 p 1 = 0 ∧ Served mb 521 0 p s) ∧
    (let mb : Nat := 0; let q : Nat := 7; let p : Bytes := (par 60 [7, 1, 29, 3, 50, 3]);
     let s : State := (ask 0 0x0209 0 (par 60 [7, 1, 29, 3, 50, 3]) up); let m : Macsec := macsecOf q s;
     u8 p 0 = q ∧ q < 8 ∧ List.length p = 60 ∧ keptDown q s = false ∧ u8 p 1 = 1 ∧ u8 p 3 ≤ 3 ∧
     (u8 p 4 = 0 ∨ u8 p 4 = 30 ∨ u8 p 4 = 50) ∧ u8 p 5 < 4 ∧ u8 p 25 ≤ 232 ∧ u8 p 3 = m.cipher ∧ bit p 2 0 = true ∧
     bit p 2 1 = false ∧ Served 0 521 0 p s) ∧
    (let mb : Nat := 0; let q : Nat := 7; let p : Bytes := (par 28 [7, 3, 1, 232, 9]);
     let s : State := (ask 0 0x020A 0 (par 28 [7, 3, 1, 232, 9]) (saS 2057)); let m : Macsec := macsecOf q s;
     u8 p 0 = q ∧ q < 8 ∧ List.length p = 28 ∧ u8 p 1 < 4 ∧ bit p 2 0 = true ∧ saSlot m (u8 p 3) 1 s = stOk ∧
     m.mka = false ∧ Served 0 522 0 p s) ∧
    (let mb : Nat := 0; let q : Nat := 7; let p : Bytes := (par 16 [7, 31, 10, 0, 9]);
     let s : State := (ask 0 0x020B 0 (par 16 [7, 31, 10, 0, 9]) (saS 2057)); let m : Macsec := macsecOf q s;
     u8 p 0 = q ∧ q < 8 ∧ List.length p = 16 ∧ u8 p 1 < 32 ∧ bit p 2 0 = false ∧ bits (u8 p 2) 3 2 ≠ 3 ∧
     m.mka = false ∧ Served 0 523 0 p s) ∧
    (let mb : Nat := 0; let q : Nat := 7; let p : Bytes := (par 32 [7, 31, 3, 1, 232, 0, 0, 0, 9]);
     let s : State := (ask 0 0x020C 0 (par 32 [7, 31, 3, 1, 232, 0, 0, 0, 9]) (saS 2058));
     let m : Macsec := macsecOf q s; u8 p 0 = q ∧ q < 8 ∧ List.length p = 32 ∧ u8 p 1 < 32 ∧ u8 p 2 < 4 ∧
     bit p 3 0 = true ∧ saSlot m (u8 p 4) 2 s = stOk ∧ m.mka = false ∧ Served 0 524 0 p s) ∧
    (let mb : Nat := 1; let q : Nat := 7; let p : Bytes := (par 1 [7]);
     let s : State := (ask 1 0x020D 0 (par 1 [7]) (saS 2058)); u8 p 0 = q ∧ q < 8 ∧ List.length p = 1 ∧ mb < 5 ∧
     Served mb 525 0 p s) := by
  and_intros <;> (try dsimp only) <;> and_intros <;>
    first | exact ⟨7, rfl⟩ | exact Or.inr rfl | decide +kernel | exact rfl

def pj : PressJob := { desc := par 48 [4, 1, 239, 0, 16, 0, 0, 0, 0, 0, 0, 0, 2, 2, 16], origin := .gateway 5, src := some (par 16 [1, 2]) }
def pS (j : PressJob) (r : BitVec 8) (slots : Tbl Slot) : State := { up with press := { queues := [(4, [j])], rr := 5, retired := r }, cellar := { slots := slots } }
def macKeys : Tbl Slot := [(239, { status := 1, key := par 32 [1], attr := 6 + 2 ^ 9 })]
def keyS : State :=
  { up with
    cellar := { slots := [(255, { status := 1, key := par 32 [1], attr := 16384 + 1, tag := slotTag 255 (par 32 [1]) 16385 up })], storeDue := [255] }
    otp := { root := some 1 } }
/-- A slot whose stored tag was computed under the same key carries its own tag. -/
theorem tagFits (t s : State) (n : Nat) (x : Slot) (hx : slotOf n s = x) (h : tagKey t = tagKey s)
    (ht : x.tag = slotTag n x.key x.attr t) :
    (slotOf n s).tag = slotTag n (slotOf n s).key (slotOf n s).attr s := by
  rw [hx, ht]; unfold slotTag; rw [h]
def keySlot : Slot := { status := 1, key := par 32 [1], attr := 16385, tag := slotTag 255 (par 32 [1]) 16385 up }
def taggedS : State := { up with cellar := { slots := [(255, keySlot)] } }
theorem taggedS_fits : (slotOf 255 taggedS).tag = slotTag 255 (slotOf 255 taggedS).key (slotOf 255 taggedS).attr taggedS :=
  tagFits up taggedS 255 keySlot rfl rfl (by simp only [keySlot])
theorem tagFits_ne (a b d : Nat) (h : a = b) (hd : d = 1) : a ^^^ d ≠ b := by
  subst h hd; intro e; have := congrArg (fun x => a ^^^ x) e; simp [← Nat.xor_assoc] at this
def derP (src : Nat) : Bytes := par 82 [239, src, 2, 64, 0, 0, 0, 0, 0, 0, 0, 0, 0, 0, 0, 0, 5, 6]
def kdfS : State := { up with cellar := { slots := [(238, { status := 1, key := par 32 [1], attr := 4 + 32 })] }, otp := { root := some 1, life := 1 } }
def infSlot : Slot := { status := 1, key := par 32 [1], attr := 1, tag := slotTag 239 (par 32 [1]) 1 up }
def infS : State := { up with cellar := { slots := [(239, infSlot)] } }
theorem infS_meets :
    let mb : Nat := 1; let p : Bytes := (par 1 [239]); let s : State := (ask 1 0x0A04 0 (par 1 [239]) infS);
     let x : Slot := slotOf (u8 p 0) s; List.length p = 1 ∧ u8 p 0 < 240 ∧ mb < 5 ∧ x.status = 1 ∧
     x.tag = slotTag (u8 p 0) x.key x.attr s ∧ attrUsage x.attr ≠ 4 ∧ attrAlg x.attr ≠ 2 ∧ Served mb 2564 0 p s :=
  ⟨by decide +kernel, by decide +kernel, by decide +kernel, by decide +kernel,
   tagFits up _ (u8 (par 1 [239]) 0) infSlot rfl rfl (by
     have h : u8 (par 1 [239]) 0 = 239 := by decide +kernel
     simp only [infSlot, h]), by decide +kernel, by decide +kernel,
   ⟨7, rfl⟩, by decide +kernel, by decide +kernel⟩
def verP : Bytes := par 64 [3, 15, 0, 0, 0, 0, 0, 0, 0, 0, 0, 0, 178, 234, 7]
def lifeP (n : Nat) : Bytes := b4 n ++ b4 0x4C435943

/-- Values that meet the premises of ThePressAndTheCellarRun, clause by clause. -/
theorem meets_ThePressAndTheCellarRun :
    (let host : Bytes := []; let fault : Bool := false; let c : Nat := 4; let j : PressJob := pj;
     let rest : List PressJob := []; let s : State := (pS pj 16 []);
     List.find? (fun c ↦ pressReady s c) (List.map (fun i ↦ (s.press.rr + i) % 8) (List.range 8)) = some c ∧
     pressQueue c s = j :: rest ∧ s.press.retired.getLsbD c = true) ∧
    (let host : Bytes := []; let fault : Bool := true; let c : Nat := 4;
     let j : PressJob := { pj with started := true }; let rest : List PressJob := [];
     let s : State := (pS { pj with started := true } 0 []);
     List.find? (fun c ↦ pressReady s c) (List.map (fun i ↦ (s.press.rr + i) % 8) (List.range 8)) = some c ∧
     pressQueue c s = j :: rest ∧ s.press.retired.getLsbD c = false ∧ j.started = true ∧ fault = true) ∧
    (let host : Bytes := []; let fault : Bool := false; let c : Nat := 4; let j : PressJob := pj;
     let rest : List PressJob := []; let s : State := (pS pj 0 []);
     let u : State := { power := s.power, boot := s.boot, host := s.host, ctl := s.ctl, sets := s.sets, parse := s.parse, vat := s.vat, flow := s.flow, time := s.time, edge := s.edge, ports := s.ports, svc := s.svc, cellar := s.cellar, press := have __src := s.press;
     { queues := __src.queues, rr := (c + 1) % 8, retired := __src.retired, faults := __src.faults, lock := __src.lock, barred := __src.barred, trngOk := __src.trngOk, runs := __src.runs, answers := __src.answers, ctr := __src.ctr, jobs := __src.jobs, nextJob := __src.nextJob }, gw := s.gw, pair := s.pair, sleep := s.sleep, test := s.test, alarms := s.alarms, otp := s.otp, flash := s.flash, upd := s.upd, out := s.out, fresh := s.fresh, pending := s.pending };
     let st : Nat := 4;
     List.find? (fun c ↦ pressReady s c) (List.map (fun i ↦ (s.press.rr + i) % 8) (List.range 8)) = some c ∧
     pressQueue c s = j :: rest ∧ s.press.retired.getLsbD c = false ∧ j.started = false ∧ startCheck c j u = st ∧
     st ≠ 0 ∧ st ≠ 3) ∧
    (let host : Bytes := []; let fault : Bool := false; let c : Nat := 4; let j : PressJob := pj;
     let rest : List PressJob := []; let s : State := (pS pj 0 macKeys);
     let u : State := { power := s.power, boot := s.boot, host := s.host, ctl := s.ctl, sets := s.sets, parse := s.parse, vat := s.vat, flow := s.flow, time := s.time, edge := s.edge, ports := s.ports, svc := s.svc, cellar := s.cellar, press := have __src := s.press;
     { queues := __src.queues, rr := (c + 1) % 8, retired := __src.retired, faults := __src.faults, lock := __src.lock, barred := __src.barred, trngOk := __src.trngOk, runs := __src.runs, answers := __src.answers, ctr := __src.ctr, jobs := __src.jobs, nextJob := __src.nextJob }, gw := s.gw, pair := s.pair, sleep := s.sleep, test := s.test, alarms := s.alarms, otp := s.otp, flash := s.flash, upd := s.upd, out := s.out, fresh := s.fresh, pending := s.pending };
     let b : Bytes := (par 16 [1, 2]); let n : Nat := 5;
     List.find? (fun c ↦ pressReady s c) (List.map (fun i ↦ (s.press.rr + i) % 8) (List.range 8)) = some c ∧
     pressQueue c s = j :: rest ∧ s.press.retired.getLsbD c = false ∧ j.src = some b ∧
     j.origin = PressFrom.gateway n ∧ j.started = false ∧ j.input = [] ∧ fault = false ∧ dMode j.desc = 4 ∧
     dRoot j.desc = false ∧ dDst j.desc = 2 ∧ dLen j.desc ≤ 256 ∧ startCheck c j u = 0) ∧
    (let cls : Nat := 4; let j : PressJob := { pj with finished := some 0 }; let rest : List PressJob := [];
     let s : State := (pS { pj with finished := some 0 } 0 []); pressQueue cls s = j :: rest ∧ j.finished = some 0) ∧
    (let cls : Nat := 4; let j : PressJob := { pj with finished := some 1 }; let rest : List PressJob := [];
     let s : State := (pS { pj with finished := some 1 } 0 []); pressQueue cls s = j :: rest ∧ j.finished = some 1 ∧
     dZero j.desc = false) ∧
    (let l : PressLock := { cls := 2, us := 9, start := 0 };
     let s : State := { up with press := { lock := some { cls := 2, us := 9, start := 0 } } };
     s.press.lock = some l) ∧
    (let n : Nat := 255; let d : Nat := 0; let s : State := taggedS;
     let good : Nat := slotTag n (slotOf n s).key (slotOf n s).attr s; (slotOf n s).status = 1 ∧
     (slotOf n s).tag ^^^ d = good) ∧
    (let n : Nat := 255; let d : Nat := 1; let s : State := taggedS;
     let good : Nat := slotTag n (slotOf n s).key (slotOf n s).attr s; (slotOf n s).status = 1 ∧
     (slotOf n s).tag ^^^ d ≠ good) ∧
    (let n : Nat := 255; let s : State := keyS; s.cellar.storeDue.contains n = true ∧ (slotOf n s).status = 1 ∧
     attrPersist (slotOf n s).attr = true) ∧
    (let n : Nat := 4; let s : State := keyS; n < 5 ∧ s.cellar.enables.getLsbD n = true ∧
     s.cellar.active.getLsbD n = false ∧ (n = 2 ∨ n = 3 → glitchArmed s = true)) ∧
    (let n : Nat := 3; let s : State := { keyS with cellar := { enables := 0x1F } }; n < 5 ∧
     s.cellar.enables.getLsbD n = true ∧ s.cellar.active.getLsbD n = false ∧ (n = 2 ∨ n = 3 → glitchArmed s = true)) ∧
    (let s : State := { up with cellar := { rederive := true } }; s.cellar.rederive = true ∧ dieshUp s = true ∧
     s.sleep.asleep = false) ∧
    (let s : State := up; s.press.trngOk = true) ∧
    (let s : State := up; s.press.trngOk = true) ∧
    (let s : State := { up with press := { trngOk := false } }; s.press.trngOk = false) := by
  refine ⟨?_, ?_, ?_, ?_, ?_, ?_, ?_, ⟨rfl, (Nat.xor_zero _).trans taggedS_fits⟩,
    ⟨rfl, tagFits_ne _ _ 1 taggedS_fits rfl⟩, ?_, ?_, ?_, ?_, ?_, ?_, ?_⟩ <;> (try dsimp only) <;> and_intros <;>
    first | exact ⟨7, rfl⟩ | exact Or.inr rfl | decide +kernel | exact rfl

/-- Values that meet the premises of KeyAndPressCommandsAnswer, clause by clause. -/
theorem meets_KeyAndPressCommandsAnswer :
    (let p : Bytes := (par 48 [240]); let s : State := (ask 0 0x0A00 0 (par 48 [240]) up); let n : Nat := u8 p 0;
     let t : Nat := 0; 240 ≤ n ∧ List.length p = 48 ∧ Served 0 2560 t p s) ∧
    (let p : Bytes := (par 16 [255]); let s : State := (ask 0 0x0A01 0 (par 16 [255]) up); let n : Nat := u8 p 0;
     let t : Nat := 0; 240 ≤ n ∧ List.length p = 16 ∧ Served 0 2561 t p s) ∧
    (let p : Bytes := (par 48 [239]); let s : State := (ask 0 0x0A00 0 (par 48 [239]) up); let n : Nat := u8 p 0;
     let a : Nat := u64 p 8; n < 240 ∧ attrOk a = true ∧ List.length p = 48 ∧ s.otp.life < 2 ∧ Served 0 2560 0 p s) ∧
    (let p : Bytes := (par 16 [239]); let s : State := (ask 0 0x0A01 0 (par 16 [239]) up); let n : Nat := u8 p 0;
     let a : Nat := u64 p 8; n < 240 ∧ attrOk a = true ∧ List.length p = 16 ∧ s.press.trngOk = true ∧
     Served 0 2561 0 p s) ∧
    (let p : Bytes := (derP 238); let s : State := (ask 0 0x0A02 0 (derP 238) kdfS); let n : Nat := u8 p 0;
     let a : Nat := u64 p 8; let src : Nat := 238; n < 240 ∧ attrOk a = true ∧ 1 ≤ u8 p 2 ∧ u8 p 2 ≤ 32 ∧
     u8 p 3 ≤ 64 ∧ List.length p = 16 + u8 p 2 + u8 p 3 ∧ u8 p 16 ≠ 0 ∧ u8 p 1 = src ∧ src < 240 ∧
     slotCheck 0 src 4 false s = 0 ∧ Served 0 2562 0 p s) ∧
    (let p : Bytes := (derP 255); let s : State := (ask 0 0x0A02 0 (derP 255) kdfS); let n : Nat := u8 p 0;
     let a : Nat := u64 p 8; n < 240 ∧ attrOk a = true ∧ 1 ≤ u8 p 2 ∧ u8 p 2 ≤ 32 ∧ u8 p 3 ≤ 64 ∧
     List.length p = 16 + u8 p 2 + u8 p 3 ∧ u8 p 16 ≠ 0 ∧ u8 p 1 = 255 ∧ rootUsable s = true ∧ Served 0 2562 0 p s) ∧
    (let mb : Nat := 2; let p : Bytes := (par 1 [239]); let s : State := (ask 2 0x0A03 0 (par 1 [239]) up);
     List.length p = 1 ∧ u8 p 0 < 240 ∧ (mb = 0 ∨ mb = 2) ∧ Served mb 2563 0 p s) ∧
    (let mb : Nat := 1; let p : Bytes := (par 1 [239]); let s : State := (ask 1 0x0A04 0 (par 1 [239]) up);
     let x : Slot := slotOf (u8 p 0) s; List.length p = 1 ∧ u8 p 0 < 240 ∧ mb < 5 ∧ x.status = 0 ∧
     Served mb 2564 0 p s) ∧
    (let mb : Nat := 1; let p : Bytes := (par 1 [239]); let s : State := (ask 1 0x0A04 0 (par 1 [239]) infS);
     let x : Slot := slotOf (u8 p 0) s; List.length p = 1 ∧ u8 p 0 < 240 ∧ mb < 5 ∧ x.status = 1 ∧
     x.tag = slotTag (u8 p 0) x.key x.attr s ∧ attrUsage x.attr ≠ 4 ∧ attrAlg x.attr ≠ 2 ∧ Served mb 2564 0 p s) ∧
    (let mb : Nat := 2; let p : Bytes := (par 3076 [64]); let s : State := (ask 2 0x0A05 0 (par 3076 [64]) up);
     mb < 3 ∧ 1 ≤ u16 p 0 ∧ u16 p 0 ≤ 64 ∧ List.length p = 4 + 48 * u16 p 0 ∧ s.press.retired.getLsbD mb = false ∧
     Tbl.find s.press.runs mb = none ∧ Served mb 2565 0 p s) ∧
    (let mb : Nat := 2; let p : Bytes := (par 8 [1, 0, 0, 0, 255, 255]);
     let s : State := (ask 2 0x0A06 0 (par 8 [1, 0, 0, 0, 255, 255]) up); mb < 3 ∧ List.length p = 8 ∧ u8 p 0 = 1 ∧
     s.press.lock = none ∧ Tbl.get s.press.barred mb 0 ≤ now s ∧ Served mb 2566 0 p s) ∧
    (let mb : Nat := 2; let p : Bytes := (par 8 [0]);
     let s : State := (ask 2 0x0A06 0 (par 8 [0]) { up with press := { lock := some { cls := 2, us := 9, start := 0 } } });
     let l : PressLock := { cls := 2, us := 9, start := 0 }; mb < 3 ∧ List.length p = 8 ∧ u8 p 0 = 0 ∧
     s.press.lock = some l ∧ l.cls = mb ∧ Served mb 2566 0 p s) ∧
    (let mb : Nat := 1; let s : State := (ask 1 0x0A07 0 [] up); mb < 5 ∧ s.press.lock = none ∧
     Served mb 2567 0 [] s) ∧
    (let mb : Nat := 1; let t : Nat := 0; let p : Bytes := verP;
     let s : State := (ask 1 0x0A08 0 verP { up with test := { banks := [(15, { owner := 2 })] } });
     let b : Bank := bankOf (u8 p 1) s; mb < 2 ∧ List.length p = 64 ∧ u8 p 0 < 4 ∧ u8 p 1 < 16 ∧ bit p 2 0 = false ∧
     b.owner = mbOwner mb ∧ b.busy = false ∧ b.retired = false ∧ u32 p 12 + 5454 ≤ bankSize ∧
     poisonIn b.poison (u32 p 12) 5454 = [] ∧ (anchorOf (u8 p 0) s).revoked = false ∧ Served mb 2568 t p s) ∧
    (let n : Nat := 3; let p : Bytes := (par 52 [3, 0]); let s : State := (ask 0 0x0A09 0 (par 52 [3, 0]) up);
     u8 p 0 = n ∧ 1 ≤ n ∧ n ≤ 3 ∧ List.length p = 52 ∧ u8 p 1 = 0 ∧ Served 0 2569 0 p s) ∧
    (let n : Nat := 3; let p : Bytes := (par 52 [3, 1, 0, 0, 9]);
     let s : State := (ask 0 0x0A09 0 (par 52 [3, 1, 0, 0, 9]) up); let a : Anchor := anchorOf n s; u8 p 0 = n ∧
     1 ≤ n ∧ n ≤ 3 ∧ List.length p = 52 ∧ u8 p 1 = 1 ∧ a.programmed = false ∧ s.otp.life < 2 ∧ Served 0 2569 0 p s) ∧
    (let n : Nat := 3; let p : Bytes := (par 52 [3, 2]); let s : State := (ask 0 0x0A09 0 (par 52 [3, 2]) up);
     u8 p 0 = n ∧ 1 ≤ n ∧ n ≤ 3 ∧ List.length p = 52 ∧ u8 p 1 = 2 ∧ liveAnchors s ≠ [n] ∧ Served 0 2569 0 p s) ∧
    (let p : Bytes := (lifeP 1);
     let s : State := (ask 0 0x0A0A 0 (lifeP 1) { up with otp := { anchors := [(3, { programmed := true })] } });
     List.length p = 8 ∧ u8 p 0 = s.otp.life + 1 ∧ u32 p 4 = 1279482179 ∧ s.otp.life = 0 ∧ liveAnchors s ≠ [] ∧
     Served 0 2570 0 p s) ∧
    (let p : Bytes := (lifeP 2); let s : State := (ask 0 0x0A0A 0 (lifeP 2) kdfS); List.length p = 8 ∧
     u8 p 0 = s.otp.life + 1 ∧ u32 p 4 = 1279482179 ∧ s.otp.life = 1 ∧ Served 0 2570 0 p s) ∧
    (let p : Bytes := (lifeP 3);
     let s : State := (ask 0 0x0A0A 0 (lifeP 3) { kdfS with otp := { root := some 1, life := 2 } });
     List.length p = 8 ∧ u8 p 0 = s.otp.life + 1 ∧ u32 p 4 = 1279482179 ∧ s.otp.life = 2 ∧ Served 0 2570 0 p s) ∧
    (let mb : Nat := 1; let p : Bytes := (par 2 [0]); let s : State := (ask 1 0x0A0B 0 (par 2 [0]) up);
     List.length p = 2 ∧ u8 p 0 = 0 ∧ Served mb 2571 0 p s) ∧
    (let mb : Nat := 0; let p : Bytes := (par 2 [1, 255]); let s : State := (ask 0 0x0A0B 0 (par 2 [1, 255]) up);
     List.length p = 2 ∧ u8 p 0 = 1 ∧ s.otp.life < 2 ∧ Served 0 2571 0 p s) ∧
    (let mb : Nat := 0; let p : Bytes := (par 2 [2]);
     let s : State := (ask 0 0x0A0B 0 (par 2 [2]) { up with otp := { tampered := true, tamperCount := 64 } });
     List.length p = 2 ∧ u8 p 0 = 2 ∧ Served 0 2571 0 p s) := by
  refine ⟨?_, ?_, ?_, ?_, ?_, ?_, ?_, ?_, infS_meets, ?_, ?_, ?_, ?_, ?_, ?_, ?_, ?_, ?_, ?_, ?_,
    ?_, ?_, ?_⟩ <;> (try dsimp only) <;> and_intros <;>
    first | exact ⟨7, rfl⟩ | exact Or.inr rfl | decide +kernel | exact rfl

def slS (z : Sleep) : State := { up with sleep := z }
def nmS (n : Nm) : State := { slS { nm := n } with ports := { eth := [(31, { state := 2 })] } }
def nmF : VFrame := { frame := { bytes := edgeHeader 95 1 0 0 0 0x123 8 3 4 7 ++ par 8 [1, 2], port := 127, edge := true, gen := 1, ts := [5] }, refs := 1, staged := false, cells := [0] }
def nmIn : State :=
  { nmS { buses := [(127, { en := true, idLo := 0x123, idHi := 0x123 })] } with
    vat := { nextFid := 1, frames := [(0, nmF)], queues := [(673, { copies := [{ len := 24, egress := 130, queue := 673, cells := 1, gen := 1, ingress := 127 }] })] } }
def lateS : State := { nmS { coord := true, offendS := 600, nodes := [{ port := 127, node := 5, since := some 0 }] } with time := { tb := [(0, { state := .enabled, count := 600000000000 })] } }

/-- Values that meet the premises of SleepEntriesAndExits, clause by clause. -/
theorem meets_SleepEntriesAndExits :
    (let s : State := (slS { entry := .drain, target := 1, state := 1 }); s.sleep.entry = Entry.drain ∧
     s.sleep.wake = none ∧ drained s = true ∧ s.sleep.target = 1) ∧
    (let s : State := (slS { entry := .drain, target := 3, state := 1 }); s.sleep.entry = Entry.drain ∧
     s.sleep.wake = none ∧ drained s = true ∧ s.sleep.target ≠ 1 ∧ s.sleep.tc10 = false) ∧
    (let s : State := (slS { entry := .drain, target := 2, state := 1, wake := some { source := 23 } });
     let w : Wake := { source := 23 }; s.sleep.entry = Entry.drain ∧ s.sleep.wake = some w) ∧
    (let s : State := (slS { entry := .drain, target := 2, state := 1, wake := some { source := 23 } });
     let w : Wake := { source := 23 }; s.sleep.entry = Entry.drain ∧ s.sleep.wake = some w) ∧
    (let s : State := (slS { entry := .drain, target := 2, state := 1 }); s.sleep.entry = Entry.drain ∧
     s.sleep.wake = none ∧ s.sleep.net = false) ∧
    (let s : State := (slS { entry := .save, target := 3, state := 1 }); s.sleep.entry = Entry.save ∧
     s.sleep.lanes = [] ∧ s.sleep.wake = none) ∧
    (let s : State := (slS { entry := .off, target := 3, state := 3, asleep := true }); s.sleep.entry = Entry.off) ∧
    (let s : State := (slS { target := 3, state := 3, asleep := true }); s.sleep.asleep = true ∧ s.sleep.state = 3 ∧
     s.sleep.entry = Entry.none ∧ s.sleep.inhLow = 0) ∧
    (let source : Nat := 23; let m : Nat := 0; let ch : Nat := 255; let periods : Nat := 32768;
     let s : State := (slS { target := 2, asleep := true }); (source < 24 ∨ source = 25) ∧ s.sleep.asleep = true ∧
     s.sleep.state ≠ 3 ∧ s.sleep.entry = Entry.none ∧ wakesFrom s.sleep.target source = true ∧
     sourceLive { source := source } s = true) ∧
    (let periods : Nat := 0; let duration : Nat := 0; let noRef : Nat := 0; let fails : List BistFail := [];
     let s : State := (slS { target := 1, state := 3 }); s.sleep.state = 3 ∧ s.pair.taking = false ∧
     s.sleep.net = false ∧ s.sleep.asleep = false) ∧
    (let periods : Nat := 32768; let duration : Nat := 0; let noRef : Nat := 0; let fails : List BistFail := [];
     let s : State := (slS { target := 2, state := 3, asleep := true, railsUp := true }); s.sleep.state = 3 ∧
     s.pair.taking = false ∧ s.sleep.net = false ∧ s.sleep.asleep = true ∧ s.sleep.railsUp = true ∧
     s.sleep.target = 2 ∧ s.pair.slept = 0) ∧
    (let w : Wake := { source := 23 }; let s : State := (slS { unconfirmed := some { source := 23 }, left := 2 });
     s.sleep.unconfirmed = some w ∧ s.sleep.state = 0 ∧ s.power.phase = Phase.done) ∧
    (let s : State := (slS { restore := true, saved := 3 }); s.sleep.restore = true ∧ s.sleep.state = 0 ∧
     s.power.phase = Phase.done) ∧
    (let l : Nat := 2; let s : State := (slS { rising := some (2, none), level := 3 });
     s.sleep.rising = some (l, none)) ∧
    (let l : Nat := 2;
     let s : State := (ask 0 0x0B00 0 (par 8 [1, 2]) (slS { rising := some (2, some 0), level := 3 }));
     let k : Nat := 0; let r : Req := { mb := 0, cmd := 0x0B00, tag := 7, target := 0, params := par 8 [1, 2] };
     s.sleep.rising = some (l, some k) ∧ (mbOf k s).cur = some r) := by
  and_intros <;> (try dsimp only) <;> and_intros <;>
    first | exact ⟨7, rfl⟩ | exact Or.inr rfl | decide +kernel | exact rfl

/-- Values that meet the premises of NetworkCoordinationRuns, clause by clause. -/
theorem meets_NetworkCoordinationRuns :
    (let p : Nat := 127;
     let x : Copy := { len := 24, egress := 130, queue := 673, cells := 1, gen := 1, ingress := 127 };
     let rest : List Copy := []; let f : VFrame := nmF; let s : State := nmIn; dieshUp s = true ∧
     (nmBusOf p s).en = true ∧ takeFirst (fun x ↦ isNmCopy p x s) (vatQueue 673 s).copies = some (x, rest) ∧
     frameOf x.fid s = some f) ∧
    (let p : Nat := 127;
     let s : State := (nmS { buses := [(127, { en := true })], nodes := [{ port := 31, node := 5 }] });
     dieshUp s = true ∧ (nmBusOf p s).en = true ∧ (nmBusOf p s).ready = false ∧
     (∀ (x : NmNode), x ∈ s.sleep.nm.nodes → x.port = p → keepsAwake x s = false) ∧
     (∀ (t : Nat), (nmBusOf p s).untracked = some t → msOver t (nmBusOf p s).timeoutMs s = true)) ∧
    (let p : Nat := 31; let s : State := (nmS { buses := [(31, { en := true, hold := true })], coord := true });
     (nmBusOf p s).en = true ∧ coordRuns s = true ∧ s.sleep.gated = false ∧ (nmBusOf p s).hold = true) ∧
    (let p : Nat := 31;
     let s : State := (nmS { buses := [(31, { en := true, hold := true }), (127, { en := true, hold := true })], state := 1 });
     let u : State := setNmBus p (have __src := nmBusOf p s;
     { en := __src.en, ide := __src.ide, tc10 := __src.tc10, ownNode := __src.ownNode, nodePos := __src.nodePos, cbvPos := __src.cbvPos, rmBit := __src.rmBit, awBit := __src.awBit, pduLen := __src.pduLen, idLo := __src.idLo, idHi := __src.idHi, txId := __src.txId, cycleMs := __src.cycleMs, timeoutMs := __src.timeoutMs, repeatMs := __src.repeatMs, template := __src.template, ready := __src.ready, untracked := __src.untracked, ident := __src.ident }) s;
     (nmBusOf p s).hold = true ∧ ((nmBusPorts u).any fun q ↦ (nmBusOf q u).hold) = true) ∧
    (let p : Nat := 31; let s : State := (nmS { buses := [(31, { en := true, hold := true })], state := 1 });
     let u : State := setNmBus p (have __src := nmBusOf p s;
     { en := __src.en, ide := __src.ide, tc10 := __src.tc10, ownNode := __src.ownNode, nodePos := __src.nodePos, cbvPos := __src.cbvPos, rmBit := __src.rmBit, awBit := __src.awBit, pduLen := __src.pduLen, idLo := __src.idLo, idHi := __src.idHi, txId := __src.txId, cycleMs := __src.cycleMs, timeoutMs := __src.timeoutMs, repeatMs := __src.repeatMs, template := __src.template, ready := __src.ready, untracked := __src.untracked, ident := __src.ident }) s;
     (nmBusOf p s).hold = true ∧ ((nmBusPorts u).any fun q ↦ (nmBusOf q u).hold) = false) ∧
    (let s : State := (nmS { coord := true, commitAt := some 0 }); coordRuns s = true ∧ (s.sleep.nm.state = 2 ∧
     s.sleep.nm.windowEnd + 1000000 ≤ now s ∨ ∃ t, s.sleep.nm.commitAt = some t ∧ t ≤ now s)) ∧
    (let n : Nat := 95; let s : State := (nmS { coord := true, state := 3, lins := [95] }); s.sleep.nm.state = 3 ∧
     s.sleep.nm.lins.contains n = true) ∧
    (let s : State := { nmS { coord := true, state := 3 } with pair := { state := 2, link := true } };
     s.sleep.nm.state = 3 ∧ s.sleep.nm.lanes = [] ∧ s.sleep.nm.lins = [] ∧ s.sleep.nm.pairWait = false ∧
     coordRuns s = true ∧ s.pair.state = 2) ∧
    (let s : State := (nmS { coord := true, state := 3 }); s.sleep.nm.state = 3 ∧ s.sleep.nm.lanes = [] ∧
     s.sleep.nm.lins = [] ∧ s.sleep.nm.pairWait = false ∧ coordRuns s = true ∧ s.pair.state ≠ 2) ∧
    (let p : Nat := 127; let node : Nat := 5; let t : Nat := 0;
     let x : NmNode := { port := 127, node := 5, since := some 0 }; let s : State := lateS;
     List.find? (fun x ↦ x.port == p && x.node == node) s.sleep.nm.nodes = some x ∧ x.since = some t ∧
     x.logged = false ∧ t + 1000000000 * s.sleep.nm.offendS ≤ now s ∧ coordRuns s = true) ∧
    (let p : Nat := 127; let node : Nat := 5; let i : Nat := 511;
     let s : State := (nmS { log := [(511, { valid := true, port := 127, node := 5, suppressed := true })] });
     stayIdx p node s = some i ∧ (stayAt i s).suppressed = true ∧
     (∀ (x : NmNode), x ∈ s.sleep.nm.nodes → x.port = p → x.node = node → msOver x.lastSeen (nmBusOf p s).timeoutMs s = true)) := by
  and_intros <;> (try dsimp only) <;> and_intros <;>
    first | exact ⟨7, rfl⟩ | exact Or.inr rfl | decide +kernel | exact rfl

/-- Values that meet the premises of SleepCommandsAnswer, clause by clause. -/
theorem meets_SleepCommandsAnswer :
    (let mb : Nat := 1; let p : Bytes := (par 8 [0]); let s : State := (ask 1 0x0B00 0 (par 8 [0]) up);
     List.length p = 8 ∧ u8 p 0 = 0 ∧ Served mb 2816 0 p s) ∧
    (let mb : Nat := 1; let p : Bytes := (par 8 [1, 3, 3]);
     let s : State := (ask 0 0x0B00 0 (par 8 [1, 3, 3]) (slS { level := 1 })); let l : Nat := u8 p 1;
     List.length p = 8 ∧ u8 p 0 = 1 ∧ u8 p 1 < 4 ∧ s.sleep.rising = none ∧ s.sleep.entry = Entry.none ∧
     s.sleep.state = 0 ∧ (ingressTenths s ≤ complement (u8 p 1) ∨ bit p 2 0 = true) ∧ s.sleep.level < l ∧
     Served 0 2816 0 p s) ∧
    (let mb : Nat := 1; let p : Bytes := (par 8 [1, 3, 3]);
     let s : State := (ask 0 0x0B00 0 (par 8 [1, 3, 3]) (slS { level := 3 })); let l : Nat := u8 p 1;
     List.length p = 8 ∧ u8 p 0 = 1 ∧ u8 p 1 < 4 ∧ s.sleep.rising = none ∧ s.sleep.entry = Entry.none ∧
     s.sleep.state = 0 ∧ (ingressTenths s ≤ complement (u8 p 1) ∨ bit p 2 0 = true) ∧ s.sleep.level = l ∧
     Served 0 2816 0 p s) ∧
    (let mb : Nat := 1; let p : Bytes := (par 8 [1, 0, 3]);
     let s : State := (ask 0 0x0B00 0 (par 8 [1, 0, 3]) (slS { level := 3 })); let l : Nat := u8 p 1;
     List.length p = 8 ∧ u8 p 0 = 1 ∧ u8 p 1 < 4 ∧ s.sleep.rising = none ∧ s.sleep.entry = Entry.none ∧
     s.sleep.state = 0 ∧ (ingressTenths s ≤ complement (u8 p 1) ∨ bit p 2 0 = true) ∧ l < s.sleep.level ∧
     Served 0 2816 0 p s) ∧
    (let mb : Nat := 2; let p : Bytes := (par 8 [3, 1, 0, 0, 101]);
     let s : State := (ask 2 0x0B01 0 (par 8 [3, 1, 0, 0, 101]) up); List.length p = 8 ∧ (mb = 0 ∨ mb = 2) ∧
     1 ≤ u8 p 0 ∧ u8 p 0 ≤ 3 ∧ s.sleep.entry = Entry.none ∧ s.sleep.asleep = false ∧ s.sleep.state = 0 ∧
     s.pair.state ≠ 2 ∧ s.pair.state ≠ 3 ∧ Served mb 2817 0 p s) ∧
    (let mb : Nat := 3; let s : State := (ask 3 0x0B02 0 [] (slS { state := 2, target := 1, gated := true }));
     mb < 4 ∧ (s.sleep.state ≠ 0 ∨ s.sleep.entry ≠ Entry.none) ∧ Served mb 2818 0 [] s) ∧
    (let mb : Nat := 3; let s : State := (ask 3 0x0B02 0 [] up); let t : Nat := 0; mb < 4 ∧ s.sleep.state = 0 ∧
     s.sleep.entry = Entry.none ∧ Served mb 2818 t [] s) ∧
    (let mb : Nat := 1; let p : Bytes := (par 44 [0]); let s : State := (ask 1 0x0B03 0 (par 44 [0]) up);
     List.length p = 44 ∧ u8 p 0 = 0 ∧ Served mb 2819 0 p s) ∧
    (let mb : Nat := 1; let p : Bytes := (par 44 [1, 0, 0, 0, 255]);
     let s : State := (ask 0 0x0B03 0 (par 44 [1, 0, 0, 0, 255]) up); List.length p = 44 ∧ u8 p 0 = 1 ∧
     Served 0 2819 0 p s) ∧
    (let mb : Nat := 1; let p : Bytes := (par 32 [7, 0]); let s : State := (ask 1 0x0B04 0 (par 32 [7, 0]) up);
     List.length p = 32 ∧ u8 p 0 < 8 ∧ u8 p 1 = 0 ∧ Served mb 2820 0 p s) ∧
    (let mb : Nat := 1; let p : Bytes := (par 32 [7, 1, 7, 95, 3, 255]);
     let s : State := (ask 0 0x0B04 0 (par 32 [7, 1, 7, 95, 3, 255]) { up with edge := { ch := [(95, { mode := 1, state := 3 })] } });
     List.length p = 32 ∧ u8 p 0 < 8 ∧ u8 p 1 = 1 ∧ u8 p 3 < 96 ∧ isCan (edgeChan (u8 p 3) s).mode = true ∧
     u8 p 4 ≤ 3 ∧ (u8 p 5 ≤ 8 ∨ u8 p 5 = 255) ∧ Served 0 2820 0 p s) ∧
    (let mb : Nat := 1; let q : Nat := 127; let p : Bytes := (par 74 [127, 0]);
     let s : State := (ask 1 0x0B05 0 (par 74 [127, 0]) up); List.length p = 74 ∧ u8 p 0 = q ∧ q < 128 ∧
     u8 p 1 = 0 ∧ Served mb 2821 0 p s) ∧
    (let mb : Nat := 1; let q : Nat := 127; let p : Bytes := (par 74 [127, 1, 1, 9, 0, 255]);
     let s : State := (ask 0 0x0B05 0 (par 74 [127, 1, 1, 9, 0, 255]) { up with edge := { ch := [(95, { mode := 1, state := 3 })] } });
     List.length p = 74 ∧ u8 p 0 = q ∧ q < 128 ∧ u8 p 1 = 1 ∧ nmBusConflict p s = false ∧ bit p 2 0 = true ∧
     Served 0 2821 0 p s) ∧
    (let mb : Nat := 1; let p : Bytes := (par 12 [0]); let s : State := (ask 1 0x0B06 0 (par 12 [0]) up);
     List.length p = 12 ∧ u8 p 0 = 0 ∧ Served mb 2822 0 p s) ∧
    (let mb : Nat := 1; let p : Bytes := (par 12 [1, 3]); let s : State := (ask 0 0x0B06 0 (par 12 [1, 3]) up);
     List.length p = 12 ∧ u8 p 0 = 1 ∧ 1 ≤ u8 p 1 ∧ u8 p 1 ≤ 3 ∧ Served 0 2822 0 p s) ∧
    (let mb : Nat := 1; let p : Bytes := (par 12 [2]); let s : State := (ask 0 0x0B06 0 (par 12 [2]) up);
     List.length p = 12 ∧ u8 p 0 = 2 ∧ Served 0 2822 0 p s) ∧
    (let mb : Nat := 1; let p : Bytes := (par 12 [3]); let s : State := (ask 2 0x0B06 0 (par 12 [3]) up);
     List.length p = 12 ∧ u8 p 0 = 3 ∧ Served 2 2822 0 p s) ∧
    (let mb : Nat := 1; let f : Nat := 412; let n : Nat := 100; let p : Bytes := (par 6 [0, 0, 156, 1, 255, 255]);
     let s : State := (ask 1 0x0B07 0 (par 6 [0, 0, 156, 1, 255, 255]) up); List.length p = 6 ∧ u16 p 2 = f ∧
     clamp 1 100 (u16 p 4) = n ∧ f + n ≤ 512 ∧ u8 p 0 = 0 ∧ Served mb 2823 0 p s) ∧
    (let mb : Nat := 2; let f : Nat := 511; let n : Nat := 1; let p : Bytes := (par 6 [1, 0, 255, 1]);
     let s : State := (ask 2 0x0B07 0 (par 6 [1, 0, 255, 1]) up); List.length p = 6 ∧ u16 p 2 = f ∧
     clamp 1 100 (u16 p 4) = n ∧ f + n ≤ 512 ∧ (mb = 0 ∨ mb = 2) ∧ u8 p 0 = 1 ∧ Served mb 2823 0 p s) ∧
    (let mb : Nat := 2; let f : Nat := 511; let n : Nat := 1; let p : Bytes := (par 6 [2, 0, 255, 1]);
     let s : State := (ask 2 0x0B07 0 (par 6 [2, 0, 255, 1]) up); List.length p = 6 ∧ u16 p 2 = f ∧
     clamp 1 100 (u16 p 4) = n ∧ f + n ≤ 512 ∧ (mb = 0 ∨ mb = 2) ∧ u8 p 0 = 2 ∧ Served mb 2823 0 p s) := by
  and_intros <;> (try dsimp only) <;> and_intros <;>
    first | exact ⟨7, rfl⟩ | exact Or.inr rfl | decide +kernel | exact rfl

def formedP : Pair := { cfg := { en := true, peer := 1, hbPort := 24 }, link := true, state := 2 }
def prS (x : Pair) : State := { up with pair := x }
def prD (n : Nat) : Pair := { formedP with state := n }
def hello (peer : Nat) (fenced : Bool) : Hello := { dev := 1, peer := peer, ident := ident, fwrev := 0, hbUs := 50, detectUs := 200, ckptMs := 10, respMs := 5, active := false, prefer := false, fenced := fenced, epoch := 7 }
theorem hello_other (s : State) (h : s.pair.cfg.peer = 9) : helloItem (hello 1 false) s ≠ 0 := by
  simp [helloItem, hello, h]
theorem hello_same (f : Bool) (s : State) (h : s.pair.cfg = { en := true, peer := 1 }) (hb : s.boot.fwrev = 0) :
    helloItem (hello devId f) s = 0 := by simp [helloItem, hello, h, hb]
def prH (x : Pair) : State := prS { x with state := 1, link := true, cfg := { en := true, peer := 1 } }
/-- An Owl frame of device 200, and one whose tag is wrong. -/
def owlHead40 (kind role e : Nat) : Bytes := par 40 [1, kind, 200, role, 0, 0, 0, 9, 0, 0, 0, 0, 0, 0, 0, 0, 0, 0, 0, 0, 0, 0, 0, 0, 0, 0, 0, 0, 0, 0, 0, 0, 0, 0, 0, e]
def owlBody (kind role e : Nat) : Bytes := owlHead40 kind role e ++ owlTag (par 16 [1]) (owlHead40 kind role e)
def prO (n : Nat) : State := prS { prD n with cfg := { en := true, peer := 200 }, verKey := some (par 16 [1]), pathA := true }
theorem owl_drop (k r e : Nat) (h : (owlHead40 k r e).length = 40) :
    (owlBody k r e).drop 40 = owlTag (par 16 [1]) (owlHead40 k r e) := List.drop_left' h
def prU (k r e n : Nat) : State := setPair (fun p => { p with
  lastSeq := Tbl.set p.lastSeq (seqKey 0 200) (beN (owlBody k r e) 4 4 + 1) 0 }) (prO n)
theorem owl_takes (k r e n : Nat) (hl : (owlHead40 k r e).length = 40) (hb : (owlBody k r e).length = 48)
    (hk : u8 (owlBody k r e) 1 = k) (hd : u8 (owlBody k r e) 2 = 200) :
    owlTake 0 0 (owlBody k r e) k (prO n) = (some (owlBody k r e), prU k r e n) := by
  have ht : (owlBody k r e).take 48 = owlBody k r e := List.take_of_length_le (by omega)
  have h4 : (owlBody k r e).take 40 = owlHead40 k r e := List.take_left' hl
  have hv : ¬ (200 : Nat) = devId := by have := devId_lt; omega
  have hz : up.sleep.asleep = false := rfl
  unfold owlTake
  simp [prU, prO, prD, prS, formedP, ht, hk, hd, hb, h4, owl_drop k r e hl, hv, hz, Tbl.get]
theorem owlTag_fits (k r e : Nat) (h : (owlHead40 k r e).length = 40) :
    (owlBody k r e).drop 40 = owlTag (par 16 [1]) ((owlBody k r e).take 40) := by
  have h4 : (owlBody k r e).take 40 = owlHead40 k r e := List.take_left' h
  rw [owl_drop k r e h, h4]
theorem not_devId {n : Nat} (h : n = 200) : n ≠ devId := by have := devId_lt; omega
def owlWrong : Bytes := owlHead40 1 2 0 ++ (owlTag (par 16 [1]) (owlHead40 1 2 0)).map (· ^^^ 1)
theorem map_ne (l : Bytes) (h : l.length = 8) : l.map (· ^^^ 1) ≠ l := by
  have hx : ∀ x : BitVec 8, x ^^^ 1 ≠ x := by decide
  cases l with
  | nil => simp at h
  | cons a t => intro e; exact hx a (List.cons.inj e).1
theorem owlWrong_tag : owlWrong.drop 40 ≠ owlTag (par 16 [1]) (owlWrong.take 40) := by
  have h : (owlHead40 1 2 0).length = 40 := by decide +kernel
  have h4 : owlWrong.take 40 = owlHead40 1 2 0 := List.take_left' h
  have h8 : owlWrong.drop 40 = (owlTag (par 16 [1]) (owlHead40 1 2 0)).map (· ^^^ 1) := List.drop_left' h
  rw [h4, h8]; exact map_ne _ (by decide +kernel)
def prT (x : Pair) (z : Sleep) : State := { up with pair := x, sleep := z }
def frerS (x : FrerState) : State :=
  { prS { frer := [(2047, x)] } with
    sets := { a := { streams := [(2047, par 16 [35, 0, 32, 0, 208, 7, 2, 0, 16, 0, 0, 0, 208, 7, 30, 0])] }, gen := 1 }, time := { tb := [(0, { state := .enabled, count := 2000000001 })] } }
def other : Nat := (devId + 1) % 64
def pcP : Bytes := par 16 [1, 1, other, 7, 0, 0, 0, 0, 0, 0, 0, 0, 1, 2]
def pcS : State := ask 0 0x0C00 0 pcP { up with cellar := { slots := [(1, { status := 1, key := par 16 [1], attr := 5 + 2 ^ 8 }), (2, { status := 1, key := par 16 [1], attr := 6 + 2 ^ 8 })] } }
theorem pcP_peer : u8 pcP 2 = other % 256 := rfl
theorem other_ok : u8 pcP 2 < 64 ∧ u8 pcP 2 ≠ devId := by
  rw [pcP_peer]; have := devId_lt; unfold other; omega
def syncS : State := prS { formedP with inSync := true, acked := some { gen := 1 } }
def ckP : Bytes := par 3568 [1, 0, 0, 0, 0, 0, 1]
def lgP : Bytes := par 9 [167, 3, 255, 255, 255, 255]
def fsP : Bytes := par 20 [255, 7, 0, 0, 255]
def fbP : Bytes := par 6 [255, 31, 1, 0, 255, 135]
def fcP : Bytes := par 10 [0, 1, 0, 0, 255, 7, 0, 0, 2]

/-- Values that meet the premises of ThePairFormsAndListens, clause by clause. -/
theorem meets_ThePairFormsAndListens :
    (let s : State := up; (∀ (w : PostedWrite), w ∈ s.host.posted → w.bridge ≠ 1) ∧
     (∀ (h : HeldRead), h ∈ s.host.held → h.bridge ≠ 1)) ∧
    (let s : State := (prS (prD 1)); helloing s = true) ∧
    (let s : State := (prS { formedP with genKey := some (par 16 [1]) }); pairFormedNow s = true ∧
     s.pair.genKey.isSome = true ∧ s.pair.owlOff = false ∧ s.sleep.asleep = false) ∧
    (let s : State := { prS { formedP with peerChallenge := some 5 } with cellar := { slots := [(0, { status := 1, key := par 16 [1], attr := 5 + 2 ^ 8 })] } };
     let c : Nat := 5; s.pair.peerChallenge = some c ∧ dieshUp s = true ∧ s.pair.cfg.en = true ∧
     s.sleep.asleep = false ∧ slotCheck 3 s.pair.cfg.genSlot 5 false s = 0) ∧
    (let h : Hello := (hello 1 false); let s : State := (prS { prD 1 with cfg := { en := true, peer := 9 } });
     pairTalks s = true ∧ (s.pair.state = 1 ∨ s.pair.state = 4 ∨ s.pair.state = 6) ∧ helloItem h s ≠ 0) ∧
    (let h : Hello := (hello devId true); let s : State := (prH {}); pairTalks s = true ∧
     (s.pair.state = 1 ∨ s.pair.state = 4 ∨ s.pair.state = 6) ∧ helloItem h s = 0 ∧ takesActive h s = true) ∧
    (let h : Hello := (hello devId false); let s : State := (prH { fenceIn := true }); pairTalks s = true ∧
     (s.pair.state = 1 ∨ s.pair.state = 4 ∨ s.pair.state = 6) ∧ helloItem h s = 0 ∧ takesActive h s = false) ∧
    (let port : Nat := 0; let k : Bytes := (par 16 [1]); let data : Bytes := owlWrong; let s : State := (prO 2);
     s.pair.verKey = some k ∧ s.pair.cfg.en = true ∧ s.pair.link = true ∧ s.pair.owlOff = false ∧
     s.sleep.asleep = false ∧ List.length data = 48 ∧ u8 data 1 = owlHeartbeat ∧ u8 data 2 ≠ devId ∧
     Tbl.get s.pair.lastSeq (seqKey 0 (u8 data 2)) 0 ≤ beN data 4 4 ∧
     List.drop 40 data ≠ owlTag k (List.take 40 data)) ∧
    (let port : Nat := 0; let k : Bytes := (par 16 [1]); let data : Bytes := (owlBody 1 2 0);
     let s : State := (prO 2); s.pair.verKey = some k ∧ s.pair.cfg.en = true ∧ s.pair.link = true ∧
     s.pair.owlOff = false ∧ s.sleep.asleep = false ∧ List.length data = 48 ∧ u8 data 1 = owlHeartbeat ∧
     u8 data 2 ≠ devId ∧ Tbl.get s.pair.lastSeq (seqKey 0 (u8 data 2)) 0 ≤ beN data 4 4 ∧
     List.drop 40 data = owlTag k (List.take 40 data) ∧ u8 data 2 = s.pair.cfg.peer) ∧
    (let path : Nat := 0; let port : Nat := 0; let data : Bytes := (owlBody 2 1 0);
     let b : Bytes := (owlBody 2 1 0); let s : State := (prO 3); let u : State := (prU 2 1 0 3);
     let v : State := owlRelay path port data u; owlTake path port data owlLastGasp s = (some b, u) ∧
     fromPeer b v = true) ∧
    (let path : Nat := 0; let port : Nat := 0; let data : Bytes := (owlBody 3 1 9);
     let b : Bytes := (owlBody 3 1 9); let s : State := (prO 2); let u : State := (prU 3 1 9 2);
     let v : State := pathHeard 0 u; owlTake 0 port data owlTakeover s = (some b, u) ∧ fromPeer b u = true ∧
     v.pair.epoch < beN b 32 4) ∧
    (let path : Nat := 0; let port : Nat := 0; let data : Bytes := (owlBody 3 1 0);
     let b : Bytes := (owlBody 3 1 0); let s : State := (prO 2); let u : State := (prU 3 1 0 2);
     let v : State := pathHeard 0 u; owlTake 0 port data owlTakeover s = (some b, u) ∧ fromPeer b u = true ∧
     beN b 32 4 ≤ v.pair.epoch) ∧
    (let path : Nat := 0; let port : Nat := 0; let data : Bytes := (owlBody 4 1 0);
     let b : Bytes := (owlBody 4 1 0); let s : State := (prO 2); let u : State := (prU 4 1 0 2);
     owlTake path port data owlBeacon s = (some b, u)) ∧
    (let s : State := (prS { formedP with pathA := true, pathB := true }); owlWatches s = true ∧
     s.pair.pathA = true ∧ s.pair.pathB = true) ∧
    (let s : State := (prS { formedP with pathA := true }); owlWatches s = true ∧ s.pair.pathA = true ∧
     s.pair.pathB = false ∧ s.pair.state = 2) ∧
    (let s : State := (prS { formedP with pathA := true, state := 3, verKey := some [] }); owlWatches s = true ∧
     s.pair.pathA = true ∧ s.pair.pathB = false ∧ s.pair.state = 3 ∧ s.pair.verKey.isSome = true) ∧
    (let s : State := { prS { formedP with pathA := true, state := 3, goodResp := some 1 } with time := { tb := [(0, { state := .enabled, count := 5000001 })] } };
     let t : Nat := 1; owlWatches s = true ∧ s.pair.goodResp = some t ∧ t + 1000000 * s.pair.cfg.respMs ≤ now s ∧
     (s.pair.pathA = true ∨ s.pair.pathB = true) ∧ s.pair.state = 3 ∧ s.pair.taking = false) ∧
    (let s : State := { prS { formedP with pathB := true, goodResp := some 1 } with time := { tb := [(0, { state := .enabled, count := 5000001 })] } };
     let t : Nat := 1; owlWatches s = true ∧ s.pair.goodResp = some t ∧ t + 1000000 * s.pair.cfg.respMs ≤ now s ∧
     (s.pair.pathA = true ∨ s.pair.pathB = true) ∧ s.pair.state = 2 ∧ s.pair.degraded = false) := by
  refine ⟨?_, ?_, ?_, ?_, ⟨by decide +kernel, by decide +kernel, hello_other _ rfl⟩,
    ⟨by decide +kernel, by decide +kernel, hello_same _ _ rfl rfl, rfl⟩,
    ⟨by decide +kernel, by decide +kernel, hello_same _ _ rfl rfl, rfl⟩,
    ⟨rfl, rfl, rfl, rfl, rfl, by decide +kernel, by decide +kernel, not_devId (by decide +kernel), by decide +kernel, owlWrong_tag⟩,
    ⟨rfl, rfl, rfl, rfl, rfl, by decide +kernel, by decide +kernel, not_devId (by decide +kernel), by decide +kernel, owlTag_fits 1 2 0 (by decide +kernel), by decide +kernel⟩,
    ⟨owl_takes 2 1 0 3 (by decide +kernel) (by decide +kernel) (by decide +kernel) (by decide +kernel), by decide +kernel⟩,
    ⟨owl_takes 3 1 9 2 (by decide +kernel) (by decide +kernel) (by decide +kernel) (by decide +kernel), by decide +kernel, by decide +kernel⟩,
    ⟨owl_takes 3 1 0 2 (by decide +kernel) (by decide +kernel) (by decide +kernel) (by decide +kernel), by decide +kernel, by decide +kernel⟩,
    owl_takes 4 1 0 2 (by decide +kernel) (by decide +kernel) (by decide +kernel) (by decide +kernel),
    ?_, ?_, ?_, ?_, ?_⟩ <;> (try dsimp only) <;> and_intros <;>
    first | exact ⟨7, rfl⟩ | exact Or.inr rfl | decide +kernel | exact rfl

/-- Values that meet the premises of ThePairActsOnEvents, clause by clause. -/
theorem meets_ThePairActsOnEvents :
    (let s : State := (prT { prD 3 with taking := true, epoch := 4 } { state := 3, gated := true });
     s.pair.taking = true) ∧
    (let s : State := (prS { prD 4 with repeats := 9 }); s.pair.state = 4 ∧ 0 < s.pair.repeats) ∧
    (let s : State := (prS { prD 4 with genKey := some [] }); (s.pair.state = 2 ∨ s.pair.state = 4) ∧
     s.sleep.asleep = false) ∧
    (let s : State := (prS (prD 1)); s.pair.fenceIn = false ∧ s.pair.cfg.en = true ∧ s.sleep.asleep = false) ∧
    (let s : State := (prS { prD 5 with fencing := true }); s.pair.fencing = true) ∧
    (let s : State := (prS formedP); s.pair.state = 2 ∧ dieshUp s = true ∧ s.pair.link = true ∧
     s.pair.owlOff = false ∧ s.sleep.asleep = false) ∧
    (let s : State := (prS { formedP with inSync := true }); (s.pair.state = 2 ∨ s.pair.state = 3) ∧
     s.pair.inSync = true) ∧
    (let s : State := (ask 0 0x0C02 0 [] (prS { formedP with handover := some 0 })); let m : Nat := 0;
     s.pair.handover = some m) ∧
    (let s : State := (prT (prD 3) { state := 2, gated := true, target := 1 }); let target : Nat := 2;
     pairTalks s = true ∧ s.pair.state = 3 ∧ s.sleep.state = 2 ∧ s.sleep.entry = Entry.none ∧ s.pair.taking = false) ∧
    (let s : State := (prT formedP { nm := { pairWait := true, coord := true, state := 3 } });
     s.sleep.nm.pairWait = true ∧ coordRuns s = true) ∧
    (let s : State := (prT formedP { nm := { pairWait := true, coord := true, state := 3 } });
     s.sleep.nm.pairWait = true) ∧
    (let s : State := (prT formedP { net := true, entry := .save, state := 1, target := 2 }); pairTalks s = true ∧
     s.sleep.net = true ∧ (s.sleep.entry = Entry.drain ∨ s.sleep.entry = Entry.save)) ∧
    (let s : State := (prT { prD 1 with awaiting := true, slept := 2 } { state := 2, gated := true, target := 1 });
     s.pair.awaiting = true ∧ s.pair.slept = 2 ∧ s.pair.state = 1 ∧ s.pair.heard = false) ∧
    (let s : State := (prS { formedP with fenceOut := true }); pairTalks s = true ∧ s.pair.state ≠ 0) ∧
    (let s : State := (prS formedP); let data : Bytes := (par 24 [1]); pairTalks s = true) ∧
    (let s : State := (prS { formedP with ckptSeq := 6 });
     let data : Bytes := (par 24 [2, 0, 4, 0, 0, 0, 0, 0, 0, 0, 0, 0, 0, 0, 0, 0, 6]); pairTalks s = true ∧
     u8 data 0 = 2 ∧ u8 data 1 = stOk ∧ u16 data 2 = 4) ∧
    (let n : Nat := 2047; let s : State := (frerS { takeAny := false }); let b : Bytes := streamOf (activeSet s) n;
     let x : FrerState := frerState n s; isRecover (activeSet s) n = true ∧ x.takeAny = false ∧
     x.lastPass + 1000000 * u16 b 4 < now s) ∧
    (let n : Nat := 2047; let s : State := (frerS { passed := 17 }); let b : Bytes := streamOf (activeSet s) n;
     let x : FrerState := frerState n s; isRecover (activeSet s) n = true ∧ bit b 0 5 = true ∧
     u32 b 8 + x.discarded < x.passed * (u8 b 6 - 1)) ∧
    (let n : Nat := 2047; let s : State := (frerS { passed := 16 }); let b : Bytes := streamOf (activeSet s) n;
     let x : FrerState := frerState n s; isRecover (activeSet s) n = true ∧
     x.passed * (u8 b 6 - 1) ≤ u32 b 8 + x.discarded) ∧
    (let bad : Nat := 0; let mask : Nat := 31; let s : State := up; dieshUp s = true ∧ s.sleep.asleep = false) ∧
    (let bad : Nat := 2; let mask : Nat := 31; let s : State := (prS { ctlCopies := 2 });
     let ts : List Nat := faultsNow s.pair.mismatches 10000000000 s; dieshUp s = true ∧ s.sleep.asleep = false ∧
     (3 ≤ ts.length ∨ s.pair.ctlCopies ≤ bad)) ∧
    (let bad : Nat := 1; let mask : Nat := 31; let s : State := (prS { ctlCopies := 2 });
     let ts : List Nat := faultsNow s.pair.mismatches 10000000000 s; dieshUp s = true ∧ s.sleep.asleep = false ∧
     ts.length < 3 ∧ bad < s.pair.ctlCopies ∧ s.pair.wiped = none) := by
  and_intros <;> (try dsimp only) <;> and_intros <;>
    first | exact ⟨7, rfl⟩ | exact Or.inr rfl | decide +kernel | exact rfl

/-- Values that meet the premises of PairCommandsAnswer, clause by clause. -/
theorem meets_PairCommandsAnswer :
    (let mb : Nat := 1; let p : Bytes := (par 16 [0]); let s : State := (ask 1 0x0C00 0 (par 16 [0]) up);
     List.length p = 16 ∧ u8 p 0 = 0 ∧ Served mb 3072 0 p s) ∧
    (let mb : Nat := 0; let p : Bytes := pcP; let s : State := pcS; List.length p = 16 ∧ u8 p 0 = 1 ∧ u8 p 2 < 64 ∧
     u8 p 3 < 8 ∧ u8 p 12 < 240 ∧ u8 p 13 < 240 ∧ s.pair.state ≠ 2 ∧ s.pair.state ≠ 3 ∧ u8 p 2 ≠ devId ∧
     owlSlotOk (u8 p 12) 5 s = true ∧ owlSlotOk (u8 p 13) 6 s = true ∧ Served 0 3072 0 p s) ∧
    (let mb : Nat := 0; let p : Bytes := (par 16 [2]); let s : State := (ask 0 0x0C00 0 (par 16 [2]) (prS formedP));
     List.length p = 16 ∧ u8 p 0 = 2 ∧ s.pair.state ≠ 0 ∧ Served 0 3072 0 p s) ∧
    (let mb : Nat := 2; let s : State := (ask 2 0x0C01 0 [] (prS formedP)); Served mb 3073 0 [] s) ∧
    (let mb : Nat := 4;
     let s : State := (ask 4 0x0C05 0 [] { prS formedP with svc := { session := some 1, rights := 7 } });
     Served mb 3077 0 [] s) ∧
    (let s : State := (ask 0 0x0C02 0 [] syncS); s.pair.handover ≠ some 0 ∧ s.pair.state = 2 ∧
     s.pair.inSync = true ∧ Option.map (fun x ↦ x.gen) s.pair.acked = some s.sets.gen ∧ s.pair.degraded = false ∧
     Served 0 3074 0 [] s) ∧
    (let s : State := (ask 0 0x0C02 0 [] up); s.pair.handover ≠ some 0 ∧ s.pair.state ≠ 2 ∧ Served 0 3074 0 [] s) ∧
    (let mb : Nat := 3; let p : Bytes := (par 4 [0]); let s : State := (ask 3 0x0C03 0 (par 4 [0]) (prS formedP));
     List.length p = 4 ∧ (mb = 0 ∨ mb = 2 ∨ mb = 3) ∧ u8 p 0 = 0 ∧ Served mb 3075 0 p s) ∧
    (let mb : Nat := 2; let p : Bytes := (par 4 [1]); let s : State := (ask 2 0x0C03 0 (par 4 [1]) (prS (prD 5)));
     List.length p = 4 ∧ (mb = 0 ∨ mb = 2 ∨ mb = 3) ∧ u8 p 0 = 1 ∧ s.pair.state = 5 ∧ s.pair.fenceIn = false ∧
     Served mb 3075 0 p s) ∧
    (let t : Nat := 0; let p : Bytes := ckP; let s : State := (ask 3 0x0C04 0 ckP (prS (prD 3)));
     8 ≤ List.length p ∧ List.length p ≤ 3568 ∧ s.pair.state = 3 ∧ Served 3 3076 t p s) ∧
    (let n : Nat := 167; let p : Bytes := lgP; let s : State := (ask 0 0x0C06 1 lgP up); List.length p = 9 ∧
     u8 p 0 = n ∧ 136 ≤ n ∧ n < 168 ∧ u8 p 1 ≤ 3 ∧ ShadowFree 0 s ∧ Served 0 3078 1 p s) ∧
    (let n : Nat := 136; let p : Bytes := (par 9 [136]); let s : State := (ask 0 0x0C06 0 (par 9 [136]) up);
     List.length p = 9 ∧ u8 p 0 = n ∧ 136 ≤ n ∧ n < 168 ∧ 0 < 5 ∧ Served 0 3078 0 p s) ∧
    (let n : Nat := 2047; let p : Bytes := fsP; let s : State := (ask 0 0x0C07 0 fsP up); List.length p = 20 ∧
     u16 p 0 = n ∧ n < 2048 ∧ 0 < 5 ∧ Served 0 3079 0 p s) ∧
    (let n : Nat := 2047; let p : Bytes := fsP; let s : State := (ask 0 0x0C07 1 fsP up); List.length p = 20 ∧
     u16 p 0 = n ∧ n < 2048 ∧ ShadowFree 0 s ∧ Served 0 3079 1 p s) ∧
    (let a : Nat := 8191; let n : Nat := 1; let p : Bytes := fbP; let s : State := (ask 0 0x0C08 0 fbP up);
     u16 p 0 = a ∧ u16 p 2 = n ∧ 1 ≤ n ∧ n ≤ 256 ∧ List.length p = 4 + 2 * n ∧ a + n ≤ 8192 ∧ 0 < 5 ∧
     Served 0 3080 0 p s) ∧
    (let a : Nat := 8191; let n : Nat := 1; let p : Bytes := fbP;
     let s : State := (ask 0 0x0C08 1 fbP { up with sets := { gen := 1, b := { streams := [(2047, par 16 [1])] } } });
     let v : Nat → Nat := fun i ↦ u16 p (4 + 2 * i) % 2048 + 32768 * b2n ((u16 p (4 + 2 * i)).testBit 15);
     u16 p 0 = a ∧ u16 p 2 = n ∧ 1 ≤ n ∧ n ≤ 256 ∧ List.length p = 4 + 2 * n ∧ a + n ≤ 8192 ∧
     ((List.range n).any fun i ↦ (v i).testBit 15 && !bit (streamOf (shadowSet s) (v i % 2048)) 0 0) = false ∧
     ShadowFree 0 s ∧ Served 0 3080 1 p s) ∧
    (let mb : Nat := 0; let p : Bytes := fcP; let s : State := (ask 0 0x0C09 0 fcP up); List.length p = 10 ∧
     u8 p 0 = 0 ∧ u32 p 4 < 2048 ∧ (bit p 1 0 = false ∨ mb = 0) ∧ Served mb 3081 0 p s) ∧
    (let p : Bytes := (par 5 [255, 7, 1, 0, 0]); let s : State := (ask 0 0x0C0A 0 (par 5 [255, 7, 1, 0, 0]) up);
     List.length p = 5 ∧ u16 p 0 + u16 p 2 ≤ 2048 ∧ u8 p 4 = 0 ∧ Served 0 3082 0 p s) ∧
    (let p : Bytes := (par 5 [255, 7, 1, 0, 1]); let s : State := (ask 0 0x0C0A 0 (par 5 [255, 7, 1, 0, 1]) up);
     List.length p = 5 ∧ u16 p 0 + u16 p 2 ≤ 2048 ∧ u8 p 4 = 1 ∧ Served 0 3082 0 p s) := by
  refine ⟨?_,
    ⟨by decide +kernel, by decide +kernel, other_ok.1, by decide +kernel, by decide +kernel, by decide +kernel, by decide +kernel, by decide +kernel, other_ok.2, by decide +kernel, by decide +kernel, ⟨7, rfl⟩, by decide +kernel, by decide +kernel⟩,
    ?_, ?_, ?_, ?_, ?_, ?_, ?_, ?_, ?_, ?_, ?_, ?_, ?_, ?_, ?_, ?_, ?_⟩ <;> (try dsimp only) <;> and_intros <;>
    first | exact ⟨7, rfl⟩ | exact Or.inr rfl | decide +kernel | exact rfl

theorem getD_fits {α β : Type} (o : Option (α × β)) (d : α × β) (h : o.isSome = true) :
    o = some ((o.getD d).1, (o.getD d).2) := by cases o with
  | none => simp at h
  | some x => rfl
def chX : Copy := { len := 64, egress := 130, queue := 673, cells := 1, gen := 1, ingress := 31 }
def chV (b : Bytes) : VFrame := { frame := { bytes := b, port := 31, gen := 1, ts := [5] }, refs := 2, staged := false, cells := [0] }
def chEth : Bytes := par 14 [1, 2, 3, 4, 5, 6, 7, 8, 9, 10, 11, 12, 136, 182]
def chKeys : Tbl Slot := [(0, { status := 1, key := par 16 [1], attr := 5 + 2 ^ 10 }), (1, { status := 1, key := par 16 [1], attr := 6 + 2 ^ 10 })]
/-- A device with a chain frame of a neighbour on port 31 in queue 673. -/
def chainS (b : Bytes) (z : Update) : State :=
  { up with
    vat := { nextFid := 1, frames := [(0, chV (chEth ++ b))], queues := [(673, { copies := [chX] })] }
    time := { tb := [(1, { state := .enabled, count := 5 })] }, cellar := { slots := chKeys }, flash := { bank1 := { state := 3 } }, upd := z }
/-- A manifest of one part of 16 bytes and package 7, in force. -/
def chMf : Bytes := par 12 [0, 0, 0, 0, 0, 0, 0, 0, 1] ++ par 56 [7] ++ par 108 [16, 0, 0, 0, 1]
def chU (up : Nat) : Update := { state := 1, manifest := chMf, chain := { upstream := up, verSlot := 1 } }
def got (k : Nat) (s : State) : Bytes × State := (takeChain 31 k s).getD ([], s)
/-- A chain frame of package 7: kind, part, block, length, offset, then its body. -/
def chB (kind part blk l off seq : Nat) : Bytes :=
  par 12 [1, kind, 9, part, 0, 0, 0, 0, 0, 0, 0, 7] ++ par 12 [blk, blk, 0, l, 0, 0, 0, off, 0, 0, 0, seq]
def recS : State := chainS (chB 6 255 0 16 0 0 ++ par 16 [1]) (chU 31)
def pieS (h : List Nat) : State := chainS (chB 6 0 255 16 0 0 ++ par 16 [1]) { chU 31 with have_ := h }
def ackS : State := chainS (chB 7 0 3 0 0 0) { chU 30 with chain := { downstream := 0x80000000 }, queue := [{ part := 0, block := 771, data := par 16 [1], ports := [31], sent := [(31, 1)] }] }
def resend (n : Nat) : RelayItem := { part := 1, block := 255, data := par 16 [1], ports := [31, 7], sent := [(31, n)] }
def retS (n : Nat) : State := { up with upd := { chain := { downstream := 0x80000080 }, queue := [resend n] } }
def chT (h : Bytes) : Bytes := h ++ cmac (par 16 [1]) h
def chW (b : Bytes) (z : Update) : State :=
  releaseRef 0 (setVatQueue 673 { vatQueue 673 (chainS b z) with copies := [] } (emit (.toVintner (chEth ++ b)) (chainS b z)))
theorem u8_eth (b : Bytes) (i : Nat) : u8 (chEth ++ b) (14 + i) = u8 b i := by
  have h : chEth.length = 14 := by decide +kernel
  unfold u8
  rw [List.getD_eq_getElem?_getD, List.getElem?_append_right (by omega), h, Nat.add_sub_cancel_left, ← List.getD_eq_getElem?_getD]
theorem chain_takes (k : Nat) (b : Bytes) (z : Update) (h0 : u8 b 0 = 1) (h1 : u8 b 1 = k) (hk : 7 ≤ k ∧ k ≤ 12) :
    takeChain 31 k (chainS b z) = some (b, chW b z) := by
  have hq : vatQueue 673 (chainS b z) = { copies := [chX] } := rfl
  have hb : copyBytes chX (chainS b z) = chEth ++ b := rfl
  have he : beN (chEth ++ b) 12 2 = 0x88B6 := by
    have e (i : Nat) (hi : i < 14) : u8 (chEth ++ b) i = u8 chEth i := by
      have h : chEth.length = 14 := by decide +kernel
      unfold u8; rw [List.getD_eq_getElem?_getD, List.getElem?_append_left (by omega), ← List.getD_eq_getElem?_getD]
    simp only [beN, e 12 (by decide), e 13 (by decide)]; decide +kernel
  have a0 : u8 (chEth ++ b) 14 = 1 := by rw [← h0]; exact u8_eth b 0
  have a1 : u8 (chEth ++ b) 15 = k := by rw [← h1]; exact u8_eth b 1
  have hd : (chEth ++ b).drop 14 = b := List.drop_left' (by decide +kernel)
  unfold takeChain
  have hx : chX.ingress = 31 := rfl
  have hf : chX.fid = 0 := rfl
  simp [hq, takeFirst, hb, he, a0, a1, hk, hd, chW, hx, hf]
theorem control_takes (k : Nat) (h : Bytes) (z : Update) (h0 : u8 (chT h) 0 = 1) (h1 : u8 (chT h) 1 = k) (hk : 7 ≤ k ∧ k ≤ 12)
    (hz : z.chain.verSlot = 1) (hl : 24 + chLen (chT h) = h.length) (h16 : (cmac (par 16 [1]) h).length = 16) :
    takeControl 31 k (chainS (chT h) z) = (some (chT h), { chW (chT h) z with flash := { bank1 := { state := 3 }, lastSeq := Tbl.set [] (chDev (chT h)) (chSeq (chT h) + 1) 0 } }) := by
  have hc : chainKey (chW (chT h) z).upd.chain.verSlot 6 (chW (chT h) z) = some (par 16 [1]) := by
    show chainKey z.chain.verSlot 6 (chW (chT h) z) = _
    rw [hz]
    have hs : (chW (chT h) z).cellar = { slots := chKeys } := rfl
    simp only [chainKey, slotCheck, slotOf, hs]; decide +kernel
  have ht : (chT h).length = h.length + 16 := by simp [chT, h16]
  have hp : (chT h).take h.length = h := List.take_left' rfl
  have hs : slice (chT h) h.length 16 = cmac (par 16 [1]) h := by
    have : (chT h).drop h.length = cmac (par 16 [1]) h := List.drop_left' rfl
    simp [slice, this, h16, zeros, List.take_of_length_le (Nat.le_of_eq h16)]
  have hw : (chT h).take (h.length + 16) = chT h := List.take_of_length_le (by omega)
  have hf : (chW (chT h) z).flash = { bank1 := { state := 3 } } := rfl
  unfold takeControl
  rw [chain_takes k _ z h0 h1 hk]
  simp [hl, hc, hp, hs, ht, hw, hf, Tbl.get]
def ctlU (h : Bytes) (z : Update) : State :=
  { chW (chT h) z with flash := { bank1 := { state := 3 }, lastSeq := Tbl.set [] (chDev (chT h)) (chSeq (chT h) + 1) 0 } }
theorem ctl_down (m : Nat) (p h : Bytes) (z : Update) (hz : z.chain.downstream = 0) : relayDown m p (ctlU h z) = ctlU h z := by
  have hd : downPorts (ctlU h z) = [] := by
    show bitsOf 32 z.chain.downstream.toNat = []
    rw [hz]; decide
  unfold relayDown; split
  · rw [hd]; rfl
  · rfl
theorem mask_all (n : Nat) (h : n = 18446744073709551615) : n.testBit devId = true := by
  subst h; rw [show 18446744073709551615 = 2 ^ 64 - 1 from rfl, Nat.testBit_two_pow_sub_one]; simpa using devId_lt
theorem judge_of (pkg mask t n : Nat) (s : State) (h1 : s.upd.state = 2) (h2 : pkg = updPkg s) (h3 : mask.testBit devId = true)
    (h4 : tbEnabled 1 s = true) (h5 : (if t < tbNow 1 s + 200000000 then 1 else 0) = n) : armJudge pkg mask t s = n := by
  rw [← h5]; simp [armJudge, h1, h2, h3, h4]
def armB (hi : Nat) : Bytes := chB 8 0 0 20 0 9 ++ par 20 [0, 0, hi, 0, 0, 0, 0, 0, 0, 0, 0, 99, 255, 255, 255, 255, 255, 255, 255, 255]
def armU : Update := { chU 31 with state := 2 }
def conB (k : Nat) : Bytes := chB k 0 0 8 0 9 ++ par 8 [255, 255, 255, 255, 255, 255, 255, 255]
def repU (c : Bool) : Update := { chU 30 with chain := { downstream := 0x80000000, verSlot := 1, coord := c, upstream := 30 } }
def staB : Bytes := chB 11 0 0 20 0 9 ++ par 20 [4, 1, 0, 0, 0, 0, 0, 99]
def cakB : Bytes := chB 12 0 0 6 0 9 ++ par 6 [8, 0, 0, 0, 9]
def updS (z : Update) : State :=
  { up with time := { tb := [(0, { state := .enabled, count := 600000000000 }), (1, { state := .enabled, count := 10000000000 })] }, flash := { bank0 := { state := 4 }, bank1 := { state := 3 } }, upd := z }
theorem missing (s : State) (d : Nat) (h : s.upd.state = 2) (hd : (devReport d s).state = 2) : devState d s ≠ 4 ∧ devState d s ≠ 5 := by
  unfold devState; split <;> simp [h, hd]
def incS : State := updS { state := 2, chain := { coord := true }, armT := 5000000000, armMask := 1, devs := [(0, { state := 2 })] }
def mfP (last : Nat) : Bytes := par 12 [0, 15, last, 0, 16, 0, 0, 0, 16]
def mfS (last : Nat) : State := ask 0 0x0D01 0 (mfP last) { up with test := { banks := [(15, { owner := 1, mem := [(16, 9)] })] } }
def judged : Nat × State := manifestStatus (Memory.readN [(16, 9)] 16 16) { mfS 1 with upd := { (mfS 1).upd with draft := {} } }
def pdP (blk off n : Nat) : Bytes := par 20 [0, 0, 15, 0, blk, blk, 0, 0, off, 0, 0, 0, n]
def pdS (p : Bytes) : State := ask 0 0x0D02 0 p { up with test := { banks := [(15, { owner := 1, mem := [(3, 9)] })] }, upd := chU 255 }
def pieced (blk off n : Nat) : Nat × State := pieceBytes 0 (257 * blk) off (Memory.readN [(3, 9)] 0 n) (pdS (pdP blk off n))
def chnP : Bytes := par 12 [1, 31, 0, 7, 1, 1, 1, 64, 0, 1]
def armP : Bytes := par 24 [0, 0, 0, 0, 0, 0, 0, 0, 0, 1]
def soloS (z : Update) : State := { updS z with svc := { session := some 1, rights := 7 } }
def tokS (p : Bytes) : State := ask 4 0x0005 0 p { up with boot := { stage := 6, count := 1, found := true } }
def tokP : Bytes := par 8 [83, 86, 84, 75, 1, 0, 0, 7] ++ (b8 Config.serialNumber.toNat ++ par 3453 [1, 0, 0, 0, 44, 1])
theorem tokP_serial : u64 tokP 8 = Config.serialNumber.toNat := by
  have h : u64 tokP 8 = leN (b8 Config.serialNumber.toNat) 0 8 := rfl
  have hn := Config.serialNumber.isLt
  rw [h]
  generalize Config.serialNumber.toNat = n at hn ⊢
  simp [leN, u8, b8, le]
  omega

/-- Values that meet the premises of FieldUpdateRuns, clause by clause. -/
theorem meets_FieldUpdateRuns :
    (let port : Nat := 31; let p : Bytes := (got 6 recS).1; let s : State := recS; let u : State := (got 6 recS).2;
     takeChain port 6 s = some (p, u) ∧ u.upd.chain.upstream = port ∧ u8 p 0 = 1 ∧ chKind p = 6 ∧
     24 + chLen p ≤ List.length p ∧ chLen p ≤ 1440 ∧ chPart p = 255) ∧
    (let port : Nat := 31; let p : Bytes := (got 6 (pieS [65535])).1; let s : State := (pieS [65535]);
     let u : State := (got 6 (pieS [65535])).2; let part : Nat := 0; let block : Nat := 65535;
     takeChain port 6 s = some (p, u) ∧ u.upd.chain.upstream = port ∧ u8 p 0 = 1 ∧ chKind p = 6 ∧
     24 + chLen p ≤ List.length p ∧ chLen p ≤ 1440 ∧ chPart p = part ∧ part ≠ 255 ∧ chBlock p = block ∧
     chPkg p = updPkg u ∧ 1 ≤ u.upd.state ∧ u.upd.state ≠ 6 ∧ pieceExists u.upd.manifest part block = true ∧
     chOff p + chLen p ≤ pieceLen u.upd.manifest part block ∧ u.upd.have_.contains (65536 * part + block) = true) ∧
    (let port : Nat := 31; let p : Bytes := (got 6 (pieS [])).1; let s : State := (pieS []);
     let u : State := (got 6 (pieS [])).2; let part : Nat := 0; let block : Nat := 65535;
     let k : Nat := (pieceBytes 0 65535 0 (par 16 [1]) (got 6 (pieS [])).2).1;
     let v : State := (pieceBytes 0 65535 0 (par 16 [1]) (got 6 (pieS [])).2).2; takeChain port 6 s = some (p, u) ∧
     u.upd.chain.upstream = port ∧ u8 p 0 = 1 ∧ chKind p = 6 ∧ 24 + chLen p ≤ List.length p ∧ chLen p ≤ 1440 ∧
     chPart p = part ∧ part ≠ 255 ∧ chBlock p = block ∧ chPkg p = updPkg u ∧ 1 ≤ u.upd.state ∧ u.upd.state ≠ 6 ∧
     pieceExists u.upd.manifest part block = true ∧ chOff p + chLen p ≤ pieceLen u.upd.manifest part block ∧
     u.upd.have_.contains (65536 * part + block) = false ∧ relayFull u = false ∧
     pieceBytes part block (chOff p) (slice p 24 (chLen p)) u = (k, v)) ∧
    (let port : Nat := 31; let p : Bytes := (got 7 ackS).1; let s : State := ackS; let u : State := (got 7 ackS).2;
     takeChain port 7 s = some (p, u) ∧ u.upd.chain.downstream.getLsbD port = true ∧ chPkg p = updPkg u) ∧
    (let port : Nat := 31; let part : Nat := 1; let block : Nat := 255; let x : RelayItem := (resend 9);
     let s : State := (retS 9);
     List.find? (fun x ↦ samePiece part block x && x.ports.contains port && decide (0 < sentOn x port)) s.upd.queue = some x ∧
     sentOn x port < 10) ∧
    (let port : Nat := 31; let part : Nat := 1; let block : Nat := 255; let x : RelayItem := (resend 10);
     let s : State := (retS 10);
     List.find? (fun x ↦ samePiece part block x && x.ports.contains port && decide (0 < sentOn x port)) s.upd.queue = some x ∧
     10 ≤ sentOn x port) ∧
    (let port : Nat := 31; let p : Bytes := (chT (armB 1)); let s : State := (chainS (chT (armB 1)) armU);
     let u : State := (ctlU (armB 1) armU); let v : State := relayDown (beN p 36 8) p u;
     u.upd.chain.upstream = port ∧ takeControl port 8 s = (some p, u) ∧ v.upd.state ≠ 3 ∧
     armJudge (chPkg p) (beN p 36 8) (beN p 24 8) v = 0) ∧
    (let port : Nat := 31; let p : Bytes := (chT (armB 0)); let s : State := (chainS (chT (armB 0)) armU);
     let u : State := (ctlU (armB 0) armU); let v : State := relayDown (beN p 36 8) p u;
     u.upd.chain.upstream = port ∧ takeControl port 8 s = (some p, u) ∧ v.upd.state ≠ 3 ∧
     armJudge (chPkg p) (beN p 36 8) (beN p 24 8) v = 1) ∧
    (let port : Nat := 31; let p : Bytes := (chT (conB 9));
     let s : State := (chainS (chT (conB 9)) { chU 31 with state := 5 });
     let u : State := (ctlU (conB 9) { chU 31 with state := 5 }); let v : State := relayDown (beN p 24 8) p u;
     let n : Nat := 1; u.upd.chain.upstream = port ∧ takeControl port 9 s = (some p, u) ∧
     (beN p 24 8).testBit devId = true ∧ chPkg p = updPkg v ∧ inTrial v = true ∧ bankIn 3 v = some n) ∧
    (let port : Nat := 31; let p : Bytes := (chT (conB 10));
     let s : State := (chainS (chT (conB 10)) { chU 31 with state := 3 });
     let u : State := (ctlU (conB 10) { chU 31 with state := 3 }); let v : State := relayDown (beN p 24 8) p u;
     u.upd.chain.upstream = port ∧ takeControl port 10 s = (some p, u) ∧ (beN p 24 8).testBit devId = true ∧
     chPkg p = updPkg v ∧ (v.upd.state = 3 ∨ inTrial v = true)) ∧
    (let port : Nat := 31; let p : Bytes := (chT staB); let s : State := (chainS (chT staB) (repU true));
     let u : State := (ctlU staB (repU true)); u.upd.chain.downstream.getLsbD port = true ∧
     takeControl port 11 s = (some p, u) ∧ u.upd.chain.coord = true) ∧
    (let port : Nat := 31; let p : Bytes := (chT staB); let s : State := (chainS (chT staB) (repU false));
     let u : State := (ctlU staB (repU false)); u.upd.chain.downstream.getLsbD port = true ∧
     takeControl port 11 s = (some p, u) ∧ u.upd.chain.coord = false) ∧
    (let port : Nat := 31; let p : Bytes := (chT cakB); let s : State := (chainS (chT cakB) (repU true));
     let u : State := (ctlU cakB (repU true)); u.upd.chain.downstream.getLsbD port = true ∧
     takeControl port 12 s = (some p, u) ∧ u.upd.chain.coord = true ∧ u8 p 24 = 8) ∧
    (let port : Nat := 31; let p : Bytes := (chT cakB); let s : State := (chainS (chT cakB) (repU false));
     let u : State := (ctlU cakB (repU false)); u.upd.chain.downstream.getLsbD port = true ∧
     takeControl port 12 s = (some p, u) ∧ u.upd.chain.coord = false) ∧
    (let s : State := (updS { state := 2, chain := { coord := true } }); dieshUp s = true ∧ s.upd.state ≠ 0 ∧
     s.upd.state ≠ 6) ∧
    (let s : State := (updS { chain := { coord := true }, armWait := [5], armT := 10200000000 });
     s.upd.chain.coord = true ∧ s.upd.armWait ≠ [] ∧ tbEnabled 1 s = true ∧ tbNow 1 s + 200000000 ≤ s.upd.armT) ∧
    (let s : State := (updS { state := 3, t := 10000000000, restart := true }); s.upd.state = 3 ∧
     tbEnabled 1 s = true ∧ s.upd.t ≤ tbNow 1 s ∧ s.upd.restart = true) ∧
    (let s : State := { updS { state := 3, t := 10000000000 } with sets := { gen := 1, shadow := .armed } };
     s.upd.state = 3 ∧ tbEnabled 1 s = true ∧ s.upd.t ≤ tbNow 1 s ∧ s.upd.restart = false ∧ updSwap s = true) ∧
    (let s : State := (updS { state := 3, t := 10100000000, loadDue := true }); s.upd.state = 3 ∧
     s.upd.loadDue = true ∧ tbEnabled 1 s = true ∧ s.upd.t ≤ tbNow 1 s + 100000000) ∧
    (let s : State := (updS { state := 5, trialS := 600 }); inTrial s = true ∧
     s.upd.trialFrom + 1000000000 * s.upd.trialS ≤ now s) ∧
    (let s : State := (updS { chain := { coord := true }, confirming := true, confWait := [5, 6], devs := [(5, { state := 5, remain := 10, time := 2983850496 })] });
     let w : List Nat := List.filter (fun d ↦ windowRuns d s) s.upd.confWait; s.upd.chain.coord = true ∧
     s.upd.confirming = true ∧ w ≠ []) ∧
    (let s : State := incS; s.upd.chain.coord = true ∧ inTrial s = false ∧ tbEnabled 1 s = true ∧
     s.upd.armT + 5000000000 ≤ tbNow 1 s ∧ (∃ d, d ∈ maskDevs s.upd.armMask ∧ devState d s ≠ 4 ∧ devState d s ≠ 5)) ∧
    (let s : State := (updS { state := 1 }); s.upd.state = 1 ∧ s.upd.relay = false ∧ blocksTotal s ≤ blocksDone s ∧
     (∀ (i : Nat), i ∈ ownParts s → rootOf (bankPart (otherBank s) (partKind s.upd.manifest i) s) = partRoot s.upd.manifest i)) ∧
    (let s : State := (updS { state := 1 }); s.upd.state = 1 ∧ s.upd.relay = false ∧ blocksTotal s ≤ blocksDone s) := by
  refine ⟨⟨getD_fits _ _ (by decide +kernel), ?_⟩, ⟨getD_fits _ _ (by decide +kernel), ?_⟩,
    ⟨getD_fits _ _ (by decide +kernel), ?_⟩, ⟨getD_fits _ _ (by decide +kernel), ?_⟩, ?_,
    ?_,
    ⟨rfl, control_takes 8 (armB 1) armU (by decide +kernel) (by decide +kernel) (by decide +kernel) rfl (by decide +kernel) (by decide +kernel), by rw [ctl_down _ _ _ _ rfl]; decide +kernel, by rw [ctl_down _ _ _ _ rfl]; exact judge_of _ _ _ _ _ rfl (by decide +kernel) (mask_all _ (by decide +kernel)) rfl (by decide +kernel)⟩,
    ⟨rfl, control_takes 8 (armB 0) armU (by decide +kernel) (by decide +kernel) (by decide +kernel) rfl (by decide +kernel) (by decide +kernel), by rw [ctl_down _ _ _ _ rfl]; decide +kernel, by rw [ctl_down _ _ _ _ rfl]; exact judge_of _ _ _ _ _ rfl (by decide +kernel) (mask_all _ (by decide +kernel)) rfl (by decide +kernel)⟩,
    ⟨rfl, control_takes 9 (conB 9) { chU 31 with state := 5 } (by decide +kernel) (by decide +kernel) (by decide +kernel) rfl (by decide +kernel) (by decide +kernel), mask_all _ (by decide +kernel), by rw [ctl_down _ _ _ _ rfl]; decide +kernel, by rw [ctl_down _ _ _ _ rfl]; decide +kernel, by rw [ctl_down _ _ _ _ rfl]; decide +kernel⟩,
    ⟨rfl, control_takes 10 (conB 10) { chU 31 with state := 3 } (by decide +kernel) (by decide +kernel) (by decide +kernel) rfl (by decide +kernel) (by decide +kernel), mask_all _ (by decide +kernel), by rw [ctl_down _ _ _ _ rfl]; decide +kernel, Or.inl (by rw [ctl_down _ _ _ _ rfl]; rfl)⟩,
    ⟨rfl, control_takes 11 staB (repU true) (by decide +kernel) (by decide +kernel) (by decide +kernel) rfl (by decide +kernel) (by decide +kernel), ?_⟩,
    ⟨rfl, control_takes 11 staB (repU false) (by decide +kernel) (by decide +kernel) (by decide +kernel) rfl (by decide +kernel) (by decide +kernel), ?_⟩,
    ⟨rfl, control_takes 12 cakB (repU true) (by decide +kernel) (by decide +kernel) (by decide +kernel) rfl (by decide +kernel) (by decide +kernel), ?_⟩,
    ⟨rfl, control_takes 12 cakB (repU false) (by decide +kernel) (by decide +kernel) (by decide +kernel) rfl (by decide +kernel) (by decide +kernel), ?_⟩,
    ?_, ?_, ?_, ?_, ?_, ?_, ?_,
    ⟨rfl, by decide +kernel, by decide +kernel, by decide +kernel, 0, by decide +kernel, missing _ _ rfl rfl⟩,
    ?_, ?_⟩ <;> (try dsimp only) <;> and_intros <;>
    first | exact ⟨7, rfl⟩ | exact Or.inr rfl | decide +kernel | exact rfl

/-- Values that meet the premises of UpdateCommandsAnswer, clause by clause. -/
theorem meets_UpdateCommandsAnswer :
    (let mb : Nat := 3; let s : State := (ask 3 0x0D00 0 [] up); Served mb 3328 0 [] s) ∧
    (let t : Nat := 0; let st : Nat := 0; let p : Bytes := (mfP 0); let s : State := (mfS 0); let v : State := up;
     List.length p = 12 ∧ u8 p 0 = 0 ∧ bankRange (u8 p 1) (u32 p 4) (u32 p 8) s = true ∧
     (s.upd.state < 3 ∨ s.upd.state = 6) ∧ Served 0 3329 t p s ∧ bit p 2 0 = false) ∧
    (let t : Nat := 0; let st : Nat := judged.1; let p : Bytes := (mfP 1); let s : State := (mfS 1);
     let v : State := judged.2; let b : Bank := bankOf (u8 p 1) s;
     let m : Bytes := Memory.readN b.mem (u32 p 4) (u32 p 8); List.length p = 12 ∧ u8 p 0 = 0 ∧
     bankRange (u8 p 1) (u32 p 4) (u32 p 8) s = true ∧ (s.upd.state < 3 ∨ s.upd.state = 6) ∧ Served 0 3329 t p s ∧
     bit p 2 0 = true ∧ u32 p 8 ≤ 65536 ∧ b.retired = false ∧ b.poison = [] ∧
     manifestStatus m { power := s.power, boot := s.boot, host := s.host, ctl := s.ctl, sets := s.sets, parse := s.parse, vat := s.vat, flow := s.flow, time := s.time, edge := s.edge, ports := s.ports, svc := s.svc, cellar := s.cellar, press := s.press, gw := s.gw, pair := s.pair, sleep := s.sleep, test := s.test, alarms := s.alarms, otp := s.otp, flash := s.flash, upd := have __src := s.upd;
     { chain := __src.chain, state := __src.state, fellBack := __src.fellBack, restart := __src.restart, manifest := __src.manifest, relay := __src.relay, solo := __src.solo, leaves := __src.leaves, asm := __src.asm, have_ := __src.have_, copied := __src.copied, queue := __src.queue, failed := __src.failed, t := __src.t, trialS := __src.trialS, mask := __src.mask, loadDue := __src.loadDue, fallDue := __src.fallDue, trialFrom := __src.trialFrom, devs := __src.devs, armT := __src.armT, armS := __src.armS, armMask := __src.armMask, armWait := __src.armWait, confirming := __src.confirming, confWait := __src.confWait }, out := s.out, fresh := s.fresh, pending := s.pending } = (st, v)) ∧
    (let t : Nat := 0; let k : Nat := (pieced 0 4 12).1; let p : Bytes := (pdP 0 4 12);
     let s : State := (pdS (pdP 0 4 12)); let v : State := (pieced 0 4 12).2; let b : Bank := bankOf (u8 p 2) s;
     List.length p = 20 ∧ u8 p 1 = 0 ∧ bankRange (u8 p 2) (u32 p 16) (u32 p 12) s = true ∧ s.upd.state = 1 ∧
     pieceExists s.upd.manifest (u8 p 0) (u16 p 4) = true ∧
     u32 p 8 + u32 p 12 ≤ pieceLen s.upd.manifest (u8 p 0) (u16 p 4) ∧ relayFull s = false ∧ b.retired = false ∧
     b.poison = [] ∧ pieceBytes (u8 p 0) (u16 p 4) (u32 p 8) (Memory.readN b.mem (u32 p 16) (u32 p 12)) s = (k, v) ∧
     Served 0 3330 t p s ∧ k ≠ 3) ∧
    (let t : Nat := 0; let k : Nat := (pieced 255 0 48).1; let p : Bytes := (pdP 255 0 48);
     let s : State := (pdS (pdP 255 0 48)); let v : State := (pieced 255 0 48).2; let b : Bank := bankOf (u8 p 2) s;
     List.length p = 20 ∧ u8 p 1 = 0 ∧ bankRange (u8 p 2) (u32 p 16) (u32 p 12) s = true ∧ s.upd.state = 1 ∧
     pieceExists s.upd.manifest (u8 p 0) (u16 p 4) = true ∧
     u32 p 8 + u32 p 12 ≤ pieceLen s.upd.manifest (u8 p 0) (u16 p 4) ∧ relayFull s = false ∧ b.retired = false ∧
     b.poison = [] ∧ pieceBytes (u8 p 0) (u16 p 4) (u32 p 8) (Memory.readN b.mem (u32 p 16) (u32 p 12)) s = (k, v) ∧
     Served 0 3330 t p s ∧ k = 3) ∧
    (let mb : Nat := 1; let p : Bytes := (par 12 [0]); let s : State := (ask 1 0x0D03 0 (par 12 [0]) up);
     List.length p = 12 ∧ u8 p 0 = 0 ∧ Served mb 3331 0 p s) ∧
    (let mb : Nat := 0; let p : Bytes := chnP;
     let s : State := (ask 0 0x0D03 0 chnP { up with cellar := { slots := chKeys } }); List.length p = 12 ∧
     u8 p 0 = 1 ∧ u8 p 1 < 32 ∧ u8 p 3 < 8 ∧ u8 p 8 < 240 ∧ u8 p 9 < 240 ∧ (s.upd.state = 0 ∨ s.upd.state = 6) ∧
     (bitsOf 32 (u32 p 4)).length ≤ 4 ∧ (u32 p 4).testBit (u8 p 1) = false ∧ bit p 2 0 = false ∧
     chainSlotOk (u8 p 8) 5 s = true ∧ chainSlotOk (u8 p 9) 6 s = true ∧ Served 0 3331 0 p s) ∧
    (let mb : Nat := 4; let p : Bytes := armP; let s : State := (ask 4 0x0D04 0 armP (soloS { state := 2 }));
     (mb = 0 ∨ mb = 4) ∧ u8 p 0 = 0 ∧ List.length p = 24 ∧ s.upd.chain.upstream = 255 ∧
     armJudge (updPkg s) (2 ^ devId) (u64 p 4) s = 0 ∧ Served mb 3332 0 p s) ∧
    (let mb : Nat := 4; let p : Bytes := (par 16 [0]);
     let s : State := (ask 4 0x0D05 0 (par 16 [0]) (soloS { state := 5 })); (mb = 0 ∨ mb = 4) ∧ u8 p 0 = 0 ∧
     List.length p = 16 ∧ inTrial s = true ∧ Served mb 3333 0 p s) ∧
    (let mb : Nat := 0; let p : Bytes := (par 16 [0]);
     let s : State := (ask 0 0x0D06 0 (par 16 [0]) (updS { state := 3 })); let t : Nat := 0; (mb = 0 ∨ mb = 4) ∧
     u8 p 0 = 0 ∧ List.length p = 16 ∧ (s.upd.state = 3 ∨ inTrial s = true) ∧ Served mb 3334 t p s) ∧
    (let mb : Nat := 1; let s : State := (ask 1 0x0D07 0 [] (updS { state := 3, chain := { coord := true } }));
     (mb = 0 ∨ mb = 1 ∨ mb = 4) ∧ s.upd.chain.coord = true ∧ Served mb 3335 0 [] s) ∧
    (let mb : Nat := 0; let s : State := (ask 0 0x0D07 0 [] (updS { state := 3 })); (mb = 0 ∨ mb = 1 ∨ mb = 4) ∧
     s.upd.chain.coord = false ∧ Served mb 3335 0 [] s) ∧
    (let t : Nat := 0; let p : Bytes := (par 3568 [1]); let s : State := (tokS (par 3568 [1])); 1 ≤ List.length p ∧
     List.length p ≤ 3568 ∧ s.otp.life ≠ 3 ∧ Served 4 5 t p s ∧
     (List.length p ≠ 3469 ∨ u32 p 0 ≠ 1263818323 ∨ u32 p 16 ≤ s.flash.tokenSeq)) ∧
    (let t : Nat := 0; let p : Bytes := tokP; let s : State := (tokS tokP); let k : Bytes := (zeros 2049);
     1 ≤ List.length p ∧ List.length p ≤ 3568 ∧ s.otp.life ≠ 3 ∧ Served 4 5 t p s ∧ List.length p = 3469 ∧
     u32 p 0 = 1263818323 ∧ u16 p 4 = 1 ∧ u8 p 6 ≤ 3 ∧ u64 p 8 = Config.serialNumber.toNat ∧
     s.flash.tokenSeq < u32 p 16 ∧ tokenKeys (u8 p 6) s = some k) := by
  refine ⟨?_, ?_,
    ⟨by decide +kernel, by decide +kernel, by decide +kernel, by decide +kernel, ⟨⟨7, rfl⟩, ?_⟩, by decide +kernel, by decide +kernel, by decide +kernel, by decide +kernel, rfl⟩,
    ?_, ?_, ?_, ?_,
    ⟨by decide +kernel, by decide +kernel, by decide +kernel, by decide +kernel, judge_of _ _ _ _ _ rfl rfl Nat.testBit_two_pow_self rfl (by decide +kernel), ⟨7, rfl⟩, ?_⟩,
    ?_, ?_, ?_, ?_, ?_,
    ⟨by decide +kernel, by decide +kernel, by decide +kernel, ⟨⟨7, rfl⟩, ?_⟩, by decide +kernel, by decide +kernel, by decide +kernel, by decide +kernel, tokP_serial, ?_⟩⟩ <;> (try dsimp only) <;> and_intros <;>
    first | exact ⟨7, rfl⟩ | exact Or.inr rfl | decide +kernel | exact rfl

def teS (t : Test) : State := { up with test := t }
def trR (sev : Nat) : TraceRec := { seq := 5, sev := sev }
def ft : FieldTest := { kind := 1, index := 47, mb := 2 }
def softS : State := { up with alarms := { soft := [{ memory := 3 }, { memory := 4, origin := 1, address := 9 }] }, otp := { fusesUsed := 15, life := 2 } }

/-- Values that meet the premises of MoleScratchTraceAndAlarmsRun, clause by clause. -/
theorem meets_MoleScratchTraceAndAlarmsRun :
    (let ce : Nat := 3; let ue : Nat := 0x80000001; let again : Bool := false;
     let s : State := (teS { moleBank := 17, moleRegion := 1023 }); s.test.moleEn = true ∧ coreRuns s = true) ∧
    (let ce : Nat := 3; let ue : Nat := 0x80000001; let again : Bool := true;
     let s : State := (teS { moleBank := 4, moleRegion := 7 }); s.test.moleEn = true ∧ coreRuns s = true) ∧
    (let ce : Nat := 3; let ue : Nat := 1; let fault : Bool := true; let again : Bool := false;
     let s : State := (teS { moleEn := false }); s.test.moleEn = false) ∧
    (let init : Nat := 2; let n : Nat := 14; let v : Nat := 3;
     let s : State := (teS { banks := [(14, { owner := 3 })] }); (bankOf n s).busy = false ∧
     (bankOf n s).retired = false ∧ (init = 4 ∨ init < 3 ∧ (bankOf n s).owner = init + 1 ∧ v % 8 < 4) ∧ v % 8 ≠ 0 ∧
     v.testBit 4 = false) ∧
    (let init : Nat := 0; let n : Nat := 0; let v : Nat := 0; let s : State := up; (bankOf n s).busy = false ∧
     (bankOf n s).retired = false ∧ (init = 4 ∨ init < 3 ∧ (bankOf n s).owner = init + 1 ∧ v % 8 < 4) ∧
     (v % 8 = 0 ∨ v.testBit 4 = true)) ∧
    (let init : Nat := 2; let n : Nat := 0; let v : Nat := 1; let s : State := up; init ≠ 4 ∧
     (bankOf n s).owner ≠ init + 1) ∧
    (let n : Nat := 15; let o : Nat := 6;
     let s : State := (teS { banks := [(15, { busy := true, zeroFor := some 6 })], traceBank := none });
     (bankOf n s).zeroFor = some o) ∧
    (let n : Nat := 15; let r : TraceRec := (trR 2); let rest : List TraceRec := [trR 1];
     let s : State := (teS { fifo := [trR 2, trR 1], wr := 16319 }); coreRuns s = true ∧ s.test.fifo = r :: rest ∧
     s.test.traceBank = some n ∧ unread s < traceLimit r.sev (2 ^ s.test.log2)) ∧
    (let n : Nat := 15; let r : TraceRec := (trR 2); let rest : List TraceRec := [trR 1];
     let s : State := (teS { fifo := [trR 2, trR 1], wr := 16320 }); coreRuns s = true ∧ s.test.fifo = r :: rest ∧
     s.test.traceBank = some n ∧ traceLimit r.sev (2 ^ s.test.log2) ≤ unread s) ∧
    (let init : Nat := 4; let v : Nat := 16385; let s : State := (teS { wr := 2 }); (init = 0 ∨ init = 4) ∧
     v % 16384 < 2 ^ s.test.log2 ∧ (v % 16384 + 2 ^ s.test.log2 - s.test.rd) % 2 ^ s.test.log2 ≤ unread s) ∧
    (let init : Nat := 0; let v : Nat := 3; let s : State := (teS { wr := 2 }); (init = 0 ∨ init = 4) ∧
     (2 ^ s.test.log2 ≤ v % 16384 ∨ unread s < (v % 16384 + 2 ^ s.test.log2 - s.test.rd) % 2 ^ s.test.log2)) ∧
    (let init : Nat := 4; let v : Nat := 0x20001;
     let s : State := { up with alarms := { status := 0x3FFFF, kinds := [(0, { count := 3 }), (5, { count := 1 })] } };
     (init = 0 ∨ init = 4) ∧ v < 2 ^ 18) ∧
    (let init : Nat := 3; let v : Nat := 1; let s : State := up; 1 ≤ init ∧ init ≤ 3) ∧
    (let init : Nat := 1; let v : Nat := 1; let s : State := up; 1 ≤ init ∧ init ≤ 3) := by
  and_intros <;> (try dsimp only) <;> and_intros <;>
    first | exact ⟨7, rfl⟩ | exact Or.inr rfl | decide +kernel | exact rfl

/-- Values that meet the premises of TestAndLogCommandsAnswer, clause by clause. -/
theorem meets_TestAndLogCommandsAnswer :
    (let mb : Nat := 2; let detail : Nat := 9; let pass : Bool := true; let p : Bytes := (par 4 [1, 47]);
     let s : State := (ask 2 0x0E00 0 (par 4 [1, 47]) up); (mb = 0 ∨ mb = 2) ∧ List.length p = 4 ∧
     testUnit (u8 p 0) (u8 p 1) = true ∧ s.test.field = none ∧ testRefused (u8 p 0) (u8 p 1) s = stOk ∧
     Served mb 3584 0 p s) ∧
    (let mb : Nat := 2; let detail : Nat := 9; let pass : Bool := true; let p : Bytes := (par 4 [1, 47]);
     let s : State := (ask 2 0x0E00 0 (par 4 [1, 47]) (teS { field := some ft })); let t : FieldTest := ft;
     (mb = 0 ∨ mb = 2) ∧ List.length p = 4 ∧ testUnit (u8 p 0) (u8 p 1) = true ∧ s.test.field = some t ∧ t.mb = mb ∧
     pass = true ∧ Served mb 3584 0 p s) ∧
    (let mb : Nat := 2; let detail : Nat := 9; let pass : Bool := false; let p : Bytes := (par 4 [1, 47]);
     let s : State := (ask 2 0x0E00 0 (par 4 [1, 47]) (teS { field := some ft })); let t : FieldTest := ft;
     (mb = 0 ∨ mb = 2) ∧ List.length p = 4 ∧ testUnit (u8 p 0) (u8 p 1) = true ∧ s.test.field = some t ∧ t.mb = mb ∧
     pass = false ∧ Served mb 3584 0 p s) ∧
    (let mb : Nat := 3; let s : State := (ask 3 0x0E01 0 [] up); Served mb 3585 0 [] s) ∧
    (let mb : Nat := 1; let s : State := (ask 1 0x0E02 0 [] up); Served mb 3586 0 [] s) ∧
    (let p : Bytes := (par 4 [1]); let x : Repair := { memory := 4, origin := 1, address := 9 };
     let s : State := (ask 0 0x0E03 0 (par 4 [1]) softS); List.length p = 4 ∧ s.alarms.soft[u16 p 0]? = some x ∧
     x.candidate = false ∧ s.otp.fusesUsed < 16 ∧ s.otp.life ≠ 3 ∧ Served 0 3587 0 p s) ∧
    (let p : Bytes := (par 4 [1]); let x : Repair := { memory := 4, origin := 1, address := 9 };
     let s : State := (ask 0 0x0E03 0 (par 4 [1]) softS); let t : Nat := 0; List.length p = 4 ∧
     s.alarms.soft[u16 p 0]? = some x ∧ x.candidate = false ∧ s.otp.fusesUsed < 16 ∧ s.otp.life ≠ 3 ∧
     Served 0 3587 t p s) ∧
    (let mb : Nat := 2; let p : Bytes := (par 4 [14]); let s : State := (ask 2 0x0E04 0 (par 4 [14]) up);
     let n : Nat := u8 p 0; let b : Bank := bankOf n s; mb < 3 ∧ List.length p = 4 ∧ u8 p 0 < 16 ∧ b.busy = false ∧
     b.retired = false ∧ u8 p 1 = 0 ∧ b.owner = 0 ∧ bit p 3 0 = false ∧ Served mb 3588 0 p s) ∧
    (let mb : Nat := 2; let p : Bytes := (par 4 [0]); let s : State := (ask 2 0x0E04 0 (par 4 [0]) up);
     let n : Nat := u8 p 0; let b : Bank := bankOf n s; mb < 3 ∧ List.length p = 4 ∧ u8 p 0 < 16 ∧ b.busy = false ∧
     b.retired = false ∧ u8 p 1 = 0 ∧ b.owner ≠ 0 ∧ Served mb 3588 0 p s) ∧
    (let mb : Nat := 0; let p : Bytes := (par 4 [0, 1]); let s : State := (ask 0 0x0E04 0 (par 4 [0, 1]) up);
     let n : Nat := u8 p 0; let b : Bank := bankOf n s; mb < 3 ∧ List.length p = 4 ∧ u8 p 0 < 16 ∧ b.busy = false ∧
     b.retired = false ∧ u8 p 1 = 1 ∧ b.owner = mb + 1 ∧ Served mb 3588 0 p s) ∧
    (let mb : Nat := 0; let p : Bytes := (par 4 [0, 2, 3, 1]);
     let s : State := (ask 0 0x0E04 0 (par 4 [0, 2, 3, 1]) up); let n : Nat := u8 p 0; let b : Bank := bankOf n s;
     mb < 3 ∧ List.length p = 4 ∧ u8 p 0 < 16 ∧ b.busy = false ∧ b.retired = false ∧ u8 p 1 = 2 ∧ 1 ≤ u8 p 2 ∧
     u8 p 2 < 4 ∧ b.owner = mb + 1 ∧ bit p 3 0 = true ∧ Served mb 3588 0 p s) ∧
    (let mb : Nat := 2; let s : State := (ask 2 0x0E05 0 [] up); Served mb 3589 0 [] s) ∧
    (let p : Bytes := (par 8 [0]); let s : State := (ask 0 0x0E06 0 (par 8 [0]) up); let mb : Nat := 0;
     List.length p = 8 ∧ u8 p 0 = 0 ∧ mb < 5 ∧ Served mb 3590 0 p s) ∧
    (let p : Bytes := (par 8 [1, 0, 255, 0, 9]); let s : State := (ask 0 0x0E06 0 (par 8 [1, 0, 255, 0, 9]) up);
     List.length p = 8 ∧ u8 p 0 = 1 ∧ Served 0 3590 0 p s) ∧
    (let p : Bytes := (par 4 [0]); let s : State := (ask 3 0x0F03 0 (par 4 [0]) up); let mb : Nat := 3;
     List.length p = 4 ∧ u8 p 0 = 0 ∧ mb < 5 ∧ Served mb 3843 0 p s) ∧
    (let p : Bytes := (par 4 [1, 15, 9]); let s : State := (ask 0 0x0F03 0 (par 4 [1, 15, 9]) up);
     List.length p = 4 ∧ u8 p 0 = 1 ∧ u8 p 1 < 16 ∧ s.test.traceBank = some (u8 p 1) ∧ Served 0 3843 0 p s) ∧
    (let p : Bytes := (par 4 [1, 14, 15]); let s : State := (ask 0 0x0F03 0 (par 4 [1, 14, 15]) up);
     let old : Nat := 15; List.length p = 4 ∧ u8 p 0 = 1 ∧ u8 p 1 < 16 ∧ s.test.traceBank = some old ∧
     old ≠ u8 p 1 ∧ (bankOf (u8 p 1) s).owner = 0 ∧ (bankOf (u8 p 1) s).busy = false ∧
     (bankOf (u8 p 1) s).retired = false ∧ Served 0 3843 0 p s) ∧
    (let mb : Nat := 1; let b : Nat := 15; let p : Bytes := (par 4 [0, 0, 127]);
     let s : State := (ask 1 0x0F04 0 (par 4 [0, 0, 127]) (teS { wr := 1, rd := 16383 })); mb < 5 ∧
     List.length p = 4 ∧ s.test.traceBank = some b ∧ (bankOf b s).retired = false ∧ (bankOf b s).poison = [] ∧
     bit p 0 0 = false ∧ Served mb 3844 0 p s) ∧
    (let mb : Nat := 0; let b : Nat := 15; let p : Bytes := (par 4 [1, 0, 0]);
     let s : State := (ask 0 0x0F04 0 (par 4 [1, 0, 0]) (teS { wr := 1, rd := 16383 })); mb < 5 ∧
     List.length p = 4 ∧ s.test.traceBank = some b ∧ (bankOf b s).retired = false ∧ (bankOf b s).poison = [] ∧
     bit p 0 0 = true ∧ mb ≠ 1 ∧ mb ≠ 3 ∧ Served mb 3844 0 p s) := by
  and_intros <;> (try dsimp only) <;> and_intros <;>
    first | exact ⟨7, rfl⟩ | exact Or.inr rfl | decide +kernel | exact rfl

def imgBank (op : Nat) : Bank := { owner := 1, mem := [(64, 0x4E), (65, 0x5A), (66, 0x50), (67, 0x49), (68, 1), (70, 1), (135, BitVec.ofNat 8 (4 * op))] }
def ldP : Bytes := par 12 [0, 0, 0, 0, 64, 0, 0, 0, 72]
def ldS (op : Nat) : State := ask 0 0x0500 1 ldP { up with test := { banks := [(0, imgBank op)] } }
def tryP : Bytes := par 30 [31, 1, 14]
def outS (n st : Nat) : State := { up with parse := { pickers := [(n, { state := st })] } }
def lastW : State := { up with parse := { walkers := (List.range 7).map (fun n => (n, { state := 1 })) } }
def setS (c : CfgSet) : State := { up with sets := { gen := 1, a := c, b := c } }
def prfP : Bytes := par 132 [63, 0, 0, 0, 7, 7, 7, 7, 6]
def emP (op kind v : Nat) : Bytes := par 28 [op, 0, 0, 0, kind + 16 * v, 0, 127, 0, 0, 0, 0, 0, 1, 2, 3, 4, 5, 6]
def emKey : Bytes := slice (emP 0 1 1) 12 16
def emE : EmEntry := { kind := 2, result := 9, key := emKey }
def emS : State := setS { em := [(7, emE)] }
def emC : CfgSet := { em := [(7, emE)] }
def okOf (r : Except EmRefuse (Nat × CfgSet)) : Nat × CfgSet := match r with
  | .ok x => x
  | .error _ => (0, {})
theorem okOf_fits (r : Except EmRefuse (Nat × CfgSet)) (h : r.isOk = true) : r = .ok ((okOf r).1, (okOf r).2) := by
  cases r with
  | ok x => rfl
  | error x => simp [Except.isOk, Except.toBool] at h
def added : Except EmRefuse (Nat × CfgSet) := emAdd emC { kind := 1, static := true, result := 127, key := emKey }
def acP : Bytes := par 8 [254, 255, 2, 0, 1, 0, 0, 0] ++ par 10 [0, 0, 0, 0, 255, 255, 255, 255, 255, 255] ++ par 50 [255, 255, 255, 255, 0, 0, 0, 0, 0, 0, 0, 0, 0, 0, 0, 0, 0, 0, 5, 0, 0, 0, 0, 0, 0, 0, 255, 255, 255, 255, 255, 255, 255, 255, 255, 255]
def tnP : Bytes := par 96 [3, 0, 255, 7, 1]
def dvP : Bytes := par 28 [0, 0, 1, 0, 0, 32, 0, 0, 0, 128, 0, 0, 0, 0, 1, 0, 0, 96, 0, 0, 0, 96, 0, 0, 3, 2, 1, 0]

/-- Values that meet the premises of ParserCommandsAnswer, clause by clause. -/
theorem meets_ParserCommandsAnswer :
    (let p : Bytes := ldP; let s : State := (ldS 0x18);
     let image : Bytes := Memory.readN (bankOf (u8 p 0) s).mem (u32 p 4) (u32 p 8); List.length p = 12 ∧
     ownRange 0 (u8 p 0) (u32 p 4) (u32 p 8) s = true ∧ (bankOf (u8 p 0) s).poison = [] ∧
     (bankOf (u8 p 0) s).retired = false ∧ imageFault image = none ∧ ShadowFree 0 s ∧ Served 0 1280 1 p s) ∧
    (let p : Bytes := ldP; let s : State := (ldS 0x3F);
     let image : Bytes := Memory.readN (bankOf (u8 p 0) s).mem (u32 p 4) (u32 p 8); let e : Nat := 64;
     List.length p = 12 ∧ ownRange 0 (u8 p 0) (u32 p 4) (u32 p 8) s = true ∧ (bankOf (u8 p 0) s).poison = [] ∧
     (bankOf (u8 p 0) s).retired = false ∧ imageFault image = some e ∧ ShadowFree 0 s ∧ Served 0 1280 1 p s) ∧
    (let p : Bytes := (par 40 [132, 9, 255, 255, 255]);
     let s : State := (ask 0 0x0501 0 (par 40 [132, 9, 255, 255, 255]) up); List.length p = 40 ∧
     isIngress (u8 p 0) = true ∧ 0 < 5 ∧ Served 0 1281 0 p s) ∧
    (let p : Bytes := (par 40 [132, 9, 255, 255, 255]);
     let s : State := (ask 0 0x0501 1 (par 40 [132, 9, 255, 255, 255]) up); List.length p = 40 ∧
     isIngress (u8 p 0) = true ∧ ShadowFree 0 s ∧ Served 0 1281 1 p s) ∧
    (let p : Bytes := (par 4 [31]); let s : State := (ask 0 0x0502 0 (par 4 [31]) up); List.length p = 4 ∧ 0 < 5 ∧
     Served 0 1282 0 p s) ∧
    (let p : Bytes := (par 4 [31]); let s : State := (ask 0 0x0502 1 (par 4 [31]) up); List.length p = 4 ∧
     u8 p 0 < 32 ∧ ShadowFree 0 s ∧ Served 0 1282 1 p s) ∧
    (let mb : Nat := 1; let p : Bytes := tryP; let s : State := (ask 1 0x0503 0 tryP up);
     (mb = 0 ∨ mb = 1 ∨ mb = 4) ∧ List.length p = 16 + u16 p 2 ∧ 14 ≤ u16 p 2 ∧ u16 p 2 ≤ 3552 ∧
     isIngress (u8 p 0) = true ∧ Served mb 1283 0 p s) ∧
    (let mb : Nat := 3; let s : State := (ask 3 0x0504 0 [] up); mb < 5 ∧ Served mb 1284 0 [] s) ∧
    (let mb : Nat := 2; let p : Bytes := (par 4 [47]); let s : State := (ask 2 0x0505 0 (par 4 [47]) up);
     let w : Bool := decide (64 ≤ u8 p 0); let n : Nat := unitNo (u8 p 0); let x : ParseUnit := unitOf w n s;
     (mb = 0 ∨ mb = 2) ∧ List.length p = 4 ∧ isUnit (u8 p 0) = true ∧ x.state ≠ 1 ∧ 2 ≤ unitsInService w s ∧
     Served mb 1285 0 p s) ∧
    (let mb : Nat := 0; let p : Bytes := (par 4 [47]); let s : State := (ask 0 0x0505 0 (par 4 [47]) (outS 47 1));
     let w : Bool := decide (64 ≤ u8 p 0); let n : Nat := unitNo (u8 p 0); let x : ParseUnit := unitOf w n s;
     (mb = 0 ∨ mb = 2) ∧ List.length p = 4 ∧ isUnit (u8 p 0) = true ∧ x.state = 1 ∧ Served mb 1285 0 p s) ∧
    (let mb : Nat := 0; let p : Bytes := (par 4 [71]); let s : State := (ask 0 0x0505 0 (par 4 [71]) lastW);
     let w : Bool := decide (64 ≤ u8 p 0); let n : Nat := unitNo (u8 p 0); let x : ParseUnit := unitOf w n s;
     (mb = 0 ∨ mb = 2) ∧ List.length p = 4 ∧ isUnit (u8 p 0) = true ∧ x.state = 0 ∧ unitsInService w s = 1 ∧
     Served mb 1285 0 p s) ∧
    (let mb : Nat := 0; let p : Bytes := (par 4 [47]); let s : State := (ask 0 0x0506 0 (par 4 [47]) (outS 47 1));
     let w : Bool := decide (64 ≤ u8 p 0); let n : Nat := unitNo (u8 p 0); let x : ParseUnit := unitOf w n s;
     (mb = 0 ∨ mb = 2) ∧ List.length p = 4 ∧ isUnit (u8 p 0) = true ∧ x.state = 1 ∧ Served mb 1286 0 p s) ∧
    (let mb : Nat := 0; let p : Bytes := (par 4 [47]); let s : State := (ask 0 0x0506 0 (par 4 [47]) (outS 47 1));
     let w : Bool := decide (64 ≤ u8 p 0); let n : Nat := unitNo (u8 p 0); let x : ParseUnit := unitOf w n s;
     (mb = 0 ∨ mb = 2) ∧ List.length p = 4 ∧ isUnit (u8 p 0) = true ∧ x.state = 1 ∧ Served mb 1286 0 p s) ∧
    (let mb : Nat := 0; let p : Bytes := (par 4 [46]); let s : State := (ask 0 0x0506 0 (par 4 [46]) (outS 47 1));
     let w : Bool := decide (64 ≤ u8 p 0); let n : Nat := unitNo (u8 p 0); let x : ParseUnit := unitOf w n s;
     let pass : Bool := true; (mb = 0 ∨ mb = 2) ∧ List.length p = 4 ∧ isUnit (u8 p 0) = true ∧ x.state ≠ 1 ∧
     Served mb 1286 0 p s) := by
  and_intros <;> (try dsimp only) <;> and_intros <;>
    first | exact ⟨7, rfl⟩ | exact Or.inr rfl | decide +kernel | exact rfl

/-- Values that meet the premises of ClassificationCommandsAnswer, clause by clause. -/
theorem meets_ClassificationCommandsAnswer :
    (let p : Bytes := prfP; let s : State := (ask 0 0x0600 0 prfP up); List.length p = 132 ∧ u8 p 0 < 64 ∧ 0 < 5 ∧
     Served 0 1536 0 p s) ∧
    (let p : Bytes := prfP; let s : State := (ask 0 0x0600 1 prfP up); List.length p = 132 ∧ u8 p 0 < 64 ∧
     profileOk (slice p 4 128) = true ∧ ShadowFree 0 s ∧ Served 0 1536 1 p s) ∧
    (let p : Bytes := (par 16 [128, 31, 0, 0, 0, 0, 0, 0, 0, 0, 0, 0, 0, 31]);
     let s : State := (ask 0 0x0601 0 (par 16 [128, 31, 0, 0, 0, 0, 0, 0, 0, 0, 0, 0, 0, 31]) up);
     List.length p = 16 ∧ isClsPort (u8 p 0) = true ∧ 0 < 5 ∧ Served 0 1537 0 p s) ∧
    (let p : Bytes := (par 16 [128, 31, 0, 0, 0, 0, 0, 0, 0, 0, 0, 0, 0, 31]);
     let s : State := (ask 0 0x0601 1 (par 16 [128, 31, 0, 0, 0, 0, 0, 0, 0, 0, 0, 0, 0, 31]) up);
     List.length p = 16 ∧ isClsPort (u8 p 0) = true ∧ u8 p 1 < 32 ∧
     (∀ (m : Nat), queueTop (u8 p 0) = some m → u8 p 13 ≤ m) ∧ ShadowFree 0 s ∧ Served 0 1537 1 p s) ∧
    (let p : Bytes := (emP 0 1 1); let s : State := (ask 0 0x0602 1 (emP 0 1 1) emS); let c : CfgSet := shadowSet s;
     let kind : Nat := u8 p 4 % 16; let key : Bytes := slice p 12 16;
     let e : EmEntry := { kind := kind, static := kind == 1, result := u16 p 6, key := key };
     let i : Nat := (okOf added).1; let d : CfgSet := (okOf added).2; List.length p = 28 ∧ ShadowFree 0 s ∧
     Served 0 1538 1 p s ∧ u8 p 0 = 0 ∧ 1 ≤ kind ∧ kind ≤ 6 ∧ resultOk kind (u16 p 6) = true ∧ bit p 4 4 = true ∧
     emFind c kind key = none ∧ emAdd c e = Except.ok (i, d)) ∧
    (let p : Bytes := (emP 0 6 1); let s : State := (ask 0 0x0602 1 (emP 0 6 1) (setS { quotas := [] }));
     let c : CfgSet := shadowSet s; let kind : Nat := u8 p 4 % 16; let key : Bytes := slice p 12 16;
     let e : EmEntry := { kind := kind, static := kind == 1, result := u16 p 6, key := key };
     let x : EmRefuse := .quota; List.length p = 28 ∧ ShadowFree 0 s ∧ Served 0 1538 1 p s ∧ u8 p 0 = 0 ∧ 1 ≤ kind ∧
     kind ≤ 6 ∧ resultOk kind (u16 p 6) = true ∧ bit p 4 4 = true ∧ emFind c kind key = none ∧
     emAdd c e = Except.error x) ∧
    (let p : Bytes := (emP 1 2 1); let s : State := (ask 0 0x0602 1 (emP 1 2 1) emS); let c : CfgSet := shadowSet s;
     let kind : Nat := u8 p 4 % 16; let key : Bytes := slice p 12 16; let i : Nat := 7; let x : EmEntry := emE;
     List.length p = 28 ∧ ShadowFree 0 s ∧ Served 0 1538 1 p s ∧ u8 p 0 = 1 ∧ 1 ≤ kind ∧ kind ≤ 6 ∧
     resultOk kind (u16 p 6) = true ∧ bit p 4 4 = true ∧ emFind c kind key = some (i, x)) ∧
    (let p : Bytes := (emP 2 2 1); let s : State := (ask 0 0x0602 1 (emP 2 2 1) emS); let c : CfgSet := shadowSet s;
     let kind : Nat := u8 p 4 % 16; let key : Bytes := slice p 12 16; let i : Nat := 7; let x : EmEntry := emE;
     List.length p = 28 ∧ ShadowFree 0 s ∧ Served 0 1538 1 p s ∧ u8 p 0 = 2 ∧ emFind c kind key = some (i, x)) ∧
    (let p : Bytes := (emP 0 2 1); let i : Nat := 7; let e : EmEntry := emE;
     let s : State := (ask 0 0x0603 0 (emP 0 2 1) emS); List.length p = 28 ∧ u8 p 0 = 0 ∧
     emFind (activeSet s) (u8 p 4 % 16) (slice p 12 16) = some (i, e) ∧ 0 < 5 ∧ Served 0 1539 0 p s) ∧
    (let p : Bytes := (par 28 [1, 0, 0, 0, 255, 0, 4]); let i : Nat := 0; let e : EmEntry := emE;
     let s : State := (ask 0 0x0603 0 (par 28 [1, 0, 0, 0, 255, 0, 4]) (setS { em := [(262399, emE)] }));
     List.length p = 28 ∧ u8 p 0 = 1 ∧ u32 p 4 < 262400 ∧ Tbl.find (activeSet s).em (u32 p 4) = some e ∧ 0 < 5 ∧
     Served 0 1539 0 p s) ∧
    (let p : Bytes := acP; let n : Nat := 2; let s : State := (ask 0 0x0604 0 acP up); u16 p 2 = n ∧ 1 ≤ n ∧
     n ≤ 100 ∧ List.length p = 4 + 32 * n ∧ u16 p 0 + n ≤ 65536 ∧ 0 < 5 ∧ Served 0 1540 0 p s) ∧
    (let p : Bytes := acP; let n : Nat := 2; let s : State := (ask 0 0x0604 1 acP up); u16 p 2 = n ∧ 1 ≤ n ∧
     n ≤ 100 ∧ List.length p = 4 + 32 * n ∧ u16 p 0 + n ≤ 65536 ∧
     (∀ (i : Nat), i < n → actionIdx (actionIn p i) = true ∧ actionOk (actionIn p i) = true) ∧ ShadowFree 0 s ∧
     Served 0 1540 1 p s) ∧
    (let p : Bytes := tnP; let n : Nat := 1; let s : State := (ask 0 0x0605 0 tnP up); u16 p 4 = n ∧ 1 ≤ n ∧
     n ≤ 32 ∧ List.length p = 8 + 88 * n ∧ u8 p 0 < 4 ∧ u16 p 2 + n ≤ 2048 ∧ 0 < 5 ∧ Served 0 1541 0 p s) ∧
    (let p : Bytes := tnP; let n : Nat := 1; let s : State := (ask 0 0x0605 1 tnP up); u16 p 4 = n ∧ 1 ≤ n ∧
     n ≤ 32 ∧ List.length p = 8 + 88 * n ∧ u8 p 0 < 4 ∧ u16 p 2 + n ≤ 2048 ∧ ShadowFree 0 s ∧ Served 0 1541 1 p s) ∧
    (let p : Bytes := (par 16 [0, 31, 0, 0, 255]); let s : State := (ask 0 0x0606 0 (par 16 [0, 31, 0, 0, 255]) up);
     List.length p = 16 ∧ u8 p 0 = 0 ∧ u8 p 1 < 32 ∧ 0 < 5 ∧ Served 0 1542 0 p s) ∧
    (let p : Bytes := (par 16 [0, 31, 0, 0, 255]); let s : State := (ask 0 0x0606 1 (par 16 [0, 31, 0, 0, 255]) up);
     List.length p = 16 ∧ u8 p 0 = 0 ∧ u8 p 1 < 32 ∧ ShadowFree 0 s ∧ Served 0 1542 1 p s) ∧
    (let p : Bytes := (par 16 [1, 255, 0, 0, 1, 255, 0, 31, 255, 255, 255, 31, 255, 255, 255, 31]);
     let s : State := (ask 0 0x0606 0 (par 16 [1, 255, 0, 0, 1, 255, 0, 31, 255, 255, 255, 31, 255, 255, 255, 31]) up);
     List.length p = 16 ∧ u8 p 0 = 1 ∧ 0 < 5 ∧ Served 0 1542 0 p s) ∧
    (let p : Bytes := (par 16 [1, 255, 0, 0, 1, 255, 0, 31, 255, 255, 255, 31, 255, 255, 255, 31]);
     let s : State := (ask 0 0x0606 1 (par 16 [1, 255, 0, 0, 1, 255, 0, 31, 255, 255, 255, 31, 255, 255, 255, 31]) up);
     let x : Bytes := rangeApply p; List.length p = 16 ∧ u8 p 0 = 1 ∧ (u8 p 5 < 96 ∨ u8 p 5 = 255) ∧ u8 p 7 < 32 ∧
     u32 x 4 ≤ u32 x 8 ∧ ShadowFree 0 s ∧ Served 0 1542 1 p s) ∧
    (let p : Bytes := (par 16 [2, 31]); let s : State := (ask 0 0x0606 0 (par 16 [2, 31]) up); List.length p = 16 ∧
     u8 p 0 = 2 ∧ 0 < 5 ∧ Served 0 1542 0 p s) ∧
    (let p : Bytes := (par 16 [2, 31]); let s : State := (ask 0 0x0606 1 (par 16 [2, 31]) up); List.length p = 16 ∧
     u8 p 0 = 2 ∧ u8 p 1 < 32 ∧ ShadowFree 0 s ∧ Served 0 1542 1 p s) ∧
    (let p : Bytes := (par 8 [255, 15, 1, 0, 0, 0, 3, 31]);
     let s : State := (ask 0 0x0607 0 (par 8 [255, 15, 1, 0, 0, 0, 3, 31]) up); List.length p = 8 ∧ u16 p 0 < 4096 ∧
     0 < 5 ∧ Served 0 1543 0 p s) ∧
    (let p : Bytes := (par 8 [255, 15, 1, 0, 0, 0, 3, 31]);
     let s : State := (ask 0 0x0607 1 (par 8 [255, 15, 1, 0, 0, 0, 3, 31]) up); List.length p = 8 ∧ u16 p 0 < 4096 ∧
     u8 p 7 < 32 ∧ u8 p 6 ≤ 3 ∧ ShadowFree 0 s ∧ Served 0 1543 1 p s) ∧
    (let p : Bytes := (par 32 [255, 15, 7, 31, 255]);
     let s : State := (ask 0 0x0608 0 (par 32 [255, 15, 7, 31, 255]) up); List.length p = 32 ∧ u16 p 0 < 4096 ∧
     0 < 5 ∧ Served 0 1544 0 p s) ∧
    (let p : Bytes := (par 32 [255, 15, 7, 31, 255]);
     let s : State := (ask 0 0x0608 1 (par 32 [255, 15, 7, 31, 255]) up); List.length p = 32 ∧ u16 p 0 < 4096 ∧
     u8 p 3 < 32 ∧ bits (u8 p 2) 3 2 ≠ 3 ∧ ShadowFree 0 s ∧ Served 0 1544 1 p s) ∧
    (let p : Bytes := (par 25 [255, 15, 0, 0, 255]);
     let s : State := (ask 0 0x0609 0 (par 25 [255, 15, 0, 0, 255]) up); List.length p = 25 ∧ u16 p 0 < 4096 ∧
     0 < 5 ∧ Served 0 1545 0 p s) ∧
    (let p : Bytes := (par 25 [255, 15, 0, 0, 255]);
     let s : State := (ask 0 0x0609 1 (par 25 [255, 15, 0, 0, 255]) up); List.length p = 25 ∧ u16 p 0 < 4096 ∧
     ShadowFree 0 s ∧ Served 0 1545 1 p s) ∧
    (let p : Bytes := (par 8 [0, 0, 0, 0, 5]); let s : State := (ask 0 0x060A 0 (par 8 [0, 0, 0, 0, 5]) up);
     List.length p = 8 ∧ u8 p 0 = 0 ∧ Served 0 1546 0 p s) ∧
    (let p : Bytes := (par 8 [1, 255, 255, 15]); let s : State := (ask 0 0x060A 0 (par 8 [1, 255, 255, 15]) emS);
     List.length p = 8 ∧ u8 p 0 = 1 ∧ (u8 p 1 = 255 ∨ isPort (u8 p 1) = true) ∧ (u16 p 2 = 65535 ∨ u16 p 2 < 4096) ∧
     Served 0 1546 0 p s) ∧
    (let p : Bytes := (par 8 [2]); let s : State := (ask 0 0x060A 0 (par 8 [2]) up); List.length p = 8 ∧
     u8 p 0 = 2 ∧ Served 0 1546 0 p s) ∧
    (let p : Bytes := (par 14 [132, 0, 9, 9, 2, 31, 0, 0, 9, 9, 2, 31]);
     let s : State := (ask 0 0x060B 0 (par 14 [132, 0, 9, 9, 2, 31, 0, 0, 9, 9, 2, 31]) up); List.length p = 14 ∧
     isIngress (u8 p 0) = true ∧ 0 < 5 ∧ Served 0 1547 0 p s) ∧
    (let p : Bytes := (par 14 [132, 0, 9, 9, 2, 31, 0, 0, 9, 9, 2, 31]);
     let s : State := (ask 0 0x060B 1 (par 14 [132, 0, 9, 9, 2, 31, 0, 0, 9, 9, 2, 31]) up); List.length p = 14 ∧
     isIngress (u8 p 0) = true ∧ u8 p 4 ≤ 2 ∧ u8 p 10 ≤ 2 ∧ u8 p 5 < 32 ∧ u8 p 11 < 32 ∧ ShadowFree 0 s ∧
     Served 0 1547 1 p s) ∧
    (let p : Bytes := (par 6 [3, 128, 31, 0, 64]); let s : State := (ask 0 0x060C 0 (par 6 [3, 128, 31, 0, 64]) up);
     List.length p = 6 ∧ u8 p 0 < 4 ∧ 0 < 5 ∧ Served 0 1548 0 p s) ∧
    (let p : Bytes := (par 6 [3, 128, 31, 0, 64]); let s : State := (ask 0 0x060C 1 (par 6 [3, 128, 31, 0, 64]) up);
     List.length p = 6 ∧ u8 p 0 < 4 ∧ (u8 p 1 = 128 ∧ u8 p 2 < 32 ∨ u8 p 1 < 32 ∧ u8 p 2 < 8) ∧ ShadowFree 0 s ∧
     Served 0 1548 1 p s) ∧
    (let p : Bytes := dvP; let s : State := (ask 0 0x060D 0 dvP up); List.length p = 28 ∧ 0 < 5 ∧
     Served 0 1549 0 p s) ∧
    (let p : Bytes := dvP; let s : State := (ask 0 0x060D 1 dvP up);
     let qs : List Nat := List.map (fun i ↦ min (quotaTop.getD i 0) (u32 p (4 * i))) (List.range 6);
     let rs : List Nat := List.map (fun i ↦ u8 p (24 + i)) (List.range 4); List.length p = 28 ∧
     sumBy (fun x ↦ x) qs ≤ 262144 ∧ (∀ (i : Nat), i < 6 → emCount (shadowSet s) (i + 1) ≤ qs.getD i 0) ∧
     (∀ (k : Nat), k < 4 → k ∈ rs) ∧ ShadowFree 0 s ∧ Served 0 1549 1 p s) ∧
    (let mb : Nat := 3; let p : Bytes := (par 10 [4, 0, 0, 0, 255, 15, 0, 0, 1]);
     let s : State := (ask 3 0x060E 0 (par 10 [4, 0, 0, 0, 255, 15, 0, 0, 1]) up);
     let n : Nat := clamp 1 500 (u16 p 8); mb < 5 ∧ List.length p = 10 ∧ u8 p 0 ≤ 4 ∧
     u32 p 4 + n ≤ clsTableSize (u8 p 0) ∧ bit p 1 0 = false ∧ Served mb 1550 0 p s) ∧
    (let mb : Nat := 2; let p : Bytes := (par 10 [4, 1, 0, 0, 12, 14, 0, 0, 244, 1]);
     let s : State := (ask 2 0x060E 0 (par 10 [4, 1, 0, 0, 12, 14, 0, 0, 244, 1]) up);
     let n : Nat := clamp 1 500 (u16 p 8); mb < 5 ∧ List.length p = 10 ∧ u8 p 0 ≤ 4 ∧
     u32 p 4 + n ≤ clsTableSize (u8 p 0) ∧ bit p 1 0 = true ∧ mb ≠ 1 ∧ mb ≠ 3 ∧ Served mb 1550 0 p s) := by
  refine ⟨?_, ?_, ?_, ?_,
    ⟨by decide +kernel, ⟨by decide +kernel, by decide +kernel, by decide +kernel⟩, ⟨⟨7, rfl⟩, by decide +kernel, by decide +kernel⟩, by decide +kernel, by decide +kernel, by decide +kernel, by decide +kernel, by decide +kernel, by decide +kernel, okOf_fits added (by decide +kernel)⟩,
    ⟨by decide +kernel, ⟨by decide +kernel, by decide +kernel, by decide +kernel⟩, ⟨⟨7, rfl⟩, by decide +kernel, by decide +kernel⟩, by decide +kernel, by decide +kernel, by decide +kernel, by decide +kernel, by decide +kernel, by decide +kernel, rfl⟩,
    ?_, ?_, ?_, ?_, ?_, ?_, ?_, ?_, ?_, ?_, ?_, ?_, ?_, ?_, ?_, ?_, ?_, ?_, ?_, ?_, ?_,
    ?_, ?_, ?_, ?_, ?_, ?_, ?_, ?_, ?_, ?_⟩ <;> (try dsimp only) <;> and_intros <;>
    first | exact ⟨7, rfl⟩ | exact Or.inr rfl | decide +kernel | exact rfl

end Sys2Proof.Tests
end

section
/-! SUPPORT. A whole-word write of W0: the bytes of the word are read back as the number written, and a write that is
permitted and meets no lock is `wordWrite` of that one word (R61, R72, R99, R100). -/

namespace Sys2Proof.Machine

/-! ### Little-endian bytes -/

@[simp] theorem length_le (n v : Nat) : (le n v).length = n := by
  induction n generalizing v with
  | zero => rfl
  | succ n ih => simp [le, ih]

@[simp] theorem length_b4 (v : Nat) : (b4 v).length = 4 := length_le 4 v

theorem leN_cons_succ (x : Byte) (b : Bytes) (i n : Nat) : leN (x :: b) (i + 1) n = leN b i n := by
  induction n generalizing i with
  | zero => rfl
  | succ n ih => simp [leN, ih, u8]

theorem leN_le (n v : Nat) (hv : v < 256 ^ n) : leN (le n v) 0 n = v := by
  induction n generalizing v with
  | zero => exact (Nat.lt_one_iff.mp hv).symm
  | succ n ih =>
    have hq : v / 256 < 256 ^ n := Nat.div_lt_of_lt_mul (by rwa [Nat.pow_succ, Nat.mul_comm] at hv)
    have hd : u8 (le (n + 1) v) 0 = v % 256 := by simp [u8, le]
    rw [leN, hd, le, leN_cons_succ, ih _ hq]
    exact Nat.mod_add_div v 256

/-! ### One word -/

theorem wordsAt_word {a : Nat} (ha : a % 4 = 0) : wordsAt a 4 = [a] := by
  have hword : a / 4 * 4 = a := by omega
  simp [wordsAt, hword]

theorem writeWords_b4 {v : Nat} (a : Nat) (hv : v < 4294967296) : writeWords a (b4 v) = [(a, 0xFFFFFFFF, v)] := by
  have hl : leN (b4 v) 0 4 = v := leN_le 4 v hv
  simp [writeWords, hl]

theorem touchesReserved_word {a : Nat} (ha : a % 4 = 0) (s : State) :
    touchesReserved a 4 s = (regWord a s).isNone := by
  simp [touchesReserved, wordsAt_word ha]

theorem sizeOk_word {a : Nat} (ha : a % 4 = 0) : sizeOk a 4 = true := by simp [sizeOk, ha]

/-- A word outside the mailboxes and the semaphores is written as soon as its initiator may write it. -/
theorem writeReg_word {init a v : Nat} {s : State} (ha : a % 4 = 0) (hlow : 0x1000 ≤ a) (hmb : mbAt a = none)
    (hreg : (regWord a s).isSome = true) (hmay : mayWriteWord init a 0xFFFFFFFF v s = true) (hv : v < 4294967296) :
    writeReg init a (b4 v) s = wordWrite init a 0xFFFFFFFF v s := by
  have hres : touchesReserved a 4 s = false := by
    rw [touchesReserved_word ha, ← Option.not_isSome, hreg]; rfl
  have hjudge : judgeWrite init a (b4 v) s = 0 := by
    simp [judgeWrite, sizeOk_word ha, hres, writeWords_b4 a hv, hmay]
  have hsem : semBlocked init a s = false := by
    simp [semBlocked, Nat.not_lt.mpr hlow]
  simp [writeReg, hjudge, hsem, putBytes, hmb, writeWords_b4 a hv, forEach]

theorem and_wordMask {v : Nat} (hv : v < 4294967296) : v &&& 0xFFFFFFFF = v :=
  Nat.and_two_pow_sub_one_of_lt_two_pow (n := 32) hv

end Sys2Proof.Machine
end

section
/-! PROOF. BRIDGE_STATUS and EV7's cause register: set together, cleared separately (R103). -/

namespace Sys2Proof.Machine

/-! ### Setting cause bits -/

@[simp] theorem setCause_cause (ev : Nat) (v : BitVec 32) (s : State) :
    (setCause ev v s).ctl.cause = Tbl.set s.ctl.cause ev v 0 := by
  simp [setCause]

theorem ofNat_two_pow_ne_zero {w b : Nat} (hb : b < w) : BitVec.ofNat w (2 ^ b) ≠ 0 := by
  have hval : (BitVec.ofNat w (2 ^ b)).toNat = 2 ^ b := by
    rw [BitVec.toNat_ofNat, Nat.mod_eq_of_lt (Nat.pow_lt_pow_right Nat.one_lt_two hb)]
  intro h
  rw [h] at hval
  exact Nat.ne_of_lt (Nat.two_pow_pos b) hval

/-- A cause register written with a value that is not zero is listed, so reading it back needs no canonical form. -/
theorem causeOf_setCause_of_ne_zero {ev : Nat} {v : BitVec 32} (s : State) (hv : v ≠ 0) :
    causeOf ev (setCause ev v s) = v := by
  rw [causeOf, setCause_cause, Tbl.set, if_neg hv, Tbl.get_insert, if_pos rfl]

theorem causeOf_raise {ev b : Nat} (s : State) (hb : b < 32) :
    causeOf ev (raise ev b s) = causeOf ev s ||| BitVec.ofNat 32 (2 ^ b) :=
  causeOf_setCause_of_ne_zero s fun h => ofNat_two_pow_ne_zero hb (BitVec.or_eq_zero_iff.mp h).2

theorem bridgeBit_status (b : Nat) (s : State) :
    (bridgeBit b s).host.status = s.host.status ||| BitVec.ofNat 7 (2 ^ b) := by
  simp [bridgeBit]

theorem causeOf_bridgeBit {b : Nat} (s : State) (hb : b < 32) :
    causeOf 7 (bridgeBit b s) = causeOf 7 s ||| BitVec.ofNat 32 (2 ^ b) := causeOf_raise _ hb

/-! ### The two W1C writes -/

/-- The primary's write of BRIDGE_STATUS. -/
theorem writeReg_bridgeStatus {v : Nat} (s : State) (hv : v < 4294967296) :
    writeReg 0 0x30000 (b4 v) s = { s with host := { s.host with status := s.host.status &&& ~~~ BitVec.ofNat 7 v } } := by
  rw [writeReg_word rfl (by decide) rfl (by simp [regWord, bridgeWord]) (by simp [mayWriteWord, mbAt, ringAt]) hv]
  simp [wordWrite, bridgeWrite, and_wordMask hv]

/-- A write of a cause register by an initiator other than the secondary clears every bit it writes as one (R62, R127). -/
theorem causeWrite_of_ne_secondary {init : Nat} (ev w : Nat) (s : State) (hi : init ≠ 1) :
    causeWrite init ev w s = setCause ev (causeOf ev s &&& ~~~ BitVec.ofNat 32 w) s := by
  simp [causeWrite, hi]

/-! The address of EV_CAUSEn falls through every other range of the event block. -/

theorem regWord_cause {ev : Nat} (s : State) (hev : ev < 128) :
    regWord (0x21000 + 4 * ev) s = some (causeOf ev s).toNat := by
  simp (disch := omega) only [regWord, eventWord, if_neg, if_pos, Nat.add_sub_cancel_left]
  simp

theorem mayWriteWord_cause {init ev : Nat} (m v : Nat) (s : State) (hi : init = 0 ∨ init = 2) (hev : ev < 128) :
    mayWriteWord init (0x21000 + 4 * ev) m v s = true := by
  have hmb : mbAt (0x21000 + 4 * ev) = none := if_neg (by omega)
  have hring : ringAt (0x21000 + 4 * ev) = none := if_neg (by omega)
  simp (disch := omega) only [mayWriteWord, hmb, hring, if_neg, if_pos]
  obtain rfl | rfl := hi <;> rfl

theorem wordWrite_cause {init ev v : Nat} (s : State) (hev : ev < 128) (hv : v < 4294967296) :
    wordWrite init (0x21000 + 4 * ev) 0xFFFFFFFF v s = causeWrite init ev v s := by
  simp (disch := omega) only [wordWrite, eventWrite, if_neg, if_pos, and_wordMask hv, Nat.add_sub_cancel_left]
  simp

/-- The write of a cause register by the primary or SPI (R61, R127). -/
theorem writeReg_cause {init ev v : Nat} (s : State) (hi : init = 0 ∨ init = 2) (hev : ev < 128) (hv : v < 4294967296) :
    writeReg init (0x21000 + 4 * ev) (b4 v) s = setCause ev (causeOf ev s &&& ~~~ BitVec.ofNat 32 v) s := by
  rw [writeReg_word (by omega) (by omega) (if_neg (by omega)) (by rw [regWord_cause s hev]; rfl)
    (mayWriteWord_cause _ v s hi hev) hv, wordWrite_cause s hev hv, causeWrite_of_ne_secondary ev v s (by omega)]

end Sys2Proof.Machine

namespace Sys2Proof

open Machine

theorem gives_bridgeStatusWrite {v : Nat} (s : State) (hv : v < 4294967296) :
    Gives (.registerWrite 0 0x30000 (b4 v)) s
      { s with host := { s.host with status := s.host.status &&& ~~~ BitVec.ofNat 7 v } } :=
  congrArg Host.Outcome.next (writeReg_bridgeStatus s hv)

theorem gives_evCauseClear {init ev v : Nat} (s : State) (hi : init = 0 ∨ init = 2) (hev : ev < 128) (hv : v < 4294967296) :
    Gives (.evCauseClear init ev v) s (setCause ev (causeOf ev s &&& ~~~ BitVec.ofNat 32 v) s) :=
  congrArg Host.Outcome.next (writeReg_cause s hi hev hv)

/-- Settles O16: setting goes through `bridgeBit`, and each W1C write leaves the other copy as it was. -/
theorem bridgeStatusAndEv7AreSetTogether : Obligations.BridgeStatusAndEv7AreSetTogether := by
  unfold Obligations.BridgeStatusAndEv7AreSetTogether
  refine ⟨fun b s hb => ?_, fun v s hv => ?_, fun v s hv => ?_⟩
  · exact ⟨bridgeBit_status b s, causeOf_bridgeBit s (by omega)⟩
  · exact ⟨_, gives_bridgeStatusWrite s hv, rfl, rfl⟩
  · exact ⟨_, gives_evCauseClear s (.inl rfl) (by decide) hv, by simp only [setCause_host]⟩

end Sys2Proof
end

section
/-! SUPPORT. The parser's shared operations: what a Picker's instruction does, and what a walker's visit leaves of its
thread (R132, R136, R150). -/

namespace Sys2Proof.Machine

/-! ### What the end of a parse leaves of the parser -/

@[simp] theorem putFrame_parse (fid : Nat) (v : VFrame) (s : State) : (putFrame fid v s).parse = s.parse := rfl

@[simp] theorem freeChanged_parse (s : State) : (freeChanged s).parse = s.parse := by
  unfold freeChanged
  dsimp only
  repeat' split
  all_goals simp

@[simp] theorem dropFrame_parse (fid : Nat) (s : State) : (dropFrame fid s).parse = s.parse := freeChanged_parse _

@[simp] theorem pfcSend_parse (t p quanta : Nat) (s : State) : (pfcSend t p quanta s).parse = s.parse := by
  simp [pfcSend]

@[simp] theorem pfcCheck_parse (t : Nat) (s : State) : (pfcCheck t s).parse = s.parse := by
  unfold pfcCheck
  split
  · refine forEach_parse _ _ _ fun p s => ?_
    dsimp only
    repeat' split
    all_goals simp
  · rfl

@[simp] theorem forgetParse_walkers (fid : Nat) (s : State) : (forgetParse fid s).parse.walkers = s.parse.walkers := rfl

@[simp] theorem putResult_walkers (fid : Nat) (r : ParseResult) (s : State) :
    (putResult fid r s).parse.walkers = s.parse.walkers := by
  unfold putResult
  dsimp only
  split <;> simp

@[simp] theorem dropParsed_walkers (fid : Nat) (s : State) : (dropParsed fid s).parse.walkers = s.parse.walkers := by
  unfold dropParsed
  dsimp only
  repeat' split
  all_goals simp

@[simp] theorem pstoreDrop_walkers (fid : Nat) (s : State) : (pstoreDrop fid s).parse.walkers = s.parse.walkers := by
  simp [pstoreDrop]

theorem walkerOf_congr {s u : State} (k : Nat) (h : u.parse.walkers = s.parse.walkers) : walkerOf k u = walkerOf k s := by
  rw [walkerOf, walkerOf, h]

/-! ### Pickers -/

/-- The instructions of R142, on Picker `p`. -/
def pickerInstrs (p : Nat) : List Instr :=
  [.ldf p, .cmp p, .br p, .jt p, .add p, .sub p, .and p, .or p, .shr p, .shl p, .adv p, .push p, .key p, .metaField p,
    .chklen p, .defer p, .done p, .mal p]

theorem exec_of_mem_pickerInstrs (p : Nat) : ∀ c ∈ pickerInstrs p, ∃ op eff, ∀ s, exec c s = .next (pickerRun op eff p s) := by
  simp only [pickerInstrs, List.forall_mem_cons]
  refine ⟨?_, ?_, ?_, ?_, ?_, ?_, ?_, ?_, ?_, ?_, ?_, ?_, ?_, ?_, ?_, ?_, ?_, ?_, List.forall_mem_nil _⟩ <;>
    exact ⟨_, _, fun _ => rfl⟩

/-- The budget of R136 is a guard of every instruction. -/
theorem pickerRun_of_budget_spent (op : Nat) (eff : PCtx → Nat → Thread → PStep) {p : Nat} {t : Thread} {v : VFrame} {s : State}
    (hjob : (pickerOf p s).job = some t) (hframe : frameOf t.fid s = some v) (hcount : 64 ≤ t.count) :
    pickerRun op eff p s = s := by
  simp [pickerRun, hjob, hframe, hcount]

/-- The state after an instruction of Picker `p`, by its effect on the thread `t`. -/
def pickerAfter (p : Nat) (t : Thread) (s : State) : PStep → State
  | .run t' => setPicker p { pickerOf p s with job := some t' } s
  | .stall n => setPicker p { pickerOf p s with job := some { t with stalled := some n } } s
  | .fin t' r profile => putResult t.fid (resultOf t' r profile) (setPicker p { pickerOf p s with job := none } s)
  | .defer t' =>
    let free := setPicker p { pickerOf p s with job := none } s
    { free with parse := { free.parse with deferred := free.parse.deferred ++ [t'] } }

theorem pickerRun_of_fetches {p op w : Nat} {t : Thread} {v : VFrame} {s : State} (eff : PCtx → Nat → Thread → PStep)
    (h : Fetches p op w t v s) :
    pickerRun op eff p s = pickerAfter p t s (eff (ctxOf v s) w { t with count := t.count + 1 }) := by
  obtain ⟨hjob, hunit, hframe, hstall, hcount, rfl, hop, hword, hjump⟩ := h
  have hgo : ¬ ((pickerOf p s).state ≠ 0 ∨ t.stalled.isSome ∨ 64 ≤ t.count ∨
      opcodeOf (wordAt (ctxOf v s).cfg t.pc) ≠ op) := by
    simp [hunit, hstall, hcount, ctxOf, hop]
  have hgood : ¬ (badWord v.frame.gen 0 t.pc s = true ∨
      (op = 4 ∧ badWord v.frame.gen 1 (bits (wordAt (ctxOf v s).cfg t.pc) 38 32) s = true)) := by
    rintro (hbad | ⟨h4, hbad⟩)
    · exact absurd hbad (by simp [hword])
    · exact absurd ((hjump h4).symm.trans hbad) Bool.false_ne_true
  simp only [pickerRun, hjob, hframe, if_neg hgo, if_neg hgood]
  show _ = pickerAfter p t s (eff (ctxOf v s) (wordAt (ctxOf v s).cfg t.pc) _)
  cases eff (ctxOf v s) (wordAt (ctxOf v s).cfg t.pc) { t with count := t.count + 1 } <;> rfl

/-! ### Walkers: a visit counts no instruction -/

/-- The thread that a step leaves or ends has executed `n` instructions. -/
def PStep.countIs (n : Nat) : PStep → Prop
  | .run t => t.count = n
  | .stall _ => True
  | .fin t _ _ => t.count = n
  | .defer t => t.count = n

theorem readRange_ok_count {x : PCtx} {t t' : Thread} {lo n : Nat} (h : readRange x t lo n = .ok t') : t'.count = t.count := by
  unfold readRange at h
  dsimp only at h
  repeat' split at h
  all_goals cases h
  all_goals rfl

section
variable {x : PCtx} {t : Thread} {n : Nat} {k : Thread → PStep}

theorem reading_countIs {lo len : Nat} (ht : t.count = n) (hk : ∀ t', t'.count = n → (k t').countIs n) :
    (reading x t lo len k).countIs n := by
  unfold reading
  split
  case h_1 t' hok => exact hk t' ((readRange_ok_count hok).trans ht)
  case h_2 => trivial
  case h_3 => exact ht

theorem walkCursor_countIs {dst : Nat} (ht : t.count = n) (hk : ∀ t', t'.count = n → (k t').countIs n) :
    (walkCursor x t dst k).countIs n := by
  have hmoved : (k { t with cursor := dst }).countIs n := hk _ ht
  unfold walkCursor
  split
  · split
    · exact ht
    · exact hmoved
  · split
    · trivial
    · exact hmoved

theorem pushHeader_countIs {type : Nat} {ck : Bool} (ht : t.count = n) (hk : ∀ t', t'.count = n → (k t').countIs n) :
    (pushHeader x t type ck k).countIs n := by
  unfold pushHeader
  dsimp only
  split
  · exact ht
  split
  · exact ht
  split
  · refine reading_countIs ht fun t₁ ht₁ => ?_
    split
    · exact ht₁
    refine reading_countIs ht₁ fun t₂ ht₂ => ?_
    split
    · exact hk _ ht₂
    · exact ht₂
  · exact hk _ ht

end

theorem nodeVisit_countIs (x : PCtx) (t : Thread) : (nodeVisit x t).countIs t.count := by
  unfold nodeVisit
  extract_lets n w0 w2 w3 t₀ so sw v nx finish lw afterKey kn afterPush
  have hfinish : ∀ t', t'.count = t.count → (finish t').countIs t.count := by
    intro t' ht'
    unfold finish
    repeat' split
    all_goals exact ht'
  have hkey : ∀ t', t'.count = t.count → (afterKey t').countIs t.count := by
    intro t' ht'
    unfold afterKey
    split
    · exact walkCursor_countIs ht' hfinish
    · exact reading_countIs ht' fun t₁ ht₁ => walkCursor_countIs ht₁ hfinish
    · exact walkCursor_countIs ht' hfinish
  have hpush : ∀ t', t'.count = t.count → (afterPush t').countIs t.count := by
    intro t' ht'
    unfold afterPush
    split
    · exact reading_countIs ht' fun t₁ ht₁ => hkey _ ht₁
    · exact hkey t' ht'
  refine reading_countIs rfl fun t₁ ht₁ => ?_
  split
  · exact pushHeader_countIs ht₁ hpush
  · exact hpush t₁ ht₁

theorem wakeThread_count (t : Thread) (s : State) : (wakeThread t s).count = t.count := by
  unfold wakeThread
  split
  · split <;> rfl
  · rfl

/-- The thread on a unit, if any, has executed `n` instructions. -/
def ParseUnit.countIs (n : Nat) (u : ParseUnit) : Prop := ∀ t, u.job = some t → t.count = n

theorem countIs_free {u : ParseUnit} (n : Nat) : ParseUnit.countIs n { u with job := none } := nofun

theorem countIs_of_job {u : ParseUnit} {t : Thread} (hjob : u.job = some t) : u.countIs t.count :=
  fun _ h => congrArg Thread.count (Option.some.inj (h.symm.trans hjob))

theorem countIs_busy {u : ParseUnit} {t : Thread} {n : Nat} (h : t.count = n) :
    ParseUnit.countIs n { u with job := some t } := h ▸ countIs_of_job rfl

theorem walkerOf_countIs_of_setWalker {k n : Nat} {x : ParseUnit} {s u : State} (hs : Tbl.sorted s.parse.walkers = true)
    (hx : x.countIs n) (hw : u.parse.walkers = (setWalker k x s).parse.walkers) : (walkerOf k u).countIs n := by
  rwa [walkerOf_congr k hw, walkerOf_setWalker k k x s hs, if_pos rfl]

theorem walkerRun_countIs (atLimit : Bool) {k n : Nat} {s : State} (hs : Tbl.sorted s.parse.walkers = true)
    (h : (walkerOf k s).countIs n) : (walkerOf k (walkerRun atLimit k s)).countIs n := by
  unfold walkerRun
  dsimp only
  split
  case h_1 => exact h
  case h_2 t hjob =>
  have hwake : (wakeThread t s).count = n := (wakeThread_count t s).trans (h t hjob)
  split
  case h_1 => exact walkerOf_countIs_of_setWalker hs (countIs_free n) rfl
  case h_2 v _ =>
  split
  · exact h
  split
  · exact walkerOf_countIs_of_setWalker hs (countIs_free n) (pstoreDrop_walkers _ _)
  have hvisit := nodeVisit_countIs (ctxOf v s) (wakeThread t s)
  split
  case h_1 t' hrun =>
    rw [hrun] at hvisit
    exact walkerOf_countIs_of_setWalker hs (countIs_busy (hvisit.trans hwake)) (congrArg Parser.walkers (count_parse ..))
  case h_2 m _ =>
    exact walkerOf_countIs_of_setWalker hs (countIs_busy (t := { wakeThread t s with stalled := some m }) hwake) rfl
  case h_3 =>
    exact walkerOf_countIs_of_setWalker hs (countIs_free n)
      ((putResult_walkers ..).trans (congrArg Parser.walkers (count_parse ..)))
  case h_4 => exact h

end Sys2Proof.Machine
end

section
/-! PROOF. The budget of 64 instructions of a parse (R136). -/

namespace Sys2Proof

open Machine

theorem gives_self_of_budget_spent {p : Nat} {t : Thread} {v : VFrame} {s : State} {c : Instr} (hc : c ∈ pickerInstrs p)
    (hjob : (pickerOf p s).job = some t) (hframe : frameOf t.fid s = some v) (hcount : t.count = 64) : Gives c s s := by
  obtain ⟨op, eff, hexec⟩ := exec_of_mem_pickerInstrs p c hc
  rw [Gives, hexec, pickerRun_of_budget_spent op eff hjob hframe (Nat.le_of_eq hcount.symm)]

theorem gives_parseBudgetExhausted {p : Nat} {t : Thread} {s : State} (hjob : (pickerOf p s).job = some t)
    (hcount : t.count = 64) : Gives (.parseBudgetExhausted p) s
      (putResult t.fid (resultOf t 4 0) (setPicker p { pickerOf p s with job := none } s)) := by
  show execParseBudgetExhausted p s = _
  simp [execParseBudgetExhausted, hjob, hcount]

/-- Settles O26: the count is a guard of every instruction, and no part of a visit writes it. -/
theorem aParseExecutesAtMost64Instructions : Obligations.AParseExecutesAtMost64Instructions := by
  unfold Obligations.AParseExecutesAtMost64Instructions
  refine ⟨fun p t v s hjob hframe hcount => ⟨fun c hc => ?_, ?_⟩, fun p w t v s => ⟨fun h => ?_, fun h => ?_, fun h => ?_⟩,
    fun k t t' s u hs hjob hu hjob' => ?_⟩
  · exact gives_self_of_budget_spent hc hjob hframe hcount
  · exact gives_parseBudgetExhausted hjob hcount
  · exact congrArg Host.Outcome.next (pickerRun_of_fetches opDefer h)
  · exact congrArg Host.Outcome.next (pickerRun_of_fetches opDone h)
  · exact congrArg Host.Outcome.next (pickerRun_of_fetches opMal h)
  · obtain rfl : walkerRun false k s = u := Host.Outcome.next.inj hu
    exact walkerRun_countIs false hs (countIs_of_job hjob) t' hjob'

end Sys2Proof
end

section
/-! SUPPORT. The sum of RESERVE: the fold over the listed queues is the sum over every queue slot (R208). -/

namespace Sys2Proof.Machine

/-! ### Sums over queue slots -/

/-- `f` with the value `x` at `k`. -/
def setAt (f : Nat → Nat) (k x : Nat) : Nat → Nat := fun q => if q = k then x else f q

theorem setAt_self (f : Nat → Nat) (k x : Nat) : setAt f k x k = x := if_pos rfl

theorem setAt_of_ne (f : Nat → Nat) {k q : Nat} (x : Nat) (h : q ≠ k) : setAt f k x q = f q := if_neg h

theorem sumBy_range_succ (f : Nat → Nat) (n : Nat) :
    sumBy f (List.range (n + 1)) = sumBy f (List.range n) + f n := by
  rw [sumBy, List.range_succ, List.foldl_append]
  rfl

theorem sumBy_range_zero (n : Nat) : sumBy (fun _ => 0) (List.range n) = 0 := by
  induction n with
  | zero => rfl
  | succ n ih => rw [sumBy_range_succ, ih]

theorem sumBy_setAt_of_le (f : Nat → Nat) (x : Nat) {n k : Nat} (hk : n ≤ k) :
    sumBy (setAt f k x) (List.range n) = sumBy f (List.range n) := by
  induction n with
  | zero => rfl
  | succ n ih =>
    rw [sumBy_range_succ, sumBy_range_succ, ih (Nat.le_of_succ_le hk), setAt_of_ne f x (Nat.ne_of_lt hk)]

/-- The new value joins the sum and the old one leaves it. -/
theorem sumBy_setAt_add (f : Nat → Nat) (x : Nat) {n k : Nat} (hk : k < n) :
    sumBy (setAt f k x) (List.range n) + f k = sumBy f (List.range n) + x := by
  induction n with
  | zero => exact absurd hk (Nat.not_lt_zero k)
  | succ n ih =>
    rw [sumBy_range_succ, sumBy_range_succ]
    by_cases hkn : k = n
    · subst hkn
      rw [sumBy_setAt_of_le f x (Nat.le_refl k), setAt_self]
      omega
    · have hsum := ih (by omega)
      rw [setAt_of_ne f x (Ne.symm hkn)]
      omega

/-! ### A table over the reset values -/

/-- RESERVE of every queue: the base `f`, overwritten by the listed queues in turn. -/
def reserveOver (f : Nat → Nat) (t : Tbl VatQueue) : Nat → Nat :=
  t.foldl (fun f e => setAt f e.1 (e.2.reserve.getD (queueReserve0 e.1))) f

theorem reserveOver_cons (f : Nat → Nat) (k : Nat) (v : VatQueue) (t : Tbl VatQueue) :
    reserveOver f ((k, v) :: t) = reserveOver (setAt f k (v.reserve.getD (queueReserve0 k))) t := rfl

/-- The overwritten base is what `Tbl.get` reads, for a default entry `d` that stands for the base. -/
theorem reserveOver_apply {t : Tbl VatQueue} (hs : Tbl.sorted t = true) {f : Nat → Nat} {q : Nat} {d : VatQueue}
    (hd : f q = d.reserve.getD (queueReserve0 q)) :
    reserveOver f t q = (Tbl.get t q d).reserve.getD (queueReserve0 q) := by
  induction t generalizing f d with
  | nil => exact hd
  | cons e t ih =>
    obtain ⟨k, v⟩ := e
    obtain ⟨habove, htail⟩ := (Tbl.sorted_cons k v t).mp hs
    rw [reserveOver_cons]
    by_cases hk : k = q
    · subst hk
      have hread : Tbl.get ((k, v) :: t) k d = v := if_pos rfl
      have hover := ih htail (d := v) (setAt_self f k (v.reserve.getD (queueReserve0 k)))
      rw [hover, hread, Tbl.get_above v habove]
    · have hread : Tbl.get ((k, v) :: t) q d = Tbl.get t q d := if_neg hk
      rw [hread]
      exact ih htail ((setAt_of_ne f _ (Ne.symm hk)).trans hd)

/-- Over the reset values, the table gives the RESERVE of the state. -/
theorem reserveOver_reserve0 {s : State} (hs : Tbl.sorted s.vat.queues = true) (q : Nat) :
    reserveOver queueReserve0 s.vat.queues q = queueReserve q s := reserveOver_apply hs rfl

/-! ### The fold -/

/-- One step of the fold: the overwritten value is part of the sum, so that nothing is cut off by the subtraction. -/
theorem sumBy_setAt {n k : Nat} (hk : k < n) (f : Nat → Nat) (x : Nat) :
    sumBy f (List.range n) + x - f k = sumBy (setAt f k x) (List.range n) := by
  rw [← sumBy_setAt_add f x hk, Nat.add_sub_cancel]

/-- The fold of `sumReserve` starting from the sum of a base that holds the reset value of every listed queue. -/
theorem foldl_reserve {n : Nat} {t : Tbl VatQueue} (hs : Tbl.sorted t = true) (hlt : ∀ e ∈ t, e.1 < n) {f : Nat → Nat}
    (hf : ∀ e ∈ t, f e.1 = queueReserve0 e.1) :
    t.foldl (fun m e => m + e.2.reserve.getD (queueReserve0 e.1) - queueReserve0 e.1) (sumBy f (List.range n)) =
      sumBy (reserveOver f t) (List.range n) := by
  induction t generalizing f with
  | nil => rfl
  | cons e t ih =>
    obtain ⟨hk, hlt⟩ := List.forall_mem_cons.mp hlt
    obtain ⟨hfk, hf⟩ := List.forall_mem_cons.mp hf
    obtain ⟨habove, htail⟩ := (Tbl.sorted_cons e.1 e.2 t).mp hs
    rw [List.foldl_cons, ← hfk, sumBy_setAt hk, hfk, reserveOver_cons]
    exact ih htail hlt fun e' he => (setAt_of_ne f _ (Nat.ne_of_gt (habove e' he))).trans (hf e' he)

/-- Only the queues 672 and 674 have a reserve at reset (R207). -/
theorem queueReserve0_eq_setAt : queueReserve0 = setAt (setAt (fun _ => 0) 674 64) 672 256 := rfl

theorem sumBy_queueReserve0 : sumBy queueReserve0 (List.range 1024) = 320 := by
  rw [queueReserve0_eq_setAt, ← sumBy_setAt (by decide), ← sumBy_setAt (by decide), sumBy_range_zero]
  rfl

theorem sumReserve_eq_sum {s : State} (hs : Tbl.sorted s.vat.queues = true) (hlt : ∀ e ∈ s.vat.queues, e.1 < 1024) :
    sumReserve s = sumBy (fun q => queueReserve q s) (List.range 1024) := by
  rw [sumReserve, ← sumBy_queueReserve0, foldl_reserve hs hlt fun _ _ => rfl]
  exact congrArg (sumBy · (List.range 1024)) (funext (reserveOver_reserve0 hs))

end Sys2Proof.Machine
end

section
/-! PROOF. SHARED is what the reserves leave, and CMD_VAT_QUEUE keeps the sum of RESERVE at most 89,088 (R208). -/

namespace Sys2Proof

open Machine

/-- The state with the limits that CMD_VAT_QUEUE with OP 1 asks for, clamped (R207). -/
def limitsApplied (p : Bytes) (s : State) : State :=
  let q := u16 p 0
  let res := min 16384 (u32 p 4)
  setVatQueue q { vatQueue q s with
    reserve := held res (queueReserve0 q)
    max := held (max (max 1 res) (min 98304 (u32 p 8))) (queueMax0 q)
    maxRes := held (min 2000000 (u32 p 12)) (queueMaxRes0 q) } s

theorem cmdVatQueue_idx {r : Req} (s : State) (hq : isLimitQueue (u16 r.params 0) = true) (hop : u8 r.params 2 = 1) :
    cmdVatQueue.idx r s = stOk := by
  simp [cmdVatQueue, need, hq, hop]

/-- What OP 1 answers: NO_SPACE over the old state, or OK over the new limits. -/
theorem cmdVatQueue_body_write {r : Req} (s : State) (hop : u8 r.params 2 = 1) :
    cmdVatQueue.body r s =
      if 89088 < sumReserve (limitsApplied r.params s) then fail stNoSpace s
      else ok (vatQueueRsp (u16 r.params 0) 1 (limitsApplied r.params s)) (limitsApplied r.params s) :=
  if_neg (by rw [hop]; decide)

section
variable {p : Bytes} {s : State} (hlen : p.length = 16) (hq : isLimitQueue (u16 p 0) = true) (hop : u8 p 2 = 1)
include hlen hq hop

/-- Serving OP 1 from MB0 comes down to what the body answers. -/
theorem runCmd_vatQueue_write {tgt st : Nat} {data : Bytes} {u : State} (hserved : Served 0 0x0700 tgt p s)
    (hbody : ∀ tag, cmdVatQueue.body ⟨0, 0x0700, tag, tgt, p⟩ s = .done st data u) :
    runCmd cmdVatQueue 0 s = mbDone 0 st u.sets.gen data u :=
  runCmd_neither rfl hserved (fun _ => by simp [cmdVatQueue, readAny, readOps]) (by simp [cmdVatQueue, len, hlen])
    (fun _ => cmdVatQueue_idx s hq hop) hbody

theorem serves_cmdVatQueue_write (hfits : sumReserve (limitsApplied p s) ≤ 89088) :
    Serves (.cmdVatQueue 0) 0 0x0700 p (vatQueueRsp (u16 p 0) 1 (limitsApplied p s)) s (limitsApplied p s) :=
  fun _ hserved => congrArg Host.Outcome.next (runCmd_vatQueue_write hlen hq hop hserved fun _ =>
    (cmdVatQueue_body_write s hop).trans (if_neg (Nat.not_lt.mpr hfits)))

theorem refuses_cmdVatQueue_write {tgt : Nat} (hover : 89088 < sumReserve (limitsApplied p s))
    (hserved : Served 0 0x0700 tgt p s) : Refuses (.cmdVatQueue 0) 0 stNoSpace s :=
  congrArg Host.Outcome.next (runCmd_vatQueue_write hlen hq hop hserved fun _ =>
    (cmdVatQueue_body_write s hop).trans (if_pos hover))

end

/-- Settles O29: on a sorted table the fold over the listed queues is the sum over all slots, and OP 1 tests that sum. -/
theorem sharedPoolIsWhatReservesLeave : Obligations.SharedPoolIsWhatReservesLeave := by
  unfold Obligations.SharedPoolIsWhatReservesLeave
  refine ⟨fun s hs hlt => ?_, fun p s hlen hq hop => ⟨fun hfits => ?_, fun hover _ hserved => ?_⟩, rfl, rfl⟩
  · exact congrArg (98304 - 1024 - 8192 - ·) (sumReserve_eq_sum hs hlt)
  · exact serves_cmdVatQueue_write hlen hq hop hfits
  · exact refuses_cmdVatQueue_write hlen hq hop hover hserved

end Sys2Proof
end

section
/-! SUPPORT. The time unit: what a step and a TIME cycle write and leave (R268, R271, R272). -/

namespace Sys2Proof.Machine

/-! ### What the users of a time base leave of the time bases and of the configuration sets -/

/-- What every item leaves, the whole fold leaves. -/
theorem forEach_keeps {α β : Type} (f : State → β) (l : List α) (g : α → State → State) (s : State)
    (h : ∀ x s, f (g x s) = f s) : f (forEach l g s) = f s := by
  unfold forEach
  induction l generalizing s with
  | nil => rfl
  | cons x l ih => exact (ih (g x s)).trans (h x s)

@[simp] theorem setPps_tb (k : Nat) (x : Pps) (s : State) : (setPps k x s).time.tb = s.time.tb := rfl
@[simp] theorem setCmp_tb (n k : Nat) (x : Compare) (s : State) : (setCmp n k x s).time.tb = s.time.tb := rfl

@[simp] theorem interruptPre_time (p : Nat) (s : State) : (interruptPre p s).time = s.time := by
  unfold interruptPre
  dsimp only
  repeat' split
  all_goals simp

@[simp] theorem interruptPre_sets (p : Nat) (s : State) : (interruptPre p s).sets = s.sets := by
  unfold interruptPre
  dsimp only
  repeat' split
  all_goals simp

@[simp] theorem gateApply_time (p : Nat) (join : Bool) (s : State) : (gateApply p join s).time = s.time := by
  unfold gateApply
  dsimp only
  repeat' split
  all_goals simp

@[simp] theorem gateApply_sets (p : Nat) (join : Bool) (s : State) : (gateApply p join s).sets = s.sets := by
  unfold gateApply
  dsimp only
  repeat' split
  all_goals simp

@[simp] theorem gateRejoin_time (n : Nat) (s : State) : (gateRejoin n s).time = s.time := by
  refine forEach_time _ _ _ fun p s => ?_
  dsimp only
  repeat' split
  all_goals simp

@[simp] theorem gateRejoin_sets (n : Nat) (s : State) : (gateRejoin n s).sets = s.sets := by
  refine forEach_sets _ _ _ fun p s => ?_
  dsimp only
  repeat' split
  all_goals simp

@[simp] theorem ppsFire_tb (k : Nat) (s : State) : (ppsFire k s).time.tb = s.time.tb := by
  unfold ppsFire
  dsimp only
  split <;> simp

@[simp] theorem ppsFire_sets (k : Nat) (s : State) : (ppsFire k s).sets = s.sets := by
  unfold ppsFire
  dsimp only
  split <;> simp

theorem cmpFired_tb {n : Nat} (k : Nat) (s : State) (hn : n ≠ 0) : (cmpFired n k s).time.tb = s.time.tb := by
  simp only [cmpFired, if_neg hn]
  split <;> simp

theorem cmpFired_sets {n : Nat} (k : Nat) (s : State) (hn : n ≠ 0) : (cmpFired n k s).sets = s.sets := by
  simp only [cmpFired, if_neg hn]
  split <;> simp

/-! ### A step (R271) -/

/-- The offset that a step applies. -/
def stepOffset (n : Nat) (off : Int) (s : State) : Int :=
  if ((tbOf n s).count : Int) + off < 0 then -((tbOf n s).count : Int) else off

/-- The time base after the step. -/
def steppedTb (n : Nat) (off : Int) (s : State) : TimeBase :=
  { tbOf n s with
    state := .stepped
    count := (((tbOf n s).count : Int) + stepOffset n off s).toNat % 18446744073709551616
    lastEvent := now s }

theorem stepTb_offset (n : Nat) (off : Int) (s : State) : (stepTb n off s).1 = stepOffset n off s := rfl

section
variable {n : Nat} (off : Int) (s : State) (hn : n ≠ 0)
include hn

/-- The compare units re-phase and the gate lists re-join over the one write of the step. -/
theorem stepTb_tb : (stepTb n off s).2.time.tb = (setTb n (steppedTb n off s) s).time.tb := by
  simp only [stepTb, notice_time, gateRejoin_time, raise_time, count_time]
  refine forEach_keeps (·.time.tb) _ _ _ fun k s => ?_
  repeat' split
  all_goals simp [cmpFired_tb _ _ hn]

theorem stepTb_sets : (stepTb n off s).2.sets = s.sets := by
  simp only [stepTb, notice_sets, gateRejoin_sets, raise_sets, count_sets]
  refine forEach_keeps (·.sets) _ _ _ fun k s => ?_
  repeat' split
  all_goals simp [cmpFired_sets _ _ hn]

theorem tbOf_stepTb (hs : Tbl.sorted s.time.tb = true) : tbOf n (stepTb n off s).2 = steppedTb n off s := by
  rw [tbOf, stepTb_tb off s hn]
  exact (tbOf_setTb n n _ s hs).trans (if_pos rfl)

end

/-! ### A TIME cycle (R268) -/

/-- At a rate within its limits no advance is negative, so the sum in units of 2^-44 ns is exact up to the wrap. -/
theorem tbTick_count_frac {t : TimeBase} (hen : t.state ≠ .disabled) (hrate : -8796093022 ≤ t.rate) :
    let x : Int := (t.count : Int) * 17592186044416 + t.frac + 2 * (17592186044416 + t.rate)
    ((tbTick t).count : Int) = x / 17592186044416 % 18446744073709551616 ∧
      ((tbTick t).frac : Int) = x % 17592186044416 := by
  simp only [tbTick, if_neg hen]
  constructor <;> omega

theorem tbTick_rate (t : TimeBase) : (tbTick t).rate = t.rate := by
  unfold tbTick
  split <;> rfl

theorem tbTick_state (t : TimeBase) : (tbTick t).state = t.state := by
  unfold tbTick
  split <;> rfl

/-- All six time bases one TIME cycle on. -/
def tbsTicked (s : State) : State := { s with time := { s.time with tb := s.time.tb.map (fun e => (e.1, tbTick e.2)) } }

theorem execTimeCycleTick_of_runs {s : State} (hruns : timeRuns s = true) :
    execTimeCycleTick s = .next (forEach (List.range 32) (egrAdvance 2) (tbsTicked s)) := by
  simp [execTimeCycleTick, hruns, tbsTicked]

/-! ### The commands (R293) -/

/-- TB 1 to 5 and MODE 0 or 1 pass the check of the indices. -/
theorem need_tbIdx_mode {r : Req} (h1 : 1 ≤ u8 r.params 0) (h5 : u8 r.params 0 ≤ 5) (hmode : u8 r.params 1 < 2) :
    need (tbIdx r && decide (u8 r.params 1 < 2)) = stOk := by
  rw [tbIdx, decide_eq_true h1, decide_eq_true h5, decide_eq_true hmode]
  rfl

section
variable {r : Req} {s : State}

theorem cmdTbStep_body_stepped (hst : (tbOf (u8 r.params 0) s).state = .stepped) :
    cmdTbStep.body r s = fail stStepUsed s :=
  if_pos hst

/-- MODE 0 steps by the offset that the request holds. -/
theorem cmdTbStep_body_offset (hmode : u8 r.params 1 = 0) (hst : (tbOf (u8 r.params 0) s).state = .enabled)
    (hown : hostOwns (u8 r.params 0) s = true) :
    cmdTbStep.body r s =
      ok (sle 8 (stepOffset (u8 r.params 0) (i64 r.params 8) s) ++ b8 (now (stepTb (u8 r.params 0) (i64 r.params 8) s).2))
        (stepTb (u8 r.params 0) (i64 r.params 8) s).2 := by
  have hunused : (tbOf (u8 r.params 0) s).state ≠ .stepped := by simp [hst]
  have hrunning : (tbOf (u8 r.params 0) s).state ≠ .disabled := by simp [hst]
  have hoffset : u8 r.params 1 ≠ 1 := by omega
  refine (if_neg hunused).trans ((if_neg hrunning).trans ((if_neg (hoffset ·.1)).trans ((if_neg (by simp [hown])).trans ?_)))
  dsimp only
  rw [if_pos hmode, stepTb_offset]

theorem cmdTbRate_body_owned (hst : (tbOf (u8 r.params 0) s).state ≠ .disabled)
    (hown : hostOwns (u8 r.params 0) s = true) :
    cmdTbRate.body r s =
      let v := rateClamp (i64 r.params 8 + (if u8 r.params 1 = 1 then (tbOf (u8 r.params 0) s).rate else 0))
      ok (sle 8 v) (setTb (u8 r.params 0) { tbOf (u8 r.params 0) s with rate := v } s) := by
  simp [cmdTbRate, hst, hown]

end

end Sys2Proof.Machine
end

section
/-! PROOF. A time base takes one step; its rate changes without limit (R271, R272). -/

namespace Sys2Proof

open Machine

section
variable {p : Bytes} {s : State} (h1 : 1 ≤ u8 p 0) (h5 : u8 p 0 ≤ 5)
include h1 h5

theorem serves_cmdTbStep (hlen : p.length = 24) (hmode : u8 p 1 = 0) (hst : (tbOf (u8 p 0) s).state = .enabled)
    (hown : hostOwns (u8 p 0) s = true) :
    Serves (.cmdTbStep 0) 0 0x0901 p
      (sle 8 (stepOffset (u8 p 0) (i64 p 8) s) ++ b8 (now (stepTb (u8 p 0) (i64 p 8) s).2)) s
      (stepTb (u8 p 0) (i64 p 8) s).2 := by
  have hindex : u8 p 1 < 2 := by omega
  exact fun _ hserved => answers_neither cmdTbStep rfl rfl hserved (fun _ => rfl) (beq_iff_eq.mpr hlen)
    (fun _ => need_tbIdx_mode h1 h5 hindex) (fun _ => cmdTbStep_body_offset hmode hst hown)
    (congrArg Sets.gen (stepTb_sets _ s (Nat.ne_of_gt h1)))

theorem refuses_cmdTbStep_stepped {tgt : Nat} (hlen : p.length = 24) (hmode : u8 p 1 = 0)
    (hst : (tbOf (u8 p 0) s).state = .stepped) (hserved : Served 0 0x0901 tgt p s) :
    Refuses (.cmdTbStep 0) 0 stStepUsed s := by
  have hindex : u8 p 1 < 2 := by omega
  exact congrArg Host.Outcome.next (runCmd_neither (c := cmdTbStep) rfl hserved (fun _ => rfl) (beq_iff_eq.mpr hlen)
    (fun _ => need_tbIdx_mode h1 h5 hindex) fun _ => cmdTbStep_body_stepped hst)

theorem serves_cmdTbRate (hlen : p.length = 16) (hmode : u8 p 1 < 2) (hst : (tbOf (u8 p 0) s).state ≠ .disabled)
    (hown : hostOwns (u8 p 0) s = true) :
    let v := rateClamp (i64 p 8 + (if u8 p 1 = 1 then (tbOf (u8 p 0) s).rate else 0))
    Serves (.cmdTbRate 0) 0 0x0902 p (sle 8 v) s (setTb (u8 p 0) { tbOf (u8 p 0) s with rate := v } s) :=
  fun _ hserved => answers_neither cmdTbRate rfl rfl hserved (fun _ => rfl) (beq_iff_eq.mpr hlen)
    (fun _ => need_tbIdx_mode h1 h5 hmode) (fun _ => cmdTbRate_body_owned hst hown) rfl

end

/-- A TIME cycle advances the time bases and the egress ports, and leaves the rest. -/
theorem ends_timeCycleTick {s : State} (hruns : timeRuns s = true) : Ends .timeCycleTick s (fun t =>
    t.time.tb = s.time.tb.map (fun e => (e.1, tbTick e.2)) ∧ t.vat = s.vat ∧ t.ctl = s.ctl ∧ t.sets = s.sets) :=
  ⟨_, execTimeCycleTick_of_runs hruns, congrArg TimeUnit.tb (forEach_time _ _ _ fun _ _ => setEgr_time _ _ _),
    forEach_vat _ _ _ fun _ _ => setEgr_vat _ _ _, forEach_ctl _ _ _ fun _ _ => setEgr_ctl _ _ _,
    forEach_sets _ _ _ fun _ _ => setEgr_sets _ _ _⟩

/-- Settles O34: the users of the time base that a step re-phases and re-joins leave the count that it wrote. -/
theorem aTimeBaseStepsOnce : Obligations.ATimeBaseStepsOnce := by
  unfold Obligations.ATimeBaseStepsOnce
  rintro _ p s h1 h5 hlen rfl hmode
  refine ⟨fun hst hown => ⟨?_, fun hs => ?_⟩, fun hst _ hserved => ?_⟩
  · exact serves_cmdTbStep h1 h5 hlen hmode hst hown
  · exact tbOf_stepTb _ s (Nat.ne_of_gt h1) hs
  · exact refuses_cmdTbStep_stepped h1 h5 hlen hmode hst hserved

/-- Settles O35: the body writes the clamped rate alone, and the next TIME cycle advances by it. -/
theorem ratesAreClampedAndTakeEffect : Obligations.RatesAreClampedAndTakeEffect := by
  unfold Obligations.RatesAreClampedAndTakeEffect
  refine ⟨?_, fun t hen _ hrate _ => ?_, fun s hruns => ends_timeCycleTick hruns⟩
  · rintro _ p s h1 h5 hlen rfl hmode hst hown
    exact serves_cmdTbRate h1 h5 hlen hmode (by rcases hst with hst | hst <;> simp [hst]) hown
  · obtain ⟨hcount, hfrac⟩ := tbTick_count_frac hen hrate
    exact ⟨hcount, hfrac, tbTick_rate t, tbTick_state t⟩

end Sys2Proof
end

section
/-! PROOF. A chain frame with an inbound bit 3 at 1 is discarded and counted, the sixteenth in a row raises TMC_CHAIN,
and no channel changes (R322). -/

namespace Sys2Proof.Machine

/-! ### The cluster's operations -/

@[simp] theorem setEdgeCl_ch (m : Nat) (x : EdgeCluster) (s : State) : (setEdgeCl m x s).edge.ch = s.edge.ch := rfl

/-- The event of a cluster's first channel is the cluster's own (R326). -/
theorem edgeEv_cluster (m b : Nat) (s : State) :
    edgeEv (16 * m) b s = trace 1 (46 + m) b (chanLoc (16 * m)) (raise (46 + m) b s) := by
  simp [edgeEv]

/-! ### The two ends of a frame -/

/-- The outbound frame is sent and the inbound one is discarded: one more in the row, counted in TMC_FRAME_ERR. -/
def tmcDiscarded (m : Nat) (s : State) : State :=
  count 255 (136 + m) (setEdgeCl m
    { edgeCl m s with outFrame := frameOut m s, bad := satAdd max32 (edgeCl m s).bad 1 } (emit (.tmc m (frameOut m s)) s))

/-- The outbound frame is sent and the inbound one is kept as the last good frame, which ends the row. -/
def tmcKept (m inbound : Nat) (s : State) : State :=
  setEdgeCl m { edgeCl m s with outFrame := frameOut m s, inFrame := inbound, bad := 0 } (emit (.tmc m (frameOut m s)) s)

@[simp] theorem tmcDiscarded_ch (m : Nat) (s : State) : (tmcDiscarded m s).edge.ch = s.edge.ch := by
  simp [tmcDiscarded]

/-! ### A cluster of use FULL, awake and powered -/

section
variable {m inbound : Nat} {s : State} (hfull : (edgeCl m s).use = 2) (hawake : s.sleep.asleep = false)
  (hrail : s.power.railGood.getLsbD 5 = true)
include hfull hawake hrail

theorem execTmcFrame_of_bit3 {k : Nat} (hk : k < 16) (hbit : inbound.testBit (4 * k + 3) = true) :
    execTmcFrame m inbound s = .next
      (if (edgeCl m s).bad + 1 = 16 then edgeEv (16 * m) 19 (tmcDiscarded m s) else tmcDiscarded m s) := by
  have hany : (List.range 16).any (fun k => inbound.testBit (4 * k + 3)) = true :=
    List.any_eq_true.mpr ⟨k, List.mem_range.mpr hk, hbit⟩
  simp only [execTmcFrame, hfull, hawake, hrail, hany, tmcDiscarded]
  simp

theorem execTmcFrame_of_no_bit3 (hclear : ∀ k < 16, inbound.testBit (4 * k + 3) = false) :
    execTmcFrame m inbound s = .next
      (forEach (List.range 16) (fun k => tmcNibble m (16 * m + k) (inbound / 16 ^ k % 16)) (tmcKept m inbound s)) := by
  have hany : (List.range 16).any (fun k => inbound.testBit (4 * k + 3)) = false :=
    List.any_eq_false.mpr fun k hk => Bool.eq_false_iff.mp (hclear k (List.mem_range.mp hk))
  simp only [execTmcFrame, hfull, hawake, hrail, hany, tmcKept]
  simp

end

end Sys2Proof.Machine

namespace Sys2Proof

open Machine

/-- Settles O40: discarding writes the cluster alone, and the row's length decides whether TMC_CHAIN follows. -/
theorem chainFramesWithBit3AreDiscarded : Obligations.ChainFramesWithBit3AreDiscarded := by
  unfold Obligations.ChainFramesWithBit3AreDiscarded
  refine ⟨fun m inbound k s _ hfull hawake hrail hk hbit => ?_, fun m inbound s _ hfull hawake hrail hclear => ?_⟩
  · refine ⟨edgeEv_cluster m 19 _ ▸ execTmcFrame_of_bit3 hfull hawake hrail hk hbit, ?_⟩
    dsimp only
    split
    · rw [trace_edge, raise_edge]
      exact tmcDiscarded_ch m s
    · exact tmcDiscarded_ch m s
  · exact execTmcFrame_of_no_bit3 hfull hawake hrail hclear

end Sys2Proof
end

section
/-! SUPPORT. The one-time-programmable memory and the queue of commands under every operation of the model: one lemma per
operation, that it leaves both. The few that burn are below (R395, R414, R524). -/

namespace Sys2Proof.Machine

open Sys2Proof

/-- What the burning commands and the queue alone change: the one-time-programmable memory and the waiting commands. -/
def frozen (s : State) : Otp × List Instr := (s.otp, s.pending)

/-- A record update that names neither field leaves both. -/
@[simp] theorem frozen_mk
    (power boot host ctl sets parse vat flow time edge ports svc cellar press gw pair sleep test alarms otp
    flash upd out fresh pending) :
    frozen (State.mk power boot host ctl sets parse vat flow time edge ports svc cellar press gw pair sleep test alarms otp
      flash upd out fresh pending) = (otp, pending) := by
  unfold frozen; rfl

@[simp] theorem otp_pending (s : State) : (s.otp, s.pending) = frozen s := by
  unfold frozen; rfl

theorem otp_of_frozen {s t : State} (h : frozen t = frozen s) : t.otp = s.otp := congrArg Prod.fst h

theorem pending_of_frozen {s t : State} (h : frozen t = frozen s) : t.pending = s.pending := congrArg Prod.snd h

/-- The state that a call answered is frozen where the call's result is. -/
theorem frozen_of_eq {α : Type} {e : α × State} {a : α} {s t : State} (h : e = (a, t)) (hk : frozen e.2 = frozen s) :
    frozen t = frozen s := by
  subst h
  exact hk

/-- What every item leaves, the whole fold leaves. -/
theorem foldl_keeps {α β γ : Type} (f : α → γ) (g : α → β → α) (l : List β) (a : α) (h : ∀ a x, f (g a x) = f a) :
    f (l.foldl g a) = f a := by
  induction l generalizing a with
  | nil => rfl
  | cons x l ih => exact (ih (g a x)).trans (h a x)

theorem forEach_frozen {α : Type} (l : List α) (g : α → State → State) (s : State) (h : ∀ x s, frozen (g x s) = frozen s) :
    frozen (forEach l g s) = frozen s := forEach_keeps frozen l g s h

/-- A meaning that answers a state answers one with the OTP and the queue of `s`. -/
def Freezes (s : State) (r : Res) : Prop := ∀ t, r = .next t → frozen t = frozen s

@[simp] theorem freezes_next (s t : State) : Freezes s (.next t) ↔ frozen t = frozen s := by simp [Freezes]

@[simp] theorem freezes_fault (s : State) (r : Fault) : Freezes s (.fault r) := by simp [Freezes]

theorem freezes_of_frozen_eq {s u : State} {r : Res} (h : frozen u = frozen s) (hr : Freezes u r) : Freezes s r :=
  fun t ht => (hr t ht).trans h

/-- The body of a mailbox command leaves the OTP and the queue. -/
def AnsFreezes (s : State) : Ans → Prop
  | .done _ _ t => frozen t = frozen s
  | .busy t => frozen t = frozen s

@[simp] theorem ansFreezes_done (s t : State) (st : Nat) (d : Bytes) :
    AnsFreezes s (.done st d t) ↔ frozen t = frozen s := .rfl

@[simp] theorem ansFreezes_busy (s t : State) : AnsFreezes s (.busy t) ↔ frozen t = frozen s := .rfl

@[simp] theorem ansFreezes_ok (s t : State) (d : Bytes) : AnsFreezes s (ok d t) ↔ frozen t = frozen s := .rfl

@[simp] theorem ansFreezes_fail (s t : State) (st : Nat) : AnsFreezes s (fail st t) ↔ frozen t = frozen s := .rfl

/-! ### The operations that every family of commands shares -/

@[simp] theorem countN_frozen (p i n : Nat) (s : State) : frozen (countN p i n s) = frozen s := by simp [countN]

@[simp] theorem count_frozen (p i : Nat) (s : State) : frozen (count p i s) = frozen s := by simp [count]

@[simp] theorem countMax_frozen (p i v : Nat) (s : State) : frozen (countMax p i v s) = frozen s := by
  simp [countMax, apply_ite frozen]

@[simp] theorem countEntry_frozen (table idx : Nat) (s : State) : frozen (countEntry table idx s) = frozen s := by
  simp [countEntry]

@[simp] theorem clearEntry_frozen (table idx : Nat) (s : State) : frozen (clearEntry table idx s) = frozen s := by
  simp [clearEntry]

@[simp] theorem emit_frozen (o : Output) (s : State) : frozen (emit o s) = frozen s := by simp [emit]

@[simp] theorem takeFresh_frozen (s : State) : frozen (takeFresh s).2 = frozen s := by simp [takeFresh]

@[simp] theorem msixSend_frozen (v : Nat) (s : State) : frozen (msixSend v s) = frozen s := by simp [msixSend]

@[simp] theorem evChanged_frozen (ev : Nat) (before : Bool) (s : State) : frozen (evChanged ev before s) = frozen s := by
  simp [evChanged, apply_ite frozen]

@[simp] theorem setCause_frozen (ev : Nat) (v : BitVec 32) (s : State) : frozen (setCause ev v s) = frozen s := by
  simp [setCause]

@[simp] theorem setCauseEn_frozen (ev : Nat) (v : BitVec 32) (s : State) : frozen (setCauseEn ev v s) = frozen s := by
  simp [setCauseEn]

@[simp] theorem raiseMask_frozen (ev : Nat) (m : BitVec 32) (s : State) : frozen (raiseMask ev m s) = frozen s := by
  simp [raiseMask]

@[simp] theorem raise_frozen (ev b : Nat) (s : State) : frozen (raise ev b s) = frozen s := by simp [raise]

@[simp] theorem traceDrop_frozen (sev : Nat) (s : State) : frozen (traceDrop sev s) = frozen s := by simp [traceDrop]

@[simp] theorem traceRec_frozen (sev ev b loc code : Nat) (data : Bytes) (s : State) :
    frozen (traceRec sev ev b loc code data s) = frozen s := by
  unfold traceRec
  dsimp only
  repeat' split
  all_goals simp

@[simp] theorem trace_frozen (sev ev b loc : Nat) (s : State) : frozen (trace sev ev b loc s) = frozen s := by simp [trace]

@[simp] theorem alarmDen_frozen (k loc : Nat) (s : State) : frozen (alarmDen k loc s) = frozen s := by simp [alarmDen]

@[simp] theorem alarmReg_frozen (k loc : Nat) (s : State) : frozen (alarmReg k loc s) = frozen s := by simp [alarmReg]

@[simp] theorem alarm_frozen (k loc : Nat) (s : State) : frozen (alarm k loc s) = frozen s := by simp [alarm]

@[simp] theorem withActive_frozen (c : CfgSet) (s : State) : frozen (withActive c s) = frozen s := by
  simp [withActive, apply_ite frozen]

@[simp] theorem withShadow_frozen (c : CfgSet) (s : State) : frozen (withShadow c s) = frozen s := by
  simp [withShadow, apply_ite frozen]

@[simp] theorem editShadow_frozen (f : CfgSet → CfgSet) (s : State) : frozen (editShadow f s) = frozen s := by
  simp [editShadow]

@[simp] theorem setEthPort_frozen (p : Nat) (e : EthPort) (s : State) : frozen (setEthPort p e s) = frozen s := by
  simp [setEthPort]

@[simp] theorem serviceSend_frozen (kind seq off : Nat) (last : Bool) (data : Bytes) (s : State) :
    frozen (serviceSend kind seq off last data s) = frozen s := by
  unfold serviceSend
  repeat' split
  all_goals simp

@[simp] theorem pairSend_frozen (cls : Nat) (data : Bytes) (s : State) : frozen (pairSend cls data s) = frozen s := by
  simp [pairSend, apply_ite frozen]

@[simp] theorem setMb_frozen (k : Nat) (m : Mailbox) (s : State) : frozen (setMb k m s) = frozen s := by simp [setMb]

@[simp] theorem noticeTo_frozen (k code loc data : Nat) (s : State) : frozen (noticeTo k code loc data s) = frozen s := by
  simp [noticeTo, apply_ite frozen]

@[simp] theorem notice_frozen (code loc data : Nat) (s : State) : frozen (notice code loc data s) = frozen s := by
  exact forEach_frozen _ _ _ fun _ _ => by simp

@[simp] theorem serviceRespond_frozen (s : State) : frozen (serviceRespond s) = frozen s := by
  simp [serviceRespond, forEach_frozen]

@[simp] theorem mbDone_frozen (k status gen : Nat) (data : Bytes) (s : State) :
    frozen (mbDone k status gen data s) = frozen s := by
  simp [mbDone, apply_ite frozen]

/-! ### Repair candidates of the memories -/

@[simp] theorem toRepair_frozen (mem idx : Nat) (s : State) : frozen (toRepair mem idx s).2 = frozen s := by
  unfold toRepair
  dsimp only
  repeat' split
  all_goals simp

@[simp] theorem rowCorrected_frozen (mem idx : Nat) (s : State) : frozen (rowCorrected mem idx s).2 = frozen s := by
  unfold rowCorrected
  dsimp only
  repeat' split
  all_goals simp

@[simp] theorem memoryError_frozen (mem idx : Nat) (hard : Bool) (s : State) :
    frozen (memoryError mem idx hard s) = frozen s := by
  simp [memoryError, apply_ite frozen]

@[simp] theorem applyRow_frozen (mem idx : Nat) (s : State) : frozen (applyRow mem idx s) = frozen s := by
  simp [applyRow, apply_ite frozen]

@[simp] theorem applyAll_frozen (s : State) : frozen (applyAll s) = frozen s := by
  simp [applyAll, apply_ite frozen]

/-! ### The Vat -/

@[simp] theorem setVatQueue_frozen (q : Nat) (v : VatQueue) (s : State) : frozen (setVatQueue q v s) = frozen s := by
  simp [setVatQueue]

@[simp] theorem setVatPort_frozen (p : Nat) (v : VatPort) (s : State) : frozen (setVatPort p v s) = frozen s := by
  simp [setVatPort]

@[simp] theorem takeItems_frozen (isDesc : Bool) (n : Nat) (s : State) : frozen (takeItems isDesc n s).2 = frozen s := by
  simp [takeItems]

@[simp] theorem freeChanged_frozen (s : State) : frozen (freeChanged s) = frozen s := by
  simp [freeChanged, apply_ite frozen]

@[simp] theorem putFrame_frozen (fid : Nat) (v : VFrame) (s : State) : frozen (putFrame fid v s) = frozen s := by
  simp [putFrame]

@[simp] theorem dropFrame_frozen (fid : Nat) (s : State) : frozen (dropFrame fid s) = frozen s := by simp [dropFrame]

@[simp] theorem pfcSend_frozen (t p quanta : Nat) (s : State) : frozen (pfcSend t p quanta s) = frozen s := by simp [pfcSend]

@[simp] theorem pfcCheck_frozen (t : Nat) (s : State) : frozen (pfcCheck t s) = frozen s := by
  simp [pfcCheck, forEach_frozen, apply_ite frozen]

@[simp] theorem stageFrame_frozen (f : Frame) (ended : Bool) (s : State) : frozen (stageFrame f ended s).2 = frozen s := by
  unfold stageFrame
  dsimp only
  repeat' split
  all_goals simp

@[simp] theorem growFrame_frozen (fid : Nat) (more : Bytes) (s : State) : frozen (growFrame fid more s).2 = frozen s := by
  unfold growFrame
  dsimp only
  repeat' split
  all_goals simp

@[simp] theorem commitFrame_frozen (fid : Nat) (s : State) : frozen (commitFrame fid s) = frozen s := by simp [commitFrame]

@[simp] theorem releaseRef_frozen (fid : Nat) (s : State) : frozen (releaseRef fid s) = frozen s := by
  unfold releaseRef
  repeat' split
  all_goals simp

theorem dequeue_frozen (q : Nat) (s : State) : ∀ y0 t, dequeue q s = some (y0, t) → frozen t = frozen s := by
  unfold dequeue
  repeat' split
  all_goals simp

@[simp] theorem dropHead_frozen (q : Nat) (s : State) : frozen (dropHead q s) = frozen s := by
  unfold dropHead
  split
  · rfl
  · exact dequeue_frozen q s _ _ ‹_›

@[simp] theorem countQueue_frozen (q j : Nat) (s : State) : frozen (countQueue q j s) = frozen s := by simp [countQueue]

theorem ageQueue_go_frozen (q : Nat) (n : Nat) (s : State) : frozen (ageQueue.go q n s) = frozen s := by
  induction n generalizing s with
  | zero => rfl
  | succ n ih =>
    unfold ageQueue.go
    repeat' split
    all_goals simp [ih]

@[simp] theorem ageQueue_frozen (q : Nat) (s : State) : frozen (ageQueue q s) = frozen s := ageQueue_go_frozen q _ s

theorem dropBad_go_frozen (q : Nat) (n : Nat) (s : State) : frozen (dropBad.go q n s) = frozen s := by
  induction n generalizing s with
  | zero => rfl
  | succ n ih =>
    unfold dropBad.go
    repeat' split
    all_goals simp [ih]

@[simp] theorem dropBad_frozen (q : Nat) (s : State) : frozen (dropBad q s) = frozen s := dropBad_go_frozen q _ s

@[simp] theorem linkCopy_frozen (x : Copy) (s : State) : frozen (linkCopy x s) = frozen s := by simp [linkCopy]

@[simp] theorem countRefused_frozen (x : Copy) (why : Refuse) (some_admitted : Bool) (s : State) :
    frozen (countRefused x why some_admitted s) = frozen s := by
  unfold countRefused
  repeat' split
  all_goals simp

@[simp] theorem admitAll_frozen (c : Nat) (l : List Copy) (s : State) : frozen (admitAll c l s).2.2 = frozen s := by
  induction l generalizing s with
  | nil => rfl
  | cons x l ih =>
    unfold admitAll
    split <;> simp [ih]

@[simp] theorem markMc_frozen (fid : Nat) (qs : List Nat) (s : State) : frozen (markMc fid qs s) = frozen s := by
  simp [markMc, forEach_frozen]

@[simp] theorem admitCopies_frozen (fid : Nat) (copies : List Copy) (s : State) :
    frozen (admitCopies fid copies s) = frozen s := by
  unfold admitCopies
  repeat' split
  all_goals simp [forEach_frozen, apply_ite frozen]

@[simp] theorem unlinkQueue_frozen (q : Nat) (s : State) : frozen (unlinkQueue q s).2 = frozen s := by
  refine forEach_frozen _ _ _ fun _ _ => ?_
  dsimp only
  repeat' split
  all_goals simp

@[simp] theorem removeCopies_frozen (q : Nat) (p : Copy → Bool) (s : State) : frozen (removeCopies q p s).2 = frozen s := by
  unfold removeCopies
  dsimp only
  repeat' split
  all_goals simp [forEach_frozen]

@[simp] theorem badgerRecord_frozen (r : BadgerRec) (s : State) : frozen (badgerRecord r s) = frozen s := by
  simp [badgerRecord]

@[simp] theorem badgerLook_frozen (i : Item) (s : State) : frozen (badgerLook i s) = frozen s := by
  simp [badgerLook, forEach_frozen, apply_ite frozen]

theorem execBadgerAudit_freezes (s : State) : Freezes s (execBadgerAudit s) := by
  unfold execBadgerAudit
  dsimp only
  repeat' split
  all_goals simp

theorem execResidenceSweep_freezes (s : State) : Freezes s (execResidenceSweep s) := by
  simp [execResidenceSweep, forEach_frozen, apply_ite frozen]

theorem execVatEccError_freezes (kind : Nat) (ue : Bool) (index : Nat) (s : State) :
    Freezes s (execVatEccError kind ue index s) := by
  unfold execVatEccError
  repeat' split
  all_goals simp [forEach_frozen, apply_ite frozen]

theorem execPfcRepeatTimer_freezes (port prio : Nat) (s : State) : Freezes s (execPfcRepeatTimer port prio s) := by
  unfold execPfcRepeatTimer
  dsimp only
  repeat' split
  all_goals simp

theorem execPfcFrameReceive_freezes (port classes : Nat) (quanta : Bytes) (s : State) :
    Freezes s (execPfcFrameReceive port classes quanta s) := by
  simp [execPfcFrameReceive, forEach_frozen, apply_ite frozen]

theorem execPfcPauseExpiry_freezes (port prio : Nat) (s : State) : Freezes s (execPfcPauseExpiry port prio s) := by
  simp [execPfcPauseExpiry]

/-! ### The parser -/

@[simp] theorem setPicker_frozen (p : Nat) (u : ParseUnit) (s : State) : frozen (setPicker p u s) = frozen s := by
  simp [setPicker]

@[simp] theorem setWalker_frozen (n : Nat) (u : ParseUnit) (s : State) : frozen (setWalker n u s) = frozen s := by
  simp [setWalker]

@[simp] theorem putResult_frozen (fid : Nat) (r : ParseResult) (s : State) : frozen (putResult fid r s) = frozen s := by
  unfold putResult
  dsimp only
  repeat' split
  all_goals simp

@[simp] theorem forgetParse_frozen (fid : Nat) (s : State) : frozen (forgetParse fid s) = frozen s := by simp [forgetParse]

@[simp] theorem dropParsed_frozen (fid : Nat) (s : State) : frozen (dropParsed fid s) = frozen s := by
  unfold dropParsed
  repeat' split
  all_goals simp

theorem execPickerThreadAllocate_freezes (picker : Nat) (s : State) :
    Freezes s (execPickerThreadAllocate picker s) := by
  unfold execPickerThreadAllocate
  dsimp only
  repeat' split
  all_goals simp

@[simp] theorem pstoreDrop_frozen (fid : Nat) (s : State) : frozen (pstoreDrop fid s) = frozen s := by simp [pstoreDrop]

@[simp] theorem pickerRun_frozen (op : Nat) (eff : PCtx → Nat → Thread → PStep) (picker : Nat) (s : State) :
    frozen (pickerRun op eff picker s) = frozen s := by
  unfold pickerRun
  dsimp only
  repeat' split
  all_goals simp

theorem execLdf_freezes (picker : Nat) (s : State) : Freezes s (execLdf picker s) := by simp [execLdf]

theorem execCmp_freezes (picker : Nat) (s : State) : Freezes s (execCmp picker s) := by simp [execCmp]

theorem execBr_freezes (picker : Nat) (s : State) : Freezes s (execBr picker s) := by simp [execBr]

theorem execJt_freezes (picker : Nat) (s : State) : Freezes s (execJt picker s) := by simp [execJt]

theorem execAdd_freezes (picker : Nat) (s : State) : Freezes s (execAdd picker s) := by simp [execAdd]

theorem execSub_freezes (picker : Nat) (s : State) : Freezes s (execSub picker s) := by simp [execSub]

theorem execAnd_freezes (picker : Nat) (s : State) : Freezes s (execAnd picker s) := by simp [execAnd]

theorem execOr_freezes (picker : Nat) (s : State) : Freezes s (execOr picker s) := by simp [execOr]

theorem execShr_freezes (picker : Nat) (s : State) : Freezes s (execShr picker s) := by simp [execShr]

theorem execShl_freezes (picker : Nat) (s : State) : Freezes s (execShl picker s) := by simp [execShl]

theorem execAdv_freezes (picker : Nat) (s : State) : Freezes s (execAdv picker s) := by simp [execAdv]

theorem execPush_freezes (picker : Nat) (s : State) : Freezes s (execPush picker s) := by simp [execPush]

theorem execKey_freezes (picker : Nat) (s : State) : Freezes s (execKey picker s) := by simp [execKey]

theorem execMetaField_freezes (picker : Nat) (s : State) : Freezes s (execMetaField picker s) := by
  simp [execMetaField]

theorem execChklen_freezes (picker : Nat) (s : State) : Freezes s (execChklen picker s) := by simp [execChklen]

theorem execDefer_freezes (picker : Nat) (s : State) : Freezes s (execDefer picker s) := by simp [execDefer]

theorem execDone_freezes (picker : Nat) (s : State) : Freezes s (execDone picker s) := by simp [execDone]

theorem execMal_freezes (picker : Nat) (s : State) : Freezes s (execMal picker s) := by simp [execMal]

theorem execPickerStallResume_freezes (picker : Nat) (s : State) : Freezes s (execPickerStallResume picker s) := by
  simp [execPickerStallResume]

theorem execParseBudgetExhausted_freezes (picker : Nat) (s : State) :
    Freezes s (execParseBudgetExhausted picker s) := by
  unfold execParseBudgetExhausted
  dsimp only
  repeat' split
  all_goals simp

theorem execWalkerTakeover_freezes (walker : Nat) (s : State) : Freezes s (execWalkerTakeover walker s) := by
  unfold execWalkerTakeover
  dsimp only
  repeat' split
  all_goals simp

@[simp] theorem walkerRun_frozen (atLimit : Bool) (walker : Nat) (s : State) :
    frozen (walkerRun atLimit walker s) = frozen s := by
  unfold walkerRun
  dsimp only
  repeat' split
  all_goals simp

theorem execTrellisNodeVisit_freezes (walker : Nat) (s : State) : Freezes s (execTrellisNodeVisit walker s) := by
  simp [execTrellisNodeVisit]

theorem execTrellisVisitLimit_freezes (walker : Nat) (s : State) : Freezes s (execTrellisVisitLimit walker s) := by
  simp [execTrellisVisitLimit]

@[simp] theorem capacityCheck_frozen (s : State) : frozen (capacityCheck s) = frozen s := by
  simp [capacityCheck, apply_ite frozen]

@[simp] theorem setUnit_frozen (isWalker : Bool) (n : Nat) (u : ParseUnit) (s : State) :
    frozen (setUnit isWalker n u s) = frozen s := by
  simp [setUnit, apply_ite frozen]

@[simp] theorem rerunFrame_frozen (fid : Nat) (s : State) : frozen (rerunFrame fid s) = frozen s := by simp [rerunFrame]

@[simp] theorem evictUnit_frozen (isWalker : Bool) (n : Nat) (s : State) : frozen (evictUnit isWalker n s) = frozen s := by
  unfold evictUnit
  dsimp only
  repeat' split
  all_goals simp

@[simp] theorem retireUnit_frozen (isWalker : Bool) (n : Nat) (s : State) : frozen (retireUnit isWalker n s) = frozen s := by
  simp [retireUnit]

theorem execPickerFaultRerun_freezes (isWalker : Bool) (unit : Nat) (s : State) :
    Freezes s (execPickerFaultRerun isWalker unit s) := by
  unfold execPickerFaultRerun
  dsimp only
  repeat' split
  all_goals simp

theorem execPstoreEccError_freezes (setB : Bool) (kind addr : Nat) (ue : Bool) (s : State) :
    Freezes s (execPstoreEccError setB kind addr ue s) := by
  unfold execPstoreEccError
  repeat' split
  all_goals simp [forEach_frozen]

theorem execPstoreRewrite_freezes (setB : Bool) (kind addr : Nat) (s : State) :
    Freezes s (execPstoreRewrite setB kind addr s) := by
  simp [execPstoreRewrite]

/-! ### Classification -/

@[simp] theorem stashNote_frozen (c : CfgSet) (s : State) : frozen (stashNote c s) = frozen s := by
  simp [stashNote, apply_ite frozen]

@[simp] theorem bothPools_frozen (f : CfgSet → CfgSet) (s : State) : frozen (bothPools f s) = frozen s := by
  simp [bothPools, apply_ite frozen]

@[simp] theorem learnShadow_frozen (key : Bytes) (port : Nat) (s : State) : frozen (learnShadow key port s) = frozen s := by
  unfold learnShadow
  repeat' split
  all_goals simp

@[simp] theorem learn_frozen (b : Bytes) (vlan port : Nat) (s : State) : frozen (learn b vlan port s) = frozen s := by
  unfold learn
  dsimp only
  repeat' split
  all_goals simp

@[simp] theorem mergeEntry_frozen (c : CfgSet) (p idx n : Nat) (a : Merged) (s : State) :
    frozen (mergeEntry c p idx n a s).2 = frozen s := by
  simp [mergeEntry, apply_ite frozen]

@[simp] theorem zoneCheck_frozen (c : CfgSet) (ingress zone : Nat) (l : List Fwd) (z : Option Nat) (s : State) :
    frozen (zoneCheck c ingress zone l z s).2.2 = frozen s := by
  induction l generalizing z s with
  | nil => rfl
  | cons x l ih =>
    unfold zoneCheck
    dsimp only
    repeat' split
    all_goals simp [ih]

@[simp] theorem anomalyCheck_frozen (c : CfgSet) (port m t : Nat) (a : Merged) (s : State) :
    frozen (anomalyCheck c port m t a s).2.2 = frozen s := by
  unfold anomalyCheck
  dsimp only
  repeat' split
  all_goals simp

@[simp] theorem emStage_frozen (c : CfgSet) (f : Frame) (r : ParseResult) (zone : Nat) (a : Merged) (s : State) :
    frozen (emStage c f r zone a s).2 = frozen s := by
  refine foldl_keeps (fun a : _ × State => frozen a.2) _ _ _ fun acc i => ?_
  dsimp only
  repeat' split
  all_goals simp

@[simp] theorem ternaryStage_frozen (c : CfgSet) (f : Frame) (r : ParseResult) (zone : Nat) (a : Merged) (s : State) :
    frozen (ternaryStage c f r zone a s).2 = frozen s := by
  refine foldl_keeps (fun a : _ × State => frozen a.2) _ _ _ fun acc bk => ?_
  dsimp only
  split <;> simp

@[simp] theorem classify_frozen (f : Frame) (r : ParseResult) (l2 : Bool) (s : State) :
    frozen (classify f r l2 s).2 = frozen s := by
  unfold classify
  dsimp only
  simp only [zoneCheck_frozen]
  split
  all_goals
    simp only [apply_ite frozen, count_frozen, ite_self, apply_ite Prod.snd]
    repeat' split
    all_goals simp

@[simp] theorem foxTake_frozen (c : CfgSet) (port dir : Nat) (s : State) : frozen (foxTake c port dir s).2 = frozen s := by
  unfold foxTake
  dsimp only
  repeat' split
  all_goals simp

@[simp] theorem foxIngress_frozen (c : CfgSet) (f : Frame) (r : ParseResult) (o : ClsOut) (s : State) :
    frozen (foxIngress c f r o s).2 = frozen s := by
  unfold foxIngress
  dsimp only
  repeat' split
  all_goals simp

theorem execMacAgeScan_freezes (s : State) : Freezes s (execMacAgeScan s) := by
  unfold execMacAgeScan
  dsimp only
  repeat' split
  all_goals simp

theorem execTableEccError_freezes (setB : Bool) (table index : Nat) (ue : Bool) (s : State) :
    Freezes s (execTableEccError setB table index ue s) := by
  unfold execTableEccError
  dsimp only
  repeat' split
  all_goals simp

theorem execTableWordRewrite_freezes (setB : Bool) (table index : Nat) (s : State) :
    Freezes s (execTableWordRewrite setB table index s) := by
  unfold execTableWordRewrite
  repeat' split
  all_goals simp

/-! ### Confirmation of a wake after an exit -/

@[simp] theorem wakeConfirmed_frozen (w : Wake) (s : State) : frozen (wakeConfirmed w s) = frozen s := by
  simp [wakeConfirmed]

@[simp] theorem confirmIf_frozen (p : Wake → Bool) (s : State) : frozen (confirmIf p s) = frozen s := by
  unfold confirmIf
  repeat' split
  all_goals simp

@[simp] theorem confirmAny_frozen (s : State) : frozen (confirmAny s) = frozen s := by simp [confirmAny]

@[simp] theorem confirmChannel_frozen (ch : Nat) (s : State) : frozen (confirmChannel ch s) = frozen s := by
  simp [confirmChannel]

@[simp] theorem confirmLane_frozen (lane : Nat) (s : State) : frozen (confirmLane lane s) = frozen s := by simp [confirmLane]

/-! ### How Diesh serves a mailbox command -/

@[simp] theorem mbDoorbell_frozen (mb : Nat) (s : State) : frozen (mbDoorbell mb s) = frozen s := by
  unfold mbDoorbell
  dsimp only
  repeat' split
  all_goals simp

@[simp] theorem mbAck_frozen (mb : Nat) (s : State) : frozen (mbAck mb s) = frozen s := by
  simp [mbAck, apply_ite frozen]

@[simp] theorem mbWrite_frozen (mb off : Nat) (d : Bytes) (s : State) : frozen (mbWrite mb off d s) = frozen s := by
  simp [mbWrite, apply_ite frozen]

/-! ### The commands of group 0x06 -/

theorem cmdClsProfile_freezes (r : Req) (s : State) : AnsFreezes s (cmdClsProfile.body r s) := by
  unfold cmdClsProfile
  dsimp only
  repeat' split
  all_goals simp

theorem cmdClsPort_freezes (r : Req) (s : State) : AnsFreezes s (cmdClsPort.body r s) := by
  unfold cmdClsPort
  dsimp only
  repeat' split
  all_goals simp

@[simp] theorem emPut_frozen (c : CfgSet) (s : State) : frozen (emPut c s) = frozen s := by simp [emPut]

theorem cmdEmWrite_freezes (r : Req) (s : State) : AnsFreezes s (cmdEmWrite.body r s) := by
  unfold cmdEmWrite
  dsimp only
  repeat' split
  all_goals simp

theorem cmdEmRead_freezes (r : Req) (s : State) : AnsFreezes s (cmdEmRead.body r s) := by
  unfold cmdEmRead
  dsimp only
  repeat' split
  all_goals simp

theorem cmdActionWrite_freezes (r : Req) (s : State) : AnsFreezes s (cmdActionWrite.body r s) := by
  unfold cmdActionWrite
  dsimp only
  repeat' split
  all_goals simp

theorem cmdTernaryWrite_freezes (r : Req) (s : State) : AnsFreezes s (cmdTernaryWrite.body r s) := by
  unfold cmdTernaryWrite
  dsimp only
  repeat' split
  all_goals simp

theorem cmdZoneWrite_freezes (r : Req) (s : State) : AnsFreezes s (cmdZoneWrite.body r s) := by
  unfold cmdZoneWrite
  dsimp only
  repeat' split
  all_goals simp

theorem cmdAnomalyWrite_freezes (r : Req) (s : State) : AnsFreezes s (cmdAnomalyWrite.body r s) := by
  unfold cmdAnomalyWrite
  dsimp only
  repeat' split
  all_goals simp

theorem cmdVlanWrite_freezes (r : Req) (s : State) : AnsFreezes s (cmdVlanWrite.body r s) := by
  unfold cmdVlanWrite
  dsimp only
  repeat' split
  all_goals simp

theorem cmdMcastWrite_freezes (r : Req) (s : State) : AnsFreezes s (cmdMcastWrite.body r s) := by
  unfold cmdMcastWrite
  dsimp only
  repeat' split
  all_goals simp

theorem cmdMacControl_freezes (r : Req) (s : State) : AnsFreezes s (cmdMacControl.body r s) := by
  unfold cmdMacControl
  dsimp only
  repeat' split
  all_goals simp

theorem cmdFoxPort_freezes (r : Req) (s : State) : AnsFreezes s (cmdFoxPort.body r s) := by
  unfold cmdFoxPort
  dsimp only
  repeat' split
  all_goals simp

theorem cmdMirrorSession_freezes (r : Req) (s : State) : AnsFreezes s (cmdMirrorSession.body r s) := by
  unfold cmdMirrorSession
  dsimp only
  repeat' split
  all_goals simp

theorem cmdClsDevice_freezes (r : Req) (s : State) : AnsFreezes s (cmdClsDevice.body r s) := by
  unfold cmdClsDevice
  dsimp only
  repeat' split
  all_goals simp

@[simp] theorem readEntries_frozen (table first n : Nat) (clear : Bool) (s : State) :
    frozen (readEntries table first n clear s).2 = frozen s := by
  simp [readEntries, forEach_frozen, apply_ite frozen]

theorem cmdClsCounters_freezes (r : Req) (s : State) : AnsFreezes s (cmdClsCounters.body r s) := by simp [cmdClsCounters]

/-! ### Scratch banks and secure banks -/

@[simp] theorem setBank_frozen (n : Nat) (b : Bank) (s : State) : frozen (setBank n b s) = frozen s := by simp [setBank]

@[simp] theorem unitRetired_frozen (ev b loc : Nat) (s : State) : frozen (unitRetired ev b loc s) = frozen s := by
  simp [unitRetired]

@[simp] theorem relocateTrace_frozen (s : State) : frozen (relocateTrace s) = frozen s := by
  unfold relocateTrace
  repeat' split
  all_goals simp

@[simp] theorem retireBank_frozen (n : Nat) (s : State) : frozen (retireBank n s) = frozen s := by
  simp [retireBank, apply_ite frozen]

@[simp] theorem bankFault_frozen (bank off : Nat) (s : State) : frozen (bankFault bank off s) = frozen s := by
  simp [bankFault, apply_ite frozen]

@[simp] theorem bankUe_frozen (n : Nat) (offs : List Nat) (s : State) : frozen (bankUe n offs s) = frozen s := by
  simp [bankUe, forEach_frozen, apply_ite frozen]

@[simp] theorem bankRead_frozen (n off len : Nat) (s : State) : frozen (bankRead n off len s).2.2 = frozen s := by
  unfold bankRead
  dsimp only
  repeat' split
  all_goals simp

@[simp] theorem bankWrite_frozen (n off : Nat) (d : Bytes) (s : State) : frozen (bankWrite n off d s) = frozen s := by
  simp [bankWrite, apply_ite frozen]

@[simp] theorem zeroBank_frozen (n owner : Nat) (s : State) : frozen (zeroBank n owner s) = frozen s := by simp [zeroBank]

@[simp] theorem setSecure_frozen (n : Nat) (b : SecureBank) (s : State) : frozen (setSecure n b s) = frozen s := by
  simp [setSecure]

@[simp] theorem secureRead_frozen (n off len : Nat) (s : State) : frozen (secureRead n off len s).2.2 = frozen s := by
  simp [secureRead, forEach_frozen, apply_ite frozen]

@[simp] theorem secureWrite_frozen (n off : Nat) (d : Bytes) (s : State) : frozen (secureWrite n off d s) = frozen s := by
  simp [secureWrite]

@[simp] theorem zeroSecure_frozen (s : State) : frozen (zeroSecure s) = frozen s := by rfl

/-! ### The Cellar -/

@[simp] theorem setSlot_frozen (n : Nat) (x : Slot) (s : State) : frozen (setSlot n x s) = frozen s := by simp [setSlot]

@[simp] theorem setMacsec_frozen (p : Nat) (m : Macsec) (s : State) : frozen (setMacsec p m s) = frozen s := by
  simp [setMacsec]

@[simp] theorem txCheck_frozen (p : Nat) (s : State) : frozen (txCheck p s) = frozen s := by
  simp [txCheck, apply_ite frozen]

@[simp] theorem unloadSlots_frozen (p : Nat → Bool) (s : State) : frozen (unloadSlots p s) = frozen s := by
  simp [unloadSlots, forEach_frozen, apply_ite frozen]

@[simp] theorem writeSlot_frozen (n : Nat) (key : Bytes) (attr : Nat) (s : State) :
    frozen (writeSlot n key attr s) = frozen s := by
  simp [writeSlot]

@[simp] theorem owlUnload_frozen (p : Nat → Bool) (s : State) : frozen (owlUnload p s) = frozen s := by
  simp [owlUnload, apply_ite frozen]

@[simp] theorem clearSlot_frozen (n : Nat) (s : State) : frozen (clearSlot n s) = frozen s := by simp [clearSlot]

@[simp] theorem slotBad_frozen (n : Nat) (s : State) : frozen (slotBad n s) = frozen s := by simp [slotBad]

@[simp] theorem limitRefused_frozen (n : Nat) (s : State) : frozen (limitRefused n s) = frozen s := by
  simp [limitRefused, apply_ite frozen]

@[simp] theorem invoke_frozen (n : Nat) (s : State) : frozen (invoke n s) = frozen s := by
  simp [invoke, apply_ite frozen]

@[simp] theorem deriveOwn_frozen (s : State) : frozen (deriveOwn s) = frozen s := by
  simp [deriveOwn, forEach_frozen, apply_ite frozen]

@[simp] theorem restorePersist_frozen (s : State) : frozen (restorePersist s) = frozen s := by
  unfold restorePersist
  split
  · rfl
  · refine forEach_frozen _ _ _ fun e s => ?_
    dsimp only
    split <;> simp

@[simp] theorem drawBytes_frozen (n : Nat) (s : State) : frozen (drawBytes n s).2 = frozen s := by simp [drawBytes]

theorem execKeySlotScrub_freezes (slot disturb : Nat) (s : State) : Freezes s (execKeySlotScrub slot disturb s) := by
  unfold execKeySlotScrub
  dsimp only
  repeat' split
  all_goals simp

theorem execPersistSlotStore_freezes (slot : Nat) (s : State) : Freezes s (execPersistSlotStore slot s) := by
  unfold execPersistSlotStore
  dsimp only
  repeat' split
  all_goals simp

theorem execTrngHealthFail_freezes (s : State) : Freezes s (execTrngHealthFail s) := by
  unfold execTrngHealthFail
  repeat' split
  all_goals simp

theorem execTrngRecovered_freezes (s : State) : Freezes s (execTrngRecovered s) := by
  unfold execTrngRecovered
  repeat' split
  all_goals simp

theorem execDrbgReseed_freezes (s : State) : Freezes s (execDrbgReseed s) := by
  unfold execDrbgReseed
  repeat' split
  all_goals simp

/-! ### The Press -/

@[simp] theorem readSource_frozen (j : PressJob) (off n : Nat) (host : Bytes) (s : State) :
    frozen (readSource j off n host s).2.2 = frozen s := by
  unfold readSource
  repeat' split
  all_goals simp

@[simp] theorem writeDest_frozen (d : Bytes) (off : Nat) (b : Bytes) (s : State) :
    frozen (writeDest d off b s) = frozen s := by
  unfold writeDest
  repeat' split
  all_goals simp

@[simp] theorem setPressQueue_frozen (c : Nat) (q : List PressJob) (s : State) :
    frozen (setPressQueue c q s) = frozen s := by
  simp [setPressQueue]

@[simp] theorem pressSubmit_frozen (c : Nat) (j : PressJob) (s : State) : frozen (pressSubmit c j s) = frozen s := by
  simp [pressSubmit]

@[simp] theorem finishJob_frozen (c : Nat) (j : PressJob) (s : State) : frozen (finishJob c j s).2 = frozen s := by
  unfold finishJob
  dsimp only
  repeat' split
  all_goals simp

@[simp] theorem turnJob_frozen (c : Nat) (host : Bytes) (fault : Bool) (j : PressJob) (s : State) :
    frozen (turnJob c host fault j s).2 = frozen s := by
  simp only [turnJob, apply_ite frozen, apply_ite Prod.snd, readSource_frozen, writeDest_frozen, finishJob_frozen,
    limitRefused_frozen, invoke_frozen, ite_self]

theorem execPressTurn_freezes (host : Bytes) (fault : Bool) (s : State) : Freezes s (execPressTurn host fault s) := by
  unfold execPressTurn
  split
  · simp
  · split
    · simp
    · dsimp only
      split <;> simp

@[simp] theorem runRecord_frozen (mb : Nat) (rec : Bytes) (s : State) : frozen (runRecord mb rec s) = frozen s := by
  simp [runRecord, apply_ite frozen]

@[simp] theorem reenter_frozen (port : Nat) (f : Frame) (s : State) : frozen (reenter port f s) = frozen s := by
  unfold reenter
  split
  · rw [commitFrame_frozen]; exact frozen_of_eq ‹_› (stageFrame_frozen ..)
  · exact frozen_of_eq ‹_› (stageFrame_frozen ..)

@[simp] theorem portCDone_frozen (n status : Nat) (out : Bytes) (s : State) :
    frozen (portCDone n status out s) = frozen s := by
  unfold portCDone
  repeat' split
  all_goals simp

@[simp] theorem pressAnswer_frozen (j : PressJob) (status : Nat) (s : State) :
    frozen (pressAnswer j status s) = frozen s := by
  unfold pressAnswer
  repeat' split
  all_goals simp

@[simp] theorem retirePress_frozen (c : Nat) (s : State) : frozen (retirePress c s) = frozen s := by
  simp [retirePress, apply_ite frozen]

@[simp] theorem pressFault_frozen (c : Nat) (s : State) : frozen (pressFault c s) = frozen s := by
  simp [pressFault, apply_ite frozen]

@[simp] theorem zeroOnFail_frozen (j : PressJob) (s : State) : frozen (zeroOnFail j s).2 = frozen s := by
  unfold zeroOnFail
  repeat' split
  all_goals simp

theorem execPressDescriptorComplete_freezes (cls : Nat) (s : State) :
    Freezes s (execPressDescriptorComplete cls s) := by
  unfold execPressDescriptorComplete
  dsimp only
  repeat' split
  all_goals simp

@[simp] theorem flushQueue_frozen (c : Nat) (all : Bool) (s : State) : frozen (flushQueue c all s) = frozen s := by
  simp [flushQueue, forEach_frozen]

theorem execPressLockExpiry_freezes (s : State) : Freezes s (execPressLockExpiry s) := by
  unfold execPressLockExpiry
  repeat' split
  all_goals simp

@[simp] theorem stepCtr_frozen (s : State) : frozen (stepCtr s) = frozen s := by
  simp [stepCtr, apply_ite frozen]

theorem execPortCJob_freezes (s : State) : Freezes s (execPortCJob s) := by
  unfold execPortCJob
  dsimp only
  repeat' split
  all_goals simp

/-! ### Lanes and ports -/

@[simp] theorem setLane_frozen (n : Nat) (l : Lane) (s : State) : frozen (setLane n l s) = frozen s := by simp [setLane]

@[simp] theorem linkEvent_frozen (p b : Nat) (s : State) : frozen (linkEvent p b s) = frozen s := by
  unfold linkEvent
  repeat' split
  all_goals simp

@[simp] theorem setEgr_frozen (p : Nat) (e : EgrPort) (s : State) : frozen (setEgr p e s) = frozen s := by simp [setEgr]

@[simp] theorem invertOnWire_frozen (fid idx : Nat) (s : State) : frozen (invertOnWire fid idx s) = frozen s := by
  simp [invertOnWire, forEach_frozen, apply_ite frozen]

@[simp] theorem abortFrame_frozen (fid : Nat) (s : State) : frozen (abortFrame fid s) = frozen s := by
  unfold abortFrame
  dsimp only
  repeat' split
  all_goals simp [forEach_frozen]

@[simp] theorem dropRx_frozen (p : Nat) (s : State) : frozen (dropRx p s).2 = frozen s := by
  unfold dropRx
  repeat' split
  all_goals simp

@[simp] theorem portReset_frozen (p : Nat) (s : State) : frozen (portReset p s).2 = frozen s := by
  refine (setVatPort_frozen ..).trans (foldl_keeps (fun a : _ × State => frozen a.2) _ _ _ fun acc q => ?_)
  simp

@[simp] theorem enterState_frozen (p st cause : Nat) (s : State) : frozen (enterState p st cause s) = frozen s := by
  simp [enterState]

@[simp] theorem cutWire_frozen (p : Nat) (s : State) : frozen (cutWire p s) = frozen s := by
  simp [cutWire, apply_ite frozen]

@[simp] theorem leaveUp_frozen (p st cause : Nat) (s : State) : frozen (leaveUp p st cause s) = frozen s := by
  simp [leaveUp, apply_ite frozen]

@[simp] theorem refusePort_frozen (p st cause : Nat) (s : State) : frozen (refusePort p st cause s) = frozen s := by
  simp [refusePort]

@[simp] theorem retirePort_frozen (p : Nat) (s : State) : frozen (retirePort p s) = frozen s := by
  unfold retirePort
  repeat' split
  all_goals simp

@[simp] theorem retireLane_frozen (l : Nat) (s : State) : frozen (retireLane l s) = frozen s := by
  simp [retireLane, forEach_frozen, apply_ite frozen]

@[simp] theorem linkFault_frozen (p : Nat) (s : State) : frozen (linkFault p s) = frozen s := by
  simp [linkFault, apply_ite frozen]

theorem execPcsConditionChange_freezes (port : Nat) (lock laneLock localFault remoteFault : Bool)
    (errs corrected uncorrected : Nat) (s : State) :
    Freezes s (execPcsConditionChange port lock laneLock localFault remoteFault errs corrected uncorrected s) := by
  simp [execPcsConditionChange, apply_ite frozen]

theorem execAnControlWord_freezes (port word : Nat) (link duplex : Bool) (speed : Nat) (s : State) :
    Freezes s (execAnControlWord port word link duplex speed s) := by
  unfold execAnControlWord
  dsimp only
  repeat' split
  all_goals simp

@[simp] theorem setMdio_frozen (b : Nat) (m : Mdio) (s : State) : frozen (setMdio b m s) = frozen s := by simp [setMdio]

@[simp] theorem mdioStart_frozen (b : Nat) (o : MdioOp) (s : State) : frozen (mdioStart b o s) = frozen s := by
  simp [mdioStart]

@[simp] theorem mdioAsk_frozen (b : Nat) (o : MdioOp) (s : State) : frozen (mdioAsk b o s) = frozen s := by
  simp [mdioAsk, apply_ite frozen]

theorem execMdioTransactionComplete_freezes (bus value : Nat) (s : State) :
    Freezes s (execMdioTransactionComplete bus value s) := by
  unfold execMdioTransactionComplete
  dsimp only
  repeat' split
  all_goals simp

@[simp] theorem setTc10_frozen (l : Nat) (t : Tc10) (s : State) : frozen (setTc10 l t s) = frozen s := by simp [setTc10]

@[simp] theorem phyWrite_frozen (l reg v : Nat) (s : State) : frozen (phyWrite l reg v s) = frozen s := by simp [phyWrite]

@[simp] theorem tc10Sleep_frozen (l : Nat) (mb : Option Nat) (s : State) : frozen (tc10Sleep l mb s) = frozen s := by
  simp [tc10Sleep, forEach_frozen, apply_ite frozen]

@[simp] theorem tc10End_frozen (l st result : Nat) (s : State) : frozen (tc10End l st result s) = frozen s := by
  unfold tc10End
  dsimp only
  repeat' split
  all_goals simp [forEach_frozen, apply_ite frozen]

@[simp] theorem laneWake_frozen (l : Nat) (s : State) : frozen (laneWake l s) = frozen s := by
  simp [laneWake, forEach_frozen, apply_ite frozen]

@[simp] theorem phyWakeSeen_frozen (lane : Nat) (s : State) : frozen (phyWakeSeen lane s) = frozen s := by
  simp [phyWakeSeen, apply_ite frozen]

@[simp] theorem reclamp_frozen (p : Nat) (s : State) : frozen (reclamp p s) = frozen s := by simp [reclamp]

@[simp] theorem setRate_frozen (p r : Nat) (s : State) : frozen (setRate p r s) = frozen s := by
  simp [setRate, apply_ite frozen]

theorem cmdLaneMode_freezes (r : Req) (s : State) : AnsFreezes s (cmdLaneMode.body r s) := by
  unfold cmdLaneMode
  dsimp only
  repeat' split
  all_goals simp [forEach_frozen]

theorem cmdPortConfig_freezes (r : Req) (s : State) : AnsFreezes s (cmdPortConfig.body r s) := by
  unfold cmdPortConfig
  dsimp only
  repeat' split
  all_goals simp

theorem cmdPortState_freezes (r : Req) (s : State) : AnsFreezes s (cmdPortState.body r s) := by
  unfold cmdPortState
  dsimp only
  repeat' split
  all_goals simp

theorem cmdPortStatus_freezes (r : Req) (s : State) : AnsFreezes s (cmdPortStatus.body r s) := by simp [cmdPortStatus]

theorem cmdPortRetire_freezes (r : Req) (s : State) : AnsFreezes s (cmdPortRetire.body r s) := by
  unfold cmdPortRetire
  dsimp only
  repeat' split
  all_goals simp

theorem cmdPortReadmit_freezes (r : Req) (s : State) : AnsFreezes s (cmdPortReadmit.body r s) := by
  unfold cmdPortReadmit
  dsimp only
  repeat' split
  all_goals simp [forEach_frozen]

theorem cmdPhyBind_freezes (r : Req) (s : State) : AnsFreezes s (cmdPhyBind.body r s) := by
  unfold cmdPhyBind
  dsimp only
  repeat' split
  all_goals simp

theorem cmdMdio_freezes (r : Req) (s : State) : AnsFreezes s (cmdMdio.body r s) := by
  unfold cmdMdio
  dsimp only
  repeat' split
  all_goals simp

theorem cmdTc10_freezes (r : Req) (s : State) : AnsFreezes s (cmdTc10.body r s) := by
  unfold cmdTc10
  dsimp only
  repeat' split
  all_goals simp

/-! ### What the bridging rules record -/

@[simp] theorem bridgeCount_frozen (i n : Nat) (s : State) : frozen (bridgeCount i n s) = frozen s := by simp [bridgeCount]

@[simp] theorem bridgeBit_frozen (b : Nat) (s : State) : frozen (bridgeBit b s) = frozen s := by simp [bridgeBit]

@[simp] theorem setErrLast_frozen (addr init : Nat) (w2 : Bool) (kind : Nat) (s : State) :
    frozen (setErrLast addr init w2 kind s) = frozen s := by
  simp [setErrLast]

@[simp] theorem sizeErr_frozen (addr init : Nat) (w2 : Bool) (s : State) : frozen (sizeErr addr init w2 s) = frozen s := by
  simp [sizeErr]

@[simp] theorem addrErr_frozen (addr init : Nat) (w2 : Bool) (s : State) : frozen (addrErr addr init w2 s) = frozen s := by
  simp [addrErr]

@[simp] theorem denied_frozen (addr init : Nat) (w2 : Bool) (s : State) : frozen (denied addr init w2 s) = frozen s := by
  simp [denied]

@[simp] theorem spiFrameErr_frozen (s : State) : frozen (spiFrameErr s) = frozen s := by simp [spiFrameErr]

@[simp] theorem pairWrLost_frozen (addr init n : Nat) (s : State) : frozen (pairWrLost addr init n s) = frozen s := by
  simp [pairWrLost, apply_ite frozen]

@[simp] theorem lockLapse_frozen (s : State) : frozen (lockLapse s) = frozen s := by
  unfold lockLapse
  repeat' split
  all_goals simp

@[simp] theorem releaseHeld_frozen (p : HeldRead → Bool) (s : State) : frozen (releaseHeld p s) = frozen s := by
  simp [releaseHeld]

@[simp] theorem releaseLockOf_frozen (h : HeldRead) (s : State) : frozen (releaseLockOf h s) = frozen s := by
  simp [releaseLockOf, apply_ite frozen]

@[simp] theorem logDiscard_frozen (h : HeldRead) (pop : Bool) (s : State) : frozen (logDiscard h pop s) = frozen s := by
  simp [logDiscard]

/-! ### Host DMA rings -/

@[simp] theorem setRing_frozen (tx : Bool) (n : Nat) (r : Ring) (s : State) : frozen (setRing tx n r s) = frozen s := by
  simp [setRing, apply_ite frozen]

@[simp] theorem ringSignal_frozen (tx : Bool) (n : Nat) (s : State) : frozen (ringSignal tx n s) = frozen s := by
  simp [ringSignal]

@[simp] theorem ringComplete_frozen (tx : Bool) (n : Nat) (force : Bool) (s : State) :
    frozen (ringComplete tx n force s) = frozen s := by
  simp [ringComplete, apply_ite frozen]

@[simp] theorem ringStatus_frozen (tx : Bool) (n b : Nat) (s : State) : frozen (ringStatus tx n b s) = frozen s := by
  simp [ringStatus, apply_ite frozen]

@[simp] theorem noBufCheck_frozen (n : Nat) (s : State) : frozen (noBufCheck n s) = frozen s := by
  simp [noBufCheck, apply_ite frozen]

@[simp] theorem addRecord_frozen (t : TsRecord) (s : State) : frozen (addRecord t s) = frozen s := by simp [addRecord]

@[simp] theorem hostCheck_frozen (s : State) : frozen (hostCheck s) = frozen s := by simp [hostCheck, forEach_frozen]

@[simp] theorem advanceHead_frozen (tx : Bool) (n : Nat) (s : State) : frozen (advanceHead tx n s) = frozen s := by
  simp [advanceHead]

theorem execRxFrameDeliver_freezes (buf : Nat) (s : State) : Freezes s (execRxFrameDeliver buf s) := by
  unfold execRxFrameDeliver
  dsimp only
  repeat' split
  all_goals simp [forEach_frozen]

theorem execTxDescriptorProcess_freezes (desc data : Bytes) (s : State) :
    Freezes s (execTxDescriptorProcess desc data s) := by
  unfold execTxDescriptorProcess
  dsimp only
  repeat' split
  all_goals simp

theorem execDmaError_freezes (tx : Bool) (ring : Nat) (s : State) : Freezes s (execDmaError tx ring s) := by
  unfold execDmaError
  dsimp only
  repeat' split
  all_goals simp

theorem execRingModTimeout_freezes (tx : Bool) (ring : Nat) (s : State) :
    Freezes s (execRingModTimeout tx ring s) := by
  unfold execRingModTimeout
  dsimp only
  repeat' split
  all_goals simp

theorem execTsRecordWrite_freezes (ring : Nat) (s : State) : Freezes s (execTsRecordWrite ring s) := by
  unfold execTsRecordWrite
  dsimp only
  repeat' split
  all_goals simp

theorem execTsRecordTimeout_freezes (ring : Nat) (s : State) : Freezes s (execTsRecordTimeout ring s) := by
  unfold execTsRecordTimeout
  repeat' split
  all_goals simp

@[simp] theorem ringCtrl_frozen (tx : Bool) (ring value : Nat) (s : State) :
    frozen (ringCtrl tx ring value s) = frozen s := by
  simp [ringCtrl, apply_ite frozen]

theorem execRingCtrlWrite_freezes (init : Nat) (tx : Bool) (ring value : Nat) (s : State) :
    Freezes s (execRingCtrlWrite init tx ring value s) := by
  unfold execRingCtrlWrite
  repeat' split
  all_goals simp

@[simp] theorem ringTail_frozen (tx : Bool) (ring value : Nat) (s : State) :
    frozen (ringTail tx ring value s) = frozen s := by
  simp [ringTail]

theorem execRingTailWrite_freezes (init : Nat) (tx : Bool) (ring value : Nat) (s : State) :
    Freezes s (execRingTailWrite init tx ring value s) := by
  unfold execRingTailWrite
  repeat' split
  all_goals simp

@[simp] theorem ringWrite_frozen (tx : Bool) (n off v : Nat) (s : State) : frozen (ringWrite tx n off v s) = frozen s := by
  unfold ringWrite
  dsimp only
  repeat' split
  all_goals simp

/-! ### Scheduler settings, logical ports, and which copy each TC of a B or T port has at its head -/

@[simp] theorem fairWake_frozen (before s : State) : frozen (fairWake before s) = frozen s := by
  simp [fairWake, forEach_frozen, apply_ite frozen]

/-! ### Vintner's directed sends and the frames it takes from queue 673 -/

@[simp] theorem directedSend_frozen (port queue : Nat) (data : Bytes) (launch : Option (Nat × Nat)) (s : State) :
    frozen (directedSend port queue data launch s) = frozen s := by
  simp [directedSend, apply_ite frozen]

theorem execVintnerDirectedSend_freezes (port queue : Nat) (data : Bytes) (launch : Option (Nat × Nat)) (s : State) :
    Freezes s (execVintnerDirectedSend port queue data launch s) := by
  unfold execVintnerDirectedSend
  repeat' split
  all_goals simp

@[simp] theorem takeVintner_frozen (port etype : Nat) (s : State) : frozen (takeVintner port etype s) = frozen s := by
  unfold takeVintner
  dsimp only
  repeat' split
  all_goals simp

/-! ### MACsec of the backbone ports -/

@[simp] theorem msecTx_frozen (p : Nat) (b : Bytes) (s : State) : frozen (msecTx p b s).2 = frozen s := by
  unfold msecTx
  dsimp only
  split
  · simp [apply_ite frozen]
  · rfl

theorem execMacsecHoldExpiry_freezes (port : Nat) (s : State) : Freezes s (execMacsecHoldExpiry port s) := by
  unfold execMacsecHoldExpiry
  dsimp only
  repeat' split
  all_goals simp

@[simp] theorem setSc_frozen (p n : Nat) (c : RxSc) (s : State) : frozen (setSc p n c s) = frozen s := by simp [setSc]

@[simp] theorem scCount_frozen (p n j : Nat) (s : State) : frozen (scCount p n j s) = frozen s := by simp [scCount]

@[simp] theorem msecRxSc_frozen (p n : Nat) (b : Bytes) (s : State) : frozen (msecRxSc p n b s).2 = frozen s := by
  unfold msecRxSc
  dsimp only
  repeat' split
  all_goals simp

@[simp] theorem msecRx_frozen (p : Nat) (b : Bytes) (s : State) : frozen (msecRx p b s).2 = frozen s := by
  unfold msecRx
  dsimp only
  repeat' split
  all_goals simp

@[simp] theorem mkaEnter_frozen (p st : Nat) (s : State) : frozen (mkaEnter p st s) = frozen s := by
  simp [mkaEnter, apply_ite frozen]

@[simp] theorem mkaInstall_frozen (p an : Nat) (sak : Bytes) (peer txSsci rxSsci : Nat) (salt : Bytes) (s : State) :
    frozen (mkaInstall p an sak peer txSsci rxSsci salt s) = frozen s := by
  simp [mkaInstall]

theorem execMkaFrameReceive_freezes (port st an : Nat) (sak : Option Bytes) (peer txSsci rxSsci : Nat) (salt : Bytes)
    (s : State) :
    Freezes s (execMkaFrameReceive port st an sak peer txSsci rxSsci salt s) := by
  unfold execMkaFrameReceive
  dsimp only
  repeat' split
  all_goals simp

theorem execMkaHelloTimer_freezes (port : Nat) (lost : Bool) (s : State) :
    Freezes s (execMkaHelloTimer port lost s) := by
  unfold execMkaHelloTimer
  repeat' split
  all_goals simp

theorem cmdMacsecPort_freezes (r : Req) (s : State) : AnsFreezes s (cmdMacsecPort.body r s) := by
  unfold cmdMacsecPort
  dsimp only
  repeat' split
  all_goals simp

theorem cmdMacsecTxsa_freezes (r : Req) (s : State) : AnsFreezes s (cmdMacsecTxsa.body r s) := by
  unfold cmdMacsecTxsa
  dsimp only
  repeat' split
  all_goals simp

theorem cmdMacsecRxsc_freezes (r : Req) (s : State) : AnsFreezes s (cmdMacsecRxsc.body r s) := by
  unfold cmdMacsecRxsc
  dsimp only
  repeat' split
  all_goals simp

theorem cmdMacsecRxsa_freezes (r : Req) (s : State) : AnsFreezes s (cmdMacsecRxsa.body r s) := by
  unfold cmdMacsecRxsa
  dsimp only
  repeat' split
  all_goals simp

theorem cmdMacsecStatus_freezes (r : Req) (s : State) : AnsFreezes s (cmdMacsecStatus.body r s) := by simp [cmdMacsecStatus]

/-! ### The egress schedulers of the B and T ports -/

@[simp] theorem interruptPre_frozen (p : Nat) (s : State) : frozen (interruptPre p s) = frozen s := by
  unfold interruptPre
  dsimp only
  repeat' split
  all_goals simp

@[simp] theorem gateApply_frozen (p : Nat) (join : Bool) (s : State) : frozen (gateApply p join s) = frozen s := by
  unfold gateApply
  dsimp only
  repeat' split
  all_goals simp

theorem execGateEntryChange_freezes (port : Nat) (s : State) : Freezes s (execGateEntryChange port s) := by
  simp [execGateEntryChange]

@[simp] theorem gateRejoin_frozen (tb : Nat) (s : State) : frozen (gateRejoin tb s) = frozen s := by
  simp [gateRejoin, forEach_frozen, apply_ite frozen]

@[simp] theorem takeFromQueue_frozen (q desc : Nat) (s : State) : frozen (takeFromQueue q desc s) = frozen s := by
  simp [takeFromQueue]

@[simp] theorem logicalSweep_frozen (q : Nat) (s : State) : frozen (logicalSweep q s) = frozen s := by
  simp [logicalSweep, apply_ite frozen]

@[simp] theorem passCopy_frozen (i p q : Nat) (x : Copy) (s : State) : frozen (passCopy i p q x s) = frozen s := by
  simp [passCopy, apply_ite frozen]

@[simp] theorem membersChanged_frozen (before s : State) : frozen (membersChanged before s) = frozen s := by
  simp [membersChanged, forEach_frozen, apply_ite frozen]

@[simp] theorem changing_freezes {f : State → State} {s : State} (h : frozen (f s) = frozen s) :
    Freezes s (changing f s) := by
  simp [changing, h]

theorem dropLate_go_frozen (p t : Nat) (n : Nat) (s : State) : frozen (dropLate.go p t n s) = frozen s := by
  induction n generalizing s with
  | zero => rfl
  | succ n ih =>
    unfold dropLate.go
    repeat' split
    all_goals simp [ih]

@[simp] theorem dropLate_frozen (p t : Nat) (s : State) : frozen (dropLate p t s) = frozen s := by
  unfold dropLate
  split
  · rfl
  · exact dropLate_go_frozen p t _ s

@[simp] theorem pickOnce_frozen (p : Nat) (side : Side) (s : State) : frozen (pickOnce p side s).2 = frozen s := by
  unfold pickOnce
  dsimp only
  repeat' split
  all_goals simp [forEach_frozen]

@[simp] theorem egressStamp_frozen (p : Nat) (x : Copy) (s : State) : frozen (egressStamp p x s) = frozen s := by
  unfold egressStamp
  repeat' split
  all_goals simp

@[simp] theorem foxEgress_frozen (p : Nat) (x : Copy) (s : State) : frozen (foxEgress p x s) = frozen s := by
  simp [foxEgress, apply_ite frozen]

@[simp] theorem startCopy_frozen (p t i q : Nat) (x : Copy) (pre : Bool) (s : State) :
    frozen (startCopy p t i q x pre s) = frozen s := by
  unfold startCopy
  dsimp only
  rw [setEgr_frozen, passCopy_frozen]
  refine iteInduction (motive := fun x : Bytes × State => frozen x.2 = frozen s) (fun _ => ?_) fun _ => ?_
  · generalize hm : msecTx _ _ _ = m
    obtain ⟨_ | _, u⟩ := m <;>
      exact (frozen_of_eq hm (msecTx_frozen ..)).trans (by simp [apply_ite frozen, apply_ite Prod.snd])
  · simp [apply_ite frozen, apply_ite Prod.snd]

@[simp] theorem selectLoop_frozen (p : Nat) (side : Side) (pre : Bool) (n : Nat) (s : State) :
    frozen (selectLoop p side pre n s) = frozen s := by
  induction n generalizing s with
  | zero => rfl
  | succ n ih =>
    unfold selectLoop
    split
    · exact frozen_of_eq ‹_› (pickOnce_frozen ..)
    · rw [ih]; exact frozen_of_eq ‹_› (pickOnce_frozen ..)
    · dsimp only
      rw [startCopy_frozen]
      split
      · rw [interruptPre_frozen]; exact frozen_of_eq ‹_› (pickOnce_frozen ..)
      · exact frozen_of_eq ‹_› (pickOnce_frozen ..)

@[simp] theorem selectPort_frozen (p : Nat) (side : Side) (s : State) : frozen (selectPort p side s) = frozen s := by
  unfold selectPort
  dsimp only
  repeat' split
  all_goals simp

theorem execEgressSelect_freezes (port side : Nat) (s : State) : Freezes s (execEgressSelect port side s) := by
  simp [execEgressSelect]

@[simp] theorem creditEmpty_frozen (p t : Nat) (s : State) : frozen (creditEmpty p t s) = frozen s := by
  simp [creditEmpty, apply_ite frozen]

@[simp] theorem sendDone_frozen (p : Nat) (w : OnWire) (s : State) : frozen (sendDone p w s) = frozen s := by
  simp [sendDone, apply_ite frozen]

theorem execTransmissionComplete_freezes (port : Nat) (pre : Bool) (s : State) :
    Freezes s (execTransmissionComplete port pre s) := by
  unfold execTransmissionComplete
  dsimp only
  repeat' split
  all_goals simp

@[simp] theorem frameEnded_frozen (fid : Nat) (s : State) : frozen (frameEnded fid s) = frozen s := by
  unfold frameEnded
  dsimp only
  repeat' split
  all_goals simp [forEach_frozen]

@[simp] theorem egrAdvance_frozen (ns p : Nat) (s : State) : frozen (egrAdvance ns p s) = frozen s := by simp [egrAdvance]

theorem execPreemptVerifyAttempt_freezes (port : Nat) (good : Bool) (s : State) :
    Freezes s (execPreemptVerifyAttempt port good s) := by
  unfold execPreemptVerifyAttempt
  dsimp only
  repeat' split
  all_goals simp

/-! ### Ingress policing -/

@[simp] theorem setMeter_frozen (m : Nat) (x : MeterState) (s : State) : frozen (setMeter m x s) = frozen s := by
  simp [setMeter]

@[simp] theorem setSgate_frozen (g : Nat) (x : SGateState) (s : State) : frozen (setSgate g x s) = frozen s := by
  simp [setSgate]

theorem execStreamGateEntryChange_freezes (gate : Nat) (s : State) :
    Freezes s (execStreamGateEntryChange gate s) := by
  unfold execStreamGateEntryChange
  dsimp only
  repeat' split
  all_goals simp

@[simp] theorem gateDrop_frozen (port f g j : Nat) (latch : Bool) (s : State) :
    frozen (gateDrop port f g j latch s) = frozen s := by
  simp [gateDrop, apply_ite frozen]

@[simp] theorem judgeGate_frozen (c : CfgSet) (port f g len : Nat) (ts : List Nat) (s : State) :
    frozen (judgeGate c port f g len ts s).2 = frozen s := by
  unfold judgeGate
  dsimp only
  repeat' split
  all_goals simp

@[simp] theorem judgeFilter_frozen (c : CfgSet) (port f prio len : Nat) (ts : List Nat) (s : State) :
    frozen (judgeFilter c port f prio len ts s).2 = frozen s := by
  unfold judgeFilter
  dsimp only
  split
  · rfl
  split
  · simp
  split
  · dsimp only; split <;> simp
  split
  · split
    all_goals exact (frozen_of_eq ‹_› (judgeGate_frozen ..)).trans (countEntry_frozen ..)
  · simp

@[simp] theorem police_frozen (c : CfgSet) (port : Nat) (a : Merged) (prio colour len : Nat) (ts : List Nat) (s : State) :
    frozen (police c port a prio colour len ts s).2 = frozen s := by
  unfold police
  dsimp only
  repeat' split
  all_goals simp

@[simp] theorem setFrer_frozen (n : Nat) (x : FrerState) (s : State) : frozen (setFrer n x s) = frozen s := by simp [setFrer]

@[simp] theorem recover_frozen (n : Nat) (b : Bytes) (seq : Nat) (s : State) : frozen (recover n b seq s).2 = frozen s := by
  simp [recover, forEach_frozen, apply_ite frozen]

@[simp] theorem frer_frozen (c : CfgSet) (stream : Option Nat) (stack : List (Nat × Nat)) (bytes : Bytes) (s : State) :
    frozen (frer c stream stack bytes s).2 = frozen s := by
  unfold frer
  dsimp only
  repeat' split
  all_goals simp

theorem execFrerRecoveryTimeout_freezes (stream : Nat) (s : State) :
    Freezes s (execFrerRecoveryTimeout stream s) := by
  unfold execFrerRecoveryTimeout
  dsimp only
  repeat' split
  all_goals simp

theorem execFrerLatentCheck_freezes (stream : Nat) (s : State) : Freezes s (execFrerLatentCheck stream s) := by
  unfold execFrerLatentCheck
  dsimp only
  repeat' split
  all_goals simp

theorem execFrerLatentReset_freezes (stream : Nat) (s : State) : Freezes s (execFrerLatentReset stream s) := by
  simp [execFrerLatentReset]

/-! ### What a swap resets in the schedulers and in policing, and the commands of group 0x08 -/

@[simp] theorem schedSwap_frozen (old new : CfgSet) (p : Nat) (s : State) : frozen (schedSwap old new p s) = frozen s := by
  simp [schedSwap, apply_ite frozen]

@[simp] theorem flowSwap_frozen (old new : CfgSet) (s : State) : frozen (flowSwap old new s) = frozen s := by
  simp [flowSwap, forEach_frozen, apply_ite frozen]

theorem cmdSchedPort_freezes (r : Req) (s : State) : AnsFreezes s (cmdSchedPort.body r s) := by
  unfold cmdSchedPort
  dsimp only
  repeat' split
  all_goals simp

theorem cmdGateList_freezes (r : Req) (s : State) : AnsFreezes s (cmdGateList.body r s) := by
  unfold cmdGateList
  dsimp only
  repeat' split
  all_goals simp

theorem cmdPreempt_freezes (r : Req) (s : State) : AnsFreezes s (cmdPreempt.body r s) := by
  unfold cmdPreempt
  dsimp only
  repeat' split
  all_goals simp

theorem cmdSchedStatus_freezes (r : Req) (s : State) : AnsFreezes s (cmdSchedStatus.body r s) := by simp [cmdSchedStatus]

theorem cmdStreamFilter_freezes (r : Req) (s : State) : AnsFreezes s (cmdStreamFilter.body r s) := by
  unfold cmdStreamFilter
  dsimp only
  repeat' split
  all_goals simp

theorem cmdStreamGate_freezes (r : Req) (s : State) : AnsFreezes s (cmdStreamGate.body r s) := by
  unfold cmdStreamGate
  dsimp only
  repeat' split
  all_goals simp

theorem cmdMeter_freezes (r : Req) (s : State) : AnsFreezes s (cmdMeter.body r s) := by
  unfold cmdMeter
  dsimp only
  repeat' split
  all_goals simp

@[simp] theorem entryCountersRun_freezes (first k size cap : Nat) (r : Req) (s : State) :
    AnsFreezes s (entryCountersRun first k size cap r s) := by
  simp [entryCountersRun, forEach_frozen, apply_ite frozen]

theorem cmdPoliceCounters_freezes (r : Req) (s : State) : AnsFreezes s (cmdPoliceCounters.body r s) := by
  simp [cmdPoliceCounters]

theorem cmdPoliceUnlatch_freezes (r : Req) (s : State) : AnsFreezes s (cmdPoliceUnlatch.body r s) := by
  unfold cmdPoliceUnlatch
  dsimp only
  repeat' split
  all_goals simp

theorem cmdEdgeQueues_freezes (r : Req) (s : State) : AnsFreezes s (cmdEdgeQueues.body r s) := by
  unfold cmdEdgeQueues
  dsimp only
  repeat' split
  all_goals simp

/-! ### Wake detection and the network wake -/

@[simp] theorem setEdgeChan_frozen (n : Nat) (c : EdgeChan) (s : State) : frozen (setEdgeChan n c s) = frozen s := by
  simp [setEdgeChan]

@[simp] theorem setNmBus_frozen (p : Nat) (b : NmBus) (s : State) : frozen (setNmBus p b s) = frozen s := by simp [setNmBus]

@[simp] theorem nmState_frozen (n : Nat) (s : State) : frozen (nmState n s) = frozen s := by
  simp [nmState, apply_ite frozen]

@[simp] theorem nmHoldAll_frozen (own : Bool) (s : State) : frozen (nmHoldAll own s) = frozen s := by
  simp [nmHoldAll, forEach_frozen]

@[simp] theorem windowCancel_frozen (s : State) : frozen (windowCancel s) = frozen s := by
  simp [windowCancel, apply_ite frozen]

@[simp] theorem laneWakeUp_frozen (l : Nat) (s : State) : frozen (laneWakeUp l s) = frozen s := by
  simp [laneWakeUp, apply_ite frozen]

@[simp] theorem linPulse_frozen (n : Nat) (s : State) : frozen (linPulse n s) = frozen s := by
  simp [linPulse, apply_ite frozen]

@[simp] theorem networkWake_frozen (own : Bool) (s : State) : frozen (networkWake own s) = frozen s := by
  simp [networkWake, forEach_frozen]

@[simp] theorem wakeNote_frozen (w : Wake) (s : State) : frozen (wakeNote w s) = frozen s := by simp [wakeNote]

@[simp] theorem wakeInfo_frozen (w : Wake) (s : State) : frozen (wakeInfo w s) = frozen s := by simp [wakeInfo]

@[simp] theorem exitStart_frozen (w : Wake) (s : State) : frozen (exitStart w s) = frozen s := by
  simp [exitStart, apply_ite frozen]

@[simp] theorem entryUndo_frozen (result : Nat) (s : State) : frozen (entryUndo result s) = frozen s := by simp [entryUndo]

@[simp] theorem pairAbort_frozen (s : State) : frozen (pairAbort s) = frozen s := by
  simp [pairAbort, apply_ite frozen]

@[simp] theorem netUndo_frozen (own peer : Bool) (s : State) : frozen (netUndo own peer s) = frozen s := by
  simp [netUndo, apply_ite frozen]

@[simp] theorem sleepAbort_frozen (ap : Nat) (w : Wake) (s : State) : frozen (sleepAbort ap w s) = frozen s := by
  simp [sleepAbort, forEach_frozen, apply_ite frozen]

@[simp] theorem wakeEntry_frozen (w : Wake) (s : State) : frozen (wakeEntry w s) = frozen s := by
  simp [wakeEntry, apply_ite frozen]

@[simp] theorem wake_frozen (w : Wake) (s : State) : frozen (wake w s) = frozen s := by
  simp [wake, apply_ite frozen]

@[simp] theorem wakeEdge_frozen (ch : Nat) (quiet : Bool) (s : State) : frozen (wakeEdge ch quiet s) = frozen s := by
  simp [wakeEdge, apply_ite frozen]

@[simp] theorem wakeEth_frozen (p : Nat) (b : Bytes) (s : State) : frozen (wakeEth p b s) = frozen s := by
  simp [wakeEth, apply_ite frozen]

/-! ### Edge channels -/

@[simp] theorem setEdgeCl_frozen (m : Nat) (c : EdgeCluster) (s : State) : frozen (setEdgeCl m c s) = frozen s := by
  simp [setEdgeCl]

@[simp] theorem setFrCtl_frozen (f : Nat) (c : FrCtl) (s : State) : frozen (setFrCtl f c s) = frozen s := by simp [setFrCtl]

@[simp] theorem edgeEv_frozen (n b : Nat) (s : State) : frozen (edgeEv n b s) = frozen s := by simp [edgeEv]

@[simp] theorem countEdge_frozen (n i : Nat) (s : State) : frozen (countEdge n i s) = frozen s := by simp [countEdge]

@[simp] theorem edgeErr_frozen (n kind : Nat) (dataPhase sending : Bool) (s : State) :
    frozen (edgeErr n kind dataPhase sending s) = frozen s := by
  simp [edgeErr, apply_ite frozen]

@[simp] theorem dropAged_frozen (n : Nat) (x : EdgeCopy) (s : State) : frozen (dropAged n x s) = frozen s := by
  simp [dropAged]

@[simp] theorem flushHeld_frozen (n : Nat) (s : State) : frozen (flushHeld n s) = frozen s := by
  simp [flushHeld, apply_ite frozen]

@[simp] theorem chanSet_frozen (st n : Nat) (s : State) : frozen (chanSet st n s) = frozen s := by
  simp [chanSet, apply_ite frozen]

@[simp] theorem chanState_frozen (n st : Nat) (s : State) : frozen (chanState n st s) = frozen s := by
  simp [chanState, forEach_frozen]

@[simp] theorem retireChan_frozen (n : Nat) (s : State) : frozen (retireChan n s) = frozen s := by
  simp [retireChan, forEach_frozen]

@[simp] theorem chanFault_frozen (n lim : Nat) (s : State) : frozen (chanFault n lim s).2 = frozen s := by
  unfold chanFault
  dsimp only
  repeat' split
  all_goals simp

@[simp] theorem passiveCheck_frozen (n : Nat) (s : State) : frozen (passiveCheck n s) = frozen s := by
  simp [passiveCheck, apply_ite frozen]

@[simp] theorem rxStore_frozen (n : Nat) (f : Frame) (s : State) : frozen (rxStore n f s) = frozen s := by
  unfold rxStore
  dsimp only
  repeat' split
  all_goals simp

@[simp] theorem linCollide_frozen (n t : Nat) (s : State) : frozen (linCollide n t s) = frozen s := by simp [linCollide]

@[simp] theorem rxError_frozen (n err : Nat) (s : State) : frozen (rxError n err s) = frozen s := by
  unfold rxError
  dsimp only
  repeat' split
  all_goals simp

theorem execEdgeFrameReceive_freezes (chan kind flags ctrl ident prio vcid : Nat) (data : Bytes) (ago err : Nat)
    (s : State) :
    Freezes s (execEdgeFrameReceive chan kind flags ctrl ident prio vcid data ago err s) := by
  simp only [execEdgeFrameReceive, apply_ite (Freezes s), freezes_next, rxError_frozen, rxStore_frozen, countEdge_frozen,
    countN_frozen, setEdgeChan_frozen, chanState_frozen, passiveCheck_frozen, takeFresh_frozen, frozen_mk, otp_pending,
    apply_ite frozen, ite_self]

theorem execEdgeFrameToVat_freezes (chan : Nat) (s : State) : Freezes s (execEdgeFrameToVat chan s) := by
  unfold execEdgeFrameToVat
  dsimp only
  split
  · simp
  split
  · simp
  split
  · simp
  split <;> simp only [freezes_next, commitFrame_frozen] <;>
    exact (frozen_of_eq ‹_› (stageFrame_frozen ..)).trans (by simp [apply_ite frozen])

theorem execEdgeIntegrationComplete_freezes (chan : Nat) (s : State) :
    Freezes s (execEdgeIntegrationComplete chan s) := by
  unfold execEdgeIntegrationComplete
  dsimp only
  repeat' split
  all_goals simp

@[simp] theorem lateEdge_frozen (n : Nat) (s : State) : frozen (lateEdge n s) = frozen s := by simp [lateEdge]

@[simp] theorem takeHead_frozen (n k : Nat) (s : State) : frozen (takeHead n k s) = frozen s := by
  unfold takeHead
  dsimp only
  repeat' split
  all_goals simp

@[simp] theorem ctlTake_frozen (n : Nat) (x : EdgeCopy) (s : State) : frozen (ctlTake n x s) = frozen s := by
  unfold ctlTake
  dsimp only
  repeat' split
  all_goals simp

theorem execEdgeQueueTransfer_freezes (chan : Nat) (s : State) : Freezes s (execEdgeQueueTransfer chan s) := by
  unfold execEdgeQueueTransfer
  dsimp only
  repeat' split
  all_goals simp [forEach_frozen]

@[simp] theorem ctlSweep_frozen (n : Nat) (late : EdgeCopy → Bool) (aged : Bool) (s : State) :
    frozen (ctlSweep n late aged s) = frozen s := by
  simp [ctlSweep, forEach_frozen, apply_ite frozen]

theorem execCanTxAttempt_freezes (chan : Nat) (s : State) : Freezes s (execCanTxAttempt chan s) := by
  unfold execCanTxAttempt
  dsimp only
  repeat' split
  all_goals simp

@[simp] theorem busOff_frozen (n : Nat) (s : State) : frozen (busOff n s) = frozen s := by
  simp [busOff, apply_ite frozen]

theorem execCanTxAttemptEnd_freezes (chan result kind : Nat) (dataPhase : Bool) (s : State) :
    Freezes s (execCanTxAttemptEnd chan result kind dataPhase s) := by
  unfold execCanTxAttemptEnd
  dsimp only
  repeat' split
  all_goals simp

@[simp] theorem busOn_frozen (n : Nat) (s : State) : frozen (busOn n s) = frozen s := by simp [busOn]

theorem execBusOffRecovery_freezes (chan : Nat) (s : State) : Freezes s (execBusOffRecovery chan s) := by
  unfold execBusOffRecovery
  dsimp only
  repeat' split
  all_goals simp

@[simp] theorem t1sLate_frozen (n : Nat) (late : EdgeCopy → Bool) (s : State) : frozen (t1sLate n late s) = frozen s := by
  refine forEach_frozen _ _ _ fun _ _ => ?_
  repeat' split
  all_goals simp

theorem execLtWindowExpiry_freezes (chan : Nat) (s : State) : Freezes s (execLtWindowExpiry chan s) := by
  unfold execLtWindowExpiry
  repeat' split
  all_goals simp

@[simp] theorem linSend_frozen (n ident : Nat) (s : State) : frozen (linSend n ident s) = frozen s := by simp [linSend]

@[simp] theorem linHeader_frozen (n ident : Nat) (s : State) : frozen (linHeader n ident s) = frozen s := by simp [linHeader]

@[simp] theorem linAwait_frozen (n ident : Nat) (t : Option Nat) (s : State) : frozen (linAwait n ident t s) = frozen s := by
  simp [linAwait]

@[simp] theorem linSlot_frozen (n e : Nat) (s : State) : frozen (linSlot n e s) = frozen s := by
  unfold linSlot
  dsimp only
  repeat' split
  all_goals simp

theorem execLinSlotStart_freezes (chan : Nat) (s : State) : Freezes s (execLinSlotStart chan s) := by
  unfold execLinSlotStart
  dsimp only
  repeat' split
  all_goals simp

theorem execLinResponseTimeout_freezes (chan : Nat) (s : State) : Freezes s (execLinResponseTimeout chan s) := by
  unfold execLinResponseTimeout
  dsimp only
  repeat' split
  all_goals simp

theorem execLinHeaderReceive_freezes (chan ident : Nat) (good : Bool) (s : State) :
    Freezes s (execLinHeaderReceive chan ident good s) := by
  unfold execLinHeaderReceive
  dsimp only
  repeat' split
  all_goals simp

theorem execLinStuckDominant_freezes (chan : Nat) (s : State) : Freezes s (execLinStuckDominant chan s) := by
  unfold execLinStuckDominant
  dsimp only
  repeat' split
  all_goals simp

@[simp] theorem frSend_frozen (f i slot : Nat) (s : State) : frozen (frSend f i slot s) = frozen s := by
  unfold frSend
  dsimp only
  repeat' split
  all_goals simp [forEach_frozen]

theorem execFrSlot_freezes (ctl slot cycle : Nat) (s : State) : Freezes s (execFrSlot ctl slot cycle s) := by
  unfold execFrSlot
  dsimp only
  repeat' split
  all_goals simp [forEach_frozen]

theorem execFrPocChange_freezes (ctl poc : Nat) (s : State) : Freezes s (execFrPocChange ctl poc s) := by
  unfold execFrPocChange
  dsimp only
  repeat' split
  all_goals simp

@[simp] theorem t1sSend_frozen (n k : Nat) (s : State) : frozen (t1sSend n k s) = frozen s := by
  induction k generalizing s with
  | zero => rfl
  | succ k ih =>
    unfold t1sSend
    dsimp only
    repeat' split
    all_goals simp [ih, forEach_frozen]

theorem execT1sTxOpportunity_freezes (chan fits collisions : Nat) (s : State) :
    Freezes s (execT1sTxOpportunity chan fits collisions s) := by
  unfold execT1sTxOpportunity
  dsimp only
  repeat' split
  all_goals simp [forEach_frozen]

theorem execT1sBeaconTimeout_freezes (chan : Nat) (s : State) : Freezes s (execT1sBeaconTimeout chan s) := by
  unfold execT1sBeaconTimeout
  dsimp only
  repeat' split
  all_goals simp

theorem execT1sJabber_freezes (chan : Nat) (s : State) : Freezes s (execT1sJabber chan s) := by
  unfold execT1sJabber
  dsimp only
  repeat' split
  all_goals simp

@[simp] theorem tmcNibble_frozen (m n nib : Nat) (s : State) : frozen (tmcNibble m n nib s) = frozen s := by
  simp [tmcNibble, apply_ite frozen]

theorem execTmcFrame_freezes (cluster inbound : Nat) (s : State) : Freezes s (execTmcFrame cluster inbound s) := by
  unfold execTmcFrame
  dsimp only
  repeat' split
  all_goals simp [forEach_frozen]

theorem execTrxFaultPersist_freezes (chan : Nat) (s : State) : Freezes s (execTrxFaultPersist chan s) := by
  unfold execTrxFaultPersist
  dsimp only
  repeat' split
  all_goals simp

/-! ### Tamper wipes, trust anchors, the life cycle and the commands of group 0x0A -/

@[simp] theorem abortPressTest_frozen (s : State) : frozen (abortPressTest s) = frozen s := by
  unfold abortPressTest
  repeat' split
  all_goals simp

theorem execTamperSourceClear_freezes (source : Nat) (s : State) : Freezes s (execTamperSourceClear source s) := by
  simp [execTamperSourceClear]

theorem cmdKeyWrite_freezes (r : Req) (s : State) : AnsFreezes s (cmdKeyWrite.body r s) := by
  unfold cmdKeyWrite
  dsimp only
  repeat' split
  all_goals simp

theorem cmdKeyGenerate_freezes (r : Req) (s : State) : AnsFreezes s (cmdKeyGenerate.body r s) := by
  unfold cmdKeyGenerate
  dsimp only
  repeat' split
  all_goals simp

theorem cmdKeyDerive_freezes (r : Req) (s : State) : AnsFreezes s (cmdKeyDerive.body r s) := by
  unfold cmdKeyDerive
  dsimp only
  repeat' split
  all_goals simp

theorem cmdKeyClear_freezes (r : Req) (s : State) : AnsFreezes s (cmdKeyClear.body r s) := by simp [cmdKeyClear]

@[simp] theorem kcvOf_frozen (x : Slot) (s : State) : frozen (kcvOf x s).2 = frozen s := by
  unfold kcvOf
  dsimp only
  repeat' split
  all_goals simp

theorem cmdKeyInfo_freezes (r : Req) (s : State) : AnsFreezes s (cmdKeyInfo.body r s) := by
  simp [cmdKeyInfo, apply_ite frozen]

theorem cmdPressRun_freezes (r : Req) (s : State) : AnsFreezes s (cmdPressRun.body r s) := by
  unfold cmdPressRun
  dsimp only
  repeat' split
  all_goals simp [forEach_frozen]

theorem cmdPressLock_freezes (r : Req) (s : State) : AnsFreezes s (cmdPressLock.body r s) := by
  unfold cmdPressLock
  dsimp only
  repeat' split
  all_goals simp

theorem cmdPressStatus_freezes (r : Req) (s : State) : AnsFreezes s (cmdPressStatus.body r s) := by simp [cmdPressStatus]

@[simp] theorem countVerify_frozen (v : Bool × Bool × Bool) (s : State) : frozen (countVerify v s) = frozen s := by
  simp [countVerify, apply_ite frozen]

theorem cmdAsymVerify_freezes (r : Req) (s : State) : AnsFreezes s (cmdAsymVerify.body r s) := by
  unfold cmdAsymVerify
  dsimp only
  repeat' split
  all_goals simp

/-! ### What every part of field update shares -/

@[simp] theorem setFlashBank_frozen (n : Nat) (b : FlashBank) (s : State) : frozen (setFlashBank n b s) = frozen s := by
  simp [setFlashBank, apply_ite frozen]

@[simp] theorem bankHeader_frozen (n : Nat) (f : FlashBank → FlashBank) (s : State) :
    frozen (bankHeader n f s) = frozen s := by
  simp [bankHeader]

@[simp] theorem keepSettings_frozen (f : Settings → Settings) (s : State) : frozen (keepSettings f s) = frozen s := by
  simp [keepSettings]

@[simp] theorem saveRecord_frozen (s : State) : frozen (saveRecord s) = frozen s := by simp [saveRecord]

@[simp] theorem chainSend_frozen (port : Nat) (payload : Bytes) (s : State) :
    frozen (chainSend port payload s) = frozen s := by
  simp [chainSend]

@[simp] theorem controlSend_frozen (kind pkg : Nat) (body : Bytes) (ports : List Nat) (s : State) :
    frozen (controlSend kind pkg body ports s) = frozen s := by
  unfold controlSend
  repeat' split
  all_goals simp [forEach_frozen]

@[simp] theorem takeReport_frozen (d : Nat) (r : DevReport) (s : State) : frozen (takeReport d r s) = frozen s := by
  simp [takeReport, apply_ite frozen]

@[simp] theorem sendStatus_frozen (s : State) : frozen (sendStatus s) = frozen s := by
  simp [sendStatus, apply_ite frozen]

@[simp] theorem updState_frozen (n : Nat) (fell : Bool) (s : State) : frozen (updState n fell s) = frozen s := by
  simp [updState, apply_ite frozen]

@[simp] theorem armCancel_frozen (s : State) : frozen (armCancel s) = frozen s := by simp [armCancel]

/-! ### The gateway engine, port G -/

@[simp] theorem countG_frozen (i : Nat) (s : State) : frozen (countG i s) = frozen s := by simp [countG]

@[simp] theorem gwRequest_frozen (num slot : Nat) (check : Bool) (data : Bytes) (s : State) :
    frozen (gwRequest num slot check data s) = frozen s := by
  simp [gwRequest]

@[simp] theorem setFv_frozen (i v : Nat) (s : State) : frozen (setFv i v s) = frozen s := by simp [setFv]

@[simp] theorem candidate_frozen (p : Bytes) (r : Nat) (s : State) : frozen (candidate p r s).2 = frozen s := by
  unfold candidate
  dsimp only
  repeat' split
  all_goals simp

@[simp] theorem reserveCheck_frozen (i : Nat) (s : State) : frozen (reserveCheck i s) = frozen s := by
  simp [reserveCheck, apply_ite frozen]

theorem execFvReservationCommit_freezes (index : Nat) (s : State) : Freezes s (execFvReservationCommit index s) := by
  unfold execFvReservationCommit
  dsimp only
  repeat' split
  all_goals simp

theorem execFvSaveTimer_freezes (s : State) : Freezes s (execFvSaveTimer s) := by
  simp [execFvSaveTimer, apply_ite frozen]

@[simp] theorem gwNotice_frozen (code loc data : Nat) (s : State) : frozen (gwNotice code loc data s) = frozen s := by
  simp [gwNotice]

@[simp] theorem checkFailed_frozen (prof why : Nat) (s : State) : frozen (checkFailed prof why s) = frozen s := by
  unfold checkFailed
  dsimp only
  repeat' split
  all_goals simp

@[simp] theorem gwLoop_frozen (port : Nat) (s : State) : frozen (gwLoop port s) = frozen s := by
  unfold gwLoop
  dsimp only
  repeat' split
  all_goals simp

@[simp] theorem gwUnit_frozen (s : State) : frozen (gwUnit s) = frozen s := by simp [gwUnit]

@[simp] theorem setGwSeq_frozen (t : Nat) (q : GwSeq) (s : State) : frozen (setGwSeq t q s) = frozen s := by simp [setGwSeq]

@[simp] theorem closeBatch_frozen (n why : Nat) (s : State) : frozen (closeBatch n why s) = frozen s := by
  unfold closeBatch
  repeat' split
  all_goals simp

@[simp] theorem joinBatch_frozen (n : Nat) (t : Bytes) (gen zone : Nat) (m : GwMsg) (s : State) :
    frozen (joinBatch n t gen zone m s) = frozen s := by
  unfold joinBatch
  repeat' split
  all_goals simp [apply_ite frozen]

@[simp] theorem addToBatch_frozen (n : Nat) (h : GwHeld) (s : State) : frozen (addToBatch n h s) = frozen s := by
  unfold addToBatch
  dsimp only
  split
  · simp
  split
  · simp
  · rw [joinBatch_frozen]; split <;> simp

theorem execBatchCloseTimer_freezes (tunnel : Nat) (s : State) : Freezes s (execBatchCloseTimer tunnel s) := by
  unfold execBatchCloseTimer
  dsimp only
  repeat' split
  all_goals simp

@[simp] theorem gwOutput_frozen (h : GwHeld) (s : State) : frozen (gwOutput h s) = frozen s := by
  unfold gwOutput
  repeat' split
  all_goals simp

theorem gwFlush_go_frozen  (n : Nat) (s : State) : frozen (gwFlush.go n s) = frozen s := by
  induction n generalizing s with
  | zero => rfl
  | succ n ih =>
    unfold gwFlush.go
    repeat' split
    all_goals simp [ih]

@[simp] theorem gwFlush_frozen (s : State) : frozen (gwFlush s) = frozen s := gwFlush_go_frozen _ s

@[simp] theorem putHeld_frozen (h : GwHeld) (s : State) : frozen (putHeld h s) = frozen s := by simp [putHeld]

@[simp] theorem dropHeld_frozen (h : GwHeld) (s : State) : frozen (dropHeld h s) = frozen s := by
  simp [dropHeld, apply_ite frozen]

@[simp] theorem heldReady_frozen (h : GwHeld) (out : Bytes) (s : State) : frozen (heldReady h out s) = frozen s := by
  simp [heldReady, apply_ite frozen]

@[simp] theorem genFail_frozen (h : GwHeld) (prof : Nat) (s : State) : frozen (genFail h prof s) = frozen s := by
  simp [genFail]

@[simp] theorem gwGenerate_frozen (h : GwHeld) (prof : Nat) (out : Bytes) (s : State) :
    frozen (gwGenerate h prof out s) = frozen s := by
  simp [gwGenerate, apply_ite frozen]

@[simp] theorem gwBuild_frozen (h : GwHeld) (failed : Bool) (s : State) : frozen (gwBuild h failed s) = frozen s := by
  unfold gwBuild
  dsimp only
  repeat' split
  all_goals simp

@[simp] theorem gwCheckFail_frozen (h : GwHeld) (prof why : Nat) (s : State) :
    frozen (gwCheckFail h prof why s) = frozen s := by
  simp [gwCheckFail, apply_ite frozen]

@[simp] theorem gwVerify_frozen (h : GwHeld) (prof : Nat) (s : State) : frozen (gwVerify h prof s) = frozen s := by
  unfold gwVerify
  dsimp only
  split
  · simp
  split
  · rw [gwCheckFail_frozen]; exact frozen_of_eq ‹_› (candidate_frozen ..)
  · rw [gwRequest_frozen, putHeld_frozen]; exact frozen_of_eq ‹_› (candidate_frozen ..)

@[simp] theorem gwAnswer_frozen (h : GwHeld) (status : Nat) (z : Bytes) (s : State) :
    frozen (gwAnswer h status z s) = frozen s := by
  unfold gwAnswer
  dsimp only
  repeat' split
  all_goals simp

theorem execGwPressCompletion_freezes (s : State) : Freezes s (execGwPressCompletion s) := by
  unfold execGwPressCompletion
  dsimp only
  repeat' split
  all_goals simp

theorem execGwPressTimeout_freezes (num : Nat) (s : State) : Freezes s (execGwPressTimeout num s) := by
  unfold execGwPressTimeout
  repeat' split
  all_goals simp

theorem decap_walk_frozen (n : Nat) (t : Bytes) (x : Copy) (f : Frame) (o : Nat) (b : Bytes) (body len : Nat) (tv : Bool)
    (stamp fuel a : Nat) (s : State) : frozen (decap.walk n t x f o b body len tv stamp fuel a s) = frozen s := by
  induction fuel generalizing a s with
  | zero => rfl
  | succ fuel ih =>
    unfold decap.walk
    dsimp only
    repeat' split
    all_goals simp [ih]

@[simp] theorem decap_frozen (n : Nat) (t : Bytes) (x : Copy) (f : Frame) (s : State) :
    frozen (decap n t x f s) = frozen s := by
  unfold decap
  split
  · simp
  · simp only [apply_ite frozen, countG_frozen, decap_walk_frozen, countEntry_frozen, setGwSeq_frozen, ite_self]

theorem execGwCopyProcess_freezes (s : State) : Freezes s (execGwCopyProcess s) := by
  unfold execGwCopyProcess
  split
  · simp
  dsimp only
  split
  · simp
  · simp only [apply_ite (Freezes s), apply_ite frozen, freezes_next, gwLoop_frozen, countG_frozen, decap_frozen, gwFlush_frozen,
      gwVerify_frozen, gwBuild_frozen, gwUnit_frozen, countEntry_frozen, dropHead_frozen, dropBad_frozen, ageQueue_frozen,
      frozen_mk, otp_pending, ite_self]

/-! ### The check of a parse image and the commands of group 0x05 -/

theorem cmdParseLoad_freezes (r : Req) (s : State) : AnsFreezes s (cmdParseLoad.body r s) := by
  unfold cmdParseLoad
  dsimp only
  repeat' split
  all_goals simp

theorem cmdParsePort_freezes (r : Req) (s : State) : AnsFreezes s (cmdParsePort.body r s) := by
  unfold cmdParsePort
  dsimp only
  repeat' split
  all_goals simp

theorem cmdParseDevice_freezes (r : Req) (s : State) : AnsFreezes s (cmdParseDevice.body r s) := by
  unfold cmdParseDevice
  dsimp only
  repeat' split
  all_goals simp

theorem cmdParseTry_freezes (r : Req) (s : State) : AnsFreezes s (cmdParseTry.body r s) := by simp [cmdParseTry]

theorem cmdPickerStatus_freezes (r : Req) (s : State) : AnsFreezes s (cmdPickerStatus.body r s) := by simp [cmdPickerStatus]

theorem cmdPickerRetire_freezes (r : Req) (s : State) : AnsFreezes s (cmdPickerRetire.body r s) := by
  unfold cmdPickerRetire
  dsimp only
  repeat' split
  all_goals simp

theorem cmdPickerReadmit_freezes (pass : Bool) (r : Req) (s : State) : AnsFreezes s ((cmdPickerReadmit pass).body r s) := by
  unfold cmdPickerReadmit
  dsimp only
  repeat' split
  all_goals simp

/-! ### Configuration sets -/

@[simp] theorem swapNow_frozen (s : State) : frozen (swapNow s) = frozen s := by
  simp [swapNow, forEach_frozen, apply_ite frozen]

theorem execTimedSwapFire_freezes (s : State) : Freezes s (execTimedSwapFire s) := by
  unfold execTimedSwapFire
  repeat' split
  all_goals simp

@[simp] theorem drainCount_frozen (loc n : Nat) (s : State) : frozen (drainCount loc n s) = frozen s := by
  simp [drainCount, apply_ite frozen]

@[simp] theorem dropOldCopies_frozen (s : State) : frozen (dropOldCopies s).2 = frozen s := by
  refine foldl_keeps (fun a : _ × State => frozen a.2) _ _ _ fun acc q => ?_
  simp

@[simp] theorem dropOldStaged_frozen (s : State) : frozen (dropOldStaged s).2 = frozen s := by
  simp [dropOldStaged, forEach_frozen]

@[simp] theorem dropOldHeld_frozen (s : State) : frozen (dropOldHeld s).2 = frozen s := by simp [dropOldHeld]

theorem execSetDrainEnd_freezes (s : State) : Freezes s (execSetDrainEnd s) := by
  unfold execSetDrainEnd
  repeat' split
  all_goals simp

theorem execSetDrainTimeout_freezes (s : State) : Freezes s (execSetDrainTimeout s) := by
  unfold execSetDrainTimeout
  dsimp only
  repeat' split
  all_goals simp

@[simp] theorem copyToShadow_frozen (s : State) : frozen (copyToShadow s) = frozen s := by simp [copyToShadow]

@[simp] theorem swapLoad_frozen (s : State) : frozen (swapLoad s) = frozen s := by
  unfold swapLoad
  repeat' split
  all_goals simp

@[simp] theorem swapBack_frozen (s : State) : frozen (swapBack s) = frozen s := by
  unfold swapBack
  repeat' split
  all_goals simp

theorem execShadowCopyComplete_freezes (s : State) : Freezes s (execShadowCopyComplete s) := by
  unfold execShadowCopyComplete
  dsimp only
  repeat' split
  all_goals simp

@[simp] theorem swapCancel_frozen (s : State) : frozen (swapCancel s) = frozen s := by simp [swapCancel]

theorem cmdSetStatus_freezes (r : Req) (s : State) : AnsFreezes s (cmdSetStatus.body r s) := by simp [cmdSetStatus]

theorem cmdSetCopy_freezes (r : Req) (s : State) : AnsFreezes s (cmdSetCopy.body r s) := by simp [cmdSetCopy]

theorem cmdSetLoad_freezes (r : Req) (s : State) : AnsFreezes s (cmdSetLoad.body r s) := by
  unfold cmdSetLoad
  dsimp only
  repeat' split
  all_goals simp

theorem cmdSetSwap_freezes (r : Req) (s : State) : AnsFreezes s (cmdSetSwap.body r s) := by
  unfold cmdSetSwap
  dsimp only
  repeat' split
  all_goals simp

theorem cmdSetSwapCancel_freezes (r : Req) (s : State) : AnsFreezes s (cmdSetSwapCancel.body r s) := by
  unfold cmdSetSwapCancel
  dsimp only
  repeat' split
  all_goals simp

/-! ### The device commands and the counters -/

theorem cmdDeviceInfo_freezes (r : Req) (s : State) : AnsFreezes s (cmdDeviceInfo.body r s) := by simp [cmdDeviceInfo]

theorem cmdNoticeSubscribe_freezes (r : Req) (s : State) : AnsFreezes s (cmdNoticeSubscribe.body r s) := by
  simp [cmdNoticeSubscribe]

@[simp] theorem setEnSpi_frozen (i v : Nat) (s : State) : frozen (setEnSpi i v s) = frozen s := by simp [setEnSpi]

theorem cmdEventSpiMask_freezes (r : Req) (s : State) : AnsFreezes s (cmdEventSpiMask.body r s) := by
  simp [cmdEventSpiMask, forEach_frozen]

theorem cmdDeviceReset_freezes (r : Req) (s : State) : AnsFreezes s (cmdDeviceReset.body r s) := by
  unfold cmdDeviceReset
  dsimp only
  repeat' split
  all_goals simp

@[simp] theorem counterClear_frozen (p i : Nat) (s : State) : frozen (counterClear p i s) = frozen s := by
  simp [counterClear, apply_ite frozen]

@[simp] theorem latchSnapshot_frozen (s : State) : frozen (latchSnapshot s) = frozen s := by simp [latchSnapshot]

theorem execSnapshotPeriodicTimer_freezes (s : State) : Freezes s (execSnapshotPeriodicTimer s) := by
  simp [execSnapshotPeriodicTimer, apply_ite frozen]

theorem execSnapshotPublish_freezes (s : State) : Freezes s (execSnapshotPublish s) := by
  unfold execSnapshotPublish
  repeat' split
  all_goals simp

theorem cmdCounterSnapshot_freezes (r : Req) (s : State) : AnsFreezes s (cmdCounterSnapshot.body r s) := by
  unfold cmdCounterSnapshot
  dsimp only
  repeat' split
  all_goals simp

theorem cmdCounterRead_freezes (r : Req) (s : State) : AnsFreezes s (cmdCounterRead.body r s) := by simp [cmdCounterRead]

@[simp] theorem mbCountsClear_frozen (s : State) : frozen (mbCountsClear s) = frozen s := by
  simp [mbCountsClear, forEach_frozen]

theorem cmdCounterClear_freezes (r : Req) (s : State) : AnsFreezes s (cmdCounterClear.body r s) := by
  simp only [cmdCounterClear, ansFreezes_ok, apply_ite frozen, mbCountsClear_frozen, frozen_mk, otp_pending, forEach_frozen,
    counterClear_frozen, ite_self, implies_true]

/-! ### Resets and starts -/

@[simp] theorem allReset_frozen (p : Power) (s : State) : frozen (allReset p s) = frozen s := by simp [allReset]

@[simp] theorem denReset_frozen (rails : BitVec 7) (s : State) : frozen (denReset rails s) = frozen s := by simp [denReset]

@[simp] theorem restart_frozen (hold : Hold) (phase : Phase) (s : State) : frozen (restart hold phase s) = frozen s := by
  simp [restart]

@[simp] theorem bootCause_frozen (b : Nat) (s : State) : frozen (bootCause b s) = frozen s := by simp [bootCause]

@[simp] theorem holdReset_frozen (hold : Hold) (bit kind : Nat) (fault : Bool) (s : State) :
    frozen (holdReset hold bit kind fault s) = frozen s := by
  simp [holdReset]

@[simp] theorem bootBegin_frozen (s : State) : frozen (bootBegin s) = frozen s := by
  simp [bootBegin, apply_ite frozen]

@[simp] theorem startAtT2_frozen (s : State) : frozen (startAtT2 s) = frozen s := by simp [startAtT2]

@[simp] theorem bootBank_frozen (n : Option Nat) (trial : Bool) (s : State) : frozen (bootBank n trial s) = frozen s := by
  simp [bootBank]

@[simp] theorem settledBank_frozen (s : State) : frozen (settledBank s) = frozen s := by
  unfold settledBank
  repeat' split
  all_goals simp

@[simp] theorem bankSelect_frozen (s : State) : frozen (bankSelect s) = frozen s := by
  unfold bankSelect
  repeat' split
  all_goals simp

@[simp] theorem romStart_frozen (s : State) : frozen (romStart s) = frozen s := by
  simp [romStart, apply_ite frozen]

@[simp] theorem bootFailed_frozen (code : Nat) (s : State) : frozen (bootFailed code s) = frozen s := by simp [bootFailed]

@[simp] theorem bistRetire_frozen (f : BistFail) (s : State) : frozen (bistRetire f s) = frozen s := by
  unfold bistRetire
  repeat' split
  all_goals simp [forEach_frozen]

@[simp] theorem bistApply_frozen (s : State) : frozen (bistApply s) = frozen s := by
  simp [bistApply, forEach_frozen, apply_ite frozen]

@[simp] theorem bistRecord_frozen (run duration noRef soft : Nat) (fs : List BistFail) (s : State) :
    frozen (bistRecord run duration noRef soft fs s) = frozen s := by
  simp [bistRecord]

@[simp] theorem warmReset_frozen (s : State) : frozen (warmReset s) = frozen s := by simp [warmReset]

@[simp] theorem endpointReset_frozen (s : State) : frozen (endpointReset s) = frozen s := by
  simp [endpointReset, forEach_frozen]

theorem execDenPowerOnReset_freezes (xtal : Bool) (s : State) : Freezes s (execDenPowerOnReset xtal s) := by
  simp [execDenPowerOnReset, apply_ite frozen]

theorem execPorstNAssert_freezes (s : State) : Freezes s (execPorstNAssert s) := by simp [execPorstNAssert]

theorem execPorstNRelease_freezes (boot : Nat) (s : State) : Freezes s (execPorstNRelease boot s) := by
  unfold execPorstNRelease
  repeat' split
  all_goals simp

theorem execAllRailsGood_freezes (s : State) : Freezes s (execAllRailsGood s) := by
  simp [execAllRailsGood, apply_ite frozen]

theorem execPllLockComplete_freezes (s : State) : Freezes s (execPllLockComplete s) := by
  unfold execPllLockComplete
  repeat' split
  all_goals simp

@[simp] theorem supplyLate_frozen (late : BitVec 7) (s : State) : frozen (supplyLate late s) = frozen s := by
  simp [supplyLate]

theorem execSupplyWindowExpiry_freezes (late : Nat) (s : State) : Freezes s (execSupplyWindowExpiry late s) := by
  unfold execSupplyWindowExpiry
  dsimp only
  repeat' split
  all_goals simp

theorem execRailOutOfRange_freezes (rail : Nat) (s : State) : Freezes s (execRailOutOfRange rail s) := by
  unfold execRailOutOfRange
  repeat' split
  all_goals simp

theorem execBrownOut_freezes (rail : Nat) (s : State) : Freezes s (execBrownOut rail s) := by
  unfold execBrownOut
  repeat' split
  all_goals simp

theorem execVddAonLoss_freezes (s : State) : Freezes s (execVddAonLoss s) := by simp [execVddAonLoss]

theorem execFaultRestart_freezes (xtal : Bool) (s : State) : Freezes s (execFaultRestart xtal s) := by
  unfold execFaultRestart
  dsimp only
  repeat' split
  all_goals simp

theorem execRefClockFault_freezes (s : State) : Freezes s (execRefClockFault s) := by
  unfold execRefClockFault
  repeat' split
  all_goals simp

@[simp] theorem tjCause_frozen (bit limit : Nat) (armed : Bool) (s : State) :
    frozen (tjCause bit limit armed s).2 = frozen s := by
  unfold tjCause
  repeat' split
  all_goals simp

theorem execTjThresholdCross_freezes (tj : Int) (s : State) : Freezes s (execTjThresholdCross tj s) := by
  unfold execTjThresholdCross
  dsimp only
  repeat' split
  all_goals simp

theorem execOvertempReset_freezes (tj : Int) (s : State) : Freezes s (execOvertempReset tj s) := by
  unfold execOvertempReset
  dsimp only
  repeat' split
  all_goals simp

theorem execWarmNAssert_freezes (s : State) : Freezes s (execWarmNAssert s) := by
  simp [execWarmNAssert, apply_ite frozen]

theorem execWarmResetStart_freezes (s : State) : Freezes s (execWarmResetStart s) := by
  simp [execWarmResetStart, apply_ite frozen]

theorem execPciePerstAssert_freezes (s : State) : Freezes s (execPciePerstAssert s) := by simp [execPciePerstAssert]

theorem execPcieHotReset_freezes (s : State) : Freezes s (execPcieHotReset s) := by
  simp [execPcieHotReset, apply_ite frozen]

theorem execPcieFlr_freezes (s : State) : Freezes s (execPcieFlr s) := by
  simp [execPcieFlr, apply_ite frozen]

/-! ### Field update -/

@[simp] theorem manifestStatus_frozen (m : Bytes) (s : State) : frozen (manifestStatus m s).2 = frozen s := by
  unfold manifestStatus
  dsimp only
  repeat' split
  all_goals simp

@[simp] theorem sendPiece_frozen (port : Nat) (x : RelayItem) (s : State) : frozen (sendPiece port x s) = frozen s := by
  simp [sendPiece, forEach_frozen]

@[simp] theorem setPiece_frozen (y : RelayItem) (s : State) : frozen (setPiece y s) = frozen s := by simp [setPiece]

@[simp] theorem sendOn_frozen (p : Nat) (x : RelayItem) (s : State) : frozen (sendOn p x s) = frozen s := by simp [sendOn]

@[simp] theorem relaySend_frozen (s : State) : frozen (relaySend s) = frozen s := by
  refine forEach_frozen _ _ _ fun p s => forEach_frozen _ _ _ fun _ s => ?_
  repeat' split
  all_goals simp

@[simp] theorem relayAdd_frozen (part block : Nat) (data : Bytes) (s : State) :
    frozen (relayAdd part block data s) = frozen s := by
  simp [relayAdd, apply_ite frozen]

@[simp] theorem relayDone_frozen (p : Nat) (hit : RelayItem → Bool) (s : State) : frozen (relayDone p hit s) = frozen s := by
  simp [relayDone]

@[simp] theorem manifestAccept_frozen (m : Bytes) (solo : Bool) (s : State) :
    frozen (manifestAccept m solo s) = frozen s := by
  simp [manifestAccept, apply_ite frozen]

@[simp] theorem manifestFail_frozen (s : State) : frozen (manifestFail s) = frozen s := by simp [manifestFail]

@[simp] theorem pieceTake_frozen (part block : Nat) (d : Bytes) (s : State) :
    frozen (pieceTake part block d s) = frozen s := by
  simp [pieceTake, apply_ite frozen]

@[simp] theorem pieceFail_frozen (s : State) : frozen (pieceFail s) = frozen s := by simp [pieceFail]

@[simp] theorem pieceBytes_frozen (part block off : Nat) (d : Bytes) (s : State) :
    frozen (pieceBytes part block off d s).2 = frozen s := by
  unfold pieceBytes
  dsimp only
  repeat' split
  all_goals simp

theorem takeChain_frozen (port kind : Nat) (s : State) :
    ∀ y0 t, takeChain port kind s = some (y0, t) → frozen t = frozen s := by
  unfold takeChain
  dsimp only
  repeat' split
  all_goals simp

@[simp] theorem takeControl_frozen (port kind : Nat) (s : State) : frozen (takeControl port kind s).2 = frozen s := by
  unfold takeControl
  cases h : takeChain port kind s with
  | none => rfl
  | some e =>
    obtain ⟨p, t⟩ := e
    have ht := takeChain_frozen _ _ _ _ _ h
    simp only [apply_ite frozen, apply_ite Prod.snd, raise_frozen, count_frozen, frozen_mk, otp_pending, ht, ite_self]

@[simp] theorem relayFrame_frozen (ports : List Nat) (p : Bytes) (s : State) : frozen (relayFrame ports p s) = frozen s := by
  simp [relayFrame, forEach_frozen]

@[simp] theorem relayDown_frozen (mask : Nat) (p : Bytes) (s : State) : frozen (relayDown mask p s) = frozen s := by
  simp [relayDown, apply_ite frozen]

@[simp] theorem ctrlAck_frozen (p : Bytes) (s : State) : frozen (ctrlAck p s) = frozen s := by simp [ctrlAck]

@[simp] theorem dataAck_frozen (part block pkg : Nat) (s : State) : frozen (dataAck part block pkg s) = frozen s := by
  simp [dataAck, forEach_frozen]

@[simp] theorem chainManifest_frozen (p : Bytes) (s : State) : frozen (chainManifest p s) = frozen s := by
  simp [chainManifest, apply_ite frozen]

theorem execChainDataReceive_freezes (port : Nat) (s : State) : Freezes s (execChainDataReceive port s) := by
  unfold execChainDataReceive
  split
  · simp
  · have ht := takeChain_frozen _ _ _ _ _ ‹_›
    simp only [apply_ite (Freezes s), apply_ite frozen, freezes_next, chainManifest_frozen, dataAck_frozen, pieceBytes_frozen,
      frozen_mk, otp_pending, ht, ite_self]

theorem execChainDataAckReceive_freezes (port : Nat) (s : State) : Freezes s (execChainDataAckReceive port s) := by
  unfold execChainDataAckReceive
  split
  · simp
  · have ht := takeChain_frozen _ _ _ _ _ ‹_›
    split <;> simp [ht]

theorem execChainRetransmitTimer_freezes (port part block : Nat) (s : State) :
    Freezes s (execChainRetransmitTimer port part block s) := by
  unfold execChainRetransmitTimer
  repeat' split
  all_goals simp

@[simp] theorem armLate_frozen (s : State) : frozen (armLate s) = frozen s := by simp [armLate]

@[simp] theorem armAccept_frozen (t trialS mask : Nat) (s : State) : frozen (armAccept t trialS mask s) = frozen s := by
  simp [armAccept, apply_ite frozen]

@[simp] theorem trialOk_frozen (s : State) : frozen (trialOk s) = frozen s := by simp [trialOk]

@[simp] theorem activateSwap_frozen (s : State) : frozen (activateSwap s) = frozen s := by simp [activateSwap]

@[simp] theorem activateRestart_frozen (s : State) : frozen (activateRestart s) = frozen s := by simp [activateRestart]

theorem execUpdateActivation_freezes (s : State) : Freezes s (execUpdateActivation s) := by
  unfold execUpdateActivation
  repeat' split
  all_goals simp

theorem execShadowReadyDeadline_freezes (s : State) : Freezes s (execShadowReadyDeadline s) := by
  unfold execShadowReadyDeadline
  repeat' split
  all_goals simp

@[simp] theorem armWithdraw_frozen (s : State) : frozen (armWithdraw s) = frozen s := by
  simp [armWithdraw, apply_ite frozen]

@[simp] theorem fallBack_frozen (s : State) : frozen (fallBack s) = frozen s := by
  unfold fallBack
  dsimp only
  repeat' split
  all_goals simp

@[simp] theorem confirmTrial_frozen (s : State) : frozen (confirmTrial s) = frozen s := by
  unfold confirmTrial
  repeat' split
  all_goals simp

@[simp] theorem abortHere_frozen (s : State) : frozen (abortHere s) = frozen s := by
  simp [abortHere, apply_ite frozen]

theorem execTrialWindowExpiry_freezes (s : State) : Freezes s (execTrialWindowExpiry s) := by
  unfold execTrialWindowExpiry
  repeat' split
  all_goals simp

theorem execChainArmReceive_freezes (port : Nat) (s : State) : Freezes s (execChainArmReceive port s) := by
  unfold execChainArmReceive
  split
  · rw [freezes_next]
    exact frozen_of_eq ‹_› (takeControl_frozen ..)
  · have ht := frozen_of_eq ‹_› (takeControl_frozen ..)
    dsimp only
    repeat' split
    all_goals simp [ht]

theorem execChainConfirmReceive_freezes (port : Nat) (s : State) : Freezes s (execChainConfirmReceive port s) := by
  unfold execChainConfirmReceive
  split
  · rw [freezes_next]
    exact frozen_of_eq ‹_› (takeControl_frozen ..)
  · have ht := frozen_of_eq ‹_› (takeControl_frozen ..)
    dsimp only
    repeat' split
    all_goals simp [ht]

theorem execChainAbortReceive_freezes (port : Nat) (s : State) : Freezes s (execChainAbortReceive port s) := by
  unfold execChainAbortReceive
  split
  · rw [freezes_next]
    exact frozen_of_eq ‹_› (takeControl_frozen ..)
  · have ht := frozen_of_eq ‹_› (takeControl_frozen ..)
    dsimp only
    repeat' split
    all_goals simp [ht]

theorem execChainStatusReceive_freezes (port : Nat) (s : State) : Freezes s (execChainStatusReceive port s) := by
  unfold execChainStatusReceive
  split
  · rw [freezes_next]
    exact frozen_of_eq ‹_› (takeControl_frozen ..)
  · have ht := frozen_of_eq ‹_› (takeControl_frozen ..)
    repeat' split
    all_goals simp [ht]

theorem execChainCtrlAckReceive_freezes (port : Nat) (s : State) : Freezes s (execChainCtrlAckReceive port s) := by
  unfold execChainCtrlAckReceive
  split
  · rw [freezes_next]
    exact frozen_of_eq ‹_› (takeControl_frozen ..)
  · have ht := frozen_of_eq ‹_› (takeControl_frozen ..)
    repeat' split
    all_goals simp [ht]

theorem execUpdStatusTimer_freezes (s : State) : Freezes s (execUpdStatusTimer s) := by
  simp [execUpdStatusTimer, apply_ite frozen]

@[simp] theorem sendArm_frozen (devs : List Nat) (s : State) : frozen (sendArm devs s) = frozen s := by simp [sendArm]

@[simp] theorem sendMask_frozen (kind : Nat) (devs : List Nat) (s : State) : frozen (sendMask kind devs s) = frozen s := by
  simp [sendMask]

theorem execArmRepeatTimer_freezes (s : State) : Freezes s (execArmRepeatTimer s) := by
  unfold execArmRepeatTimer
  repeat' split
  all_goals simp

theorem execConfirmRepeatTimer_freezes (s : State) : Freezes s (execConfirmRepeatTimer s) := by
  unfold execConfirmRepeatTimer
  dsimp only
  repeat' split
  all_goals simp

theorem execIncompleteCheck_freezes (s : State) : Freezes s (execIncompleteCheck s) := by
  unfold execIncompleteCheck
  dsimp only
  repeat' split
  all_goals simp

theorem execPackageReadbackComplete_freezes (flashErr : Bool) (s : State) :
    Freezes s (execPackageReadbackComplete flashErr s) := by
  unfold execPackageReadbackComplete
  dsimp only
  repeat' split
  all_goals simp

theorem cmdUpdStatus_freezes (r : Req) (s : State) : AnsFreezes s (cmdUpdStatus.body r s) := by simp [cmdUpdStatus]

theorem cmdUpdManifest_freezes (r : Req) (s : State) : AnsFreezes s (cmdUpdManifest.body r s) := by
  simp only [cmdUpdManifest, apply_ite (AnsFreezes s), apply_ite Prod.snd, apply_ite frozen, ansFreezes_ok, ansFreezes_fail,
    manifestFail_frozen, manifestAccept_frozen, manifestStatus_frozen, bankRead_frozen, frozen_mk, otp_pending, ite_self]

theorem cmdUpdData_freezes (r : Req) (s : State) : AnsFreezes s (cmdUpdData.body r s) := by
  unfold cmdUpdData
  dsimp only
  repeat' split
  all_goals simp

theorem cmdUpdChain_freezes (r : Req) (s : State) : AnsFreezes s (cmdUpdChain.body r s) := by
  unfold cmdUpdChain
  dsimp only
  repeat' split
  all_goals simp

theorem cmdUpdArm_freezes (r : Req) (s : State) : AnsFreezes s (cmdUpdArm.body r s) := by
  unfold cmdUpdArm
  dsimp only
  repeat' split
  all_goals simp

theorem cmdUpdConfirm_freezes (r : Req) (s : State) : AnsFreezes s (cmdUpdConfirm.body r s) := by
  unfold cmdUpdConfirm
  dsimp only
  repeat' split
  all_goals simp

theorem cmdUpdAbort_freezes (r : Req) (s : State) : AnsFreezes s (cmdUpdAbort.body r s) := by
  unfold cmdUpdAbort
  dsimp only
  repeat' split
  all_goals simp

theorem cmdUpdVehicle_freezes (r : Req) (s : State) : AnsFreezes s (cmdUpdVehicle.body r s) := by
  unfold cmdUpdVehicle
  dsimp only
  repeat' split
  all_goals simp

theorem cmdServiceAuth_freezes (r : Req) (s : State) : AnsFreezes s (cmdServiceAuth.body r s) := by
  unfold cmdServiceAuth
  dsimp only
  repeat' split
  all_goals simp

/-! ### The boot ROM's load, the host load, the start of Diesh -/

@[simp] theorem dieshStart_frozen (rev : BitVec 32) (empty : Bool) (s : State) :
    frozen (dieshStart rev empty s) = frozen s := by
  simp [dieshStart]

@[simp] theorem loadWait_frozen (s : State) : frozen (loadWait s) = frozen s := by
  simp [loadWait, apply_ite frozen]

@[simp] theorem romLoad_frozen (s : State) : frozen (romLoad s) = frozen s := by
  unfold romLoad
  repeat' split
  all_goals simp

theorem execBootImageLoadComplete_freezes (s : State) : Freezes s (execBootImageLoadComplete s) := by
  simp [execBootImageLoadComplete, apply_ite frozen]

theorem cmdBootImage_freezes (r : Req) (s : State) : AnsFreezes s (cmdBootImage.body r s) := by
  unfold cmdBootImage
  dsimp only
  repeat' split
  all_goals simp

@[simp] theorem bootSets_frozen (c : CfgSet) (s : State) : frozen (bootSets c s) = frozen s := by simp [bootSets]

@[simp] theorem restoreFv_frozen (s : State) : frozen (restoreFv s) = frozen s := by simp [restoreFv]

@[simp] theorem bootBanks_frozen (s : State) : frozen (bootBanks s) = frozen s := by
  simp [bootBanks, apply_ite frozen]

@[simp] theorem bootSettings_frozen (s : State) : frozen (bootSettings s) = frozen s := by simp [bootSettings]

@[simp] theorem bootDone_frozen (code : Nat) (s : State) : frozen (bootDone code s) = frozen s := by
  simp [bootDone, apply_ite frozen]

@[simp] theorem bootTrial_frozen (s : State) : frozen (bootTrial s) = frozen s := by
  simp [bootTrial, apply_ite frozen]

@[simp] theorem bootStaged_frozen (s : State) : frozen (bootStaged s) = frozen s := by
  simp [bootStaged, apply_ite frozen]

@[simp] theorem bootUpdate_frozen (s : State) : frozen (bootUpdate s) = frozen s := by
  simp [bootUpdate, apply_ite frozen]

@[simp] theorem dieshBoot_frozen (s : State) : frozen (dieshBoot s) = frozen s := by
  unfold dieshBoot
  dsimp only
  repeat' split
  all_goals simp

theorem execDieshInitComplete_freezes (s : State) : Freezes s (execDieshInitComplete s) := by
  simp [execDieshInitComplete, apply_ite frozen]

/-! ### A finished parse goes through classification, policing, FRER, cut-through and admission -/

@[simp] theorem markCut_frozen (fid q : Nat) (s : State) : frozen (markCut fid q s) = frozen s := by simp [markCut]

@[simp] theorem tryCut_frozen (fid p q : Nat) (s : State) : frozen (tryCut fid p q s) = frozen s := by
  simp [tryCut, apply_ite frozen]

@[simp] theorem admitFrame_frozen (fid : Nat) (f : Frame) (r : ParseResult) (ended : Bool) (cs : List Copy) (s : State) :
    frozen (admitFrame fid f r ended cs s) = frozen s := by
  simp [admitFrame, forEach_frozen, apply_ite frozen]

@[simp] theorem clsCopies_frozen (c : CfgSet) (len : Nat) (f : Frame) (r : ParseResult) (o : ClsOut) (s : State) :
    frozen (clsCopies c len f r o s).2.2 = frozen s := by
  unfold clsCopies
  simp only [apply_ite frozen, apply_ite Prod.snd, foxIngress_frozen, frer_frozen, police_frozen, ite_self]

@[simp] theorem malformed_frozen (c : CfgSet) (f : Frame) (r : ParseResult) (act : Nat) (s : State) :
    frozen (malformed c f r act s).2 = frozen s := by
  simp [malformed]

@[simp] theorem deliverFrame_frozen (fid : Nat) (v : VFrame) (r : ParseResult) (s : State) :
    frozen (deliverFrame fid v r s) = frozen s := by
  unfold deliverFrame
  dsimp only
  repeat' split
  all_goals simp

theorem execParseResultDeliver_freezes (port : Nat) (s : State) : Freezes s (execParseResultDeliver port s) := by
  unfold execParseResultDeliver
  dsimp only
  repeat' split
  all_goals simp

/-! ### Performance levels -/

@[simp] theorem overCheck_frozen {f : State → State} {s : State} (h : frozen (f s) = frozen s) :
    frozen (overCheck f s) = frozen s := by
  unfold overCheck
  dsimp only
  split <;> simp [h]

@[simp] theorem driveVsel_frozen (level : Nat) (s : State) : frozen (driveVsel level s) = frozen s := by
  simp [driveVsel, apply_ite frozen]

@[simp] theorem clocksAt_frozen (level : Nat) (s : State) : frozen (clocksAt level s) = frozen s := by simp [clocksAt]

@[simp] theorem levelChange_frozen (level : Nat) (mb : Option Nat) (s : State) :
    frozen (levelChange level mb s) = frozen s := by
  simp [levelChange, apply_ite frozen]

theorem cmdPowerLevel_freezes (r : Req) (s : State) : AnsFreezes s (cmdPowerLevel.body r s) := by
  unfold cmdPowerLevel
  dsimp only
  repeat' split
  all_goals simp

theorem execVselSettleExpiry_freezes (s : State) : Freezes s (execVselSettleExpiry s) := by
  unfold execVselSettleExpiry
  dsimp only
  repeat' split
  all_goals simp

theorem execLevelRestore_freezes (s : State) : Freezes s (execLevelRestore s) := by
  unfold execLevelRestore
  repeat' split
  all_goals simp

/-! ### The commands of group 0x03 -/

@[simp] theorem modeSet_frozen (n mode : Nat) (s : State) : frozen (modeSet n mode s) = frozen s := by simp [modeSet]

@[simp] theorem modeWrite_frozen (n mode : Nat) (s : State) : frozen (modeWrite n mode s) = frozen s := by
  simp [modeWrite, apply_ite frozen]

theorem cmdEdgeConfig_freezes (r : Req) (s : State) : AnsFreezes s (cmdEdgeConfig.body r s) := by
  unfold cmdEdgeConfig
  dsimp only
  repeat' split
  all_goals simp

@[simp] theorem edgeStateOp_frozen (n op : Nat) (s : State) : frozen (edgeStateOp n op s) = frozen s := by
  unfold edgeStateOp
  repeat' split
  all_goals simp [forEach_frozen, apply_ite frozen]

theorem cmdEdgeState_freezes (r : Req) (s : State) : AnsFreezes s (cmdEdgeState.body r s) := by
  unfold cmdEdgeState
  dsimp only
  repeat' split
  all_goals simp

theorem cmdEdgeStatus_freezes (r : Req) (s : State) : AnsFreezes s (cmdEdgeStatus.body r s) := by simp [cmdEdgeStatus]

theorem cmdEdgeFilter_freezes (r : Req) (s : State) : AnsFreezes s (cmdEdgeFilter.body r s) := by
  unfold cmdEdgeFilter
  dsimp only
  repeat' split
  all_goals simp

theorem cmdEdgeRetire_freezes (r : Req) (s : State) : AnsFreezes s (cmdEdgeRetire.body r s) := by
  unfold cmdEdgeRetire
  dsimp only
  repeat' split
  all_goals simp

theorem cmdEdgeReadmit_freezes (r : Req) (s : State) : AnsFreezes s (cmdEdgeReadmit.body r s) := by
  unfold cmdEdgeReadmit
  dsimp only
  repeat' split
  all_goals simp [forEach_frozen]

theorem cmdLinTable_freezes (r : Req) (s : State) : AnsFreezes s (cmdLinTable.body r s) := by
  unfold cmdLinTable
  dsimp only
  repeat' split
  all_goals simp

theorem cmdFrConfig_freezes (r : Req) (s : State) : AnsFreezes s (cmdFrConfig.body r s) := by
  simp only [cmdFrConfig, apply_ite (AnsFreezes s), ansFreezes_ok, ansFreezes_fail, setFrCtl_frozen, ite_self]

theorem cmdT1sPlca_freezes (r : Req) (s : State) : AnsFreezes s (cmdT1sPlca.body r s) := by
  unfold cmdT1sPlca
  dsimp only
  repeat' split
  all_goals simp

theorem cmdTmc_freezes (r : Req) (s : State) : AnsFreezes s (cmdTmc.body r s) := by
  unfold cmdTmc
  dsimp only
  repeat' split
  all_goals simp [forEach_frozen]

/-! ### The time unit -/

@[simp] theorem setTb_frozen (n : Nat) (t : TimeBase) (s : State) : frozen (setTb n t s) = frozen s := by simp [setTb]

theorem execTimeCycleTick_freezes (s : State) : Freezes s (execTimeCycleTick s) := by
  unfold execTimeCycleTick
  repeat' split
  all_goals simp [forEach_frozen]

@[simp] theorem setCmp_frozen (n k : Nat) (c : Compare) (s : State) : frozen (setCmp n k c s) = frozen s := by simp [setCmp]

@[simp] theorem setCap_frozen (n k : Nat) (c : Capture) (s : State) : frozen (setCap n k c s) = frozen s := by simp [setCap]

@[simp] theorem setPps_frozen (k : Nat) (p : Pps) (s : State) : frozen (setPps k p s) = frozen s := by simp [setPps]

@[simp] theorem ppsFire_frozen (k : Nat) (s : State) : frozen (ppsFire k s) = frozen s := by
  simp [ppsFire, apply_ite frozen]

@[simp] theorem capture_frozen (n k : Nat) (s : State) : frozen (capture n k s) = frozen s := by
  simp [capture, apply_ite frozen]

@[simp] theorem captureAll_frozen (source edge : Nat) (s : State) : frozen (captureAll source edge s) = frozen s := by
  simp [captureAll, forEach_frozen, apply_ite frozen]

@[simp] theorem cmpFired_frozen (n k : Nat) (s : State) : frozen (cmpFired n k s) = frozen s := by
  simp [cmpFired, apply_ite frozen]

theorem execCompareFire_freezes (tb unit : Nat) (s : State) : Freezes s (execCompareFire tb unit s) := by
  unfold execCompareFire
  dsimp only
  repeat' split
  all_goals simp

theorem execCaptureEdge_freezes (source : Nat) (rising : Bool) (s : State) :
    Freezes s (execCaptureEdge source rising s) := by
  unfold execCaptureEdge
  dsimp only
  repeat' split
  all_goals simp

@[simp] theorem capStatusWrite_frozen (n k v : Nat) (s : State) : frozen (capStatusWrite n k v s) = frozen s := by
  simp [capStatusWrite]

@[simp] theorem latchWrite_frozen (v : Nat) (s : State) : frozen (latchWrite v s) = frozen s := by
  simp [latchWrite, forEach_frozen]

theorem execPpsPulseEnd_freezes (k : Nat) (s : State) : Freezes s (execPpsPulseEnd k s) := by
  unfold execPpsPulseEnd
  dsimp only
  repeat' split
  all_goals simp

@[simp] theorem setGptpSlot_frozen (i : Nat) (g : GptpSlot) (s : State) : frozen (setGptpSlot i g s) = frozen s := by
  simp [setGptpSlot]

@[simp] theorem stepTb_frozen (n : Nat) (off : Int) (s : State) : frozen (stepTb n off s).2 = frozen s := by
  simp [stepTb, forEach_frozen, apply_ite frozen]

@[simp] theorem resetDrops_frozen (n : Nat) (s : State) : frozen (resetDrops n s).2 = frozen s := by
  refine (foldl_keeps (fun a : _ × State => frozen a.2) _ _ _ fun acc ch => ?_).trans
    (foldl_keeps (fun a : _ × State => frozen a.2) _ _ _ fun acc q => ?_)
  · simp [forEach_frozen]
  · simp [forEach_frozen]

@[simp] theorem disarmAll_frozen (n : Nat) (s : State) : frozen (disarmAll n s).2 = frozen s := by
  simp [disarmAll, forEach_frozen, apply_ite frozen]

@[simp] theorem resetTb_frozen (n : Nat) (off : Bool) (s : State) : frozen (resetTb n off s).2 = frozen s := by
  unfold resetTb
  dsimp only
  repeat' split
  all_goals simp

theorem cmdTbEnable_freezes (r : Req) (s : State) : AnsFreezes s (cmdTbEnable.body r s) := by
  unfold cmdTbEnable
  dsimp only
  repeat' split
  all_goals simp

theorem cmdTbStep_freezes (r : Req) (s : State) : AnsFreezes s (cmdTbStep.body r s) := by
  simp only [cmdTbStep, apply_ite (AnsFreezes s), ansFreezes_ok, ansFreezes_fail, stepTb_frozen, ite_self]

theorem cmdTbRate_freezes (r : Req) (s : State) : AnsFreezes s (cmdTbRate.body r s) := by
  unfold cmdTbRate
  dsimp only
  repeat' split
  all_goals simp

theorem cmdTbReset_freezes (r : Req) (s : State) : AnsFreezes s (cmdTbReset.body r s) := by
  unfold cmdTbReset
  dsimp only
  repeat' split
  all_goals simp

theorem cmdTbStatus_freezes (r : Req) (s : State) : AnsFreezes s (cmdTbStatus.body r s) := by simp [cmdTbStatus]

/-! ### IEEE 802 -/

@[simp] theorem setGptpPort_frozen (p : Nat) (g : GptpPort) (s : State) : frozen (setGptpPort p g s) = frozen s := by
  simp [setGptpPort]

@[simp] theorem gptpState_frozen (i n : Nat) (s : State) : frozen (gptpState i n s) = frozen s := by
  simp [gptpState, apply_ite frozen]

@[simp] theorem gptpSend_frozen (p : Nat) (s : State) : frozen (gptpSend p s) = frozen s := by simp [gptpSend]

@[simp] theorem gmChange_frozen (i gm : Nat) (s : State) : frozen (gmChange i gm s) = frozen s := by
  simp [gmChange, apply_ite frozen]

@[simp] theorem servoRate_frozen (s : State) : frozen (servoRate s).2 = frozen s := by simp [servoRate]

@[simp] theorem servoTrack_frozen (i : Nat) (off : Int) (s : State) : frozen (servoTrack i off s) = frozen s := by
  simp [servoTrack, apply_ite frozen]

theorem execGptpSyncReceive_freezes (slot port : Nat) (off : Int) (steps gm : Nat) (ts : Bool) (s : State) :
    Freezes s (execGptpSyncReceive slot port off steps gm ts s) := by
  simp only [execGptpSyncReceive, apply_ite (Freezes s), apply_ite frozen, freezes_next, count_frozen, takeVintner_frozen,
    gmChange_frozen, setGptpSlot_frozen, setTb_frozen, stepTb_frozen, servoTrack_frozen, gptpState_frozen, raise_frozen, resetTb_frozen, ite_self]

theorem execGptpSyncTxTimer_freezes (slot port : Nat) (s : State) : Freezes s (execGptpSyncTxTimer slot port s) := by
  unfold execGptpSyncTxTimer
  dsimp only
  repeat' split
  all_goals simp

theorem execGptpSyncTimeout_freezes (slot : Nat) (s : State) : Freezes s (execGptpSyncTimeout slot s) := by
  unfold execGptpSyncTimeout
  dsimp only
  repeat' split
  all_goals simp

theorem execGptpAnnounceReceive_freezes (slot port prio1 quality prio2 gm steps : Nat) (s : State) :
    Freezes s (execGptpAnnounceReceive slot port prio1 quality prio2 gm steps s) := by
  unfold execGptpAnnounceReceive
  dsimp only
  repeat' split
  all_goals simp

@[simp] theorem asLost_frozen (p : Nat) (s : State) : frozen (asLost p s) = frozen s := by
  simp [asLost, apply_ite frozen]

theorem execGptpPdelayTimer_freezes (port : Nat) (s : State) : Freezes s (execGptpPdelayTimer port s) := by
  unfold execGptpPdelayTimer
  dsimp only
  repeat' split
  all_goals simp

theorem execGptpPdelayResponse_freezes (port neighbour delay : Nat) (ratio : Int) (ts : Bool) (s : State) :
    Freezes s (execGptpPdelayResponse port neighbour delay ratio ts s) := by
  unfold execGptpPdelayResponse
  dsimp only
  repeat' split
  all_goals simp

theorem execGptpPdelayRequestRx_freezes (port : Nat) (s : State) : Freezes s (execGptpPdelayRequestRx port s) := by
  unfold execGptpPdelayRequestRx
  dsimp only
  repeat' split
  all_goals simp

theorem cmdGptpDomain_freezes (r : Req) (s : State) : AnsFreezes s (cmdGptpDomain.body r s) := by
  unfold cmdGptpDomain
  dsimp only
  repeat' split
  all_goals simp

theorem cmdGptpPort_freezes (r : Req) (s : State) : AnsFreezes s (cmdGptpPort.body r s) := by
  unfold cmdGptpPort
  dsimp only
  repeat' split
  all_goals simp

theorem cmdGptpStatus_freezes (r : Req) (s : State) : AnsFreezes s (cmdGptpStatus.body r s) := by simp [cmdGptpStatus]

/-! ### The commands of group 0x04 -/

theorem cmdGwTunnel_freezes (r : Req) (s : State) : AnsFreezes s (cmdGwTunnel.body r s) := by
  unfold cmdGwTunnel
  dsimp only
  repeat' split
  all_goals simp

theorem cmdGwProgram_freezes (r : Req) (s : State) : AnsFreezes s (cmdGwProgram.body r s) := by
  simp only [cmdGwProgram, apply_ite (AnsFreezes s), ansFreezes_ok, ansFreezes_fail, editShadow_frozen, ite_self]

theorem cmdGwSecoc_freezes (r : Req) (s : State) : AnsFreezes s (cmdGwSecoc.body r s) := by
  simp only [cmdGwSecoc, apply_ite (AnsFreezes s), ansFreezes_ok, ansFreezes_fail, editShadow_frozen, ite_self]

theorem cmdGwFreshness_freezes (r : Req) (s : State) : AnsFreezes s (cmdGwFreshness.body r s) := by
  simp [cmdGwFreshness, forEach_frozen, apply_ite frozen]

theorem cmdGwStatus_freezes (r : Req) (s : State) : AnsFreezes s (cmdGwStatus.body r s) := by
  simp [cmdGwStatus, forEach_frozen, apply_ite frozen]

theorem cmdGwCounters_freezes (r : Req) (s : State) : AnsFreezes s (cmdGwCounters.body r s) := by simp [cmdGwCounters]

/-! ### What can change which ports are UP -/

@[simp] theorem linkUp_frozen (port : Nat) (s : State) : frozen (linkUp port s) = frozen s := by
  simp [linkUp, apply_ite frozen]

@[simp] theorem linkDown_frozen (port : Nat) (s : State) : frozen (linkDown port s) = frozen s := by
  simp [linkDown, apply_ite frozen]

theorem execLinkUpHoldExpiry_freezes (port : Nat) (s : State) : Freezes s (execLinkUpHoldExpiry port s) := by
  simp [execLinkUpHoldExpiry]

theorem execLinkDownHoldExpiry_freezes (port : Nat) (s : State) : Freezes s (execLinkDownHoldExpiry port s) := by
  simp [execLinkDownHoldExpiry]

@[simp] theorem laneEnds_frozen (l st result : Nat) (s : State) : frozen (laneEnds l st result s) = frozen s := by
  simp [laneEnds]

theorem execTc10StatusPoll_freezes (lane value : Nat) (s : State) : Freezes s (execTc10StatusPoll lane value s) := by
  unfold execTc10StatusPoll
  split
  · extract_lets p u
    refine freezes_of_frozen_eq (emit_frozen .. : frozen u = frozen s) ?_
    exact iteInduction (fun _ => changing_freezes (laneEnds_frozen ..)) fun _ => (freezes_next u u).2 rfl
  · simp

theorem execTc10AckTimeout_freezes (lane : Nat) (s : State) : Freezes s (execTc10AckTimeout lane s) := by
  unfold execTc10AckTimeout
  repeat' split
  all_goals simp

theorem execPhyWakeInput_freezes (lane : Nat) (s : State) : Freezes s (execPhyWakeInput lane s) := by
  unfold execPhyWakeInput
  split
  · simp
  · refine freezes_of_frozen_eq ?_ (changing_freezes (wake_frozen ..))
    split <;> simp

/-! ### Sleep -/

@[simp] theorem entryStart_frozen (target : Nat) (net : Bool) (s : State) : frozen (entryStart target net s) = frozen s := by
  simp [entryStart]

@[simp] theorem finalFrame_frozen (m : Nat) (s : State) : frozen (finalFrame m s).2 = frozen s := by simp [finalFrame]

@[simp] theorem finalTmc_frozen (m : Nat) (s : State) : frozen (finalTmc m s) = frozen s := by
  unfold finalTmc
  dsimp only
  repeat' split
  all_goals simp

@[simp] theorem saveStep_frozen (s : State) : frozen (saveStep s) = frozen s := by simp [saveStep, forEach_frozen]

@[simp] theorem roostEntered_frozen (s : State) : frozen (roostEntered s) = frozen s := by simp [roostEntered]

@[simp] theorem gateStep_frozen (s : State) : frozen (gateStep s) = frozen s := by
  simp [gateStep, forEach_frozen, apply_ite frozen]

theorem execSleepDrainComplete_freezes (s : State) : Freezes s (execSleepDrainComplete s) := by
  unfold execSleepDrainComplete
  repeat' split
  all_goals simp

theorem execSleepDrainTimeout_freezes (s : State) : Freezes s (execSleepDrainTimeout s) := by
  unfold execSleepDrainTimeout
  dsimp only
  repeat' split
  all_goals simp

@[simp] theorem keepResume_frozen (r : Option Resume) (s : State) : frozen (keepResume r s) = frozen s := by
  simp [keepResume]

@[simp] theorem powerOff_frozen (s : State) : frozen (powerOff s) = frozen s := by simp [powerOff]

theorem execSleepSaveComplete_freezes (s : State) : Freezes s (execSleepSaveComplete s) := by
  unfold execSleepSaveComplete
  dsimp only
  repeat' split
  all_goals simp

@[simp] theorem denTime_frozen (periods : Nat) (s : State) : frozen (denTime periods s) = frozen s := by simp [denTime]

@[simp] theorem denElapse_frozen (periods : Nat) (s : State) : frozen (denElapse periods s) = frozen s := by
  simp [denElapse, apply_ite frozen]

theorem execWakeDetect_freezes (source matcher channel periods : Nat) (s : State) :
    Freezes s (execWakeDetect source matcher channel periods s) := by
  unfold execWakeDetect
  dsimp only
  repeat' split
  all_goals simp

theorem execInhReleaseAfterFall_freezes (s : State) : Freezes s (execInhReleaseAfterFall s) := by
  unfold execInhReleaseAfterFall
  dsimp only
  repeat' split
  all_goals simp

theorem execSleepExitRailsGood_freezes (s : State) : Freezes s (execSleepExitRailsGood s) := by
  unfold execSleepExitRailsGood
  dsimp only
  repeat' split
  all_goals simp

@[simp] theorem gptpRestart_frozen (s : State) : frozen (gptpRestart s) = frozen s := by
  simp [gptpRestart, forEach_frozen, apply_ite frozen]

@[simp] theorem mkaRestart_frozen (s : State) : frozen (mkaRestart s) = frozen s := by
  simp [mkaRestart, forEach_frozen, apply_ite frozen]

@[simp] theorem tbRestart_frozen (s : State) : frozen (tbRestart s) = frozen s := by
  simp [tbRestart, forEach_frozen, apply_ite frozen]

@[simp] theorem linksRestart_frozen (s : State) : frozen (linksRestart s) = frozen s := by
  simp [linksRestart, forEach_frozen]

@[simp] theorem burrowLoss_frozen (s : State) : frozen (burrowLoss s) = frozen s := by simp [burrowLoss]

@[simp] theorem owlKeys_frozen (c : PairCfg) (s : State) : frozen (owlKeys c s) = frozen s := by simp [owlKeys]

@[simp] theorem resumePorts_frozen (r : Ports) (s : State) : frozen (resumePorts r s) = frozen s := by simp [resumePorts]

@[simp] theorem resumeEdge_frozen (r : Edge) (s : State) : frozen (resumeEdge r s) = frozen s := by simp [resumeEdge]

@[simp] theorem resumeTime_frozen (r : TimeUnit) (s : State) : frozen (resumeTime r s) = frozen s := by simp [resumeTime]

@[simp] theorem resumeApply_frozen (r : Resume) (s : State) : frozen (resumeApply r s) = frozen s := by
  simp [resumeApply, forEach_frozen, apply_ite frozen]

@[simp] theorem hibernateBoot_frozen (s : State) : frozen (hibernateBoot s) = frozen s := by
  unfold hibernateBoot
  dsimp only
  repeat' split
  all_goals simp [forEach_frozen]

@[simp] theorem hibernateExit_frozen (duration noRef : Nat) (fails : List BistFail) (s : State) :
    frozen (hibernateExit duration noRef fails s) = frozen s := by
  unfold hibernateExit
  dsimp only
  repeat' split
  all_goals simp

@[simp] theorem sleptRole_frozen (s : State) : frozen (sleptRole s) = frozen s := by
  simp [sleptRole, apply_ite frozen]

@[simp] theorem pcieWake_frozen (s : State) : frozen (pcieWake s) = frozen s := by
  simp [pcieWake, apply_ite frozen]

@[simp] theorem exitEnds_frozen (left : Nat) (s : State) : frozen (exitEnds left s) = frozen s := by
  simp [exitEnds, apply_ite frozen]

@[simp] theorem roostExit_frozen (s : State) : frozen (roostExit s) = frozen s := by simp [roostExit]

@[simp] theorem deepExit_frozen (left : Nat) (s : State) : frozen (deepExit left s) = frozen s := by simp [deepExit]

theorem execSleepExitComplete_freezes (periods duration noRef : Nat) (fails : List BistFail) (s : State) :
    Freezes s (execSleepExitComplete periods duration noRef fails s) := by
  unfold execSleepExitComplete
  dsimp only
  repeat' split
  all_goals simp

@[simp] theorem falseWake_frozen (w : Wake) (s : State) : frozen (falseWake w s) = frozen s := by
  simp [falseWake, apply_ite frozen]

theorem execFalseWakeTimeout_freezes (s : State) : Freezes s (execFalseWakeTimeout s) := by
  unfold execFalseWakeTimeout
  repeat' split
  all_goals simp

theorem cmdSleepEnter_freezes (r : Req) (s : State) : AnsFreezes s (cmdSleepEnter.body r s) := by
  unfold cmdSleepEnter
  dsimp only
  repeat' split
  all_goals simp

theorem cmdSleepExit_freezes (r : Req) (s : State) : AnsFreezes s (cmdSleepExit.body r s) := by
  unfold cmdSleepExit
  dsimp only
  repeat' split
  all_goals simp

theorem cmdWakeConfig_freezes (r : Req) (s : State) : AnsFreezes s (cmdWakeConfig.body r s) := by
  unfold cmdWakeConfig
  dsimp only
  repeat' split
  all_goals simp

theorem cmdWakeMatcher_freezes (r : Req) (s : State) : AnsFreezes s (cmdWakeMatcher.body r s) := by
  unfold cmdWakeMatcher
  dsimp only
  repeat' split
  all_goals simp

/-! ### Network coordination -/

@[simp] theorem setNm_frozen (f : Nm → Nm) (s : State) : frozen (setNm f s) = frozen s := by simp [setNm]

@[simp] theorem setStay_frozen (i : Nat) (e : StayEntry) (s : State) : frozen (setStay i e s) = frozen s := by simp [setStay]

@[simp] theorem holdEnds_frozen (x : NmNode) (s : State) : frozen (holdEnds x s) = frozen s := by
  unfold holdEnds
  repeat' split
  all_goals simp

@[simp] theorem nmHolders_frozen (s : State) : frozen (nmHolders s) = frozen s := by simp [nmHolders, forEach_frozen]

@[simp] theorem seekAgreement_frozen (s : State) : frozen (seekAgreement s) = frozen s := by
  simp [seekAgreement, apply_ite frozen]

@[simp] theorem nmChanged_frozen (s : State) : frozen (nmChanged s) = frozen s := by simp [nmChanged]

@[simp] theorem nmEvent_frozen (t : Nat) (own : Bool) (s : State) : frozen (nmEvent t own s) = frozen s := by
  simp [nmEvent, apply_ite frozen]

@[simp] theorem nodeSeen_frozen (port node : Nat) (s : State) : frozen (nodeSeen port node s) = frozen s := by
  simp [nodeSeen, apply_ite frozen]

@[simp] theorem nmFrame_frozen (port : Nat) (pdu : Bytes) (t : Nat) (s : State) :
    frozen (nmFrame port pdu t s) = frozen s := by
  simp [nmFrame, apply_ite frozen]

theorem execNmFrameReceive_freezes (port : Nat) (s : State) : Freezes s (execNmFrameReceive port s) := by
  unfold execNmFrameReceive
  dsimp only
  repeat' split
  all_goals simp

theorem execNmBusTimeout_freezes (port : Nat) (s : State) : Freezes s (execNmBusTimeout port s) := by
  unfold execNmBusTimeout
  dsimp only
  repeat' split
  all_goals simp

theorem execNmNodeExpiry_freezes (port node : Nat) (s : State) : Freezes s (execNmNodeExpiry port node s) := by
  simp [execNmNodeExpiry]

@[simp] theorem ownFrame_frozen (p : Nat) (s : State) : frozen (ownFrame p s).2 = frozen s := by
  unfold ownFrame
  dsimp only
  repeat' split
  all_goals simp

theorem execNmTxCycle_freezes (port : Nat) (s : State) : Freezes s (execNmTxCycle port s) := by
  unfold execNmTxCycle
  dsimp only
  repeat' split
  all_goals simp

theorem execNmHoldExpiry_freezes (port : Nat) (s : State) : Freezes s (execNmHoldExpiry port s) := by
  unfold execNmHoldExpiry
  dsimp only
  repeat' split
  all_goals simp

@[simp] theorem linDown_frozen (n : Nat) (s : State) : frozen (linDown n s) = frozen s := by simp [linDown]

@[simp] theorem linSleep_frozen (n : Nat) (s : State) : frozen (linSleep n s) = frozen s := by simp [linSleep]

@[simp] theorem commitStart_frozen (s : State) : frozen (commitStart s) = frozen s := by simp [commitStart, forEach_frozen]

theorem execNmCommitStart_freezes (s : State) : Freezes s (execNmCommitStart s) := by
  unfold execNmCommitStart
  dsimp only
  repeat' split
  all_goals simp

theorem execLinSlaveSilenceTimeout_freezes (chan : Nat) (s : State) :
    Freezes s (execLinSlaveSilenceTimeout chan s) := by
  unfold execLinSlaveSilenceTimeout
  dsimp only
  repeat' split
  all_goals simp

@[simp] theorem netEntry_frozen (s : State) : frozen (netEntry s) = frozen s := by simp [netEntry]

theorem execSleepEntryStart_freezes (s : State) : Freezes s (execSleepEntryStart s) := by
  unfold execSleepEntryStart
  dsimp only
  repeat' split
  all_goals simp

@[simp] theorem offender_frozen (x : NmNode) (held : Nat) (s : State) : frozen (offender x held s) = frozen s := by
  simp [offender, apply_ite frozen]

theorem execOffenderTimeout_freezes (port node : Nat) (s : State) : Freezes s (execOffenderTimeout port node s) := by
  unfold execOffenderTimeout
  repeat' split
  all_goals simp

@[simp] theorem unsuppress_frozen (i : Nat) (s : State) : frozen (unsuppress i s) = frozen s := by
  simp [unsuppress, apply_ite frozen]

theorem execSuppressionEnd_freezes (port node : Nat) (s : State) : Freezes s (execSuppressionEnd port node s) := by
  unfold execSuppressionEnd
  dsimp only
  repeat' split
  all_goals simp

theorem cmdNmBus_freezes (r : Req) (s : State) : AnsFreezes s (cmdNmBus.body r s) := by
  unfold cmdNmBus
  dsimp only
  repeat' split
  all_goals simp

@[simp] theorem nmSettings_frozen (p : Bytes) (s : State) : frozen (nmSettings p s) = frozen s := by
  simp [nmSettings, forEach_frozen, apply_ite frozen]

theorem cmdNmControl_freezes (r : Req) (s : State) : AnsFreezes s (cmdNmControl.body r s) := by
  unfold cmdNmControl
  dsimp only
  repeat' split
  all_goals simp

theorem cmdStayawakeLog_freezes (r : Req) (s : State) : AnsFreezes s (cmdStayawakeLog.body r s) := by
  unfold cmdStayawakeLog
  dsimp only
  repeat' split
  all_goals simp [forEach_frozen]

/-! ### The service port -/

@[simp] theorem serviceAccept_frozen (b : Bytes) (s : State) : frozen (serviceAccept b s) = frozen s := by
  simp [serviceAccept, apply_ite frozen]

theorem takeService_frozen (kind : Nat) (s : State) :
    ∀ y0 y1 t, takeService kind s = some (y0, y1, t) → frozen t = frozen s := by
  unfold takeService
  repeat' split
  all_goals simp

@[simp] theorem svcFormat_frozen (s : State) : frozen (svcFormat s) = frozen s := by simp [svcFormat]

theorem execServiceRequest_freezes (s : State) : Freezes s (execServiceRequest s) := by
  unfold execServiceRequest
  split
  · simp
  · have ht := takeService_frozen _ _ _ _ _ ‹_›
    simp [ht, apply_ite (Freezes s), apply_ite frozen]

theorem execServicePoll_freezes (s : State) : Freezes s (execServicePoll s) := by
  unfold execServicePoll
  split
  · simp
  · have ht := takeService_frozen _ _ _ _ _ ‹_›
    simp [ht, apply_ite (Freezes s)]

theorem execServiceAck_freezes (s : State) : Freezes s (execServiceAck s) := by
  unfold execServiceAck
  split
  · simp
  · have ht := takeService_frozen _ _ _ _ _ ‹_›
    simp [ht, apply_ite (Freezes s)]

@[simp] theorem closeSession_frozen (s : State) : frozen (closeSession s) = frozen s := by
  simp [closeSession, apply_ite frozen]

theorem execServiceSessionExpiry_freezes (s : State) : Freezes s (execServiceSessionExpiry s) := by
  simp [execServiceSessionExpiry]

theorem execServiceLinkLost_freezes (s : State) : Freezes s (execServiceLinkLost s) := by
  unfold execServiceLinkLost
  repeat' split
  all_goals simp

theorem cmdServiceEnd_freezes (r : Req) (s : State) : AnsFreezes s (cmdServiceEnd.body r s) := by
  unfold cmdServiceEnd
  dsimp only
  repeat' split
  all_goals simp

/-! ### A B, T or S MAC receives a frame -/

@[simp] theorem dropPart_frozen (p : Nat) (r : RxPart) (last : Bool) (s : State) :
    frozen (dropPart p r last s) = frozen s := by
  unfold dropPart
  repeat' split
  all_goals simp

@[simp] theorem intoVat_frozen (p : Nat) (b : Bytes) (ts : List Nat) (sec ended : Bool) (s : State) :
    frozen (intoVat p b ts sec ended s).2 = frozen s := by
  unfold intoVat
  split
  · simpa using frozen_of_eq ‹_› (stageFrame_frozen ..)
  · exact frozen_of_eq ‹_› (stageFrame_frozen ..)

@[simp] theorem countRx_frozen (p len : Nat) (b : Bytes) (s : State) : frozen (countRx p len b s) = frozen s := by
  simp [countRx, apply_ite frozen]

@[simp] theorem finishRx_frozen (p : Nat) (r : RxPart) (s : State) : frozen (finishRx p r s) = frozen s := by
  unfold finishRx
  dsimp only
  repeat' split
  all_goals simp

theorem execEthFrameReceive_freezes (port : Nat) (data : Bytes) (last : Bool) (how : Nat) (s : State) :
    Freezes s (execEthFrameReceive port data last how s) := by
  unfold execEthFrameReceive
  split
  · simp
  extract_lets r _ _ _ grown u
  have hu : frozen u = frozen s := by
    unfold u grown
    split <;> simp
  have hinto : ∀ b ts o t, intoVat port b ts false false u = (o, t) → frozen t = frozen s := fun b ts o t h =>
    (frozen_of_eq h (intoVat_frozen ..)).trans hu
  repeat' split
  all_goals simp [hu]
  all_goals exact hinto _ _ _ _ ‹_›

/-! ### Owl -/

@[simp] theorem setPair_frozen (f : Pair → Pair) (s : State) : frozen (setPair f s) = frozen s := by simp [setPair]

@[simp] theorem owlEmit_frozen (port : Nat) (frame : Bytes) (s : State) : frozen (owlEmit port frame s) = frozen s := by
  simp [owlEmit]

@[simp] theorem owlSendA_frozen (kind : Nat) (s : State) : frozen (owlSendA kind s) = frozen s := by
  unfold owlSendA
  repeat' split
  all_goals simp

@[simp] theorem owlSendB_frozen (kind : Nat) (ports : List Nat) (s : State) : frozen (owlSendB kind ports s) = frozen s := by
  unfold owlSendB
  repeat' split
  all_goals simp [forEach_frozen, apply_ite frozen]

theorem execHeartbeatTimer_freezes (s : State) : Freezes s (execHeartbeatTimer s) := by
  unfold execHeartbeatTimer
  repeat' split
  all_goals simp

theorem execOwlChallengeRefresh_freezes (s : State) : Freezes s (execOwlChallengeRefresh s) := by
  unfold execOwlChallengeRefresh
  dsimp only
  repeat' split
  all_goals simp

theorem execOwlResponseWrite_freezes (s : State) : Freezes s (execOwlResponseWrite s) := by
  unfold execOwlResponseWrite
  dsimp only
  repeat' split
  all_goals simp

@[simp] theorem owlTake_frozen (path port : Nat) (data : Bytes) (kind : Nat) (s : State) :
    frozen (owlTake path port data kind s).2 = frozen s := by
  unfold owlTake
  dsimp only
  repeat' split
  all_goals simp

@[simp] theorem owlRelay_frozen (path port : Nat) (data : Bytes) (s : State) :
    frozen (owlRelay path port data s) = frozen s := by
  simp [owlRelay, forEach_frozen, apply_ite frozen]

@[simp] theorem pathHeard_frozen (path : Nat) (s : State) : frozen (pathHeard path s) = frozen s := by
  simp [pathHeard, apply_ite frozen]

@[simp] theorem judgeResponse_frozen (b : Bytes) (s : State) : frozen (judgeResponse b s) = frozen s := by
  unfold judgeResponse
  dsimp only
  repeat' split
  all_goals simp

/-! ### The commands of group 0x07 -/

theorem cmdVatQueue_freezes (r : Req) (s : State) : AnsFreezes s (cmdVatQueue.body r s) := by
  unfold cmdVatQueue
  dsimp only
  repeat' split
  all_goals simp

theorem cmdVatPort_freezes (r : Req) (s : State) : AnsFreezes s (cmdVatPort.body r s) := by
  unfold cmdVatPort
  dsimp only
  repeat' split
  all_goals simp

theorem cmdVatStatus_freezes (r : Req) (s : State) : AnsFreezes s (cmdVatStatus.body r s) := by
  simp [cmdVatStatus, apply_ite frozen]

theorem cmdVatQueueStatus_freezes (r : Req) (s : State) : AnsFreezes s (cmdVatQueueStatus.body r s) := by
  simp [cmdVatQueueStatus]

theorem cmdVatPortReset_freezes (r : Req) (s : State) : AnsFreezes s (cmdVatPortReset.body r s) := by simp [cmdVatPortReset]

theorem cmdVatBadger_freezes (r : Req) (s : State) : AnsFreezes s (cmdVatBadger.body r s) := by simp [cmdVatBadger]

theorem cmdVatPeek_freezes (r : Req) (s : State) : AnsFreezes s (cmdVatPeek.body r s) := by simp [cmdVatPeek]

/-! ### The pair -/

@[simp] theorem resvAll_frozen (s : State) : frozen (resvAll s) = frozen s := by simp [resvAll]

@[simp] theorem handoverEnds_frozen (st : Nat) (s : State) : frozen (handoverEnds st s) = frozen s := by
  unfold handoverEnds
  repeat' split
  all_goals simp

@[simp] theorem leaveActive_frozen (s : State) : frozen (leaveActive s) = frozen s := by simp [leaveActive]

@[simp] theorem outOfSync_frozen (s : State) : frozen (outOfSync s) = frozen s := by
  simp [outOfSync, apply_ite frozen]

@[simp] theorem pairBank_frozen (s : State) : frozen (pairBank s) = frozen s := by
  simp [pairBank, apply_ite frozen]

@[simp] theorem pairBankFree_frozen (s : State) : frozen (pairBankFree s) = frozen s := by
  simp [pairBankFree, apply_ite frozen]

@[simp] theorem peerLost_frozen (s : State) : frozen (peerLost s) = frozen s := by
  simp [peerLost, apply_ite frozen]

@[simp] theorem roostNow_frozen (s : State) : frozen (roostNow s) = frozen s := by simp [roostNow]

@[simp] theorem becomeStandby_frozen (s : State) : frozen (becomeStandby s) = frozen s := by simp [becomeStandby]

@[simp] theorem becomeActive_frozen (epoch : Nat) (s : State) : frozen (becomeActive epoch s) = frozen s := by
  simp [becomeActive, apply_ite frozen]

@[simp] theorem pairControl_frozen (s : State) : frozen (pairControl s) = frozen s := by simp [pairControl]

theorem execPairLinkUp_freezes (s : State) : Freezes s (execPairLinkUp s) := by simp [execPairLinkUp]

theorem execPairLinkDown_freezes (s : State) : Freezes s (execPairLinkDown s) := by
  simp [execPairLinkDown, forEach_frozen]

theorem execPairHelloTimer_freezes (s : State) : Freezes s (execPairHelloTimer s) := by
  simp [execPairHelloTimer, apply_ite frozen]

theorem execPairHelloReceive_freezes (dev peer ident fwrev hbUs detectUs ckptMs respMs : Nat)
    (active prefer fenced : Bool) (epoch : Nat) (s : State) :
    Freezes s (execPairHelloReceive dev peer ident fwrev hbUs detectUs ckptMs respMs active prefer fenced epoch s) := by
  unfold execPairHelloReceive
  dsimp only
  repeat' split
  all_goals simp

@[simp] theorem lastGasp_frozen (s : State) : frozen (lastGasp s) = frozen s := by simp [lastGasp]

@[simp] theorem fenceEnter_frozen (gasp : Bool) (s : State) : frozen (fenceEnter gasp s) = frozen s := by
  simp [fenceEnter, apply_ite frozen]

theorem execFenceInRise_freezes (level : Bool) (s : State) : Freezes s (execFenceInRise level s) := by
  simp [execFenceInRise, apply_ite frozen]

@[simp] theorem fenceRoost_frozen (s : State) : frozen (fenceRoost s) = frozen s := by
  unfold fenceRoost
  simp only [roostNow_frozen, setPair_frozen, countN_frozen]
  exact foldl_keeps (fun a : _ × State => frozen a.2) _ _ _ fun acc p => by simp

theorem execFenceRoostEntry_freezes (s : State) : Freezes s (execFenceRoostEntry s) := by
  simp [execFenceRoostEntry, apply_ite frozen]

@[simp] theorem takeoverStart_frozen (s : State) : frozen (takeoverStart s) = frozen s := by
  simp [takeoverStart, apply_ite frozen]

@[simp] theorem rearm_frozen (s : State) : frozen (rearm s) = frozen s := by
  unfold rearm
  repeat' split
  all_goals simp

@[simp] theorem fvTakeover_frozen (s : State) : frozen (fvTakeover s) = frozen s := by
  unfold fvTakeover
  repeat' split
  all_goals simp [forEach_frozen]

@[simp] theorem resyncAll_frozen (s : State) : frozen (resyncAll s) = frozen s := by simp [resyncAll, forEach_frozen]

@[simp] theorem gptpTakeover_frozen (s : State) : frozen (gptpTakeover s) = frozen s := by
  unfold gptpTakeover
  repeat' split
  all_goals simp [forEach_frozen, apply_ite frozen]

@[simp] theorem sendTakeover_frozen (s : State) : frozen (sendTakeover s) = frozen s := by simp [sendTakeover]

theorem execTakeoverForwarding_freezes (s : State) : Freezes s (execTakeoverForwarding s) := by
  unfold execTakeoverForwarding
  repeat' split
  all_goals simp

theorem execTakeoverRepeat_freezes (s : State) : Freezes s (execTakeoverRepeat s) := by
  simp [execTakeoverRepeat, apply_ite frozen]

theorem execPairRejoinTimeout_freezes (s : State) : Freezes s (execPairRejoinTimeout s) := by
  simp [execPairRejoinTimeout, apply_ite frozen]

theorem execPathSilence_freezes (path : Nat) (s : State) : Freezes s (execPathSilence path s) := by
  unfold execPathSilence
  dsimp only
  repeat' split
  all_goals simp

theorem execResponseStale_freezes (s : State) : Freezes s (execResponseStale s) := by
  unfold execResponseStale
  dsimp only
  repeat' split
  all_goals simp

@[simp] theorem heartbeatFrom_frozen (path : Nat) (b : Bytes) (s : State) : frozen (heartbeatFrom path b s) = frozen s := by
  simp [heartbeatFrom, apply_ite frozen]

theorem execOwlHeartbeatReceive_freezes (path port : Nat) (data : Bytes) (s : State) :
    Freezes s (execOwlHeartbeatReceive path port data s) := by
  unfold execOwlHeartbeatReceive
  split
  · rw [freezes_next]; exact frozen_of_eq ‹_› (owlTake_frozen ..)
  · have ht := frozen_of_eq ‹_› (owlTake_frozen ..)
    simp [ht, apply_ite frozen]

theorem execOwlLastGaspReceive_freezes (path port : Nat) (data : Bytes) (s : State) :
    Freezes s (execOwlLastGaspReceive path port data s) := by
  unfold execOwlLastGaspReceive
  split
  · rw [freezes_next]; exact frozen_of_eq ‹_› (owlTake_frozen ..)
  · have ht := frozen_of_eq ‹_› (owlTake_frozen ..)
    simp [ht, apply_ite (Freezes s), apply_ite frozen]

@[simp] theorem followName_frozen (port : Nat) (b : Bytes) (s : State) : frozen (followName port b s) = frozen s := by
  simp [followName]

@[simp] theorem takeoverFrame_frozen (path port : Nat) (data : Bytes) (s : State) :
    frozen (takeoverFrame path port data s) = frozen s := by
  unfold takeoverFrame
  split
  · exact frozen_of_eq ‹_› (owlTake_frozen ..)
  · have ht := frozen_of_eq ‹_› (owlTake_frozen ..)
    simp [ht, apply_ite frozen]

theorem execOwlTakeoverReceive_freezes (path port : Nat) (data : Bytes) (s : State) :
    Freezes s (execOwlTakeoverReceive path port data s) := by
  simp [execOwlTakeoverReceive]

@[simp] theorem beaconFrame_frozen (path port : Nat) (data : Bytes) (s : State) :
    frozen (beaconFrame path port data s) = frozen s := by
  unfold beaconFrame
  split
  · exact frozen_of_eq ‹_› (owlTake_frozen ..)
  · have ht := frozen_of_eq ‹_› (owlTake_frozen ..)
    simp [ht, apply_ite frozen]

theorem execOwlBeaconReceive_freezes (path port : Nat) (data : Bytes) (s : State) :
    Freezes s (execOwlBeaconReceive path port data s) := by
  simp [execOwlBeaconReceive]

theorem execBeaconTimer_freezes (s : State) : Freezes s (execBeaconTimer s) := by
  simp [execBeaconTimer, apply_ite frozen]

@[simp] theorem ckptSend_frozen (s : State) : frozen (ckptSend s) = frozen s := by simp [ckptSend, forEach_frozen]

theorem execPairCheckpointTimer_freezes (s : State) : Freezes s (execPairCheckpointTimer s) := by
  simp [execPairCheckpointTimer, apply_ite frozen]

@[simp] theorem tbApply_frozen (c : Ckpt) (s : State) : frozen (tbApply c s) = frozen s := by
  simp [tbApply, forEach_frozen, apply_ite frozen]

@[simp] theorem ckptApply_frozen (seq : Nat) (c : Ckpt) (s : State) : frozen (ckptApply seq c s) = frozen s := by
  unfold ckptApply
  repeat' split
  all_goals simp [apply_ite frozen]

@[simp] theorem ckptSegment_frozen (q : Bytes) (s : State) : frozen (ckptSegment q s) = frozen s := by
  unfold ckptSegment
  dsimp only
  refine iteInduction (motive := fun t => frozen t = frozen s) (fun _ => ?_) fun _ => ?_
  · generalize Config.ckptOf _ = c
    cases c <;> simp [apply_ite frozen]
  · simp [apply_ite frozen]

theorem execInSyncLapse_freezes (s : State) : Freezes s (execInSyncLapse s) := by
  simp [execInSyncLapse, apply_ite frozen]

@[simp] theorem ckptAck_frozen (seq : Nat) (s : State) : frozen (ckptAck seq s) = frozen s := by
  simp [ckptAck, apply_ite frozen]

theorem execPairMb3FrameReceive_freezes (kind : Nat) (data : Bytes) (s : State) :
    Freezes s (execPairMb3FrameReceive kind data s) := by
  unfold execPairMb3FrameReceive
  repeat' split
  all_goals simp

theorem execHandoverAckReceive_freezes (s : State) : Freezes s (execHandoverAckReceive s) := by
  unfold execHandoverAckReceive
  repeat' split
  all_goals simp

theorem execHandoverAckTimeout_freezes (s : State) : Freezes s (execHandoverAckTimeout s) := by
  simp [execHandoverAckTimeout]

theorem execPairSleepReceive_freezes (target : Nat) (s : State) : Freezes s (execPairSleepReceive target s) := by
  unfold execPairSleepReceive
  repeat' split
  all_goals simp

theorem execPairSleepAckReceive_freezes (s : State) : Freezes s (execPairSleepAckReceive s) := by
  simp [execPairSleepAckReceive, apply_ite frozen]

theorem execPairSleepAckTimeout_freezes (s : State) : Freezes s (execPairSleepAckTimeout s) := by
  simp [execPairSleepAckTimeout, apply_ite frozen]

theorem execPairSleepAbortReceive_freezes (s : State) : Freezes s (execPairSleepAbortReceive s) := by
  simp [execPairSleepAbortReceive, apply_ite frozen]

@[simp] theorem dissolve_frozen (s : State) : frozen (dissolve s) = frozen s := by
  simp [dissolve, apply_ite frozen]

theorem execPairDissolveReceive_freezes (s : State) : Freezes s (execPairDissolveReceive s) := by
  simp [execPairDissolveReceive, apply_ite frozen]

/-! ### The commands of group 0x0C but CMD_LOCKSTEP_STATUS -/

@[simp] theorem pairConfigure_frozen (c : PairCfg) (s : State) : frozen (pairConfigure c s) = frozen s := by
  simp [pairConfigure, apply_ite frozen]

theorem cmdPairConfig_freezes (r : Req) (s : State) : AnsFreezes s (cmdPairConfig.body r s) := by
  unfold cmdPairConfig
  dsimp only
  repeat' split
  all_goals simp

theorem cmdPairStatus_freezes (r : Req) (s : State) : AnsFreezes s (cmdPairStatus.body r s) := by simp [cmdPairStatus]

theorem cmdPairHandover_freezes (r : Req) (s : State) : AnsFreezes s (cmdPairHandover.body r s) := by
  unfold cmdPairHandover
  dsimp only
  repeat' split
  all_goals simp

theorem cmdPairFence_freezes (r : Req) (s : State) : AnsFreezes s (cmdPairFence.body r s) := by
  unfold cmdPairFence
  dsimp only
  repeat' split
  all_goals simp

theorem cmdPairCheckpoint_freezes (r : Req) (s : State) : AnsFreezes s (cmdPairCheckpoint.body r s) := by
  unfold cmdPairCheckpoint
  dsimp only
  repeat' split
  all_goals simp

theorem cmdLogicalPort_freezes (r : Req) (s : State) : AnsFreezes s (cmdLogicalPort.body r s) := by
  unfold cmdLogicalPort
  dsimp only
  repeat' split
  all_goals simp

theorem cmdFrerStream_freezes (r : Req) (s : State) : AnsFreezes s (cmdFrerStream.body r s) := by
  unfold cmdFrerStream
  dsimp only
  repeat' split
  all_goals simp

theorem cmdFrerBind_freezes (r : Req) (s : State) : AnsFreezes s (cmdFrerBind.body r s) := by
  unfold cmdFrerBind
  dsimp only
  repeat' split
  all_goals simp

theorem cmdFrerCounters_freezes (r : Req) (s : State) : AnsFreezes s (cmdFrerCounters.body r s) := by simp [cmdFrerCounters]

theorem cmdFrerReset_freezes (r : Req) (s : State) : AnsFreezes s (cmdFrerReset.body r s) := by
  simp [cmdFrerReset, forEach_frozen]

/-! ### The trace ring, the alarm registers, ownership of scratch banks and the Mole -/

theorem execTraceWriterDrain_freezes (s : State) : Freezes s (execTraceWriterDrain s) := by
  unfold execTraceWriterDrain
  dsimp only
  repeat' split
  all_goals simp

@[simp] theorem traceRd_frozen (v : Nat) (s : State) : frozen (traceRd v s) = frozen s := by simp [traceRd]

theorem execTraceRdWrite_freezes (init value : Nat) (s : State) : Freezes s (execTraceRdWrite init value s) := by
  unfold execTraceRdWrite
  repeat' split
  all_goals simp

@[simp] theorem alarmClear_frozen (v : Nat) (s : State) : frozen (alarmClear v s) = frozen s := by simp [alarmClear]

theorem execAlarmClear_freezes (init value : Nat) (s : State) : Freezes s (execAlarmClear init value s) := by
  unfold execAlarmClear
  repeat' split
  all_goals simp

@[simp] theorem traceHome_frozen (s : State) : frozen (traceHome s) = frozen s := by
  simp [traceHome, apply_ite frozen]

@[simp] theorem scrOwn_frozen (n v : Nat) (s : State) : frozen (scrOwn n v s) = frozen s := by
  simp [scrOwn, apply_ite frozen]

theorem execScrOwnWrite_freezes (init bank value : Nat) (s : State) :
    Freezes s (execScrOwnWrite init bank value s) := by
  unfold execScrOwnWrite
  repeat' split
  all_goals simp

theorem execScratchZeroComplete_freezes (bank : Nat) (s : State) : Freezes s (execScratchZeroComplete bank s) := by
  unfold execScratchZeroComplete
  repeat' split
  all_goals simp

@[simp] theorem moleNext_frozen (b r : Nat) (s : State) : frozen (moleNext b r s) = frozen s := by
  unfold moleNext
  repeat' split
  all_goals simp

@[simp] theorem molePoison_frozen (b off : Nat) (words : List Nat) (s : State) :
    frozen (molePoison b off words s) = frozen s := by
  simp [molePoison, apply_ite frozen]

@[simp] theorem moleCorrected_frozen (b off n : Nat) (s : State) : frozen (moleCorrected b off n s) = frozen s := by
  simp [moleCorrected, apply_ite frozen]

@[simp] theorem moleUnrepairable_frozen (b : Nat) (s : State) : frozen (moleUnrepairable b s) = frozen s := by
  simp [moleUnrepairable, apply_ite frozen]

@[simp] theorem moleFault_frozen (b off : Nat) (again : Bool) (s : State) : frozen (moleFault b off again s) = frozen s := by
  simp [moleFault, apply_ite frozen]

theorem execMoleVisit_freezes (ce ue : Nat) (fault again : Bool) (s : State) :
    Freezes s (execMoleVisit ce ue fault again s) := by
  unfold execMoleVisit
  repeat' split
  all_goals simp

theorem cmdScratchOwn_freezes (r : Req) (s : State) : AnsFreezes s (cmdScratchOwn.body r s) := by
  unfold cmdScratchOwn
  dsimp only
  repeat' split
  all_goals simp

theorem cmdScratchStatus_freezes (r : Req) (s : State) : AnsFreezes s (cmdScratchStatus.body r s) := by
  simp [cmdScratchStatus]

theorem cmdMoleConfig_freezes (r : Req) (s : State) : AnsFreezes s (cmdMoleConfig.body r s) := by
  simp [cmdMoleConfig, apply_ite frozen]

theorem cmdLogConfig_freezes (r : Req) (s : State) : AnsFreezes s (cmdLogConfig.body r s) := by
  unfold cmdLogConfig
  dsimp only
  repeat' split
  all_goals simp

theorem cmdLogRead_freezes (r : Req) (s : State) : AnsFreezes s (cmdLogRead.body r s) := by
  unfold cmdLogRead
  dsimp only
  split
  · have h : ∀ g : Bytes × State → Nat → Bytes × State, (∀ a i, frozen (g a i).2 = frozen a.2) → ∀ l,
        frozen (List.foldl g ([], s) l).2 = frozen s :=
      fun g hg l => foldl_keeps (fun a : Bytes × State => frozen a.2) g l _ hg
    simp [apply_ite frozen, h]
  · simp [apply_ite frozen]

/-! ### The register map W0 -/

@[simp] theorem causeWrite_frozen (init n w : Nat) (s : State) : frozen (causeWrite init n w s) = frozen s := by
  simp [causeWrite, apply_ite frozen]

@[simp] theorem msixWrite_frozen (v k rw : Nat) (s : State) : frozen (msixWrite v k rw s) = frozen s := by
  unfold msixWrite
  dsimp only
  repeat' split
  all_goals simp

@[simp] theorem tbWrite_frozen (n off rw w : Nat) (s : State) : frozen (tbWrite n off rw w s) = frozen s := by
  unfold tbWrite
  repeat' split
  all_goals simp

@[simp] theorem ppsWrite_frozen (k rw : Nat) (s : State) : frozen (ppsWrite k rw s) = frozen s := by
  simp [ppsWrite, apply_ite frozen]

@[simp] theorem mbRegWrite_frozen (k off rw w : Nat) (s : State) : frozen (mbRegWrite k off rw w s) = frozen s := by
  unfold mbRegWrite
  repeat' split
  all_goals simp

@[simp] theorem lowWrite_frozen (a m rw w : Nat) (s : State) : frozen (lowWrite a m rw w s) = frozen s := by
  simp [lowWrite, apply_ite frozen]

@[simp] theorem eventWrite_frozen (init a rw w : Nat) (s : State) : frozen (eventWrite init a rw w s) = frozen s := by
  simp [eventWrite, apply_ite frozen]

@[simp] theorem bridgeWrite_frozen (a rw w : Nat) (s : State) : frozen (bridgeWrite a rw w s) = frozen s := by
  simp [bridgeWrite, apply_ite frozen]

@[simp] theorem wordWrite_frozen (init a m v : Nat) (s : State) : frozen (wordWrite init a m v s) = frozen s := by
  simp [wordWrite, apply_ite frozen]

@[simp] theorem refusal_frozen (why addr init : Nat) (w2 : Bool) (s : State) :
    frozen (refusal why addr init w2 s) = frozen s := by
  unfold refusal
  repeat' split
  all_goals simp

@[simp] theorem putBytes_frozen (init addr : Nat) (d : Bytes) (s : State) : frozen (putBytes init addr d s) = frozen s := by
  unfold putBytes
  repeat' split
  all_goals simp [forEach_frozen]

@[simp] theorem post_frozen (bridge init addr : Nat) (d : Bytes) (s : State) :
    frozen (post bridge init addr d s) = frozen s := by
  simp [post]

@[simp] theorem writeReg_frozen (init addr : Nat) (d : Bytes) (s : State) : frozen (writeReg init addr d s) = frozen s := by
  simp [writeReg, apply_ite frozen]

theorem execRegisterWrite_freezes (init addr : Nat) (data : Bytes) (s : State) :
    Freezes s (execRegisterWrite init addr data s) := by
  unfold execRegisterWrite
  repeat' split
  all_goals simp

theorem execHostMapWrite_freezes (init value : Nat) (s : State) : Freezes s (execHostMapWrite init value s) := by
  simp [execHostMapWrite]

theorem execMsixUnmask_freezes (init vector : Nat) (s : State) : Freezes s (execMsixUnmask init vector s) := by
  simp [execMsixUnmask]

theorem execEvCauseClear_freezes (init ev value : Nat) (s : State) :
    Freezes s (execEvCauseClear init ev value s) := by
  simp [execEvCauseClear]

theorem execCaptureRearm_freezes (init tb unit value : Nat) (s : State) :
    Freezes s (execCaptureRearm init tb unit value s) := by
  simp [execCaptureRearm]

theorem execTbLatchWrite_freezes (init value : Nat) (s : State) : Freezes s (execTbLatchWrite init value s) := by
  simp [execTbLatchWrite]

theorem execMbDoorbellWrite_freezes (init mb : Nat) (s : State) : Freezes s (execMbDoorbellWrite init mb s) := by
  simp [execMbDoorbellWrite]

theorem execMbRspAckWrite_freezes (init mb : Nat) (s : State) : Freezes s (execMbRspAckWrite init mb s) := by
  simp [execMbRspAckWrite]

theorem execMbRequestWrite_freezes (init mb off : Nat) (data : Bytes) (s : State) :
    Freezes s (execMbRequestWrite init mb off data s) := by
  unfold execMbRequestWrite
  repeat' split
  all_goals simp

theorem execNoticeRdWrite_freezes (init mb value : Nat) (s : State) :
    Freezes s (execNoticeRdWrite init mb value s) := by
  simp [execNoticeRdWrite]

/-! ### The host attachments and the bridges -/

@[simp] theorem setHeld_frozen (l : List HeldRead) (s : State) : frozen (setHeld l s) = frozen s := by simp [setHeld]

@[simp] theorem pumpOne_frozen (s : State) : frozen (pumpOne s) = frozen s := by
  unfold pumpOne
  repeat' split
  all_goals simp

@[simp] theorem pump_frozen (s : State) : frozen (pump s) = frozen s := by simp [pump, forEach_frozen]

@[simp] theorem startRead_frozen (bridge init op addr size : Nat) (arg : Bytes) (s : State) :
    frozen (startRead bridge init op addr size arg s) = frozen s := by
  simp [startRead]

@[simp] theorem popHead_frozen (m : Nat) (d : Bytes) (s : State) : frozen (popHead m d s) = frozen s := by
  unfold popHead
  repeat' split
  all_goals simp

@[simp] theorem popAll_frozen (addr : Nat) (d : Bytes) (s : State) : frozen (popAll addr d s) = frozen s := by
  simp [popAll, forEach_frozen]

@[simp] theorem collected_frozen (bridge addr : Nat) (d : Bytes) (s : State) :
    frozen (collected bridge addr d s) = frozen s := by
  simp [collected, apply_ite frozen]

@[simp] theorem atomicRun_frozen (init op addr size x y : Nat) (s : State) :
    frozen (atomicRun init op addr size x y s).2 = frozen s := by
  simp [atomicRun]

@[simp] theorem delayedRead_frozen (bridge init addr size : Nat) (s : State) :
    frozen (delayedRead bridge init addr size s) = frozen s := by
  unfold delayedRead
  repeat' split
  all_goals simp

@[simp] theorem w2Read_frozen (init addr size : Nat) (s : State) : frozen (w2Read init addr size s) = frozen s := by
  unfold w2Read
  split
  · simp
  · dsimp only
    rw [emit_frozen]
    refine foldl_keeps (fun a : _ × _ × State => frozen a.2.2) _ _ _ fun acc e => ?_
    split <;> simp

@[simp] theorem w2Write_frozen (init addr : Nat) (d : Bytes) (s : State) : frozen (w2Write init addr d s) = frozen s := by
  simp [w2Write, forEach_frozen, apply_ite frozen]

@[simp] theorem w0Read_frozen (init addr size : Nat) (s : State) : frozen (w0Read init addr size s) = frozen s := by
  simp [w0Read, apply_ite frozen]

theorem execPcieMemRead_freezes (rid : Nat) (w2 : Bool) (addr size : Nat) (s : State) :
    Freezes s (execPcieMemRead rid w2 addr size s) := by
  unfold execPcieMemRead
  repeat' split
  all_goals simp

@[simp] theorem w0Write_frozen (init addr : Nat) (d : Bytes) (s : State) : frozen (w0Write init addr d s) = frozen s := by
  simp [w0Write, apply_ite frozen]

theorem execPcieMemWrite_freezes (rid : Nat) (w2 : Bool) (addr : Nat) (data : Bytes) (s : State) :
    Freezes s (execPcieMemWrite rid w2 addr data s) := by
  unfold execPcieMemWrite
  repeat' split
  all_goals simp

theorem execPcieAtomicOp_freezes (rid : Nat) (w2 : Bool) (addr size op x y : Nat) (s : State) :
    Freezes s (execPcieAtomicOp rid w2 addr size op x y s) := by
  unfold execPcieAtomicOp
  dsimp only
  repeat' split
  all_goals simp

theorem execAtomicOpRetry_freezes (s : State) : Freezes s (execAtomicOpRetry s) := by
  unfold execAtomicOpRetry
  repeat' split
  all_goals simp

theorem execPcieDelayedReadTimeout_freezes (init addr size : Nat) (s : State) :
    Freezes s (execPcieDelayedReadTimeout init addr size s) := by
  unfold execPcieDelayedReadTimeout
  repeat' split
  all_goals simp

theorem execPciePerstRelease_freezes (s : State) : Freezes s (execPciePerstRelease s) := by
  unfold execPciePerstRelease
  dsimp only
  repeat' split
  all_goals simp

@[simp] theorem spiSay_frozen (status : Nat) (d : Bytes) (s : State) : frozen (spiSay status d s) = frozen s := by
  simp [spiSay]

@[simp] theorem spiRequest_freezes (frame : Bytes) (crc : Nat) {body : State → State} (s : State)
    (h : ∀ s, frozen (body s) = frozen s) : Freezes s (spiRequest frame crc body s) := by
  unfold spiRequest
  dsimp only
  repeat' split
  all_goals simp [h]

@[simp] theorem spiHeldAnswer_frozen (h : HeldRead) (d : Bytes) (s : State) : frozen (spiHeldAnswer h d s) = frozen s := by
  simp [spiHeldAnswer]

@[simp] theorem spiDelayed_frozen (bridge op addr size : Nat) (arg : Bytes) (s : State) :
    frozen (spiDelayed bridge op addr size arg s) = frozen s := by
  unfold spiDelayed
  repeat' split
  all_goals simp

theorem execSpiRead_freezes (addr size crc : Nat) (s : State) : Freezes s (execSpiRead addr size crc s) := by
  refine spiRequest_freezes _ _ _ fun s => ?_
  dsimp only
  repeat' split
  all_goals simp

theorem execSpiWrite_freezes (addr : Nat) (data : Bytes) (crc : Nat) (s : State) :
    Freezes s (execSpiWrite addr data crc s) := by
  refine spiRequest_freezes _ _ _ fun s => ?_
  dsimp only
  repeat' split
  all_goals simp

theorem execSpiLockRead_freezes (addr size crc : Nat) (s : State) : Freezes s (execSpiLockRead addr size crc s) := by
  refine spiRequest_freezes _ _ _ fun s => ?_
  split <;> simp

theorem execSpiUnlockWrite_freezes (addr : Nat) (data : Bytes) (crc : Nat) (s : State) :
    Freezes s (execSpiUnlockWrite addr data crc s) := by
  refine spiRequest_freezes _ _ _ fun s => ?_
  split <;> simp

theorem execSpiCancel_freezes (crc : Nat) (s : State) : Freezes s (execSpiCancel crc s) := by
  exact spiRequest_freezes _ _ _ fun s => by simp [forEach_frozen]

theorem execSpiNop_freezes (opcode crc : Nat) (s : State) : Freezes s (execSpiNop opcode crc s) := by
  unfold execSpiNop
  repeat' split
  all_goals simp

theorem execSpiRepeatLast_freezes (crc : Nat) (s : State) : Freezes s (execSpiRepeatLast crc s) := by
  refine spiRequest_freezes _ _ _ fun s => ?_
  split <;> simp

theorem execSpiReadCollect_freezes (s : State) : Freezes s (execSpiReadCollect s) := by
  unfold execSpiReadCollect
  repeat' split
  all_goals simp

theorem execSpiCsEarlyRise_freezes (inRequest : Bool) (s : State) : Freezes s (execSpiCsEarlyRise inRequest s) := by
  unfold execSpiCsEarlyRise
  dsimp only
  repeat' split
  all_goals simp

@[simp] theorem pairReply_frozen (status : Nat) (d : Bytes) (s : State) : frozen (pairReply status d s) = frozen s := by
  simp [pairReply]

@[simp] theorem inboundDone_frozen (pre rest : List HeldRead) (h : HeldRead) (d : Bytes) (s : State) :
    frozen (inboundDone pre rest h d s) = frozen s := by
  simp [inboundDone]

@[simp] theorem heldArrive_frozen (pre rest : List HeldRead) (h : HeldRead) (d : Bytes) (s : State) :
    frozen (heldArrive pre rest h d s) = frozen s := by
  simp [heldArrive, apply_ite frozen]

@[simp] theorem heldAbort_frozen (pre rest : List HeldRead) (h : HeldRead) (s : State) :
    frozen (heldAbort pre rest h s) = frozen s := by
  simp [heldAbort, apply_ite frozen]

@[simp] theorem outboundAnswer_frozen (pre rest : List HeldRead) (h : HeldRead) (answer : Option Bytes) (s : State) :
    frozen (outboundAnswer pre rest h answer s) = frozen s := by
  unfold outboundAnswer
  repeat' split
  all_goals simp

@[simp] theorem takeLock_frozen (init addr : Nat) (s : State) : frozen (takeLock init addr s) = frozen s := by
  simp [takeLock]

@[simp] theorem localFetch_frozen (pre rest : List HeldRead) (h : HeldRead) (s : State) :
    frozen (localFetch pre rest h s) = frozen s := by
  simp [localFetch, apply_ite frozen]

theorem execBridgeFetchComplete_freezes (bridge init op addr size : Nat) (answer : Option Bytes) (s : State) :
    Freezes s (execBridgeFetchComplete bridge init op addr size answer s) := by
  unfold execBridgeFetchComplete
  dsimp only
  repeat' split
  all_goals simp

theorem execBridgeReadDiscard_freezes (bridge init op addr size : Nat) (s : State) :
    Freezes s (execBridgeReadDiscard bridge init op addr size s) := by
  unfold execBridgeReadDiscard
  repeat' split
  all_goals simp

@[simp] theorem deliver_frozen (w : PostedWrite) (s : State) : frozen (deliver w s) = frozen s := by
  simp [deliver, apply_ite frozen]

@[simp] theorem readsWait_frozen (w : PostedWrite) (s : State) : frozen (readsWait w s) = frozen s := by simp [readsWait]

theorem execBridgeWriteDeliver_freezes (bridge init : Nat) (s : State) :
    Freezes s (execBridgeWriteDeliver bridge init s) := by
  unfold execBridgeWriteDeliver
  repeat' split
  all_goals simp

theorem execSemLockLapse_freezes (s : State) : Freezes s (execSemLockLapse s) := by simp [execSemLockLapse]

theorem execPairBridgeRequest_freezes (op addr size : Nat) (data : Bytes) (s : State) :
    Freezes s (execPairBridgeRequest op addr size data s) := by
  unfold execPairBridgeRequest
  dsimp only
  repeat' split
  all_goals simp

theorem execEdgeErrPopRead_freezes (init cluster size : Nat) (s : State) :
    Freezes s (execEdgeErrPopRead init cluster size s) := by
  unfold execEdgeErrPopRead
  dsimp only
  repeat' split
  all_goals simp

/-! ### The Vintner lockstep -/

@[simp] theorem restartEnd_frozen (mask k : Nat) (s : State) : frozen (restartEnd mask k s) = frozen s := by
  simp [restartEnd, apply_ite frozen]

@[simp] theorem restartEnds_frozen (mask : Nat) (s : State) : frozen (restartEnds mask s) = frozen s := by
  simp [restartEnds, forEach_frozen]

@[simp] theorem vintnerStop_frozen (s : State) : frozen (vintnerStop s) = frozen s := by simp [vintnerStop]

@[simp] theorem vintnerHalt_frozen (s : State) : frozen (vintnerHalt s) = frozen s := by
  simp [vintnerHalt, apply_ite frozen]

theorem execLockstepMismatch_freezes (bad mask : Nat) (s : State) : Freezes s (execLockstepMismatch bad mask s) := by
  unfold execLockstepMismatch
  dsimp only
  repeat' split
  all_goals simp

@[simp] theorem ctlWrite_frozen (s : State) : frozen (ctlWrite s) = frozen s := by simp [ctlWrite]

theorem execControllerCheckpointWrite_freezes (s : State) : Freezes s (execControllerCheckpointWrite s) := by
  simp [execControllerCheckpointWrite, apply_ite frozen]

theorem execTamperRederive_freezes (s : State) : Freezes s (execTamperRederive s) := by
  unfold execTamperRederive
  repeat' split
  all_goals simp

theorem cmdLockstepStatus_freezes (r : Req) (s : State) : AnsFreezes s (cmdLockstepStatus.body r s) := by
  simp [cmdLockstepStatus]

/-! ### Field tests, the BIST record and repairs -/

@[simp] theorem isolate_frozen (kind i mb : Nat) (s : State) : frozen (isolate kind i mb s) = frozen s := by
  unfold isolate
  repeat' split
  all_goals simp [forEach_frozen, apply_ite frozen]

@[simp] theorem testPassed_frozen (t : FieldTest) (s : State) : frozen (testPassed t s) = frozen s := by
  unfold testPassed
  repeat' split
  all_goals simp [forEach_frozen, apply_ite frozen]

@[simp] theorem testFailed_frozen (t : FieldTest) (s : State) : frozen (testFailed t s) = frozen s := by
  unfold testFailed
  repeat' split
  all_goals simp [forEach_frozen]

theorem cmdSelftestRun_freezes (pass : Bool) (detail : Nat) (r : Req) (s : State) :
    AnsFreezes s ((cmdSelftestRun pass detail).body r s) := by
  unfold cmdSelftestRun
  dsimp only
  repeat' split
  all_goals simp

theorem cmdBistResult_freezes (r : Req) (s : State) : AnsFreezes s (cmdBistResult.body r s) := by simp [cmdBistResult]

theorem cmdRepairList_freezes (r : Req) (s : State) : AnsFreezes s (cmdRepairList.body r s) := by simp [cmdRepairList]

end Sys2Proof.Machine
end

section
/-! PROOF. What each command burns, and that a step takes one command off the queue (R395, R414, R524). -/

namespace Sys2Proof.Machine

open Sys2Proof

/-- Burning goes one way, and keeps legal contents legal (R395, R414, R524). -/
structure Burns (o o' : Otp) : Prop where
  life : o.life ≤ o'.life
  lifeLegal : o.life ≤ 3 → o'.life ≤ 3
  wipes : o.tamperCount ≤ 64 → o.tamperCount ≤ o'.tamperCount ∧ o'.tamperCount ≤ 64
  used : o.fusesUsed ≤ o'.fusesUsed
  usedLegal : o.fusesUsed ≤ 16 → o'.fusesUsed ≤ 16
  fuses : o.fuses <+: o'.fuses
  fusesLegal : o.fuses.length ≤ o.fusesUsed → o'.fuses.length ≤ o'.fusesUsed

theorem Burns.refl (o : Otp) : Burns o o where
  life := Nat.le_refl _
  lifeLegal := id
  wipes h := ⟨Nat.le_refl _, h⟩
  used := Nat.le_refl _
  usedLegal := id
  fuses := List.prefix_refl _
  fusesLegal := id

/-- The state `t` keeps the queue of `s` and is what burning makes of its OTP. -/
def StateBurns (s t : State) : Prop := Burns s.otp t.otp ∧ t.pending = s.pending

theorem StateBurns.refl (s : State) : StateBurns s s := ⟨.refl _, rfl⟩

/-- A meaning that answers a state answers one that only burns. -/
def ResBurns (s : State) (r : Res) : Prop := ∀ t, r = .next t → StateBurns s t

/-- The body of a mailbox command only burns. -/
def AnsBurns (s : State) : Ans → Prop
  | .done _ _ t => StateBurns s t
  | .busy t => StateBurns s t

theorem StateBurns.before {s u t : State} (hu : frozen u = frozen s) (h : StateBurns u t) : StateBurns s t :=
  ⟨otp_of_frozen hu ▸ h.1, h.2.trans (pending_of_frozen hu)⟩

theorem StateBurns.after {s u t : State} (h : StateBurns s u) (ht : frozen t = frozen u) : StateBurns s t :=
  ⟨(otp_of_frozen ht).symm ▸ h.1, (pending_of_frozen ht).trans h.2⟩

theorem Freezes.burns {s : State} {r : Res} (h : Freezes s r) : ResBurns s r :=
  fun t ht => (StateBurns.refl s).after (h t ht)

theorem resBurns_next {s t : State} (h : StateBurns s t) : ResBurns s (.next t) := by
  rintro _ ⟨⟩
  exact h

theorem mbDone_burns {s t : State} (k st gen : Nat) (d : Bytes) (h : StateBurns s t) : StateBurns s (mbDone k st gen d t) :=
  ⟨(mbDone_otp k st gen d t).symm ▸ h.1, (mbDone_pending k st gen d t).trans h.2⟩

/-- What serving a command can do: nothing, refuse it, end it over what its body leaves, or take it up. -/
theorem runCmd_cases {c : Cmd} {mb : Nat} {s t : State} (h : runCmd c mb s = t) :
    t = s ∨ (∃ st gen, t = mbDone mb st gen [] s) ∨
      ∃ r, (∃ st gen d u, c.body r s = .done st d u ∧ t = mbDone mb st gen d u) ∨ c.body r s = .busy t := by
  unfold runCmd at h
  split at h
  · exact .inl h.symm
  next r _ =>
    split at h
    · exact .inl h.symm
    split at h
    · exact .inr (.inl ⟨_, _, h.symm⟩)
    split at h
    · exact .inr (.inl ⟨_, _, h.symm⟩)
    split at h
    · exact .inr (.inl ⟨_, _, h.symm⟩)
    split at h
    · exact .inr (.inl ⟨_, _, h.symm⟩)
    extract_lets gen st sh at h
    split at h
    · exact .inr (.inl ⟨_, _, h.symm⟩)
    split at h
    · exact .inl h.symm
    split at h
    · exact .inr (.inl ⟨_, _, h.symm⟩)
    split at h
    · exact .inr (.inr ⟨r, .inl ⟨_, _, _, _, ‹_›, h.symm⟩⟩)
    · exact .inr (.inr ⟨r, .inr (h ▸ ‹_›)⟩)

/-- A command whose body leaves the OTP and the queue leaves them. -/
theorem runCmd_frozen {c : Cmd} {mb : Nat} {s : State} (h : ∀ r s, AnsFreezes s (c.body r s)) :
    frozen (runCmd c mb s) = frozen s := by
  obtain hc | ⟨st, gen, hc⟩ | ⟨r, ⟨st, gen, d, u, hb, hc⟩ | hb⟩ := runCmd_cases (c := c) (mb := mb) (s := s) rfl
  · rw [hc]
  · rw [hc, mbDone_frozen]
  · have hr := h r s
    rw [hb] at hr
    rw [hc, mbDone_frozen]
    exact hr
  · have hr := h r s
    rw [hb] at hr
    exact hr

theorem runCmd_freezes {c : Cmd} {mb : Nat} {s : State} (h : ∀ r s, AnsFreezes s (c.body r s)) :
    Freezes s (.next (runCmd c mb s)) := (freezes_next s _).2 (runCmd_frozen h)

theorem runCmd_burns {c : Cmd} {mb : Nat} {s : State} (h : ∀ r s, AnsBurns s (c.body r s)) :
    ResBurns s (.next (runCmd c mb s)) := by
  refine resBurns_next ?_
  obtain hc | ⟨st, gen, hc⟩ | ⟨r, ⟨st, gen, d, u, hb, hc⟩ | hc⟩ := runCmd_cases (c := c) (mb := mb) (s := s) rfl
  · rw [hc]; exact StateBurns.refl s
  · rw [hc]; exact mbDone_burns _ _ _ _ (.refl s)
  · have hr := h r s
    rw [hb] at hr
    rw [hc]; exact mbDone_burns _ _ _ _ hr
  · have hr := h r s
    rw [hc] at hr
    exact hr

/-- A change of the OTP that burns neither the life cycle nor a wipe nor a fuse. -/
theorem Burns.of_same {o o' : Otp} (hl : o'.life = o.life) (hw : o'.tamperCount = o.tamperCount)
    (hu : o'.fusesUsed = o.fusesUsed)
    (hf : o'.fuses = o.fuses) : Burns o o' where
  life := hl ▸ Nat.le_refl _
  lifeLegal h := hl ▸ h
  wipes h := by rw [hw]; exact ⟨Nat.le_refl _, h⟩
  used := hu ▸ Nat.le_refl _
  usedLegal h := hu ▸ h
  fuses := hf ▸ List.prefix_refl _
  fusesLegal h := by rw [hf, hu]; exact h

theorem stateBurns_mk {s : State} {o : Otp} (h : Burns s.otp o) : StateBurns s { s with otp := o } := ⟨h, rfl⟩

theorem burns_wipe (o : Otp) : Burns o { o with tampered := true, tamperCount := min 64 (o.tamperCount + 1) } :=
  { Burns.refl o with wipes := fun h => by dsimp only; omega }

theorem tamperWipe_burns (s : State) : StateBurns s (tamperWipe s) := by
  have hwipe : ∀ u, frozen u = frozen s → StateBurns s (alarm 2 locDev (raise 3 8 (count 255 156 { u with
      otp := { u.otp with tampered := true, tamperCount := min 64 (u.otp.tamperCount + 1) } }))) := fun u hu =>
    ((stateBurns_mk (burns_wipe _)).before hu).after (by simp only [alarm_frozen, raise_frozen, count_frozen])
  exact hwipe _ (by simp [forEach_frozen])

theorem execTamperDetect_burns (source : Nat) (s : State) : ResBurns s (execTamperDetect source s) := by
  unfold execTamperDetect
  split
  · exact resBurns_next (.refl s)
  split
  · exact resBurns_next (.refl s)
  · exact resBurns_next ((tamperWipe_burns _).before (by simp))

theorem setAnchor_burns (n : Nat) (a : Anchor) (s : State) :
    StateBurns s (setAnchor n a s) := stateBurns_mk (.of_same rfl rfl rfl rfl)

theorem cmdAnchor_burns (r : Req) (s : State) : AnsBurns s (cmdAnchor.body r s) := by
  unfold cmdAnchor
  dsimp only
  split
  · split
    · exact StateBurns.refl s
    split
    · exact StateBurns.refl s
    · exact setAnchor_burns ..
  · split
    · exact StateBurns.refl s
    · exact setAnchor_burns ..
  · exact StateBurns.refl s

theorem cmdLifeCycle_burns (r : Req) (s : State) : AnsBurns s (cmdLifeCycle.body r s) := by
  unfold cmdLifeCycle
  dsimp only
  split
  · exact StateBurns.refl s
  next hstep =>
    split
    · exact StateBurns.refl s
    have hburn : Burns s.otp { s.otp with life := u8 r.params 0 } :=
      { Burns.refl s.otp with life := by dsimp only; omega, lifeLegal := fun _ => by dsimp only; omega }
    have hlife : ∀ u, frozen u = frozen s → StateBurns s (raise 92 0 (emit (.fuse 0 (u8 r.params 0)) { u with
        otp := { u.otp with life := u8 r.params 0 } })) := fun u hu =>
      ((stateBurns_mk (otp_of_frozen hu ▸ hburn)).before hu).after (by simp only [raise_frozen, emit_frozen])
    exact hlife _ (by simp [apply_ite frozen])

theorem cmdTamper_burns (r : Req) (s : State) : AnsBurns s (cmdTamper.body r s) := by
  unfold cmdTamper
  dsimp only
  split
  · split
    · exact StateBurns.refl s
    · exact (StateBurns.refl s).after (by simp)
  · have hclear : Burns s.otp { s.otp with tampered := decide (64 ≤ s.otp.tamperCount) } := .of_same rfl rfl rfl rfl
    exact (stateBurns_mk hclear).after (by simp only [restorePersist_frozen, raise_frozen])
  · exact StateBurns.refl s

theorem rootGenerate_burns (good : Bool) (s : State) : StateBurns s (rootGenerate good s).2 := by
  unfold rootGenerate
  split
  · exact StateBurns.refl s
  split
  · exact StateBurns.refl s
  split
  · exact stateBurns_mk (.of_same rfl rfl rfl rfl)
  · have hroot : ∀ u k, frozen u = frozen s → StateBurns s { u with otp := { u.otp with root := some k } } := fun u k hu =>
      have hk : Burns u.otp { u.otp with root := some k } := .of_same rfl rfl rfl rfl
      (stateBurns_mk hk).before hu
    exact hroot _ _ (drawBytes_frozen 32 s)

theorem execPowerUpBistComplete_burns (duration noRef : Nat) (fails : List BistFail) (soft : List Repair) (root : Bool)
    (s : State) :
    ResBurns s (execPowerUpBistComplete duration noRef fails soft root s) := by
  unfold execPowerUpBistComplete
  split
  · exact resBurns_next (.refl s)
  extract_lets _ _ u v w
  have hv : frozen v = frozen s := by
    simp [v, u, apply_ite frozen]
  split
  · exact resBurns_next ((StateBurns.refl s).after (by simp [hv]))
  · have hw : frozen w = frozen s := (forEach_frozen _ _ _ fun _ _ => alarm_frozen ..).trans (by simp [hv])
    have hroot := (rootGenerate_burns root w).before hw
    generalize rootGenerate root w = g at hroot
    obtain ⟨good, v⟩ := g
    exact resBurns_next (hroot.after (by dsimp only; split <;> simp))

theorem cmdRepairBurn_burns (good : Bool) (r : Req) (s : State) : AnsBurns s ((cmdRepairBurn good).body r s) := by
  unfold cmdRepairBurn
  dsimp only
  split
  · exact StateBurns.refl s
  split
  · exact StateBurns.refl s
  split
  · exact StateBurns.refl s
  next hused =>
    split
    · exact StateBurns.refl s
    split
    · have hfuse : Burns s.otp { s.otp with
          fusesUsed := s.otp.fusesUsed + 1, fuses := s.otp.fuses ++ [{ ‹Repair› with origin := 2 }] } :=
        { Burns.refl s.otp with
          used := Nat.le_succ _, usedLegal := fun _ => by dsimp only; omega, fuses := List.prefix_append ..
          fusesLegal := fun h => by simpa using h }
      exact (stateBurns_mk hfuse).after (by simp only [raise_frozen, count_frozen, frozen_mk, emit_otp, emit_pending])
    · have hslot : Burns s.otp { s.otp with fusesUsed := s.otp.fusesUsed + 1 } :=
        { Burns.refl s.otp with
          used := Nat.le_succ _, usedLegal := fun _ => by dsimp only; omega, fusesLegal := fun h => Nat.le_succ_of_le h }
      exact (stateBurns_mk hslot).after (by simp only [raise_frozen, emit_frozen])

/-- A step of any command only burns: the seven that touch the OTP each do so, every other leaves it (R395, R414, R524). -/
theorem exec_burns (c : Instr) (s : State) : ResBurns s (exec c s) := by
  cases c with
  | registerWrite init addr data => exact (execRegisterWrite_freezes init addr data s).burns
  | denPowerOnReset xtal => exact (execDenPowerOnReset_freezes xtal s).burns
  | porstNAssert => exact (execPorstNAssert_freezes s).burns
  | porstNRelease boot => exact (execPorstNRelease_freezes boot s).burns
  | allRailsGood => exact (execAllRailsGood_freezes s).burns
  | pllLockComplete => exact (execPllLockComplete_freezes s).burns
  | supplyWindowExpiry late => exact (execSupplyWindowExpiry_freezes late s).burns
  | railOutOfRange rail => exact (execRailOutOfRange_freezes rail s).burns
  | brownOut rail => exact (execBrownOut_freezes rail s).burns
  | vddAonLoss => exact (execVddAonLoss_freezes s).burns
  | faultRestart xtal => exact (execFaultRestart_freezes xtal s).burns
  | refClockFault => exact (execRefClockFault_freezes s).burns
  | tjThresholdCross tj => exact (execTjThresholdCross_freezes tj s).burns
  | overtempReset tj => exact (execOvertempReset_freezes tj s).burns
  | warmNAssert => exact (execWarmNAssert_freezes s).burns
  | warmResetStart => exact (execWarmResetStart_freezes s).burns
  | powerUpBistComplete duration noRef fails soft root =>
    exact execPowerUpBistComplete_burns duration noRef fails soft root s
  | bootImageLoadComplete => exact (execBootImageLoadComplete_freezes s).burns
  | dieshInitComplete => exact (execDieshInitComplete_freezes s).burns
  | pcieMemRead rid w2 addr size => exact (execPcieMemRead_freezes rid w2 addr size s).burns
  | pcieMemWrite rid w2 addr data => exact (execPcieMemWrite_freezes rid w2 addr data s).burns
  | pcieAtomicOp rid w2 addr size op x y => exact (execPcieAtomicOp_freezes rid w2 addr size op x y s).burns
  | atomicOpRetry => exact (execAtomicOpRetry_freezes s).burns
  | pcieDelayedReadTimeout init addr size => exact (execPcieDelayedReadTimeout_freezes init addr size s).burns
  | pciePerstAssert => exact (execPciePerstAssert_freezes s).burns
  | pcieHotReset => exact (execPcieHotReset_freezes s).burns
  | pcieFlr => exact (execPcieFlr_freezes s).burns
  | hostMapWrite init value => exact (execHostMapWrite_freezes init value s).burns
  | msixUnmask init vector => exact (execMsixUnmask_freezes init vector s).burns
  | evCauseClear init ev value => exact (execEvCauseClear_freezes init ev value s).burns
  | ringCtrlWrite init tx ring value => exact (execRingCtrlWrite_freezes init tx ring value s).burns
  | ringTailWrite init tx ring value => exact (execRingTailWrite_freezes init tx ring value s).burns
  | txDescriptorProcess desc data => exact (execTxDescriptorProcess_freezes desc data s).burns
  | rxFrameDeliver buf => exact (execRxFrameDeliver_freezes buf s).burns
  | dmaError tx ring => exact (execDmaError_freezes tx ring s).burns
  | ringModTimeout tx ring => exact (execRingModTimeout_freezes tx ring s).burns
  | tsRecordWrite ring => exact (execTsRecordWrite_freezes ring s).burns
  | tsRecordTimeout ring => exact (execTsRecordTimeout_freezes ring s).burns
  | spiRead addr size crc => exact (execSpiRead_freezes addr size crc s).burns
  | spiWrite addr data crc => exact (execSpiWrite_freezes addr data crc s).burns
  | spiLockRead addr size crc => exact (execSpiLockRead_freezes addr size crc s).burns
  | spiUnlockWrite addr data crc => exact (execSpiUnlockWrite_freezes addr data crc s).burns
  | spiCancel crc => exact (execSpiCancel_freezes crc s).burns
  | spiNop opcode crc => exact (execSpiNop_freezes opcode crc s).burns
  | spiRepeatLast crc => exact (execSpiRepeatLast_freezes crc s).burns
  | spiReadCollect => exact (execSpiReadCollect_freezes s).burns
  | spiCsEarlyRise inRequest => exact (execSpiCsEarlyRise_freezes inRequest s).burns
  | bridgeFetchComplete bridge init op addr size answer =>
    exact (execBridgeFetchComplete_freezes bridge init op addr size answer s).burns
  | bridgeReadDiscard bridge init op addr size => exact (execBridgeReadDiscard_freezes bridge init op addr size s).burns
  | bridgeWriteDeliver bridge init => exact (execBridgeWriteDeliver_freezes bridge init s).burns
  | semLockLapse => exact (execSemLockLapse_freezes s).burns
  | pairBridgeRequest op addr size data => exact (execPairBridgeRequest_freezes op addr size data s).burns
  | edgeErrPopRead init cluster size => exact (execEdgeErrPopRead_freezes init cluster size s).burns
  | mbDoorbellWrite init mb => exact (execMbDoorbellWrite_freezes init mb s).burns
  | mbRspAckWrite init mb => exact (execMbRspAckWrite_freezes init mb s).burns
  | mbRequestWrite init mb off data => exact (execMbRequestWrite_freezes init mb off data s).burns
  | noticeRdWrite init mb value => exact (execNoticeRdWrite_freezes init mb value s).burns
  | timedSwapFire => exact (execTimedSwapFire_freezes s).burns
  | setDrainEnd => exact (execSetDrainEnd_freezes s).burns
  | setDrainTimeout => exact (execSetDrainTimeout_freezes s).burns
  | shadowCopyComplete => exact (execShadowCopyComplete_freezes s).burns
  | snapshotPeriodicTimer => exact (execSnapshotPeriodicTimer_freezes s).burns
  | snapshotPublish => exact (execSnapshotPublish_freezes s).burns
  | serviceSessionExpiry => exact (execServiceSessionExpiry_freezes s).burns
  | ethFrameReceive port data last how => exact (execEthFrameReceive_freezes port data last how s).burns
  | pickerThreadAllocate picker => exact (execPickerThreadAllocate_freezes picker s).burns
  | ldf picker => exact (execLdf_freezes picker s).burns
  | cmp picker => exact (execCmp_freezes picker s).burns
  | br picker => exact (execBr_freezes picker s).burns
  | jt picker => exact (execJt_freezes picker s).burns
  | add picker => exact (execAdd_freezes picker s).burns
  | sub picker => exact (execSub_freezes picker s).burns
  | and picker => exact (execAnd_freezes picker s).burns
  | or picker => exact (execOr_freezes picker s).burns
  | shr picker => exact (execShr_freezes picker s).burns
  | shl picker => exact (execShl_freezes picker s).burns
  | adv picker => exact (execAdv_freezes picker s).burns
  | push picker => exact (execPush_freezes picker s).burns
  | key picker => exact (execKey_freezes picker s).burns
  | metaField picker => exact (execMetaField_freezes picker s).burns
  | chklen picker => exact (execChklen_freezes picker s).burns
  | defer picker => exact (execDefer_freezes picker s).burns
  | done picker => exact (execDone_freezes picker s).burns
  | mal picker => exact (execMal_freezes picker s).burns
  | pickerStallResume picker => exact (execPickerStallResume_freezes picker s).burns
  | parseBudgetExhausted picker => exact (execParseBudgetExhausted_freezes picker s).burns
  | walkerTakeover walker => exact (execWalkerTakeover_freezes walker s).burns
  | trellisNodeVisit walker => exact (execTrellisNodeVisit_freezes walker s).burns
  | trellisVisitLimit walker => exact (execTrellisVisitLimit_freezes walker s).burns
  | parseResultDeliver port => exact (execParseResultDeliver_freezes port s).burns
  | pickerFaultRerun isWalker unit => exact (execPickerFaultRerun_freezes isWalker unit s).burns
  | pstoreEccError setB kind addr ue => exact (execPstoreEccError_freezes setB kind addr ue s).burns
  | pstoreRewrite setB kind addr => exact (execPstoreRewrite_freezes setB kind addr s).burns
  | macAgeScan => exact (execMacAgeScan_freezes s).burns
  | tableEccError setB table index ue => exact (execTableEccError_freezes setB table index ue s).burns
  | tableWordRewrite setB table index => exact (execTableWordRewrite_freezes setB table index s).burns
  | vintnerDirectedSend port queue data launch => exact (execVintnerDirectedSend_freezes port queue data launch s).burns
  | egressSelect port side => exact (execEgressSelect_freezes port side s).burns
  | transmissionComplete port pre => exact (execTransmissionComplete_freezes port pre s).burns
  | macsecHoldExpiry port => exact (execMacsecHoldExpiry_freezes port s).burns
  | residenceSweep => exact (execResidenceSweep_freezes s).burns
  | vatEccError kind ue index => exact (execVatEccError_freezes kind ue index s).burns
  | badgerAudit => exact (execBadgerAudit_freezes s).burns
  | pfcRepeatTimer port prio => exact (execPfcRepeatTimer_freezes port prio s).burns
  | pfcFrameReceive port classes quanta => exact (execPfcFrameReceive_freezes port classes quanta s).burns
  | pfcPauseExpiry port prio => exact (execPfcPauseExpiry_freezes port prio s).burns
  | gateEntryChange port => exact (execGateEntryChange_freezes port s).burns
  | preemptVerifyAttempt port good => exact (execPreemptVerifyAttempt_freezes port good s).burns
  | streamGateEntryChange gate => exact (execStreamGateEntryChange_freezes gate s).burns
  | edgeQueueTransfer chan => exact (execEdgeQueueTransfer_freezes chan s).burns
  | timeCycleTick => exact (execTimeCycleTick_freezes s).burns
  | compareFire tb unit => exact (execCompareFire_freezes tb unit s).burns
  | captureEdge source rising => exact (execCaptureEdge_freezes source rising s).burns
  | captureRearm init tb unit value => exact (execCaptureRearm_freezes init tb unit value s).burns
  | tbLatchWrite init value => exact (execTbLatchWrite_freezes init value s).burns
  | ppsPulseEnd k => exact (execPpsPulseEnd_freezes k s).burns
  | gptpSyncReceive slot port off steps gm ts => exact (execGptpSyncReceive_freezes slot port off steps gm ts s).burns
  | gptpSyncTxTimer slot port => exact (execGptpSyncTxTimer_freezes slot port s).burns
  | gptpSyncTimeout slot => exact (execGptpSyncTimeout_freezes slot s).burns
  | gptpAnnounceReceive slot port prio1 quality prio2 gm steps =>
    exact (execGptpAnnounceReceive_freezes slot port prio1 quality prio2 gm steps s).burns
  | gptpPdelayTimer port => exact (execGptpPdelayTimer_freezes port s).burns
  | gptpPdelayResponse port neighbour delay ratio ts =>
    exact (execGptpPdelayResponse_freezes port neighbour delay ratio ts s).burns
  | gptpPdelayRequestRx port => exact (execGptpPdelayRequestRx_freezes port s).burns
  | edgeFrameReceive chan kind flags ctrl ident prio vcid data ago err =>
    exact (execEdgeFrameReceive_freezes chan kind flags ctrl ident prio vcid data ago err s).burns
  | edgeFrameToVat chan => exact (execEdgeFrameToVat_freezes chan s).burns
  | edgeIntegrationComplete chan => exact (execEdgeIntegrationComplete_freezes chan s).burns
  | canTxAttempt chan => exact (execCanTxAttempt_freezes chan s).burns
  | canTxAttemptEnd chan result kind dataPhase => exact (execCanTxAttemptEnd_freezes chan result kind dataPhase s).burns
  | busOffRecovery chan => exact (execBusOffRecovery_freezes chan s).burns
  | ltWindowExpiry chan => exact (execLtWindowExpiry_freezes chan s).burns
  | linSlotStart chan => exact (execLinSlotStart_freezes chan s).burns
  | linResponseTimeout chan => exact (execLinResponseTimeout_freezes chan s).burns
  | linHeaderReceive chan ident good => exact (execLinHeaderReceive_freezes chan ident good s).burns
  | linStuckDominant chan => exact (execLinStuckDominant_freezes chan s).burns
  | frSlot ctl slot cycle => exact (execFrSlot_freezes ctl slot cycle s).burns
  | frPocChange ctl poc => exact (execFrPocChange_freezes ctl poc s).burns
  | t1sTxOpportunity chan fits collisions => exact (execT1sTxOpportunity_freezes chan fits collisions s).burns
  | t1sBeaconTimeout chan => exact (execT1sBeaconTimeout_freezes chan s).burns
  | t1sJabber chan => exact (execT1sJabber_freezes chan s).burns
  | tmcFrame cluster inbound => exact (execTmcFrame_freezes cluster inbound s).burns
  | trxFaultPersist chan => exact (execTrxFaultPersist_freezes chan s).burns
  | gwCopyProcess => exact (execGwCopyProcess_freezes s).burns
  | gwPressCompletion => exact (execGwPressCompletion_freezes s).burns
  | gwPressTimeout num => exact (execGwPressTimeout_freezes num s).burns
  | batchCloseTimer tunnel => exact (execBatchCloseTimer_freezes tunnel s).burns
  | fvSaveTimer => exact (execFvSaveTimer_freezes s).burns
  | fvReservationCommit index => exact (execFvReservationCommit_freezes index s).burns
  | portCJob => exact (execPortCJob_freezes s).burns
  | pcsConditionChange port lock laneLock localFault remoteFault errs corrected uncorrected =>
    exact (execPcsConditionChange_freezes port lock laneLock localFault remoteFault errs corrected uncorrected s).burns
  | linkUpHoldExpiry port => exact (execLinkUpHoldExpiry_freezes port s).burns
  | linkDownHoldExpiry port => exact (execLinkDownHoldExpiry_freezes port s).burns
  | anControlWord port word link duplex speed => exact (execAnControlWord_freezes port word link duplex speed s).burns
  | mdioTransactionComplete bus value => exact (execMdioTransactionComplete_freezes bus value s).burns
  | tc10StatusPoll lane value => exact (execTc10StatusPoll_freezes lane value s).burns
  | tc10AckTimeout lane => exact (execTc10AckTimeout_freezes lane s).burns
  | phyWakeInput lane => exact (execPhyWakeInput_freezes lane s).burns
  | serviceRequest => exact (execServiceRequest_freezes s).burns
  | servicePoll => exact (execServicePoll_freezes s).burns
  | serviceAck => exact (execServiceAck_freezes s).burns
  | serviceLinkLost => exact (execServiceLinkLost_freezes s).burns
  | mkaFrameReceive port st an sak peer txSsci rxSsci salt =>
    exact (execMkaFrameReceive_freezes port st an sak peer txSsci rxSsci salt s).burns
  | mkaHelloTimer port lost => exact (execMkaHelloTimer_freezes port lost s).burns
  | pressTurn host fault => exact (execPressTurn_freezes host fault s).burns
  | pressDescriptorComplete cls => exact (execPressDescriptorComplete_freezes cls s).burns
  | keySlotScrub slot disturb => exact (execKeySlotScrub_freezes slot disturb s).burns
  | tamperDetect source => exact execTamperDetect_burns source s
  | tamperRederive => exact (execTamperRederive_freezes s).burns
  | pressLockExpiry => exact (execPressLockExpiry_freezes s).burns
  | trngHealthFail => exact (execTrngHealthFail_freezes s).burns
  | trngRecovered => exact (execTrngRecovered_freezes s).burns
  | drbgReseed => exact (execDrbgReseed_freezes s).burns
  | persistSlotStore slot => exact (execPersistSlotStore_freezes slot s).burns
  | vselSettleExpiry => exact (execVselSettleExpiry_freezes s).burns
  | wakeDetect source matcher channel periods => exact (execWakeDetect_freezes source matcher channel periods s).burns
  | sleepEntryStart => exact (execSleepEntryStart_freezes s).burns
  | sleepDrainComplete => exact (execSleepDrainComplete_freezes s).burns
  | sleepDrainTimeout => exact (execSleepDrainTimeout_freezes s).burns
  | sleepSaveComplete => exact (execSleepSaveComplete_freezes s).burns
  | inhReleaseAfterFall => exact (execInhReleaseAfterFall_freezes s).burns
  | sleepExitRailsGood => exact (execSleepExitRailsGood_freezes s).burns
  | sleepExitComplete periods duration noRef fails =>
    exact (execSleepExitComplete_freezes periods duration noRef fails s).burns
  | levelRestore => exact (execLevelRestore_freezes s).burns
  | falseWakeTimeout => exact (execFalseWakeTimeout_freezes s).burns
  | nmFrameReceive port => exact (execNmFrameReceive_freezes port s).burns
  | nmBusTimeout port => exact (execNmBusTimeout_freezes port s).burns
  | nmNodeExpiry port node => exact (execNmNodeExpiry_freezes port node s).burns
  | nmTxCycle port => exact (execNmTxCycle_freezes port s).burns
  | nmHoldExpiry port => exact (execNmHoldExpiry_freezes port s).burns
  | nmCommitStart => exact (execNmCommitStart_freezes s).burns
  | linSlaveSilenceTimeout chan => exact (execLinSlaveSilenceTimeout_freezes chan s).burns
  | offenderTimeout port node => exact (execOffenderTimeout_freezes port node s).burns
  | pairLinkUp => exact (execPairLinkUp_freezes s).burns
  | pairLinkDown => exact (execPairLinkDown_freezes s).burns
  | pairHelloTimer => exact (execPairHelloTimer_freezes s).burns
  | pairHelloReceive dev peer ident fwrev hbUs detectUs ckptMs respMs active prefer fenced epoch =>
    exact (execPairHelloReceive_freezes dev peer ident fwrev hbUs detectUs ckptMs respMs active prefer fenced epoch s).burns
  | heartbeatTimer => exact (execHeartbeatTimer_freezes s).burns
  | owlChallengeRefresh => exact (execOwlChallengeRefresh_freezes s).burns
  | owlResponseWrite => exact (execOwlResponseWrite_freezes s).burns
  | owlHeartbeatReceive path port data => exact (execOwlHeartbeatReceive_freezes path port data s).burns
  | owlLastGaspReceive path port data => exact (execOwlLastGaspReceive_freezes path port data s).burns
  | owlTakeoverReceive path port data => exact (execOwlTakeoverReceive_freezes path port data s).burns
  | owlBeaconReceive path port data => exact (execOwlBeaconReceive_freezes path port data s).burns
  | pathSilence path => exact (execPathSilence_freezes path s).burns
  | responseStale => exact (execResponseStale_freezes s).burns
  | takeoverForwarding => exact (execTakeoverForwarding_freezes s).burns
  | takeoverRepeat => exact (execTakeoverRepeat_freezes s).burns
  | fenceInRise level => exact (execFenceInRise_freezes level s).burns
  | fenceRoostEntry => exact (execFenceRoostEntry_freezes s).burns
  | pairCheckpointTimer => exact (execPairCheckpointTimer_freezes s).burns
  | inSyncLapse => exact (execInSyncLapse_freezes s).burns
  | handoverAckReceive => exact (execHandoverAckReceive_freezes s).burns
  | pairSleepReceive target => exact (execPairSleepReceive_freezes target s).burns
  | pairSleepAckTimeout => exact (execPairSleepAckTimeout_freezes s).burns
  | pairSleepAbortReceive => exact (execPairSleepAbortReceive_freezes s).burns
  | pairRejoinTimeout => exact (execPairRejoinTimeout_freezes s).burns
  | pairDissolveReceive => exact (execPairDissolveReceive_freezes s).burns
  | beaconTimer => exact (execBeaconTimer_freezes s).burns
  | frerRecoveryTimeout stream => exact (execFrerRecoveryTimeout_freezes stream s).burns
  | frerLatentCheck stream => exact (execFrerLatentCheck_freezes stream s).burns
  | frerLatentReset stream => exact (execFrerLatentReset_freezes stream s).burns
  | lockstepMismatch bad mask => exact (execLockstepMismatch_freezes bad mask s).burns
  | controllerCheckpointWrite => exact (execControllerCheckpointWrite_freezes s).burns
  | chainDataReceive port => exact (execChainDataReceive_freezes port s).burns
  | chainDataAckReceive port => exact (execChainDataAckReceive_freezes port s).burns
  | chainRetransmitTimer port part block => exact (execChainRetransmitTimer_freezes port part block s).burns
  | chainArmReceive port => exact (execChainArmReceive_freezes port s).burns
  | chainConfirmReceive port => exact (execChainConfirmReceive_freezes port s).burns
  | chainAbortReceive port => exact (execChainAbortReceive_freezes port s).burns
  | chainStatusReceive port => exact (execChainStatusReceive_freezes port s).burns
  | chainCtrlAckReceive port => exact (execChainCtrlAckReceive_freezes port s).burns
  | updStatusTimer => exact (execUpdStatusTimer_freezes s).burns
  | armRepeatTimer => exact (execArmRepeatTimer_freezes s).burns
  | updateActivation => exact (execUpdateActivation_freezes s).burns
  | trialWindowExpiry => exact (execTrialWindowExpiry_freezes s).burns
  | confirmRepeatTimer => exact (execConfirmRepeatTimer_freezes s).burns
  | incompleteCheck => exact (execIncompleteCheck_freezes s).burns
  | packageReadbackComplete flashErr => exact (execPackageReadbackComplete_freezes flashErr s).burns
  | moleVisit ce ue fault again => exact (execMoleVisit_freezes ce ue fault again s).burns
  | scratchZeroComplete bank => exact (execScratchZeroComplete_freezes bank s).burns
  | scrOwnWrite init bank value => exact (execScrOwnWrite_freezes init bank value s).burns
  | traceWriterDrain => exact (execTraceWriterDrain_freezes s).burns
  | traceRdWrite init value => exact (execTraceRdWrite_freezes init value s).burns
  | alarmClear init value => exact (execAlarmClear_freezes init value s).burns
  | cmdDeviceInfo _ => exact (runCmd_freezes cmdDeviceInfo_freezes).burns
  | cmdNoticeSubscribe _ => exact (runCmd_freezes cmdNoticeSubscribe_freezes).burns
  | cmdEventSpiMask _ => exact (runCmd_freezes cmdEventSpiMask_freezes).burns
  | cmdDeviceReset _ => exact (runCmd_freezes cmdDeviceReset_freezes).burns
  | cmdServiceAuth _ => exact (runCmd_freezes cmdServiceAuth_freezes).burns
  | cmdServiceEnd _ => exact (runCmd_freezes cmdServiceEnd_freezes).burns
  | cmdBootImage _ => exact (runCmd_freezes cmdBootImage_freezes).burns
  | cmdSetStatus _ => exact (runCmd_freezes cmdSetStatus_freezes).burns
  | cmdSetCopy _ => exact (runCmd_freezes cmdSetCopy_freezes).burns
  | cmdSetLoad _ => exact (runCmd_freezes cmdSetLoad_freezes).burns
  | cmdSetSwap _ => exact (runCmd_freezes cmdSetSwap_freezes).burns
  | cmdSetSwapCancel _ => exact (runCmd_freezes cmdSetSwapCancel_freezes).burns
  | cmdCounterSnapshot _ => exact (runCmd_freezes cmdCounterSnapshot_freezes).burns
  | cmdCounterRead _ => exact (runCmd_freezes cmdCounterRead_freezes).burns
  | cmdCounterClear _ => exact (runCmd_freezes cmdCounterClear_freezes).burns
  | cmdLogConfig _ => exact (runCmd_freezes cmdLogConfig_freezes).burns
  | cmdLogRead _ => exact (runCmd_freezes cmdLogRead_freezes).burns
  | cmdParseLoad _ => exact (runCmd_freezes cmdParseLoad_freezes).burns
  | cmdParsePort _ => exact (runCmd_freezes cmdParsePort_freezes).burns
  | cmdParseDevice _ => exact (runCmd_freezes cmdParseDevice_freezes).burns
  | cmdParseTry _ => exact (runCmd_freezes cmdParseTry_freezes).burns
  | cmdPickerStatus _ => exact (runCmd_freezes cmdPickerStatus_freezes).burns
  | cmdPickerRetire _ => exact (runCmd_freezes cmdPickerRetire_freezes).burns
  | cmdPickerReadmit _ pass => exact (runCmd_freezes (cmdPickerReadmit_freezes pass)).burns
  | cmdClsProfile _ => exact (runCmd_freezes cmdClsProfile_freezes).burns
  | cmdClsPort _ => exact (runCmd_freezes cmdClsPort_freezes).burns
  | cmdEmWrite _ => exact (runCmd_freezes cmdEmWrite_freezes).burns
  | cmdEmRead _ => exact (runCmd_freezes cmdEmRead_freezes).burns
  | cmdActionWrite _ => exact (runCmd_freezes cmdActionWrite_freezes).burns
  | cmdTernaryWrite _ => exact (runCmd_freezes cmdTernaryWrite_freezes).burns
  | cmdZoneWrite _ => exact (runCmd_freezes cmdZoneWrite_freezes).burns
  | cmdAnomalyWrite _ => exact (runCmd_freezes cmdAnomalyWrite_freezes).burns
  | cmdVlanWrite _ => exact (runCmd_freezes cmdVlanWrite_freezes).burns
  | cmdMcastWrite _ => exact (runCmd_freezes cmdMcastWrite_freezes).burns
  | cmdMacControl _ => exact (runCmd_freezes cmdMacControl_freezes).burns
  | cmdFoxPort _ => exact (runCmd_freezes cmdFoxPort_freezes).burns
  | cmdMirrorSession _ => exact (runCmd_freezes cmdMirrorSession_freezes).burns
  | cmdClsDevice _ => exact (runCmd_freezes cmdClsDevice_freezes).burns
  | cmdClsCounters _ => exact (runCmd_freezes cmdClsCounters_freezes).burns
  | cmdVatQueue _ => exact (runCmd_freezes cmdVatQueue_freezes).burns
  | cmdVatPort _ => exact (runCmd_freezes cmdVatPort_freezes).burns
  | cmdVatStatus _ => exact (runCmd_freezes cmdVatStatus_freezes).burns
  | cmdVatQueueStatus _ => exact (runCmd_freezes cmdVatQueueStatus_freezes).burns
  | cmdVatPeek _ => exact (runCmd_freezes cmdVatPeek_freezes).burns
  | cmdVatPortReset _ => exact (runCmd_freezes cmdVatPortReset_freezes).burns
  | cmdVatBadger _ => exact (runCmd_freezes cmdVatBadger_freezes).burns
  | cmdSchedPort _ => exact (runCmd_freezes cmdSchedPort_freezes).burns
  | cmdGateList _ => exact (runCmd_freezes cmdGateList_freezes).burns
  | cmdPreempt _ => exact (runCmd_freezes cmdPreempt_freezes).burns
  | cmdSchedStatus _ => exact (runCmd_freezes cmdSchedStatus_freezes).burns
  | cmdStreamFilter _ => exact (runCmd_freezes cmdStreamFilter_freezes).burns
  | cmdStreamGate _ => exact (runCmd_freezes cmdStreamGate_freezes).burns
  | cmdMeter _ => exact (runCmd_freezes cmdMeter_freezes).burns
  | cmdPoliceCounters _ => exact (runCmd_freezes cmdPoliceCounters_freezes).burns
  | cmdPoliceUnlatch _ => exact (runCmd_freezes cmdPoliceUnlatch_freezes).burns
  | cmdEdgeQueues _ => exact (runCmd_freezes cmdEdgeQueues_freezes).burns
  | cmdTbEnable _ => exact (runCmd_freezes cmdTbEnable_freezes).burns
  | cmdTbStep _ => exact (runCmd_freezes cmdTbStep_freezes).burns
  | cmdTbRate _ => exact (runCmd_freezes cmdTbRate_freezes).burns
  | cmdTbReset _ => exact (runCmd_freezes cmdTbReset_freezes).burns
  | cmdTbStatus _ => exact (runCmd_freezes cmdTbStatus_freezes).burns
  | cmdGptpDomain _ => exact (runCmd_freezes cmdGptpDomain_freezes).burns
  | cmdGptpPort _ => exact (runCmd_freezes cmdGptpPort_freezes).burns
  | cmdGptpStatus _ => exact (runCmd_freezes cmdGptpStatus_freezes).burns
  | cmdEdgeConfig _ => exact ((freezes_next ..).2 (overCheck_frozen (runCmd_frozen cmdEdgeConfig_freezes))).burns
  | cmdEdgeState _ => exact ((freezes_next ..).2 (overCheck_frozen (runCmd_frozen cmdEdgeState_freezes))).burns
  | cmdEdgeStatus _ => exact (runCmd_freezes cmdEdgeStatus_freezes).burns
  | cmdEdgeFilter _ => exact (runCmd_freezes cmdEdgeFilter_freezes).burns
  | cmdEdgeRetire _ => exact (runCmd_freezes cmdEdgeRetire_freezes).burns
  | cmdEdgeReadmit _ => exact ((freezes_next ..).2 (overCheck_frozen (runCmd_frozen cmdEdgeReadmit_freezes))).burns
  | cmdLinTable _ => exact (runCmd_freezes cmdLinTable_freezes).burns
  | cmdFrConfig _ => exact (runCmd_freezes cmdFrConfig_freezes).burns
  | cmdT1sPlca _ => exact (runCmd_freezes cmdT1sPlca_freezes).burns
  | cmdTmc _ => exact (runCmd_freezes cmdTmc_freezes).burns
  | cmdGwTunnel _ => exact (runCmd_freezes cmdGwTunnel_freezes).burns
  | cmdGwProgram _ => exact (runCmd_freezes cmdGwProgram_freezes).burns
  | cmdGwSecoc _ => exact (runCmd_freezes cmdGwSecoc_freezes).burns
  | cmdGwFreshness _ => exact (runCmd_freezes cmdGwFreshness_freezes).burns
  | cmdGwStatus _ => exact (runCmd_freezes cmdGwStatus_freezes).burns
  | cmdGwCounters _ => exact (runCmd_freezes cmdGwCounters_freezes).burns
  | cmdLaneMode _ => exact (changing_freezes (overCheck_frozen (runCmd_frozen cmdLaneMode_freezes))).burns
  | cmdPortConfig _ => exact (changing_freezes (overCheck_frozen (runCmd_frozen cmdPortConfig_freezes))).burns
  | cmdPortState _ => exact (changing_freezes (runCmd_frozen cmdPortState_freezes)).burns
  | cmdPortStatus _ => exact (runCmd_freezes cmdPortStatus_freezes).burns
  | cmdPortRetire _ => exact (changing_freezes (runCmd_frozen cmdPortRetire_freezes)).burns
  | cmdPortReadmit _ => exact (runCmd_freezes cmdPortReadmit_freezes).burns
  | cmdPhyBind _ => exact (runCmd_freezes cmdPhyBind_freezes).burns
  | cmdMdio _ => exact (runCmd_freezes cmdMdio_freezes).burns
  | cmdTc10 _ => exact (changing_freezes (runCmd_frozen cmdTc10_freezes)).burns
  | cmdMacsecPort _ => exact (runCmd_freezes cmdMacsecPort_freezes).burns
  | cmdMacsecTxsa _ => exact (runCmd_freezes cmdMacsecTxsa_freezes).burns
  | cmdMacsecRxsc _ => exact (runCmd_freezes cmdMacsecRxsc_freezes).burns
  | cmdMacsecRxsa _ => exact (runCmd_freezes cmdMacsecRxsa_freezes).burns
  | cmdMacsecStatus _ => exact (runCmd_freezes cmdMacsecStatus_freezes).burns
  | cmdKeyWrite _ => exact (runCmd_freezes cmdKeyWrite_freezes).burns
  | cmdKeyGenerate _ => exact (runCmd_freezes cmdKeyGenerate_freezes).burns
  | cmdKeyDerive _ => exact (runCmd_freezes cmdKeyDerive_freezes).burns
  | cmdKeyClear _ => exact (runCmd_freezes cmdKeyClear_freezes).burns
  | cmdKeyInfo _ => exact (runCmd_freezes cmdKeyInfo_freezes).burns
  | cmdPressRun _ => exact (runCmd_freezes cmdPressRun_freezes).burns
  | cmdPressLock _ => exact (runCmd_freezes cmdPressLock_freezes).burns
  | cmdPressStatus _ => exact (runCmd_freezes cmdPressStatus_freezes).burns
  | cmdAsymVerify _ => exact (runCmd_freezes cmdAsymVerify_freezes).burns
  | cmdAnchor _ => exact runCmd_burns cmdAnchor_burns
  | cmdLifeCycle _ => exact runCmd_burns cmdLifeCycle_burns
  | cmdTamper _ => exact runCmd_burns cmdTamper_burns
  | cmdPowerLevel _ => exact (runCmd_freezes cmdPowerLevel_freezes).burns
  | cmdSleepEnter _ => exact (runCmd_freezes cmdSleepEnter_freezes).burns
  | cmdSleepExit _ => exact (runCmd_freezes cmdSleepExit_freezes).burns
  | cmdWakeConfig _ => exact (runCmd_freezes cmdWakeConfig_freezes).burns
  | cmdWakeMatcher _ => exact (runCmd_freezes cmdWakeMatcher_freezes).burns
  | cmdNmBus _ => exact (runCmd_freezes cmdNmBus_freezes).burns
  | cmdNmControl _ => exact (runCmd_freezes cmdNmControl_freezes).burns
  | cmdStayawakeLog _ => exact (runCmd_freezes cmdStayawakeLog_freezes).burns
  | cmdPairConfig _ => exact (runCmd_freezes cmdPairConfig_freezes).burns
  | cmdPairStatus _ => exact (runCmd_freezes cmdPairStatus_freezes).burns
  | cmdPairHandover _ => exact (runCmd_freezes cmdPairHandover_freezes).burns
  | cmdPairFence _ => exact (runCmd_freezes cmdPairFence_freezes).burns
  | cmdPairCheckpoint _ => exact (runCmd_freezes cmdPairCheckpoint_freezes).burns
  | cmdLockstepStatus _ => exact (runCmd_freezes cmdLockstepStatus_freezes).burns
  | cmdLogicalPort _ => exact (runCmd_freezes cmdLogicalPort_freezes).burns
  | cmdFrerStream _ => exact (runCmd_freezes cmdFrerStream_freezes).burns
  | cmdFrerBind _ => exact (runCmd_freezes cmdFrerBind_freezes).burns
  | cmdFrerCounters _ => exact (runCmd_freezes cmdFrerCounters_freezes).burns
  | cmdFrerReset _ => exact (runCmd_freezes cmdFrerReset_freezes).burns
  | cmdUpdStatus _ => exact (runCmd_freezes cmdUpdStatus_freezes).burns
  | cmdUpdManifest _ => exact (runCmd_freezes cmdUpdManifest_freezes).burns
  | cmdUpdData _ => exact (runCmd_freezes cmdUpdData_freezes).burns
  | cmdUpdChain _ => exact (runCmd_freezes cmdUpdChain_freezes).burns
  | cmdUpdArm _ => exact (runCmd_freezes cmdUpdArm_freezes).burns
  | cmdUpdConfirm _ => exact (runCmd_freezes cmdUpdConfirm_freezes).burns
  | cmdUpdAbort _ => exact (runCmd_freezes cmdUpdAbort_freezes).burns
  | cmdUpdVehicle _ => exact (runCmd_freezes cmdUpdVehicle_freezes).burns
  | cmdSelftestRun _ pass detail => exact (changing_freezes (runCmd_frozen (cmdSelftestRun_freezes pass detail))).burns
  | cmdBistResult _ => exact (runCmd_freezes cmdBistResult_freezes).burns
  | cmdRepairList _ => exact (runCmd_freezes cmdRepairList_freezes).burns
  | cmdRepairBurn _ good => exact runCmd_burns (cmdRepairBurn_burns good)
  | cmdScratchOwn _ => exact (runCmd_freezes cmdScratchOwn_freezes).burns
  | cmdScratchStatus _ => exact (runCmd_freezes cmdScratchStatus_freezes).burns
  | cmdMoleConfig _ => exact (runCmd_freezes cmdMoleConfig_freezes).burns
  | pciePerstRelease => exact (execPciePerstRelease_freezes s).burns
  | handoverAckTimeout => exact (execHandoverAckTimeout_freezes s).burns
  | pairSleepAckReceive => exact (execPairSleepAckReceive_freezes s).burns
  | pairMb3FrameReceive kind data => exact (execPairMb3FrameReceive_freezes kind data s).burns
  | shadowReadyDeadline => exact (execShadowReadyDeadline_freezes s).burns
  | tamperSourceClear source => exact (execTamperSourceClear_freezes source s).burns
  | suppressionEnd port node => exact (execSuppressionEnd_freezes port node s).burns

/-- What a step leaves of the queue, and what it makes of the OTP. -/
theorem step_burns {s t : State} (h : step s = .next t) : Burns s.otp t.otp ∧ t.pending = s.pending.tail := by
  unfold step at h
  split at h
  next hq =>
    cases h
    exact ⟨.refl _, by rw [hq]; rfl⟩
  next c rest hq =>
    obtain ⟨hotp, hpending⟩ := exec_burns c _ t h
    exact ⟨hotp, by rw [hpending, hq]; rfl⟩

end Sys2Proof.Machine

namespace Sys2Proof

open Machine

/-- Settles O3: burning keeps legal contents legal, and a step does no more than burn. -/
theorem stepKeepsFusesLegal : Obligations.StepKeepsFusesLegal := by
  unfold Obligations.StepKeepsFusesLegal
  intro s t ⟨hlife, hwipes, hused, hfuses⟩ h
  obtain ⟨hb, -⟩ := step_burns h
  exact ⟨hb.lifeLegal hlife, (hb.wipes hwipes).2, hb.usedLegal hused, hb.fusesLegal hfuses⟩

/-- Settles O4: burning goes one way, and only the front command leaves the queue. -/
theorem stepOnlyBurnsFuses : Obligations.StepOnlyBurnsFuses := by
  unfold Obligations.StepOnlyBurnsFuses
  intro s t hwipes h
  obtain ⟨hb, hq⟩ := step_burns h
  exact ⟨⟨hb.life, (hb.wipes hwipes).1, hb.used, hb.fuses⟩, hq⟩

end Sys2Proof
end

section
/-! SUPPORT. Serving a mailbox command in the remaining forms that statements use: without an answer yet, refused, and with what
follows a change of ports or of the ingress rate (R106, R109, R110, R432, R483). -/

namespace Sys2Proof.Machine

open Sys2Proof

/-- A command that uses no configuration set and is taken up without an answer yet. -/
theorem runCmd_neither_busy {c : Cmd} {mb tgt : Nat} {p : Bytes} {s u : State} (hs : c.sets = .neither)
    (h : Served mb c.code tgt p s) (hm : ∀ tag, c.may ⟨mb, c.code, tag, tgt, p⟩ = true) (hl : c.lenOk p = true)
    (hi : ∀ tag, c.idx ⟨mb, c.code, tag, tgt, p⟩ s = stOk)
    (hb : ∀ tag, c.body ⟨mb, c.code, tag, tgt, p⟩ s = .busy u) : runCmd c mb s = u := by
  obtain ⟨⟨tag, hc⟩, hn, h4⟩ := h
  simp [runCmd, hc, hn, hm, hl, hi, hb, hs, writesSet, stOk]
  exact fun e he => by simp [h4 e] at he

theorem overCheck_congr {f : State → State} {s t : State} (h : f s = t) : overCheck f s = overCheck (fun _ => t) s := by
  simp only [overCheck, h]

section
variable {i : Instr} (c : Cmd) {mb st : Nat} {p data : Bytes} {s u : State} (hs : c.sets = .neither)
  (hm : ∀ tag t, c.may ⟨mb, c.code, tag, t, p⟩ = true) (hl : c.lenOk p = true)
  (hi : ∀ tag t, c.idx ⟨mb, c.code, tag, t, p⟩ s = stOk)
include hs hm hl hi

theorem begins_neither (he : exec i s = .next (runCmd c mb s))
    (hb : ∀ tag t, c.body ⟨mb, c.code, tag, t, p⟩ s = .busy u) : Begins i mb c.code p s u :=
  fun tgt h => he.trans (congrArg _ (runCmd_neither_busy hs h (fun tag => hm tag tgt) hl (fun tag => hi tag tgt)
    fun tag => hb tag tgt))

theorem declines_neither (he : exec i s = .next (runCmd c mb s))
    (hb : ∀ tag t, c.body ⟨mb, c.code, tag, t, p⟩ s = fail st s) : Declines i mb c.code p st s :=
  fun tgt h => he.trans (congrArg _ (runCmd_neither hs h (fun tag => hm tag tgt) hl (fun tag => hi tag tgt)
    fun tag => hb tag tgt))

variable (hb : ∀ tag t, c.body ⟨mb, c.code, tag, t, p⟩ s = ok data u)
include hb

/-- What serving leaves, when the effect leaves the sets' generation. -/
theorem runCmd_neither_ok {tgt : Nat} (hg : u.sets.gen = s.sets.gen) (h : Served mb c.code tgt p s) :
    runCmd c mb s = mbDone mb stOk s.sets.gen data u :=
  hg ▸ runCmd_neither hs h (fun tag => hm tag tgt) hl (fun tag => hi tag tgt) fun tag => hb tag tgt

variable (hg : u.sets.gen = s.sets.gen)
include hg

theorem serves_neither (he : exec i s = .next (runCmd c mb s)) : Serves i mb c.code p data s u :=
  fun _ h => he.trans (congrArg _ (runCmd_neither_ok c hs hm hl hi hb hg h))

theorem servesOver_neither (he : exec i s = .next (overCheck (runCmd c mb) s)) : ServesOver i mb c.code p data s u :=
  fun _ h => he.trans (congrArg _ (overCheck_congr (runCmd_neither_ok c hs hm hl hi hb hg h)))

theorem servesPorts_neither (he : exec i s = changing (runCmd c mb) s) : ServesPorts i mb c.code p data s u :=
  fun _ h => he.trans (congrArg (fun t => Host.Outcome.next (membersChanged s t)) (runCmd_neither_ok c hs hm hl hi hb hg h))

theorem servesLanes_neither (he : exec i s = changing (overCheck (runCmd c mb)) s) :
    ServesLanes i mb c.code p data s u :=
  fun _ h => he.trans (congrArg (fun t => Host.Outcome.next (membersChanged s t))
    (overCheck_congr (runCmd_neither_ok c hs hm hl hi hb hg h)))

end

section
variable (c : Cmd) {p data : Bytes} {s : State} (hs : c.sets = .either) (hl : c.lenOk p = true)
include hs hl

/-- A command of either set, on the active one. -/
theorem readsActive_either {i : Nat → Instr} (he : ∀ mb, exec (i mb) s = .next (runCmd c mb s))
    (hm : ∀ mb < 5, ∀ tag, c.may ⟨mb, c.code, tag, 0, p⟩ = true)
    (hi : ∀ mb tag, c.idx ⟨mb, c.code, tag, 0, p⟩ s = stOk)
    (hb : ∀ mb tag, c.body ⟨mb, c.code, tag, 0, p⟩ s = ok data s) : ReadsActive i c.code p data s :=
  fun mb h5 h => answers_active c (he mb) (.inl hs) h (hm mb h5) hl (hi mb) (hb mb)

/-- A command of either set, on the shadow from MB0. -/
theorem setsShadow_either {i : Instr} {f : CfgSet → CfgSet} (he : exec i s = .next (runCmd c 0 s))
    (hm : ∀ tag, c.may ⟨0, c.code, tag, 1, p⟩ = true)
    (hi : ∀ tag, c.idx ⟨0, c.code, tag, 1, p⟩ s = stOk)
    (hb : ∀ tag, c.body ⟨0, c.code, tag, 1, p⟩ s = ok data (editShadow f s)) : SetsShadow i c.code p data f s :=
  fun hf h => answers_shadow c he (.inr ⟨hs, rfl⟩) hf h hm hl hi hb

end

/-- A command of the shadow alone. -/
theorem setsShadow_shadow {c : Cmd} {p data : Bytes} {s : State} {i : Instr} {f : CfgSet → CfgSet} (hs : c.sets = .shadow) (hl : c.lenOk p = true)
    (he : exec i s = .next (runCmd c 0 s))
    (hm : ∀ tag, c.may ⟨0, c.code, tag, 1, p⟩ = true)
    (hi : ∀ tag, c.idx ⟨0, c.code, tag, 1, p⟩ s = stOk)
    (hb : ∀ tag, c.body ⟨0, c.code, tag, 1, p⟩ s = ok data (editShadow f s)) : SetsShadow i c.code p data f s :=
  fun hf h => answers_shadow c he (.inl hs) hf h hm hl hi hb

end Sys2Proof.Machine
end

section
/-! PROOF. A step and the reset of Den: the queue, the state right after reset, what the resets of Den keep (R44, R47, R48). -/

namespace Sys2Proof

open Machine

/-- Settles O1: `step` takes the front command apart by its definition. -/
theorem stepRunsTheFrontCommand : Obligations.StepRunsTheFrontCommand := by
  unfold Obligations.StepRunsTheFrontCommand
  exact ⟨fun _ _ _ => rfl, fun _ => rfl⟩

theorem otpLegal_reset : OtpLegal State.reset := by
  unfold OtpLegal
  decide

/-- Every mailbox is EMPTY after reset; MB0 alone has another reset value, its groups. -/
theorem mbOf_reset_state (k : Nat) : (mbOf k State.reset).state = .empty := by
  cases k with
  | zero => rfl
  | succ k => rfl

/-- Settles O2: every register named reads its reset value. -/
theorem resetLeavesNothingRunning : Obligations.ResetLeavesNothingRunning := by
  unfold Obligations.ResetLeavesNothingRunning
  refine ⟨rfl, rfl, rfl, ?_, ?_, ?_, fun _ => rfl, fun tx n => ?_, fun k => ?_, otpLegal_reset, rfl⟩
  · decide
  · decide
  · decide
  · cases tx <;> rfl
  · exact mbOf_reset_state k

/-- Settles O5. -/
theorem resetFusesLegal : Obligations.ResetFusesLegal := otpLegal_reset

/-- BOOT_CAUSE starts from zero at the reset of Den; bit 5 says that the crystal is absent. -/
theorem cause_bootCause_denReset (rails : BitVec 7) (s : State) : (bootCause 5 (denReset rails s)).boot.cause = 0x20 := by
  have h : (denReset rails s).boot.cause = 0 := rfl
  simp only [bootCause, h]
  decide

theorem gives_denReset {s : State} : ∀ c ∈ [Instr.porstNAssert, .vddAonLoss], ∃ rails, Gives c s (denReset rails s) := by
  simp only [List.forall_mem_cons]
  exact ⟨⟨_, rfl⟩, ⟨_, rfl⟩, List.forall_mem_nil _⟩

/-- Settles O7: the reset of Den starts from the reset state and carries over the OTP, the flash and the pins alone. -/
theorem denResetsKeepOnlyOtpAndFlash : Obligations.DenResetsKeepOnlyOtpAndFlash := by
  unfold Obligations.DenResetsKeepOnlyOtpAndFlash
  refine fun s => ⟨fun xtal => ?_, fun c hc => ?_⟩
  · cases xtal
    · exact ⟨_, rfl, rfl, rfl, rfl, rfl, cause_bootCause_denReset _ _, rfl, rfl, rfl⟩
    · exact ⟨_, rfl, rfl, rfl, rfl, rfl, rfl, rfl, rfl, rfl⟩
  · obtain ⟨rails, h⟩ := gives_denReset (s := s) c hc
    exact ⟨_, h, rfl, rfl, rfl, rfl, rfl, rfl, rfl, rfl, rfl, rfl, rfl, rfl, rfl, rfl, rfl⟩

/-- Settles O12: for MB0 to MB2 the response goes no further than the mailbox and EV0. -/
theorem doneWritesTheResponseHeader : Obligations.DoneWritesTheResponseHeader := by
  unfold Obligations.DoneWritesTheResponseHeader
  intro k st gen d s hk
  have h4 : k ≠ 4 := by omega
  have h3 : k ≠ 3 := by omega
  simp only [mbDone, if_neg h4, if_neg h3]

end Sys2Proof
end

section
/-! PROOF. Snapshots, the service session and service frames (R131, R379, R380). -/

namespace Sys2Proof.Machine

/-- The oldest service frame is taken when it is of the kind that the command handles. -/
theorem takeService_of_inbox {kind : Nat} {src b : Bytes} {s : State} (hin : s.svc.inbox = [(src, b)]) (hk : u8 b 1 = kind) :
    takeService kind s = some (src, b, { s with svc := { s.svc with inbox := [] } }) := by
  simp [takeService, hin, hk]

theorem closeSession_of_open {s : State} (h : s.svc.session.isSome = true) :
    closeSession s =
      { notice 0x0001 locDev 0 s with svc := { (notice 0x0001 locDev 0 s).svc with session := none, rights := 0, peer := none } } :=
  if_pos h

theorem execServiceRequest_of_out_of_sequence {src b : Bytes} {s : State} (hin : s.svc.inbox = [(src, b)]) (hk : u8 b 1 = 1)
    (hoff : beN b 4 2 ≠ 0) (hasm : s.svc.asm ≠ some (beN b 4 2)) :
    execServiceRequest s = .next (svcFormat { s with svc := { s.svc with inbox := [] } }) := by
  simp only [execServiceRequest, takeService_of_inbox hin (kind := svcRequest) hk, if_neg hoff]
  exact if_pos (.inl hasm)

theorem execServicePoll_of_done {src b : Bytes} {s : State} (hin : s.svc.inbox = [(src, b)]) (hk : u8 b 1 = 3)
    (hd : (mbOf 4 s).state = .done) :
    execServicePoll s = .next (serviceRespond { s with svc := { s.svc with inbox := [] } }) := by
  simp only [execServicePoll, takeService_of_inbox hin (kind := svcPoll) hk]
  exact if_pos hd

theorem execServiceAck_of_seq {src b : Bytes} {s : State} (hin : s.svc.inbox = [(src, b)]) (hk : u8 b 1 = 4)
    (hseq : beN b 2 2 = s.svc.seq) :
    execServiceAck s = .next (mbAck 4 { s with svc := { s.svc with inbox := [] } }) := by
  simp only [execServiceAck, takeService_of_inbox hin (kind := svcAck) hk]
  exact if_pos hseq

end Sys2Proof.Machine

namespace Sys2Proof

open Machine

theorem ends_cmdServiceEnd {t : Nat} {s : State} (hopen : s.svc.session.isSome = true) (h : Served 4 0x0006 t [] s) :
    Ends (.cmdServiceEnd 4) s (fun u => u.svc.session = none ∧ u.svc.rights = 0 ∧ u.svc.peer = none) := by
  have hafter : (mbDone 4 stOk s.sets.gen [] s).svc.session.isSome = true := by rw [mbDone_svc, hopen]
  have hserve : Begins (.cmdServiceEnd 4) 4 0x0006 [] s (closeSession (mbDone 4 stOk s.sets.gen [] s)) :=
    begins_neither cmdServiceEnd rfl (fun _ _ => rfl) rfl (fun _ _ => rfl) rfl fun _ _ => if_pos hopen
  refine ⟨_, hserve t h, ?_⟩
  rw [closeSession_of_open hafter]
  exact ⟨rfl, rfl, rfl⟩

/-- Settles O15. -/
theorem snapshotsAndServiceSession : Obligations.SnapshotsAndServiceSession := by
  unfold Obligations.SnapshotsAndServiceSession
  refine ⟨fun s hp => ?_, fun x s hx => ?_, fun s hopen => ⟨?_, fun hdown => ?_⟩, fun t s hopen h => ends_cmdServiceEnd hopen h,
    fun src b s hin hk hoff hasm => execServiceRequest_of_out_of_sequence hin hk hoff hasm,
    fun src b s hin hk hd => execServicePoll_of_done hin hk hd, fun src b s hin hk hseq => execServiceAck_of_seq hin hk hseq⟩
  · exact congrArg Host.Outcome.next (if_pos hp)
  · simp only [Gives, exec, execSnapshotPublish, hx]
  · exact congrArg Host.Outcome.next (closeSession_of_open hopen)
  · have hexec : execServiceLinkLost s = .next (closeSession s) := if_neg (by simp [hdown])
    exact hexec.trans (congrArg Host.Outcome.next (closeSession_of_open hopen))

end Sys2Proof
end

section
/-! PROOF. The start of the device, the faults that hold it in reset, and the warm reset (R38 to R57, R122, R123, R515). -/

namespace Sys2Proof.Machine

/-! ### What the parts of a start leave -/

theorem setFlashBank_flash_only (n : Nat) (b : FlashBank) (s : State) :
    ∃ f, setFlashBank n b s = { s with flash := f } := by
  unfold setFlashBank
  split
  · exact ⟨_, rfl⟩
  · exact ⟨_, rfl⟩

/-- A choice of a bank writes the boot's own account of it and the headers in flash, and nothing else. -/
def BankChosen (s t : State) : Prop :=
  ∃ bank trial found flash,
    t = { s with boot := { s.boot with bank := bank, trial := trial, found := found }, flash := flash }

theorem bankChosen_bootBank (n : Option Nat) (trial : Bool) (s : State) : BankChosen s (bootBank n trial s) :=
  ⟨_, _, _, _, rfl⟩

theorem BankChosen.of_bankHeader {n : Nat} {g : FlashBank → FlashBank} {s t : State} (h : BankChosen (bankHeader n g s) t) :
    BankChosen s t := by
  obtain ⟨f, hf⟩ := setFlashBank_flash_only n { g (flashBank n s) with seq := (g (flashBank n s)).seq + 1 } s
  obtain ⟨_, _, _, flash, rfl⟩ := h
  simp only [bankHeader, hf]
  exact ⟨_, _, _, flash, rfl⟩

theorem bankChosen_settledBank (s : State) : BankChosen s (settledBank s) := by
  unfold settledBank
  split
  · exact bankChosen_bootBank _ _ s
  · exact bankChosen_bootBank _ _ s

theorem bankChosen_bankSelect (s : State) : BankChosen s (bankSelect s) := by
  unfold bankSelect
  split
  · split
    · exact .of_bankHeader (bankChosen_bootBank _ _ _)
    · exact .of_bankHeader (bankChosen_settledBank _)
  · exact bankChosen_settledBank s

/-- The ROM starts: STAGE 2, and with a flash strap a bank is chosen (R122, R497). -/
theorem bankChosen_romStart (s : State) :
    BankChosen { s with power := { s.power with phase := .rom }, boot := { s.boot with stage := 2 } } (romStart s) := by
  unfold romStart
  dsimp only
  split
  · exact bankChosen_bankSelect _
  · exact ⟨_, _, _, _, rfl⟩

section
variable {s t : State} (h : BankChosen s t)
include h

theorem BankChosen.power : t.power = s.power := by
  obtain ⟨_, _, _, _, rfl⟩ := h
  rfl

theorem BankChosen.test : t.test = s.test := by
  obtain ⟨_, _, _, _, rfl⟩ := h
  rfl

theorem BankChosen.stage : t.boot.stage = s.boot.stage := by
  obtain ⟨_, _, _, _, rfl⟩ := h
  rfl

theorem BankChosen.phase : t.power.phase = s.power.phase := congrArg Power.phase h.power

end

/-- With no unit found bad, applying what BIST found can only move the trace ring out of a retired bank. -/
theorem bistApply_of_no_fails {s : State} (h : s.test.bist.fails = []) :
    bistApply s = if (bankOf 15 s).retired then relocateTrace s else s := by
  simp only [bistApply, h]
  rfl

theorem relocateTrace_test_only (s : State) : ∃ t : Test, t.bist = s.test.bist ∧ relocateTrace s = { s with test := t } := by
  unfold relocateTrace
  split
  · exact ⟨(relocateTrace s).test, by simp [*, relocateTrace, setBank], by simp [*, relocateTrace, setBank]⟩
  · exact ⟨(relocateTrace s).test, by simp [*, relocateTrace], by simp [*, relocateTrace]⟩

theorem bistApply_test_only {s : State} (h : s.test.bist.fails = []) :
    ∃ t : Test, t.bist = s.test.bist ∧ bistApply s = { s with test := t } := by
  rw [bistApply_of_no_fails h]
  split
  · exact relocateTrace_test_only s
  · exact ⟨_, rfl, rfl⟩

theorem bootBegin_count (s : State) : (bootBegin s).boot.count = min 255 (s.boot.count + 1) := by
  unfold bootBegin
  dsimp only
  split <;> rfl

@[simp] theorem bootBegin_power (s : State) : (bootBegin s).power = s.power := by
  unfold bootBegin
  dsimp only
  split <;> rfl

@[simp] theorem txCheck_boot (p : Nat) (s : State) : (txCheck p s).boot = s.boot := by
  unfold txCheck
  dsimp only
  repeat' split
  all_goals simp

@[simp] theorem unloadSlots_boot (q : Nat → Bool) (s : State) : (unloadSlots q s).boot = s.boot := by
  refine forEach_boot _ _ _ fun k s => ?_
  split <;> simp

@[simp] theorem writeSlot_boot (n : Nat) (key : Bytes) (attr : Nat) (s : State) : (writeSlot n key attr s).boot = s.boot := by
  simp [writeSlot]

@[simp] theorem deriveOwn_boot (s : State) : (deriveOwn s).boot = s.boot := by
  unfold deriveOwn
  split
  · exact forEach_boot _ _ _ fun _ _ => writeSlot_boot _ _ _ _
  · rfl

@[simp] theorem restorePersist_boot (s : State) : (restorePersist s).boot = s.boot := by
  unfold restorePersist
  split
  · rfl
  · refine forEach_boot _ _ _ fun e s => ?_
    split
    · simp
    · rfl

/-- What Diesh restores as it starts leaves the account of the boot (R358, R396, R409). -/
theorem dieshRestored_boot (s : State) :
    (bootBanks (bootSettings (restoreFv (restorePersist (deriveOwn s))))).boot = s.boot := by
  have h (u : State) : (bootBanks (bootSettings (restoreFv u))).boot = u.boot := by
    unfold bootBanks
    split <;> rfl
  simp [h]

/-- Diesh starts without a bank and with the empty configuration. -/
theorem dieshBoot_of_empty {s : State} (he : s.boot.emptyCfg = true) (hf : s.boot.found = false) :
    dieshBoot s = bootDone 0 (bootSets {} (bootBanks (bootSettings (restoreFv (restorePersist (deriveOwn s)))))) := by
  have hdone (u : State) : (bootDone 0 u).boot.found = u.boot.found := by
    unfold bootDone
    dsimp only
    repeat' split
    all_goals simp
  have hboot := dieshRestored_boot s
  simp only [dieshBoot]
  generalize bootBanks (bootSettings (restoreFv (restorePersist (deriveOwn s)))) = u at hboot ⊢
  have hfound : (bootDone 0 (bootSets {} u)).boot.found = false := by rw [hdone]; exact (congrArg Boot.found hboot).trans hf
  simp only [hboot, he, if_true, bootUpdate, hfound]
  rfl

/-- STAGE 6 (R122, R123). -/
theorem bootDone_boot (code : Nat) (s : State) :
    (bootDone code s).boot = { s.boot with stage := 6, failCode := code, fwrev := s.boot.rev } := by
  unfold bootDone
  dsimp only
  repeat' split
  all_goals simp

theorem bootDone_power (code : Nat) (s : State) :
    (bootDone code s).power = { s.power with phase := .done, ready := true, faultN := false } := by
  unfold bootDone
  dsimp only
  repeat' split
  all_goals simp

theorem bootDone_sets (code : Nat) (s : State) : (bootDone code s).sets = s.sets := by
  unfold bootDone
  dsimp only
  repeat' split
  all_goals simp

/-- A start with a flash strap: the image of the chosen bank decides (R122, R494). -/
theorem romLoad_of_bank {s : State} (hstrap : s.power.strap = 0) (hlife : s.otp.life ≠ 3) (hf : s.boot.found = true) :
    romLoad s = if bankVerify s.boot.bank s = 0 then dieshStart (BitVec.ofNat 32 (bankRev s.boot.bank s)) false s
      else bootFailed (bankVerify s.boot.bank s) s := by
  have hstraps : ¬((0 : BitVec 3) = 2 ∨ (0 : BitVec 3) = 3) := by decide
  have hservice : (0 : BitVec 3) ≠ 4 := by decide
  simp only [romLoad, hstrap, hf, if_neg hstraps, if_neg hlife, if_neg hservice]
  rw [if_neg (by decide)]
  cases bankVerify s.boot.bank s with
  | zero => rfl
  | succ n => rfl

/-! ### The bits of BOOT_CAUSE -/

theorem bootCause_getLsbD {b k : Nat} (hb : b < 8) (s : State) :
    (bootCause b s).boot.cause.getLsbD k = (s.boot.cause.getLsbD k || decide (k = b)) := by
  have hone : (BitVec.ofNat 8 (2 ^ b)).getLsbD k = decide (k = b) := by
    rw [BitVec.getLsbD_ofNat, Nat.testBit_two_pow, Bool.eq_iff_iff]
    simp only [Bool.and_eq_true, decide_eq_true_eq]
    omega
  rw [← hone]
  exact BitVec.getLsbD_or

end Sys2Proof.Machine

namespace Sys2Proof

open Machine

theorem ends_porstNRelease {boot : Nat} {s : State} (hb : boot < 8) (hp : s.power.porst = false)
    (hr : s.power.railGood.getLsbD 6 = true) (hm : ¬(boot = 7 ∧ s.otp.life = 0)) :
    Ends (.porstNRelease boot) s (fun t =>
      t.power.porst = true ∧ t.power.hold = .rails ∧ t.power.strap.toNat = boot ∧
      t.boot.cause.getLsbD 0 = (s.boot.cause.getLsbD 0 || boot == 5 || boot == 6) ∧
      t.boot.cause.getLsbD 1 = (s.boot.cause.getLsbD 1 || boot == 7) ∧ t.otp = s.otp ∧ t.ctl = s.ctl) := by
  have hstrap : (BitVec.ofNat 3 boot).toNat = boot := Nat.mod_eq_of_lt hb
  refine ⟨_, by simp only [exec, execPorstNRelease, hp, hr]; exact if_neg hm, ?_⟩
  by_cases h7 : boot = 7
  · subst h7
    simp [bootCause]
  · by_cases h56 : boot = 5 ∨ boot = 6
    · simp [h7, h56, hstrap, bootCause, or_assoc]
    · obtain ⟨h5, h6⟩ := not_or.mp h56
      simp [h7, h5, h6, hstrap, Bool.beq_eq_decide_eq]

theorem ends_powerUpBistComplete {duration noRef : Nat} {s : State} (hp : s.power.phase = .bist)
    (hroot : s.otp.root.isSome = true) :
    Ends (.powerUpBistComplete duration noRef [] [] true) s (fun t =>
      t.power.phase = .rom ∧ t.boot.stage = 2 ∧ t.test.bist.outcome = 0 ∧ t.test.bist.duration = duration ∧
        t.test.bist.run = 0) := by
  let v := bistRecord 0 duration noRef 0 [] { s with alarms := { s.alarms with soft := [] } }
  obtain ⟨u, hu, hb⟩ := bistApply_test_only (s := v) rfl
  have hgen : rootGenerate true (bistApply v) = (true, bistApply v) := if_pos (by rw [hb]; exact hroot)
  have hexec : execPowerUpBistComplete duration noRef [] [] true s = .next (romStart (bistApply v)) := by
    refine (if_neg (by simp [hp])).trans ?_
    change Host.Outcome.next (if (rootGenerate true (bistApply v)).1 then romStart (rootGenerate true (bistApply v)).2
      else bootFailed 4 (rootGenerate true (bistApply v)).2) = _
    rw [hgen]
    rfl
  have hrom := bankChosen_romStart (bistApply v)
  refine ⟨_, hexec, hrom.phase, hrom.stage, ?_⟩
  rw [hrom.test, hb]
  dsimp only
  rw [hu]
  exact ⟨rfl, rfl, rfl⟩

theorem ends_bootImageLoadComplete {s : State} (hp : s.power.phase = .rom) (hstrap : s.power.strap = 0) (hlife : s.otp.life ≠ 3)
    (hf : s.boot.found = true) : Ends .bootImageLoadComplete s (fun t =>
      t.otp = s.otp ∧ (bankVerify s.boot.bank s ≠ 0 → t = bootFailed (bankVerify s.boot.bank s) s) ∧
        (bankVerify s.boot.bank s = 0 → t.power.phase = .dieshInit ∧ t.boot.stage = 5 ∧
          t.boot.rev = BitVec.ofNat 32 (bankRev s.boot.bank s))) := by
  refine ⟨romLoad s, congrArg _ (if_pos hp), otp_of_frozen (romLoad_frozen s), fun hbad => ?_, fun hgood => ?_⟩
  · rw [romLoad_of_bank hstrap hlife hf, if_neg hbad]
  · rw [romLoad_of_bank hstrap hlife hf, if_pos hgood]
    exact ⟨rfl, rfl, rfl⟩

theorem ends_dieshInitComplete {s : State} (hp : s.power.phase = .dieshInit) (he : s.boot.emptyCfg = true)
    (hf : s.boot.found = false) : Ends .dieshInitComplete s (fun t =>
      t.power.phase = .done ∧ t.boot.stage = 6 ∧ t.boot.failCode = 0 ∧ t.boot.fwrev = s.boot.rev ∧ t.power.ready = true ∧
        t.power.faultN = false ∧ t.sets.gen = 1 ∧ t.sets.shadow = .ready) := by
  refine ⟨dieshBoot s, congrArg _ (if_pos hp), ?_⟩
  have hboot := dieshRestored_boot s
  dsimp only
  rw [dieshBoot_of_empty he hf, bootDone_power, bootDone_boot, bootDone_sets]
  exact ⟨rfl, rfl, rfl, congrArg Boot.rev hboot, rfl, rfl, rfl, rfl⟩

/-- Settles O8: each stage of the start, from its own phase. -/
theorem startRunsInOrder : Obligations.StartRunsInOrder := by
  unfold Obligations.StartRunsInOrder
  refine ⟨fun boot s hb hp hr hm => ends_porstNRelease hb hp hr hm, fun s hp => ?_, fun s hp => if_pos hp,
    fun _ _ s hp hroot => ends_powerUpBistComplete hp hroot,
    fun s hp hstrap hlife hf => ends_bootImageLoadComplete hp hstrap hlife hf,
    fun s hp he hf => ends_dieshInitComplete hp he hf⟩
  refine ⟨startAtT2 s, congrArg _ (if_pos hp), ?_, ?_, bootBegin_count _, ?_, ?_⟩
  · simp [startAtT2]
  · simp [startAtT2]
  · simp [startAtT2]
  · exact otp_of_frozen (startAtT2_frozen s)

end Sys2Proof
end

section
/-! PROOF. The faults that hold the device in reset, and the warm reset (R45 to R51, R57, R126). -/

namespace Sys2Proof.Machine

section
variable {s t : State} (h : BankChosen s t)
include h

theorem BankChosen.cause : t.boot.cause = s.boot.cause := by
  obtain ⟨_, _, _, _, rfl⟩ := h
  rfl

theorem BankChosen.count : t.boot.count = s.boot.count := by
  obtain ⟨_, _, _, _, rfl⟩ := h
  rfl

theorem BankChosen.host : t.host = s.host := by
  obtain ⟨_, _, _, _, rfl⟩ := h
  rfl

theorem BankChosen.vat : t.vat = s.vat := by
  obtain ⟨_, _, _, _, rfl⟩ := h
  rfl

theorem BankChosen.ctl : t.ctl = s.ctl := by
  obtain ⟨_, _, _, _, rfl⟩ := h
  rfl

end

/-! ### The alarm register -/

theorem alarmDen_status_self {k loc : Nat} (hk : k < 18) (s : State) :
    (alarmDen k loc s).alarms.status.getLsbD k = true := by
  have hbit : (BitVec.ofNat 18 (2 ^ k)).getLsbD k = true := by
    rw [BitVec.getLsbD_ofNat, Nat.testBit_two_pow_self, decide_eq_true hk]
    rfl
  exact BitVec.getLsbD_or.trans (by rw [hbit, Bool.or_true])

theorem bootCause_self {b : Nat} (hb : b < 8) (s : State) : (bootCause b s).boot.cause.getLsbD b = true := by
  rw [bootCause_getLsbD hb, decide_eq_true rfl, Bool.or_true]

/-! ### A hold in reset -/

section
variable (hold : Hold) (bit kind : Nat) (fault : Bool) (s : State)

theorem holdReset_cause (hb : bit < 8) : (holdReset hold bit kind fault s).boot.cause.getLsbD bit = true :=
  bootCause_self hb (restart hold .off s)

theorem holdReset_alarm (hk : kind < 18) : (holdReset hold bit kind fault s).alarms.status.getLsbD kind = true :=
  alarmDen_status_self hk (bootCause bit (restart hold .off s))

end

/-! ### The warm reset -/

@[simp] theorem countN_ctlMb (p i n : Nat) (s : State) : (countN p i n s).ctl.mb = s.ctl.mb := by
  simp [countN]

@[simp] theorem emit_ctlMb (o : Output) (s : State) : (emit o s).ctl.mb = s.ctl.mb := by
  simp [emit]

@[simp] theorem msixSend_ctlMb (v : Nat) (s : State) : (msixSend v s).ctl.mb = s.ctl.mb := by
  simp [msixSend]

@[simp] theorem evChanged_ctlMb (ev : Nat) (before : Bool) (s : State) : (evChanged ev before s).ctl.mb = s.ctl.mb := by
  unfold evChanged
  repeat' split
  all_goals simp

@[simp] theorem setCause_ctlMb (ev : Nat) (v : BitVec 32) (s : State) : (setCause ev v s).ctl.mb = s.ctl.mb := by
  simp [setCause]

@[simp] theorem raiseMask_ctlMb (ev : Nat) (m : BitVec 32) (s : State) : (raiseMask ev m s).ctl.mb = s.ctl.mb := by
  simp [raiseMask]

@[simp] theorem raise_ctlMb (ev b : Nat) (s : State) : (raise ev b s).ctl.mb = s.ctl.mb := by
  simp [raise]

@[simp] theorem applyAll_boot (s : State) : (applyAll s).boot = s.boot := by
  unfold applyAll
  dsimp only
  repeat' split
  all_goals simp

@[simp] theorem applyAll_power (s : State) : (applyAll s).power = s.power := by
  unfold applyAll
  dsimp only
  repeat' split
  all_goals simp

@[simp] theorem applyAll_host (s : State) : (applyAll s).host = s.host := by
  unfold applyAll
  dsimp only
  repeat' split
  all_goals simp

@[simp] theorem applyAll_vat (s : State) : (applyAll s).vat = s.vat := by
  unfold applyAll
  dsimp only
  repeat' split
  all_goals simp

@[simp] theorem applyAll_ctlMb (s : State) : (applyAll s).ctl.mb = s.ctl.mb := by
  unfold applyAll
  dsimp only
  repeat' split
  all_goals simp

@[simp] theorem bootCause_host (b : Nat) (s : State) : (bootCause b s).host = s.host := by
  simp [bootCause]

@[simp] theorem bootCause_vat (b : Nat) (s : State) : (bootCause b s).vat = s.vat := by
  simp [bootCause]

@[simp] theorem bootCause_ctlMb (b : Nat) (s : State) : (bootCause b s).ctl.mb = s.ctl.mb := by
  simp [bootCause]

@[simp] theorem bootBegin_host (s : State) : (bootBegin s).host = s.host := by
  unfold bootBegin
  dsimp only
  repeat' split
  all_goals simp

@[simp] theorem bootBegin_vat (s : State) : (bootBegin s).vat = s.vat := by
  unfold bootBegin
  dsimp only
  repeat' split
  all_goals simp

@[simp] theorem bootBegin_ctlMb (s : State) : (bootBegin s).ctl.mb = s.ctl.mb := by
  unfold bootBegin
  dsimp only
  repeat' split
  all_goals simp

/-- WARM and, where the crystal is absent, its own bit are all that a warm reset adds to BOOT_CAUSE. -/
theorem bootBegin_warm_cause (s : State) : (bootBegin (bootCause 7 s)).boot.cause.getLsbD 7 = true := by
  have h7 := bootCause_self (b := 7) (by decide) s
  unfold bootBegin
  dsimp only
  split
  · exact h7
  · exact (bootCause_getLsbD (by decide) _).trans (by simp [h7])

end Sys2Proof.Machine

namespace Sys2Proof

open Machine

theorem ends_supplyWindowExpiry {late : Nat} {s : State} (hh : s.power.hold = .rails) (hl : BitVec.ofNat 7 late &&& 0x3F ≠ 0) :
    Ends (.supplyWindowExpiry late) s (fun t =>
      t.power.hold = .supplyLate ∧ t.boot.cause.getLsbD 2 = true ∧ t.boot.rail = BitVec.ofNat 7 late &&& 0x3F ∧
      t.alarms.status.getLsbD 6 = true ∧ t.boot.count = s.boot.count ∧ t.otp = s.otp) := by
  have hexec : execSupplyWindowExpiry late s = _ := (if_neg hl).trans (if_pos hh)
  exact ⟨_, hexec, rfl, bootCause_self (by decide) _, rfl, alarmDen_status_self (by decide) _, rfl, rfl⟩

theorem ends_brownOut {rail : Nat} {s : State} (hr : rail < 6) (hh : s.power.hold = .none) (hon : railOff rail s = false) :
    Ends (.brownOut rail) s (fun t =>
      t.power.hold = .brownOut ∧ t.power.phase = .off ∧ t.power.ready = false ∧ t.boot.cause.getLsbD 3 = true ∧
      t.boot.rail = BitVec.ofNat 7 (2 ^ rail) ∧ t.alarms.status.getLsbD 4 = true ∧ t.boot.count = s.boot.count ∧ t.otp = s.otp ∧
      t.power.strap = s.power.strap) := by
  have hact : ¬(rail = 6 ∨ [Hold.porst, .rails, .supplyLate].contains s.power.hold = true ∨ railOff rail s = true) := by
    have h6 : rail ≠ 6 := by omega
    simp [h6, hh, hon]
  have hexec : execBrownOut rail s = _ := if_neg hact
  exact ⟨_, hexec, rfl, rfl, rfl, holdReset_cause .brownOut 3 4 false s (by decide), rfl,
    holdReset_alarm .brownOut 3 4 false s (by decide), rfl, rfl, rfl⟩

theorem ends_refClockFault {s : State} (hh : s.power.hold = .none) (hawake : s.sleep.asleep = false) :
    Ends .refClockFault s (fun t =>
      t.power.hold = .clockLoss ∧ t.power.refGood = false ∧ t.power.faultN = true ∧ t.boot.cause.getLsbD 4 = true ∧
      t.alarms.status.getLsbD 5 = true ∧ t.boot.count = s.boot.count ∧ t.otp = s.otp ∧ t.power.strap = s.power.strap) := by
  have hact : ¬(s.power.hold ≠ .none ∨ s.sleep.asleep = true) := by simp [hh, hawake]
  have hexec : execRefClockFault s = _ := if_neg hact
  exact ⟨_, hexec, rfl, rfl, Bool.or_true _, holdReset_cause .clockLoss 4 5 true s (by decide),
    holdReset_alarm .clockLoss 4 5 true s (by decide), rfl, rfl, rfl⟩

theorem ends_faultRestart {xtal : Bool} {s : State} (hh : s.power.hold = .brownOut ∨ s.power.hold = .clockLoss) :
    Ends (.faultRestart xtal) s (fun t =>
      t.power.hold = .none ∧ t.power.phase = .pllLock ∧ t.boot.count = min 255 (s.boot.count + 1) ∧ t.power.xtal32 = xtal ∧
      t.otp = s.otp ∧ t.power.strap = s.power.strap) := by
  let u : State := { s with power := { s.power with xtal32 := xtal } }
  have hexec : execFaultRestart xtal s = .next (startAtT2 u) := by
    rcases hh with h | h <;> simp [execFaultRestart, h, u]
  have hpower : (startAtT2 u).power =
      { s.power with xtal32 := xtal, hold := .none, phase := .pllLock, railGood := 0x7F, refGood := true } := bootBegin_power _
  refine ⟨_, hexec, ?_⟩
  dsimp only
  rw [hpower]
  exact ⟨rfl, rfl, bootBegin_count _, rfl, otp_of_frozen (startAtT2_frozen u), rfl⟩

/-- Settles O9: each fault writes its own cause bit and alarm over a restart that keeps the count, the OTP and the straps. -/
theorem supplyAndClockFaultsHoldTheDevice : Obligations.SupplyAndClockFaultsHoldTheDevice := by
  unfold Obligations.SupplyAndClockFaultsHoldTheDevice
  refine ⟨fun s hp hr hlife => ?_, fun late s hh hl => ends_supplyWindowExpiry hh hl, fun rail s hh hon => ?_,
    fun rail s hr hh hon => ends_brownOut hr hh hon, fun s hh hawake => ends_refClockFault hh hawake,
    fun xtal s hh => ends_faultRestart hh⟩
  · simp [exec, execPorstNRelease, hp, hr, hlife]
  · exact if_pos ⟨hh, by simp [hon]⟩

theorem ends_tjThresholdCross_warn {tj : Int} {s : State} (hh : s.power.hold = .none) (h115 : 115 ≤ tj) (h125 : tj < 125)
    (harmed : s.power.warnArmed = true) : Ends (.tjThresholdCross tj) s (fun t =>
      t.power.tj = tj ∧ t.power.warnArmed = false ∧ causeOf 4 t = causeOf 4 s ||| 1 ∧ t.otp = s.otp ∧ t.boot = s.boot) := by
  let u : State := { s with power := { s.power with tj := tj } }
  have hhot : ((115 : Nat) : Int) ≤ u.power.tj := h115
  have hcool : ¬((125 : Nat) : Int) ≤ u.power.tj := by
    simp only [u]
    omega
  have hcrit : ¬(u.power.critArmed = true ∧ 125 ≤ tj) := by omega
  have hexec : execTjThresholdCross tj s = .next { raise 4 0 u with power := { u.power with
      warnArmed := false, critArmed := u.power.critArmed || decide (u.power.tj ≤ ((125 : Nat) : Int) - 5) } } := by
    have hwarn : tjCause 0 115 u.power.warnArmed u = (false, raise 4 0 u) := by
      simp only [tjCause, if_pos hhot]
      exact congrArg (Prod.mk false) (if_pos harmed)
    have hkeep : tjCause 1 125 u.power.critArmed (raise 4 0 u) =
        (u.power.critArmed || decide (u.power.tj ≤ ((125 : Nat) : Int) - 5), raise 4 0 u) := by
      simp only [tjCause, raise_power, if_neg hcool]
    simp only [u] at hwarn hkeep hcrit
    simp only [execTjThresholdCross, if_neg (not_not_intro hh), hwarn, raise_power, hkeep, if_neg hcrit, u]
  exact ⟨_, hexec, rfl, rfl, causeOf_raise u (by decide), raise_otp _ _ _, raise_boot _ _ _⟩

theorem execWarm_eq_warmReset {s : State} (hw : warmActs s = true) : ∀ c ∈ [Instr.warmNAssert, Instr.warmResetStart],
    (c = .warmResetStart → s.power.warmDue = true) → Gives c s (warmReset s) := by
  simp only [List.forall_mem_cons]
  refine ⟨fun _ => ?_, fun hdue => ?_, List.forall_mem_nil _⟩
  · exact congrArg Host.Outcome.next (if_pos hw)
  · exact congrArg Host.Outcome.next (if_pos ⟨hdue trivial, hw⟩)

/-- What stands before the ROM starts: the state after a restart, counted, with WARM, HOST_MAP and what BIST found. -/
def warmRestarted (s : State) : State :=
  let t := bootBegin (bootCause 7 (restart .none .rom s))
  { t with
    host := { t.host with secRid := s.host.secRid, secEn := s.host.secEn }
    test := { t.test with bist := s.test.bist } }

theorem warmReset_eq (s : State) : warmReset s = romStart (raise 6 2 (applyAll (bistApply (warmRestarted s)))) := rfl

theorem warmReset_keeps {s : State} (hfails : s.test.bist.fails = []) :
    let t := warmReset s
    t.boot.cause.getLsbD 7 = true ∧ t.boot.count = min 255 (s.boot.count + 1) ∧ t.boot.stage = 2 ∧ t.power.phase = .rom ∧
      t.host.secRid = s.host.secRid ∧ t.host.secEn = s.host.secEn ∧ t.power.strap = s.power.strap ∧ t.otp = s.otp ∧
      t.vat = State.reset.vat ∧ t.ctl.mb = State.reset.ctl.mb ∧ t.host.rx = [] ∧ t.host.tx = [] := by
  obtain ⟨u, _, hb⟩ := bistApply_test_only (s := warmRestarted s) hfails
  have hrom := bankChosen_romStart (raise 6 2 (applyAll (bistApply (warmRestarted s))))
  rw [← warmReset_eq, hb] at hrom
  have hboot := bootBegin_warm_cause (restart .none .rom s)
  have hcount := bootBegin_count (bootCause 7 (restart .none .rom s))
  have hotp : (warmReset s).otp = s.otp := otp_of_frozen (warmReset_frozen s)
  refine ⟨?_, ?_, hrom.stage, hrom.phase, ?_, ?_, ?_, hotp, ?_, ?_, ?_, ?_⟩
  · simpa [hrom.cause, warmRestarted] using hboot
  · simp only [hrom.count, raise_boot, applyAll_boot, warmRestarted]
    exact hcount
  · simp [hrom.host, warmRestarted]
  · simp [hrom.host, warmRestarted]
  · simp [hrom.power, warmRestarted]
    rfl
  · simp [hrom.vat, warmRestarted]
    rfl
  · simp [hrom.ctl, warmRestarted]
    rfl
  · simp [hrom.host, warmRestarted]
    rfl
  · simp [hrom.host, warmRestarted]
    rfl

/-- Settles O10. -/
theorem warmResetKeepsWhatItMust : Obligations.WarmResetKeepsWhatItMust := by
  unfold Obligations.WarmResetKeepsWhatItMust
  refine ⟨fun s hw hfails c hc hdue => ⟨_, execWarm_eq_warmReset hw c hc hdue, warmReset_keeps hfails⟩, fun tj s hh h115 h125 harmed => ?_, fun tj s hh h140 => ?_⟩
  · exact ends_tjThresholdCross_warn hh h115 h125 harmed
  · have hact : ¬(tj < 140 ∨ s.power.hold = .porst) := by
      rintro (h | h)
      · omega
      · exact hh h
    have hexec : execOvertempReset tj s = _ := if_neg hact
    exact ⟨_, hexec, rfl, rfl, holdReset_cause .overTemp 6 3 true _ (by decide), holdReset_alarm .overTemp 6 3 true _ (by decide),
      rfl, rfl, rfl⟩

end Sys2Proof
end

section
/-! PROOF. The memory operations, and the mailbox registers (R99, R105 to R109). -/

namespace Sys2Proof.Machine

/-! ### Byte memory -/

theorem Tbl.get_filter_key {α : Type} (t : Tbl α) (q : Nat → Bool) (b : Nat) (d : α) :
    Tbl.get (t.filter (fun e => q e.1)) b d = if q b then Tbl.get t b d else d := by
  induction t with
  | nil => simp [Tbl.get]
  | cons e t ih =>
    obtain ⟨k, v⟩ := e
    by_cases hk : k = b
    · subst hk
      by_cases hq : q k <;> simp [hq, Tbl.get, ih]
    · by_cases hq : q k <;> simp [hq, Tbl.get, ih, hk]

/-- A cleared range reads as a byte that nothing has written. -/
theorem Memory.read_clear (m : Memory) (a n b : Nat) :
    (Memory.clear m a n).read b = if a ≤ b ∧ b < a + n then Memory.blank else m.read b := by
  refine (Tbl.get_filter_key m (fun k => decide (k < a) || decide (a + n ≤ k)) b _).trans ?_
  by_cases h : a ≤ b ∧ b < a + n
  · rw [if_pos h, if_neg (by simp; omega)]
  · rw [if_neg h, if_pos (by simp; omega)]
    rfl

theorem Memory.readN_congr {m m' : Memory} {a n : Nat} (h : ∀ i < n, m.read (a + i) = m'.read (a + i)) :
    Memory.readN m a n = Memory.readN m' a n := by
  induction n generalizing a with
  | zero => rfl
  | succ n ih =>
    have hhead := h 0 (Nat.succ_pos n)
    have htail : Memory.readN m (a + 1) n = Memory.readN m' (a + 1) n :=
      ih fun i hi => by simpa [Nat.add_assoc, Nat.add_comm 1 i] using h (i + 1) (Nat.succ_lt_succ hi)
    rw [Memory.readN, Memory.readN, htail]
    exact congrArg (· :: _) hhead

/-- What was written reads back. -/
theorem Memory.readN_writeN {m : Memory} (a : Nat) (d : Bytes) (h : m.wf = true) :
    Memory.readN (Memory.writeN m a d) a d.length = d := by
  induction d generalizing m a with
  | nil => rfl
  | cons x d ih =>
    have hhead := Memory.read_writeN_in a (x :: d) 0 (Nat.succ_pos _) h
    rw [List.length_cons, Memory.readN]
    exact congr (congrArg List.cons hhead) (ih (a + 1) (Memory.write_wf a x h))

end Sys2Proof.Machine

namespace Sys2Proof

open Machine

/-- Settles O6. -/
theorem memoryOperationsKeepForm : Obligations.MemoryOperationsKeepForm := by
  unfold Obligations.MemoryOperationsKeepForm
  exact fun m a d h => ⟨Memory.writeN_wf a d h, Memory.readN_writeN a d h, fun b hb => Memory.read_writeN_out m a b d hb,
    fun n => ⟨Memory.clear_wf a n h, fun b => Memory.read_clear m a n b⟩⟩

end Sys2Proof
end

section
/-! PROOF. The registers of a mailbox: the doorbell, the acknowledgement, the notice ring and the request area (R99, R105 to R108). -/

namespace Sys2Proof.Machine

/-! ### Where a mailbox stands in W0 -/

section
variable {k off : Nat} (hk : k < 3) (hoff : off < 0x2000)
include hk hoff

theorem mbAt_region : mbAt (0x10000 + 0x2000 * k + off) = some k := by
  have hin : 0x10000 ≤ 0x10000 + 0x2000 * k + off ∧ 0x10000 + 0x2000 * k + off < 0x1A000 := by omega
  have hdiv : (0x10000 + 0x2000 * k + off - 0x10000) / 0x2000 = k := by omega
  rw [mbAt, if_pos hin, hdiv]

theorem regWord_region (s : State) : regWord (0x10000 + 0x2000 * k + off) s = mbWord k off s := by
  have hlow : ¬0x10000 + 0x2000 * k + off < 0x10000 := by omega
  have hin : 0x10000 + 0x2000 * k + off < 0x1A000 := by omega
  have hdiv : (0x10000 + 0x2000 * k + off - 0x10000) / 0x2000 = k := by omega
  have hmod : (0x10000 + 0x2000 * k + off - 0x10000) % 0x2000 = off := by omega
  rw [regWord, if_neg hlow, if_pos hin, hdiv, hmod]

/-- The attachment of a mailbox may write its requests and its registers below the notices (R99). -/
theorem mayWriteWord_region (hw : off < 0xF00) (m v : Nat) (s : State) :
    mayWriteWord k (0x10000 + 0x2000 * k + off) m v s = true := by
  have hinit : k ≠ 4 := by omega
  have hmod : (0x10000 + 0x2000 * k + off) % 0x2000 = off := by omega
  simp [mayWriteWord, hinit, mbAt_region hk hoff, hmod, hw]

theorem semBlocked_region (init : Nat) (s : State) : semBlocked init (0x10000 + 0x2000 * k + off) s = false := by
  have habove : ¬0x10000 + 0x2000 * k + off < 0x1000 := by omega
  rw [semBlocked, decide_eq_false habove]
  simp

end

theorem mixed_word {v : Nat} (old : Nat) (hv : v < 4294967296) : mixed old 0xFFFFFFFF v = v := by
  rw [mixed, and_wordMask hv, Nat.xor_self, Nat.and_zero, Nat.zero_or]

/-- The attachment of a mailbox writes a word of its registers. -/
theorem writeReg_mailbox {k off v : Nat} (s : State) (hk : k < 3) (hin : 0xE00 ≤ off ∧ off < 0xF00) (h4 : off % 4 = 0)
    (hreg : (mbWord k off s).isSome = true) (hv : v < 4294967296) :
    writeReg k (0x10000 + 0x2000 * k + off) (b4 v) s = mbRegWrite k off v v s := by
  have hoff : off < 0x2000 := by omega
  have ha : (0x10000 + 0x2000 * k + off) % 4 = 0 := by omega
  have hres : touchesReserved (0x10000 + 0x2000 * k + off) 4 s = false := by
    rw [touchesReserved_word ha, regWord_region hk hoff, ← Option.not_isSome, hreg]
    rfl
  have hjudge : judgeWrite k (0x10000 + 0x2000 * k + off) (b4 v) s = 0 := by
    simp [judgeWrite, sizeOk_word ha, hres, writeWords_b4 _ hv, mayWriteWord_region hk hoff hin.2]
  have hbelow : ¬0x10000 + 0x2000 * k + off < 0x10000 := by omega
  have htop : 0x10000 + 0x2000 * k + off < 0x1A000 := by omega
  have hdiv : (0x10000 + 0x2000 * k + off - 0x10000) / 0x2000 = k := by omega
  have hmod : (0x10000 + 0x2000 * k + off - 0x10000) % 0x2000 = off := by omega
  have hregs : ¬(0x10000 + 0x2000 * k + off) % 0x2000 < 0xE00 := by omega
  have hput : putBytes k (0x10000 + 0x2000 * k + off) (b4 v) s = wordWrite k (0x10000 + 0x2000 * k + off) 0xFFFFFFFF v s := by
    simp only [putBytes, mbAt_region hk hoff, if_neg hregs, writeWords_b4 _ hv]
    rfl
  rw [writeReg, hjudge, semBlocked_region hk hoff, hput]
  simp only [wordWrite, if_neg hbelow, if_pos htop, hdiv, hmod, mixed_word _ hv, and_wordMask hv]
  rfl

theorem sizeOk_cases {a n : Nat} (h : sizeOk a n = true) : a % n = 0 ∧ n ∈ [1, 2, 4, 8, 16, 32, 64] := by
  simpa [sizeOk, and_comm] using h

/-- The words of an aligned access to the request area stand in it. -/
theorem wordsAt_request {k off n : Nat} (hoff : off < 0xE00) (hs : sizeOk off n = true) :
    ∀ a ∈ wordsAt (0x10000 + 0x2000 * k + off) n, ∃ o < 0xE00, a = 0x10000 + 0x2000 * k + o := by
  obtain ⟨hal, hn⟩ := sizeOk_cases hs
  intro a ha
  obtain ⟨i, hi, rfl⟩ := List.mem_map.mp ha
  have hi := List.mem_range.mp hi
  refine ⟨off / 4 * 4 + 4 * i, ?_, by omega⟩
  simp only [List.mem_cons, List.not_mem_nil, or_false] at hn
  rcases hn with rfl | rfl | rfl | rfl | rfl | rfl | rfl <;> omega

theorem writeWords_request {k off : Nat} {d : Bytes} (hoff : off < 0xE00) (hs : sizeOk off d.length = true) :
    ∀ w ∈ writeWords (0x10000 + 0x2000 * k + off) d, ∃ o < 0xE00, w.1 = 0x10000 + 0x2000 * k + o := by
  obtain ⟨hal, hn⟩ := sizeOk_cases hs
  intro w hw
  unfold writeWords at hw
  split at hw
  · rw [List.mem_singleton.mp hw]
    exact ⟨off / 4 * 4, by omega, by simp only; omega⟩
  · obtain ⟨i, hi, rfl⟩ := List.mem_map.mp hw
    have hi := List.mem_range.mp hi
    refine ⟨off + 4 * i, ?_, by simp only; omega⟩
    simp only [List.mem_cons, List.not_mem_nil, or_false] at hn
    rcases hn with h | h | h | h | h | h | h <;> rw [h] at hal hi <;> omega

/-- A permitted write of the request area. -/
theorem writeReg_request {k off : Nat} {d : Bytes} (s : State) (hk : k < 3) (hoff : off < 0xE00)
    (hs : sizeOk off d.length = true) : writeReg k (0x10000 + 0x2000 * k + off) d s = mbWrite k off d s := by
  have hsize : sizeOk (0x10000 + 0x2000 * k + off) d.length = true := by
    obtain ⟨hal, hn⟩ := sizeOk_cases hs
    simp only [sizeOk, Bool.and_eq_true, beq_iff_eq, List.contains_iff_mem]
    refine ⟨hn, ?_⟩
    simp only [List.mem_cons, List.not_mem_nil, or_false] at hn
    rcases hn with h | h | h | h | h | h | h <;> rw [h] at hal ⊢ <;> omega
  have hres : touchesReserved (0x10000 + 0x2000 * k + off) d.length s = false := by
    refine List.any_eq_false.mpr fun a ha => ?_
    obtain ⟨o, ho, rfl⟩ := wordsAt_request hoff hs a ha
    rw [regWord_region hk (by omega), mbWord, if_pos ho]
    simp
  have hmay : (writeWords (0x10000 + 0x2000 * k + off) d).all (fun w => mayWriteWord k w.1 w.2.1 w.2.2 s) = true := by
    refine List.all_eq_true.mpr fun w hw => ?_
    obtain ⟨o, ho, hw1⟩ := writeWords_request (k := k) hoff hs w hw
    rw [hw1]
    exact mayWriteWord_region hk (by omega) (by omega) _ _ s
  have hjudge : judgeWrite k (0x10000 + 0x2000 * k + off) d s = 0 := by
    simp [judgeWrite, hsize, hres, hmay]
  have hmod : (0x10000 + 0x2000 * k + off) % 0x2000 = off := by omega
  rw [writeReg, hjudge, semBlocked_region hk (by omega)]
  simp [putBytes, mbAt_region hk (show off < 0x2000 by omega), hmod, hoff]

/-! ### The doorbell -/

theorem confirmAny_of_none {s : State} (h : s.sleep.unconfirmed = none) : confirmAny s = s := by
  simp [confirmAny, confirmIf, h]

theorem mbDoorbell_refused {k : Nat} {s : State} (hwake : s.sleep.unconfirmed = none)
    (hno : ¬((mbOf k s).state = .empty ∧ mbServed k s = true)) :
    mbDoorbell k s = setMb k { mbOf k s with refused := satAdd max32 (mbOf k s).refused 1 } s := by
  have hrefused : (mbOf k s).state ≠ .empty ∨ (!mbServed k s) = true := by
    rcases Decidable.not_and_iff_not_or_not.mp hno with h | h
    · exact .inl h
    · exact .inr (by simp [h])
  rw [mbDoorbell, confirmAny_of_none hwake]
  exact if_pos hrefused

/-- A doorbell that is taken: the mailbox is BUSY with the request and waits behind the others (R105, R109). -/
def rung (k : Nat) (s : State) : State :=
  let r := requestIn k (mbOf k s)
  let u := setMb k { mbOf k s with state := .busy, tag := r.tag, cur := some r } s
  { u with ctl := { u.ctl with order := u.ctl.order ++ [k] } }

theorem mbDoorbell_taken {k : Nat} {s : State} (hwake : s.sleep.unconfirmed = none) (hempty : (mbOf k s).state = .empty)
    (hserved : mbServed k s = true) (hentry : s.sleep.entry = .none) (hup : dieshUp s = true)
    (hknown : knownCmd (requestIn k (mbOf k s)).cmd = true) (hboot : (requestIn k (mbOf k s)).cmd ≠ 0x0007) :
    mbDoorbell k s = rung k s := by
  have htaken : ¬((mbOf k s).state ≠ .empty ∨ (!mbServed k s) = true) := by simp [hempty, hserved]
  have hawake : ¬((rung k s).sleep.entry = .drain ∧ now (rung k s) < (rung k s).sleep.entryAt + 10000) := by
    have hsame : (rung k s).sleep.entry = s.sleep.entry := rfl
    simp [hsame, hentry]
  have hdiesh : dieshUp (rung k s) = true := hup
  have hcode : (knownCmd (requestIn k (mbOf k s)).cmd && (requestIn k (mbOf k s)).cmd != 0x0007) = true := by
    simp [hknown, hboot]
  rw [mbDoorbell, confirmAny_of_none hwake]
  refine (if_neg htaken).trans ?_
  change (let u := if (rung k s).sleep.entry = .drain ∧ now (rung k s) < (rung k s).sleep.entryAt + 10000 then _ else rung k s
    if (if dieshUp u then _ else _) = true then u else _) = rung k s
  rw [if_neg hawake]
  dsimp only
  rw [if_pos hdiesh, if_pos hcode]

end Sys2Proof.Machine

namespace Sys2Proof

open Machine

section
variable {k : Nat} {s : State} (hk : k < 3)
include hk

theorem gives_mbDoorbellWrite : Gives (.mbDoorbellWrite k k) s (mbDoorbell k s) := by
  have haddr : 0x10E00 + 0x2000 * k = 0x10000 + 0x2000 * k + 0xE00 := by omega
  simp only [Gives, exec, execMbDoorbellWrite, haddr]
  rw [writeReg_mailbox s hk (by decide) rfl rfl (by decide)]
  rfl

theorem gives_mbRspAckWrite : Gives (.mbRspAckWrite k k) s (mbAck k s) := by
  have haddr : 0x10E04 + 0x2000 * k = 0x10000 + 0x2000 * k + 0xE04 := by omega
  simp only [Gives, exec, execMbRspAckWrite, haddr]
  rw [writeReg_mailbox s hk (by decide) rfl rfl (by decide)]
  rfl

theorem gives_noticeRdWrite {v : Nat} (hv : v < 4294967296) :
    Gives (.noticeRdWrite k k v) s (setMb k { mbOf k s with noticeRd := v / 256 % 16 } s) := by
  have haddr : 0x10E08 + 0x2000 * k = 0x10000 + 0x2000 * k + 0xE08 := by omega
  simp only [Gives, exec, execNoticeRdWrite, haddr]
  rw [writeReg_mailbox s hk (by decide) rfl rfl hv]
  rfl

end

/-- Settles O11. -/
theorem mailboxRegistersDoWhatTheyMust : Obligations.MailboxRegistersDoWhatTheyMust := by
  unfold Obligations.MailboxRegistersDoWhatTheyMust
  intro k s hk hwake hlock
  refine ⟨fun hno => ?_, fun hempty hserved hentry hup hknown hboot => ?_, fun hdone => ?_, fun hnot => ?_,
    fun v hv => gives_noticeRdWrite hk hv, fun off d hoff hs => ?_⟩
  · exact (gives_mbDoorbellWrite hk).trans (congrArg _ (mbDoorbell_refused hwake hno))
  · exact (gives_mbDoorbellWrite hk).trans (congrArg _ (mbDoorbell_taken hwake hempty hserved hentry hup hknown hboot))
  · have := gives_mbRspAckWrite (s := s) hk
    rwa [mbAck, if_pos hdone] at this
  · have := gives_mbRspAckWrite (s := s) hk
    rwa [mbAck, if_neg hnot] at this
  · have hexec : exec (.mbRequestWrite k k off d) s = .next (mbWrite k off d s) := by
      simp only [exec, execMbRequestWrite, if_pos hoff, writeReg_request s hk hoff hs]
    exact hexec

end Sys2Proof
end

section
/-! PROOF. The device and counter commands, and the configuration sets (R109, R117 to R131). -/

namespace Sys2Proof.Machine

/-! ### What the operations leave of the configuration sets -/

@[simp] theorem takeItems_sets (isDesc : Bool) (n : Nat) (s : State) : (takeItems isDesc n s).2.sets = s.sets := by
  simp [takeItems]

@[simp] theorem freeChanged_sets (s : State) : (freeChanged s).sets = s.sets := by
  unfold freeChanged
  dsimp only
  repeat' split
  all_goals simp

@[simp] theorem putFrame_sets (fid : Nat) (v : VFrame) (s : State) : (putFrame fid v s).sets = s.sets := by
  simp [putFrame]

@[simp] theorem dropFrame_sets (fid : Nat) (s : State) : (dropFrame fid s).sets = s.sets := by
  simp [dropFrame]

@[simp] theorem pfcSend_sets (t p quanta : Nat) (s : State) : (pfcSend t p quanta s).sets = s.sets := by
  simp [pfcSend]

@[simp] theorem pfcCheck_sets (t : Nat) (s : State) : (pfcCheck t s).sets = s.sets := by
  simp [pfcCheck, forEach_sets, apply_ite State.sets]

@[simp] theorem releaseRef_sets (fid : Nat) (s : State) : (releaseRef fid s).sets = s.sets := by
  unfold releaseRef
  repeat' split
  all_goals simp

@[simp] theorem countQueue_sets (q j : Nat) (s : State) : (countQueue q j s).sets = s.sets := by
  simp [countQueue]

@[simp] theorem linkCopy_sets (x : Copy) (s : State) : (linkCopy x s).sets = s.sets := by
  simp [linkCopy]

@[simp] theorem countRefused_sets (x : Copy) (why : Refuse) (some_admitted : Bool) (s : State) :
    (countRefused x why some_admitted s).sets = s.sets := by
  unfold countRefused
  repeat' split
  all_goals simp

@[simp] theorem admitAll_sets (c : Nat) (l : List Copy) (s : State) : (admitAll c l s).2.2.sets = s.sets := by
  induction l generalizing s with
  | nil => rfl
  | cons x l ih =>
    unfold admitAll
    split <;> simp [ih]

@[simp] theorem markMc_sets (fid : Nat) (qs : List Nat) (s : State) : (markMc fid qs s).sets = s.sets := by
  refine forEach_sets _ _ _ fun _ _ => ?_
  simp

@[simp] theorem admitCopies_sets (fid : Nat) (copies : List Copy) (s : State) :
    (admitCopies fid copies s).sets = s.sets := by
  unfold admitCopies
  dsimp only
  repeat' split
  all_goals simp [forEach_sets]

@[simp] theorem removeCopies_sets (q : Nat) (p : Copy → Bool) (s : State) : (removeCopies q p s).2.sets = s.sets := by
  unfold removeCopies
  dsimp only
  repeat' split
  all_goals simp [forEach_sets]

@[simp] theorem bankWrite_sets (n off : Nat) (d : Bytes) (s : State) : (bankWrite n off d s).sets = s.sets := by
  unfold bankWrite
  dsimp only
  repeat' split
  all_goals simp

@[simp] theorem fairWake_sets (before s : State) : (fairWake before s).sets = s.sets := by
  simp [fairWake, forEach_sets, apply_ite State.sets]

@[simp] theorem directedSend_sets (port queue : Nat) (data : Bytes) (launch : Option (Nat × Nat)) (s : State) :
    (directedSend port queue data launch s).sets = s.sets := by
  unfold directedSend
  dsimp only
  repeat' split
  all_goals simp

@[simp] theorem logicalSweep_sets (q : Nat) (s : State) : (logicalSweep q s).sets = s.sets := by
  unfold logicalSweep
  dsimp only
  repeat' split
  all_goals simp

@[simp] theorem membersChanged_sets (before s : State) : (membersChanged before s).sets = s.sets := by
  simp [membersChanged, forEach_sets, apply_ite State.sets]

@[simp] theorem schedSwap_sets (old new : CfgSet) (p : Nat) (s : State) : (schedSwap old new p s).sets = s.sets := by
  unfold schedSwap
  repeat' split
  all_goals simp

@[simp] theorem flowSwap_sets (old new : CfgSet) (s : State) : (flowSwap old new s).sets = s.sets := by
  simp [flowSwap, forEach_sets, apply_ite State.sets]

@[simp] theorem saveRecord_sets (s : State) : (saveRecord s).sets = s.sets := by
  simp [saveRecord]

@[simp] theorem chainSend_sets (port : Nat) (payload : Bytes) (s : State) : (chainSend port payload s).sets = s.sets := by
  simp [chainSend]

@[simp] theorem controlSend_sets (kind pkg : Nat) (body : Bytes) (ports : List Nat) (s : State) :
    (controlSend kind pkg body ports s).sets = s.sets := by
  unfold controlSend
  repeat' split
  all_goals simp [forEach_sets]

@[simp] theorem takeReport_sets (d : Nat) (r : DevReport) (s : State) : (takeReport d r s).sets = s.sets := by
  unfold takeReport
  dsimp only
  repeat' split
  all_goals simp

@[simp] theorem sendStatus_sets (s : State) : (sendStatus s).sets = s.sets := by
  unfold sendStatus
  repeat' split
  all_goals simp

@[simp] theorem updState_sets (n : Nat) (fell : Bool) (s : State) : (updState n fell s).sets = s.sets := by
  unfold updState
  repeat' split
  all_goals simp

@[simp] theorem armCancel_sets (s : State) : (armCancel s).sets = s.sets := by
  simp [armCancel]

@[simp] theorem reserveCheck_sets (i : Nat) (s : State) : (reserveCheck i s).sets = s.sets := by
  unfold reserveCheck
  dsimp only
  repeat' split
  all_goals simp

@[simp] theorem setEnSpi_sets (i v : Nat) (s : State) : (setEnSpi i v s).sets = s.sets := by
  simp [setEnSpi]

@[simp] theorem counterClear_sets (p i : Nat) (s : State) : (counterClear p i s).sets = s.sets := by
  unfold counterClear
  repeat' split
  all_goals simp

@[simp] theorem latchSnapshot_sets (s : State) : (latchSnapshot s).sets = s.sets := by
  simp [latchSnapshot]

/-- What CMD_COUNTER_SNAPSHOT does in each of its modes (R131). -/
def snapshotMode (mode ms : Nat) (s : State) : State :=
  match mode with
  | 0 => latchSnapshot s
  | 1 => { latchSnapshot s with ctl := { (latchSnapshot s).ctl with periodMs := ms } }
  | _ => { s with ctl := { s.ctl with periodMs := 0 } }

theorem snapshotMode_sets (mode ms : Nat) (s : State) : (snapshotMode mode ms s).sets = s.sets := by
  unfold snapshotMode
  split <;> rfl

theorem asleep_of_served {mb code tgt : Nat} {p : Bytes} {s : State} (h : Served mb code tgt p s) : s.sleep.asleep = false := by
  obtain ⟨_, hn, _⟩ := h
  simp only [servesNow, Bool.and_eq_true, Bool.not_eq_true'] at hn
  exact hn.1.2

end Sys2Proof.Machine

namespace Sys2Proof

open Machine

theorem answers_cmdCounterSnapshot {mb t : Nat} {p : Bytes} {s : State} (hlen : p.length = 8) (hmode : u8 p 0 < 3)
    (h3 : mb ≠ 3) (hmay : mb = 0 ∨ u8 p 0 = 0) (h : Served mb 0x0F00 t p s) :
    let u := snapshotMode (u8 p 0) (clamp 10 60000 (u32 p 4)) s
    Answers (.cmdCounterSnapshot mb) mb s.sets.gen
      (b4 (u.ctl.snapNext.getD u.ctl.snap).seq ++ b8 (u.ctl.snapNext.getD u.ctl.snap).time ++ b4 u.ctl.periodMs) s u := by
  refine answers_neither cmdCounterSnapshot rfl rfl h (fun _ => ?_) (beq_iff_eq.mpr hlen) (fun _ => ?_) (fun _ => ?_)
    (congrArg Sets.gen (snapshotMode_sets _ _ _))
  · rcases hmay with rfl | h0
    · rfl
    · simp [cmdCounterSnapshot, h3, h0]
  · simp [cmdCounterSnapshot, need, hmode]
  · rfl

/-- Settles O13: each body, over a request that passes the checks of R110. -/
theorem deviceCommandsAnswer : Obligations.DeviceCommandsAnswer := by
  unfold Obligations.DeviceCommandsAnswer
  refine ⟨fun mb t s h => ?_, fun mb t p s hlen h => ?_, fun mb t p s hlen hmb h => ?_, fun mb t s hmb h => ?_,
    fun mb t mode p s hlen hp hmode h3 hmay h => ⟨fun h0 => ?_, fun h1 => ?_, fun h2 => ?_⟩,
    fun mb t n p s hn h1 h256 hlen h => ?_, fun mb t p s hlen hmask hflags hmb h => ?_,
    fun t p s h12 hmax hwait hfinal htotal hfits h => ?_⟩
  · exact answers_neither cmdDeviceInfo rfl rfl h (fun _ => rfl) rfl (fun _ => rfl) (fun _ => rfl) rfl
  · exact answers_neither cmdNoticeSubscribe rfl rfl h (fun _ => rfl) (beq_iff_eq.mpr hlen) (fun _ => rfl) (fun _ => rfl) rfl
  · refine answers_neither cmdEventSpiMask rfl rfl h (fun _ => ?_) (beq_iff_eq.mpr hlen) (fun _ => rfl) (fun _ => rfl) rfl
    rcases hmb with rfl | rfl <;> rfl
  · refine answers_neither cmdDeviceReset rfl rfl h (fun _ => ?_) rfl (fun _ => rfl) (fun _ => ?_) rfl
    · rcases hmb with rfl | rfl <;> rfl
    · exact if_neg (by simp [asleep_of_served h])
  · subst hp
    have hserve := answers_cmdCounterSnapshot hlen hmode h3 hmay h
    rwa [h0] at hserve
  · subst hp
    have hserve := answers_cmdCounterSnapshot hlen hmode h3 hmay h
    rwa [h1] at hserve
  · subst hp
    have hserve := answers_cmdCounterSnapshot hlen hmode h3 hmay h
    rwa [h2] at hserve
  · subst hn
    exact answers_neither cmdCounterRead rfl rfl h (fun _ => rfl) (by simp [cmdCounterRead, h1, h256, hlen]) (fun _ => rfl)
      (fun _ => rfl) rfl
  · refine answers_neither cmdCounterClear rfl rfl h (fun _ => ?_) (beq_iff_eq.mpr hlen) (fun _ => rfl) (fun _ => ?_)
      (congrArg Sets.gen (forEach_sets _ _ _ fun _ _ => counterClear_sets _ _ _))
    · rcases hmb with rfl | rfl <;> rfl
    · have hb0 : bit p 8 0 = false := by simp [bit, hflags]
      have hb1 : bit p 8 1 = false := by simp [bit, hflags]
      simp only [cmdCounterClear, if_neg hmask, hb0, hb1]
      rfl
  · refine answers_neither cmdBootImage rfl rfl h (fun _ => rfl) (by simp [cmdBootImage, h12, hmax]) (fun _ => rfl)
      (fun _ => ?_) (congrArg Sets.gen (bankWrite_sets _ _ _ _))
    have hbad : ¬((2 = 0 ∧ (!(p.drop 12).isEmpty) = true) ∨ 524288 < u32 p 4 ∨ u32 p 4 < u32 p 0 + (p.drop 12).length) := by
      omega
    simp only [cmdBootImage, hwait, ne_eq, not_true_eq_false, if_false, hfinal]
    exact if_neg hbad

end Sys2Proof
end

section
/-! PROOF. The configuration sets: status, copy, load, swap, drain (R117 to R121). -/

namespace Sys2Proof.Machine

/-- A swap turns the sets round and starts the drain; what it does to the units leaves the sets (R118). -/
theorem swapNow_sets (s : State) :
    (swapNow s).sets = { s.sets with
      activeB := !s.sets.activeB, gen := nextGen s.sets.gen, shadow := .draining, dirty := false, swapTb := 0, swapTime := 0 } := by
  unfold swapNow
  extract_lets old new src t0 t1 t2 t3
  have h2 : t2.sets = t1.sets := forEach_sets _ _ _ fun m s => by
    dsimp only
    split <;> rfl
  have h3 : t3.sets = t2.sets := forEach_sets _ _ _ fun i s => reserveCheck_sets i s
  rw [notice_sets, fairWake_sets, membersChanged_sets, h3, h2]
  exact flowSwap_sets _ _ _

section
variable (s : State)

theorem copyToShadow_shadow : shadowSet (copyToShadow s) = activeSet s := by
  simp only [copyToShadow, withShadow, shadowSet, activeSet]
  split
  · simp [*]
  · simp [*]

theorem copyToShadow_active : activeSet (copyToShadow s) = activeSet s := by
  simp only [copyToShadow, withShadow, activeSet]
  split
  · simp [*]
  · simp [*]

theorem copyToShadow_gen : (copyToShadow s).sets.gen = s.sets.gen := by
  simp only [copyToShadow, withShadow]
  split <;> rfl

end

end Sys2Proof.Machine

namespace Sys2Proof

open Machine

theorem ends_setDrainTimeout {s : State} (h : s.sets.shadow = .draining) :
    Ends .setDrainTimeout s (fun t => t.sets.shadow = .copying) := by
  simp only [Ends, exec, execSetDrainTimeout, h, ne_eq, not_true_eq_false, if_false]
  refine ⟨_, rfl, ?_⟩
  rw [notice_sets]

/-- With no update falling back or loading, the copy makes the shadow READY and nothing more (R118, R121). -/
theorem execShadowCopyComplete_of_no_update {s : State} (h : s.sets.shadow = .copying) (hfall : s.upd.fallDue = false)
    (hstate : s.upd.state ≠ 3) :
    execShadowCopyComplete s = .next (notice 0x0103 locDev 0
      { copyToShadow s with sets := { (copyToShadow s).sets with shadow := .ready } }) := by
  have hupd : (copyToShadow s).upd = s.upd := withShadow_upd _ _
  have hkeep (t : Sets) : (notice 0x0103 locDev 0 { copyToShadow s with sets := t }).upd = s.upd := (notice_upd _ _ _ _).trans hupd
  simp only [execShadowCopyComplete, if_pos h]
  rw [if_neg (by rw [hkeep, hfall]; decide), if_neg (by rw [hkeep]; exact fun hs => hstate hs.1)]

theorem ends_shadowCopyComplete {s : State} (h : s.sets.shadow = .copying) (hfall : s.upd.fallDue = false)
    (hstate : s.upd.state ≠ 3) : Ends .shadowCopyComplete s (fun t =>
      t.sets.shadow = .ready ∧ t.sets.dirty = false ∧ shadowSet t = activeSet s ∧ activeSet t = activeSet s ∧
        t.sets.gen = s.sets.gen) := by
  refine ⟨_, execShadowCopyComplete_of_no_update h hfall hstate, ?_⟩
  have hshadow := copyToShadow_shadow s
  have hactive := copyToShadow_active s
  simp only [shadowSet, activeSet] at hshadow hactive
  simp only [shadowSet, activeSet, notice_sets]
  exact ⟨trivial, rfl, hshadow, hactive, copyToShadow_gen s⟩

section
variable {p : Bytes} {s : State} (hlen : p.length = 16) (hf : ShadowFree 0 s) (h : Served 0 0x0102 1 p s)
  (hgood : inconsistent (shadowSet s) = none)
include hlen hf h hgood

theorem answers_cmdSetSwap_now (hnow : bit p 0 0 = false) :
    let ms := if u32 p 12 = 0 then s.sets.drainMs else min 10000 (u32 p 12)
    Answers (.cmdSetSwap 0) 0 (shadowGen s) (swapRsp (shadowGen s) (now s) ms 0 0) s
      (swapNow { s with sets := { s.sets with drainMs := ms } }) := by
  refine answers_shadow cmdSetSwap rfl (.inl rfl) hf h (fun _ => rfl) (beq_iff_eq.mpr hlen) (fun _ => ?_) (fun _ => ?_)
  · simp [cmdSetSwap, need, hnow]
  · simp only [cmdSetSwap, hnow, hgood]
    rfl

theorem answers_cmdSetSwap_armed (htimed : bit p 0 0 = true) (h6 : u8 p 1 < 6) (hen : tbEnabled (u8 p 1) s = true)
    (hahead : tbNow (u8 p 1) s + 100000 ≤ u64 p 4) :
    let ms := if u32 p 12 = 0 then s.sets.drainMs else min 10000 (u32 p 12)
    Answers (.cmdSetSwap 0) 0 (shadowGen s) (swapRsp (shadowGen s) (u64 p 4) ms 0 0) s
      { s with sets := { s.sets with drainMs := ms, shadow := .armed, swapTb := u8 p 1, swapTime := u64 p 4 } } := by
  have hok : ¬((!tbEnabled (u8 p 1) s) = true ∨ u64 p 4 < tbNow (u8 p 1) s + 100000) := by
    rw [hen]
    simp [hahead]
  refine answers_shadow cmdSetSwap rfl (.inl rfl) hf h (fun _ => rfl) (beq_iff_eq.mpr hlen) (fun _ => ?_) (fun _ => ?_)
  · simp [cmdSetSwap, need, h6]
  · simp only [cmdSetSwap, htimed, hgood, true_and, if_neg hok, if_true]
    rfl

end

theorem cmdSetLoad_answers {p : Bytes} {s : State} (hlen : p.length = 12) (himage : u8 p 0 = 1) (hf : ShadowFree 0 s)
    (h : Served 0 0x0104 1 p s) :
    match Config.configImage (bankPart (imageBank s) 4 s) with
    | .ok c => Answers (.cmdSetLoad 0) 0 (shadowGen s) (b4 0) s (editShadow (fun _ => c) s)
    | .error e => exec (.cmdSetLoad 0) s = .next (mbDone 0 stConflict (shadowGen s) (b4 e) s) := by
  have hidx (tag : Nat) : cmdSetLoad.idx ⟨0, cmdSetLoad.code, tag, 1, p⟩ s = stOk := by simp [cmdSetLoad, need, himage]
  split
  · rename_i c hc
    refine answers_shadow cmdSetLoad rfl (.inl rfl) hf h (fun _ => rfl) (beq_iff_eq.mpr hlen) hidx (fun _ => ?_)
    simp [cmdSetLoad, himage, hc, ok]
  · rename_i e he
    refine congrArg Host.Outcome.next (runCmd_shadow (c := cmdSetLoad) (.inl rfl) hf h (fun _ => rfl) (beq_iff_eq.mpr hlen) hidx
      fun _ => ?_)
    simp [cmdSetLoad, himage, he]

/-- Settles O14. -/
theorem configurationSetsSwap : Obligations.ConfigurationSetsSwap := by
  unfold Obligations.ConfigurationSetsSwap
  refine ⟨fun mb s h => ?_, fun s hf h => ?_, fun p s hlen himage hf h => cmdSetLoad_answers hlen himage hf h,
    fun p s hlen hf h hgood => ⟨fun hnow => answers_cmdSetSwap_now hlen hf h hgood hnow, fun htimed h6 hen hahead =>
      answers_cmdSetSwap_armed hlen hf h hgood htimed h6 hen hahead⟩,
    fun t s harmed hupd h => ?_, fun s harmed hupd hen ht => ?_, fun s hdrain hold => if_pos ⟨hdrain, hold⟩,
    fun s h => ends_setDrainTimeout h, fun s h hfall hstate => ends_shadowCopyComplete h hfall hstate⟩
  · exact answers_active cmdSetStatus rfl (.inr rfl) h (fun _ => rfl) rfl (fun _ => rfl) (fun _ => rfl)
  · exact answers_shadow cmdSetCopy rfl (.inl rfl) hf h (fun _ => rfl) rfl (fun _ => rfl) (fun _ => rfl)
  · have hno : ¬updSwap s = true := by simp [updSwap, hupd]
    refine answers_neither cmdSetSwapCancel rfl rfl h (fun _ => rfl) rfl (fun _ => rfl) (fun _ => ?_) (by rw [swapCancel, notice_sets])
    exact (if_pos harmed).trans (by rw [if_neg hno]; rfl)
  · have hno : ¬updSwap s = true := by simp [updSwap, hupd]
    have hsets := swapNow_sets s
    refine ⟨swapNow s, if_pos ⟨by simp [hno], harmed, hen, ht⟩, rfl, ?_⟩
    rw [hsets]
    exact ⟨rfl, rfl, rfl⟩

end Sys2Proof
end

section
/-! PROOF. Writes of single registers: what takes effect and what is refused (R61 to R65, R72, R99, R127). -/

namespace Sys2Proof.Machine

/-! ### Refusals -/

theorem writeReg_of_bad_size {init addr : Nat} {d : Bytes} (s : State) (hs : sizeOk addr d.length = false) :
    writeReg init addr d s = sizeErr addr init false s := by
  have hjudge : judgeWrite init addr d s = 2 := by simp [judgeWrite, hs]
  simp [writeReg, hjudge, refusal]

theorem writeReg_word_of_reserved {init a v : Nat} {s : State} (ha : a % 4 = 0) (hreg : regWord a s = none) :
    writeReg init a (b4 v) s = addrErr a init false s := by
  have hres : touchesReserved a 4 s = true := by rw [touchesReserved_word ha, hreg]; rfl
  have hjudge : judgeWrite init a (b4 v) s = 4 := by simp [judgeWrite, sizeOk_word ha, hres]
  simp [writeReg, hjudge, refusal]

theorem writeReg_word_of_denied {init a v : Nat} {s : State} (ha : a % 4 = 0) (hreg : (regWord a s).isSome = true)
    (hmay : ∀ w, mayWriteWord init a 0xFFFFFFFF w s = false) : writeReg init a (b4 v) s = denied a init false s := by
  have hres : touchesReserved a 4 s = false := by
    rw [touchesReserved_word ha, ← Option.not_isSome, hreg]
    rfl
  have hjudge : judgeWrite init a (b4 v) s = 5 := by
    simp [judgeWrite, sizeOk_word ha, hres, writeWords, hmay]
  simp [writeReg, hjudge, refusal]

/-! ### Who may write a word outside the mailboxes, the rings, the semaphores and the ownership words -/

/-- The words that only the primary and Diesh may write (R62). -/
def PrimaryOnly (a : Nat) : Prop := 0x20000 ≤ a ∧ ¬(0x21000 ≤ a ∧ a < 0x21200) ∧ ¬(0x40000 ≤ a ∧ a < 0x44000)

theorem mbAt_of_above {a : Nat} (h : 0x1A000 ≤ a) : mbAt a = none := if_neg (by omega)

theorem mayWriteWord_primaryOnly {init a m v : Nat} {s : State} (h : PrimaryOnly a) (hi : init ≠ 4) :
    mayWriteWord init a m v s = (init == 0) := by
  obtain ⟨hlow, hcause, hring⟩ := h
  have hmb : mbAt a = none := mbAt_of_above (by omega)
  have hr : ringAt a = none := if_neg hring
  simp (disch := omega) only [mayWriteWord, hmb, hr, if_neg]

/-- The primary writes a word that only it may write. -/
theorem writeReg_primary {a v : Nat} {s : State} (ha : a % 4 = 0) (h : PrimaryOnly a) (hreg : (regWord a s).isSome = true)
    (hv : v < 4294967296) : writeReg 0 a (b4 v) s = wordWrite 0 a 0xFFFFFFFF v s := by
  have hlow := h.1
  exact writeReg_word ha (by omega) (mbAt_of_above (by omega)) hreg (by rw [mayWriteWord_primaryOnly h (by decide)]; rfl) hv

/-- Any other initiator is refused there (R62). -/
theorem writeReg_not_primary {init a v : Nat} {s : State} (ha : a % 4 = 0) (h : PrimaryOnly a)
    (hreg : (regWord a s).isSome = true) (h1 : 1 ≤ init) (h4 : init < 4) : writeReg init a (b4 v) s = denied a init false s := by
  refine writeReg_word_of_denied ha hreg fun w => ?_
  rw [mayWriteWord_primaryOnly h (by omega)]
  exact beq_eq_false_iff_ne.mpr (by omega)

/-! ### The registers of the event block -/

theorem regWord_causeEn {n : Nat} (s : State) (hn : n < 128) : regWord (0x20400 + 4 * n) s = some (causeEnOf n s).toNat := by
  simp (disch := omega) only [regWord, eventWord, if_neg, if_pos, Nat.add_sub_cancel_left]
  simp

theorem wordWrite_causeEn {init n v : Nat} (s : State) (hn : n < 128) (hv : v < 4294967296) :
    wordWrite init (0x20400 + 4 * n) 0xFFFFFFFF v s = setCauseEn n (BitVec.ofNat 32 v) s := by
  simp (disch := omega) only [wordWrite, eventWrite, if_neg, if_pos, and_wordMask hv, Nat.add_sub_cancel_left, mixed_word _ hv]
  simp

theorem regWord_msixControl {n : Nat} (s : State) (hn : n < 128) : (regWord (0x2080C + 16 * n) s).isSome = true := by
  simp (disch := omega) only [regWord, eventWord, if_neg, if_pos]
  rfl

theorem wordWrite_msixControl {init n v : Nat} (s : State) (hn : n < 128) (hv : v < 4294967296) :
    wordWrite init (0x2080C + 16 * n) 0xFFFFFFFF v s = msixWrite n 3 v s := by
  have hentry : (0x2080C + 16 * n - 0x20800) / 16 = n := by omega
  have hword : (0x2080C + 16 * n) / 4 % 4 = 3 := by omega
  simp (disch := omega) only [wordWrite, eventWrite, if_neg, if_pos, mixed_word _ hv, hentry, hword]

/-- Clearing Mask sends the message of an event that is pending (R65). -/
theorem msixWrite_unmask (n : Nat) (s : State) :
    let u : State := { s with host := { s.host with msix := Tbl.set s.host.msix n { msixEntry n s with mask := false } {} } }
    msixWrite n 3 0 s = if (msixEntry n s).mask && evPending n s then msixSend n u else u := by
  simp only [msixWrite, Nat.zero_testBit, Bool.not_false, Bool.and_true]
  rfl

/-! ### The capture units and the latch -/

theorem regWord_captureStatus {tb unit : Nat} (s : State) (htb : tb < 6) (hu : unit < 4) :
    (regWord (0x8006C + 0x200 * tb + 16 * unit) s).isSome = true := by
  have hoff : (0x8006C + 0x200 * tb + 16 * unit - 0x80000) % 0x200 = 0x6C + 16 * unit := by omega
  have hword : (0x6C + 16 * unit) % 16 = 12 := by omega
  simp (disch := omega) only [regWord, timeWord, if_neg, if_pos, hoff, tbWord, hword]
  rfl

theorem wordWrite_captureStatus {init tb unit v : Nat} (s : State) (htb : tb < 6) (hu : unit < 4) (hv : v < 4294967296) :
    wordWrite init (0x8006C + 0x200 * tb + 16 * unit) 0xFFFFFFFF v s = capStatusWrite tb unit v s := by
  have hbase : (0x8006C + 0x200 * tb + 16 * unit - 0x80000) / 0x200 = tb := by omega
  have hoff : (0x8006C + 0x200 * tb + 16 * unit - 0x80000) % 0x200 = 0x6C + 16 * unit := by omega
  have hunit : (0x6C + 16 * unit - 0x60) / 16 = unit := by omega
  have hword : (0x6C + 16 * unit) % 16 = 12 := by omega
  simp (disch := omega) only [wordWrite, if_neg, if_pos, hbase, hoff, tbWrite, hunit, hword, and_wordMask hv]

end Sys2Proof.Machine

namespace Sys2Proof

open Machine

/-- Settles O17. -/
theorem registerWritesFollowTheirAccessCodes : Obligations.RegisterWritesFollowTheirAccessCodes := by
  unfold Obligations.RegisterWritesFollowTheirAccessCodes
  refine ⟨fun n v s hn hv => ?_, fun init n v s hn h1 h4 => ?_, fun init addr d s haddr hs => ?_, fun init v s => ?_,
    fun v s hv => ⟨?_, fun init h1 h4 => ?_⟩, fun n s hn => ?_, fun init ev v s hi hev hv => gives_evCauseClear s hi hev hv,
    fun tb unit v s htb hu hv => ?_, fun v s hv => ?_⟩
  · refine (if_pos (by omega)).trans (congrArg _ ?_)
    rw [writeReg_primary (by omega) ⟨by omega, by omega, by omega⟩ (by rw [regWord_causeEn s hn]; rfl) hv,
      wordWrite_causeEn s hn hv]
  · refine (if_pos (by omega)).trans (congrArg _ ?_)
    exact writeReg_not_primary (by omega) ⟨by omega, by omega, by omega⟩ (by rw [regWord_causeEn s hn]; rfl) h1 h4
  · exact (if_pos haddr).trans (congrArg _ (writeReg_of_bad_size s hs))
  · exact congrArg Host.Outcome.next (writeReg_word_of_reserved (a := 0x8) rfl rfl)
  · have hreg : (regWord 0x30040 s).isSome = true := rfl
    refine congrArg Host.Outcome.next ?_
    rw [writeReg_primary rfl ⟨by decide, by decide, by decide⟩ hreg hv]
    simp [wordWrite, bridgeWrite, mixed_word _ hv]
  · exact congrArg Host.Outcome.next (writeReg_not_primary rfl ⟨by decide, by decide, by decide⟩ rfl h1 h4)
  · refine congrArg Host.Outcome.next ?_
    rw [writeReg_primary (by omega) ⟨by omega, by omega, by omega⟩ (regWord_msixControl s hn) (by decide),
      wordWrite_msixControl s hn (by decide)]
    exact msixWrite_unmask n s
  · refine congrArg Host.Outcome.next ?_
    rw [writeReg_primary (by omega) ⟨by omega, by omega, by omega⟩ (regWord_captureStatus s htb hu) hv,
      wordWrite_captureStatus s htb hu hv]
  · refine congrArg Host.Outcome.next ?_
    rw [writeReg_primary rfl ⟨by decide, by decide, by decide⟩ rfl hv]
    simp [wordWrite, and_wordMask hv]

theorem regWord_causeOfGroup {g : Nat} (s : State) (hg : g < 16) : (regWord (0x21000 + 4 * (112 + g)) s).isSome = true := by
  rw [regWord_cause s (by omega)]
  rfl

theorem mayWriteWord_secondary_cause {ev : Nat} (m v : Nat) (s : State) (hev : ev < 128) :
    mayWriteWord 1 (0x21000 + 4 * ev) m v s = decide (112 ≤ ev) := by
  have hmb : mbAt (0x21000 + 4 * ev) = none := mbAt_of_above (by omega)
  have hring : ringAt (0x21000 + 4 * ev) = none := if_neg (by omega)
  simp (disch := omega) only [mayWriteWord, hmb, hring, if_neg, if_pos]
  simp only [Nat.reduceBEq, Bool.false_or, Bool.true_and, decide_eq_decide]
  omega

/-- Settles O18: the write reaches the cause register only from EV112 on, and there it is masked with the bits of the
secondary's own rings. -/
theorem secondaryClearsOnlyItsRingBits : Obligations.SecondaryClearsOnlyItsRingBits := by
  unfold Obligations.SecondaryClearsOnlyItsRingBits
  refine ⟨fun g v s hg hv => ?_, fun ev v s hev hv => congrArg Host.Outcome.next ?_⟩
  · have hmay : mayWriteWord 1 (0x21000 + 4 * (112 + g)) 0xFFFFFFFF v s = true := by
      rw [mayWriteWord_secondary_cause _ _ s (by omega)]
      exact decide_eq_true (by omega)
    have hwrite : writeReg 1 (0x21000 + 4 * (112 + g)) (b4 v) s = causeWrite 1 (112 + g) v s := by
      rw [writeReg_word (by omega) (by omega) (mbAt_of_above (by omega)) (regWord_causeOfGroup s hg) hmay hv,
        wordWrite_cause s (by omega) hv]
    refine (congrArg Host.Outcome.next hwrite).trans (congrArg Host.Outcome.next ?_)
    have hgroup : 112 + g - 112 = g := by omega
    simp only [causeWrite, hgroup, if_true, true_and, ne_eq, ite_not]
  · have hreg : (regWord (0x21000 + 4 * ev) s).isSome = true := by
      rw [regWord_cause s (by omega)]
      rfl
    refine writeReg_word_of_denied (by omega) hreg fun w => ?_
    rw [mayWriteWord_secondary_cause _ _ s (by omega)]
    exact decide_eq_false (by omega)

end Sys2Proof
end

section
/-! PROOF. PCIe requests: fast registers at once, slow ones as delayed reads, refusals counted (R66, R68, R96, R98, R99). -/

namespace Sys2Proof.Machine

@[simp] theorem bridgeCount_sets (i n : Nat) (s : State) : (bridgeCount i n s).sets = s.sets := by
  simp [bridgeCount]

@[simp] theorem bridgeCount_vat (i n : Nat) (s : State) : (bridgeCount i n s).vat = s.vat := by
  simp [bridgeCount]

@[simp] theorem bridgeBit_sets (b : Nat) (s : State) : (bridgeBit b s).sets = s.sets := by
  simp [bridgeBit]

@[simp] theorem bridgeBit_vat (b : Nat) (s : State) : (bridgeBit b s).vat = s.vat := by
  simp [bridgeBit]

@[simp] theorem setErrLast_sets (addr init : Nat) (w2 : Bool) (kind : Nat) (s : State) :
    (setErrLast addr init w2 kind s).sets = s.sets := by
  simp [setErrLast]

@[simp] theorem setErrLast_vat (addr init : Nat) (w2 : Bool) (kind : Nat) (s : State) :
    (setErrLast addr init w2 kind s).vat = s.vat := by
  simp [setErrLast]

@[simp] theorem sizeErr_sets (addr init : Nat) (w2 : Bool) (s : State) : (sizeErr addr init w2 s).sets = s.sets := by
  simp [sizeErr]

@[simp] theorem sizeErr_vat (addr init : Nat) (w2 : Bool) (s : State) : (sizeErr addr init w2 s).vat = s.vat := by
  simp [sizeErr]

/-! ### The pump of the pair outbound bridge -/

/-- A held read of another bridge leaves nothing to send. -/
theorem pumpOne_of_other_bridge {h : HeldRead} {s : State} (hs : s.host.held = [h]) (hb : h.bridge ≠ 1) : pumpOne s = s := by
  simp [pumpOne, hs, findHeld, hb]

theorem pump_of_other_bridge {h : HeldRead} {s : State} (hs : s.host.held = [h]) (hb : h.bridge ≠ 1) : pump s = s := by
  simp [pump, hs, forEach, pumpOne_of_other_bridge hs hb]

theorem pumpOne_of_ready {h : HeldRead} {s : State} (hs : s.host.held = [h]) (hb : h.bridge = 1) (hsent : h.sent = false)
    (hahead : h.ahead = 0) : pumpOne s = pairSend 2 (requestFrame h) (setHeld [{ h with sent := true }] s) := by
  simp [pumpOne, hs, findHeld, hb, hsent, hahead, countIf]

end Sys2Proof.Machine

namespace Sys2Proof

open Machine

section
variable {rid addr size : Nat} {s : State} (hup : pcieUp s = true)
include hup

theorem gives_pcieMemRead_w0 (haddr : addr < 0x400000) (hs : sizeOk addr size = true) :
    Gives (.pcieMemRead rid false addr size) s (w0Read (initOf rid s) addr size s) := by
  have hin : ¬0x400000 ≤ addr := by omega
  simp [Gives, exec, execPcieMemRead, hup, hin, hs]

theorem gives_pcieMemRead_bad_size (haddr : addr < 0x400000) (hs : sizeOk addr size = false) :
    Gives (.pcieMemRead rid false addr size) s (emit .pcieAbort (sizeErr addr (initOf rid s) false s)) := by
  have hin : ¬0x400000 ≤ addr := by omega
  simp [Gives, exec, execPcieMemRead, hup, hin, hs]

/-- A read of PWR_STATUS, in the DEN island, is held by the slow-island crossing. -/
theorem ends_pcieMemRead_den (hheld : s.host.held = []) :
    Ends (.pcieMemRead rid false 0x1000 4) s (fun t => ∃ h, t.host.held = [h] ∧ h.bridge = 3 ∧ h.init = initOf rid s ∧
      h.addr = 0x1000 ∧ h.size = 4 ∧ h.data = none ∧ h.answered = false ∧ t.out = s.out) := by
  have hres : touchesReserved 0x1000 4 s = false := by
    rw [touchesReserved_word rfl]
    rfl
  let h : HeldRead := { bridge := 3, init := initOf rid s, op := 0, addr := 0x1000, size := 4, arg := [], data := none
                        status := 0, answered := false, ahead := writesAhead (initOf rid s) 0x1000 s }
  have hread : w0Read (initOf rid s) 0x1000 4 s = setHeld [h] s := by
    have hslow : slowIsland 0x1000 ≠ 0 := by decide
    have hpump : pump (setHeld [h] s) = setHeld [h] s := pump_of_other_bridge (h := h) rfl (show (3 : Nat) ≠ 1 by decide)
    simp only [w0Read, hres, if_pos (Or.inl hslow), delayedRead, hheld, findHeld, startRead, List.nil_append]
    exact hpump
  exact ⟨_, gives_pcieMemRead_w0 hup (by decide) rfl, h, by rw [hread]; rfl, rfl, rfl, rfl, rfl, rfl, rfl, by rw [hread]; rfl⟩

theorem gives_pcieMemWrite {d : Bytes} (haddr : addr < 0x200000) (hj : judgeWrite (initOf rid s) addr d s = 0)
    (hfast : slowIsland addr = 0) (hsem : semWaits (initOf rid s) addr s = false) :
    Gives (.pcieMemWrite rid false addr d) s (putBytes (initOf rid s) addr d s) := by
  have hs : sizeOk addr d.length = true := by
    cases h : sizeOk addr d.length with
    | true => rfl
    | false => simp [judgeWrite, h] at hj
  have hin : ¬0x400000 ≤ addr := by omega
  have hw0 : ¬0x200000 ≤ addr := by omega
  simp [Gives, exec, execPcieMemWrite, hup, hin, hs, w0Write, hw0, hj, hfast, hsem]

theorem ends_pcieMemWrite_bad_size {d : Bytes} (haddr : addr < 0x400000) (hs : sizeOk addr d.length = false) :
    Ends (.pcieMemWrite rid false addr d) s (fun t => t.host.aer = true ∧ t.sets = s.sets ∧ t.vat = s.vat) := by
  have hin : ¬0x400000 ≤ addr := by omega
  let u := sizeErr addr (initOf rid s) false s
  have hexec : execPcieMemWrite rid false addr d s = .next { u with host := { u.host with aer := true } } := by
    simp only [execPcieMemWrite, hup, hs, if_neg hin]
    rfl
  refine ⟨_, hexec, rfl, ?_, ?_⟩
  · exact sizeErr_sets addr (initOf rid s) false s
  · exact sizeErr_vat addr (initOf rid s) false s

end

/-- Settles O19. -/
theorem pcieRequestsComplete : Obligations.PcieRequestsComplete := by
  unfold Obligations.PcieRequestsComplete
  refine ⟨fun rid addr size s hup haddr hs hres hfast hsem => ?_,
    fun rid s hup hheld _ => ends_pcieMemRead_den hup hheld,
    fun rid addr size s hup haddr hs => gives_pcieMemRead_bad_size hup haddr hs,
    fun rid addr size s hup hpass haddr hs hdown => ?_,
    fun rid addr d s hup haddr hj hfast hsem => gives_pcieMemWrite hup haddr hj hfast hsem,
    fun rid addr d s hup haddr hs => ends_pcieMemWrite_bad_size hup haddr hs,
    fun rid addr size op x y s hup haddr hop hok hsem => ?_, fun rid addr size op x y w2 s hup hbad => ?_,
    fun h s hheld hb hi hd ha hop => ?_, fun h s hheld hb hop hst hahead => ?_⟩
  · have hw0 : ¬0x200000 ≤ addr := by omega
    refine (gives_pcieMemRead_w0 hup (by omega) hs).trans (congrArg _ ?_)
    simp [w0Read, hw0, hres, hfast, hsem]
  · refine (gives_pcieMemRead_w0 hup haddr hs).trans (congrArg _ ?_)
    simp [w0Read, hpass, hdown]
  · have hw0 : ¬0x200000 ≤ addr := by omega
    simp [Gives, exec, execPcieAtomicOp, hup, hw0, hok, hsem, atomicRun]
  · cases w2 with
    | true => simp [Gives, exec, execPcieAtomicOp, hup]
    | false =>
      obtain ⟨haddr, hno⟩ : addr < 0x200000 ∧ atomicOk addr size = false := by simpa using hbad
      have hw0 : ¬0x200000 ≤ addr := by omega
      simp [Gives, exec, execPcieAtomicOp, hup, hw0, hno]
  · have hother : h.bridge ≠ 1 := by omega
    have hp : waitsPcie h.init h.addr h.size h = true := by simp [waitsPcie, hb, hi, hd, ha]
    have hexec : execPcieDelayedReadTimeout h.init h.addr h.size s =
        .next (pump (emit .pcieAbort (setHeld [{ h with answered := true }] s))) := by
      simp [execPcieDelayedReadTimeout, hheld, findHeld, hp, hop, countIf]
    exact hexec.trans (congrArg _ (pump_of_other_bridge (h := { h with answered := true }) rfl hother))
  · have hp : (h.bridge == 1 && decide (16 ≤ h.op) && h.status == 7) = true := by simp [hb, hop, hst]
    simp only [Gives, exec, execAtomicOpRetry, hheld, findHeld, hp]
    refine congrArg Host.Outcome.next ?_
    exact pumpOne_of_ready (h := { h with status := 0, sent := false }) rfl hb rfl hahead

end Sys2Proof
end

section
/-! PROOF. The host rings: control, tail, descriptors, DMA errors, moderation, timestamp records, delivery (R74 to R86, R252). -/

namespace Sys2Proof.Machine

/-! ### What the rings' operations leave -/

@[simp] theorem countN_hostTxNext (p i n : Nat) (s : State) : (countN p i n s).host.txNext = s.host.txNext := by
  simp [countN]

@[simp] theorem countN_hostRxNext (p i n : Nat) (s : State) : (countN p i n s).host.rxNext = s.host.rxNext := by
  simp [countN]

@[simp] theorem countN_hostTsWait (p i n : Nat) (s : State) : (countN p i n s).host.tsWait = s.host.tsWait := by
  simp [countN]

@[simp] theorem count_hostTxNext (p i : Nat) (s : State) : (count p i s).host.txNext = s.host.txNext := by
  simp [count]

@[simp] theorem count_hostRxNext (p i : Nat) (s : State) : (count p i s).host.rxNext = s.host.rxNext := by
  simp [count]

@[simp] theorem count_hostTsWait (p i : Nat) (s : State) : (count p i s).host.tsWait = s.host.tsWait := by
  simp [count]

@[simp] theorem emit_hostTxNext (o : Output) (s : State) : (emit o s).host.txNext = s.host.txNext := by
  simp [emit]

@[simp] theorem emit_hostRxNext (o : Output) (s : State) : (emit o s).host.rxNext = s.host.rxNext := by
  simp [emit]

@[simp] theorem emit_hostTsWait (o : Output) (s : State) : (emit o s).host.tsWait = s.host.tsWait := by
  simp [emit]

@[simp] theorem takeFresh_hostTxNext (s : State) : (takeFresh s).2.host.txNext = s.host.txNext := by
  simp [takeFresh]

@[simp] theorem msixSend_hostTxNext (v : Nat) (s : State) : (msixSend v s).host.txNext = s.host.txNext := by
  simp [msixSend]

@[simp] theorem msixSend_hostRxNext (v : Nat) (s : State) : (msixSend v s).host.rxNext = s.host.rxNext := by
  simp [msixSend]

@[simp] theorem msixSend_hostTsWait (v : Nat) (s : State) : (msixSend v s).host.tsWait = s.host.tsWait := by
  simp [msixSend]

@[simp] theorem evChanged_hostTxNext (ev : Nat) (before : Bool) (s : State) :
    (evChanged ev before s).host.txNext = s.host.txNext := by
  unfold evChanged
  repeat' split
  all_goals simp

@[simp] theorem evChanged_hostRxNext (ev : Nat) (before : Bool) (s : State) :
    (evChanged ev before s).host.rxNext = s.host.rxNext := by
  unfold evChanged
  repeat' split
  all_goals simp

@[simp] theorem evChanged_hostTsWait (ev : Nat) (before : Bool) (s : State) :
    (evChanged ev before s).host.tsWait = s.host.tsWait := by
  unfold evChanged
  repeat' split
  all_goals simp

@[simp] theorem setCause_hostTxNext (ev : Nat) (v : BitVec 32) (s : State) :
    (setCause ev v s).host.txNext = s.host.txNext := by
  simp [setCause]

@[simp] theorem setCause_hostRxNext (ev : Nat) (v : BitVec 32) (s : State) :
    (setCause ev v s).host.rxNext = s.host.rxNext := by
  simp [setCause]

@[simp] theorem setCause_hostTsWait (ev : Nat) (v : BitVec 32) (s : State) :
    (setCause ev v s).host.tsWait = s.host.tsWait := by
  simp [setCause]

@[simp] theorem raiseMask_hostTxNext (ev : Nat) (m : BitVec 32) (s : State) :
    (raiseMask ev m s).host.txNext = s.host.txNext := by
  simp [raiseMask]

@[simp] theorem raiseMask_hostRxNext (ev : Nat) (m : BitVec 32) (s : State) :
    (raiseMask ev m s).host.rxNext = s.host.rxNext := by
  simp [raiseMask]

@[simp] theorem raiseMask_hostTsWait (ev : Nat) (m : BitVec 32) (s : State) :
    (raiseMask ev m s).host.tsWait = s.host.tsWait := by
  simp [raiseMask]

@[simp] theorem raise_hostTxNext (ev b : Nat) (s : State) : (raise ev b s).host.txNext = s.host.txNext := by
  simp [raise]

@[simp] theorem raise_hostRxNext (ev b : Nat) (s : State) : (raise ev b s).host.rxNext = s.host.rxNext := by
  simp [raise]

@[simp] theorem raise_hostTsWait (ev b : Nat) (s : State) : (raise ev b s).host.tsWait = s.host.tsWait := by
  simp [raise]

@[simp] theorem setVatQueue_hostRxNext (q : Nat) (v : VatQueue) (s : State) :
    (setVatQueue q v s).host.rxNext = s.host.rxNext := by
  simp [setVatQueue]

@[simp] theorem setVatQueue_hostTsWait (q : Nat) (v : VatQueue) (s : State) :
    (setVatQueue q v s).host.tsWait = s.host.tsWait := by
  simp [setVatQueue]

@[simp] theorem takeItems_hostTxNext (isDesc : Bool) (n : Nat) (s : State) :
    (takeItems isDesc n s).2.host.txNext = s.host.txNext := by
  simp [takeItems]

@[simp] theorem freeChanged_hostTxNext (s : State) : (freeChanged s).host.txNext = s.host.txNext := by
  unfold freeChanged
  dsimp only
  repeat' split
  all_goals simp

@[simp] theorem putFrame_hostTxNext (fid : Nat) (v : VFrame) (s : State) :
    (putFrame fid v s).host.txNext = s.host.txNext := by
  simp [putFrame]

@[simp] theorem stageFrame_hostTxNext (f : Frame) (ended : Bool) (s : State) :
    (stageFrame f ended s).2.host.txNext = s.host.txNext := by
  unfold stageFrame
  dsimp only
  repeat' split
  all_goals simp

@[simp] theorem commitFrame_hostTxNext (fid : Nat) (s : State) : (commitFrame fid s).host.txNext = s.host.txNext := by
  simp [commitFrame]

@[simp] theorem setRing_hostTxNext (tx : Bool) (n : Nat) (r : Ring) (s : State) :
    (setRing tx n r s).host.txNext = s.host.txNext := by
  unfold setRing
  repeat' split
  all_goals simp

@[simp] theorem setRing_hostRxNext (tx : Bool) (n : Nat) (r : Ring) (s : State) :
    (setRing tx n r s).host.rxNext = s.host.rxNext := by
  unfold setRing
  repeat' split
  all_goals simp

@[simp] theorem setRing_hostTsWait (tx : Bool) (n : Nat) (r : Ring) (s : State) :
    (setRing tx n r s).host.tsWait = s.host.tsWait := by
  unfold setRing
  repeat' split
  all_goals simp

@[simp] theorem setRing_sets (tx : Bool) (n : Nat) (r : Ring) (s : State) : (setRing tx n r s).sets = s.sets := by
  unfold setRing
  repeat' split
  all_goals simp

@[simp] theorem setRing_power (tx : Bool) (n : Nat) (r : Ring) (s : State) : (setRing tx n r s).power = s.power := by
  unfold setRing
  repeat' split
  all_goals simp

@[simp] theorem ringSignal_hostTxNext (tx : Bool) (n : Nat) (s : State) :
    (ringSignal tx n s).host.txNext = s.host.txNext := by
  simp [ringSignal]

@[simp] theorem ringSignal_hostRxNext (tx : Bool) (n : Nat) (s : State) :
    (ringSignal tx n s).host.rxNext = s.host.rxNext := by
  simp [ringSignal]

@[simp] theorem ringSignal_hostTsWait (tx : Bool) (n : Nat) (s : State) :
    (ringSignal tx n s).host.tsWait = s.host.tsWait := by
  simp [ringSignal]

@[simp] theorem ringSignal_sets (tx : Bool) (n : Nat) (s : State) : (ringSignal tx n s).sets = s.sets := by
  simp [ringSignal]

@[simp] theorem ringSignal_power (tx : Bool) (n : Nat) (s : State) : (ringSignal tx n s).power = s.power := by
  simp [ringSignal]

@[simp] theorem ringComplete_hostTxNext (tx : Bool) (n : Nat) (force : Bool) (s : State) :
    (ringComplete tx n force s).host.txNext = s.host.txNext := by
  unfold ringComplete
  dsimp only
  repeat' split
  all_goals simp

@[simp] theorem ringComplete_hostRxNext (tx : Bool) (n : Nat) (force : Bool) (s : State) :
    (ringComplete tx n force s).host.rxNext = s.host.rxNext := by
  unfold ringComplete
  dsimp only
  repeat' split
  all_goals simp

@[simp] theorem ringComplete_hostTsWait (tx : Bool) (n : Nat) (force : Bool) (s : State) :
    (ringComplete tx n force s).host.tsWait = s.host.tsWait := by
  unfold ringComplete
  dsimp only
  repeat' split
  all_goals simp

@[simp] theorem ringComplete_sets (tx : Bool) (n : Nat) (force : Bool) (s : State) :
    (ringComplete tx n force s).sets = s.sets := by
  unfold ringComplete
  dsimp only
  repeat' split
  all_goals simp

@[simp] theorem ringComplete_power (tx : Bool) (n : Nat) (force : Bool) (s : State) :
    (ringComplete tx n force s).power = s.power := by
  unfold ringComplete
  dsimp only
  repeat' split
  all_goals simp

@[simp] theorem ringStatus_hostTxNext (tx : Bool) (n b : Nat) (s : State) :
    (ringStatus tx n b s).host.txNext = s.host.txNext := by
  unfold ringStatus
  dsimp only
  repeat' split
  all_goals simp

@[simp] theorem ringStatus_hostRxNext (tx : Bool) (n b : Nat) (s : State) :
    (ringStatus tx n b s).host.rxNext = s.host.rxNext := by
  unfold ringStatus
  dsimp only
  repeat' split
  all_goals simp

@[simp] theorem ringStatus_hostTsWait (tx : Bool) (n b : Nat) (s : State) :
    (ringStatus tx n b s).host.tsWait = s.host.tsWait := by
  unfold ringStatus
  dsimp only
  repeat' split
  all_goals simp

@[simp] theorem ringStatus_sets (tx : Bool) (n b : Nat) (s : State) : (ringStatus tx n b s).sets = s.sets := by
  unfold ringStatus
  dsimp only
  repeat' split
  all_goals simp

@[simp] theorem ringStatus_power (tx : Bool) (n b : Nat) (s : State) : (ringStatus tx n b s).power = s.power := by
  unfold ringStatus
  dsimp only
  repeat' split
  all_goals simp

@[simp] theorem noBufCheck_hostRxNext (n : Nat) (s : State) : (noBufCheck n s).host.rxNext = s.host.rxNext := by
  unfold noBufCheck
  dsimp only
  repeat' split
  all_goals simp

@[simp] theorem noBufCheck_hostTsWait (n : Nat) (s : State) : (noBufCheck n s).host.tsWait = s.host.tsWait := by
  unfold noBufCheck
  dsimp only
  repeat' split
  all_goals simp

@[simp] theorem noBufCheck_sets (n : Nat) (s : State) : (noBufCheck n s).sets = s.sets := by
  unfold noBufCheck
  dsimp only
  repeat' split
  all_goals simp

@[simp] theorem noBufCheck_power (n : Nat) (s : State) : (noBufCheck n s).power = s.power := by
  unfold noBufCheck
  dsimp only
  repeat' split
  all_goals simp

@[simp] theorem hostCheck_hostRxNext (s : State) : (hostCheck s).host.rxNext = s.host.rxNext := by
  refine forEach_keeps (·.host.rxNext) _ _ _ fun _ _ => ?_
  simp

@[simp] theorem hostCheck_hostTsWait (s : State) : (hostCheck s).host.tsWait = s.host.tsWait := by
  refine forEach_keeps (·.host.tsWait) _ _ _ fun _ _ => ?_
  simp

@[simp] theorem hostCheck_sets (s : State) : (hostCheck s).sets = s.sets := by
  refine forEach_sets _ _ _ fun _ _ => ?_
  simp

@[simp] theorem hostCheck_power (s : State) : (hostCheck s).power = s.power := by
  refine forEach_power _ _ _ fun _ _ => ?_
  simp

@[simp] theorem advanceHead_hostTxNext (tx : Bool) (n : Nat) (s : State) :
    (advanceHead tx n s).host.txNext = s.host.txNext := by
  simp [advanceHead]

@[simp] theorem advanceHead_hostRxNext (tx : Bool) (n : Nat) (s : State) :
    (advanceHead tx n s).host.rxNext = s.host.rxNext := by
  simp [advanceHead]

@[simp] theorem advanceHead_hostTsWait (tx : Bool) (n : Nat) (s : State) :
    (advanceHead tx n s).host.tsWait = s.host.tsWait := by
  simp [advanceHead]

@[simp] theorem advanceHead_sets (tx : Bool) (n : Nat) (s : State) : (advanceHead tx n s).sets = s.sets := by
  simp [advanceHead]

@[simp] theorem advanceHead_power (tx : Bool) (n : Nat) (s : State) : (advanceHead tx n s).power = s.power := by
  simp [advanceHead]

@[simp] theorem freeChanged_host (s : State) : (freeChanged s).host = s.host := by
  unfold freeChanged
  dsimp only
  repeat' split
  all_goals simp

@[simp] theorem putFrame_host (fid : Nat) (v : VFrame) (s : State) : (putFrame fid v s).host = s.host := by
  simp [putFrame]

@[simp] theorem dropFrame_host (fid : Nat) (s : State) : (dropFrame fid s).host = s.host := by
  simp [dropFrame]

@[simp] theorem pfcSend_host (t p quanta : Nat) (s : State) : (pfcSend t p quanta s).host = s.host := by
  simp [pfcSend]

@[simp] theorem pfcCheck_host (t : Nat) (s : State) : (pfcCheck t s).host = s.host := by
  simp [pfcCheck, forEach_host, apply_ite State.host]

@[simp] theorem releaseRef_host (fid : Nat) (s : State) : (releaseRef fid s).host = s.host := by
  unfold releaseRef
  repeat' split
  all_goals simp

@[simp] theorem dropHead_host (q : Nat) (s : State) : (dropHead q s).host = s.host := by
  unfold dropHead dequeue
  cases copiesOf q s with
  | nil => rfl
  | cons x l => simp

/-! ### What has been sent stays sent -/

theorem forEach_sent {α : Type} {w : Output} {l : List α} {g : α → State → State} {s : State} (h : w ∈ s.out)
    (hg : ∀ x u, w ∈ u.out → w ∈ (g x u).out) : w ∈ (forEach l g s).out := by
  unfold forEach
  induction l generalizing s with
  | nil => exact h
  | cons x l ih => exact ih (hg x s h)

section
variable {w : Output} {s : State} (h : w ∈ s.out)
include h

theorem emit_sent (o : Output) : w ∈ (emit o s).out := List.mem_cons_of_mem _ h

theorem evChanged_sent (ev : Nat) (before : Bool) : w ∈ (evChanged ev before s).out := by
  unfold evChanged
  split
  · exact emit_sent h _
  · exact h

theorem raise_sent (ev b : Nat) : w ∈ (raise ev b s).out := by
  unfold raise raiseMask setCause
  exact evChanged_sent (by exact h) _ _

theorem count_sent (p i : Nat) : w ∈ (count p i s).out := by simpa using h

theorem countN_sent (p i n : Nat) : w ∈ (countN p i n s).out := by simpa using h

theorem pfcSend_sent (t p quanta : Nat) : w ∈ (pfcSend t p quanta s).out :=
  raise_sent (count_sent (emit_sent h _) _ _) _ _

theorem pfcCheck_sent (t : Nat) : w ∈ (pfcCheck t s).out := by
  unfold pfcCheck
  split
  · refine forEach_sent h fun p u hu => ?_
    dsimp only
    split
    · exact pfcSend_sent (s := setVatPort _ _ u) hu _ _ _
    · split
      · exact pfcSend_sent (s := setVatPort _ _ u) hu _ _ _
      · exact hu
  · exact h

theorem freeChanged_sent : w ∈ (freeChanged s).out := by
  unfold freeChanged
  extract_lets f vat u
  have hu : w ∈ u.out := by
    simp only [u]
    split <;> exact h
  split
  · exact raise_sent (by exact hu) _ _
  · split <;> exact hu

theorem releaseRef_sent (fid : Nat) : w ∈ (releaseRef fid s).out := by
  unfold releaseRef
  split
  · exact h
  · split
    · exact pfcCheck_sent (by unfold dropFrame; exact freeChanged_sent (by exact h)) _
    · exact h

theorem dropHead_sent (q : Nat) : w ∈ (dropHead q s).out := by
  unfold dropHead dequeue
  cases copiesOf q s with
  | nil => exact h
  | cons x l => exact releaseRef_sent (s := setVatQueue _ _ s) h _

theorem setRing_sent (tx : Bool) (n : Nat) (r : Ring) : w ∈ (setRing tx n r s).out := by
  unfold setRing
  split <;> exact h

theorem advanceHead_sent (tx : Bool) (n : Nat) : w ∈ (advanceHead tx n s).out := setRing_sent h _ _ _

theorem ringStatus_sent (tx : Bool) (n b : Nat) : w ∈ (ringStatus tx n b s).out := by
  unfold ringStatus
  dsimp only
  split
  · exact setRing_sent h _ _ _
  · exact raise_sent (setRing_sent h _ _ _) _ _

theorem ringComplete_sent (tx : Bool) (n : Nat) (force : Bool) : w ∈ (ringComplete tx n force s).out := by
  unfold ringComplete
  dsimp only
  split
  · exact raise_sent (setRing_sent h _ _ _) _ _
  · exact setRing_sent h _ _ _

theorem noBufCheck_sent (n : Nat) : w ∈ (noBufCheck n s).out := by
  unfold noBufCheck
  dsimp only
  split
  · exact h
  · split
    · simpa using h
    · exact ringStatus_sent (setRing_sent (by simpa using h) _ _ _) _ _ _

theorem hostCheck_sent : w ∈ (hostCheck s).out := forEach_sent h fun _ _ hu => noBufCheck_sent hu _

end
/-- A pass over items that each leave the state as it is. -/
theorem forEach_fixed {α : Type} {l : List α} {g : α → State → State} {s : State} (h : ∀ x ∈ l, g x s = s) : forEach l g s = s := by
  unfold forEach
  induction l with
  | nil => rfl
  | cons x l ih =>
    rw [List.foldl_cons, h x (List.mem_cons_self ..)]
    exact ih fun y hy => h y (List.mem_cons_of_mem _ hy)

/-! ### Who may write a ring -/

theorem mayWriteRing_of_denied {init : Nat} {r : Ring} (h : init = 2 ∨ init = 3 ∨ (init = 1 ∧ r.owner1 = false)) :
    mayWriteRing init r = false := by
  rcases h with rfl | rfl | ⟨rfl, h⟩
  · rfl
  · rfl
  · simp [mayWriteRing, h]

/-- What TX_DESCRIPTOR_PROCESS leaves before the write-back of DONE and STATUS. -/
def txTaken (n : Nat) (desc data : Bytes) (s : State) : State :=
  let u : State := { s with host := { s.host with txNext := (n + 1) % 32 } }
  if txStatus desc = 0 then
    let (fid, v) := stageFrame (txFrame n desc data u) true u
    let v := match fid with
      | some fid => commitFrame fid v
      | none => v
    countN 128 (128 + 4 * n + 1) (u16 desc 8) (count 128 (128 + 4 * n) v)
  else ringStatus true n 0 (count 128 (128 + 4 * n + 2) u)

theorem execTxDescriptorProcess_of_next {desc d : Bytes} {n : Nat} {s : State}
    (h : roundRobin s.host.txNext (fun n => (ringOf true n s).posted) = some n) :
    execTxDescriptorProcess desc d s = .next (ringComplete true n (bit desc 11 2) (advanceHead true n
      (emit (.dma ((ringOf true n s).headAddr + 31) (b1 (0x80 + txStatus desc))) (txTaken n desc d s)))) := by
  simp only [execTxDescriptorProcess, h]
  rfl

/-- The write-back of a copy delivered on ring `q` (R81). -/
def rxWb (q : Nat) (x : Copy) (s : State) : Bytes :=
  let r := ringOf false q s
  let data := copyBytes x s
  let f := ((frameOf x.fid s).map (·.frame)).getD {}
  rxWriteback ((f.ts.getD r.tsTb 0) % 4294967296) (data.take r.bufSize).length x.ingress r.tsTb x.reason
    (rxFlags (copyCut x s || decide (r.bufSize < data.length)) f.authFailed f.macsec f.edge x.colour x.mal) x.actionId x.gen

/-- What RX_FRAME_DELIVER leaves once the frame and its write-back are in memory and the copy has left its queue. -/
def rxTaken (buf q : Nat) (x : Copy) (s : State) : State :=
  let out := (copyBytes x s).take (ringOf false q s).bufSize
  countN 128 (4 * q + 1) out.length (count 128 (4 * q) (dropHead (640 + q)
    (emit (.dma ((ringOf false q s).headAddr + 8) (rxWb q x s)) (emit (.dma buf out)
      { s with host := { s.host with rxNext := (q + 1) % 32 } }))))

theorem execRxFrameDeliver_of_next {buf q : Nat} {x : Copy} {s : State}
    (hall : forEach (List.range 32) (fun n s => dropBad (640 + n) (ageQueue (640 + n) s)) s = s)
    (hr : roundRobin s.host.rxNext (fun n => (ringOf false n s).posted && !(copiesOf (640 + n) s).isEmpty && !halted 128 s) = some q)
    (hc : copiesOf (640 + q) s = [x]) :
    execRxFrameDeliver buf s = .next (hostCheck (ringComplete false q false (advanceHead false q
      (if decide ((ringOf false q s).bufSize < (copyBytes x s).length) then count 128 (4 * q + 2) (rxTaken buf q x s) else rxTaken buf q x s)))) := by
  unfold execRxFrameDeliver
  simp only [hall]
  simp only [hr]
  simp only [hc]
  unfold rxTaken rxWb
  with_reducible rfl

theorem txTaken_txNext (n : Nat) (desc data : Bytes) (s : State) : (txTaken n desc data s).host.txNext = (n + 1) % 32 := by
  unfold txTaken
  dsimp only
  split
  · split <;> simp
  · simp

end Sys2Proof.Machine

namespace Sys2Proof

open Machine

theorem ends_tsRecordWrite {n : Nat} {x : TsRecord} {s : State} (hw : s.host.tsWait = [x]) (hx : x.ring = n)
    (hp : (ringOf false n s).posted = true) :
    Ends (.tsRecordWrite n) s (fun t => t.host.tsWait = [] ∧ t.sets = s.sets ∧ t.power = s.power) := by
  refine ⟨_, by simp only [exec, execTsRecordWrite, hw, takeFirst, hx, decide_true, if_true, hp]; rfl, ?_, ?_, ?_⟩
  · simp
  · simp
  · simp

/-- The next frame in round robin is delivered: its bytes are written to the buffer, and the turn moves on. -/
theorem ends_rxFrameDeliver {buf q : Nat} {x : Copy} {s : State} (hc : copiesOf (640 + q) s = [x])
    (hr : roundRobin s.host.rxNext (fun n => (ringOf false n s).posted && !(copiesOf (640 + n) s).isEmpty && !halted 128 s) = some q)
    (hkeep : ∀ n < 32, dropBad (640 + n) (ageQueue (640 + n) s) = s) : Ends (.rxFrameDeliver buf) s (fun t =>
      t.host.rxNext = (q + 1) % 32 ∧ Output.dma buf ((copyBytes x s).take (ringOf false q s).bufSize) ∈ t.out) := by
  have hall : forEach (List.range 32) (fun n s => dropBad (640 + n) (ageQueue (640 + n) s)) s = s :=
    forEach_fixed fun n hn => hkeep n (List.mem_range.mp hn)
  have hexec : exec (.rxFrameDeliver buf) s = _ :=
    execRxFrameDeliver_of_next (buf := buf) (q := q) (x := x) (s := s) hall hr hc
  refine ⟨_, hexec, ?_, ?_⟩
  · simp only [hostCheck_hostRxNext, ringComplete_hostRxNext, advanceHead_hostRxNext]
    split <;> simp [rxTaken]
  · refine hostCheck_sent (ringComplete_sent (advanceHead_sent ?_ _ _) _ _ _)
    have hsent : Output.dma buf ((copyBytes x s).take (ringOf false q s).bufSize) ∈ (rxTaken buf q x s).out :=
      countN_sent (count_sent (dropHead_sent (emit_sent (List.mem_cons_self ..) _) _) _ _) _ _ _
    split
    · exact count_sent hsent _ _
    · exact hsent

/-- Settles O21. -/
theorem hostRingsRun : Obligations.HostRingsRun := by
  unfold Obligations.HostRingsRun
  refine ⟨fun tx n v s hstopped hen => ?_, fun init n v tx s hno => ⟨?_, ?_⟩, fun tx n v s hv => ?_,
    fun desc d n s hnext hst => ?_, fun desc d n s hnext => ?_, fun tx n s hen => if_pos hen,
    fun tx n s hu hm => if_pos ⟨hu, hm⟩, fun n x s hw hx hp => ends_tsRecordWrite hw hx hp, fun n x s hw hx => ?_,
    fun buf q x s hq hc hr hkeep => ends_rxFrameDeliver hc hr hkeep⟩
  · have hctrl : ringCtrl tx n v s = _ := (if_neg (by simp [hstopped])).trans (if_pos hen)
    exact congrArg Host.Outcome.next hctrl
  · exact if_neg (by simp [mayWriteRing_of_denied hno])
  · exact if_neg (by simp [mayWriteRing_of_denied hno])
  · have hmod : v % 65536 = v := Nat.mod_eq_of_lt hv
    have hexec : execRingTailWrite 0 tx n v s = .next (ringTail tx n v s) := if_pos rfl
    refine hexec.trans (congrArg _ ?_)
    simp only [ringTail, hmod]
  · refine (execTxDescriptorProcess_of_next hnext).trans ?_
    have htaken : txTaken n desc d s = ringStatus true n 0 (count 128 (128 + 4 * n + 2)
        { s with host := { s.host with txNext := (n + 1) % 32 } }) := if_neg (by omega)
    rw [htaken, hst]
  · refine ⟨_, execTxDescriptorProcess_of_next hnext, ?_, ?_⟩
    · simp [txTaken_txNext]
    · exact ringComplete_sent (advanceHead_sent (List.mem_cons_self ..) _ _) _ _ _
  · simp [Gives, exec, execTsRecordTimeout, hw, takeFirst, hx]

end Sys2Proof
end

section
/-! PROOF. SPI transactions: the request is judged by its CRC and answers with its STATUS (R87 to R93, R99, R100). -/

namespace Sys2Proof.Machine

/-! ### The transaction itself -/

theorem spiLive_cleared {s : State} (h : s.host.spiLive = none) : { s with host := { s.host with spiLive := none } } = s := by
  rw [← h]

theorem setHeld_of_held {l : List HeldRead} {s : State} (h : s.host.held = l) : setHeld l s = s := by
  rw [← h, setHeld]

theorem pump_of_nothing_held {s : State} (h : s.host.held = []) : pump s = s := by
  simp [pump, h, forEach]

section
variable {frame : Bytes} {crc : Nat} {body : State → State} {s : State} (hruns : timeRuns s = true)
  (hwake : wake { source := 23 } s = s) (hlive : s.host.spiLive = none)
include hruns hwake hlive

theorem spiRequest_of_crc (hcrc : crc8 frame = BitVec.ofNat 8 crc) : spiRequest frame crc body s = .next (body s) := by
  simp [spiRequest, spiLive_cleared hlive, hwake, hruns, hcrc]

theorem spiRequest_of_bad_crc (hcrc : crc8 frame ≠ BitVec.ofNat 8 crc) :
    spiRequest frame crc body s = .next (spiSay 3 [] (spiFrameErr s)) := by
  simp only [spiRequest, spiLive_cleared hlive, hwake, hruns, if_pos hcrc]
  rfl

end

/-! ### Delayed operations -/

/-- The operation that a transaction on this device holds. -/
def spiHeld (op addr size : Nat) (arg : Bytes) (s : State) : HeldRead :=
  { bridge := 0, init := 2, op := op, addr := addr, size := size, arg := arg, data := none, status := 0, answered := false
    ahead := writesAhead 2 addr s }

/-- The first transaction of an operation on this device starts it and answers RETRY (R88, R93). -/
theorem spiDelayed_of_nothing_held {op addr size : Nat} {arg : Bytes} {s : State} (hheld : s.host.held = [])
    (hlock : s.host.lock = none) :
    spiDelayed 0 op addr size arg s = spiSay 1 [] (setHeld [spiHeld op addr size arg s] s) := by
  have hpump : pump (setHeld [spiHeld op addr size arg s] s) = setHeld [spiHeld op addr size arg s] s :=
    pump_of_other_bridge (h := spiHeld op addr size arg s) rfl (show (0 : Nat) ≠ 1 by decide)
  have hfree : ¬(op = 3 ∧ s.host.lock.isSome = true ∧ s.host.lock ≠ some 2) := by simp [hlock]
  have hplace : ¬4 ≤ countIf (fun h : HeldRead => h.init == 2) [] := by decide
  have hlocal : ¬((0 : Nat) = 1 ∧ (!passUp s) = true) := by simp
  simp only [spiDelayed, hheld, findHeld, if_neg hplace, if_neg hlocal, if_neg hfree, startRead, List.nil_append]
  exact congrArg _ hpump

/-- A write that is permitted has a permitted size and offset. -/
theorem spiRefused_of_judgeWrite {init addr : Nat} {d : Bytes} {s : State} (haddr : addr < 0x200000)
    (hj : judgeWrite init addr d s = 0) : spiRefused addr d.length s = 0 := by
  unfold judgeWrite at hj
  have hin : ¬0x400000 ≤ addr := by omega
  cases hs : sizeOk addr d.length with
  | false => simp [hs] at hj
  | true =>
    cases hr : touchesReserved addr d.length s with
    | true => simp [hs, hr] at hj
    | false => simp [spiRefused, hs, hr, hin]

end Sys2Proof.Machine

namespace Sys2Proof

open Machine

section
variable {s : State} (hruns : timeRuns s = true) (hwake : wake { source := 23 } s = s) (hlive : s.host.spiLive = none)
include hruns hwake hlive

theorem gives_spiRead {addr size crc : Nat} (hheld : s.host.held = []) (hlock : s.host.lock = none) (haddr : addr < 0x200000)
    (hok : spiRefused addr size s = 0) (hcrc : crc8 (spiHeader 1 addr size []) = BitVec.ofNat 8 crc) :
    Gives (.spiRead addr size crc) s (spiSay 1 [] (setHeld [spiHeld 1 addr size [] s] s)) := by
  have hlocal : ¬0x200000 ≤ addr := by omega
  simp only [Gives, exec, execSpiRead, spiRequest_of_crc hruns hwake hlive hcrc, hok, if_neg hlocal,
    spiDelayed_of_nothing_held hheld hlock]
  rfl

theorem gives_spiWrite {addr crc : Nat} {d : Bytes} (hposted : s.host.posted = []) (haddr : addr < 0x200000)
    (hj : judgeWrite 2 addr d s = 0) (hcrc : crc8 (spiHeader 2 addr d.length d) = BitVec.ofNat 8 crc) :
    Gives (.spiWrite addr d crc) s (spiSay 0 [] (post 0 2 addr d s)) := by
  have hlocal : ¬0x200000 ≤ addr := by omega
  have hplace : ¬16 ≤ countIf (fun w : PostedWrite => w.init == 2) [] := by decide
  simp only [Gives, exec, execSpiWrite, spiRequest_of_crc hruns hwake hlive hcrc, spiRefused_of_judgeWrite haddr hj,
    if_neg hlocal, hj, hposted, if_neg hplace]
  rfl

theorem gives_spiCancel {crc : Nat} (hheld : s.host.held = []) (hcrc : crc8 (spiHeader 5 0 0 []) = BitVec.ofNat 8 crc) :
    Gives (.spiCancel crc) s (spiSay 0 [] s) := by
  have hnone : releaseHeld (fun h => h.init == 2) s = s := by simpa [releaseHeld, hheld, setHeld] using setHeld_of_held hheld
  simp only [Gives, exec, execSpiCancel, spiRequest_of_crc hruns hwake hlive hcrc, hheld, List.filter_nil, hnone]
  exact congrArg _ (congrArg _ (pump_of_nothing_held hheld))

end

theorem gives_spiReadCollect {s : State} {h : HeldRead} {d r : Bytes} (hlive : s.host.spiLive = none) (hheld : s.host.held = []) (hd : h.data = some d) (hop : h.op = 1)
    (hb : h.bridge = 0) (hpop : popsOf h.addr d.length = []) :
    Gives .spiReadCollect { s with host := { s.host with held := [h], spiLive := some { read := some h, resp := r } } }
      { s with host := { s.host with spiLast := some d } } := by
  have hsame : (h == h) = true := beq_self_eq_true h
  have hread : h.op ≠ 4 := by omega
  have hother : h.bridge ≠ 1 := by omega
  have hpops (u : State) : popAll h.addr d u = u := by simp [popAll, hpop, forEach]
  have hback : { s with host := { s.host with held := [], spiLive := none, spiLast := some d } } =
      { s with host := { s.host with spiLast := some d } } := by rw [← hheld, ← hlive]
  simp only [Gives, exec, execSpiReadCollect, findHeld, hsame, hd, Bool.not_false, Bool.true_or, Bool.and_self, if_true,
    if_neg hread, collected, ne_eq, hother, not_false_eq_true, hpops, setHeld, List.nil_append, hback]
  exact congrArg _ (pump_of_nothing_held hheld)

/-- Settles O22: every transaction is judged by its CRC first, and what it then does follows from its opcode. -/
theorem spiTransactionsAnswer : Obligations.SpiTransactionsAnswer := by
  unfold Obligations.SpiTransactionsAnswer
  intro s hruns hwake hlive hheld hposted hlock _
  refine ⟨fun addr size crc haddr hok hcrc => ?_, fun addr crc d haddr hj hcrc => ?_, fun addr size crc hok hcrc => ?_,
    fun addr crc d hok hcrc => ?_, fun crc hcrc => gives_spiCancel hruns hwake hlive hheld hcrc, fun crc hcrc => ?_,
    fun crc hcrc => ?_, fun addr size crc hcrc => ?_, ?_,
    fun h d r hd hop hb hpop => gives_spiReadCollect hlive hheld hd hop hb hpop⟩
  · exact ⟨_, gives_spiRead hruns hwake hlive hheld hlock haddr hok hcrc, _, rfl, rfl, rfl, rfl, rfl, rfl, rfl, rfl, rfl, rfl⟩
  · refine ⟨_, gives_spiWrite hruns hwake hlive hposted haddr hj hcrc, ?_, rfl, rfl, rfl⟩
    exact congrArg (· ++ [_]) hposted
  · have hexec : exec (.spiLockRead addr size crc) s = .next (spiSay 1 [] (setHeld [spiHeld 3 addr size [] s] s)) := by
      simp only [exec, execSpiLockRead, spiRequest_of_crc hruns hwake hlive hcrc, hok, spiDelayed_of_nothing_held hheld hlock]
    exact ⟨_, hexec, _, rfl, rfl, rfl, rfl, rfl, hlock, rfl⟩
  · have hexec : exec (.spiUnlockWrite addr d crc) s = .next (spiSay 1 [] (setHeld [spiHeld 4 addr d.length d s] s)) := by
      simp only [exec, execSpiUnlockWrite, spiRequest_of_crc hruns hwake hlive hcrc, hok, spiDelayed_of_nothing_held hheld hlock]
    exact ⟨_, hexec, _, rfl, rfl, rfl, rfl, rfl, rfl, rfl⟩
  · simp only [Gives, exec, execSpiNop, spiRequest_of_crc hruns hwake hlive hcrc]
    rfl
  · simp only [Gives, exec, execSpiRepeatLast, spiRequest_of_crc hruns hwake hlive hcrc] <;> rfl
  · simp only [Gives, exec, execSpiRead, spiRequest_of_bad_crc hruns hwake hlive hcrc]
  · simp only [Gives, exec, execSpiCsEarlyRise, spiLive_cleared hlive, hwake, hruns]
    rfl

end Sys2Proof
end

section
/-! PROOF. The bridges fetch, deliver, discard and lock; the peer's requests; the error FIFOs (R92 to R102, R327). -/

namespace Sys2Proof.Machine

/-! ### What a write of registers leaves of the held reads -/

@[simp] theorem countN_hostHeld (p i n : Nat) (s : State) : (countN p i n s).host.held = s.host.held := by
  simp [countN]

@[simp] theorem emit_hostHeld (o : Output) (s : State) : (emit o s).host.held = s.host.held := by
  simp [emit]

@[simp] theorem msixSend_hostHeld (v : Nat) (s : State) : (msixSend v s).host.held = s.host.held := by
  simp [msixSend]

@[simp] theorem evChanged_hostHeld (ev : Nat) (before : Bool) (s : State) :
    (evChanged ev before s).host.held = s.host.held := by
  unfold evChanged
  repeat' split
  all_goals simp

@[simp] theorem setCause_hostHeld (ev : Nat) (v : BitVec 32) (s : State) : (setCause ev v s).host.held = s.host.held := by
  simp [setCause]

@[simp] theorem setCauseEn_hostHeld (ev : Nat) (v : BitVec 32) (s : State) :
    (setCauseEn ev v s).host.held = s.host.held := by
  simp [setCauseEn]

@[simp] theorem raiseMask_hostHeld (ev : Nat) (m : BitVec 32) (s : State) : (raiseMask ev m s).host.held = s.host.held := by
  simp [raiseMask]

@[simp] theorem raise_hostHeld (ev b : Nat) (s : State) : (raise ev b s).host.held = s.host.held := by
  simp [raise]

@[simp] theorem serviceSend_hostHeld (kind seq off : Nat) (last : Bool) (data : Bytes) (s : State) :
    (serviceSend kind seq off last data s).host.held = s.host.held := by
  unfold serviceSend
  repeat' split
  all_goals simp

@[simp] theorem pairSend_hostHeld (cls : Nat) (data : Bytes) (s : State) :
    (pairSend cls data s).host.held = s.host.held := by
  unfold pairSend
  repeat' split
  all_goals simp

@[simp] theorem setMb_hostHeld (k : Nat) (m : Mailbox) (s : State) : (setMb k m s).host.held = s.host.held := by
  simp [setMb]

@[simp] theorem serviceRespond_hostHeld (s : State) : (serviceRespond s).host.held = s.host.held := by
  refine forEach_keeps (·.host.held) _ _ _ fun _ _ => ?_
  simp

@[simp] theorem mbDone_hostHeld (k status gen : Nat) (data : Bytes) (s : State) :
    (mbDone k status gen data s).host.held = s.host.held := by
  unfold mbDone
  repeat' split
  all_goals simp

@[simp] theorem setVatQueue_hostHeld (q : Nat) (v : VatQueue) (s : State) :
    (setVatQueue q v s).host.held = s.host.held := by
  simp [setVatQueue]

@[simp] theorem wakeConfirmed_hostHeld (w : Wake) (s : State) : (wakeConfirmed w s).host.held = s.host.held := by
  simp [wakeConfirmed]

@[simp] theorem confirmIf_hostHeld (p : Wake → Bool) (s : State) : (confirmIf p s).host.held = s.host.held := by
  unfold confirmIf
  repeat' split
  all_goals simp

@[simp] theorem confirmAny_hostHeld (s : State) : (confirmAny s).host.held = s.host.held := by
  simp [confirmAny]

@[simp] theorem mbDoorbell_hostHeld (mb : Nat) (s : State) : (mbDoorbell mb s).host.held = s.host.held := by
  unfold mbDoorbell
  dsimp only
  repeat' split
  all_goals simp

@[simp] theorem mbAck_hostHeld (mb : Nat) (s : State) : (mbAck mb s).host.held = s.host.held := by
  unfold mbAck
  dsimp only
  repeat' split
  all_goals simp

@[simp] theorem mbWrite_hostHeld (mb off : Nat) (d : Bytes) (s : State) : (mbWrite mb off d s).host.held = s.host.held := by
  unfold mbWrite
  dsimp only
  repeat' split
  all_goals simp

@[simp] theorem setBank_hostHeld (n : Nat) (b : Bank) (s : State) : (setBank n b s).host.held = s.host.held := by
  simp [setBank]

@[simp] theorem zeroBank_hostHeld (n owner : Nat) (s : State) : (zeroBank n owner s).host.held = s.host.held := by
  simp [zeroBank]

@[simp] theorem bridgeCount_hostHeld (i n : Nat) (s : State) : (bridgeCount i n s).host.held = s.host.held := by
  simp [bridgeCount]

@[simp] theorem bridgeBit_hostHeld (b : Nat) (s : State) : (bridgeBit b s).host.held = s.host.held := by
  simp [bridgeBit]

@[simp] theorem setErrLast_hostHeld (addr init : Nat) (w2 : Bool) (kind : Nat) (s : State) :
    (setErrLast addr init w2 kind s).host.held = s.host.held := by
  simp [setErrLast]

@[simp] theorem denied_hostHeld (addr init : Nat) (w2 : Bool) (s : State) :
    (denied addr init w2 s).host.held = s.host.held := by
  simp [denied]

@[simp] theorem logDiscard_hostHeld (h : HeldRead) (pop : Bool) (s : State) :
    (logDiscard h pop s).host.held = s.host.held := by
  simp [logDiscard]

@[simp] theorem setRing_hostHeld (tx : Bool) (n : Nat) (r : Ring) (s : State) :
    (setRing tx n r s).host.held = s.host.held := by
  unfold setRing
  repeat' split
  all_goals simp

@[simp] theorem ringStatus_hostHeld (tx : Bool) (n b : Nat) (s : State) :
    (ringStatus tx n b s).host.held = s.host.held := by
  unfold ringStatus
  dsimp only
  repeat' split
  all_goals simp

@[simp] theorem noBufCheck_hostHeld (n : Nat) (s : State) : (noBufCheck n s).host.held = s.host.held := by
  unfold noBufCheck
  dsimp only
  repeat' split
  all_goals simp

@[simp] theorem hostCheck_hostHeld (s : State) : (hostCheck s).host.held = s.host.held := by
  refine forEach_keeps (·.host.held) _ _ _ fun _ _ => ?_
  simp

@[simp] theorem ringCtrl_hostHeld (tx : Bool) (ring value : Nat) (s : State) :
    (ringCtrl tx ring value s).host.held = s.host.held := by
  unfold ringCtrl
  dsimp only
  repeat' split
  all_goals simp

@[simp] theorem ringTail_hostHeld (tx : Bool) (ring value : Nat) (s : State) :
    (ringTail tx ring value s).host.held = s.host.held := by
  simp [ringTail]

@[simp] theorem ringWrite_hostHeld (tx : Bool) (n off v : Nat) (s : State) :
    (ringWrite tx n off v s).host.held = s.host.held := by
  unfold ringWrite
  dsimp only
  repeat' split
  all_goals simp

@[simp] theorem setEnSpi_hostHeld (i v : Nat) (s : State) : (setEnSpi i v s).host.held = s.host.held := by
  simp [setEnSpi]

@[simp] theorem setTb_hostHeld (n : Nat) (t : TimeBase) (s : State) : (setTb n t s).host.held = s.host.held := by
  simp [setTb]

@[simp] theorem setCmp_hostHeld (n k : Nat) (c : Compare) (s : State) : (setCmp n k c s).host.held = s.host.held := by
  simp [setCmp]

@[simp] theorem setCap_hostHeld (n k : Nat) (c : Capture) (s : State) : (setCap n k c s).host.held = s.host.held := by
  simp [setCap]

@[simp] theorem setPps_hostHeld (k : Nat) (p : Pps) (s : State) : (setPps k p s).host.held = s.host.held := by
  simp [setPps]

@[simp] theorem capStatusWrite_hostHeld (n k v : Nat) (s : State) : (capStatusWrite n k v s).host.held = s.host.held := by
  simp [capStatusWrite]

@[simp] theorem latchWrite_hostHeld (v : Nat) (s : State) : (latchWrite v s).host.held = s.host.held := by
  refine forEach_keeps (·.host.held) _ _ _ fun _ _ => ?_
  simp

@[simp] theorem traceRd_hostHeld (v : Nat) (s : State) : (traceRd v s).host.held = s.host.held := by
  simp [traceRd]

@[simp] theorem alarmClear_hostHeld (v : Nat) (s : State) : (alarmClear v s).host.held = s.host.held := by
  simp [alarmClear]

@[simp] theorem scrOwn_hostHeld (n v : Nat) (s : State) : (scrOwn n v s).host.held = s.host.held := by
  unfold scrOwn
  dsimp only
  repeat' split
  all_goals simp

@[simp] theorem causeWrite_hostHeld (init n w : Nat) (s : State) : (causeWrite init n w s).host.held = s.host.held := by
  unfold causeWrite
  dsimp only
  repeat' split
  all_goals simp

@[simp] theorem msixWrite_hostHeld (v k rw : Nat) (s : State) : (msixWrite v k rw s).host.held = s.host.held := by
  unfold msixWrite
  dsimp only
  repeat' split
  all_goals simp

@[simp] theorem ppsWrite_hostHeld (k rw : Nat) (s : State) : (ppsWrite k rw s).host.held = s.host.held := by
  unfold ppsWrite
  dsimp only
  repeat' split
  all_goals simp

@[simp] theorem mbRegWrite_hostHeld (k off rw w : Nat) (s : State) : (mbRegWrite k off rw w s).host.held = s.host.held := by
  unfold mbRegWrite
  repeat' split
  all_goals simp

@[simp] theorem lowWrite_hostHeld (a m rw w : Nat) (s : State) : (lowWrite a m rw w s).host.held = s.host.held := by
  unfold lowWrite
  repeat' split
  all_goals simp

@[simp] theorem eventWrite_hostHeld (init a rw w : Nat) (s : State) :
    (eventWrite init a rw w s).host.held = s.host.held := by
  unfold eventWrite
  repeat' split
  all_goals simp

@[simp] theorem bridgeWrite_hostHeld (a rw w : Nat) (s : State) : (bridgeWrite a rw w s).host.held = s.host.held := by
  unfold bridgeWrite
  repeat' split
  all_goals simp

@[simp] theorem capStatusWrite_host (n k v : Nat) (s : State) : (capStatusWrite n k v s).host = s.host := by
  unfold capStatusWrite
  dsimp only
  rw [setCap_host]

@[simp] theorem tbWrite_host (n off rw w : Nat) (s : State) : (tbWrite n off rw w s).host = s.host := by
  unfold tbWrite
  extract_lets k c j p
  generalize off % 16 = o
  clear_value k c j p
  split
  · rfl
  · split
    · split
      · exact setCmp_host ..
      · exact setCmp_host ..
      · exact setCmp_host ..
      · exact setCmp_host ..
    · split
      · exact setCap_host ..
      · exact capStatusWrite_host ..
      · rfl

@[simp] theorem wordWrite_hostHeld (init a m v : Nat) (s : State) : (wordWrite init a m v s).host.held = s.host.held := by
  unfold wordWrite
  dsimp only
  repeat' split
  all_goals simp


@[simp] theorem putBytes_hostHeld (init addr : Nat) (d : Bytes) (s : State) :
    (putBytes init addr d s).host.held = s.host.held := by
  have hwords (l : List (Nat × Nat × Nat)) :
      (forEach l (fun w s => wordWrite init w.1 w.2.1 w.2.2 s) s).host.held = s.host.held :=
    forEach_keeps (·.host.held) _ _ _ fun w s => wordWrite_hostHeld _ _ _ _ s
  unfold putBytes
  repeat' split
  · exact mbWrite_hostHeld _ _ _ _
  · exact hwords _
  · exact hwords _

/-! ### One read held -/

theorem findHeld_single {ready : Bool} {p : HeldRead → Bool} {h : HeldRead} (hp : p h = true) :
    findHeld ready p [] [h] = some ([], h, []) := by
  simp [findHeld, hp, countIf]

/-- The data of SPI's own read stay held until they are collected. -/
theorem heldArrive_spi {h : HeldRead} {d : Bytes} {s : State} (hi : h.init = 2) :
    heldArrive [] [] h d s = setHeld [{ h with data := some d }] s := if_pos (.inl hi)

theorem execBridgeFetchComplete_spi {h : HeldRead} {s : State} (hheld : s.host.held = [h]) (hb : h.bridge = 0) (hi : h.init = 2)
    (hd : h.data = none) (ha : h.ahead = 0) (hst : h.status = 0) :
    execBridgeFetchComplete 0 2 h.op h.addr h.size none s = .next (localFetch [] [] h s) := by
  have hmine : (sameRead 0 2 h.op h.addr h.size h && h.data.isNone && h.ahead == 0 && h.status == 0 && (0 != 1 || h.sent)) = true := by
    simp [sameRead, hb, hi, hd, ha, hst]
  have hfind := findHeld_single (ready := true) (h := h) (p := fun x => sameRead 0 2 h.op h.addr h.size x && x.data.isNone &&
    x.ahead == 0 && x.status == 0 && (0 != 1 || x.sent)) hmine
  simp only [execBridgeFetchComplete, hheld, hfind]
  rfl

/-! ### The head of an error FIFO -/

theorem length_errBytes (e : EdgeErr) : (errBytes e).length = 8 := by
  simp [errBytes, b1]

theorem u8_eq_getElem {b : Bytes} {i : Nat} (h : i < b.length) : u8 b i = b[i].toNat := by
  simp [u8, h]

/-- Bytes read as a little-endian number and written back. -/
theorem le_leN {b : Bytes} {i n : Nat} (h : i + n ≤ b.length) : le n (leN b i n) = (b.drop i).take n := by
  induction n generalizing i with
  | zero => simp [le]
  | succ n ih =>
    have hi : i < b.length := by omega
    have hlt : u8 b i < 256 := by rw [u8_eq_getElem hi]; exact b[i].isLt
    have hq : (u8 b i + 256 * leN b (i + 1) n) / 256 = leN b (i + 1) n := by omega
    have hhead : BitVec.ofNat 8 (u8 b i + 256 * leN b (i + 1) n) = b[i] := by
      apply BitVec.eq_of_toNat_eq
      rw [BitVec.toNat_ofNat, ← u8_eq_getElem hi]
      omega
    rw [leN, le, hq, hhead, ih (by omega), List.drop_eq_getElem_cons hi, List.take_succ_cons]

theorem wordsAt_pair {a : Nat} (ha : a % 4 = 0) : wordsAt a 8 = [a, a + 4] := by
  have hword : a / 4 * 4 = a := by omega
  simp [wordsAt, hword, List.range_succ]

/-- EDGE_ERR_POPm and the word behind it (R327). -/
theorem regWord_errHead {m : Nat} (k : Nat) (s : State) (hm : m < 6) (hk : k = 0 ∨ k = 4) :
    regWord (0x50000 + 16 * m + k) s = some (leN (errHead m s) k 4) := by
  have hcl : (0x50000 + 16 * m + k - 0x50000) / 16 = m := by omega
  have hoff : (0x50000 + 16 * m + k) % 8 = k := by omega
  have hhalf : (0x50000 + 16 * m + k) % 16 < 8 := by omega
  have hblock : 0x50000 ≤ 0x50000 + 16 * m + k ∧ 0x50000 + 16 * m + k < 0x50060 := by omega
  simp (disch := omega) only [regWord, if_neg, if_pos hblock, if_pos hhalf, hcl, hoff]

theorem length_errHead (m : Nat) (s : State) : (errHead m s).length = 8 := by
  unfold errHead
  split
  · rfl
  · exact length_errBytes _

theorem regBytes_errHead {m : Nat} (s : State) (hm : m < 6) : regBytes (0x50000 + 16 * m) 8 s = errHead m s := by
  have h0 := regWord_errHead 0 s hm (.inl rfl)
  have h4 := regWord_errHead 4 s hm (.inr rfl)
  have hal : (0x50000 + 16 * m) % 4 = 0 := by omega
  have hlen := length_errHead m s
  have hlow : b4 (leN (errHead m s) 0 4) = (errHead m s).take 4 := le_leN (by omega)
  have hhigh : b4 (leN (errHead m s) 4 4) = (errHead m s).drop 4 := by
    rw [b4, le_leN (by omega), List.take_of_length_le]
    simp [hlen]
  rw [Nat.add_zero] at h0
  have hwhole : (errHead m s).take 8 = errHead m s := List.take_of_length_le (Nat.le_of_eq hlen)
  simp [regBytes, wordsAt_pair hal, h0, h4, hal, hlow, hhigh, slice, hlen, zeros, hwhole]

theorem popsOf_pair {m : Nat} (hm : m < 6) : popsOf (0x50000 + 16 * m) 8 = [m] := by
  have hall : ∀ m < 6, popsOf (0x50000 + 16 * m) 8 = [m] := by decide
  exact hall m hm

end Sys2Proof.Machine

namespace Sys2Proof

open Machine

theorem gives_bridgeReadDiscard {h : HeldRead} {d : Bytes} {s : State} (hheld : s.host.held = [h]) (hb : h.bridge = 0)
    (hop : h.op = 1) (haddr : h.addr < 0x200000) (hd : h.data = some d) :
    Gives (.bridgeReadDiscard 0 h.init 1 h.addr h.size) s (logDiscard h (!(popsOf h.addr h.size).isEmpty) (setHeld [] s)) := by
  have hmine : (sameRead 0 h.init 1 h.addr h.size h && h.data.isSome) = true := by simp [sameRead, hb, hop, hd]
  have hlow : ¬0x200000 ≤ h.addr := by omega
  have hlock : releaseLockOf h (setHeld [] s) = setHeld [] s := if_neg (by simp [hop])
  have hpump (p : Bool) : pump (logDiscard h p (setHeld [] s)) = logDiscard h p (setHeld [] s) :=
    pump_of_nothing_held (by rw [logDiscard_hostHeld]; rfl)
  have hfind := findHeld_single (ready := false) (h := h) (p := fun x => sameRead 0 h.init 1 h.addr h.size x && x.data.isSome) hmine
  simp only [Gives, exec, execBridgeReadDiscard, hheld, hfind, List.append_nil, hlock, if_neg hlow]
  exact congrArg _ (hpump _)

theorem gives_bridgeWriteDeliver {w : PostedWrite} {s : State} (hposted : s.host.posted = [w]) (hheld : s.host.held = [])
    (hb : w.bridge = 0) (hsem : semBlocked w.init w.addr s = false)
    (hj : judgeWrite w.init w.addr w.data { s with host := { s.host with posted := [] } } = 0) :
    Gives (.bridgeWriteDeliver 0 w.init) s (putBytes w.init w.addr w.data { s with host := { s.host with posted := [] } }) := by
  let u : State := { s with host := { s.host with posted := [] } }
  have hput : (putBytes w.init w.addr w.data u).host.held = [] := (putBytes_hostHeld _ _ _ u).trans hheld
  have hfirst : takeFirst (fun x : PostedWrite => x.bridge == 0 && x.init == w.init) s.host.posted = some (w, []) := by
    simp [hposted, takeFirst, hb]
  have hdeliver : deliver w u = putBytes w.init w.addr w.data u := by
    simp only [deliver, hb, u, hj]
    rfl
  have hreads : readsWait w (putBytes w.init w.addr w.data u) = putBytes w.init w.addr w.data u := by
    rw [readsWait, hput]
    exact setHeld_of_held hput
  simp only [Gives, exec, execBridgeWriteDeliver, hfirst, hsem]
  exact congrArg Host.Outcome.next ((congrArg (fun v => pump (readsWait w v)) hdeliver).trans
    ((congrArg pump hreads).trans (pump_of_nothing_held hput)))

theorem ends_pairBridgeRequest_read {addr size : Nat} {s : State} (hup : passUp s = true) (haddr : addr < 0x200000)
    (hs : sizeOk addr size = true) (hres : touchesReserved addr size s = false) (hheld : s.host.held = []) :
    Ends (.pairBridgeRequest 1 addr size []) s (fun t => ∃ h, t.host.held = [h] ∧ h.bridge = 2 ∧ h.init = 3 ∧ h.op = 1 ∧
      h.addr = addr ∧ h.size = size ∧ h.data = none ∧ t.out = s.out) := by
  let h : HeldRead := { bridge := 2, init := 3, op := 1, addr := addr, size := size, arg := [], data := none, status := 0
                        answered := false, ahead := writesAhead 3 addr s }
  have hstart : startRead 2 3 1 addr size [] s = setHeld [h] s := by
    have hpump : pump (setHeld [h] s) = setHeld [h] s := pump_of_other_bridge (h := h) rfl (show (2 : Nat) ≠ 1 by decide)
    simp only [startRead, hheld, List.nil_append]
    exact hpump
  have hin : ¬((!passUp s) = true ∨ 0x200000 ≤ addr) := by
    rw [hup]
    simp [haddr]
  have hexec : exec (.pairBridgeRequest 1 addr size []) s = .next (setHeld [h] s) := by
    simp only [exec, execPairBridgeRequest, if_neg hin, hs, hres, hstart]
    rfl
  exact ⟨_, hexec, h, rfl, rfl, rfl, rfl, rfl, rfl, rfl, rfl⟩

/-- Settles O23. -/
theorem bridgesFetchDeliverAndLock : Obligations.BridgesFetchDeliverAndLock := by
  unfold Obligations.BridgesFetchDeliverAndLock
  refine ⟨fun h s hheld hb hi hop hd ha hst hsem => ?_, fun h s hheld hb hi hop hd ha hst hlock => ?_,
    fun h d s hheld hb hop haddr hd => gives_bridgeReadDiscard hheld hb hop haddr hd,
    fun w s hposted hheld hb hsem hj => gives_bridgeWriteDeliver hposted hheld hb hsem hj, fun i s hlock => ?_,
    fun addr size s hup haddr hs hres hheld _ => ends_pairBridgeRequest_read hup haddr hs hres hheld, fun v s hup => ?_,
    fun m e rest s hm herrs => ?_⟩
  · have hexec := execBridgeFetchComplete_spi hheld hb hi hd ha hst
    rw [hop] at hexec
    refine hexec.trans (congrArg _ ?_)
    have hother : h.bridge ≠ 2 := by omega
    have hlocal : ¬h.op = 4 ∧ ¬h.op = 3 ∧ ¬16 ≤ h.op := by omega
    have hfree : semBlocked h.init h.addr s = false := by rw [hi, hsem]
    rw [localFetch, if_neg hlocal.1, hfree, if_neg (by decide), if_neg hlocal.2.2]
    simp only [if_neg hlocal.2.1, if_neg hother, heldArrive_spi hi, hi]
  · have hexec := execBridgeFetchComplete_spi hheld hb hi hd ha hst
    rw [hop] at hexec
    have hother : h.bridge ≠ 2 := by omega
    have hfree : semBlocked h.init h.addr s = false := by simp [semBlocked, hlock]
    have hfetch : localFetch [] [] h s =
        setHeld [{ h with data := some (readFor 2 h.addr h.size s) }] (takeLock 2 h.addr s) := by
      have hlocal : ¬h.op = 4 ∧ ¬16 ≤ h.op := by omega
      rw [localFetch, if_neg hlocal.1, hfree, if_neg (by decide), if_neg hlocal.2]
      simp only [if_pos hop, if_neg hother, heldArrive_spi hi, hi]
    rw [hfetch] at hexec
    exact ⟨_, hexec, rfl, rfl, rfl⟩
  · have hexec : exec .semLockLapse s = .next (bridgeBit 4 (bridgeCount 5 1 (setErrLast s.host.lockAt i false 4
        { s with host := { s.host with lock := none } }))) := by
      simp only [exec, execSemLockLapse, lockLapse, hlock]
    refine ⟨_, hexec, ?_, ?_, ?_, ?_, ?_⟩
    · simp [bridgeBit, bridgeCount, setErrLast]
    · simp [bridgeBit, bridgeCount, setErrLast]
    · rw [bridgeBit_status, BitVec.getLsbD_or]
      simp
    · simp [bridgeBit, bridgeCount, setErrLast]
    · simp [bridgeBit, bridgeCount, setErrLast]
  · have hin : ¬((!passUp s) = true ∨ 0x200000 ≤ 0x30040) := by
      rw [hup]
      decide
    have hres : touchesReserved 0x30040 (b4 v).length s = false := by
      rw [length_b4, touchesReserved_word rfl]
      rfl
    have hj : judgeWrite 3 0x30040 (b4 v) s = 5 := by
      rw [length_b4] at hres
      have hmay (m w : Nat) : mayWriteWord 3 0x30040 m w s = false :=
        mayWriteWord_primaryOnly ⟨by decide, by decide, by decide⟩ (by decide)
      simp [judgeWrite, hres, writeWords, hmay, sizeOk]
    simp only [Gives, exec, execPairBridgeRequest, if_neg hin, hj]
    rfl
  · have hsize : sizeOk (0x50000 + 16 * m) 8 = true := by
      have hal : (0x50000 + 16 * m) % 8 = 0 := by omega
      simp [sizeOk, hal]
    have hhead : errHead m s = errBytes e := by simp only [errHead, herrs]
    have hpop (u : State) (hu : u.edge = s.edge) :
        popAll (0x50000 + 16 * m) (errBytes e) u = setEdgeCl m { edgeCl m u with errs := rest } u := by
      have hcl : edgeCl m u = edgeCl m s := by simp [edgeCl, hu]
      have htake : (errBytes e).take 8 = errBytes e := List.take_of_length_le (Nat.le_of_eq (length_errBytes e))
      simp [popAll, length_errBytes, popsOf_pair hm, forEach, popHead, hcl, herrs, htake]
    simp only [Gives, exec, execEdgeErrPopRead, hsize, regBytes_errHead s hm, hhead]
    exact congrArg Host.Outcome.next (hpop _ rfl)

end Sys2Proof
end

section
/-! PROOF. The instructions of a Picker: results, flags, the next address; reads of the frame (R135, R142 to R147). -/

namespace Sys2Proof.Machine

open Sys2Proof

/-! ### Reads of the frame -/

section
variable {x : PCtx} {t : Thread} {lo n : Nat} {k : Thread → PStep}

/-- Bytes that have arrived, before the logical end and inside the window: the read notes its highest offset (R135). -/
theorem reading_of_readable {v : VFrame} {s : State} (hr : Readable (lo + n - 1) t v) (hx : x = ctxOf v s) :
    reading x t lo n k = k { t with high := highRead t (lo + n - 1) } := by
  obtain ⟨hwin, hin, hend⟩ := hr
  have hbytes : x.bytes = v.frame.bytes := by rw [hx]; rfl
  have hw : ¬512 ≤ lo + n - 1 := by omega
  have hb : ¬x.bytes.length ≤ lo + n - 1 := by rw [hbytes]; omega
  have hread : readRange x t lo n = .ok { t with high := highRead t (lo + n - 1) } := by
    simp only [readRange, highRead]
    split
    · rename_i l hl
      have hl' : ¬l ≤ lo + n - 1 := by
        unfold logicalEnd at hl
        split at hl
        · rename_i e he
          cases hl
          exact Nat.not_le.mpr (hend l he)
        · split at hl
          · cases hl
            exact hb
          · cases hl
      exact (if_neg hl').trans (if_neg hw)
    · exact (if_neg hb).trans (if_neg hw)
  simp only [reading, hread]

/-- Bytes behind the window of 512 (R135). -/
theorem reading_behind_window (hwin : 512 ≤ lo + n - 1) (hin : lo + n - 1 < x.bytes.length)
    (hend : ∀ l, t.lend = some l → lo + n - 1 < l) : reading x t lo n k = .fin t 5 0 := by
  have hb : ¬x.bytes.length ≤ lo + n - 1 := by omega
  have hread : readRange x t lo n = .bad 5 := by
    simp only [readRange]
    split
    · rename_i l hl
      have hl' : ¬l ≤ lo + n - 1 := by
        unfold logicalEnd at hl
        split at hl
        · rename_i e he
          cases hl
          exact Nat.not_le.mpr (hend l he)
        · split at hl
          · cases hl
            exact hb
          · cases hl
      rw [if_neg hl', if_pos hwin]
    · rw [if_neg hb, if_pos hwin]
  simp only [reading, hread]

/-- Bytes behind the end of a whole frame (R135). -/
theorem reading_behind_end (hended : x.ended = true) (hl : t.lend = none) (hout : x.bytes.length ≤ lo + n - 1) :
    reading x t lo n k = .fin t 8 0 := by
  simp [reading, readRange, logicalEnd, hl, hended, hout]

/-- Bytes that have not arrived yet (R135). -/
theorem reading_not_arrived (hended : x.ended = false) (hl : t.lend = none) (hout : x.bytes.length ≤ lo + n - 1) :
    reading x t lo n k = .stall (lo + n - 1 + 1) := by
  simp [reading, readRange, logicalEnd, hl, hended, hout]

/-- The cursor moves up to the logical end (R145). -/
theorem moveCursor_within {dst : Nat} (hin : dst ≤ x.bytes.length) (hend : ∀ l, t.lend = some l → dst ≤ l) :
    moveCursor x t dst k = k { t with cursor := dst } := by
  cases hl : t.lend with
  | some l => simp [moveCursor, logicalEnd, hl, Nat.not_lt.mpr (hend l hl)]
  | none => cases he : x.ended <;> simp [moveCursor, logicalEnd, hl, he, Nat.not_lt.mpr hin]

end

end Sys2Proof.Machine

namespace Sys2Proof

open Machine

section
variable {c : Instr} {p op w : Nat} {eff : PCtx → Nat → Thread → PStep} {t : Thread} {v : VFrame} {s : State}
  (he : exec c s = .next (pickerRun op eff p s)) (hf : Fetches p op w t v s)
include he hf

theorem threads_of_run {t' : Thread} (hr : eff (ctxOf v s) w { t with count := t.count + 1 } = .run t') : Threads c p s t' :=
  he.trans (congrArg _ ((pickerRun_of_fetches eff hf).trans (congrArg (pickerAfter p t s) hr)))

theorem threads_of_stall {n : Nat} (hr : eff (ctxOf v s) w { t with count := t.count + 1 } = .stall n) :
    Threads c p s { t with stalled := some n } :=
  he.trans (congrArg _ ((pickerRun_of_fetches eff hf).trans (congrArg (pickerAfter p t s) hr)))

theorem gives_of_fin {t' : Thread} {r profile : Nat}
    (hr : eff (ctxOf v s) w { t with count := t.count + 1 } = .fin t' r profile) :
    Gives c s (putResult t.fid (resultOf t' r profile) (setPicker p { pickerOf p s with job := none } s)) :=
  he.trans (congrArg _ ((pickerRun_of_fetches eff hf).trans (congrArg (pickerAfter p t s) hr)))

end

section
variable {p w : Nat} {t : Thread} {v : VFrame} {s : State}

/-- BR takes its target when the condition of its code holds (R143). -/
theorem threads_br (hf : Fetches p 0x03 w t v s) :
    let k := bits w 57 55
    let next : Thread := { t with count := t.count + 1, pc := t.pc + 1 }
    let take := k = 0 ∨ k = 1 ∧ t.z = true ∨ k = 2 ∧ t.z = false ∨ k = 3 ∧ t.c = true ∨ k = 4 ∧ t.c = false
    (take → Threads (.br p) p s { next with pc := bits w 11 0 }) ∧ (¬take → Threads (.br p) p s next) := by
  intro k next take
  have hcond (t' : Thread) (hz : t'.z = t.z) (hc : t'.c = t.c) (x : PCtx) :
      opBr x w t' = if take then .run { t' with pc := bits w 11 0 } else .run (nextPc t') := by
    simp only [opBr, take]
    split <;> simp_all [k]
  refine ⟨fun h => threads_of_run rfl hf ?_, fun h => threads_of_run rfl hf ?_⟩
  · exact (hcond { t with count := t.count + 1 } rfl rfl (ctxOf v s)).trans (if_pos h)
  · exact (hcond { t with count := t.count + 1 } rfl rfl (ctxOf v s)).trans (if_neg h)

/-- META writes the field that it names (R138, R143). -/
theorem threads_metaField (hf : Fetches p 0x13 w t v s) :
    let next : Thread := { t with count := t.count + 1, pc := t.pc + 1 }
    let x := if w.testBit 49 then bits w 15 0 else reg t (bits w 53 50)
    let d := bits w 57 54
    (d = 0 → Threads (.metaField p) p s { next with md := setMd t.md 52 41 x }) ∧
    (d = 1 → Threads (.metaField p) p s { next with md := setMd t.md 55 53 x }) ∧
    (d = 2 → Threads (.metaField p) p s { next with md := setMd t.md 57 56 x }) := by
  refine ⟨fun hd => ?_, fun hd => ?_, fun hd => ?_⟩
  · refine threads_of_run rfl hf ?_
    simp only [opMeta, hd]
    rfl
  · refine threads_of_run rfl hf ?_
    simp only [opMeta, hd]
    rfl
  · refine threads_of_run rfl hf ?_
    simp only [opMeta, hd]
    rfl

end

/-- Settles O24: the effect of each word, over the one lemma that says what a Picker's instruction leaves. -/
theorem arithmeticInstructionsOfAPicker : Obligations.ArithmeticInstructionsOfAPicker := by
  unfold Obligations.ArithmeticInstructionsOfAPicker
  intro p w t v s
  exact ⟨fun h => threads_of_run rfl h rfl, fun h => threads_of_run rfl h rfl, fun h => threads_of_run rfl h rfl,
    fun h => threads_of_run rfl h rfl, fun h => threads_of_run rfl h rfl, fun h => threads_of_run rfl h rfl,
    fun h => threads_of_run rfl h rfl, fun h => threads_br h, fun h => threads_of_run rfl h rfl, fun h => threads_metaField h⟩

section
variable {p w : Nat} {t : Thread} {v : VFrame} {s : State}

/-- LDF writes the field and its flag once the bytes are readable; otherwise the read ends the parse or stalls (R135, R143). -/
theorem threads_ldf (hf : Fetches p 0x01 w t v s) :
    let len := v.frame.bytes.length
    let next : Thread := { t with count := t.count + 1, pc := t.pc + 1 }
    let lo := t.cursor + bits w 40 32 + (if w.testBit 22 then reg t (bits w 53 50) else 0)
    let e := lo + (bits w 31 29 + (bits w 28 24 + 1) + 7) / 8 - 1
    let f := if w.testBit 23 then u16 v.frame.bytes lo else extract v.frame.bytes lo (bits w 31 29) (bits w 28 24 + 1)
    (Readable e t v → Threads (.ldf p) p s
      { next with high := highRead t e, g := t.g.setIfInBounds (bits w 57 54) (BitVec.ofNat 16 f), z := decide (f % 65536 = 0) }) ∧
    (512 ≤ e → e < len → (∀ l, t.lend = some l → e < l) → Gives (.ldf p) s
      (putResult t.fid (resultOf { t with count := t.count + 1 } 5 0) (setPicker p { pickerOf p s with job := none } s))) ∧
    (v.ended = true → t.lend = none → len ≤ e → Gives (.ldf p) s
      (putResult t.fid (resultOf { t with count := t.count + 1 } 8 0) (setPicker p { pickerOf p s with job := none } s))) ∧
    (v.ended = false → t.lend = none → len ≤ e → Threads (.ldf p) p s { t with stalled := some (e + 1) }) := by
  refine ⟨fun hr => ?_, fun hwin hin hend => ?_, fun hended hl hout => ?_, fun hended hl hout => ?_⟩
  · exact threads_of_run rfl hf (reading_of_readable (t := { t with count := t.count + 1 }) (s := s) hr rfl)
  · exact gives_of_fin rfl hf (reading_behind_window (t := { t with count := t.count + 1 }) hwin hin hend)
  · exact gives_of_fin rfl hf (reading_behind_end (t := { t with count := t.count + 1 }) hended hl hout)
  · exact threads_of_stall rfl hf (reading_not_arrived (t := { t with count := t.count + 1 }) hended hl hout)

/-- ADV moves the cursor as long as it stays before the logical end (R145). -/
theorem threads_adv (hf : Fetches p 0x10 w t v s) :
    let dst := t.cursor + (if w.testBit 49 then bits w 15 0 else reg t (bits w 53 50) * 2 ^ bits w 44 42 + bits w 15 0)
    dst ≤ v.frame.bytes.length → (∀ l, t.lend = some l → dst ≤ l) →
      Threads (.adv p) p s { t with count := t.count + 1, pc := t.pc + 1, cursor := dst } := by
  intro dst hin hend
  refine threads_of_run rfl hf ?_
  exact moveCursor_within (x := ctxOf v s) (t := { t with count := t.count + 1 }) (k := fun t => .run (nextPc t)) hin hend

theorem threads_push (hf : Fetches p 0x11 w t v s) (hck : w.testBit 49 = false) (hroom : t.stack.length < 12)
    (h6 : bits w 57 50 / 16 = 6 → countIf (fun e => decide (e.1 / 16 = 6)) t.stack < 6) :
    Threads (.push p) p s { t with count := t.count + 1, pc := t.pc + 1, stack := t.stack ++ [(bits w 57 50, t.cursor)] } := by
  refine threads_of_run rfl hf ?_
  have hsix : ¬(bits w 57 50 / 16 = 6 ∧ 6 ≤ countIf (fun e => decide (e.1 / 16 = 6)) t.stack) :=
    fun h => Nat.not_le.mpr (h6 h.1) h.2
  simp only [opPush, pushHeader, if_neg (Nat.not_le.mpr hroom), if_neg hsix, hck]
  rfl

theorem threads_key (hf : Fetches p 0x12 w t v s) :
    let next : Thread := { t with count := t.count + 1, pc := t.pc + 1 }
    let n := bits w 44 42 + 1
    let k (b : Bytes) : Bytes := (setBytes t.key (bits w 55 50) b).take 48
    let lo := t.cursor + bits w 40 32 + (if w.testBit 22 then reg t (bits w 48 45) else 0)
    (bits w 57 56 = 0 → Readable (lo + n - 1) t v → Threads (.key p) p s
      { next with high := highRead t (lo + n - 1), key := k (slice v.frame.bytes lo n) }) ∧
    (bits w 57 56 = 1 → Threads (.key p) p s { next with key := k (be n (reg t (bits w 48 45))) }) ∧
    (bits w 57 56 = 2 → Threads (.key p) p s { next with key := k (be n (bits w 15 0)) }) := by
  refine ⟨fun hsrc hr => ?_, fun hsrc => ?_, fun hsrc => ?_⟩
  · refine threads_of_run rfl hf ?_
    simp only [opKey, hsrc]
    exact reading_of_readable (t := { t with count := t.count + 1 }) (s := s) hr rfl
  · refine threads_of_run rfl hf ?_
    simp only [opKey, hsrc]
    rfl
  · refine threads_of_run rfl hf ?_
    simp only [opKey, hsrc]
    rfl

theorem threads_chklen (hf : Fetches p 0x14 w t v s) (hended : v.ended = true)
    (hfits : if w.testBit 48 then reg t (bits w 53 50) ≤ t.lend.getD v.frame.bytes.length - t.cursor
      else reg t (bits w 53 50) = t.lend.getD v.frame.bytes.length - t.cursor) :
    Threads (.chklen p) p s
      { t with count := t.count + 1, pc := t.pc + 1, high := some (v.frame.bytes.length - 1) } := by
  refine threads_of_run rfl hf ?_
  have hx : (ctxOf v s).ended = true := hended
  unfold opChklen
  rw [hx]
  split at hfits
  · rename_i hmin
    exact (if_pos hmin).trans (if_pos hfits)
  · rename_i hmin
    exact (if_neg hmin).trans (if_pos hfits)

end

/-- Settles O25. -/
theorem frameInstructionsOfAPicker : Obligations.FrameInstructionsOfAPicker := by
  unfold Obligations.FrameInstructionsOfAPicker
  intro p w t v s
  exact ⟨fun h => threads_ldf h, fun h hin hend => threads_adv h hin hend,
    fun h hck hroom h6 => threads_push h hck hroom h6, fun h => threads_key h, fun h hended hfits => threads_chklen h hended hfits⟩

end Sys2Proof
end

section
/-! PROOF. The threads of Pickers and walkers: allocation, resumption, takeover, the visit of a node, delivery (R135 to R165). -/

namespace Sys2Proof.Machine

open Sys2Proof

section
variable {x : PCtx} {t : Thread} {k : Thread → PStep}

/-- A walker's cursor may stand anywhere before the logical end (R149). -/
theorem walkCursor_within {dst : Nat} (hin : dst ≤ x.bytes.length) (hend : ∀ l, t.lend = some l → dst ≤ l) :
    walkCursor x t dst k = k { t with cursor := dst } := by
  cases hl : t.lend with
  | some l => simp [walkCursor, logicalEnd, hl, Nat.not_lt.mpr (hend l hl)]
  | none => cases he : x.ended <;> simp [walkCursor, logicalEnd, hl, he, Nat.not_lt.mpr hin]

end

/-- Where a readable node leads: to the next node, or to the end of a walk of 24 nodes (R148, R149). -/
theorem nodeVisit_of_readable {v : VFrame} {t : Thread} {s : State}
    (h24 : (nodeW (nodeOf (setOf v.frame.gen s) t.node) 0).testBit 24 = false)
    (h26 : (nodeW (nodeOf (setOf v.frame.gen s) t.node) 0).testBit 26 = false)
    (hadv : bits (nodeW (nodeOf (setOf v.frame.gen s) t.node) 0) 23 22 = 0) :
    let n := nodeOf (setOf v.frame.gen s) t.node
    let w0 := nodeW n 0
    let so := t.cursor + bits w0 8 0
    let e := so + (bits w0 11 9 + (bits w0 16 12 + 1) + 7) / 8 - 1
    let nx := nodeNext n (extract v.frame.bytes so (bits w0 11 9) (bits w0 16 12 + 1) &&& nodeW n 1)
    let on : Thread := { t with nodes := t.nodes + 1, high := highRead t e }
    Readable e t v → nx < 0x200 →
      nodeVisit (ctxOf v s) t = if t.nodes = 23 then .fin on 9 0 else .run { on with node := nx } := by
  intro n w0 so e nx on hr hnx
  have hread := reading_of_readable (x := ctxOf v s) (v := v) (s := s) (t := { t with nodes := t.nodes + 1 }) (lo := so)
    (n := (bits w0 11 9 + (bits w0 16 12 + 1) + 7) / 8) (k := fun t => walkCursor (ctxOf v s) t t.cursor (fun t =>
      if nx < 0x200 then if t.nodes = 24 then .fin t 9 0 else .run { t with node := nx }
      else if nx < 0x240 then .fin t 0 (nx - 0x200) else .fin t (nx % 16) 0)) hr rfl
  obtain ⟨_, hin, hend⟩ := hr
  have hcur : t.cursor ≤ e := by omega
  refine Eq.trans ?_ (hread.trans ((walkCursor_within (x := ctxOf v s) (t := on) (dst := t.cursor)
    (show t.cursor ≤ v.frame.bytes.length by omega) (fun l hl => (Nat.le_trans hcur (Nat.le_of_lt (hend l hl))))).trans ?_))
  · unfold nodeVisit
    simp only [ctxOf, h24, h26, hadv, Bool.false_eq_true, if_false]
    rfl
  · exact (if_pos hnx).trans (ite_congr (propext (show t.nodes + 1 = 24 ↔ t.nodes = 23 by omega))
      (fun _ => rfl) fun _ => rfl)

section
variable {atLimit : Bool} {k : Nat} {t t' : Thread} {v : VFrame} {s : State} (hjob : (walkerOf k s).job = some t)
  (hstate : (walkerOf k s).state = 0) (hf : frameOf t.fid s = some v) (hst : t.stalled = none)
  (hbad : badWord v.frame.gen 2 t.node s = false) (hlim : decide (t.nodes = 23) = atLimit)
include hjob hstate hf hst hbad hlim

/-- A walker whose visit leads on keeps its thread (R148). -/
theorem walkerRun_of_run (hv : nodeVisit (ctxOf v s) t = .run t') :
    walkerRun atLimit k s = count 255 67 (setWalker k { walkerOf k s with job := some t' } s) := by
  have hwake : wakeThread t s = t := by simp [wakeThread, hst]
  have hgo : ¬((walkerOf k s).state ≠ 0 ∨ t.stalled.isSome = true ∨ (decide (t.nodes = 23) != atLimit) = true) := by
    simp [hstate, hst, hlim]
  have hbad' : ¬badWord v.frame.gen 2 t.node s = true := by simp [hbad]
  simp only [walkerRun, hjob, hf, hwake, if_neg hgo, if_neg hbad', hv]

/-- A walker whose visit ends the parse is free again (R148, R149). -/
theorem walkerRun_of_fin {r profile : Nat} (hv : nodeVisit (ctxOf v s) t = .fin t' r profile) :
    walkerRun atLimit k s =
      putResult t.fid (resultOf t' r profile) (count 255 67 (setWalker k { walkerOf k s with job := none } s)) := by
  have hwake : wakeThread t s = t := by simp [wakeThread, hst]
  have hgo : ¬((walkerOf k s).state ≠ 0 ∨ t.stalled.isSome = true ∨ (decide (t.nodes = 23) != atLimit) = true) := by
    simp [hstate, hst, hlim]
  have hbad' : ¬badWord v.frame.gen 2 t.node s = true := by simp [hbad]
  simp only [walkerRun, hjob, hf, hwake, if_neg hgo, if_neg hbad', hv]

end

/-- The frame whose parse ended with a reason under DROP is counted, raises EV60 and is not forwarded (R155, R156). -/
theorem deliverFrame_dropped {fid : Nat} {v : VFrame} {r : ParseResult} {s : State} (hr : r.reason ≠ 0)
    (hact : malAction (setOf v.frame.gen s) v.frame.port r.reason = 0)
    (hfox : foxTake (setOf v.frame.gen s) v.frame.port 0 (raise 60 r.reason (count v.frame.port (448 + r.reason) s)) =
      (false, raise 60 r.reason (count v.frame.port (448 + r.reason) s))) :
    deliverFrame fid v r s = admitFrame fid v.frame r v.ended [] (raise 60 r.reason (count v.frame.port (448 + r.reason) s)) := by
  have hdrop : r.reason ≠ 0 ∧ (malAction (setOf v.frame.gen s) v.frame.port r.reason ≠ 1 ∨ (!ethKind (mdKind r.md)) = true) :=
    ⟨hr, Or.inl (by simp [hact])⟩
  simp only [deliverFrame, if_pos hdrop, if_neg hr]
  simp [malformed, foxIngress, hfox, hact]

end Sys2Proof.Machine

namespace Sys2Proof

open Machine

/-- A free Picker takes the first frame in commit order (R137, R138). -/
theorem gives_pickerThreadAllocate {p fid : Nat} {rest : List Nat} {v : VFrame} {s : State} (hp : p < 48)
    (hjob : (pickerOf p s).job = none) (hstate : (pickerOf p s).state = 0) (hwait : s.parse.waiting = fid :: rest)
    (horder : s.parse.order = []) (hf : frameOf fid s = some v) (hgen : v.frame.gen = 0) (hedge : v.frame.edge = false)
    (hport : v.frame.port < 32) (hruns : v.reruns = 0) :
    let f := { v.frame with gen := s.sets.gen }
    let u := putFrame fid { v with frame := f } s
    let q := count f.port 448 { u with parse := { u.parse with waiting := rest, order := [fid] } }
    let start : Thread := { fid := fid, pc := entryOf (activeSet s) f.port, md := preload (activeSet s) f v.frame.kind }
    Gives (.pickerThreadAllocate p) s (setPicker p { pickerOf p s with job := some start } q) := by
  intro f u q start
  have hkind : frameKind v.frame s = v.frame.kind := by
    have : ¬(32 ≤ v.frame.port ∧ v.frame.port < 128 ∧ chanMode (v.frame.port - 32) s = 6) := by omega
    simp [frameKind, hedge, if_neg this]
  have hset : setOf s.sets.gen s = activeSet s := if_pos rfl
  have hp' : ¬48 ≤ p := by omega
  simp only [Gives, exec, execPickerThreadAllocate, hjob, hwait, hstate, hp', hf, hgen, hruns, hkind]
  simp [horder, hset, hruns, putFrame, hedge, startThread, q, u, f, start]

theorem gives_trellisNodeVisit {k : Nat} {t : Thread} {v : VFrame} {s : State} (hjob : (walkerOf k s).job = some t)
    (hstate : (walkerOf k s).state = 0) (hf : frameOf t.fid s = some v) (hst : t.stalled = none)
    (hbad : badWord v.frame.gen 2 t.node s = false) :
    let n := nodeOf (setOf v.frame.gen s) t.node
    let w0 := nodeW n 0
    let so := t.cursor + bits w0 8 0
    let e := so + (bits w0 11 9 + (bits w0 16 12 + 1) + 7) / 8 - 1
    let nx := nodeNext n (extract v.frame.bytes so (bits w0 11 9) (bits w0 16 12 + 1) &&& nodeW n 1)
    w0.testBit 24 = false → w0.testBit 26 = false → bits w0 23 22 = 0 → Readable e t v → nx < 0x200 →
    let on : Thread := { t with nodes := t.nodes + 1, high := highRead t e, node := nx }
    (t.nodes < 23 → Gives (.trellisNodeVisit k) s (count 255 67 (setWalker k { walkerOf k s with job := some on } s))) ∧
    (t.nodes = 23 → Gives (.trellisVisitLimit k) s (putResult t.fid
      (resultOf { t with nodes := t.nodes + 1, high := highRead t e } 9 0)
      (count 255 67 (setWalker k { walkerOf k s with job := none } s)))) := by
  intro n w0 so e nx h24 h26 hadv hr hnx on
  have hvisit := nodeVisit_of_readable (t := t) (s := s) h24 h26 hadv hr hnx
  refine ⟨fun hlt => ?_, fun heq => ?_⟩
  · have hne : t.nodes ≠ 23 := by omega
    rw [if_neg hne] at hvisit
    exact congrArg Host.Outcome.next (walkerRun_of_run hjob hstate hf hst hbad (decide_eq_false hne) hvisit)
  · rw [if_pos heq] at hvisit
    exact congrArg Host.Outcome.next (walkerRun_of_fin hjob hstate hf hst hbad (decide_eq_true heq) hvisit)

theorem gives_parseResultDeliver {port fid : Nat} {v : VFrame} {r : ParseResult} {s : State} (horder : s.parse.order = [fid])
    (hf : frameOf fid s = some v) (hport : v.frame.port = port) (hended : v.ended = true)
    (hres : Tbl.find s.parse.results fid = some r) (hr : r.reason ≠ 0)
    (hact : malAction (setOf v.frame.gen s) port r.reason = 0) :
    let u := raise 60 r.reason (count port (448 + r.reason) (forgetParse fid s))
    foxTake (setOf v.frame.gen s) port 0 u = (false, u) →
    Gives (.parseResultDeliver port) s (admitFrame fid v.frame r true [] u) := by
  subst hport
  intro u hfox
  have hdrop := deliverFrame_dropped (fid := fid) (v := v) (s := forgetParse fid s) hr hact hfox
  rw [hended] at hdrop
  refine Eq.trans ?_ (congrArg Host.Outcome.next hdrop)
  simp [exec, execParseResultDeliver, horder, hf, hres, hended]

/-- Settles O27: allocation, resumption, takeover, the visit of a node and the delivery of a malformed frame. -/
theorem threadsRunFromAllocationToResult : Obligations.ThreadsRunFromAllocationToResult := by
  unfold Obligations.ThreadsRunFromAllocationToResult
  refine ⟨fun p fid rest v s => gives_pickerThreadAllocate, ?_, ?_, fun k t v s => gives_trellisNodeVisit,
    fun port fid v r s => gives_parseResultDeliver⟩
  · intro p n t v s hjob hf hst hready
    have hwake : wakeThread t s = { t with stalled := none } := by simp only [wakeThread, hst, hf, if_pos hready]
    simp [Threads, Gives, exec, execPickerStallResume, hjob, hwake]
  · intro k t rest s hk hjob hstate hdef
    have hk' : ¬8 ≤ k := by omega
    simp [Gives, exec, execWalkerTakeover, hjob, hdef, hstate, hk']

end Sys2Proof
end


section
/-! PROOF. Frames that arrive, faults of a Picker and errors of the program store (R160 to R163, R367). -/

namespace Sys2Proof.Machine

open Sys2Proof

@[simp] theorem toRepair_vat (mem idx : Nat) (s : State) : (toRepair mem idx s).2.vat = s.vat := by
  unfold toRepair
  dsimp only
  repeat' split
  all_goals simp

@[simp] theorem rowCorrected_vat (mem idx : Nat) (s : State) : (rowCorrected mem idx s).2.vat = s.vat := by
  unfold rowCorrected
  dsimp only
  repeat' split
  all_goals simp

@[simp] theorem memoryError_vat (mem idx : Nat) (hard : Bool) (s : State) : (memoryError mem idx hard s).vat = s.vat := by
  unfold memoryError
  repeat' split
  all_goals simp

/-- The reception of a whole good frame by a trunk port (R367). -/
theorem finishRx_trunk {port : Nat} {r : RxPart} {s : State} (h8 : 8 ≤ port) (h32 : port < 32) (hfid : r.fid = none)
    (hlen : r.bytes.length + 4 ≤ (ethPort port s).maxFrame) (hfwd : forwards s = true) (hwake : wakeEth port r.bytes s = s) :
    let u := (intoVat port r.bytes r.ts false true (countRx port r.bytes.length r.bytes s)).2
    finishRx port r s = setEthPort port { ethPort port u with rx := none } u := by
  have howl : isOwlFrame port r.bytes s = false := by
    simp [isOwlFrame, Nat.not_lt.mpr h8]
  have h129 : port ≠ 129 := by omega
  have hsec : ¬(port < 8 ∧ (macsecOf port s).en = true) := fun h => absurd h.1 (Nat.not_lt.mpr h8)
  simp only [finishRx, howl, hwake, if_neg h129, if_neg hsec, hfwd, hfid, if_neg (Nat.not_lt.mpr hlen)]
  simp

/-- No thread stands at a word of a jump table: threads stand at program words and nodes (R162). -/
theorem framesAt_jump (b : Bool) (addr : Nat) (s : State) : framesAt b 1 addr s = [] := by
  simp [framesAt]

/-- What an uncorrectable word of a jump table does before its event (R162). -/
def jumpWordBad (b : Bool) (addr : Nat) (s : State) : State :=
  let u := memoryError 5 (65536 * 1 + addr) true s
  let u := { u with parse := { u.parse with badWords := (b, 1, addr) :: u.parse.badWords } }
  let drop (t : Option Thread) : Option Thread := t.bind (fun t => if ([] : List Nat).contains t.fid then none else some t)
  let u := forEach u.parse.pickers (fun e s => setPicker e.1 { e.2 with job := drop e.2.job } s) u
  forEach u.parse.walkers (fun e s => setWalker e.1 { e.2 with job := drop e.2.job } s) u

theorem jumpWordBad_vat (b : Bool) (addr : Nat) (s : State) : (jumpWordBad b addr s).vat = s.vat := by
  unfold jumpWordBad
  refine (forEach_vat _ _ _ fun e s => by simp).trans ((forEach_vat _ _ _ fun e s => by simp).trans ?_)
  simp

theorem jumpWordBad_badWords (b : Bool) (addr : Nat) (s : State) : (b, 1, addr) ∈ (jumpWordBad b addr s).parse.badWords := by
  have hkeep : (jumpWordBad b addr s).parse.badWords = (b, 1, addr) :: (memoryError 5 (65536 * 1 + addr) true s).parse.badWords := by
    unfold jumpWordBad
    refine (forEach_keeps (fun s => s.parse.badWords) _ _ _ ?_).trans
      ((forEach_keeps (fun s => s.parse.badWords) _ _ _ ?_).trans rfl) <;> exact fun _ _ => rfl
  rw [hkeep]
  exact List.mem_cons_self

theorem alarm_status_self {k loc : Nat} (hk : k < 18) (s : State) : (alarm k loc s).alarms.status.getLsbD k = true := by
  rw [alarm, trace_alarms, alarmReg, raise_alarms]
  exact alarmDen_status_self hk s

end Sys2Proof.Machine

namespace Sys2Proof

open Machine

theorem exec_pstoreEccError_jump (b : Bool) (addr : Nat) (s : State) :
    exec (.pstoreEccError b 1 addr true) s = .next (alarm 16 locDev (raise 61 6 (jumpWordBad b addr s))) := by
  simp only [exec, execPstoreEccError, if_true, framesAt_jump]
  rfl

/-- A frame of one piece is judged by its end: received if whole, dropped and counted if its FCS is bad (R367). -/
theorem gives_ethFrameReceive {port : Nat} {d : Bytes} {s : State} (h8 : 8 ≤ port) (h32 : port < 32) (hup : portUp port s = true)
    (hrx : (ethPort port s).rx = none) (h60 : 60 ≤ d.length) (hmax : d.length + 4 ≤ (ethPort port s).maxFrame)
    (hfwd : forwards s = true) (hwake : wakeEth port d s = s) :
    (let u := (intoVat port d (startStamp port s) false true (countRx port d.length d s)).2
     Gives (.ethFrameReceive port d true 0) s (setEthPort port { ethPort port u with rx := none } u)) ∧
    (let u := count port 4 s
     Gives (.ethFrameReceive port d true 1) s (setEthPort port { ethPort port u with rx := none } u)) := by
  have hlen : ¬d.length < 60 := Nat.not_lt.mpr h60
  have hfits : ¬(ethPort port s).maxFrame < d.length + 4 := Nat.not_lt.mpr hmax
  refine ⟨?_, ?_⟩
  · have hdone := finishRx_trunk (r := { ts := startStamp port s, bytes := d }) h8 h32 rfl hmax hfwd hwake
    refine Eq.trans ?_ (congrArg Host.Outcome.next hdone)
    simp [exec, execEthFrameReceive, hup, hrx, hlen, hfits]
  · simp [Gives, exec, execEthFrameReceive, hup, hrx, hlen, hfits, dropPart]

/-- A Picker's first fault re-runs its frame, and a frame re-run twice is dropped (R160). -/
theorem gives_pickerFaultRerun {k fid : Nat} {t : Thread} {v : VFrame} {s : State} (hjob : (pickerOf k s).job = some t)
    (hlast : (pickerOf k s).lastFault = none) (hfid : t.fid = fid) (hf : frameOf fid s = some v) :
    let u := setPicker k { pickerOf k s with job := none, faults := satAdd max32 (pickerOf k s).faults 1, lastFault := some (now s) } s
    (v.reruns ≠ 2 → Gives (.pickerFaultRerun false k) s
      (raise 61 0 (count 255 64 (rerunFrame fid (putFrame fid { v with reruns := v.reruns + 1 } u))))) ∧
    (v.reruns = 2 → Gives (.pickerFaultRerun false k) s (raise 61 4 (count 255 65 (dropParsed fid u)))) := by
  subst hfid
  intro u
  have hu : frameOf t.fid u = some v := hf
  have hexec : exec (.pickerFaultRerun false k) s = .next (if v.reruns = 2 then raise 61 4 (count 255 65 (dropParsed t.fid u))
      else raise 61 0 (count 255 64 (rerunFrame t.fid (putFrame t.fid { v with reruns := v.reruns + 1 } u)))) := by
    simp only [exec, execPickerFaultRerun, unitOf, setUnit, Bool.false_eq_true, if_false, hjob, hlast, Bool.false_and]
    change Host.Outcome.next (match frameOf t.fid u with
      | none => u
      | some v => _) = _
    rw [hu]
  exact ⟨fun h => hexec.trans (by rw [if_neg h]), fun h => hexec.trans (by rw [if_pos h])⟩

/-- Settles O28: reception on a trunk port, the fault of a Picker, the errors of the program store. -/
theorem framesArriveAndFaultsRerunThem : Obligations.FramesArriveAndFaultsRerunThem := by
  unfold Obligations.FramesArriveAndFaultsRerunThem
  refine ⟨fun port d s => gives_ethFrameReceive, fun k fid t v s => gives_pickerFaultRerun, fun b kind addr s => ⟨rfl, ?_, rfl⟩⟩
  rintro rfl
  exact ⟨_, exec_pstoreEccError_jump b addr s, by simp [jumpWordBad_badWords], alarm_status_self (by decide) _,
    by simp [jumpWordBad_vat]⟩

end Sys2Proof
end


section
/-! PROOF. Ageing, audits, errors and pauses of the Vat (R188, R199, R210 to R226). -/

namespace Sys2Proof.Machine

open Sys2Proof

@[simp] theorem countN_vatNextFid (p i n : Nat) (s : State) : (countN p i n s).vat.nextFid = s.vat.nextFid := by
  simp [countN]

@[simp] theorem count_vatNextFid (p i : Nat) (s : State) : (count p i s).vat.nextFid = s.vat.nextFid := by
  simp [count]

@[simp] theorem countMax_vatNextFid (p i v : Nat) (s : State) : (countMax p i v s).vat.nextFid = s.vat.nextFid := by
  unfold countMax
  repeat' split
  all_goals simp

@[simp] theorem emit_vatNextFid (o : Output) (s : State) : (emit o s).vat.nextFid = s.vat.nextFid := by
  simp [emit]

@[simp] theorem takeFresh_vatNextFid (s : State) : (takeFresh s).2.vat.nextFid = s.vat.nextFid := by
  simp [takeFresh]

@[simp] theorem msixSend_vatNextFid (v : Nat) (s : State) : (msixSend v s).vat.nextFid = s.vat.nextFid := by
  simp [msixSend]

@[simp] theorem evChanged_vatNextFid (ev : Nat) (before : Bool) (s : State) :
    (evChanged ev before s).vat.nextFid = s.vat.nextFid := by
  unfold evChanged
  repeat' split
  all_goals simp

@[simp] theorem setCause_vatNextFid (ev : Nat) (v : BitVec 32) (s : State) :
    (setCause ev v s).vat.nextFid = s.vat.nextFid := by
  simp [setCause]

@[simp] theorem raiseMask_vatNextFid (ev : Nat) (m : BitVec 32) (s : State) :
    (raiseMask ev m s).vat.nextFid = s.vat.nextFid := by
  simp [raiseMask]

@[simp] theorem raise_vatNextFid (ev b : Nat) (s : State) : (raise ev b s).vat.nextFid = s.vat.nextFid := by
  simp [raise]

@[simp] theorem setVatQueue_vatNextFid (q : Nat) (v : VatQueue) (s : State) :
    (setVatQueue q v s).vat.nextFid = s.vat.nextFid := by
  simp [setVatQueue]

@[simp] theorem setVatPort_vatNextFid (p : Nat) (v : VatPort) (s : State) :
    (setVatPort p v s).vat.nextFid = s.vat.nextFid := by
  simp [setVatPort]

@[simp] theorem takeItems_vatNextFid (isDesc : Bool) (n : Nat) (s : State) :
    (takeItems isDesc n s).2.vat.nextFid = s.vat.nextFid := by
  simp [takeItems]

@[simp] theorem takeItems_power (isDesc : Bool) (n : Nat) (s : State) : (takeItems isDesc n s).2.power = s.power := by
  simp [takeItems]

@[simp] theorem freeChanged_vatNextFid (s : State) : (freeChanged s).vat.nextFid = s.vat.nextFid := by
  unfold freeChanged
  dsimp only
  repeat' split
  all_goals simp

@[simp] theorem freeChanged_power (s : State) : (freeChanged s).power = s.power := by
  unfold freeChanged
  dsimp only
  repeat' split
  all_goals simp

@[simp] theorem putFrame_vatNextFid (fid : Nat) (v : VFrame) (s : State) :
    (putFrame fid v s).vat.nextFid = s.vat.nextFid := by
  simp [putFrame]

@[simp] theorem putFrame_power (fid : Nat) (v : VFrame) (s : State) : (putFrame fid v s).power = s.power := by
  simp [putFrame]

@[simp] theorem dropFrame_vatNextFid (fid : Nat) (s : State) : (dropFrame fid s).vat.nextFid = s.vat.nextFid := by
  simp [dropFrame]

@[simp] theorem dropFrame_power (fid : Nat) (s : State) : (dropFrame fid s).power = s.power := by
  simp [dropFrame]

@[simp] theorem pfcSend_vatNextFid (t p quanta : Nat) (s : State) : (pfcSend t p quanta s).vat.nextFid = s.vat.nextFid := by
  simp [pfcSend]

@[simp] theorem pfcSend_power (t p quanta : Nat) (s : State) : (pfcSend t p quanta s).power = s.power := by
  simp [pfcSend]

theorem forEach_vatNextFid {α : Type} (l : List α) (g : α → State → State) (s : State)
    (h : ∀ x s, (g x s).vat.nextFid = s.vat.nextFid) : (forEach l g s).vat.nextFid = s.vat.nextFid :=
  forEach_keeps (fun s => s.vat.nextFid) l g s h

@[simp] theorem pfcCheck_vatNextFid (t : Nat) (s : State) : (pfcCheck t s).vat.nextFid = s.vat.nextFid := by
  unfold pfcCheck
  split
  · refine forEach_vatNextFid _ _ _ fun p s => ?_
    dsimp only
    repeat' split
    all_goals simp
  · rfl

@[simp] theorem pfcCheck_power (t : Nat) (s : State) : (pfcCheck t s).power = s.power := by
  simp [pfcCheck, forEach_power, apply_ite State.power]

@[simp] theorem countQueue_vatNextFid (q j : Nat) (s : State) : (countQueue q j s).vat.nextFid = s.vat.nextFid := by
  simp [countQueue]

@[simp] theorem countQueue_power (q j : Nat) (s : State) : (countQueue q j s).power = s.power := by
  simp [countQueue]

@[simp] theorem linkCopy_vatNextFid (x : Copy) (s : State) : (linkCopy x s).vat.nextFid = s.vat.nextFid := by
  simp [linkCopy]

@[simp] theorem linkCopy_power (x : Copy) (s : State) : (linkCopy x s).power = s.power := by
  simp [linkCopy]

@[simp] theorem countRefused_vatNextFid (x : Copy) (why : Refuse) (some_admitted : Bool) (s : State) :
    (countRefused x why some_admitted s).vat.nextFid = s.vat.nextFid := by
  unfold countRefused
  repeat' split
  all_goals simp

@[simp] theorem countRefused_power (x : Copy) (why : Refuse) (some_admitted : Bool) (s : State) :
    (countRefused x why some_admitted s).power = s.power := by
  unfold countRefused
  repeat' split
  all_goals simp

@[simp] theorem admitAll_vatNextFid (c : Nat) (l : List Copy) (s : State) :
    (admitAll c l s).2.2.vat.nextFid = s.vat.nextFid := by
  induction l generalizing s with
  | nil => rfl
  | cons x l ih =>
    unfold admitAll
    split <;> simp [ih]

@[simp] theorem admitAll_power (c : Nat) (l : List Copy) (s : State) : (admitAll c l s).2.2.power = s.power := by
  induction l generalizing s with
  | nil => rfl
  | cons x l ih =>
    unfold admitAll
    split <;> simp [ih]

@[simp] theorem markMc_vatNextFid (fid : Nat) (qs : List Nat) (s : State) :
    (markMc fid qs s).vat.nextFid = s.vat.nextFid := by
  refine forEach_keeps (·.vat.nextFid) _ _ _ fun _ _ => ?_
  simp

@[simp] theorem markMc_power (fid : Nat) (qs : List Nat) (s : State) : (markMc fid qs s).power = s.power := by
  refine forEach_power _ _ _ fun _ _ => ?_
  simp

@[simp] theorem admitCopies_power (fid : Nat) (copies : List Copy) (s : State) :
    (admitCopies fid copies s).power = s.power := by
  unfold admitCopies
  dsimp only
  repeat' split
  all_goals simp [forEach_power]

@[simp] theorem setEgr_vatNextFid (p : Nat) (e : EgrPort) (s : State) : (setEgr p e s).vat.nextFid = s.vat.nextFid := by
  simp [setEgr]

@[simp] theorem setRing_vatNextFid (tx : Bool) (n : Nat) (r : Ring) (s : State) :
    (setRing tx n r s).vat.nextFid = s.vat.nextFid := by
  unfold setRing
  repeat' split
  all_goals simp

@[simp] theorem ringStatus_vatNextFid (tx : Bool) (n b : Nat) (s : State) :
    (ringStatus tx n b s).vat.nextFid = s.vat.nextFid := by
  unfold ringStatus
  dsimp only
  repeat' split
  all_goals simp

@[simp] theorem noBufCheck_vatNextFid (n : Nat) (s : State) : (noBufCheck n s).vat.nextFid = s.vat.nextFid := by
  unfold noBufCheck
  dsimp only
  repeat' split
  all_goals simp

@[simp] theorem hostCheck_vatNextFid (s : State) : (hostCheck s).vat.nextFid = s.vat.nextFid := by
  refine forEach_keeps (·.vat.nextFid) _ _ _ fun _ _ => ?_
  simp

@[simp] theorem fairWake_power (before s : State) : (fairWake before s).power = s.power := by
  simp [fairWake, forEach_power, apply_ite State.power]

@[simp] theorem admitCopies_vatNextFid (fid : Nat) (copies : List Copy) (s : State) :
    (admitCopies fid copies s).vat.nextFid = s.vat.nextFid := by
  unfold admitCopies
  dsimp only
  repeat' split
  all_goals simp [forEach_vatNextFid]

@[simp] theorem fairWake_vatNextFid (before s : State) : (fairWake before s).vat.nextFid = s.vat.nextFid := by
  unfold fairWake
  refine forEach_vatNextFid _ _ _ fun e s => forEach_vatNextFid _ _ _ fun t s => ?_
  split
  · simp
  · rfl

@[simp] theorem directedSend_power (port queue : Nat) (data : Bytes) (launch : Option (Nat × Nat)) (s : State) :
    (directedSend port queue data launch s).power = s.power := by
  unfold directedSend
  dsimp only
  repeat' split
  all_goals simp

/-- Ageing a queue whose only copy is over age drops that copy (R215). -/
theorem ageQueue_single {q : Nat} {x : Copy} {s : State} (hc : copiesOf q s = [x]) (hage : overAge x (queueMaxRes q s) s = true) :
    ageQueue q s = raise 73 0 (countQueue q 2 (dropHead q s)) := by
  simp [ageQueue, ageQueue.go, hc, hage]

/-- An item that is neither leaked, marked nor held twice is sound: the Badger leaves it (R222). -/
theorem badgerLook_of_sound {i : Item} {s : State} (hl : s.vat.leaked = []) (hm : s.vat.marked = []) (hd : s.vat.dup = [])
    (ht : heldTwice i s = false) : badgerLook i s = s := by
  simp [badgerLook, hl, hm, hd, ht]

/-- A directed send with cells takes the next frame number (R210). -/
theorem directedSend_nextFid {port queue : Nat} {d : Bytes} {launch : Option (Nat × Nat)} {s : State}
    (hfree : max 1 (cellsFor d.length) ≤ freeCells s) :
    (directedSend port queue d launch s).vat.nextFid = s.vat.nextFid + 1 := by
  simp only [directedSend, if_neg (Nat.not_lt.mpr hfree)]
  simp

theorem bitsOf_two_pow {p : Nat} (hp : p < 8) : bitsOf 8 (2 ^ p) = [p] := by
  revert p
  decide

theorem prioPaused_set_self {port prio : Nat} {b : Bool} {s u : State} (hs : Tbl.sorted s.vat.paused = true) :
    prioPaused port prio { u with vat := { u.vat with paused := Tbl.set s.vat.paused (8 * port + prio) b false } } = b := by
  simp [prioPaused, Tbl.get_set _ _ _ _ _ hs]

/-- What one priority of a received pause frame does (R226). -/
theorem execPfcFrameReceive_single {prio : Nat} (port : Nat) (q : Bytes) (s : State) (hp : prio < 8) :
    execPfcFrameReceive port (2 ^ prio) q s = .next (if (vatPort port s).pfcRx.getLsbD prio then
      { count port 394 s with vat := { s.vat with
        paused := Tbl.set s.vat.paused (8 * port + prio) (decide (beN q (2 * prio) 2 ≠ 0)) false } }
      else count port 394 s) := by
  simp only [execPfcFrameReceive, bitsOf_two_pow hp]
  rfl

end Sys2Proof.Machine

namespace Sys2Proof

open Machine

/-- A frame directed to a queue of the port is queued if there are cells, and counted if not (R210). -/
theorem vintnerDirectedSend_queues {port queue : Nat} {d : Bytes} {launch : Option (Nat × Nat)} {s : State}
    (hq : queueOn port queue = true) (hnm : queue ≠ 673) (hd : d ≠ []) :
    (freeCells s < max 1 (cellsFor d.length) →
      Gives (.vintnerDirectedSend port queue d launch) s (hostCheck (raise 72 5 (count 130 387 s)))) ∧
    (max 1 (cellsFor d.length) ≤ freeCells s → Ends (.vintnerDirectedSend port queue d launch) s (fun t =>
      t.vat.nextFid = s.vat.nextFid + 1 ∧ t.sets = s.sets ∧ t.power = s.power ∧ t.otp = s.otp)) := by
  have hexec : exec (.vintnerDirectedSend port queue d launch) s = .next (hostCheck (directedSend port queue d launch s)) := by
    simp only [exec, execVintnerDirectedSend, if_pos (And.intro hq (And.intro hnm hd))]
  refine ⟨fun hfew => hexec.trans ?_, fun hfree => ⟨_, hexec, ?_, by simp, by simp, otp_of_frozen (by simp)⟩⟩
  · simp only [directedSend, if_pos hfew]
  · exact (hostCheck_vatNextFid _).trans (directedSend_nextFid hfree)

/-- A pause frame of one priority sets the pause of that priority, where the port takes it (R226). -/
theorem pfcFrameReceive_pauses {port prio : Nat} {q : Bytes} {s : State} (hp : prio < 8) (hs : Tbl.sorted s.vat.paused = true) :
    Ends (.pfcFrameReceive port (2 ^ prio) q) s (fun t =>
      prioPaused port prio t = (if (vatPort port s).pfcRx.getLsbD prio then decide (beN q (2 * prio) 2 ≠ 0) else prioPaused port prio s) ∧
      t.ctl = (count port 394 s).ctl ∧ t.vat.queues = s.vat.queues) := by
  refine ⟨_, execPfcFrameReceive_single port q s hp, ?_⟩
  by_cases hrx : (vatPort port s).pfcRx.getLsbD prio = true
  · simp only [if_pos hrx]
    exact ⟨prioPaused_set_self hs, trivial, trivial⟩
  · simp only [if_neg hrx]
    exact ⟨rfl, trivial, rfl⟩

/-- Settles O30: ageing, the audit, memory errors, directed sends, the address scan and the pauses. -/
theorem theVatAgesAuditsAndPauses : Obligations.TheVatAgesAuditsAndPauses := by
  unfold Obligations.TheVatAgesAuditsAndPauses
  refine ⟨?_, ?_, fun i s => rfl, fun q s => rfl, fun port queue d launch s => vintnerDirectedSend_queues, ?_, ?_, ?_,
    fun port prio q s => pfcFrameReceive_pauses, ?_⟩
  · intro q x s hbusy hc hres hage
    simp [Gives, exec, execResidenceSweep, hbusy, forEach, hres, ageQueue_single hc hage]
  · intro s h0 hlast hl hm hd ht
    have hlook := badgerLook_of_sound hl hm hd ht
    simp [Gives, exec, execBadgerAudit, Nat.ne_of_gt h0, Nat.ne_of_lt hlast, hlook]
  · intro s hage hdrain
    have hshadow (c : CfgSet) : (withActive c s).sets.shadow = .draining := by
      unfold withActive
      split <;> exact hdrain
    simp [Gives, exec, execMacAgeScan, Nat.ne_of_gt hage, hshadow]
  · refine fun b table i s => ⟨rfl, fun hin htable => ?_⟩
    cases b <;> simp [Gives, exec, execTableWordRewrite, hin, htable]
  · intro port prio s hsent htx hocc
    simp [Gives, exec, execPfcRepeatTimer, hsent, htx, hocc, pfcSend]
  · exact fun port prio s hs => ⟨_, rfl, prioPaused_set_self hs, rfl, rfl⟩

end Sys2Proof
end


section
/-! PROOF. Egress selection, gates, preemption and the handing of edge copies (R227 to R247, R278). -/

namespace Sys2Proof.Machine

open Sys2Proof

@[simp] theorem creditEmpty_out (p t : Nat) (s : State) : (creditEmpty p t s).out = s.out := by
  unfold creditEmpty
  dsimp only
  repeat' split
  all_goals simp

@[simp] theorem creditEmpty_vat (p t : Nat) (s : State) : (creditEmpty p t s).vat = s.vat := by
  unfold creditEmpty
  dsimp only
  repeat' split
  all_goals simp

@[simp] theorem creditEmpty_sets (p t : Nat) (s : State) : (creditEmpty p t s).sets = s.sets := by
  unfold creditEmpty
  dsimp only
  repeat' split
  all_goals simp

/-- Without preemption an idle port runs the selection over all its classes (R227, R228). -/
theorem selectPort_idle {p : Nat} {s : State} (hmay : maySelect p s = true) (hpre : preemptOn (egrOf p s) = false)
    (htx : (egrOf p s).tx = none) (htp : (egrOf p s).txPre = none) :
    selectPort p .all s = match pickOnce p .all s with
      | (.idle, u) => u
      | (.dropped, u) => selectLoop p .all false (sumBy (fun e => e.2.copies.length) s.vat.queues) u
      | (.send t i q x, u) => startCopy p t i q x false u := by
  have hgo : ¬(!maySelect p s) = true := by simp [hmay]
  have hpre' : ¬preemptOn (egrOf p s) = true := by simp [hpre]
  have hidle : ¬((egrOf p s).tx.isSome = true ∨ (egrOf p s).txPre.isSome = true) := by simp [htx, htp]
  unfold selectPort
  dsimp only
  rw [if_neg hgo, if_neg hpre', if_neg hidle, Nat.add_comm 1, selectLoop]
  generalize pickOnce p .all s = r
  obtain ⟨r, u⟩ := r
  cases r <;> rfl

/-- The bytes of a stored copy leave the port; counts and credit change besides (R229). -/
theorem sendDone_keeps (p : Nat) (w : OnWire) (s : State) :
    (sendDone p w s).out = .eth p w.bytes w.invert :: s.out ∧ (sendDone p w s).vat = s.vat ∧ (sendDone p w s).sets = s.sets := by
  unfold sendDone
  dsimp only
  refine ⟨?_, ?_, ?_⟩ <;> (repeat' split) <;> simp [emit]

theorem gateList_before_base {l : GateList} {now : Nat} (h : now < l.base) : l.at_ now = none := by
  simp [GateList.at_, h]

/-- The gates of a port whose list does not run stand in their idle state (R239, R241). -/
def gatesRest (p : Nat) (s : State) : State :=
  setEgr p { egrOf p s with running := false, states := gatesIdle (activeSet s) p, entry := 0, hold := false } s

theorem gateApply_empty {p : Nat} {s : State} (h : (gateListOf (activeSet s) p).entries = []) :
    gateApply p false s = gatesRest p s := by
  simp [gateApply, gatesRest, h]

theorem gateApply_before_base {p : Nat} {s : State} (hne : (gateListOf (activeSet s) p).entries ≠ [])
    (htb : tbEnabled (gateListOf (activeSet s) p).tb s = true)
    (hbase : tbNow (gateListOf (activeSet s) p).tb s < (gateListOf (activeSet s) p).base) :
    gateApply p false s = gatesRest p s := by
  simp [gateApply, gatesRest, hne, htb, gateList_before_base hbase]

/-- A running list gives its gates the states of the entry that now holds (R240). -/
theorem gateApply_running {p start i left : Nat} {x : GateEntry} {s : State} (hne : (gateListOf (activeSet s) p).entries ≠ [])
    (htb : tbEnabled (gateListOf (activeSet s) p).tb s = true) (hrun : (egrOf p s).running = true)
    (hpre : preemptOn (egrOf p s) = false) (htp : (egrOf p s).txPre = none)
    (hat : (gateListOf (activeSet s) p).at_ (tbNow (gateListOf (activeSet s) p).tb s) = some (start, i, x, left)) :
    gateApply p false s =
      setEgr p { egrOf p s with states := x.states, entry := i, cycleStart := start, hold := false } s := by
  simp [gateApply, hne, htb, hrun, hpre, htp, hat]

/-- Where the queues of a channel need no care, the highest that may transfer gives its head (R278). -/
theorem findSome_transfer {n k : Nat} {x : EdgeCopy} {s : State} (hk : k < 4) (hhigher : ∀ j < 4, k < j → mayTransfer n j s = none)
    (hmay : mayTransfer n k s = some x) :
    [3, 2, 1, 0].findSome? (fun k => (mayTransfer n k s).map (fun x => (k, x))) = some (k, x) := by
  have hcases : k = 0 ∨ k = 1 ∨ k = 2 ∨ k = 3 := by omega
  rcases hcases with rfl | rfl | rfl | rfl <;> simp [hhigher, hmay]

end Sys2Proof.Machine

namespace Sys2Proof

open Machine

theorem exec_egressSelect_all (p : Nat) (s : State) : exec (.egressSelect p 0) s = .next (selectPort p .all s) := rfl

theorem gives_preemptVerifyAttempt {p : Nat} {s : State} (hst : (egrOf p s).preempt.state = 1) (hup : portUp p s = true) :
    let r := (egrOf p s).preempt
    Gives (.preemptVerifyAttempt p true) s (raise 82 0 (setEgr p { egrOf p s with preempt := { r with state := 2 } } s)) ∧
    (r.attempts = 2 → Gives (.preemptVerifyAttempt p false) s
      (raise 82 1 (count p 418 (setEgr p { egrOf p s with preempt := { r with state := 3, attempts := 3 } } s)))) := by
  intro r
  refine ⟨?_, fun hatt => ?_⟩
  · simp [Gives, exec, execPreemptVerifyAttempt, hst, hup, r]
  · have hlast : 2 ≤ (egrOf p s).preempt.attempts := Nat.le_of_eq hatt.symm
    simp [Gives, exec, execPreemptVerifyAttempt, hst, hup, hlast, r]

theorem gives_edgeQueueTransfer {n k : Nat} {x : EdgeCopy} {s : State} (hst : (edgeChan n s).state = 3) (hmode : (edgeChan n s).mode ≠ 6)
    (hfwd : forwards s = true) (hhalt : halted (32 + n) s = false)
    (hquiet : ∀ j < 4, dropBad (256 + 4 * n + j) (ageQueue (256 + 4 * n + j) s) = s) (hk : k < 4)
    (hhigher : ∀ j < 4, k < j → mayTransfer n j s = none) (hmay : mayTransfer n k s = some x) :
    Gives (.edgeQueueTransfer n) s (ctlTake n x (takeHead n k s)) := by
  have hfix : forEach [3, 2, 1, 0] (fun k s => dropBad (256 + 4 * n + k) (ageQueue (256 + 4 * n + k) s)) s = s :=
    forEach_fixed fun j hj => hquiet j (by simp only [List.mem_cons, List.not_mem_nil, or_false] at hj; omega)
  simp [Gives, exec, execEdgeQueueTransfer, hst, hmode, hfwd, hhalt, hfix, findSome_transfer hk hhigher hmay]

/-- Settles O31: selection, the end of a transmission, gates, preemption, stream gates and edge queues. -/
theorem schedulersSelectAndSend : Obligations.SchedulersSelectAndSend := by
  unfold Obligations.SchedulersSelectAndSend
  refine ⟨?_, ?_, ?_, ?_, fun p s => gives_preemptVerifyAttempt, ?_, ?_, fun n k x s => gives_edgeQueueTransfer⟩
  · intro p t i q x s u hmay hpre htx htp hpick
    have hsel := selectPort_idle hmay hpre htx htp
    rw [hpick] at hsel
    exact congrArg Host.Outcome.next hsel
  · intro p s hmay hpre htx htp hpick
    have hsel := selectPort_idle hmay hpre htx htp
    rw [hpick] at hsel
    exact congrArg Host.Outcome.next hsel
  · intro p w s htx hct
    have hexec : exec (.transmissionComplete p false) s = .next (sendDone p w (setEgr p { egrOf p s with tx := none } s)) := by
      simp [exec, execTransmissionComplete, htx, stillArriving, hct]
    exact ⟨hexec, _, hexec, sendDone_keeps p w _⟩
  · intro p s l idle
    exact ⟨fun hnil => congrArg Host.Outcome.next (gateApply_empty hnil),
      fun hne htb hbase => congrArg Host.Outcome.next (gateApply_before_base hne htb hbase),
      fun start i left x hne htb hrun hpre htp hat => congrArg Host.Outcome.next (gateApply_running hne htb hrun hpre htp hat)⟩
  · intro g start i left x s l htb hat
    have hrun : ¬(!tbEnabled l.tb s) = true := by simp [htb]
    simp only [Gives, exec, execStreamGateEntryChange]
    rw [if_neg hrun, hat]
  · intro p s hst
    simp [Gives, exec, execMacsecHoldExpiry, hst]

end Sys2Proof
end

section
/-! PROOF. The commands of the Vat: what a port answers for its pause limits (R212, R225). -/

namespace Sys2Proof.Machine

open Sys2Proof

/-- A device that has started: Diesh serves its mailboxes. -/
def servingDevice : State :=
  { power := { porst := true, hold := .none, phase := .done, railGood := 0x7F, ready := true, perst := false }
    boot := { stage := 6, count := 1 }
    sets := { gen := 1 } }

/-- Such a device whose mailbox `mb` holds a request. -/
def requesting (mb code target : Nat) (p : Bytes) (s : State) : State :=
  setMb mb { mbOf mb s with state := .busy, cur := some { mb := mb, cmd := code, tag := 0, target := target, params := p } } s

theorem mbOf_setMb_self {mb : Nat} {m : Mailbox} {s : State} (hs : Tbl.sorted s.ctl.mb = true) : mbOf mb (setMb mb m s) = m := by
  simp [mbOf, setMb, Tbl.get_set _ _ _ _ _ hs]

theorem served_requesting {mb code target : Nat} {p : Bytes} {s : State} (hs : Tbl.sorted s.ctl.mb = true) (h4 : mb ≠ 4)
    (hserves : servesNow mb s = true) : Served mb code target p (requesting mb code target p s) :=
  ⟨⟨0, by rw [requesting, mbOf_setMb_self hs]⟩, hserves, fun h => absurd h h4⟩

/-- The results that a mailbox command writes can be read back: two endings that leave the same state wrote the same. -/
theorem mbDone_injective {k st gen : Nat} {d d' : Bytes} {s : State} (hk : k < 3) (hs : Tbl.sorted s.ctl.mb = true)
    (hw : Memory.wf (mbOf k s).result = true) (h : mbDone k st gen d s = mbDone k st gen d' s) : d = d' := by
  have hmb (d : Bytes) : mbOf k (mbDone k st gen d s) = { mbOf k s with
      state := .done, status := st, gen := gen, length := d.length, cur := none, result := Memory.writeN (mbOf k s).result 0 d } := by
    have h4 : k ≠ 4 := by omega
    have h3 : k ≠ 3 := by omega
    simp only [mbDone, if_neg h4, if_neg h3]
    rw [mbOf, raise_ctlMb]
    exact mbOf_setMb_self hs
  have heq := (hmb d).symm.trans ((congrArg (mbOf k) h).trans (hmb d'))
  have hlen : d.length = d'.length := congrArg Mailbox.length heq
  have hres : Memory.writeN (mbOf k s).result 0 d = Memory.writeN (mbOf k s).result 0 d' := congrArg Mailbox.result heq
  calc d = Memory.readN (Memory.writeN (mbOf k s).result 0 d) 0 d.length := (Memory.readN_writeN 0 d hw).symm
    _ = Memory.readN (Memory.writeN (mbOf k s).result 0 d') 0 d'.length := by rw [hres, hlen]
    _ = d' := Memory.readN_writeN 0 d' hw

end Sys2Proof.Machine

namespace Sys2Proof

open Machine

/-- Refutes O32: CMD_VAT_PORT answers the pause limits of a port that is no trunk port as zero, where the statement wants the
limits kept for it, which are 256 and 128 at reset. -/
theorem not_vatCommandsAnswer : ¬ Obligations.VatCommandsAnswer := by
  unfold Obligations.VatCommandsAnswer
  intro h
  let p : Bytes := List.replicate 12 0
  let s := requesting 0 0x0701 0 p servingDevice
  obtain ⟨_, hport, _⟩ := h 0 p s (by decide)
  have hserved : Served 0 0x0701 0 p s := served_requesting rfl (by decide) rfl
  have hclaim := hport rfl rfl rfl 0 hserved
  have hmodel : Answers (.cmdVatPort 0) 0 s.sets.gen (vatPortRsp 0 0 s) s s :=
    answers_neither cmdVatPort rfl rfl hserved (fun _ => rfl) rfl (fun _ => rfl) (fun _ => rfl) rfl
  have heq := mbDone_injective (by decide) rfl rfl (Host.Outcome.next.inj (hclaim.symm.trans hmodel))
  revert heq
  decide

end Sys2Proof
end

section
/-! PROOF. The commands of schedulers, gates and policing (R227 to R262). -/

namespace Sys2Proof.Machine

open Sys2Proof

/-- Every mailbox may send a command of all five. -/
theorem mbs_any {r : Req} (h : r.mb < 5) : mbs [0, 1, 2, 3, 4] r = true := by
  simp only [mbs, List.contains_iff_mem, List.mem_cons, List.not_mem_nil, or_false]
  omega

/-- Whoever writes, every mailbox may read with OP 0 (R109). -/
theorem readAny_op0 {i : Nat} {writers : List Nat} {r : Req} (h : u8 r.params i = 0) : readAny i writers r = true := by
  simp [readAny, readOps, h]

/-- A list of one entry of at most a second has no conflict with its cycle (R241). -/
theorem cycleConflict_single (tb base cycle states op v : Nat) :
    cycleConflict { tb := tb, base := base, cycle := cycle, entries := [{ states := states, op := op, interval := gateTime v }] } = false := by
  have hle : gateTime v ≤ 1000000000 := by
    unfold gateTime clamp
    repeat' split
    all_goals omega
  simp [cycleConflict, sumBy, hle]

theorem cycleConflict_empty (tb base cycle : Nat) :
    cycleConflict { tb := tb, base := base, cycle := cycle, entries := [] } = false := by
  simp [cycleConflict, sumBy]

end Sys2Proof.Machine

namespace Sys2Proof

open Machine

section
variable {p : Bytes} {s : State}

theorem schedPort_answers (hlen : p.length = 152) (hport : u8 p 0 < 32) :
    ReadsActive .cmdSchedPort 0x0800 p (schedOf (activeSet s) (u8 p 0)) s ∧
    (let b := schedApply p (portRate (u8 p 0) s)
     (groupConflict b = false → SetsShadow (.cmdSchedPort 0) 0x0800 p b
       (fun c => { c with sched := Tbl.set c.sched (u8 p 0) b (sched0 (u8 p 0)) }) s) ∧
     (groupConflict b = true → ShadowFree 0 s → Served 0 0x0800 1 p s →
       exec (.cmdSchedPort 0) s = .next (mbDone 0 stConflict (shadowGen s) [] s))) := by
  have hidx (tag t mb : Nat) : cmdSchedPort.idx ⟨mb, 0x0800, tag, t, p⟩ s = stOk := by simp [cmdSchedPort, need, hport]
  refine ⟨readsActive_either cmdSchedPort rfl (beq_iff_eq.mpr hlen) (fun _ => rfl) (fun mb h tag => mbs_any h)
    (fun mb tag => hidx tag 0 mb) (fun _ _ => rfl), fun hok => ?_, fun hbad hf h => ?_⟩
  · refine setsShadow_either cmdSchedPort rfl (beq_iff_eq.mpr hlen) rfl (fun _ => rfl) (fun tag => hidx tag 1 0) (fun _ => ?_)
    simp [cmdSchedPort, hok]
  · refine congrArg Host.Outcome.next (runCmd_shadow (c := cmdSchedPort) (.inr ⟨rfl, rfl⟩) hf h (fun _ => rfl)
      (beq_iff_eq.mpr hlen) (fun tag => hidx tag 1 0) fun _ => ?_)
    simp [cmdSchedPort, hbad, fail]

theorem gateList_answers (hlen : p.length = 16 + 8 * u16 p 2) (hport : u8 p 0 < 32) :
    ReadsActive .cmdGateList 0x0801 p (gateRsp (u8 p 0) (gateListOf (activeSet s) (u8 p 0))) s ∧
    (u16 p 2 = 1 → u8 p 1 < 6 → u8 p 17 % 4 < 3 →
      let l : GateList := { tb := u8 p 1, base := u64 p 4, cycle := cycleTime (u32 p 12)
                            entries := [{ states := u8 p 16, op := u8 p 17 % 4, interval := gateTime (u32 p 20) }] }
      SetsShadow (.cmdGateList 0) 0x0801 p (gateRsp (u8 p 0) l)
        (fun c => { c with gates := Tbl.set c.gates (u8 p 0) l {} }) s) := by
  refine ⟨readsActive_either cmdGateList rfl (beq_iff_eq.mpr hlen) (fun _ => rfl) (fun mb h tag => mbs_any h) (fun mb tag => ?_)
    (fun _ _ => rfl), fun hone htb hop => ?_⟩
  · simp [cmdGateList, need, hport]
  · intro l
    have hop3 : ¬u8 p 17 % 4 = 3 := by omega
    have hfits : cycleConflict l = false := cycleConflict_single ..
    refine setsShadow_either cmdGateList rfl (beq_iff_eq.mpr hlen) rfl (fun _ => rfl) (fun _ => ?_) (fun _ => ?_)
    · simp [cmdGateList, need, hport, htb]
    · simp only [l] at hfits
      simp [cmdGateList, hone, hop3, hfits, l]

theorem streamFilter_answers (hlen : p.length = 12) (hf : u16 p 0 < 8192) :
    let rsp (b : Bytes) := b2 (u16 p 0) ++ b ++ zeros 2 ++ b1 (b2n (Tbl.get s.flow.blocked (u16 p 0) false)) ++ zeros 3
    ReadsActive .cmdStreamFilter 0x0804 p (rsp (filterOf (activeSet s) (u16 p 0))) s ∧
    (u16 p 6 < 1024 ∨ u16 p 6 = 0xFFFF → u16 p 8 < 8192 ∨ u16 p 8 = 0xFFFF →
      let b := b1 (u8 p 2 % 4) ++ b1 (u8 p 3) ++ b2 (min 16383 (u16 p 4)) ++ b2 (u16 p 6) ++ b2 (u16 p 8)
      SetsShadow (.cmdStreamFilter 0) 0x0804 p (rsp b)
        (fun c => { c with filters := Tbl.set c.filters (u16 p 0) b filter0 }) s) := by
  refine ⟨readsActive_either cmdStreamFilter rfl (beq_iff_eq.mpr hlen) (fun _ => rfl) (fun mb h tag => mbs_any h)
    (fun mb tag => ?_) (fun _ _ => rfl), fun hg hm => ?_⟩
  · simp [cmdStreamFilter, need, hf]
  · refine setsShadow_either cmdStreamFilter rfl (beq_iff_eq.mpr hlen) rfl (fun _ => rfl) (fun _ => ?_) (fun _ => rfl)
    simp [cmdStreamFilter, need, hf, hg, hm]

theorem streamGate_answers (hlen : p.length = 20 + 12 * u16 p 16) (hg : u16 p 0 < 1024) :
    ReadsActive .cmdStreamGate 0x0805 p (streamGateRsp (u16 p 0) (streamGateOf (activeSet s) (u16 p 0))) s ∧
    (u16 p 16 = 0 → u8 p 2 < 6 → (sumBy (fun e => e.2.list.entries.length) (Tbl.erase (shadowSet s).streamGates (u16 p 0))) ≤ 16384 →
      let x : StreamGate := { flags := u8 p 3 % 8, list := { tb := u8 p 2, base := u64 p 4, cycle := cycleTime (u32 p 12), entries := [] } }
      SetsShadow (.cmdStreamGate 0) 0x0805 p (streamGateRsp (u16 p 0) x)
        (fun c => { c with streamGates := Tbl.set c.streamGates (u16 p 0) x {} }) s) := by
  refine ⟨readsActive_either cmdStreamGate rfl (beq_iff_eq.mpr hlen) (fun _ => rfl) (fun mb h tag => mbs_any h)
    (fun mb tag => ?_) (fun _ _ => rfl), fun hzero htb hroom => ?_⟩
  · simp [cmdStreamGate, need, hg]
  · intro x
    refine setsShadow_either cmdStreamGate rfl (beq_iff_eq.mpr hlen) rfl (fun _ => rfl) (fun _ => ?_) (fun _ => ?_)
    · simp [cmdStreamGate, need, hg, htb]
    · simp [cmdStreamGate, hzero, Nat.not_lt.mpr hroom, cycleConflict_empty, x]

theorem edgeQueues_answers (hlen : p.length = 8) (hch : u8 p 0 < 96) :
    let b := (List.range 4).flatMap (fun k => b1 (min 32 (u8 p (1 + k)))) ++ b1 (u8 p 5)
    ReadsActive .cmdEdgeQueues 0x0809 p (b1 (u8 p 0) ++ edgeQueuesOf (activeSet s) (u8 p 0) ++ zeros 2) s ∧
    (u8 p 5 < 4 ∨ u8 p 5 = 0xFF → sumBy (fun k => u8 b k) (List.range 4) ≤ 32 →
      SetsShadow (.cmdEdgeQueues 0) 0x0809 p (b1 (u8 p 0) ++ b ++ zeros 2)
        (fun c => { c with edgeQueues := Tbl.set c.edgeQueues (u8 p 0) b edgeQueues0 }) s) := by
  intro b
  refine ⟨readsActive_either cmdEdgeQueues rfl (beq_iff_eq.mpr hlen) (fun _ => rfl) (fun mb h tag => mbs_any h)
    (fun mb tag => ?_) (fun _ _ => rfl), fun hq hroom => ?_⟩
  · simp [cmdEdgeQueues, need, hch]
  · refine setsShadow_either cmdEdgeQueues rfl (beq_iff_eq.mpr hlen) rfl (fun _ => rfl) (fun _ => ?_) (fun _ => ?_)
    · simp [cmdEdgeQueues, need, hch, hq]
    · exact if_neg (Nat.not_lt.mpr hroom)

end

/-- Settles O33: each command reads the active set and writes the shadow, or answers and clears its counters and latches. -/
theorem schedulerCommandsReadAndWriteSets : Obligations.SchedulerCommandsReadAndWriteSets := by
  unfold Obligations.SchedulerCommandsReadAndWriteSets
  refine fun p s => ⟨schedPort_answers, gateList_answers, streamFilter_answers, streamGate_answers, ?_, edgeQueues_answers, ?_, ?_⟩
  · intro hlen hm t b
    have hidx (tag t mb : Nat) : cmdMeter.idx ⟨mb, 0x0806, tag, t, p⟩ s = stOk := by simp [cmdMeter, need, hm]
    exact ⟨readsActive_either cmdMeter rfl (beq_iff_eq.mpr hlen) (fun _ => rfl) (fun mb h tag => mbs_any h)
        (fun mb tag => hidx tag 0 mb) (fun _ _ => rfl),
      setsShadow_either cmdMeter rfl (beq_iff_eq.mpr hlen) rfl (fun _ => rfl) (fun tag => hidx tag 1 0) (fun _ => rfl)⟩
  · intro mb hmb hlen htab hfirst hkeep n
    refine serves_neither cmdPoliceCounters rfl (fun _ _ => ?_) (beq_iff_eq.mpr hlen) (fun _ _ => ?_) (fun _ _ => ?_) rfl rfl
    · simp [cmdPoliceCounters, hkeep]
    · simp [cmdPoliceCounters, need, htab, policeTable, hfirst]
    · simp [cmdPoliceCounters, htab, policeTable, entryCountersRun, hkeep, n]
  · intro hlen hkind hi
    have hidx (tag t : Nat) : cmdPoliceUnlatch.idx ⟨0, 0x0808, tag, t, p⟩ s = stOk := by simp [cmdPoliceUnlatch, need, hkind, hi]
    refine ⟨fun hset => ?_, fun hclear => ?_⟩
    · refine serves_neither cmdPoliceUnlatch rfl (fun _ _ => rfl) (beq_iff_eq.mpr hlen) hidx (fun _ _ => ?_) rfl rfl
      simp [cmdPoliceUnlatch, hkind, hset]
    · refine declines_neither cmdPoliceUnlatch rfl (fun _ _ => rfl) (beq_iff_eq.mpr hlen) hidx rfl (fun _ _ => ?_)
      simp [cmdPoliceUnlatch, hkind, hclear]

end Sys2Proof
end


section
/-! PROOF. Time bases and the units that act on them (R263 to R283). -/

namespace Sys2Proof.Machine

open Sys2Proof

@[simp] theorem countEdge_sets (n i : Nat) (s : State) : (countEdge n i s).sets = s.sets := by
  simp [countEdge]

@[simp] theorem lateEdge_sets (n : Nat) (s : State) : (lateEdge n s).sets = s.sets := by
  simp [lateEdge]

@[simp] theorem resetDrops_sets (n : Nat) (s : State) : (resetDrops n s).2.sets = s.sets := by
  have hcopies (r : Nat × State) (hr : r.2.sets = s.sets) (l : List Nat) (g : Nat × State → Nat → Nat × State)
      (hg : ∀ a ch, (g a ch).2.sets = a.2.sets) : (l.foldl g r).2.sets = s.sets :=
    (foldl_keeps (fun a : Nat × State => a.2.sets) g l r hg).trans hr
  unfold resetDrops
  generalize List.range 256 = queues
  exact hcopies _ (hcopies _ rfl _ _ fun a q => by simp [forEach_sets]) _ _ fun a ch => by simp [forEach_sets]

@[simp] theorem disarmAll_sets (n : Nat) (s : State) : (disarmAll n s).2.sets = s.sets := by
  unfold disarmAll
  dsimp only
  rw [forEach_sets _ _ _ fun k s => by simp, forEach_sets _ _ _ fun o s => by split <;> simp]

/-- A reset of a time base may return an armed shadow to READY, and leaves the generation. -/
theorem resetTb_gen (n : Nat) (off : Bool) (s : State) : (resetTb n off s).2.sets.gen = s.sets.gen := by
  unfold resetTb
  dsimp only
  repeat' split
  all_goals simp

theorem tbEnabled_of_ne {n : Nat} {s : State} (h : (tbOf n s).state ≠ .disabled) : tbEnabled n s = true := by
  simp [tbEnabled, h]

theorem tbEnabled_of_eq {n : Nat} {s : State} (h : (tbOf n s).state = .disabled) : tbEnabled n s = false := by
  simp [tbEnabled, h]

end Sys2Proof.Machine

namespace Sys2Proof

open Machine

/-- A time base is enabled, refused, disabled and reset by the commands of MB0 (R264, R265). -/
theorem timeBase_commands {n : Nat} {p : Bytes} {s : State} (h1 : 1 ≤ n) (h5 : n ≤ 5) (hlen : p.length = 4) (hn : u8 p 0 = n) :
    (u8 p 1 = 1 → (tbOf n s).state = .disabled →
      let u := gateRejoin n (setTb n { tbOf n s with state := .enabled, count := 0, frac := 0, rate := 0, firstSync := true } s)
      Serves (.cmdTbEnable 0) 0 0x0900 p (b4 (tbStateWord n u)) s u) ∧
    (u8 p 1 = 1 → (tbOf n s).state ≠ .disabled → ∀ t, Served 0 0x0900 t p s → Refuses (.cmdTbEnable 0) 0 stState s) ∧
    (u8 p 1 = 0 → (tbOf n s).state ≠ .disabled → boundSlot n s = none → s.upd.state ≠ 3 →
      let u := (resetTb n true s).2
      Serves (.cmdTbEnable 0) 0 0x0900 p (b4 (tbStateWord n u)) s u) ∧
    ((tbOf n s).state ≠ .disabled → hostOwns n s = true → s.upd.state ≠ 3 →
      Serves (.cmdTbReset 0) 0 0x0903 p (b4 (resetTb n false s).1) s (resetTb n false s).2) := by
  subst hn
  have hidx (hop : u8 p 1 < 2) (tag t : Nat) : cmdTbEnable.idx ⟨0, 0x0900, tag, t, p⟩ s = stOk := by
    exact need_tbIdx_mode h1 h5 hop
  refine ⟨fun hop hoff => ?_, fun hop hon => ?_, fun hop hon hfree _ => ?_, fun hon hown _ => ?_⟩
  · refine serves_neither cmdTbEnable rfl (fun _ _ => rfl) (beq_iff_eq.mpr hlen) (hidx (by omega)) (fun _ _ => ?_) (by simp) rfl
    simp [cmdTbEnable, hop, tbEnabled_of_eq hoff]
  · refine declines_neither cmdTbEnable rfl (fun _ _ => rfl) (beq_iff_eq.mpr hlen) (hidx (by omega)) rfl (fun _ _ => ?_)
    simp [cmdTbEnable, hop, tbEnabled_of_ne hon]
  · refine serves_neither cmdTbEnable rfl (fun _ _ => rfl) (beq_iff_eq.mpr hlen) (hidx (by omega)) (fun _ _ => ?_)
      (resetTb_gen ..) rfl
    simp [cmdTbEnable, hop, tbEnabled_of_ne hon, hfree]
  · refine serves_neither cmdTbReset rfl (fun _ _ => rfl) (beq_iff_eq.mpr hlen) (fun _ _ => ?_) (fun _ _ => ?_)
      (resetTb_gen ..) rfl
    · simp [cmdTbReset, need, tbIdx, h1, h5]
    · simp [cmdTbReset, tbEnabled_of_ne hon, hown]

/-- A compare unit whose time has come disarms itself or moves on by its period, and fires (R280). -/
theorem gives_compareFire {n k : Nat} {s : State} (hruns : timeRuns s = true) :
    let c := cmpOf n k s
    (tbEnabled n s = true → c.arm = true → c.time ≤ tbNow n s →
      (c.period = 0 → Gives (.compareFire n k) s (cmpFired n k (setCmp n k { c with arm := false } s))) ∧
      (c.period ≠ 0 → Gives (.compareFire n k) s
        (cmpFired n k (setCmp n k { c with time := (c.time + c.period) % 18446744073709551616 } s)))) ∧
    (tbEnabled n s = false → Gives (.compareFire n k) s s) := by
  intro c
  refine ⟨fun hen harm hdue => ?_, fun hen => ?_⟩
  · have hgo : ¬((!timeRuns s) = true ∨ (!tbEnabled n s) = true ∨ (!(cmpOf n k s).arm) = true ∨ tbNow n s < (cmpOf n k s).time) := by
      simp [hruns, hen, show (cmpOf n k s).arm = true from harm, show (cmpOf n k s).time ≤ tbNow n s from hdue]
    have hexec : exec (.compareFire n k) s = .next (cmpFired n k (setCmp n k (if c.period = 0 then { c with arm := false }
        else { c with time := (c.time + c.period) % 18446744073709551616 }) s)) := by
      simp only [exec, execCompareFire]
      rw [if_neg hgo]
    exact ⟨fun h => hexec.trans (by rw [if_pos h]), fun h => hexec.trans (by rw [if_neg h])⟩
  · simp [Gives, exec, execCompareFire, hen]

/-- Settles O36: the commands of a time base, and its compare, capture and PPS units. -/
theorem timeUnitsActOnTime : Obligations.TimeUnitsActOnTime := by
  unfold Obligations.TimeUnitsActOnTime
  refine ⟨fun n p s => timeBase_commands, fun mb s => ?_, fun n k s => gives_compareFire, ?_, ?_, ?_, ?_⟩
  · exact serves_neither cmdTbStatus rfl (fun _ _ => rfl) rfl (fun _ _ => rfl) (fun _ _ => rfl) rfl rfl
  · intro n k s hout hn
    simp [cmpFired, hout, hn]
  · intro source rising s hsrc hruns
    simp [Gives, exec, execCaptureEdge, Nat.not_le.mpr hsrc, hruns, hsrc]
  · intro n k s
    exact ⟨fun h => by simp [capture, h], fun h => by simp [capture, h]⟩
  · intro k s hact hend
    simp [Gives, exec, execPpsPulseEnd, hact, hend]

end Sys2Proof
end

section
/-! PROOF. gPTP: Sync, Announce and Pdelay, and the commands of its slots and ports (R284 to R300). -/

namespace Sys2Proof.Machine

open Sys2Proof

/-- No frame waits for Vintner (log entry 43). -/
theorem takeVintner_of_empty {port etype : Nat} {s : State} (h : copiesOf 673 s = []) : takeVintner port etype s = s := by
  simp only [takeVintner, show (vatQueue 673 s).copies = [] from h]
  rfl

@[simp] theorem gmChange_tb (i gm n : Nat) (s : State) : tbOf n (gmChange i gm s) = tbOf n s := by
  unfold gmChange
  dsimp only
  split
  · rw [tbOf, raise_time]
    rfl
  · rfl

@[simp] theorem gptpState_sets (i n : Nat) (s : State) : (gptpState i n s).sets = s.sets := by
  unfold gptpState
  dsimp only
  split <;> simp

end Sys2Proof.Machine

namespace Sys2Proof

open Machine

/-- A Sync without a timestamp is counted; the first beyond STEP_MIN steps the time base (R287, R288). -/
theorem gives_gptpSyncReceive {slot port gm steps : Nat} {off : Int} {s : State} :
    let g := gptpSlot slot s
    g.valid = true → g.state ≠ 4 → slavePort g = some port → (gptpPort port s).en = true → portUp port s = true →
    copiesOf 673 s = [] →
    Gives (.gptpSyncReceive slot port off steps gm false) s (count port 502 (count port 496 s)) ∧
    ((tbOf g.tb s).firstSync = true → (tbOf g.tb s).state = .enabled → (g.stepMin : Int) < off.natAbs →
      let a := gmChange slot gm (count port 496 s)
      let b := setGptpSlot slot { gptpSlot slot a with offset := off, lastSync := now a, steps := steps, lost := false } a
      Gives (.gptpSyncReceive slot port off steps gm true) s
        (gptpState slot 2 (stepTb g.tb (-off) (setTb g.tb { tbOf g.tb b with firstSync := false } b)).2)) := by
  intro g hvalid hstate hslave hen hup hnone
  have htake := takeVintner_of_empty (port := port) (etype := 0x88F7) hnone
  have hgo : ¬((!(gptpSlot slot s).valid) = true ∨ (gptpSlot slot s).state = 4 ∨ slavePort (gptpSlot slot s) ≠ some port ∨
      (!(gptpPort port s).en) = true ∨ (!portUp port s) = true) := by
    simp only [g] at *
    simp [hvalid, hstate, hslave, hen, hup]
  refine ⟨?_, fun hfirst hst hbig => ?_⟩
  · simp only [Gives, exec, execGptpSyncReceive, if_neg hgo, htake]
    rfl
  · intro a b
    have htb : tbOf g.tb b = tbOf g.tb s := gmChange_tb slot gm g.tb (count port 496 s)
    have hbig' : (decide (((gptpSlot slot s).stepMin : Int) < off.natAbs) && (tbOf g.tb b).state == .enabled) = true := by
      rw [htb, hst, decide_eq_true hbig]
      rfl
    have hfirst' : (tbOf g.tb b).firstSync = true := htb ▸ hfirst
    have hexec : exec (.gptpSyncReceive slot port off steps gm true) s = .next (
        if (tbOf g.tb b).firstSync then
          gptpState slot 2 (if decide (((gptpSlot slot s).stepMin : Int) < off.natAbs) && (tbOf g.tb b).state == .enabled then
            (stepTb g.tb (-off) (setTb g.tb { tbOf g.tb b with firstSync := false } b)).2
            else servoTrack slot off (setTb g.tb { tbOf g.tb b with firstSync := false } b))
        else gptpState slot 2 s) := by
      simp only [exec, execGptpSyncReceive, if_neg hgo, htake]
      rw [if_neg (by decide), if_pos hfirst', if_pos hfirst']
    rw [if_pos hfirst', if_pos hbig'] at hexec
    exact hexec

theorem gives_gptpSync_timers {slot port : Nat} {s : State} :
    let g := gptpSlot slot s
    (g.valid = true → g.external = true → port ∈ masterPorts g s → gptpSends port s = true → g.state = 4 →
      Gives (.gptpSyncTxTimer slot port) s (count port 497 (gptpSend port s))) ∧
    (g.valid = true → g.state = 2 ∨ g.state = 3 → g.lost = false → Gives (.gptpSyncTimeout slot) s (gptpState slot 2
      (raise (16 + g.tb) 17 (setGptpSlot slot { g with lost := true, lockRun := 0, jumpRun := 0, best := none } s)))) := by
  intro g
  simp only [g]
  refine ⟨fun hvalid hext hport hsends hstate => ?_, fun hvalid hstate hlost => ?_⟩
  · simp [Gives, exec, execGptpSyncTxTimer, hvalid, hext, hport, hsends, hstate]
  · have hgo : ¬((!(gptpSlot slot s).valid) = true ∨ (gptpSlot slot s).state < 2 ∨ (gptpSlot slot s).state = 4 ∨
        (gptpSlot slot s).lost = true) := by
      simp only [hvalid, hlost, Bool.not_true, Bool.false_eq_true, false_or, or_false]
      omega
    simp only [Gives, exec, execGptpSyncTimeout, if_neg hgo]

/-- The first master heard is taken by a slot that may not be master itself (R285). -/
theorem gives_gptpAnnounceReceive {slot port prio1 quality prio2 gm steps : Nat} {s : State} (hen : (gptpPort port s).en = true)
    (hup : portUp port s = true) (hnone : copiesOf 673 s = []) :
    let g := gptpSlot slot s
    g.valid = true → g.external = false → g.role = 0 → g.best = none → g.state ≠ 4 →
      let m : Master := { prio1 := prio1, quality := quality, prio2 := prio2, gm := gm, steps := steps + 1, port := port }
      Gives (.gptpAnnounceReceive slot port prio1 quality prio2 gm steps) s
        (gmChange slot gm (setGptpSlot slot { g with best := some m, steps := steps + 1 } (count port 501 s))) := by
  intro g hvalid hext hrole hbest hstate m
  have htake := takeVintner_of_empty (port := port) (etype := 0x88F7) hnone
  have hslot : gptpSlot slot (count port 501 s) = g := rfl
  simp only [Gives, exec, execGptpAnnounceReceive, hen, hup, htake, hslot, hvalid, hext, hrole, hbest, m]
  simp [hstate]

theorem gives_gptpPdelayResponse {port n d : Nat} {ratio : Int} {s : State} (hen : (gptpPort port s).en = true)
    (hup : portUp port s = true) (hnone : copiesOf 673 s = []) (hans : (gptpPort port s).answered = none)
    (hwait : (gptpPort port s).waiting = true) (hd : d ≤ (gptpPort port s).thresh) :
    let u := setGptpPort port { gptpPort port s with
      waiting := false, answered := some n, lost := 0, delay := d, ratio := ratio, neighbour := n } (count port 499 s)
    Gives (.gptpPdelayResponse port n d ratio true) s (setGptpPort port { gptpPort port u with asCapable := true } u) := by
  have htake := takeVintner_of_empty (port := port) (etype := 0x88F7) hnone
  simp [Gives, exec, execGptpPdelayResponse, hen, hup, htake, hans, hwait, Nat.not_lt.mpr hd]

section
variable {mb : Nat} {p : Bytes} {s : State}

theorem gptpDomain_reads (hlen : p.length = 28) (hslot : u8 p 0 < 5) (hop : u8 p 1 = 0) :
    Serves (.cmdGptpDomain mb) mb 0x0905 p (gptpSlotBytes (u8 p 0) 0 s) s s := by
  refine serves_neither cmdGptpDomain rfl (fun _ _ => readAny_op0 hop) (beq_iff_eq.mpr hlen) (fun _ _ => ?_) (fun _ _ => ?_) rfl rfl
  · simp [cmdGptpDomain, need, hslot, hop]
  · simp [cmdGptpDomain, hop]

/-- A slot that is not valid is written with its limits held, and stops (R284). -/
theorem gptpDomain_sets (hlen : p.length = 28) (hslot : u8 p 0 < 5) (hop : u8 p 1 = 1) (hvalid : bit p 2 0 = false)
    (hdom : u8 p 3 < 128) (htb1 : 1 ≤ u8 p 4) (htb5 : u8 p 4 ≤ 5) (hrole : u8 p 5 < 3) (hslave : u8 p 11 < 32 ∨ u8 p 11 = 0xFF) :
    let g : GptpSlot :=
      { external := bit p 2 1, jumpAction := bit p 2 2, domain := u8 p 3, tb := u8 p 4, role := u8 p 5
        prio1 := u8 p 6, prio2 := u8 p 7, logSync := max (-7) (min 0 (i8 p 8)), logAnnounce := max (-3) (min 3 (i8 p 9))
        timeout := max 2 (u8 p 10), slavePort := u8 p 11, masters := u32 p 12, stepMin := min 1000000 (u32 p 16)
        lockThresh := clamp 1 100000 (u32 p 20), jumpLimit := clamp 1000 1000000000 (u32 p 24), state := (gptpSlot (u8 p 0) s).state }
    let u := gptpState (u8 p 0) 0 (setGptpSlot (u8 p 0) g s)
    Serves (.cmdGptpDomain 0) 0 0x0905 p (gptpSlotBytes (u8 p 0) 1 u) s u := by
  intro g u
  refine serves_neither cmdGptpDomain rfl (fun _ _ => ?_) (beq_iff_eq.mpr hlen) (fun _ _ => ?_) (fun _ _ => ?_) ?_ rfl
  · simp [cmdGptpDomain, readAny, readOps]
  · simp [cmdGptpDomain, need, hslot, hop, hdom, htb1, htb5, hrole, hslave]
  · simp [cmdGptpDomain, hop, hvalid, u, g]
  · simp [u]

theorem gptpPort_reads (hlen : p.length = 16) (hport : u8 p 0 < 32) (hop : u8 p 1 = 0) :
    Serves (.cmdGptpPort mb) mb 0x0906 p (gptpPortBytes (u8 p 0) 0 s) s s := by
  refine serves_neither cmdGptpPort rfl (fun _ _ => readAny_op0 hop) (beq_iff_eq.mpr hlen) (fun _ _ => ?_) (fun _ _ => ?_) rfl rfl
  · simp [cmdGptpPort, need, hport, hop]
  · simp [cmdGptpPort, hop]

theorem gptpPort_sets (hlen : p.length = 16) (hport : u8 p 0 < 32) (hop : u8 p 1 = 1) (hen : bit p 2 0 = true) :
    let u := setGptpPort (u8 p 0) { gptpPort (u8 p 0) s with
      en := true, logPdelay := max (-3) (min 3 (i8 p 3)), ing := i16 p 4, egr := i16 p 6
      thresh := min 1000000 (u32 p 8), allowed := max 1 (u8 p 12) } s
    Serves (.cmdGptpPort 0) 0 0x0906 p (gptpPortBytes (u8 p 0) 1 u) s u := by
  intro u
  refine serves_neither cmdGptpPort rfl (fun _ _ => ?_) (beq_iff_eq.mpr hlen) (fun _ _ => ?_) (fun _ _ => ?_) rfl rfl
  · simp [cmdGptpPort, readAny, readOps]
  · simp [cmdGptpPort, need, hport, hop]
  · simp [cmdGptpPort, hop, hen, u]

end

/-- Settles O37: Sync, Announce and Pdelay frames, their timers, and the commands. -/
theorem gptpKeepsTime : Obligations.GptpKeepsTime := by
  unfold Obligations.GptpKeepsTime
  refine ⟨fun slot port gm steps off s => gives_gptpSyncReceive, fun slot port s => gives_gptpSync_timers, ?_, ?_,
    fun port n d ratio s => gives_gptpPdelayResponse,
    fun mb p s => ⟨gptpDomain_reads, gptpDomain_sets, gptpPort_reads, gptpPort_sets, fun hlen hslot => ?_⟩⟩
  · intro slot port prio1 quality prio2 gm steps s hen hup hnone
    refine ⟨gives_gptpAnnounceReceive hen hup hnone, fun hsends => ?_⟩
    have htake := takeVintner_of_empty (port := port) (etype := 0x88F7) hnone
    simp [Gives, exec, execGptpPdelayRequestRx, hen, hup, htake, hsends]
  · intro port s hsends hwait
    simp [Gives, exec, execGptpPdelayTimer, hsends, hwait]
  · refine serves_neither cmdGptpStatus rfl (fun _ _ => rfl) (beq_iff_eq.mpr hlen) (fun _ _ => ?_) (fun _ _ => rfl) rfl rfl
    simp [cmdGptpStatus, need, hslot]

end Sys2Proof
end

section
/-! PROOF. Edge channels: frames received and given to the Vat, integration, CAN attempts (R301 to R316). -/

namespace Sys2Proof.Machine

open Sys2Proof

theorem isCan_iff {m : Nat} : isCan m = true ↔ 1 ≤ m ∧ m ≤ 3 := by
  simp [isCan]

/-- A frame of a kind that the mode of a CAN channel receives is delivered (R303). -/
theorem delivers_can {n kind flags ctrl ident : Nat} {s : State} (hcan : isCan (edgeChan n s).mode = true)
    (hrx : modeReceives (edgeChan n s).mode kind = true) : delivers n kind flags ctrl ident s = true := by
  obtain ⟨h1, h3⟩ := isCan_iff.mp hcan
  have h6 : (edgeChan n s).mode ≠ 6 := by omega
  have hlin : isLin (edgeChan n s).mode = false := by simp [isLin]; omega
  have hfr : isFr (edgeChan n s).mode = false := by simp [isFr]; omega
  simp [delivers, hrx, hlin, hfr, h6]

/-- Before its window has passed and its residence ended, the only copy held stays and wins the arbitration (R311). -/
theorem ctlSweep_single {n : Nat} {x : EdgeCopy} {s : State} (hheld : (edgeChan n s).held = [x])
    (hlive : ctlExpired (edgeChan n s) x s = (false, false)) :
    ctlSweep n (fun x => windowPast (edgeChan n s) x s) true s = setEdgeChan n (edgeChan n s) s := by
  have haged : (ctlExpired (edgeChan n s) x s).1 = false := by rw [hlive]
  have hpast : windowPast (edgeChan n s) x s = false := congrArg Prod.snd hlive
  have hsame : { edgeChan n s with held := [x] } = edgeChan n s := by rw [← hheld]
  simp only [ctlSweep, hheld, List.filter_cons, List.filter_nil, haged, hpast]
  simpa [forEach] using congrArg (setEdgeChan n · s) hsame

theorem Tbl.sorted_set {α : Type} [DecidableEq α] {t : Tbl α} (i : Nat) (v d : α) (h : Tbl.sorted t = true) :
    Tbl.sorted (Tbl.set t i v d) = true := by
  unfold Tbl.set
  split
  · exact Tbl.sorted_erase i h
  · exact Tbl.sorted_insert i v h

theorem edgeChan_setEdgeChan_self {n : Nat} {c : EdgeChan} {s : State} (hs : Tbl.sorted s.edge.ch = true) :
    edgeChan n (setEdgeChan n c s) = c := by
  rw [edgeChan_setEdgeChan n n c s hs, if_pos rfl]

theorem arbWinner_contenders_single {c : EdgeChan} {x : EdgeCopy} {s : State} {flip : Bool} (hheld : c.held = [x])
    (hlaunched : launched x s = true) : arbWinner flip (contenders c s) = some x := by
  have hone : contenders c s = [x] := by
    cases hfifo : x.fifo <;> simp [contenders, hheld, hfifo, hlaunched]
  rw [hone]
  rfl

end Sys2Proof.Machine

namespace Sys2Proof

open Machine

/-- A good frame that a CAN channel receives is counted and stored with its edge header; an ACTIVE one lowers REC (R303, R309). -/
theorem gives_edgeFrameReceive_can {n kind flags ctrl ident prio vcid ago : Nat} {d : Bytes} {s : State}
    (hawake : s.sleep.asleep = false) (hpair : s.pair.state ≠ 5) :
    let c := edgeChan n s
    isCan c.mode = true → modeReceives c.mode kind = true →
    let ts := tbAgo ago s
    let f : Frame := { bytes := edgeHeader n kind c.tsTb flags ctrl ident d.length prio vcid (ts.getD c.tsTb 0 % 4294967296) ++ d,
                       port := 32 + n, edge := true, kind := kind, ts := ts }
    let u := countN (32 + n) 1 d.length (countEdge n 0 s)
    (c.state = 4 → Gives (.edgeFrameReceive n kind flags ctrl ident prio vcid d ago 0) s (rxStore n f u)) ∧
    (c.state = 3 → c.rec_ ≤ 127 → Gives (.edgeFrameReceive n kind flags ctrl ident prio vcid d ago 0) s
      (let v : State := { u with fresh := u.fresh + 1 }
       rxStore n f (passiveCheck n (setEdgeChan n { edgeChan n v with rec_ := c.rec_ - 1 } v)))) := by
  intro c hcan hrx ts f u
  obtain ⟨h1, h3⟩ := isCan_iff.mp hcan
  have hdel := delivers_can (flags := flags) (ctrl := ctrl) (ident := ident) hcan hrx
  have hmode : (edgeChan n s).mode ≤ 3 := h3
  have h5 : ¬((edgeChan n s).mode = 5 ∧ goToSleep ident d = true ∧ s.sleep.nm.state = 3) := fun h => by omega
  have h6 : ¬(edgeChan n s).mode = 6 := fun h => by omega
  have hlin : ¬isLin (edgeChan n s).mode = true := by
    simp only [isLin, Bool.or_eq_true, beq_iff_eq]
    omega
  have hkind : ¬(isCan (edgeChan n s).mode = true ∧ (!modeReceives (edgeChan n s).mode kind) = true) := fun h => by
    simp [show modeReceives (edgeChan n s).mode kind = true from hrx] at h
  have hgone : ¬(!delivers n kind flags ctrl ident s) = true := by simp [hdel]
  refine ⟨fun hst => ?_, fun hst hrec => ?_⟩
  · have hgo : ¬(((edgeChan n s).state ≠ 3 ∧ (edgeChan n s).state ≠ 4) ∨ s.sleep.asleep = true ∨ s.pair.state = 5) := by
      simp [show (edgeChan n s).state = 4 from hst, hawake, hpair]
    have hact : ¬(isCan (edgeChan n s).mode = true ∧ (edgeChan n s).state = 3) := fun h => by
      have : (edgeChan n s).state = 4 := hst
      omega
    simp only [Gives, exec, execEdgeFrameReceive, if_neg hgo, if_neg h5, if_neg hkind, if_neg hgone, if_neg h6, if_neg hlin,
      if_neg hact, ne_eq, not_true_eq_false, if_false]
    rfl
  · have hgo : ¬(((edgeChan n s).state ≠ 3 ∧ (edgeChan n s).state ≠ 4) ∨ s.sleep.asleep = true ∨ s.pair.state = 5) := by
      simp [show (edgeChan n s).state = 3 from hst, hawake, hpair]
    have hact : isCan (edgeChan n s).mode = true ∧ (edgeChan n s).state = 3 := ⟨hcan, hst⟩
    have hlow : ¬127 < (edgeChan n s).rec_ := Nat.not_lt.mpr hrec
    simp only [Gives, exec, execEdgeFrameReceive, if_neg hgo, if_neg h5, if_neg hkind, if_neg hgone, if_neg h6, if_neg hlin,
      if_pos hact, if_neg hlow, ne_eq, not_true_eq_false, if_false]
    rfl

/-- The first frame of the FIFO goes to the Vat, if the filter of the channel accepts it (R304). -/
theorem gives_edgeFrameToVat {n : Nat} {f : Frame} {rest : List Frame} {s : State} (hrx : (edgeChan n s).rx = f :: rest)
    (hgated : s.sleep.gated = false) (hawake : s.sleep.asleep = false) :
    let u := setEdgeChan n { edgeChan n s with rx := rest } s
    (acceptedNow n f u = false → Gives (.edgeFrameToVat n) s (countEdge n 4 u)) ∧
    (∀ (fid : Nat) (v : State), acceptedNow n f u = true → fromSuppressed (32 + n) f.edge f.bytes u = true →
      stageFrame { f with gen := s.sets.gen } true u = (some fid, v) → Gives (.edgeFrameToVat n) s (commitFrame fid v)) ∧
    (∀ (fid : Nat) (v : State), acceptedNow n f u = true → fromSuppressed (32 + n) f.edge f.bytes u = false →
      stageFrame { f with gen := s.sets.gen } true (confirmChannel n u) = (some fid, v) →
      Gives (.edgeFrameToVat n) s (commitFrame fid v)) := by
  intro u
  have hgo : ¬(s.sleep.gated = true ∨ s.sleep.asleep = true) := by simp [hgated, hawake]
  refine ⟨fun hno => ?_, fun fid v hyes hsup hstage => ?_, fun fid v hyes hsup hstage => ?_⟩
  · simp only [u] at hno
    simp [Gives, exec, execEdgeFrameToVat, hrx, if_neg hgo, hno, u]
  · simp only [u] at hyes hsup hstage
    simp [Gives, exec, execEdgeFrameToVat, hrx, if_neg hgo, hyes, hsup, hstage]
  · simp only [u] at hyes hsup hstage
    simp [Gives, exec, execEdgeFrameToVat, hrx, if_neg hgo, hyes, hsup, hstage]

/-- An idle CAN channel starts the only copy it holds (R311). -/
theorem ends_canTxAttempt {n : Nat} {x : EdgeCopy} {s : State} (hs : Tbl.sorted s.edge.ch = true) (hcan : isCan (edgeChan n s).mode = true)
    (hst : (edgeChan n s).state = 3) (htx : (edgeChan n s).tx = none) (hawake : s.sleep.asleep = false)
    (hheld : (edgeChan n s).held = [x]) (hlaunched : launched x s = true) (hlive : ctlExpired (edgeChan n s) x s = (false, false)) :
    Ends (.canTxAttempt n) s (fun t => (edgeChan n t).tx = some x ∧ (edgeChan n t).held = [x] ∧ t.vat = s.vat ∧ t.ctl = s.ctl) := by
  have hgo : ¬((!isCan (edgeChan n s).mode) = true ∨ (edgeChan n s).state ≠ 3 ∨ (edgeChan n s).tx.isSome = true ∨
      s.sleep.asleep = true) := by simp [hcan, hst, htx, hawake]
  have hsame : edgeChan n (setEdgeChan n (edgeChan n s) s) = edgeChan n s := edgeChan_setEdgeChan_self hs
  have hexec : exec (.canTxAttempt n) s = .next (setEdgeChan n { edgeChan n s with tx := some x }
      (takeFresh (setEdgeChan n (edgeChan n s) s)).2) := by
    simp only [exec, execCanTxAttempt, if_neg hgo, ctlSweep_single hheld hlive, hsame]
    have hl : launched x (takeFresh (setEdgeChan n (edgeChan n s) s)).2 = true := hlaunched
    rw [arbWinner_contenders_single hheld hl]
  have hnew : edgeChan n (setEdgeChan n { edgeChan n s with tx := some x } (takeFresh (setEdgeChan n (edgeChan n s) s)).2) =
      { edgeChan n s with tx := some x } := edgeChan_setEdgeChan_self (Tbl.sorted_set _ _ _ hs)
  exact ⟨_, hexec, by rw [hnew], by rw [hnew, hheld], rfl, rfl⟩

/-- A copy sent leaves the channel and lowers TEC; one that lost the arbitration stays (R311, R312). -/
theorem gives_canTxAttemptEnd {n kind : Nat} {dp : Bool} {x : EdgeCopy} {s : State} (htx : (edgeChan n s).tx = some x) :
    let c := edgeChan n s
    (ehKind x.bytes ≠ 2 → Gives (.canTxAttemptEnd n 0 kind dp) s (passiveCheck n (setEdgeChan n
      { c with tx := none, held := c.held.erase x, tec := c.tec - 1 }
      (emit (.bus n x.bytes) (countN (32 + n) 3 (ehLength x.bytes) (countEdge n 2 s)))))) ∧
    (let u := countEdge n 8 (setEdgeChan n { c with tx := none } s)
     x.launch = none → (edgeChan n u).tec < 256 → Gives (.canTxAttemptEnd n 1 kind dp) s u) := by
  intro c
  refine ⟨fun hkind => ?_, fun hlaunch htec => ?_⟩
  · simp only [Gives, exec, execCanTxAttemptEnd, htx, if_neg hkind, if_true]
    rfl
  · have hopen : ¬windowOver (edgeChan n s) x (countEdge n 8 (setEdgeChan n { edgeChan n s with tx := none } s)) = true := by
      simp [windowOver, hlaunch]
    have hon : ¬256 ≤ (edgeChan n (countEdge n 8 (setEdgeChan n { edgeChan n s with tx := none } s))).tec := Nat.not_le.mpr htec
    simp only [Gives, exec, execCanTxAttemptEnd, htx, if_neg hopen, if_neg hon, if_true, Nat.one_ne_zero, if_false]
    rfl

/-- Settles O38: reception, the way to the Vat, integration, CAN attempts, bus-off and launch windows. -/
theorem edgeFramesArriveAndLeave : Obligations.EdgeFramesArriveAndLeave := by
  unfold Obligations.EdgeFramesArriveAndLeave
  refine ⟨fun n kind flags ctrl ident prio vcid ago d s => gives_edgeFrameReceive_can, ?_, fun n f rest s => gives_edgeFrameToVat, ?_,
    fun n x s => ends_canTxAttempt, fun n kind dp x s => gives_canTxAttemptEnd, ?_, ?_⟩
  · intro n kind flags ctrl ident prio vcid ago err d s hawake hpair hst herr
    have hgo : ¬(((edgeChan n s).state ≠ 3 ∧ (edgeChan n s).state ≠ 4) ∨ s.sleep.asleep = true ∨ s.pair.state = 5) := by
      simp only [hawake, hpair, Bool.false_eq_true, or_false]
      omega
    simp only [Gives, exec, execEdgeFrameReceive, if_neg hgo, if_pos herr]
  · intro n s hst hmode
    simp only [Gives, exec, execEdgeIntegrationComplete, if_pos (And.intro hst hmode)]
  · intro n s hst hauto
    simp only [Gives, exec, execBusOffRecovery, if_pos (And.intro hst hauto), busOn]
  · intro n s hmode
    simp only [Gives, exec, execLtWindowExpiry, if_neg hmode]

end Sys2Proof
end


section
/-! PROOF. LIN, FlexRay and T1S channels, and the faults that retire a channel (R305, R311 to R319, R327). -/

namespace Sys2Proof.Machine

open Sys2Proof

@[simp] theorem countEdge_vat (n i : Nat) (s : State) : (countEdge n i s).vat = s.vat := by
  simp [countEdge]

@[simp] theorem linSend_sets (n ident : Nat) (s : State) : (linSend n ident s).sets = s.sets := by
  simp [linSend]

@[simp] theorem linSend_vat (n ident : Nat) (s : State) : (linSend n ident s).vat = s.vat := by
  simp [linSend]

@[simp] theorem linHeader_sets (n ident : Nat) (s : State) : (linHeader n ident s).sets = s.sets := by
  simp [linHeader]

@[simp] theorem linHeader_vat (n ident : Nat) (s : State) : (linHeader n ident s).vat = s.vat := by
  simp [linHeader]

@[simp] theorem linAwait_sets (n ident : Nat) (t : Option Nat) (s : State) : (linAwait n ident t s).sets = s.sets := by
  simp [linAwait]

@[simp] theorem linAwait_vat (n ident : Nat) (t : Option Nat) (s : State) : (linAwait n ident t s).vat = s.vat := by
  simp [linAwait]

@[simp] theorem linSlot_sets (n e : Nat) (s : State) : (linSlot n e s).sets = s.sets := by
  unfold linSlot
  dsimp only
  repeat' split
  all_goals simp

@[simp] theorem linSlot_vat (n e : Nat) (s : State) : (linSlot n e s).vat = s.vat := by
  unfold linSlot
  dsimp only
  repeat' split
  all_goals simp

@[simp] theorem linSend_out_mem {n ident : Nat} {w : Output} {s : State} (h : w ∈ s.out) : w ∈ (linSend n ident s).out := by
  simp [linSend, emit, countEdge, h]

/-- An unconditional slot sends its header (R311). -/
theorem linSlot_sends_header {n e : Nat} (s : State) (hkind : bits e 7 6 = 0) :
    Output.linHeader n (bits e 5 0) ∈ (linSlot n e s).out := by
  have hsent : Output.linHeader n (bits e 5 0) ∈ (linHeader n (bits e 5 0) s).out := by simp [linHeader, emit]
  simp only [linSlot, hkind]
  repeat' split
  · exact linSend_out_mem hsent
  · simpa [countEdge] using hsent
  · exact hsent
  · exact hsent

/-- A table of one entry gives that entry again and again (R297). -/
theorem linNext_single {c : EdgeChan} {e : Nat} (hsel : c.select = none) (hres : c.resume = none)
    (htab : Tbl.get c.tables c.table [] = [e]) : (linNext c).1 = some e := by
  simp [linNext, hsel, hres, htab, Nat.mod_one]

/-- One frame goes out in a transmit opportunity when the queues need no care (R317). -/
theorem t1sSend_one {n k : Nat} {x : EdgeCopy} {s : State} (hlate : t1sLate n (fun y => windowPast (edgeChan n s) y s) s = s)
    (hquiet : ∀ j < 4, dropBad (256 + 4 * n + j) (ageQueue (256 + 4 * n + j) s) = s) (hpick : t1sPick n s = some (k, x))
    (hedge : x.edge = false) (h60 : 60 ≤ x.bytes.length) (hmax : x.bytes.length ≤ 1518) :
    t1sSend n 1 s = emit (.bus n x.bytes) (countN (32 + n) 3 x.bytes.length (countEdge n 2 (takeHead n k s))) := by
  have hfix : forEach [3, 2, 1, 0] (fun k s => dropBad (256 + 4 * n + k) (ageQueue (256 + 4 * n + k) s)) s = s :=
    forEach_fixed fun j hj => hquiet j (by simp only [List.mem_cons, List.not_mem_nil, or_false] at hj; omega)
  have hgood : ¬(x.edge = true ∨ x.bytes.length < 60 ∨ 1518 < x.bytes.length) := by
    simp only [hedge, Bool.false_eq_true, false_or]
    omega
  simp only [t1sSend, hlate, hfix, hpick, if_neg hgood]

end Sys2Proof.Machine

namespace Sys2Proof

open Machine

section
variable {n : Nat} {s : State} (hst : (edgeChan n s).state = 3) (hawake : s.sleep.asleep = false)
include hst hawake

theorem ends_linSlotStart {e : Nat} (hmode : (edgeChan n s).mode = 4) (hsel : (edgeChan n s).select = none)
    (hres : (edgeChan n s).resume = none) (htab : Tbl.get (edgeChan n s).tables (edgeChan n s).table [] = [e])
    (hkind : bits e 7 6 = 0) :
    Ends (.linSlotStart n) s (fun t => Output.linHeader n (bits e 5 0) ∈ t.out ∧ t.vat = s.vat ∧ t.sets = s.sets) := by
  have hnext := linNext_single (c := { edgeChan n s with await := none, restart := false }) hsel hres htab
  have hgo : ¬((edgeChan n s).mode ≠ 4 ∨ (edgeChan n s).state ≠ 3 ∨ s.sleep.asleep = true) := by simp [hmode, hst, hawake]
  refine ⟨linSlot n e (setEdgeChan n (linNext { edgeChan n s with await := none, restart := false }).2 s), ?_,
    linSlot_sends_header _ hkind, by simp, by simp⟩
  simp only [exec, execLinSlotStart, if_neg hgo, hnext]

theorem gives_linHeaderReceive {ident : Nat} (hmode : (edgeChan n s).mode = 5) :
    Gives (.linHeaderReceive n ident false) s (edgeErr n 8 false false (countEdge n 17 s)) ∧
    (Tbl.get (edgeChan n s).ids ident 0 % 4 = 1 → Gives (.linHeaderReceive n ident true) s
      (setEdgeChan n { edgeChan n s with await := some (ident, none) } s)) := by
  have hgo : ¬((edgeChan n s).mode ≠ 5 ∨ ((edgeChan n s).state ≠ 3 ∧ (edgeChan n s).state ≠ 4) ∨ s.sleep.asleep = true) := by
    simp [hmode, hst, hawake]
  refine ⟨?_, fun hid => ?_⟩
  · simp only [Gives, exec, execLinHeaderReceive, if_neg hgo]
    rfl
  · simp only [Gives, exec, execLinHeaderReceive, if_neg hgo, hid]
    rfl

omit hawake in
theorem t1s_channel (hmode : (edgeChan n s).mode = 6) :
    Gives (.t1sBeaconTimeout n) s (countEdge n 24 (setEdgeChan n { edgeChan n s with beacon := false } s)) ∧
    Gives (.t1sJabber n) s (chanFault n 3 (edgeEv n 23 (countEdge n 25 s))).2 ∧
    (forwards s = true → halted (32 + n) s = false →
      Gives (.t1sTxOpportunity n 0 1) s (edgeErr n 11 false true (countEdge n 23 s)) ∧
      (∀ (k : Nat) (x : EdgeCopy), t1sLate n (fun y => windowPast (edgeChan n s) y s) s = s →
        (∀ j < 4, dropBad (256 + 4 * n + j) (ageQueue (256 + 4 * n + j) s) = s) →
        t1sPick n s = some (k, x) → x.edge = false → 60 ≤ x.bytes.length → x.bytes.length ≤ 1518 →
        Gives (.t1sTxOpportunity n 1 0) s
          (emit (.bus n x.bytes) (countN (32 + n) 3 x.bytes.length (countEdge n 2 (takeHead n k s)))))) := by
  refine ⟨?_, ?_, fun hfwd hhalt => ?_⟩
  · simp [Gives, exec, execT1sBeaconTimeout, hmode, hst]
  · simp [Gives, exec, execT1sJabber, hmode, hst]
  · have hgo : ¬((edgeChan n s).mode ≠ 6 ∨ (edgeChan n s).state ≠ 3 ∨ (!forwards s) = true ∨ halted (32 + n) s = true) := by
      simp [hmode, hst, hfwd, hhalt]
    refine ⟨?_, fun k x hlate hquiet hpick hedge h60 hmax => ?_⟩
    · simp only [Gives, exec, execT1sTxOpportunity, if_neg hgo, Nat.zero_min, t1sSend]
      rfl
    · have hone : min 1 (1 + u8 (edgeChan n s).plca 4) = 1 := by omega
      have hsend := t1sSend_one hlate hquiet hpick hedge h60 hmax
      simp only [Gives, exec, execT1sTxOpportunity, if_neg hgo, hone]
      exact congrArg Host.Outcome.next hsend

end

theorem flexRay_controller {f : Nat} {s : State} (hmode : (edgeChan (2 * f) s).mode = 7) (hst : (edgeChan (2 * f) s).state = 3)
    (hawake : s.sleep.asleep = false) :
    (∀ (slot cycle w : Nat), (frCtl f s).poc = 5 → (frCtl f s).bufs = [w] → frBufHit w true slot (some cycle) false = true →
      Gives (.frSlot f slot cycle) s (frSend f 0 slot s)) ∧
    Gives (.frPocChange f 6) s (edgeEv (2 * f) 22 (countEdge (2 * f) 20 (setFrCtl f { frCtl f s with poc := 6 } s))) := by
  refine ⟨fun slot cycle w hpoc hbufs hhit => ?_, ?_⟩
  · simp [Gives, exec, execFrSlot, hmode, hst, hpoc, hawake, hbufs, hhit, forEach]
  · simp [Gives, exec, execFrPocChange, hmode, hst, hawake]

/-- Settles O39: LIN slots, headers and timeouts, T1S and FlexRay, and the retirement by faults. -/
theorem linFlexRayAndT1sRun : Obligations.LinFlexRayAndT1sRun := by
  unfold Obligations.LinFlexRayAndT1sRun
  refine ⟨fun n lim s => rfl, fun n s hst hawake => ⟨fun e => ends_linSlotStart hst hawake, ?_,
    fun ident => gives_linHeaderReceive hst hawake, ?_, ?_, t1s_channel hst⟩, fun f s => flexRay_controller⟩
  · intro p hlin hwait
    simp [Gives, exec, execLinResponseTimeout, hlin, hwait]
  · intro hlin
    simp [Gives, exec, execLinStuckDominant, hlin, hst]
  · intro hfault
    simp [Gives, exec, execTrxFaultPersist, hfault, hst]

end Sys2Proof
end


section
/-! PROOF. The commands of edge channels (R301 to R327). -/

namespace Sys2Proof.Machine

open Sys2Proof

@[simp] theorem unitRetired_sets (ev b loc : Nat) (s : State) : (unitRetired ev b loc s).sets = s.sets := by
  simp [unitRetired]

@[simp] theorem flushHeld_sets (n : Nat) (s : State) : (flushHeld n s).sets = s.sets := by
  unfold flushHeld
  dsimp only
  repeat' split
  all_goals simp

@[simp] theorem chanSet_sets (st n : Nat) (s : State) : (chanSet st n s).sets = s.sets := by
  unfold chanSet
  dsimp only
  repeat' split
  all_goals simp

@[simp] theorem chanState_sets (n st : Nat) (s : State) : (chanState n st s).sets = s.sets := by
  refine forEach_sets _ _ _ fun _ _ => ?_
  simp

@[simp] theorem retireChan_sets (n : Nat) (s : State) : (retireChan n s).sets = s.sets := by
  refine forEach_sets _ _ _ fun _ _ => ?_
  simp

@[simp] theorem busOn_sets (n : Nat) (s : State) : (busOn n s).sets = s.sets := by
  simp [busOn]

@[simp] theorem modeSet_sets (n mode : Nat) (s : State) : (modeSet n mode s).sets = s.sets := by
  simp [modeSet]

@[simp] theorem modeWrite_sets (n mode : Nat) (s : State) : (modeWrite n mode s).sets = s.sets := by
  unfold modeWrite
  dsimp only
  repeat' split
  all_goals simp


theorem setListen_sets (n : Nat) (b : Bool) (s : State) :
    (forEach (partners n s) (fun k s => setEdgeChan k { edgeChan k s with listen := b } s) s).sets = s.sets :=
  forEach_sets _ _ _ fun _ _ => rfl

@[simp] theorem edgeStateOp_sets (n op : Nat) (s : State) : (edgeStateOp n op s).sets = s.sets := by
  unfold edgeStateOp
  dsimp only
  repeat' split
  all_goals simp [setListen_sets]

/-- Outside FlexRay a channel stands alone (R318). -/
theorem partners_alone {n : Nat} {s : State} (h : (edgeChan n s).mode < 7) : partners n s = [n] := by
  have h7 : (edgeChan n s).mode ≠ 7 := by omega
  have h8 : (edgeChan n s).mode ≠ 8 := by omega
  simp [partners, h7, h8]

end Sys2Proof.Machine

namespace Sys2Proof

open Machine

section
variable {mb : Nat} {p : Bytes} {s : State}

theorem edgeConfig_reads (hlen : p.length = 48) (hn : u8 p 0 < 96) (hop : u8 p 1 = 0) :
    ServesOver (.cmdEdgeConfig mb) mb 0x0300 p (edgeConfigRsp (u8 p 0) 0 s) s s := by
  refine servesOver_neither cmdEdgeConfig rfl (fun _ _ => readAny_op0 hop) (beq_iff_eq.mpr hlen) (fun _ _ => ?_) (fun _ _ => ?_) rfl rfl
  · simp [cmdEdgeConfig, need, hn, hop]
  · simp [cmdEdgeConfig, hop]

/-- A channel that is OFF, DOWN or RETIRED takes a mode below T1S whose rates hold (R301). -/
theorem edgeConfig_sets (hlen : p.length = 48) (hn : u8 p 0 < 96) (hop : u8 p 1 = 1) (htb : u8 p 3 < 6)
    (hst : (edgeChan (u8 p 0) s).state = 0 ∨ (edgeChan (u8 p 0) s).state = 1 ∨ (edgeChan (u8 p 0) s).state = 6)
    (hmode : u8 p 2 < 6) (hold : (edgeChan (u8 p 0) s).mode ≠ 8) :
    let t := timingApply (slice p 8 14)
    ratesOk (u8 p 2) (bit p 4 3) t = true →
    let v := modeWrite (u8 p 0) (u8 p 2) s
    let u := setEdgeChan (u8 p 0) { edgeChan (u8 p 0) v with
      tsTb := u8 p 3, flags := u8 p 4 % 16, timing := t, baud := clamp 1000 20000 (u32 p 24),
      ltWindow := [28, 32, 36, 40].map (fun i => min 1000000000 (u32 p i)) } v
    ServesOver (.cmdEdgeConfig 0) 0 0x0300 p (edgeConfigRsp (u8 p 0) 1 u) s u := by
  intro t hrates v u
  refine servesOver_neither cmdEdgeConfig rfl (fun _ _ => ?_) (beq_iff_eq.mpr hlen) (fun _ _ => ?_) (fun _ _ => ?_) ?_ rfl
  · simp [cmdEdgeConfig, readAny, readOps]
  · simp [cmdEdgeConfig, need, hn, hop, htb]
  · have hread : ¬u8 p 1 = 0 := by omega
    have hopen : ¬((edgeChan (u8 p 0) s).state ≠ 0 ∧ (edgeChan (u8 p 0) s).state ≠ 1 ∧ (edgeChan (u8 p 0) s).state ≠ 6) := by omega
    have ht1s : ¬(u8 p 2 = 6 ∧ (edgeChan (u8 p 0) s).mode ≠ 6 ∧ 24 ≤ t1sCount s) := by omega
    have h7 : u8 p 2 ≠ 7 := by omega
    have hok : ¬(8 ≤ u8 p 2 ∨ (edgeChan (u8 p 0) s).mode = 8 ∨ u8 p 2 = 7 ∧ (!frOk (u8 p 0) s) = true ∨
        (!ratesOk (u8 p 2) (bit p 4 3) t) = true) := by
      simp only [hold, h7, hrates, false_and, Bool.not_true, Bool.false_eq_true, or_false]
      omega
    simp only [cmdEdgeConfig, if_neg hread, if_neg hopen, if_neg ht1s]
    exact if_neg hok
  · simp [u, v]

theorem edgeState_moves (hlen : p.length = 4) (hn : u8 p 0 < 96) (hop : u8 p 1 ≤ 2) (h1 : 1 ≤ (edgeChan (u8 p 0) s).state)
    (h5 : (edgeChan (u8 p 0) s).state ≤ 5) (h8 : (edgeChan (u8 p 0) s).mode ≠ 8) (h6 : (edgeChan (u8 p 0) s).mode ≠ 6) :
    let u := edgeStateOp (u8 p 0) (u8 p 1) s
    ServesOver (.cmdEdgeState 0) 0 0x0301 p (b4 (edgeChan (u8 p 0) u).state) s u := by
  intro u
  refine servesOver_neither cmdEdgeState rfl (fun _ _ => rfl) (beq_iff_eq.mpr hlen) (fun _ _ => ?_) (fun _ _ => ?_) ?_ rfl
  · simp [cmdEdgeState, need, hn, hop]
  · have hoff : (edgeChan (u8 p 0) s).state ≠ 0 := by omega
    have hret : (edgeChan (u8 p 0) s).state ≠ 6 := by omega
    simp [cmdEdgeState, hoff, hret, h8, h6, u]
  · simp [u]

theorem edgeStatus_answers (hmb : mb < 5) (hlen : p.length = 1) (hn : u8 p 0 < 96) :
    Serves (.cmdEdgeStatus mb) mb 0x0302 p
      (b1 (edgeChan (u8 p 0) s).state ++ b1 (min 255 (edgeChan (u8 p 0) s).tec) ++ b1 (min 255 (edgeChan (u8 p 0) s).rec_) ++
        b1 (countIf (fun t => decide (now s < t + 60000000000)) (edgeChan (u8 p 0) s).faults) ++ b1 (edgeChan (u8 p 0) s).tmcIn ++
        b1 (nibbleOut (u8 p 0) s) ++ b1 (subState (u8 p 0) s) ++ b1 (heldCount (u8 p 0) s) ++ b4 (edgeChan (u8 p 0) s).lastFault)
      s s := by
  refine serves_neither cmdEdgeStatus rfl (fun _ _ => mbs_any hmb) (beq_iff_eq.mpr hlen) (fun _ _ => ?_) (fun _ _ => rfl) rfl rfl
  simp [cmdEdgeStatus, need, hn]

theorem edgeFilter_answers (hlen : p.length = 4 + 12 * u8 p 2) (h1 : 1 ≤ u8 p 2) (h16 : u8 p 2 ≤ 16) (hn : u8 p 0 < 96)
    (hfirst : u8 p 1 < 64) (hlast : u8 p 1 + u8 p 2 ≤ 64) (hmode : (edgeChan (u8 p 0) s).mode ≠ 6) :
    ReadsActive .cmdEdgeFilter 0x0303 p (slice p 0 3 ++ zeros 1 ++
      (List.range (u8 p 2)).flatMap (fun i => accEntry (activeSet s) (u8 p 0) (u8 p 1 + i))) s ∧
    SetsShadow (.cmdEdgeFilter 0) 0x0303 p (slice p 0 3 ++ zeros 1 ++
        (List.range (u8 p 2)).flatMap (fun i => accApply (slice p (4 + 12 * i) 12)))
      (fun c => (List.range (u8 p 2)).foldl (fun c i =>
        let e := accApply (slice p (4 + 12 * i) 12)
        { c with acceptance := Tbl.set c.acceptance (64 * u8 p 0 + (u8 p 1 + i)) e (zeros 12) }) c) s := by
  have hfits : cmdEdgeFilter.lenOk p = true := by simp [cmdEdgeFilter, h1, h16, hlen]
  have hidx (tag t mb : Nat) : cmdEdgeFilter.idx ⟨mb, 0x0303, tag, t, p⟩ s = stOk := by
    simp [cmdEdgeFilter, need, hn, hfirst, hlast]
  refine ⟨readsActive_either cmdEdgeFilter rfl hfits (fun _ => rfl) (fun mb h tag => mbs_any h) (fun mb tag => hidx tag 0 mb)
    (fun _ _ => ?_), setsShadow_either cmdEdgeFilter rfl hfits rfl (fun _ => rfl) (fun tag => hidx tag 1 0) (fun _ => ?_)⟩
  · simp only [cmdEdgeFilter, if_neg hmode, if_true]
  · simp only [cmdEdgeFilter, if_neg hmode, Nat.one_ne_zero, if_false]

theorem edgeRetire_retires (hlen : p.length = 1) (hn : u8 p 0 < 96) (h1 : 1 ≤ (edgeChan (u8 p 0) s).state)
    (h5 : (edgeChan (u8 p 0) s).state ≤ 5) (hmb : mb = 0 ∨ mb = 2) :
    Serves (.cmdEdgeRetire mb) mb 0x0304 p (b1 (u8 p 0)) s (retireChan (u8 p 0) s) := by
  refine serves_neither cmdEdgeRetire rfl (fun _ _ => ?_) (beq_iff_eq.mpr hlen) (fun _ _ => ?_) (fun _ _ => ?_) (by simp) rfl
  · rcases hmb with rfl | rfl <;> rfl
  · simp [cmdEdgeRetire, need, hn]
  · simp only [cmdEdgeRetire]
    split <;> rename_i h
    · omega
    · omega
    · rfl

theorem edgeReadmit_returns (hlen : p.length = 1) (hn : u8 p 0 < 96) (hst : (edgeChan (u8 p 0) s).state = 6)
    (htrx : (edgeChan (u8 p 0) s).trxFault = false) (hmode : (edgeChan (u8 p 0) s).mode < 7) :
    let v := chanSet (if (edgeChan (u8 p 0) s).mode = 0 then 0 else 1) (u8 p 0) s
    ServesOver (.cmdEdgeReadmit 0) 0 0x0305 p (b1 (u8 p 0)) s
      (setEdgeChan (u8 p 0) { edgeChan (u8 p 0) v with faults := [] } v) := by
  intro v
  refine servesOver_neither cmdEdgeReadmit rfl (fun _ _ => rfl) (beq_iff_eq.mpr hlen) (fun _ _ => ?_) (fun _ _ => ?_) ?_ rfl
  · simp [cmdEdgeReadmit, need, hn]
  · simp [cmdEdgeReadmit, hst, htrx, partners_alone hmode, forEach, v]
  · simp [v]

theorem linTable_answers (hlen : p.length = 4) (hn : u8 p 0 < 96) (htab : u8 p 2 < 4) :
    (u8 p 1 = 0 → isLin (edgeChan (u8 p 0) s).mode = true →
      Serves (.cmdLinTable mb) mb 0x0306 p (linRsp (u8 p 0) 0 (u8 p 2) s) s s) ∧
    (u8 p 1 = 3 → (edgeChan (u8 p 0) s).mode = 4 → (edgeChan (u8 p 0) s).state = 3 →
      Serves (.cmdLinTable 0) 0 0x0306 p (slice p 0 4) s
        (setEdgeChan (u8 p 0) { edgeChan (u8 p 0) s with select := some (u8 p 2) } s)) := by
  refine ⟨fun hop hlin => ?_, fun hop hmode hst => ?_⟩
  · refine serves_neither cmdLinTable rfl (fun _ _ => ?_) ?_ (fun _ _ => ?_) (fun _ _ => ?_) rfl rfl
    · simp [cmdLinTable, readOps, hop]
    · simp [cmdLinTable, hop, len, hlen]
    · simp [cmdLinTable, need, hn, hop, htab]
    · simp [cmdLinTable, hlin, hop]
  · refine serves_neither cmdLinTable rfl (fun _ _ => ?_) ?_ (fun _ _ => ?_) (fun _ _ => ?_) rfl rfl
    · simp [cmdLinTable, readOps]
    · simp [cmdLinTable, hop, len, hlen]
    · simp [cmdLinTable, need, hn, hop, htab]
    · simp [cmdLinTable, isLin, hmode, hop, hst]

theorem frConfig_answers (hn : u8 p 0 < 4) :
    (p.length = 4 → u8 p 1 = 0 → Serves (.cmdFrConfig mb) mb 0x0307 p (frRsp (u8 p 0) 0 s) s s) ∧
    (p.length = 68 → u8 p 1 = 1 → u16 p 2 = 0 → (edgeChan (2 * u8 p 0) s).mode = 7 → (edgeChan (2 * u8 p 0) s).state = 1 →
      u8 (frApply (slice p 4 64)) 1 ≠ 0 → frFits (frApply (slice p 4 64)) = true →
      let u := setFrCtl (u8 p 0) { frCtl (u8 p 0) s with block := frApply (slice p 4 64), bufs := [], tx := [] } s
      Serves (.cmdFrConfig 0) 0 0x0307 p (frRsp (u8 p 0) 1 u) s u) := by
  refine ⟨fun hlen hop => ?_, fun hlen hop hnone hmode hst hchan hfits => ?_⟩
  · refine serves_neither cmdFrConfig rfl (fun _ _ => readAny_op0 hop) ?_ (fun _ _ => ?_) (fun _ _ => ?_) rfl rfl
    · simp [cmdFrConfig, hop, len, hlen]
    · simp [cmdFrConfig, need, hn, hop]
    · simp [cmdFrConfig, hop]
  · refine serves_neither cmdFrConfig rfl (fun _ _ => ?_) ?_ (fun _ _ => ?_) (fun _ _ => ?_) rfl rfl
    · simp [cmdFrConfig, readAny, readOps]
    · simp [cmdFrConfig, hnone, hlen]
    · simp [cmdFrConfig, need, hn, hop]
    · simp [cmdFrConfig, hop, hnone, hmode, hst, hchan, hfits]

theorem t1sPlca_answers (hlen : p.length = 8) (hn : u8 p 0 < 96) (hmode : (edgeChan (u8 p 0) s).mode = 6) :
    (u8 p 1 = 0 → Serves (.cmdT1sPlca mb) mb 0x0308 p (b1 (u8 p 0) ++ b1 0 ++ (edgeChan (u8 p 0) s).plca) s s) ∧
    (u8 p 1 = 1 → (edgeChan (u8 p 0) s).state = 1 →
      let b := b1 (min 1 (u8 p 2)) ++ b1 (min 254 (u8 p 3)) ++ b1 (max 1 (u8 p 4)) ++ b1 (max 1 (u8 p 5)) ++ b1 (u8 p 6) ++
        b1 (max 1 (u8 p 7))
      Serves (.cmdT1sPlca 0) 0 0x0308 p (b1 (u8 p 0) ++ b1 1 ++ b) s
        (setEdgeChan (u8 p 0) { edgeChan (u8 p 0) s with plca := b } s)) := by
  refine ⟨fun hop => ?_, fun hop hst => ?_⟩
  · refine serves_neither cmdT1sPlca rfl (fun _ _ => readAny_op0 hop) (beq_iff_eq.mpr hlen) (fun _ _ => ?_) (fun _ _ => ?_) rfl rfl
    · simp [cmdT1sPlca, need, hn, hop]
    · simp [cmdT1sPlca, hop, hmode]
  · refine serves_neither cmdT1sPlca rfl (fun _ _ => ?_) (beq_iff_eq.mpr hlen) (fun _ _ => ?_) (fun _ _ => ?_) rfl rfl
    · simp [cmdT1sPlca, readAny, readOps]
    · simp [cmdT1sPlca, need, hn, hop]
    · simp only [cmdT1sPlca, hop, hmode, hst]
      rfl

theorem tmc_answers (hlen : p.length = 4) (hn : u8 p 0 < 6) :
    (u8 p 1 = 0 → Serves (.cmdTmc mb) mb 0x0309 p (tmcRsp (u8 p 0) 0 s) s s) ∧
    (u8 p 1 = 1 → u8 p 2 = 2 →
      let u := setEdgeCl (u8 p 0) { edgeCl (u8 p 0) s with use := 2, settleMs := min 100 (u8 p 3) } s
      Serves (.cmdTmc 0) 0 0x0309 p (tmcRsp (u8 p 0) 1 u) s u) := by
  refine ⟨fun hop => ?_, fun hop huse => ?_⟩
  · refine serves_neither cmdTmc rfl (fun _ _ => readAny_op0 hop) (beq_iff_eq.mpr hlen) (fun _ _ => ?_) (fun _ _ => ?_) rfl rfl
    · simp [cmdTmc, need, hn, hop]
    · simp [cmdTmc, hop]
  · refine serves_neither cmdTmc rfl (fun _ _ => ?_) (beq_iff_eq.mpr hlen) (fun _ _ => ?_) (fun _ _ => ?_) rfl rfl
    · simp [cmdTmc, readAny, readOps]
    · simp [cmdTmc, need, hn, hop]
    · simp [cmdTmc, hop, huse]

end

/-- Settles O41: each edge command, by what its body answers once the request has passed its checks. -/
theorem edgeCommandsAnswer : Obligations.EdgeCommandsAnswer := by
  unfold Obligations.EdgeCommandsAnswer
  exact fun mb p s hmb => ⟨edgeConfig_reads, edgeConfig_sets, edgeState_moves, edgeStatus_answers hmb, edgeFilter_answers,
    edgeRetire_retires, edgeReadmit_returns, linTable_answers, frConfig_answers,
    fun hlen hn hmode => t1sPlca_answers hlen hn hmode, tmc_answers⟩

end Sys2Proof
end


section
/-! PROOF. The gateway engine: programs, checks, generations, batches, reservations and port C (R328 to R356, R423). -/

namespace Sys2Proof.Machine

open Sys2Proof

@[simp] theorem freeChanged_gw (s : State) : (freeChanged s).gw = s.gw := by
  unfold freeChanged
  dsimp only
  repeat' split
  all_goals simp

@[simp] theorem freeChanged_press (s : State) : (freeChanged s).press = s.press := by
  unfold freeChanged
  dsimp only
  repeat' split
  all_goals simp

@[simp] theorem putFrame_gw (fid : Nat) (v : VFrame) (s : State) : (putFrame fid v s).gw = s.gw := by
  simp [putFrame]

@[simp] theorem putFrame_press (fid : Nat) (v : VFrame) (s : State) : (putFrame fid v s).press = s.press := by
  simp [putFrame]

@[simp] theorem dropFrame_gw (fid : Nat) (s : State) : (dropFrame fid s).gw = s.gw := by
  simp [dropFrame]

@[simp] theorem dropFrame_press (fid : Nat) (s : State) : (dropFrame fid s).press = s.press := by
  simp [dropFrame]

@[simp] theorem pfcSend_gw (t p quanta : Nat) (s : State) : (pfcSend t p quanta s).gw = s.gw := by
  simp [pfcSend]

@[simp] theorem pfcSend_press (t p quanta : Nat) (s : State) : (pfcSend t p quanta s).press = s.press := by
  simp [pfcSend]

@[simp] theorem pfcCheck_gw (t : Nat) (s : State) : (pfcCheck t s).gw = s.gw := by
  simp [pfcCheck, forEach_gw, apply_ite State.gw]

@[simp] theorem pfcCheck_press (t : Nat) (s : State) : (pfcCheck t s).press = s.press := by
  simp [pfcCheck, forEach_press, apply_ite State.press]

@[simp] theorem releaseRef_gw (fid : Nat) (s : State) : (releaseRef fid s).gw = s.gw := by
  unfold releaseRef
  repeat' split
  all_goals simp

@[simp] theorem releaseRef_press (fid : Nat) (s : State) : (releaseRef fid s).press = s.press := by
  unfold releaseRef
  repeat' split
  all_goals simp


@[simp] theorem dropHead_sets (q : Nat) (s : State) : (dropHead q s).sets = s.sets := by
  unfold dropHead dequeue
  cases copiesOf q s with
  | nil => rfl
  | cons x l => simp

@[simp] theorem dropHead_gw (q : Nat) (s : State) : (dropHead q s).gw = s.gw := by
  unfold dropHead dequeue
  cases copiesOf q s with
  | nil => rfl
  | cons x l => simp

@[simp] theorem dropHead_press (q : Nat) (s : State) : (dropHead q s).press = s.press := by
  unfold dropHead dequeue
  cases copiesOf q s with
  | nil => rfl
  | cons x l => simp

@[simp] theorem saveRecord_pair (s : State) : (saveRecord s).pair = s.pair := by
  simp [saveRecord]

/-! ### Frames held by the engine -/

/-- The state with the frames `l` held by the gateway. -/
def holding (l : List GwHeld) (s : State) : State := { s with gw := { s.gw with held := l } }

theorem holding_self {l : List GwHeld} {s : State} (h : s.gw.held = l) : holding l s = s := by
  subst h
  rfl

theorem countEntry_holding (t i : Nat) (l : List GwHeld) (s : State) : countEntry t i (holding l s) = holding l (countEntry t i s) := rfl

theorem putHeld_holding_single {h h' : GwHeld} (hnum : h.num = h'.num) (s : State) :
    putHeld h' (holding [h] s) = holding [h'] s := by
  simp [putHeld, holding, hnum]

/-- A single frame that waits for nothing leaves the engine (R332). -/
theorem gwFlush_holding_single {h : GwHeld} (hturn : h.wait = .turn) (s : State) :
    gwFlush (holding [h] s) = gwOutput h (holding [] s) := by
  simp [gwFlush, gwFlush.go, holding, hturn]

theorem setOf_congr {s t : State} (h : t.sets = s.sets) (g : Nat) : setOf g t = setOf g s := by
  unfold setOf activeSet shadowSet
  rw [h]

/-- With nothing held, the gateway is not blocked (R333). -/
theorem gwBlocked_of_nothing_held {c : CfgSet} {p : Bytes} {s : State} (h : s.gw.held = []) : gwBlocked c p s = false := by
  simp [gwBlocked, pressWaiting, countIf, h]

/-- A frame of a program without security is built at once (R336, R341). -/
theorem gwBuild_plain {h : GwHeld} {out : Bytes} {s : State}
    (hgen : bit (programOf (setOf h.frame.gen s) h.rewrite) 0 3 = false)
    (hout : buildOutput (programOf (setOf h.frame.gen s) h.rewrite) h.frame.bytes = .ok out) :
    gwBuild h false s = heldReady h out s := by
  simp [gwBuild, hout, hgen]

end Sys2Proof.Machine

namespace Sys2Proof

open Machine

section
variable {x : Copy} {v : VFrame} {s : State} (hfwd : forwards s = true) (hhalt : halted 131 s = false)
  (hquiet : dropBad 672 (ageQueue 672 s) = s) (hhead : gwHead s = some (x, v)) (hpass : v.frame.passes < 3)
  (h0 : mdKind x.md ≠ 0) (h6 : mdKind x.md ≠ 6) (htun : x.tunnel = none)
include hfwd hhalt hquiet hhead hpass h0 h6 htun

/-- A copy with neither tunnel nor program is discarded and counted (R330). -/
theorem gwCopyProcess_discards (hrw : x.rewrite = none) : Gives .gwCopyProcess s (countG 1 (countG 0 (dropHead 672 s))) := by
  have hloop : ¬3 ≤ v.frame.passes := Nat.not_le.mpr hpass
  simp [Gives, exec, execGwCopyProcess, hfwd, hhalt, hquiet, hhead, hloop, h0, h6, htun, hrw]

/-- A copy of a program without security re-enters as the program's output (R336, R341). -/
theorem gwCopyProcess_builds {r : Nat} {out : Bytes} (hrw : x.rewrite = some r) (hr : r < 2048) (hheld : s.gw.held = []) :
    let taken := countG 0 (dropHead 672 s)
    let p := programOf (setOf x.gen s) r
    bit p 0 0 = true → bit p 0 2 = false → bit p 0 3 = false → buildOutput p (copyBytes x s) = .ok out →
    Gives .gwCopyProcess s
      (let u := gwUnit { taken with gw := { taken.gw with nextNum := s.gw.nextNum + 1 } }
       countG 19 (reenter 131 { v.frame with bytes := out, edge := true, gen := x.gen, zone := some x.zone, launch := x.launch,
                                             prio := none, tsReq := none, passes := v.frame.passes + 1 }
         (countEntry (ecProgram 1) r (countEntry (ecProgram 0) r u)))) := by
  intro taken p hvalid hcheck hgen hout
  have hloop : ¬3 ≤ v.frame.passes := Nat.not_le.mpr hpass
  have hfree : gwBlocked (setOf x.gen s) p s = false := gwBlocked_of_nothing_held hheld
  let h : GwHeld := { num := s.gw.nextNum, rewrite := r, prio := mdPrio x.md, arrive := now s, out := copyBytes x s
                      authFailed := v.frame.authFailed
                      frame := { v.frame with bytes := copyBytes x s, gen := x.gen, zone := some x.zone, launch := x.launch
                                              prio := none, tsReq := none } }
  let u := gwUnit { taken with gw := { taken.gw with nextNum := s.gw.nextNum + 1 } }
  have htaken : taken.gw.held = [] := by simp [taken, countG, hheld]
  have hu : u.sets = s.sets := show (dropHead 672 s).sets = s.sets from dropHead_sets ..
  have hunits : gwUnit { taken with gw := { taken.gw with nextNum := s.gw.nextNum + 1, held := taken.gw.held ++ [h] } } =
      holding [h] u := by
    rw [htaken]
    rfl
  have hexec : exec .gwCopyProcess s = .next (gwFlush (gwBuild h false (countEntry (ecProgram 0) r (holding [h] u)))) := by
    rw [← hunits]
    simp only [p] at hvalid hcheck hfree
    simp [exec, execGwCopyProcess, hfwd, hhalt, hquiet, hhead, hloop, h0, h6, htun, hrw, hvalid, hcheck, hfree, taken, h]
  have hset : setOf x.gen (holding [h] (countEntry (ecProgram 0) r u)) = setOf x.gen s := setOf_congr hu x.gen
  have hbuild : gwBuild h false (holding [h] (countEntry (ecProgram 0) r u)) =
      heldReady h out (holding [h] (countEntry (ecProgram 0) r u)) :=
    gwBuild_plain (by rw [show h.frame.gen = x.gen from rfl, hset]; exact hgen)
      (by rw [show h.frame.gen = x.gen from rfl, hset]; exact hout)
  refine hexec.trans (congrArg Host.Outcome.next ?_)
  rw [countEntry_holding, hbuild, heldReady, if_pos (show h.rewrite < 2048 from hr), countEntry_holding,
    putHeld_holding_single (by rfl), gwFlush_holding_single rfl, holding_self]
  · rfl
  · exact htaken

end

section
variable {x : Copy} {rest : List Copy} {s : State} (hquiet : dropBad 674 (ageQueue 674 s) = s) (hhead : copiesOf 674 s = x :: rest)
  (hhalt : halted 132 s = false)
include hquiet hhead hhalt

/-- A copy without a program of port C is refused (R423). -/
theorem portCJob_refuses (hrw : x.rewrite = none) : Gives .portCJob s (count 132 2 (dropHead 674 s)) := by
  simp only [Gives, exec, execPortCJob, hquiet, hhead, hhalt, hrw]
  rw [if_neg Bool.false_ne_true]
  split
  · rfl
  · exact if_pos (.inl rfl)

/-- A job that decrypts is submitted to class 4 of the Press (R423). -/
theorem portCJob_submits {r : Nat} (hrw : x.rewrite = some r) (hr : r < 256) :
    let job := cJobOf (setOf x.gen s) r
    let b := copyBytes x s
    let p := u16 job 4
    let data := b.length - 28 - p
    u8 job 2 = 0 → bit job 0 0 = true → bit job 0 1 = true → p + 28 ≤ b.length →
    Ends .portCJob s (fun t => ∃ f : Frame,
      let desc := b1 3 ++ b1 1 ++ b1 (u8 job 1) ++ b1 0 ++ b4 data ++ b4 (p + 12) ++ b1 2 ++ b1 2 ++ b1 16 ++ b1 0 ++
        zeros 16 ++ slice b p 12 ++ zeros 4
      let src := setBytes b p (slice b p 12)
      f.bytes = src ∧
      (let u := dropHead 674 s
       let v : State := { u with press := { u.press with
          nextJob := s.press.nextJob + 1
          jobs := Tbl.insert s.press.jobs s.press.nextJob { copy := x, frame := f, data := p + 12, inverse := true } } }
       t = pressSubmit 4 { desc := desc, origin := .portC s.press.nextJob,
                           src := some (src.take (p + 12 + data) ++ src.drop (b.length - 16)) } (count 132 0 v))) := by
  intro job b p data hwhere hvalid hinv hfits
  have hpress := dropHead_press 674 s
  have hgo : ¬((some r).isNone = true ∨ 255 < r ∨ (!bit (cJobOf (setOf x.gen s) r) 0 0) = true ∨
      (copyBytes x s).length < 0 + u16 (cJobOf (setOf x.gen s) r) 4 + 28) := by
    simp only [job, b, p] at hvalid hfits
    simp only [Option.isNone_some, Bool.false_eq_true, hvalid, Bool.not_true, false_or, Nat.zero_add]
    omega
  refine ⟨_, ?_, { ((frameOf x.fid s).map (·.frame)).getD {} with
    bytes := setBytes b p (slice b p 12), zone := some x.zone, gen := x.gen, launch := none, prio := none, tsReq := none }, rfl, rfl⟩
  simp only [job] at hwhere hinv
  simp only [exec, execPortCJob, hquiet, hhead, hhalt, hrw, Option.getD_some, if_pos hwhere]
  rw [if_neg Bool.false_ne_true, if_neg hgo]
  simp only [hinv, if_true, Nat.zero_add, hpress]
  rfl

end

/-- Settles O42: the copy at the head, the answers of the Press, batches, reservations and the jobs of port C. -/
theorem theGatewayEngineRuns : Obligations.TheGatewayEngineRuns := by
  unfold Obligations.TheGatewayEngineRuns
  refine ⟨fun x v s hfwd hhalt hquiet hhead hpass h0 h6 htun =>
    ⟨gwCopyProcess_discards hfwd hhalt hquiet hhead hpass h0 h6 htun,
      fun r out => gwCopyProcess_builds hfwd hhalt hquiet hhead hpass h0 h6 htun⟩, ?_, ?_, ?_, ?_, ?_, ?_, ?_, ?_⟩
  · intro n st z rest h s hans hheld
    simp [Gives, exec, execGwPressCompletion, hans, hheld]
  · intro h prof c mac st z s hwait p
    refine ⟨fun hst => ?_, fun hmac => ?_, fun hmac => ?_⟩
    · simp only [gwAnswer, hwait, if_pos hst]
    · simp only [gwAnswer, hwait]
      exact if_pos hmac
    · simp only [gwAnswer, hwait]
      exact if_neg (not_not_intro hmac)
  · intro h prof c st z s hwait p at_
    refine ⟨fun hst => ?_, ?_⟩
    · simp only [gwAnswer, hwait, if_pos hst]
    · simp only [gwAnswer, hwait]
      rfl
  · intro n h s hheld hans
    simp [Gives, exec, execGwPressTimeout, hheld, hans]
  · intro n b s hb hfwd due hdue
    simp only [due] at hdue
    simp [Gives, exec, execBatchCloseTimer, hb, hfwd, hdue, due]
  · intro s hph hawake
    simp [Gives, exec, execFvSaveTimer, hph, hawake]
  · intro i v s hnext hpair u
    have hst : ¬(saveRecord { s with gw := { s.gw with resvNext := Tbl.erase s.gw.resvNext i } }).pair.state = 2 := by
      rw [saveRecord_pair]
      exact hpair
    simp only [Gives, exec, execFvReservationCommit, hnext, if_neg hst, u]
  · exact fun x rest s hquiet hhead hhalt => ⟨portCJob_refuses hquiet hhead hhalt, fun r => portCJob_submits hquiet hhead hhalt⟩

end Sys2Proof
end

section
/-! PROOF. The commands of the gateway (R328 to R358). -/

namespace Sys2Proof.Machine

open Sys2Proof

/-! ### What a check of the reservations leaves -/

/-- The state with other reservations that wait to be saved. -/
def reserving (t : Tbl Nat) (s : State) : State := { s with gw := { s.gw with resvNext := t } }

theorem reserveCheck_reserving (i : Nat) (s : State) : ∃ t, reserveCheck i s = reserving t s := by
  unfold reserveCheck
  dsimp only
  split
  · exact ⟨_, rfl⟩
  · exact ⟨s.gw.resvNext, rfl⟩

theorem forEach_reserveCheck_reserving (l : List Nat) (s : State) : ∃ t, forEach l reserveCheck s = reserving t s := by
  unfold forEach
  induction l generalizing s with
  | nil => exact ⟨s.gw.resvNext, rfl⟩
  | cons i l ih =>
    obtain ⟨t, ht⟩ := reserveCheck_reserving i s
    obtain ⟨t', ht'⟩ := ih (reserving t s)
    exact ⟨t', by rw [List.foldl_cons, ht, ht']; rfl⟩

theorem clamp_of_mem {lo hi v : Nat} (h1 : lo ≤ v) (h2 : v ≤ hi) : clamp lo hi v = v := by
  unfold clamp
  rw [if_neg (Nat.not_lt.mpr h1), if_neg (Nat.not_lt.mpr h2)]

theorem activeSet_congr {s t : State} (h : t.sets = s.sets) : activeSet t = activeSet s := by
  unfold activeSet
  rw [h]

/-- Writing freshness values leaves the sets, so the counters that generations use may be read from them at any step. -/
theorem forEach_writeFv_congr {l : List Nat} {gens : List Nat} {at_ v : Nat → Nat} {s : State}
    (h : fvUsers true (activeSet s) = gens) :
    forEach l (fun i s => if gens.contains (at_ i) then reserveCheck (at_ i) (setFv (at_ i) (v i) s) else setFv (at_ i) (v i) s) s =
      forEach l (fun i s => if (fvUsers true (activeSet s)).contains (at_ i) then reserveCheck (at_ i) (setFv (at_ i) (v i) s)
        else setFv (at_ i) (v i) s) s := by
  unfold forEach
  induction l generalizing s with
  | nil => rfl
  | cons i l ih =>
    simp only [List.foldl_cons, h]
    refine ih ?_
    have hsets : (if gens.contains (at_ i) then reserveCheck (at_ i) (setFv (at_ i) (v i) s) else setFv (at_ i) (v i) s).sets =
        s.sets := by split <;> simp
    exact (congrArg (fvUsers true) (activeSet_congr hsets)).trans h

/-- What CMD_GW_STATUS answers of a state (R328, R358). -/
def gwStatusRsp (op : Nat) (s : State) : Bytes :=
  b1 op ++ zeros 3 ++ b4 s.gw.fvSave ++ b4 s.gw.fvSkip ++ b4 (1000 * countIf (fun t => decide (now s < t + 1000000)) s.gw.units) ++
    b4 (batchMem s) ++ b2 s.gw.batches.length ++ b2 (pressWaiting s)

end Sys2Proof.Machine

namespace Sys2Proof

open Machine

theorem gwTunnel_answers {n : Nat} {p : Bytes} {s : State} (hlen : p.length = 164) (hn : u16 p 0 = n) (hlt : n < 512) :
    ReadsActive .cmdGwTunnel 0x0400 p (b2 n ++ zeros 2 ++ tunnelOf (activeSet s) n) s ∧
    (u8 p 5 < 6 → tunnelConflict (slice p 4 160) = false →
      let b := tunnelApply (slice p 4 160)
      SetsShadow (.cmdGwTunnel 0) 0x0400 p (b2 n ++ zeros 2 ++ b) (fun c => { c with tunnels := Tbl.set c.tunnels n b tunnel0 }) s) := by
  subst hn
  refine ⟨readsActive_either cmdGwTunnel rfl (beq_iff_eq.mpr hlen) (fun _ => rfl) (fun _ h _ => decide_eq_true h) (fun _ _ => ?_) (fun _ _ => rfl),
    fun htb hok => setsShadow_either cmdGwTunnel rfl (beq_iff_eq.mpr hlen) rfl (fun _ => rfl) (fun _ => ?_) (fun _ => ?_)⟩
  · simp [cmdGwTunnel, need, hlt]
  · simp [cmdGwTunnel, need, hlt, htb]
  · simp [cmdGwTunnel, hok]

theorem gwProgram_answers {n : Nat} {p : Bytes} {s : State} (hlen : p.length = 228) (hn : u16 p 0 = n) (hlt : n < 2048) :
    ReadsActive .cmdGwProgram 0x0401 p (b2 n ++ zeros 2 ++ programOf (activeSet s) n) s ∧
    ((bit p 4 2 = true → u16 p 26 < 4096) → (bit p 4 3 = true → u16 p 28 < 4096) →
      let b := programApply (slice p 4 224)
      programConflict (shadowSet s) b = false →
      SetsShadow (.cmdGwProgram 0) 0x0401 p (b2 n ++ zeros 2 ++ b) (fun c => { c with programs := Tbl.set c.programs n b program0 }) s) := by
  subst hn
  refine ⟨readsActive_either cmdGwProgram rfl (beq_iff_eq.mpr hlen) (fun _ => rfl) (fun _ h _ => decide_eq_true h) (fun _ _ => ?_) (fun _ _ => rfl),
    fun hcheck hgen => ?_⟩
  · simp [cmdGwProgram, need, hlt]
  intro b hok
  refine setsShadow_either cmdGwProgram rfl (beq_iff_eq.mpr hlen) rfl (fun _ => rfl) (fun _ => ?_) (fun _ => ?_)
  · have hc : (!bit p 4 2 || decide (u16 p 26 < 4096)) = true := by
      cases h : bit p 4 2
      · rfl
      · simp [hcheck h]
    have hg : (!bit p 4 3 || decide (u16 p 28 < 4096)) = true := by
      cases h : bit p 4 3
      · rfl
      · simp [hgen h]
    simp only [cmdGwProgram, need, decide_eq_true hlt, hc, hg, Bool.and_self, Bool.or_true, if_true]
  · simp only [b] at hok
    simp [cmdGwProgram, hok, b]

theorem gwSecoc_answers {n : Nat} {p : Bytes} {s : State} (hlen : p.length = 36) (hn : u16 p 0 = n) (hlt : n < 4096) :
    ReadsActive .cmdGwSecoc 0x0402 p (b2 n ++ zeros 2 ++ secocOf (activeSet s) n) s ∧
    (u8 p 13 < 6 → u16 p 14 < 16384 →
      let b := secocApply (slice p 4 32)
      scTxBits b ≤ scFullBits b →
      SetsShadow (.cmdGwSecoc 0) 0x0402 p (b2 n ++ zeros 2 ++ b) (fun c => { c with secoc := Tbl.set c.secoc n b secoc0 }) s) := by
  subst hn
  refine ⟨readsActive_either cmdGwSecoc rfl (beq_iff_eq.mpr hlen) (fun _ => rfl) (fun _ h _ => decide_eq_true h) (fun _ _ => ?_) (fun _ _ => rfl),
    fun htb hi => ?_⟩
  · simp [cmdGwSecoc, need, hlt]
  intro b hok
  refine setsShadow_either cmdGwSecoc rfl (beq_iff_eq.mpr hlen) rfl (fun _ => rfl) (fun _ => ?_) (fun _ => ?_)
  · simp [cmdGwSecoc, need, hlt, htb, hi]
  · simp only [b] at hok
    simp [cmdGwSecoc, Nat.not_lt.mpr hok, b]

theorem gwFreshness_answers {mb a n : Nat} {p : Bytes} {s : State} (ha : u32 p 4 = a) (hn : u16 p 2 = n) (h1 : 1 ≤ n) (h64 : n ≤ 64)
    (hin : a + n ≤ 16384) :
    let answer (u : State) : Bytes := b4 a ++ b2 n ++ zeros 2 ++ (List.range n).flatMap (fun i => b8 (fvOf (a + i) u))
    (u8 p 0 = 0 → p.length = 8 → Serves (.cmdGwFreshness mb) mb 0x0403 p (answer s) s s) ∧
    (u8 p 0 = 1 → p.length = 8 + 8 * n →
      let u := forEach (List.range n) (fun i s =>
        let v := setFv (a + i) (u64 p (8 + 8 * i)) s
        if (fvUsers true (activeSet s)).contains (a + i) then reserveCheck (a + i) v else v) s
      Serves (.cmdGwFreshness 0) 0 0x0403 p (answer u) s u) := by
  subst ha hn
  have hclamp := clamp_of_mem h1 h64
  have hlow : u32 p 4 < 16384 := by omega
  refine ⟨fun hop hlen => ?_, fun hop hlen => ?_⟩
  · refine serves_neither cmdGwFreshness rfl (fun _ _ => readAny_op0 hop) ?_ (fun _ _ => ?_) (fun _ _ => ?_) rfl rfl
    · simp [cmdGwFreshness, hop, hlen]
    · simp [cmdGwFreshness, need, hop, hclamp, hlow, hin]
    · simp [cmdGwFreshness, hop, hclamp]
  · intro u
    refine serves_neither cmdGwFreshness rfl (fun _ _ => ?_) ?_ (fun _ _ => ?_) (fun _ _ => ?_) ?_ rfl
    · simp [cmdGwFreshness, readAny, readOps]
    · simp [cmdGwFreshness, hop, hlen, h1, h64]
    · simp [cmdGwFreshness, need, hop, hclamp, hlow, hin]
    · simp only [cmdGwFreshness, hop, hclamp, if_true]
      rw [forEach_writeFv_congr (gens := fvUsers true (activeSet s)) rfl]
    · refine congrArg (·.gen) (forEach_sets _ _ _ fun i s => ?_)
      dsimp only
      split <;> simp

theorem gwStatus_answers {mb : Nat} {p : Bytes} {s : State} (hlen : p.length = 12) :
    let answer (u : State) : Bytes := b1 (u8 p 0) ++ zeros 3 ++ b4 u.gw.fvSave ++ b4 u.gw.fvSkip ++
      b4 (1000 * countIf (fun t => decide (now s < t + 1000000)) s.gw.units) ++ b4 (batchMem s) ++ b2 s.gw.batches.length ++
      b2 (pressWaiting s)
    (u8 p 0 = 0 → Serves (.cmdGwStatus mb) mb 0x0404 p (answer s) s s) ∧
    (u8 p 0 = 1 →
      let u : State := { s with gw := { s.gw with fvSave := clamp 10 3600 (u32 p 4), fvSkip := max 1024 (u32 p 8) } }
      Serves (.cmdGwStatus 0) 0 0x0404 p (answer u) s (forEach (fvUsers true (activeSet s)) reserveCheck u)) := by
  refine ⟨fun hop => ?_, fun hop => ?_⟩
  · refine serves_neither cmdGwStatus rfl (fun _ _ => readAny_op0 hop) (beq_iff_eq.mpr hlen) (fun _ _ => ?_) (fun _ _ => ?_) rfl rfl
    · simp [cmdGwStatus, need, hop]
    · simp [cmdGwStatus, hop]
  · intro u
    obtain ⟨t, ht⟩ := forEach_reserveCheck_reserving (fvUsers true (activeSet s)) u
    refine serves_neither cmdGwStatus rfl (fun _ _ => ?_) (beq_iff_eq.mpr hlen) (fun _ _ => ?_) (fun _ _ => ?_) (by rw [ht]; rfl) rfl
    · simp [cmdGwStatus, readAny, readOps]
    · simp [cmdGwStatus, need, hop]
    · have hbody (tag t : Nat) : cmdGwStatus.body ⟨0, 0x0404, tag, t, p⟩ s = ok
          (gwStatusRsp (u8 p 0) (forEach (fvUsers true (activeSet s)) reserveCheck u)) (forEach (fvUsers true (activeSet s)) reserveCheck u) := by
        simp only [cmdGwStatus, if_pos hop]
        rfl
      refine (hbody ..).trans ?_
      rw [ht]
      rfl

/-- Settles O43: each command reads the active set or writes the shadow, or acts on the counters. -/
theorem gatewayCommandsAnswer : Obligations.GatewayCommandsAnswer := by
  unfold Obligations.GatewayCommandsAnswer
  refine ⟨fun n p s => gwTunnel_answers, fun n p s => gwProgram_answers, fun n p s => gwSecoc_answers,
    fun mb a n p s => gwFreshness_answers, fun mb p s => gwStatus_answers, ?_⟩
  intro mb p s hlen htab hwho e a hfirst n keys
  refine serves_neither cmdGwCounters rfl (fun _ _ => ?_) (beq_iff_eq.mpr hlen) (fun _ _ => ?_) (fun _ _ => rfl) ?_ rfl
  · rcases hwho with h | h <;> simp [cmdGwCounters, h]
  · simp only [cmdGwCounters, need, decide_eq_true htab, decide_eq_true (show u32 p 4 < (gwTable (u8 p 0)).2.2 from hfirst)]
    rfl
  · split
    · refine congrArg (·.gen) (forEach_sets _ _ _ fun i s => ?_)
      rfl
    · rfl

end Sys2Proof
end

section
/-! PROOF. Ports and lanes: link states, negotiation, MDIO, TC10, PHY wake and MKA (R359 to R392, R447). -/

namespace Sys2Proof.Machine

open Sys2Proof

/-- A port that trains and whose conditions hold comes UP (R366). -/
theorem linkUp_of_conditions {p : Nat} {s : State} (hst : (ethPort p s).state = 1) (hup : upConditions p s = true)
    (hkept : keptDown p s = false) :
    linkUp p s = linkEvent p 0
      (let u := enterState p 2 0 s
       let pr := (egrOf p s).preempt
       setEgr p { egrOf p s with preempt := { pr with state := if !pr.en then 0 else if pr.verifyEn then 1 else 2, attempts := 0 } } u) := by
  have hgo : (ethPort p s).state = 1 ∧ upConditions p s = true ∧ (!keptDown p s) = true := ⟨hst, hup, by simp [hkept]⟩
  unfold linkUp
  rw [if_pos hgo]
  rfl

/-- A port that is UP and misses a condition trains again; outside a TC10 handshake that is a link fault (R366, R369). -/
theorem linkDown_of_condition {p : Nat} {s : State} (hst : (ethPort p s).state = 2) (hup : upConditions p s = false) :
    let u := linkEvent p 1 (cutWire p (enterState p 1 (downCause p s) s))
    linkDown p s = if (ethPort p s).tc10 then u else linkFault p u := by
  have hgo : (ethPort p s).state = 2 ∧ (!upConditions p s) = true := ⟨hst, by simp [hup]⟩
  unfold linkDown
  rw [if_pos hgo, leaveUp, if_pos hst]

end Sys2Proof.Machine

namespace Sys2Proof

open Machine

theorem gives_pcsConditionChange {p errs corr unc : Nat} {lock laneLock lf rf : Bool} {s : State} (hlf : lf = (ethPort p s).localFault)
    (hrf : rf = (ethPort p s).remoteFault) :
    let l := laneOf (laneNo p) s
    let u := setLane (laneNo p) { l with lock := laneLock, lossCounted := l.lossCounted && !laneLock }
      (setEthPort p { ethPort p s with pcs := lock } s)
    let v := countN p 14 errs (countN p 15 corr (countN p 16 unc u))
    Gives (.pcsConditionChange p lock laneLock lf rf errs corr unc) s (if 0 < unc then linkEvent p 10 v else v) := by
  subst hlf hrf
  simp only [Gives, exec, execPcsConditionChange, Bool.and_not_self, Bool.false_eq_true, if_false]
  rfl

/-- The partner's word is judged by the lane's mode (R365). -/
theorem gives_anControlWord {p w sp : Nat} {lk dx : Bool} {s : State} (han : (ethPort p s).an = true) :
    let m := (laneOf (laneNo p) s).mode
    let u := setEthPort p { ethPort p s with word := w } s
    let judged (good : Bool) (why : Nat) : State := setEthPort p { ethPort p u with anOk := good, anWhy := why } u
    (m = 2 → Gives (.anControlWord p w lk true sp) s (judged true 0) ∧
      Gives (.anControlWord p w lk false sp) s (linkEvent p 5 (judged false 4))) ∧
    (m = 1 ∨ m = 3 ∨ m = 7 ∨ m = 8 →
      Gives (.anControlWord p w true true (ethPort p s).rate) s (judged true 0) ∧
      (¬(lk = true ∧ dx = true ∧ sp = (ethPort p s).rate) →
        Gives (.anControlWord p w lk dx sp) s (linkEvent p 6 (count p 18 (judged false 5))))) := by
  intro m u judged
  refine ⟨fun hm => ?_, fun hm => ?_⟩
  · have hm2 : (laneOf (laneNo p) s).mode = 2 := hm
    exact ⟨by simp [Gives, exec, execAnControlWord, han, hm2, judged, u],
      by simp [Gives, exec, execAnControlWord, han, hm2, judged, u]⟩
  · have hm2 : ¬(laneOf (laneNo p) s).mode = 2 := by
      rcases hm with h | h | h | h <;> exact fun h2 => by simp [m, h2] at h
    have hgo : ¬((!(ethPort p s).an) = true ∨ (laneOf (laneNo p) s).mode = 0 ∨ (laneOf (laneNo p) s).mode = 4 ∨
        (laneOf (laneNo p) s).mode = 5 ∨ (laneOf (laneNo p) s).mode = 6) := by
      simp only [han, Bool.not_true, Bool.false_eq_true, false_or]
      rcases hm with h | h | h | h <;> (simp only [m] at h; omega)
    refine ⟨?_, fun hbad => ?_⟩
    · simp only [Gives, exec, execAnControlWord, if_neg hgo, if_neg hm2, Bool.and_self, beq_self_eq_true, if_true]
      rfl
    · have hno : (lk && dx && sp == (ethPort p s).rate) = false := by
        cases hlk : lk <;> cases hdx : dx <;> simp_all
      simp only [Gives, exec, execAnControlWord, if_neg hgo, if_neg hm2, hno, Bool.false_eq_true, if_false]
      rfl

/-- MDIO answers the mailbox that asked (R370). -/
theorem gives_mdioTransactionComplete {b v mb : Nat} {o : MdioOp} {r : Req} {s : State} (hbusy : (mdioOf b s).busy = some o)
    (hfrom : o.origin = .mailbox mb) (hnone : (mdioOf b s).queue = []) (hcur : (mbOf mb s).cur = some r) :
    Gives (.mdioTransactionComplete b v) s (mbDone mb stOk s.sets.gen (slice r.params 0 6 ++ b2 (o.write.getD v))
      (setMdio b { mdioOf b s with busy := none } s)) := by
  have hcur' : (mbOf mb (setMdio b { mdioOf b s with busy := none } s)).cur = some r := hcur
  simp only [Gives, exec, execMdioTransactionComplete, hbusy, hfrom, hnone]
  simp only [hnone] at hcur'
  simp only [hcur']
  rfl

theorem gives_tc10 {l v : Nat} {s : State} (hon : (tc10Of l s).on = true) :
    let p := phyOf l s
    let u := emit (.mdio p.bus p.addr (if p.clause = 22 then 0 else p.mmd) p.statusReg none) s
    (v &&& p.statusMask = p.statusSleep → Gives (.tc10StatusPoll l v) s (membersChanged u (laneEnds l 3 0 u))) ∧
    (v &&& p.statusMask ≠ p.statusSleep → Gives (.tc10StatusPoll l v) s u) ∧
    Gives (.tc10AckTimeout l) s (membersChanged s (laneEnds l 1 1 (phyWrite l p.sleepReg p.wakeVal s))) := by
  intro p u
  refine ⟨fun hsleeps => ?_, fun hnot => ?_, ?_⟩
  · simp only [Gives, exec, execTc10StatusPoll, if_pos hon]
    exact if_pos hsleeps
  · simp only [Gives, exec, execTc10StatusPoll, if_pos hon]
    exact if_neg hnot
  · simp only [Gives, exec, execTc10AckTimeout, if_pos hon]
    rfl

theorem gives_mkaFrameReceive {p st an peer txSsci rxSsci : Nat} {salt : Bytes} {s : State} :
    let u := takeVintner p 0x888E s
    let m := macsecOf p u
    mkaOn p u = true → slotCheck 6 m.cakSlot 4 false u = 0 →
    let v := mkaEnter p st (invoke m.cakSlot u)
    Gives (.mkaFrameReceive p st an none peer txSsci rxSsci salt) s v ∧
    ∀ key, Gives (.mkaFrameReceive p st an (some key) peer txSsci rxSsci salt) s (mkaInstall p (an % 4) key peer txSsci rxSsci salt v) := by
  intro u m hon hslot
  have hgo : mkaOn p (takeVintner p 0x888E s) = true ∧
      slotCheck 6 (macsecOf p (takeVintner p 0x888E s)).cakSlot 4 false (takeVintner p 0x888E s) = 0 := ⟨hon, hslot⟩
  exact ⟨by simp only [Gives, exec, execMkaFrameReceive, if_pos hgo]; rfl,
    fun key => by simp only [Gives, exec, execMkaFrameReceive, if_pos hgo]; rfl⟩

/-- Settles O44: link states, negotiation, MDIO, TC10, PHY wake and MKA. -/
theorem portsAndLanesRun : Obligations.PortsAndLanesRun := by
  unfold Obligations.PortsAndLanesRun
  refine ⟨fun p errs corr unc lock laneLock lf rf s => gives_pcsConditionChange, ?_, ?_, fun p w sp lk dx s => gives_anControlWord,
    fun b v mb o r s => gives_mdioTransactionComplete, fun l v s => gives_tc10, ?_,
    fun p st an peer txSsci rxSsci salt s => gives_mkaFrameReceive, ?_⟩
  · exact fun p s hst hup hkept => congrArg (fun t => Host.Outcome.next (membersChanged s t)) (linkUp_of_conditions hst hup hkept)
  · exact fun p s hst hup => congrArg (fun t => Host.Outcome.next (membersChanged s t)) (linkDown_of_condition hst hup)
  · intro l s hl hawake
    have hl' : ¬14 ≤ l := by omega
    have hup : ¬s.sleep.asleep = true := by simp [hawake]
    simp only [Gives, exec, execPhyWakeInput, if_neg hl', if_neg hup]
    rfl
  · intro p s hon
    simp only [Gives, exec, execMkaHelloTimer, if_pos hon, Bool.false_eq_true, false_and, if_false]
    rfl

end Sys2Proof
end


section
/-! PROOF. The commands of lanes, ports, PHYs and MACsec (R359 to R392). -/

namespace Sys2Proof.Machine

open Sys2Proof

@[simp] theorem unlinkQueue_sets (q : Nat) (s : State) : (unlinkQueue q s).2.sets = s.sets := by
  refine forEach_sets _ _ _ fun _ _ => ?_
  dsimp only
  repeat' split
  all_goals simp

@[simp] theorem forgetParse_sets (fid : Nat) (s : State) : (forgetParse fid s).sets = s.sets := by
  simp [forgetParse]

@[simp] theorem portReset_sets (p : Nat) (s : State) : (portReset p s).2.sets = s.sets := by
  refine (setVatPort_sets ..).trans (foldl_keeps (fun a : _ × State => a.2.sets) _ _ _ fun acc q => ?_)
  simp

@[simp] theorem txCheck_sets (p : Nat) (s : State) : (txCheck p s).sets = s.sets := by
  unfold txCheck
  dsimp only
  repeat' split
  all_goals simp

@[simp] theorem linkEvent_sets (p b : Nat) (s : State) : (linkEvent p b s).sets = s.sets := by
  unfold linkEvent
  repeat' split
  all_goals simp

@[simp] theorem invertOnWire_sets (fid idx : Nat) (s : State) : (invertOnWire fid idx s).sets = s.sets := by
  refine forEach_sets _ _ _ fun _ _ => ?_
  dsimp only
  repeat' split
  all_goals simp

@[simp] theorem abortFrame_sets (fid : Nat) (s : State) : (abortFrame fid s).sets = s.sets := by
  unfold abortFrame
  dsimp only
  repeat' split
  all_goals simp [forEach_sets]

@[simp] theorem dropRx_sets (p : Nat) (s : State) : (dropRx p s).2.sets = s.sets := by
  unfold dropRx
  repeat' split
  all_goals simp

@[simp] theorem enterState_sets (p st cause : Nat) (s : State) : (enterState p st cause s).sets = s.sets := by
  simp [enterState]

@[simp] theorem cutWire_sets (p : Nat) (s : State) : (cutWire p s).sets = s.sets := by
  unfold cutWire
  dsimp only
  repeat' split
  all_goals simp

@[simp] theorem leaveUp_sets (p st cause : Nat) (s : State) : (leaveUp p st cause s).sets = s.sets := by
  unfold leaveUp
  repeat' split
  all_goals simp

@[simp] theorem refusePort_sets (p st cause : Nat) (s : State) : (refusePort p st cause s).sets = s.sets := by
  simp [refusePort]

@[simp] theorem retirePort_sets (p : Nat) (s : State) : (retirePort p s).sets = s.sets := by
  unfold retirePort
  repeat' split
  all_goals simp

@[simp] theorem mdioStart_sets (b : Nat) (o : MdioOp) (s : State) : (mdioStart b o s).sets = s.sets := by
  simp [mdioStart]

@[simp] theorem mdioAsk_sets (b : Nat) (o : MdioOp) (s : State) : (mdioAsk b o s).sets = s.sets := by
  unfold mdioAsk
  dsimp only
  repeat' split
  all_goals simp

@[simp] theorem phyWrite_sets (l reg v : Nat) (s : State) : (phyWrite l reg v s).sets = s.sets := by
  simp [phyWrite]

@[simp] theorem laneWake_sets (l : Nat) (s : State) : (laneWake l s).sets = s.sets := by
  refine forEach_sets _ _ _ fun _ _ => ?_
  repeat' split
  all_goals simp

@[simp] theorem setSc_sets (p n : Nat) (c : RxSc) (s : State) : (setSc p n c s).sets = s.sets := by
  simp [setSc]

/-- A rate within which the schedules are held again leaves the generation (R371). -/
@[simp] theorem setRate_gen (p r : Nat) (s : State) : (setRate p r s).sets.gen = s.sets.gen := by
  unfold setRate
  split <;> rfl

/-- Lane 14 takes mode 1 (R360). -/
theorem modeConflict_service (fec : Nat) (s : State) : modeConflict 14 1 fec s = false := by
  simp [modeConflict, modeFits]

theorem lanePorts_service (s : State) : lanePorts 14 s = [129] := by
  simp [lanePorts, portsOfLane, keptDown]

/-- A port of a lane of its own is retired by its number (R369). -/
theorem retireLaneNo_port {n : Nat} (h : n < 32) : retireLaneNo n = none := by
  have : ¬(0x80 ≤ n ∧ n < 0x86) := by omega
  simp [retireLaneNo, this]

theorem isRetireUnit_port {n : Nat} (h : n < 32) : isRetireUnit n = true := by
  have : n ≠ 129 := by omega
  simp [isRetireUnit, isEthPort, h, this]

/-- An idle MDIO bus starts what it is asked (R370). -/
theorem mdioAsk_idle {b : Nat} {o : MdioOp} {s : State} (h : (mdioOf b s).busy = none) : mdioAsk b o s = mdioStart b o s := by
  simp [mdioAsk, h]

end Sys2Proof.Machine

namespace Sys2Proof

open Machine

section
variable {mb : Nat} {p : Bytes} {s : State}

theorem laneMode_answers (hlen : p.length = 8) (hq : u8 p 0 < 15) :
    (u8 p 1 = 0 → ServesLanes (.cmdLaneMode mb) mb 0x0200 p (laneRsp (u8 p 0) 0 s) s s) ∧
    (u8 p 1 = 1 → modeConflict (u8 p 0) (u8 p 2) (u8 p 3) s = false → u8 p 2 = (laneOf (u8 p 0) s).mode → u8 p 2 ≠ 4 → u8 p 2 ≠ 5 →
      let u := setLane (u8 p 0) { laneOf (u8 p 0) s with
        fec := 0, swing := min 15 (u8 p 4), pre := min 15 (u8 p 5), post := min 15 (u8 p 6) } s
      ServesLanes (.cmdLaneMode 0) 0 0x0200 p (laneRsp (u8 p 0) 1 u) s u) ∧
    (u8 p 1 = 1 → u8 p 0 = 14 → u8 p 2 = 1 → (laneOf (u8 p 0) s).mode = 0 → (ethPort 129 s).state = 0 →
      let u := setRate 129 0 (setLane (u8 p 0) { laneOf (u8 p 0) s with
        mode := 1, fec := 0, swing := min 15 (u8 p 4), pre := min 15 (u8 p 5), post := min 15 (u8 p 6), lock := false } s)
      ServesLanes (.cmdLaneMode 0) 0 0x0200 p (laneRsp (u8 p 0) 1 u) s u) := by
  refine ⟨fun hop => ?_, fun hop hfits hmode h4 h5 => ?_, fun hop hlane hmode hold hoff => ?_⟩
  · refine servesLanes_neither cmdLaneMode rfl (fun _ _ => readAny_op0 hop) (beq_iff_eq.mpr hlen) (fun _ _ => ?_) (fun _ _ => ?_) rfl rfl
    · simp [cmdLaneMode, need, hq, hop]
    · simp [cmdLaneMode, hop]
  · refine servesLanes_neither cmdLaneMode rfl (fun _ _ => ?_) (beq_iff_eq.mpr hlen) (fun _ _ => ?_) (fun _ _ => ?_) rfl rfl
    · simp [cmdLaneMode, readAny, readOps]
    · simp [cmdLaneMode, need, hq, hop]
    · rw [hmode] at hfits h4 h5
      simp [cmdLaneMode, hop, hfits, hmode, h4, h5]
  · intro u
    have hconf : modeConflict (u8 p 0) (u8 p 2) (u8 p 3) s = false := by
      rw [hlane, hmode]
      exact modeConflict_service ..
    refine servesLanes_neither cmdLaneMode rfl (fun _ _ => ?_) (beq_iff_eq.mpr hlen) (fun _ _ => ?_) (fun _ _ => ?_) ?_ rfl
    · simp [cmdLaneMode, readAny, readOps]
    · simp [cmdLaneMode, need, hq, hop]
    · rw [hlane, hmode] at hconf
      rw [hlane] at hold
      simp [cmdLaneMode, hop, hconf, hlane, hmode, hold, modePorts, portsOfLane, hoff, lanePorts_service, modeRates, forEach, u]
    · simp [u]

theorem portConfig_answers (hlen : p.length = 16) (heth : isEthPort (u8 p 0) = true) :
    (u8 p 1 = 0 → ServesLanes (.cmdPortConfig mb) mb 0x0201 p (portRsp (u8 p 0) 0 s) s s) ∧
    (u8 p 1 = 1 → (modeRates (laneOf (laneNo (u8 p 0)) s).mode).contains (u8 p 2) = true →
      let v := setRate (u8 p 0) (u8 p 2) s
      let u := setEthPort (u8 p 0) { ethPort (u8 p 0) v with
        an := bit p 3 0, maxFrame := clamp 64 9216 (u16 p 4), upHold := min 1000 (u16 p 6),
        downHold := min 10000 (u16 p 8), mac := some (beN p 10 6) } v
      ServesLanes (.cmdPortConfig 0) 0 0x0201 p (portRsp (u8 p 0) 1 u) s u) := by
  refine ⟨fun hop => ?_, fun hop hrate => ?_⟩
  · refine servesLanes_neither cmdPortConfig rfl (fun _ _ => readAny_op0 hop) (beq_iff_eq.mpr hlen) (fun _ _ => ?_) (fun _ _ => ?_) rfl rfl
    · simp [cmdPortConfig, need, heth, hop]
    · simp [cmdPortConfig, hop]
  · intro v u
    refine servesLanes_neither cmdPortConfig rfl (fun _ _ => ?_) (beq_iff_eq.mpr hlen) (fun _ _ => ?_) (fun _ _ => ?_) ?_ rfl
    · simp [cmdPortConfig, readAny, readOps]
    · simp [cmdPortConfig, need, heth, hop]
    · have hread : ¬u8 p 1 = 0 := by omega
      have hno : ¬(!(modeRates (laneOf (laneNo (u8 p 0)) s).mode).contains (u8 p 2)) = true := by simpa using hrate
      simp only [cmdPortConfig, if_neg hread, if_neg hno]
      rfl
    · simp [u, v]

theorem portState_answers (hlen : p.length = 2) (heth : isEthPort (u8 p 0) = true) (hret : (ethPort (u8 p 0) s).state ≠ 4) :
    (u8 p 1 = 1 → keptDown (u8 p 0) s = false →
      let u := if (ethPort (u8 p 0) s).state = 0 ∨ (ethPort (u8 p 0) s).state = 3 then enterState (u8 p 0) 1 7 s else s
      ServesPorts (.cmdPortState 0) 0 0x0202 p (b1 (ethPort (u8 p 0) u).state ++ zeros 3) s u) ∧
    (u8 p 1 = 0 → mb = 0 ∨ mb = 2 →
      let u := if (ethPort (u8 p 0) s).state = 0 then s else refusePort (u8 p 0) 0 7 s
      ServesPorts (.cmdPortState mb) mb 0x0202 p (b1 (ethPort (u8 p 0) u).state ++ zeros 3) s u) := by
  refine ⟨fun hop hkept => ?_, fun hop hmb => ?_⟩
  · intro u
    refine servesPorts_neither cmdPortState rfl (fun _ _ => ?_) (beq_iff_eq.mpr hlen) (fun _ _ => ?_) (fun _ _ => ?_) ?_ rfl
    · simp [cmdPortState]
    · simp [cmdPortState, need, heth, hop]
    · simp [cmdPortState, hret, hop, hkept, u]
    · simp only [u]
      split <;> simp
  · intro u
    refine servesPorts_neither cmdPortState rfl (fun _ _ => ?_) (beq_iff_eq.mpr hlen) (fun _ _ => ?_) (fun _ _ => ?_) ?_ rfl
    · rcases hmb with rfl | rfl <;> simp [cmdPortState, hop]
    · simp [cmdPortState, need, heth, hop]
    · simp [cmdPortState, hret, hop, u]
    · simp only [u]
      split <;> simp

theorem portRetire_readmit (hlen : p.length = 4) (hq : u8 p 0 < 32) :
    ((ethPort (u8 p 0) s).state ≠ 4 → mb = 0 ∨ mb = 2 →
      ServesPorts (.cmdPortRetire mb) mb 0x0204 p (b1 (u8 p 0) ++ zeros 3) s (retirePort (u8 p 0) s)) ∧
    ((ethPort (u8 p 0) s).state = 4 → (laneOf (laneNo (u8 p 0)) s).retired = false →
      Serves (.cmdPortReadmit 0) 0 0x0205 p (b1 (u8 p 0) ++ zeros 3) s
        (setEthPort (u8 p 0) { ethPort (u8 p 0) s with state := 0, faults := [], lastChange := now32 s } s)) := by
  have hlane := retireLaneNo_port hq
  have hunit := isRetireUnit_port hq
  refine ⟨fun hst hmb => ?_, fun hst hl => ?_⟩
  · refine servesPorts_neither cmdPortRetire rfl (fun _ _ => ?_) (beq_iff_eq.mpr hlen) (fun _ _ => ?_) (fun _ _ => ?_) (by simp) rfl
    · rcases hmb with rfl | rfl <;> rfl
    · simp [cmdPortRetire, need, hunit]
    · simp [cmdPortRetire, hlane, hst]
  · refine serves_neither cmdPortReadmit rfl (fun _ _ => rfl) (beq_iff_eq.mpr hlen) (fun _ _ => ?_) (fun _ _ => ?_) rfl rfl
    · simp [cmdPortReadmit, need, hunit]
    · simp [cmdPortReadmit, hlane, hst, hl]

theorem phyBind_answers (hlen : p.length = 24) (hq : u8 p 0 < 14) :
    (u8 p 1 = 0 → Serves (.cmdPhyBind mb) mb 0x0206 p (phyRsp (u8 p 0) 0 s) s s) ∧
    (u8 p 1 = 1 → u8 p 2 < 2 → u8 p 3 < 32 → u8 p 4 = 22 ∨ u8 p 4 = 45 →
      let x : Phy := { bus := u8 p 2, addr := u8 p 3, clause := u8 p 4, mmd := u8 p 5, sleepReg := u16 p 6, sleepVal := u16 p 8,
                       wakeVal := u16 p 10, statusReg := u16 p 12, statusMask := u16 p 14, statusSleep := u16 p 16,
                       ackMs := clamp 1 100 (u8 p 18) }
      let v : State := { s with ports := { s.ports with phy := Tbl.set s.ports.phy (u8 p 0) x {} } }
      let u := setMdio x.bus { mdioOf x.bus v with hz := clamp 1000000 12500000 (u32 p 20) } v
      Serves (.cmdPhyBind 0) 0 0x0206 p (phyRsp (u8 p 0) 1 u) s u) := by
  refine ⟨fun hop => ?_, fun hop hbus haddr hclause => ?_⟩
  · refine serves_neither cmdPhyBind rfl (fun _ _ => readAny_op0 hop) (beq_iff_eq.mpr hlen) (fun _ _ => ?_) (fun _ _ => ?_) rfl rfl
    · simp [cmdPhyBind, need, hq, hop]
    · simp [cmdPhyBind, hop]
  · intro x v u
    have hread : ¬u8 p 1 = 0 := by omega
    have hok : ¬(u8 p 4 ≠ 22 ∧ u8 p 4 ≠ 45) := by omega
    refine serves_neither cmdPhyBind rfl (fun _ _ => ?_) (beq_iff_eq.mpr hlen) (fun _ _ => ?_) (fun _ _ => ?_) rfl rfl
    · simp [cmdPhyBind, readAny, readOps]
    · simp only [cmdPhyBind, need, hq, hop, hbus, haddr, decide_true, Bool.and_self, Bool.or_true, Nat.reduceLT, if_true]
    · simp only [cmdPhyBind, if_neg hread, if_neg hok]
      rfl

theorem mdio_begins (hlen : p.length = 8) (hq : u8 p 0 < 2) (hphy : u8 p 2 < 32) (hdev : u8 p 3 < 32)
    (hidle : (mdioOf (u8 p 0) s).busy = none) (hnone : (mdioOf (u8 p 0) s).queue = []) :
    (u8 p 1 = 0 → mb = 0 ∨ mb = 2 ∨ mb = 4 → Begins (.cmdMdio mb) mb 0x0207 p s
      (mdioStart (u8 p 0) { origin := .mailbox mb, phy := u8 p 2, dev := u8 p 3, reg := u16 p 4, write := none } s)) ∧
    (u8 p 1 = 1 → mb = 0 ∨ mb = 4 → Begins (.cmdMdio mb) mb 0x0207 p s
      (mdioStart (u8 p 0) { origin := .mailbox mb, phy := u8 p 2, dev := u8 p 3, reg := u16 p 4, write := some (u16 p 6) } s)) := by
  refine ⟨fun hop hmb => ?_, fun hop hmb => ?_⟩
  · refine begins_neither cmdMdio rfl (fun _ _ => ?_) (beq_iff_eq.mpr hlen) (fun _ _ => ?_) rfl (fun _ _ => ?_)
    · rcases hmb with rfl | rfl | rfl <;> simp [cmdMdio, hop]
    · simp only [cmdMdio, need, hq, hop, hphy, hdev, decide_true, Bool.and_self, Nat.reduceLT, if_true]
    · simp [cmdMdio, hidle, hnone, mdioAsk_idle hidle, hop]
  · refine begins_neither cmdMdio rfl (fun _ _ => ?_) (beq_iff_eq.mpr hlen) (fun _ _ => ?_) rfl (fun _ _ => ?_)
    · rcases hmb with rfl | rfl <;> simp [cmdMdio]
    · simp only [cmdMdio, need, hq, hop, hphy, hdev, decide_true, Bool.and_self, Nat.reduceLT, if_true]
    · simp [cmdMdio, hidle, hnone, mdioAsk_idle hidle, hop]

theorem tc10_answers (hlen : p.length = 2) (hq : u8 p 0 < 14) (hmb : mb = 0 ∨ mb = 2) (hoff : (tc10Of (u8 p 0) s).on = false) :
    (u8 p 1 = 0 → (lanePorts (u8 p 0) s).any (fun j => (ethPort j s).state == 2) = true →
      Begins (.cmdTc10 mb) mb 0x0208 p s (membersChanged s (tc10Sleep (u8 p 0) (some mb) s))) ∧
    (u8 p 1 = 1 → (lanePorts (u8 p 0) s).any (fun j => (ethPort j s).state == 3) = true →
      ServesPorts (.cmdTc10 mb) mb 0x0208 p (b1 3) s
        (laneWake (u8 p 0) (phyWrite (u8 p 0) (phyOf (u8 p 0) s).sleepReg (phyOf (u8 p 0) s).wakeVal s))) := by
  have hmay (tag t : Nat) : cmdTc10.may ⟨mb, 0x0208, tag, t, p⟩ = true := by
    rcases hmb with rfl | rfl <;> rfl
  have hidx (hop : u8 p 1 < 2) (tag t : Nat) : cmdTc10.idx ⟨mb, 0x0208, tag, t, p⟩ s = stOk := by
    simp only [cmdTc10, need, hq, hop, decide_true, Bool.and_self, if_true]
  refine ⟨fun hop hup tgt h => ?_, fun hop hasleep => ?_⟩
  · refine congrArg (fun t => Host.Outcome.next (membersChanged s t)) (runCmd_neither_busy (c := cmdTc10) rfl h
      (fun tag => hmay tag tgt) (beq_iff_eq.mpr hlen) (fun tag => hidx (by omega) tag tgt) fun _ => ?_)
    simp only [cmdTc10, hoff, hop, hup, Bool.false_eq_true, if_true, if_false]
  · refine servesPorts_neither cmdTc10 rfl hmay (beq_iff_eq.mpr hlen) (hidx (by omega)) (fun _ _ => ?_) (by simp) rfl
    simp only [cmdTc10, hoff, hop, hasleep, Bool.false_eq_true, if_true, if_false, Nat.one_ne_zero]

end

section
variable {mb : Nat} {p : Bytes} {s : State} (hq : u8 p 0 < 8)
include hq

theorem macsecPort_answers (hlen : p.length = 60) (hkept : keptDown (u8 p 0) s = false) :
    let m := macsecOf (u8 p 0) s
    (u8 p 1 = 0 → Serves (.cmdMacsecPort mb) mb 0x0209 p (macsecRsp (u8 p 0) 0 s) s s) ∧
    (u8 p 1 = 1 → u8 p 3 ≤ 3 → u8 p 4 = 0 ∨ u8 p 4 = 30 ∨ u8 p 4 = 50 → u8 p 5 < 4 → u8 p 25 ≤ 232 → u8 p 3 = m.cipher →
      bit p 2 0 = true → bit p 2 1 = false →
      let m' : Macsec := { m with en := true, mka := false, encrypt := bit p 2 2, rxUntagged := bit p 2 3, unknownSci := bit p 2 4,
                                  txFlags := u8 p 2 / 32, confOff := u8 p 4, an := u8 p 5, sci := some (beN p 8 8),
                                  bypass := (List.range 4).map (fun i => u16 p (16 + 2 * i)), cakSlot := u8 p 24, sakBase := u8 p 25,
                                  prio := u8 p 26, ckn := slice p 28 (clamp 1 32 (u8 p 27)), mkaState := 0 }
      let u := txCheck (u8 p 0) (setMacsec (u8 p 0) m' s)
      Serves (.cmdMacsecPort 0) 0 0x0209 p (macsecRsp (u8 p 0) 1 u) s u) := by
  intro m
  refine ⟨fun hop => ?_, fun hop hcipher hconf han hbase hsame hen hmka => ?_⟩
  · refine serves_neither cmdMacsecPort rfl (fun _ _ => readAny_op0 hop) (beq_iff_eq.mpr hlen) (fun _ _ => ?_) (fun _ _ => ?_) rfl rfl
    · simp [cmdMacsecPort, need, hq, hkept, hop]
    · simp [cmdMacsecPort, hop]
  · intro m' u
    have hread : ¬u8 p 1 = 0 := by omega
    have hok : ¬(3 < u8 p 3 ∨ (!([0, 30, 50].contains (u8 p 4))) = true ∨ 232 < u8 p 25) := by
      have hmem : [0, 30, 50].contains (u8 p 4) = true := by rcases hconf with h | h | h <;> simp [h]
      simp only [hmem, Bool.not_true, Bool.false_eq_true, false_or]
      omega
    have hfree : ¬(u8 p 3 ≠ (macsecOf (u8 p 0) s).cipher ∧ saInUse (macsecOf (u8 p 0) s) = true) := fun h => h.1 hsame
    refine serves_neither cmdMacsecPort rfl (fun _ _ => ?_) (beq_iff_eq.mpr hlen) (fun _ _ => ?_) (fun _ _ => ?_) ?_ rfl
    · simp [cmdMacsecPort, readAny, readOps]
    · simp [cmdMacsecPort, need, hq, hkept, hop, han]
    · simp only [cmdMacsecPort, if_neg hread, if_neg hok, if_neg hfree]
      simp only [hen, hmka, show u8 p 3 = (macsecOf (u8 p 0) s).cipher from hsame, if_true]
      rfl
    · simp [u]

theorem macsecTxsa_sets (hlen : p.length = 28) (han : u8 p 1 < 4) (hen : bit p 2 0 = true)
    (hslot : saSlot (macsecOf (u8 p 0) s) (u8 p 3) 1 s = stOk) (hmka : (macsecOf (u8 p 0) s).mka = false) :
    let m := macsecOf (u8 p 0) s
    let pn := clamp 1 (lastPn m) (u64 p 4)
    let sa : TxSa := { inUse := true, slot := u8 p 3, nextPn := pn, ssci := u32 p 12, salt := slice p 16 12,
                       key := some (slotKey (slotOf (u8 p 3) s)) }
    Serves (.cmdMacsecTxsa 0) 0 0x020A p (p.take 2 ++ b1 1 ++ b1 (u8 p 3) ++ b8 pn ++ slice p 12 16) s
      (txCheck (u8 p 0) (setMacsec (u8 p 0) { m with tx := Tbl.set m.tx (u8 p 1) sa {} } s)) := by
  intro m pn sa
  refine serves_neither cmdMacsecTxsa rfl (fun _ _ => rfl) (beq_iff_eq.mpr hlen) (fun _ _ => ?_) (fun _ _ => ?_) (by simp) rfl
  · simp [cmdMacsecTxsa, need, hq, han]
  · simp [cmdMacsecTxsa, hen, hslot, hmka, b2n, m, pn, sa]

theorem macsecRxsc_sets (hlen : p.length = 16) (hn : u8 p 1 < 32) (hv : bit p 2 0 = false) (hval : bits (u8 p 2) 3 2 ≠ 3)
    (hmka : (macsecOf (u8 p 0) s).mka = false) :
    let m := macsecOf (u8 p 0) s
    let c := { Tbl.get m.rx (u8 p 1) {} with valid := false, replay := bit p 2 1, validate := bits (u8 p 2) 3 2,
                                             window := min 1073741824 (u32 p 4), sci := beN p 8 8 }
    Serves (.cmdMacsecRxsc 0) 0 0x020B p (p.take 2 ++ b1 (u8 p 2 % 16) ++ zeros 1 ++ b4 c.window ++ slice p 8 8) s
      (setSc (u8 p 0) (u8 p 1) c s) := by
  intro m c
  refine serves_neither cmdMacsecRxsc rfl (fun _ _ => rfl) (beq_iff_eq.mpr hlen) (fun _ _ => ?_) (fun _ _ => ?_) (by simp) rfl
  · simp [cmdMacsecRxsc, need, hq, hn]
  · simp [cmdMacsecRxsc, hv, hval, hmka, m, c]

theorem macsecRxsa_sets (hlen : p.length = 32) (hn : u8 p 1 < 32) (han : u8 p 2 < 4) (hen : bit p 3 0 = true)
    (hslot : saSlot (macsecOf (u8 p 0) s) (u8 p 4) 2 s = stOk) (hmka : (macsecOf (u8 p 0) s).mka = false) :
    let m := macsecOf (u8 p 0) s
    let c := Tbl.get m.rx (u8 p 1) {}
    let low := min (lastPn m) (u64 p 8)
    let sa : RxSa := { inUse := true, slot := u8 p 4, lowestPn := low, nextPn := low, ssci := u32 p 16, salt := slice p 20 12,
                       key := some (slotKey (slotOf (u8 p 4) s)) }
    Serves (.cmdMacsecRxsa 0) 0 0x020C p (p.take 3 ++ b1 1 ++ b1 (u8 p 4) ++ zeros 3 ++ b8 low ++ slice p 16 16 ++ b8 low) s
      (setSc (u8 p 0) (u8 p 1) { c with sa := Tbl.set c.sa (u8 p 2) sa {} } s) := by
  intro m c low sa
  refine serves_neither cmdMacsecRxsa rfl (fun _ _ => rfl) (beq_iff_eq.mpr hlen) (fun _ _ => ?_) (fun _ _ => ?_) (by simp) rfl
  · simp [cmdMacsecRxsa, need, hq, hn, han]
  · simp [cmdMacsecRxsa, hen, hslot, hmka, b2n, m, c, low, sa]

end

/-- Settles O45: each command of lanes, ports, PHYs and MACsec, by what its body answers. -/
theorem portCommandsAnswer : Obligations.PortCommandsAnswer := by
  unfold Obligations.PortCommandsAnswer
  rintro mb q p s rfl
  refine ⟨laneMode_answers, portConfig_answers, portState_answers, fun hlen heth hmb => ?_, portRetire_readmit, phyBind_answers,
    mdio_begins, tc10_answers, fun hq => ⟨macsecPort_answers hq, macsecTxsa_sets hq, macsecRxsc_sets hq, macsecRxsa_sets hq,
      fun hlen hmb => ?_⟩⟩
  · refine serves_neither cmdPortStatus rfl (fun _ _ => mbs_any hmb) (beq_iff_eq.mpr hlen) (fun _ _ => ?_) (fun _ _ => rfl) rfl rfl
    simp [cmdPortStatus, need, heth]
  · refine serves_neither cmdMacsecStatus rfl (fun _ _ => mbs_any hmb) (beq_iff_eq.mpr hlen) (fun _ _ => ?_) (fun _ _ => rfl) rfl rfl
    simp [cmdMacsecStatus, need, hq]

end Sys2Proof
end

section

/-!
PROOF. The Press and the Cellar (chapter 13, R395 to R424): a tamper wipe's frames, and one lemma per event.
-/

namespace Sys2Proof.Machine

@[simp] theorem takeItems_cellar (isDesc : Bool) (n : Nat) (s : State) : (takeItems isDesc n s).2.cellar = s.cellar := by
  simp [takeItems]

@[simp] theorem freeChanged_cellar (s : State) : (freeChanged s).cellar = s.cellar := by
  unfold freeChanged
  dsimp only
  repeat' split
  all_goals simp

@[simp] theorem putFrame_cellar (fid : Nat) (v : VFrame) (s : State) : (putFrame fid v s).cellar = s.cellar := by
  simp [putFrame]

@[simp] theorem stageFrame_cellar (f : Frame) (ended : Bool) (s : State) : (stageFrame f ended s).2.cellar = s.cellar := by
  unfold stageFrame
  dsimp only
  repeat' split
  all_goals simp

@[simp] theorem commitFrame_cellar (fid : Nat) (s : State) : (commitFrame fid s).cellar = s.cellar := by
  simp [commitFrame]

@[simp] theorem zeroSecure_cellar (s : State) : (zeroSecure s).cellar = s.cellar := by
  rfl

@[simp] theorem txCheck_cellar (p : Nat) (s : State) : (txCheck p s).cellar = s.cellar := by
  unfold txCheck
  dsimp only
  repeat' split
  all_goals simp

@[simp] theorem unloadSlots_cellar (p : Nat → Bool) (s : State) : (unloadSlots p s).cellar = s.cellar := by
  refine forEach_cellar _ _ _ fun _ _ => ?_
  repeat' split
  all_goals simp

@[simp] theorem owlUnload_cellar (p : Nat → Bool) (s : State) : (owlUnload p s).cellar = s.cellar := by
  unfold owlUnload
  dsimp only
  repeat' split
  all_goals simp

@[simp] theorem runRecord_cellar (mb : Nat) (rec : Bytes) (s : State) : (runRecord mb rec s).cellar = s.cellar := by
  unfold runRecord
  dsimp only
  repeat' split
  all_goals simp

@[simp] theorem reenter_cellar (port : Nat) (f : Frame) (s : State) : (reenter port f s).cellar = s.cellar := by
  unfold reenter
  have hstage := stageFrame_cellar { f with port := port, ts := allTb s } true s
  split <;> rename_i heq <;> rw [heq] at hstage
  · exact (commitFrame_cellar ..).trans hstage
  · exact hstage

@[simp] theorem portCDone_cellar (n status : Nat) (out : Bytes) (s : State) :
    (portCDone n status out s).cellar = s.cellar := by
  unfold portCDone
  repeat' split
  all_goals simp

@[simp] theorem pressAnswer_cellar (j : PressJob) (status : Nat) (s : State) :
    (pressAnswer j status s).cellar = s.cellar := by
  unfold pressAnswer
  repeat' split
  all_goals simp

@[simp] theorem flushQueue_cellar (c : Nat) (all : Bool) (s : State) : (flushQueue c all s).cellar = s.cellar := by
  refine forEach_cellar _ _ _ fun _ _ => ?_
  simp

@[simp] theorem abortPressTest_cellar (s : State) : (abortPressTest s).cellar = s.cellar := by
  unfold abortPressTest
  repeat' split
  all_goals simp

/-- The queue that PRESS_TURN serves. -/
def servedClass (s : State) : Option Nat := ((List.range 8).map (fun i => (s.press.rr + i) % 8)).find? (fun c => pressReady s c)

/-- The state in which a turn of class `c` runs: the turn has moved on. -/
def turned (c : Nat) (s : State) : State := { s with press := { s.press with rr := (c + 1) % 8 } }

theorem exec_pressTurn {s : State} {c : Nat} {j : PressJob} {rest : List PressJob} (host : Bytes) (fault : Bool)
    (hserved : servedClass s = some c) (hq : pressQueue c s = j :: rest) :
    exec (.pressTurn host fault) s =
      if s.press.retired.getLsbD c then .next (setPressQueue c ({ j with finished := some 10 } :: rest) (turned c s))
      else .next (setPressQueue c ((turnJob c host fault j (turned c s)).1 :: rest)
        (turnJob c host fault j (turned c s)).2) := by
  unfold servedClass at hserved
  simp only [exec, execPressTurn, hserved, hq]
  rfl

theorem turnJob_fault_started (c : Nat) (host : Bytes) {j : PressJob} (s : State) (h : j.started = true) :
    turnJob c host true j s = ({ j with finished := some 10 }, s) := by
  simp [turnJob, h]

theorem turnJob_refused (c : Nat) (host : Bytes) (fault : Bool) {j : PressJob} {s : State} {st : Nat}
    (hstarted : j.started = false) (hst : startCheck c j s = st) (h0 : st ≠ 0) (h3 : st ≠ 3) :
    turnJob c host fault j s = ({ j with finished := some st }, s) := by
  simp [turnJob, hstarted, hst, h0, h3]

theorem slice_zero_length (b : Bytes) (n : Nat) : (slice b 0 n).length = n := by
  simp only [slice, zeros, List.drop_zero, List.length_append, List.length_take, List.length_replicate]
  omega

theorem slice_zero_self (b : Bytes) : slice b 0 b.length = b := by simp [slice, zeros]

/-- The last turn of a CMAC for the gateway: the value stays in the job and nothing is written (R422). -/
theorem finishJob_gateway_cmac (c : Nat) {j : PressJob} (s : State) {n : Nat} (horigin : j.origin = .gateway n)
    (hmode : dMode j.desc = 4) (hdst : dDst j.desc = 2) :
    finishJob c j s =
      ({ j with finished := some 0, tag := (cmac j.key j.input).take (dTag j.desc), written := 0 }, s) := by
  simp only [finishJob, hmode, horigin, hdst, writeDest]
  simp

/-- The job once its `dLen` bytes of `b` are read under the key of its slot. -/
def readWhole (b : Bytes) (j : PressJob) (s : State) : PressJob :=
  { j with started := true, key := slotKey (slotOf (dSlot j.desc) s), input := slice b 0 (dLen j.desc) }

/-- A short CMAC of the gateway is read whole, and so finished, in its first turn (R417, R422). -/
theorem turnJob_gateway_cmac (c : Nat) (host : Bytes) {j : PressJob} {s : State} {b : Bytes}
    (hsrc : j.src = some b) (hstarted : j.started = false) (hinput : j.input = [])
    (hmode : dMode j.desc = 4) (hroot : dRoot j.desc = false) (hlen : dLen j.desc ≤ 256)
    (hcheck : startCheck c j s = 0) :
    turnJob c host false j s = finishJob c (readWhole b j s) (invoke (dSlot j.desc) s) := by
  have hread := slice_zero_length b (dLen j.desc)
  have hslice : slice (slice b 0 (dLen j.desc)) 0 (dLen j.desc) = slice b 0 (dLen j.desc) := by
    simpa only [hread] using slice_zero_self (slice b 0 (dLen j.desc))
  have hdrop : (slice b 0 (dLen j.desc)).drop (dLen j.desc) = [] := List.drop_eq_nil_of_le (Nat.le_of_eq hread)
  simp [turnJob, readWhole, hstarted, hdrop, hcheck, hroot, hinput, hmode, hsrc, dAad, dTagIn, pieceSize,
    readSource, modeOut, hslice, hread, hlen]

/-- A turn of the Press (R417, R419, R424). -/
theorem pressTurn_effect (host : Bytes) (fault : Bool) {c : Nat} {j : PressJob} {rest : List PressJob} {s : State}
    (hserved : servedClass s = some c) (hq : pressQueue c s = j :: rest) :
    let u := turned c s
    let ends (st : Nat) : Prop :=
      Gives (.pressTurn host fault) s (setPressQueue c ({ j with finished := some st } :: rest) u)
    (s.press.retired.getLsbD c = true → ends 10) ∧
    (s.press.retired.getLsbD c = false →
      (j.started = true → fault = true → ends 10) ∧
      (∀ st, j.started = false → startCheck c j u = st → st ≠ 0 → st ≠ 3 → ends st) ∧
      (∀ (b : Bytes) (n : Nat), j.src = some b → j.origin = .gateway n → j.started = false → j.input = [] →
        fault = false → dMode j.desc = 4 → dRoot j.desc = false → dDst j.desc = 2 → dLen j.desc ≤ 256 →
        startCheck c j u = 0 →
        Ends (.pressTurn host fault) s (fun t => ∃ j' : PressJob,
          t = setPressQueue c (j' :: rest) (invoke (dSlot j.desc) u) ∧ j'.finished = some 0 ∧ j'.origin = .gateway n ∧
          j'.tag = (cmac (slotKey (slotOf (dSlot j.desc) s)) (slice b 0 (dLen j.desc))).take (dTag j.desc)))) := by
  have hexec := exec_pressTurn host fault hserved hq
  intro u ends
  refine ⟨fun hret => hexec.trans (if_pos hret), fun hret => ?_⟩
  rw [if_neg (by simp [hret])] at hexec
  refine ⟨?_, ?_, ?_⟩
  · intro hstarted hfault
    subst hfault
    rw [turnJob_fault_started c host _ hstarted] at hexec
    exact hexec
  · intro st hstarted hst h0 h3
    rw [turnJob_refused c host fault hstarted hst h0 h3] at hexec
    exact hexec
  · intro b n hsrc horigin hstarted hinput hfault hmode hroot hdst hlen hcheck
    subst hfault
    rw [turnJob_gateway_cmac c host hsrc hstarted hinput hmode hroot hlen hcheck,
      finishJob_gateway_cmac c (j := readWhole b j u) (n := n) _ horigin hmode hdst] at hexec
    exact ⟨_, hexec, _, rfl, rfl, horigin, rfl⟩

/-- The finished head of a queue (R419). -/
theorem pressDescriptorComplete_effect {cls : Nat} {j : PressJob} {rest : List PressJob} {s : State}
    (hq : pressQueue cls s = j :: rest) :
    let u := count 255 (144 + cls) (setPressQueue cls rest s)
    (j.finished = some 0 → Gives (.pressDescriptorComplete cls) s (pressAnswer j 0 u)) ∧
    (j.finished = some 1 → dZero j.desc = false →
      Gives (.pressDescriptorComplete cls) s (pressAnswer j 1 (raise 89 0 (count 255 152 u)))) := by
  refine ⟨fun hfin => ?_, fun hfin hzero => ?_⟩
  · simp [Gives, exec, execPressDescriptorComplete, hq, hfin, zeroOnFail]
  · simp [Gives, exec, execPressDescriptorComplete, hq, hfin, zeroOnFail, hzero]

theorem pressLockExpiry_effect {l : PressLock} {s : State} (hlock : s.press.lock = some l) :
    Gives .pressLockExpiry s (raise 91 0 (count 255 155
      { s with press := { s.press with lock := none, barred := Tbl.set s.press.barred l.cls (now s + 2000000) 0 } })) := by
  simp [Gives, exec, execPressLockExpiry, hlock]

theorem keySlotScrub_effect (n d : Nat) {s : State} (hvalid : (slotOf n s).status = 1) :
    let good := slotTag n (slotOf n s).key (slotOf n s).attr s
    (((slotOf n s).tag ^^^ d) = good → Gives (.keySlotScrub n d) s s) ∧
    (((slotOf n s).tag ^^^ d) ≠ good → Gives (.keySlotScrub n d) s (slotBad n s)) := by
  refine ⟨fun hgood => ?_, fun hbad => ?_⟩
  · simp [Gives, exec, execKeySlotScrub, hvalid, hgood]
  · simp [Gives, exec, execKeySlotScrub, hvalid, hbad]

theorem persistSlotStore_effect {n : Nat} {s : State} (hdue : s.cellar.storeDue.contains n = true)
    (hvalid : (slotOf n s).status = 1) (hpersist : attrPersist (slotOf n s).attr = true) :
    let w := kwWrap (storageKey s) ((slotOf n s).key ++ b8 (slotOf n s).attr)
    Gives (.persistSlotStore n) s { s with
      cellar := { s.cellar with storeDue := s.cellar.storeDue.filter (fun k => k != n) },
      flash := { s.flash with persist := Tbl.insert s.flash.persist n w } } := by
  simp only [Gives, exec, execPersistSlotStore, if_pos hdue, if_pos (And.intro hvalid hpersist)]
  rfl

/-- A wipe empties the slots, and burns its count as its last act on the fuses (R413, R414). -/
theorem tamperWipe_effect (s : State) :
    (tamperWipe s).cellar.slots = [] ∧ (tamperWipe s).cellar.active = s.cellar.active ∧
      (tamperWipe s).otp = { s.otp with tampered := true, tamperCount := min 64 (s.otp.tamperCount + 1) } := by
  refine ⟨?_, ?_, ?_⟩
  · simp [tamperWipe, forEach_cellar]
  · simp [tamperWipe, forEach_cellar]
  · have hburn : ∀ v, frozen v = frozen s → (alarm 2 locDev (raise 3 8 (count 255 156 { v with
        otp := { v.otp with tampered := true, tamperCount := min 64 (v.otp.tamperCount + 1) } }))).otp =
        { s.otp with tampered := true, tamperCount := min 64 (s.otp.tamperCount + 1) } := fun v hv => by
      rw [otp_of_frozen (alarm_frozen ..), otp_of_frozen (raise_frozen ..), otp_of_frozen (count_frozen ..), otp_of_frozen hv]
    exact hburn _ (by simp [forEach_frozen])

theorem tamperDetect_effect {n : Nat} {s : State} (hn : n < 5) (hen : s.cellar.enables.getLsbD n = true)
    (hidle : s.cellar.active.getLsbD n = false) (hglitch : (n = 2 ∨ n = 3) → glitchArmed s = true) :
    Ends (.tamperDetect n) s (fun t => t.cellar.slots = [] ∧ t.cellar.active.getLsbD n = true ∧
      t.otp = { s.otp with tampered := true, tamperCount := min 64 (s.otp.tamperCount + 1) }) := by
  let u : State := { s with cellar := { s.cellar with active := s.cellar.active ||| BitVec.ofNat 5 (2 ^ n) } }
  have hexec : exec (.tamperDetect n) s = .next (tamperWipe (raise 3 n u)) := by
    have h1 : ¬ ((!s.cellar.enables.getLsbD n) = true ∨ s.cellar.active.getLsbD n = true) := by simp [hen, hidle]
    have h2 : ¬ ((n = 2 ∨ n = 3) ∧ (!glitchArmed s) = true) := by simpa using hglitch
    simp only [exec, execTamperDetect, if_neg h1, if_neg h2]
    rfl
  obtain ⟨hslots, hactive, hotp⟩ := tamperWipe_effect (raise 3 n u)
  have hbit : (BitVec.ofNat 5 (2 ^ n)).getLsbD n = true := by
    rw [BitVec.getLsbD_ofNat, Nat.testBit_two_pow_self, decide_eq_true hn]; rfl
  refine ⟨_, hexec, hslots, ?_, ?_⟩
  · rw [hactive, raise_cellar, BitVec.getLsbD_or, hbit, Bool.or_true]
  · rw [hotp, otp_of_frozen (raise_frozen 3 n u)]

/-- The end of a tamper source, and the rederivation of the own slots (R412 to R414). -/
theorem tamperSourceClear_effect (n : Nat) (s : State) : Gives (.tamperSourceClear n) s
    { s with cellar := { s.cellar with active := s.cellar.active &&& ~~~ BitVec.ofNat 5 (2 ^ n) } } := rfl

theorem tamperRederive_effect {s : State} (hdue : s.cellar.rederive = true) (hup : dieshUp s = true)
    (hawake : s.sleep.asleep = false) :
    Gives .tamperRederive s (ctlWrite (deriveOwn { s with cellar := { s.cellar with rederive := false } })) := by
  simp [Gives, exec, execTamperRederive, hdue, hup, hawake]

/-- The random source stops, draws and recovers (R409, R411). -/
theorem trng_effect (s : State) :
    (s.press.trngOk = true →
      Gives .trngHealthFail s (alarm 15 locDev (raise 94 0 (count 255 159 { s with press := { s.press with trngOk := false } }))) ∧
      Gives .drbgReseed s { s with fresh := s.fresh + 1 }) ∧
    (s.press.trngOk = false → Gives .trngRecovered s (raise 94 1 { s with press := { s.press with trngOk := true } })) := by
  refine ⟨fun hok => ⟨?_, ?_⟩, fun hfail => ?_⟩
  · simp only [Gives, exec, execTrngHealthFail, if_pos hok]
  · simp only [Gives, exec, execDrbgReseed, if_pos hok]
    rfl
  · simp only [Gives, exec, execTrngRecovered, hfail]
    rfl

end Sys2Proof.Machine

namespace Sys2Proof

open Machine

/-- Settles O46: each clause is the event's own lemma. -/
theorem thePressAndTheCellarRun : Obligations.ThePressAndTheCellarRun := by
  unfold Obligations.ThePressAndTheCellarRun
  exact ⟨fun host fault _ _ _ _ => pressTurn_effect host fault, fun _ _ _ _ => pressDescriptorComplete_effect,
    fun _ _ => pressLockExpiry_effect, fun n d _ => keySlotScrub_effect n d, fun _ _ => persistSlotStore_effect,
    fun _ _ => tamperDetect_effect, tamperSourceClear_effect,
    fun s => ⟨tamperRederive_effect, trng_effect s⟩⟩

end Sys2Proof
end

section

/-!
PROOF. The commands of keys, Press, anchors, life cycle and tamper (chapter 13): what each answers, by its checks.
-/

namespace Sys2Proof.Machine

open Sys2Proof

@[simp] theorem zeroSecure_sets (s : State) : (zeroSecure s).sets = s.sets := by
  rfl

@[simp] theorem unloadSlots_sets (p : Nat → Bool) (s : State) : (unloadSlots p s).sets = s.sets := by
  refine forEach_sets _ _ _ fun _ _ => ?_
  repeat' split
  all_goals simp

@[simp] theorem writeSlot_sets (n : Nat) (key : Bytes) (attr : Nat) (s : State) :
    (writeSlot n key attr s).sets = s.sets := by
  simp [writeSlot]

@[simp] theorem owlUnload_sets (p : Nat → Bool) (s : State) : (owlUnload p s).sets = s.sets := by
  unfold owlUnload
  dsimp only
  repeat' split
  all_goals simp

@[simp] theorem clearSlot_sets (n : Nat) (s : State) : (clearSlot n s).sets = s.sets := by
  simp [clearSlot]

@[simp] theorem invoke_sets (n : Nat) (s : State) : (invoke n s).sets = s.sets := by
  unfold invoke
  dsimp only
  repeat' split
  all_goals simp

@[simp] theorem restorePersist_sets (s : State) : (restorePersist s).sets = s.sets := by
  unfold restorePersist
  split
  · rfl
  · refine forEach_sets _ _ _ fun e s => ?_
    dsimp only
    split <;> simp

@[simp] theorem pressSubmit_sets (c : Nat) (j : PressJob) (s : State) : (pressSubmit c j s).sets = s.sets := by
  simp [pressSubmit]

@[simp] theorem countVerify_sets (v : Bool × Bool × Bool) (s : State) : (countVerify v s).sets = s.sets := by
  unfold countVerify
  repeat' split
  all_goals simp

/-- A command whose index check refuses answers the check's status alone. -/
theorem declines_idx_neither {i : Instr} {c : Cmd} {mb st : Nat} {p : Bytes} {s : State} (hs : c.sets = .neither)
    (hm : ∀ tag t, c.may ⟨mb, c.code, tag, t, p⟩ = true) (hl : c.lenOk p = true)
    (hi : ∀ tag t, c.idx ⟨mb, c.code, tag, t, p⟩ s = st) (hst : st ≠ stOk)
    (he : exec i s = .next (runCmd c mb s)) : Declines i mb c.code p st s := fun tgt h => by
  obtain ⟨⟨tag, hc⟩, hn, h4⟩ := h
  refine he.trans ?_
  simp [runCmd, hc, hn, hm, hl, hi, hs, rspGen, hst]
  exact fun e he => by simp [h4 e] at he

/-- A sound bank is read as its memory, with no error. -/
theorem bankRead_sound {n off len : Nat} {s : State} (hret : (bankOf n s).retired = false)
    (hpoison : poisonIn (bankOf n s).poison off len = []) :
    bankRead n off len s = (Memory.readN (bankOf n s).mem off len, false, s) := by
  simp [bankRead, hret, hpoison, bankUe, forEach]

theorem slotIdx_own {n : Nat} (h : 240 ≤ n) : slotIdx n = stDenied := if_pos h

theorem slotIdx_free {n : Nat} (h : n < 240) : slotIdx n = stOk := if_neg (by omega)

/-- The first byte of a label of at least one byte. -/
theorem label_first {p : Bytes} {a n : Nat} (hn : 1 ≤ n) : u8 (slice p a n) 0 = u8 p a := by
  cases hd : p.drop a with
  | nil =>
    have : p[a]? = none := by simpa using hd
    obtain ⟨m, rfl⟩ : ∃ m, n = m + 1 := ⟨n - 1, by omega⟩
    simp [slice, u8, hd, zeros, List.replicate_succ, List.getD, this]
  | cons b l =>
    have : p[a]? = some b := by simpa using congrArg List.head? hd
    obtain ⟨m, rfl⟩ : ∃ m, n = m + 1 := ⟨n - 1, by omega⟩
    simp [slice, u8, hd, List.getD, this]

/-- No check value stands for a slot that is EMPTY. -/
theorem kcvOf_empty {x : Slot} (s : State) (h : x.status = 0) : kcvOf x s = (zeros 4, s) := by simp [kcvOf, h]

/-- The check value of a VALID slot of a cipher key: R407's CMAC of a block of zeros. -/
theorem kcvOf_cipher {x : Slot} (s : State) (h : x.status = 1) (huse : attrUsage x.attr ≠ 4) (halg : attrAlg x.attr ≠ 2) :
    kcvOf x s = ((cmac (slotKey x) (zeros 16)).take 4, s) := by
  simp [kcvOf, h, huse, halg]

end Sys2Proof.Machine

namespace Sys2Proof

open Machine

section
variable {p : Bytes} {s : State}

theorem keySlots_protected (hn : 240 ≤ u8 p 0) :
    (p.length = 48 → Declines (.cmdKeyWrite 0) 0 0x0A00 p stDenied s) ∧
    (p.length = 16 → Declines (.cmdKeyGenerate 0) 0 0x0A01 p stDenied s) :=
  ⟨fun hlen => declines_idx_neither (c := cmdKeyWrite) rfl (fun _ _ => rfl) (beq_iff_eq.mpr hlen)
      (fun _ _ => slotIdx_own hn) (by decide) rfl,
    fun hlen => declines_idx_neither (c := cmdKeyGenerate) rfl (fun _ _ => rfl) (beq_iff_eq.mpr hlen)
      (fun _ _ => slotIdx_own hn) (by decide) rfl⟩

theorem keyWrite_writes (hn : u8 p 0 < 240) (hattr : attrOk (u64 p 8) = true) (hlen : p.length = 48) (hlife : s.otp.life < 2) :
    let a := u64 p 8
    let b := attrApply a (u32 p 4) 0
    Serves (.cmdKeyWrite 0) 0 0x0A00 p (p.take 8 ++ b8 b) s
      (writeSlot (u8 p 0) (placeKey (attrAlg a) (slice p 16 32)) b s) := by
  intro a b
  refine serves_neither cmdKeyWrite rfl (fun _ _ => rfl) (beq_iff_eq.mpr hlen) (fun _ _ => slotIdx_free hn) (fun _ _ => ?_) (by simp) rfl
  have hopen : ¬2 ≤ s.otp.life := by omega
  simp [cmdKeyWrite, hopen, hattr, a, b]

theorem keyGenerate_writes (hn : u8 p 0 < 240) (hattr : attrOk (u64 p 8) = true) (hlen : p.length = 16)
    (hok : s.press.trngOk = true) :
    let a := u64 p 8
    let b := attrApply a (u32 p 4) 3
    let u : State := { s with fresh := s.fresh + 1 }
    Serves (.cmdKeyGenerate 0) 0 0x0A01 p (p.take 8 ++ b8 b) s
      (writeSlot (u8 p 0) (placeKey (attrAlg a) (slice (Config.randomBytes s.fresh 32) 0 32)) b u) := by
  intro a b u
  refine serves_neither cmdKeyGenerate rfl (fun _ _ => rfl) (beq_iff_eq.mpr hlen) (fun _ _ => slotIdx_free hn) (fun _ _ => ?_)
    (by simp [u]) rfl
  simp [cmdKeyGenerate, hok, hattr, a, b, u, drawBytes, takeFresh]

theorem keyDerive_writes (hn : u8 p 0 < 240) (hattr : attrOk (u64 p 8) = true) (hlabel : 1 ≤ u8 p 2) (hlabel' : u8 p 2 ≤ 32)
    (hctx : u8 p 3 ≤ 64) (hlen : p.length = 16 + u8 p 2 + u8 p 3) (hfirst : u8 p 16 ≠ 0) :
    let a := u64 p 8
    let b := attrApply a (u32 p 4) 2
    let label := slice p 16 (u8 p 2)
    let ctx := slice p (16 + u8 p 2) (u8 p 3)
    let put (key label : Bytes) (u : State) : State :=
      writeSlot (u8 p 0) (placeKey (attrAlg a) (kdf key label ctx (algBytes (attrAlg a)))) b u
    (∀ src, u8 p 1 = src → src < 240 → slotCheck 0 src 4 false s = 0 →
      Serves (.cmdKeyDerive 0) 0 0x0A02 p (p.take 8 ++ b8 b ++ p.drop 16) s
        (put (slotKey (slotOf src s)) label (invoke src s))) ∧
    (u8 p 1 = 255 → rootUsable s = true →
      Serves (.cmdKeyDerive 0) 0 0x0A02 p (p.take 8 ++ b8 b ++ p.drop 16) s (put (rootKey s) (0x80 :: label) s)) := by
  intro a b label ctx put
  have hlenOk : cmdKeyDerive.lenOk p = true := by
    simp [cmdKeyDerive, hlabel, hlabel', hctx, hlen, len]
  have hone : ¬u8 (slice p 16 (u8 p 2)) 0 = 0 := by rwa [label_first hlabel]
  refine ⟨fun src hsrc hlt hcheck => ?_, fun hsrc hroot => ?_⟩
  · refine serves_neither cmdKeyDerive rfl (fun _ _ => rfl) hlenOk (fun _ _ => ?_) (fun _ _ => ?_) (by simp [put]) rfl
    · have : ¬(240 ≤ u8 p 0 ∨ 240 ≤ u8 p 1 ∧ u8 p 1 < 255) := by omega
      simp only [cmdKeyDerive, if_neg this]
    · have : ¬src = 255 := by omega
      simp [cmdKeyDerive, hsrc, this, hcheck, hone, hattr, a, b, label, ctx, put]
  · refine serves_neither cmdKeyDerive rfl (fun _ _ => rfl) hlenOk (fun _ _ => ?_) (fun _ _ => ?_) (by simp [put]) rfl
    · have : ¬(240 ≤ u8 p 0 ∨ 240 ≤ u8 p 1 ∧ u8 p 1 < 255) := by omega
      simp only [cmdKeyDerive, if_neg this]
    · simp [cmdKeyDerive, hsrc, hroot, hone, hattr, a, b, label, ctx, put]

theorem keyClear_info {mb : Nat} (hlen : p.length = 1) (hn : u8 p 0 < 240) :
    let x := slotOf (u8 p 0) s
    (mb = 0 ∨ mb = 2 → Serves (.cmdKeyClear mb) mb 0x0A03 p [] s (clearSlot (u8 p 0) s)) ∧
    (mb < 5 → x.status = 0 → Serves (.cmdKeyInfo mb) mb 0x0A04 p (b1 0 ++ zeros 7 ++ b8 x.attr ++ zeros 4) s s) ∧
    (mb < 5 → x.status = 1 → x.tag = slotTag (u8 p 0) x.key x.attr s → attrUsage x.attr ≠ 4 → attrAlg x.attr ≠ 2 →
      Serves (.cmdKeyInfo mb) mb 0x0A04 p (b1 1 ++ zeros 7 ++ b8 x.attr ++ (cmac (slotKey x) (zeros 16)).take 4) s s) := by
  intro x
  refine ⟨fun hmb => ?_, fun hmb hempty => ?_, fun hmb hvalid htag huse halg => ?_⟩
  · refine serves_neither cmdKeyClear rfl (fun _ _ => ?_) (beq_iff_eq.mpr hlen) (fun _ _ => slotIdx_free hn) (fun _ _ => rfl) (by simp) rfl
    rcases hmb with rfl | rfl <;> rfl
  · refine serves_neither cmdKeyInfo rfl (fun _ _ => mbs_any hmb) (beq_iff_eq.mpr hlen) (fun _ _ => slotIdx_free hn) (fun _ _ => ?_) rfl rfl
    have hempty : (slotOf (u8 p 0) s).status = 0 := hempty
    simp [cmdKeyInfo, hempty, kcvOf_empty s hempty, x]
  · refine serves_neither cmdKeyInfo rfl (fun _ _ => mbs_any hmb) (beq_iff_eq.mpr hlen) (fun _ _ => slotIdx_free hn) (fun _ _ => ?_) rfl rfl
    have hvalid : (slotOf (u8 p 0) s).status = 1 := hvalid
    have hsound : ¬((slotOf (u8 p 0) s).tag ≠ slotTag (u8 p 0) (slotOf (u8 p 0) s).key (slotOf (u8 p 0) s).attr s) :=
      fun h => h htag
    simp only [cmdKeyInfo, hsound, and_false, if_false, kcvOf_cipher s hvalid huse halg, hvalid, x]

theorem pressRun_lock {mb : Nat} (hmb : mb < 3) :
    (1 ≤ u16 p 0 → u16 p 0 ≤ 64 → p.length = 4 + 48 * u16 p 0 → s.press.retired.getLsbD mb = false →
      Tbl.find s.press.runs mb = none → Begins (.cmdPressRun mb) mb 0x0A05 p s
        (forEach (List.range (u16 p 0)) (fun i s => pressSubmit mb { desc := slice p (4 + 48 * i) 48, origin := .run mb } s)
          { s with press := { s.press with runs := Tbl.insert s.press.runs mb { count := u16 p 0 } } })) ∧
    (p.length = 8 → u8 p 0 = 1 → s.press.lock = none → Tbl.get s.press.barred mb 0 ≤ now s →
      let us := clamp 1 2000 (u32 p 4)
      Serves (.cmdPressLock mb) mb 0x0A06 p (p.take 4 ++ b4 us) s
        { s with press := { s.press with lock := some { cls := mb, us := us, start := now s } } }) ∧
    (∀ l, p.length = 8 → u8 p 0 = 0 → s.press.lock = some l → l.cls = mb → Serves (.cmdPressLock mb) mb 0x0A06 p p s
      { s with press := { s.press with lock := none, barred := Tbl.set s.press.barred mb (now s + 2000000) 0 } }) := by
  have hmay (code tag t : Nat) : mbs [0, 1, 2] ⟨mb, code, tag, t, p⟩ = true := by
    have hcases : mb = 0 ∨ mb = 1 ∨ mb = 2 := by omega
    rcases hcases with rfl | rfl | rfl <;> rfl
  refine ⟨fun h1 h64 hlen hret hrun => ?_, fun hlen hop hfree hbar => ?_, fun l hlen hop hlock hown => ?_⟩
  · refine begins_neither cmdPressRun rfl (fun _ _ => hmay _ _ _) ?_ (fun _ _ => rfl) rfl (fun _ _ => ?_)
    · simp [cmdPressRun, h1, h64, hlen, len]
    · simp [cmdPressRun, hret, hrun]
  · intro us
    refine serves_neither cmdPressLock rfl (fun _ _ => hmay _ _ _) (beq_iff_eq.mpr hlen) (fun _ _ => ?_) (fun _ _ => ?_) rfl rfl
    · simp [cmdPressLock, need, hop]
    · simp [cmdPressLock, hop, hfree, Nat.not_lt.mpr hbar, us]
  · refine serves_neither cmdPressLock rfl (fun _ _ => hmay _ _ _) (beq_iff_eq.mpr hlen) (fun _ _ => ?_) (fun _ _ => ?_) rfl rfl
    · simp [cmdPressLock, need, hop]
    · simp [cmdPressLock, hop, hlock, hown]

theorem pressStatus_answers {mb : Nat} (hmb : mb < 5) (hfree : s.press.lock = none) :
    Serves (.cmdPressStatus mb) mb 0x0A07 [] (((List.range 8).map (fun c => BitVec.ofNat 8 (pressQueue c s).length)) ++
      b1 0xFF ++ zeros 3 ++ b4 0 ++ b1 s.press.retired.toNat ++ b1 (b2n (!s.press.trngOk)) ++ b1 (b2n s.otp.tampered) ++
      zeros 1) s s := by
  refine serves_neither cmdPressStatus rfl (fun _ _ => mbs_any hmb) rfl (fun _ _ => rfl) (fun _ _ => ?_) rfl rfl
  simp [cmdPressStatus, hfree]

theorem asymVerify_answers {mb t : Nat} (hmb : mb < 2) (hlen : p.length = 64) (hroot : u8 p 0 < 4) (hbank : u8 p 1 < 16)
    (hdigest : bit p 2 0 = false) :
    let b := bankOf (u8 p 1) s
    b.owner = mbOwner mb → b.busy = false → b.retired = false → u32 p 12 + 5454 ≤ bankSize →
    poisonIn b.poison (u32 p 12) 5454 = [] → (anchorOf (u8 p 0) s).revoked = false → Served mb 0x0A08 t p s →
    let v := verify (u8 p 0) (slice p 16 48) (Memory.readN b.mem (u32 p 12) 5454) s
    exec (.cmdAsymVerify mb) s = .next (mbDone mb (if v.1 && v.2.1 && v.2.2 then stOk else stAuth) s.sets.gen
      (b1 (b2n v.1 + 2 * b2n v.2.1 + 4 * b2n v.2.2) ++ zeros 3 ++ slice p 16 48) (countVerify v s)) := by
  intro b hown hidle hret hroom hpoison hlive hserved v
  have hread := bankRead_sound hret hpoison
  have hmay (tag : Nat) : cmdAsymVerify.may ⟨mb, 0x0A08, tag, t, p⟩ = true := by
    have hcases : mb = 0 ∨ mb = 1 := by omega
    rcases hcases with rfl | rfl <;> rfl
  have hrun := runCmd_neither (c := cmdAsymVerify) (u := countVerify v s)
    (st := if v.1 && v.2.1 && v.2.2 then stOk else stAuth)
    (data := b1 (b2n v.1 + 2 * b2n v.2.1 + 4 * b2n v.2.2) ++ zeros 3 ++ slice p 16 48) rfl hserved
    hmay (beq_iff_eq.mpr hlen) (fun _ => ?_) (fun _ => ?_)
  · rw [countVerify_sets] at hrun
    exact congrArg Host.Outcome.next hrun
  · simp [cmdAsymVerify, need, hroot, hbank, hdigest, hroom, show (bankOf (u8 p 1) s).owner = _ from hown,
      show (bankOf (u8 p 1) s).busy = _ from hidle]
  · simp [cmdAsymVerify, hdigest, hlive, hread, v, b]

theorem anchor_answers {n : Nat} (hn : u8 p 0 = n) (h1 : 1 ≤ n) (h3 : n ≤ 3) (hlen : p.length = 52) :
    let a := anchorOf n s
    let answer (a : Anchor) : Bytes := slice p 0 4 ++ slice a.digest 0 48 ++ b1 (b2n a.revoked)
    (u8 p 1 = 0 → Serves (.cmdAnchor 0) 0 0x0A09 p (answer a) s s) ∧
    (u8 p 1 = 1 → a.programmed = false → s.otp.life < 2 →
      let a' := { a with programmed := true, digest := slice p 4 48 }
      Serves (.cmdAnchor 0) 0 0x0A09 p (answer a') s (setAnchor n a' s)) ∧
    (u8 p 1 = 2 → liveAnchors s ≠ [n] →
      Serves (.cmdAnchor 0) 0 0x0A09 p (answer { a with revoked := true }) s (setAnchor n { a with revoked := true } s)) := by
  intro a answer
  have hlenOk : cmdAnchor.lenOk p = true := by simp [cmdAnchor, hlen, len]
  have hidx (hop : u8 p 1 ≤ 2) (tag t : Nat) : cmdAnchor.idx ⟨0, 0x0A09, tag, t, p⟩ s = stOk := by
    simp [cmdAnchor, need, hn, h1, h3, hop]
  refine ⟨fun hop => ?_, fun hop hprog hlife => ?_, fun hop hlive => ?_⟩
  · refine serves_neither cmdAnchor rfl (fun _ _ => rfl) hlenOk (hidx (by omega)) (fun _ _ => ?_) rfl rfl
    simp [cmdAnchor, hop, hn, answer, a]
  · intro a'
    refine serves_neither cmdAnchor rfl (fun _ _ => rfl) hlenOk (hidx (by omega)) (fun _ _ => ?_) (by simp) rfl
    have hopen : ¬2 ≤ s.otp.life := by omega
    have hprog : (anchorOf n s).programmed = false := hprog
    simp [cmdAnchor, hop, hn, hprog, hopen, answer, a, a']
  · refine serves_neither cmdAnchor rfl (fun _ _ => rfl) hlenOk (hidx (by omega)) (fun _ _ => ?_) (by simp) rfl
    simp [cmdAnchor, hop, hn, hlive, answer, a]

theorem lifeCycle_burns (hlen : p.length = 8) (hnext : u8 p 0 = s.otp.life + 1) (hword : u32 p 4 = 0x4C435943) :
    let burn (u : State) : State :=
      raise 92 0 (emit (.fuse 0 (s.otp.life + 1)) { u with otp := { u.otp with life := s.otp.life + 1 } })
    (s.otp.life = 0 → liveAnchors s ≠ [] → Serves (.cmdLifeCycle 0) 0 0x0A0A p p s (burn (zeroSecure s))) ∧
    (s.otp.life = 1 → Serves (.cmdLifeCycle 0) 0 0x0A0A p p s (burn (zeroSecure s))) ∧
    (s.otp.life = 2 → Serves (.cmdLifeCycle 0) 0 0x0A0A p p s
      (let u := zeroSecure s
       burn (unloadSlots (fun _ => true) { u with cellar := { u.cellar with slots := [], storeDue := [], limitSeen := [] } }))) := by
  intro burn
  refine ⟨fun hlife hlive => ?_, fun hlife => ?_, fun hlife => ?_⟩
  · refine serves_neither cmdLifeCycle rfl (fun _ _ => rfl) (beq_iff_eq.mpr hlen) (fun _ _ => rfl) (fun _ _ => ?_) (by simp [burn]) rfl
    simp [cmdLifeCycle, hnext, hlife, hlive, hword, burn]
  · refine serves_neither cmdLifeCycle rfl (fun _ _ => rfl) (beq_iff_eq.mpr hlen) (fun _ _ => rfl) (fun _ _ => ?_) (by simp [burn]) rfl
    simp [cmdLifeCycle, hnext, hlife, hword, burn]
  · refine serves_neither cmdLifeCycle rfl (fun _ _ => rfl) (beq_iff_eq.mpr hlen) (fun _ _ => rfl) (fun _ _ => ?_) (by simp [burn]) rfl
    simp [cmdLifeCycle, hnext, hlife, hword, burn]

theorem tamper_answers {mb : Nat} (hlen : p.length = 2) :
    let answer (u : State) : Bytes := b1 (u8 p 0) ++ b1 u.cellar.enables.toNat ++ b1 (b2n u.otp.tampered) ++
      b1 u.otp.tamperCount ++ b4 u.cellar.lastWipe
    (u8 p 0 = 0 → Serves (.cmdTamper mb) mb 0x0A0B p (answer s) s s) ∧
    (u8 p 0 = 1 → s.otp.life < 2 →
      let u : State := { s with cellar := { s.cellar with enables := BitVec.ofNat 5 (u8 p 1) } }
      Serves (.cmdTamper 0) 0 0x0A0B p (answer u) s u) ∧
    (u8 p 0 = 2 →
      let u := restorePersist (raise 92 1 { s with otp := { s.otp with tampered := decide (64 ≤ s.otp.tamperCount) } })
      Serves (.cmdTamper 0) 0 0x0A0B p (answer u) s u) := by
  intro answer
  have hidx (k : Nat) (hop : u8 p 0 ≤ 2) (tag t : Nat) : cmdTamper.idx ⟨k, 0x0A0B, tag, t, p⟩ s = stOk := by
    simp [cmdTamper, need, hop]
  refine ⟨fun hop => ?_, fun hop hlife => ?_, fun hop => ?_⟩
  · refine serves_neither cmdTamper rfl (fun _ _ => ?_) (beq_iff_eq.mpr hlen) (hidx mb (by omega)) (fun _ _ => ?_) rfl rfl
    · simp [cmdTamper, readOps, hop]
    · simp [cmdTamper, hop, answer]
  · intro u
    refine serves_neither cmdTamper rfl (fun _ _ => ?_) (beq_iff_eq.mpr hlen) (hidx 0 (by omega)) (fun _ _ => ?_) rfl rfl
    · simp [cmdTamper, readOps]
    · have hopen : ¬2 ≤ s.otp.life := by omega
      simp [cmdTamper, hop, hopen, answer, u]
  · intro u
    refine serves_neither cmdTamper rfl (fun _ _ => ?_) (beq_iff_eq.mpr hlen) (hidx 0 (by omega)) (fun _ _ => ?_) (by simp [u]) rfl
    · simp [cmdTamper, readOps]
    · simp [cmdTamper, hop, answer, u]

end

/-- Settles O47: each command of keys, Press, anchors, life cycle and tamper, by what its body answers. -/
theorem keyAndPressCommandsAnswer : Obligations.KeyAndPressCommandsAnswer := by
  unfold Obligations.KeyAndPressCommandsAnswer
  exact ⟨fun _ _ => ⟨keySlots_protected, fun hn hattr =>
      ⟨keyWrite_writes hn hattr, keyGenerate_writes hn hattr, keyDerive_writes hn hattr⟩⟩,
    fun _ _ _ => keyClear_info, fun _ _ _ => pressRun_lock, fun _ _ => pressStatus_answers, fun _ _ _ _ => asymVerify_answers,
    fun _ _ _ => anchor_answers, fun _ _ => lifeCycle_burns, fun _ _ _ => tamper_answers⟩

end Sys2Proof
end

section
/-!
PROOF. The exit from Burrow: its reset of the time bases withdraws an armed update, which tells the coordinator (R435,
R475). The STATUS frame takes a sequence number of the flash part and cells of the Vat.
-/

namespace Sys2Proof.Machine

open Sys2Proof

/-- A device in Burrow at the end of its exit, armed with an update whose time counts in time base 1; its chain goes up
through port 0, under a VALID key of slot 0. -/
def burrowArmed : State :=
  { servingDevice with
    sleep := { state := 3, asleep := true, railsUp := true, target := 2 }
    upd := { state := 3, chain := { upstream := 0, genSlot := 0 } }
    time := { tb := [(1, { state := .enabled })] }
    cellar := { slots := [(0, { status := 1, attr := 1029 })] } }

/-- The sequence number of chain control frames after an outcome. -/
def seqAfter : Res → Option Nat
  | .next t => some t.flash.ctlSeq
  | _ => none

theorem burrowExit_sends_status : seqAfter (exec (.sleepExitComplete 0 0 0 []) burrowArmed) = some 1 := by decide +kernel

theorem burrowArmed_seq : burrowArmed.flash.ctlSeq = 0 := rfl

end Sys2Proof.Machine

namespace Sys2Proof

open Machine

/-- Refutes O48: the exit from Burrow need not leave the flash part. An armed update is withdrawn with its time base, and
the STATUS frame that says so takes the next sequence number of the flash part. -/
theorem not_sleepEntriesAndExits : ¬ Obligations.SleepEntriesAndExits := by
  unfold Obligations.SleepEntriesAndExits
  rintro ⟨-, -, -, -, -, hexit, -⟩
  obtain ⟨t, hexec, -, -, -, -, -, -, -, hflash⟩ := (hexit 0 0 0 [] burrowArmed rfl rfl rfl).2 rfl rfl rfl rfl
  have hseq : some t.flash.ctlSeq = some 1 := by
    rw [← burrowExit_sends_status, hexec]
    rfl
  rw [hflash, burrowArmed_seq] at hseq
  exact absurd hseq (by decide)

end Sys2Proof
end

section

/-!
PROOF. Network coordination (R445 to R460): frames, readiness, the commit, the entry and the offenders.
-/

namespace Sys2Proof.Machine

open Sys2Proof

@[simp] theorem mdioStart_sleep (b : Nat) (o : MdioOp) (s : State) : (mdioStart b o s).sleep = s.sleep := by
  simp [mdioStart]

@[simp] theorem mdioAsk_sleep (b : Nat) (o : MdioOp) (s : State) : (mdioAsk b o s).sleep = s.sleep := by
  unfold mdioAsk
  dsimp only
  repeat' split
  all_goals simp

@[simp] theorem phyWrite_sleep (l reg v : Nat) (s : State) : (phyWrite l reg v s).sleep = s.sleep := by
  simp [phyWrite]

@[simp] theorem tc10Sleep_sleep (l : Nat) (mb : Option Nat) (s : State) : (tc10Sleep l mb s).sleep = s.sleep := by
  simp [tc10Sleep, forEach_sleep, apply_ite State.sleep]

@[simp] theorem nmState_vat (n : Nat) (s : State) : (nmState n s).vat = s.vat := by
  unfold nmState
  repeat' split
  all_goals simp

@[simp] theorem countEdge_sleep (n i : Nat) (s : State) : (countEdge n i s).sleep = s.sleep := by
  simp [countEdge]

@[simp] theorem flushHeld_sleep (n : Nat) (s : State) : (flushHeld n s).sleep = s.sleep := by
  unfold flushHeld
  dsimp only
  repeat' split
  all_goals simp

@[simp] theorem chanSet_sleep (st n : Nat) (s : State) : (chanSet st n s).sleep = s.sleep := by
  unfold chanSet
  dsimp only
  repeat' split
  all_goals simp

@[simp] theorem chanState_sleep (n st : Nat) (s : State) : (chanState n st s).sleep = s.sleep := by
  refine forEach_sleep _ _ _ fun _ _ => ?_
  simp

@[simp] theorem linHeader_sleep (n ident : Nat) (s : State) : (linHeader n ident s).sleep = s.sleep := by
  simp [linHeader]

@[simp] theorem entryStart_vat (target : Nat) (net : Bool) (s : State) : (entryStart target net s).vat = s.vat := by
  simp [entryStart]

@[simp] theorem linDown_sleep (n : Nat) (s : State) : (linDown n s).sleep = s.sleep := by
  simp [linDown]

@[simp] theorem linSleep_sleep (n : Nat) (s : State) : (linSleep n s).sleep = s.sleep := by
  simp [linSleep]

@[simp] theorem netEntry_vat (s : State) : (netEntry s).vat = s.vat := by
  simp [netEntry]

/-- A change of the coordination's state, as its rule. -/
theorem nmState_nm (n : Nat) (s : State) : (nmState n s).sleep.nm = { s.sleep.nm with state := n } := by
  by_cases h : s.sleep.nm.state = n
  · rw [nmState, if_pos h, ← h]
  · rw [nmState, if_neg h, notice_sleep]

/-- The commit has started: no time of it is still awaited. -/
theorem commitStart_nm (s : State) : (commitStart s).sleep.nm.state = 3 ∧ (commitStart s).sleep.nm.commitAt = none := by
  let u := nmState 3 (setNm (fun n => { n with commitAt := none, windowEnd := 0 }) (raise 54 2 (count 255 173 s)))
  have hu : u.sleep.nm.state = 3 ∧ u.sleep.nm.commitAt = none := by
    rw [nmState_nm]
    exact ⟨rfl, rfl⟩
  have hsleep : (commitStart s).sleep.nm.state = u.sleep.nm.state ∧ (commitStart s).sleep.nm.commitAt = u.sleep.nm.commitAt := by
    simp [commitStart, forEach_sleep, setNm, u]
  exact ⟨hsleep.1.trans hu.1, hsleep.2.trans hu.2⟩

/-- The coordination's entry into sleep (R457). -/
theorem netEntry_sleep (s : State) :
    (netEntry s).sleep.entry = .drain ∧ (netEntry s).sleep.target = s.sleep.nm.target ∧ (netEntry s).sleep.net = true ∧
      (netEntry s).sleep.nm.state = 4 ∧ (netEntry s).sleep.state = 1 := by
  simp [netEntry, entryStart, nmState_nm]

theorem nmFrameReceive_effect {p : Nat} {x : Copy} {rest : List Copy} {f : VFrame} {s : State} (hup : dieshUp s = true)
    (hen : (nmBusOf p s).en = true) (hfirst : takeFirst (fun x => isNmCopy p x s) (vatQueue 673 s).copies = some (x, rest))
    (hframe : frameOf x.fid s = some f) :
    Gives (.nmFrameReceive p) s (nmFrame p (nmPdu f.frame x.stack) (f.frame.ts.getD 0 0)
      (releaseRef x.fid (setVatQueue 673 { vatQueue 673 s with copies := rest } (emit (.toVintner (copyBytes x s)) s)))) := by
  have hruns : ¬((!dieshUp s) = true ∨ (!(nmBusOf p s).en) = true) := by simp [hup, hen]
  simp only [Gives, exec, execNmFrameReceive, if_neg hruns, hfirst, hframe]

theorem nmBusTimeout_effect {p : Nat} {s : State} (hup : dieshUp s = true) (hen : (nmBusOf p s).en = true)
    (hready : (nmBusOf p s).ready = false) (hquiet : ∀ x ∈ s.sleep.nm.nodes, x.port = p → keepsAwake x s = false)
    (hunt : ∀ t, (nmBusOf p s).untracked = some t → msOver t (nmBusOf p s).timeoutMs s = true) :
    Gives (.nmBusTimeout p) s (nmChanged (setNmBus p { nmBusOf p s with ready := true } s)) := by
  have hnodes : (s.sleep.nm.nodes.filter (fun x => x.port == p)).all (fun x => !keepsAwake x s) = true := by
    rw [List.all_eq_true]
    intro x hx
    obtain ⟨hx, hport⟩ := List.mem_filter.mp hx
    simp [hquiet x hx (beq_iff_eq.mp hport)]
  cases hu : (nmBusOf p s).untracked with
  | none => simp [Gives, exec, execNmBusTimeout, hup, hen, hready, hu, hnodes, -List.all_filter]
  | some t => simp [Gives, exec, execNmBusTimeout, hup, hen, hready, hu, hnodes, hunt t hu, -List.all_filter]

/-- The queue of an own NM frame of bus `p`: one of the port's, the model's choice `k` (R449). -/
def ownQueue (p k : Nat) : Nat := if p < 32 then 8 * p + Config.freeNat k % 8 else 256 + 4 * (p - 32) + Config.freeNat k % 4

theorem nmTxCycle_effect {p : Nat} {s : State} (hen : (nmBusOf p s).en = true) (hruns : coordRuns s = true)
    (hopen : s.sleep.gated = false) (hhold : (nmBusOf p s).hold = true) :
    Ends (.nmTxCycle p) s (fun t => ∃ q : Nat,
      t = count p 33 (directedSend p q (ownFrame p s).1 none { (ownFrame p s).2 with fresh := (ownFrame p s).2.fresh + 1 }) ∧
      (p < 32 → 8 * p ≤ q ∧ q < 8 * p + 8)) := by
  have hgo : (nmBusOf p s).en = true ∧ coordRuns s = true ∧ (!s.sleep.gated) = true ∧
      (requested s = true ∨ (!othersReady p s) = true ∨ (nmBusOf p s).hold = true) := by
    simp [hen, hruns, hopen, hhold]
  have hexec : exec (.nmTxCycle p) s = .next (count p 33 (directedSend p (ownQueue p (ownFrame p s).2.fresh) (ownFrame p s).1
      none { (ownFrame p s).2 with fresh := (ownFrame p s).2.fresh + 1 })) := by
    simp only [exec, execNmTxCycle, if_pos hgo]
    rfl
  refine ⟨_, hexec, ownQueue p (ownFrame p s).2.fresh, rfl, fun hp => ?_⟩
  rw [ownQueue, if_pos hp]
  omega

theorem nmHoldExpiry_effect {p : Nat} {s : State} (hhold : (nmBusOf p s).hold = true) :
    let u := setNmBus p { nmBusOf p s with hold := false } s
    ((nmBusPorts u).any (fun q => (nmBusOf q u).hold) = true → Gives (.nmHoldExpiry p) s u) ∧
    ((nmBusPorts u).any (fun q => (nmBusOf q u).hold) = false →
      let v := setNm (fun n => { n with local_ := false }) u
      Gives (.nmHoldExpiry p) s (nmChanged (if s.sleep.nm.state = 1 then nmState 0 v else v))) := by
  intro u
  have hgo : ¬(!(nmBusOf p s).hold) = true := by simp [hhold]
  refine ⟨fun hany => ?_, fun hnone => ?_⟩
  · simp only [Gives, exec, execNmHoldExpiry, if_neg hgo]
    exact if_pos hany
  · simp only [Gives, exec, execNmHoldExpiry, if_neg hgo]
    exact if_neg (ne_true_of_eq_false hnone)

theorem nmCommitStart_effect {s : State} (hruns : coordRuns s = true)
    (hdue : (s.sleep.nm.state = 2 ∧ s.sleep.nm.windowEnd + 1000000 ≤ now s) ∨ (∃ t, s.sleep.nm.commitAt = some t ∧ t ≤ now s)) :
    Ends .nmCommitStart s (fun t => t = commitStart s ∧ t.sleep.nm.state = 3 ∧ t.sleep.nm.commitAt = none) := by
  refine ⟨_, ?_, rfl, commitStart_nm s⟩
  rcases hdue with ⟨hstate, hend⟩ | ⟨t, hat, hnow⟩
  · simp [exec, execNmCommitStart, hruns, hstate, hend]
  · simp [exec, execNmCommitStart, hruns, hat, hnow]

theorem linSlaveSilence_effect {n : Nat} {s : State} (hstate : s.sleep.nm.state = 3) (hlin : s.sleep.nm.lins.contains n = true) :
    Gives (.linSlaveSilenceTimeout n) s (setNm (fun m => { m with lins := m.lins.filter (· != n) }) (linDown n s)) := by
  simp only [Gives, exec, execLinSlaveSilenceTimeout, if_pos (And.intro hstate hlin)]

theorem sleepEntryStart_effect {s : State} (hstate : s.sleep.nm.state = 3) (hlanes : s.sleep.nm.lanes = [])
    (hlins : s.sleep.nm.lins = []) (hwait : s.sleep.nm.pairWait = false) (hruns : coordRuns s = true) :
    (s.pair.state = 2 → Gives .sleepEntryStart s (pairSend 3 (Config.freeFrame s.fresh)
      (setNm (fun n => { n with pairWait := true }) { s with fresh := s.fresh + 1 }))) ∧
    (s.pair.state ≠ 2 → Ends .sleepEntryStart s (fun t => t.sleep.entry = .drain ∧ t.sleep.target = s.sleep.nm.target ∧
      t.sleep.net = true ∧ t.sleep.nm.state = 4 ∧ t.sleep.state = 1 ∧ t.vat = s.vat ∧ t.otp = s.otp)) := by
  have hexec : exec .sleepEntryStart s = if s.pair.state = 2 then
      .next (pairSend 3 (Config.freeFrame s.fresh) (setNm (fun n => { n with pairWait := true }) { s with fresh := s.fresh + 1 }))
      else .next (netEntry s) := by
    simp [exec, execSleepEntryStart, hstate, hlanes, hlins, hwait, hruns, takeFresh]
  refine ⟨fun hpair => hexec.trans (if_pos hpair), fun hpair => ?_⟩
  obtain ⟨hentry, htarget, hnet, hnm, hst⟩ := netEntry_sleep s
  exact ⟨_, hexec.trans (if_neg hpair), hentry, htarget, hnet, hnm, hst, netEntry_vat s,
    otp_of_frozen (by simp [netEntry, entryStart])⟩

theorem offenderTimeout_effect {p node t : Nat} {x : NmNode} {s : State}
    (hx : s.sleep.nm.nodes.find? (fun x => x.port == p && x.node == node) = some x) (hsince : x.since = some t)
    (hlog : x.logged = false) (htime : t + 1000000000 * s.sleep.nm.offendS ≤ now s) (hruns : coordRuns s = true) :
    Gives (.offenderTimeout p node) s (nmChanged (offender x ((now s - t) / 1000000000) (setNm (fun n => { n with
      nodes := n.nodes.map (fun y => if y.port = p ∧ y.node = node then { y with logged := true } else y) }) s))) := by
  have hgo : ¬(x.logged = true ∨ now s < t + 1000000000 * s.sleep.nm.offendS ∨ (!coordRuns s) = true) := by
    simp [hlog, hruns, htime]
  simp only [Gives, exec, execOffenderTimeout, hx, hsince, if_neg hgo]
  rfl

theorem suppressionEnd_effect {p node i : Nat} {s : State} (hi : stayIdx p node s = some i)
    (hsup : (stayAt i s).suppressed = true)
    (hquiet : ∀ x ∈ s.sleep.nm.nodes, x.port = p → x.node = node → msOver x.lastSeen (nmBusOf p s).timeoutMs s = true) :
    Gives (.suppressionEnd p node) s (setStay i { stayAt i s with suppressed := false } s) := by
  have hall : s.sleep.nm.nodes.all
      (fun x => !(x.port == p && x.node == node) || msOver x.lastSeen (nmBusOf p s).timeoutMs s) = true := by
    rw [List.all_eq_true]
    intro x hx
    by_cases hxp : x.port = p ∧ x.node = node
    · simp [hquiet x hx hxp.1 hxp.2]
    · have hother : (x.port == p && x.node == node) = false := by
        rw [Bool.eq_false_iff]
        simpa using hxp
      rw [hother]
      rfl
  simp only [Gives, exec, execSuppressionEnd, hi, hall, if_true, unsuppress, hsup]

end Sys2Proof.Machine

namespace Sys2Proof

open Machine

/-- Settles O49: each clause is the event's own lemma. -/
theorem networkCoordinationRuns : Obligations.NetworkCoordinationRuns := by
  unfold Obligations.NetworkCoordinationRuns
  exact ⟨fun _ _ _ _ _ => nmFrameReceive_effect, fun _ _ => nmBusTimeout_effect, fun _ _ _ => rfl,
    fun _ _ => nmTxCycle_effect, fun _ _ => nmHoldExpiry_effect, fun _ => nmCommitStart_effect,
    fun _ _ => linSlaveSilence_effect, fun _ => sleepEntryStart_effect, fun _ _ _ _ _ => offenderTimeout_effect,
    fun _ _ _ _ => suppressionEnd_effect⟩

end Sys2Proof
end

section

/-!
PROOF. The commands of power levels, sleep, wake sources and network coordination (group 0x0B): what each answers.
-/

namespace Sys2Proof.Machine

open Sys2Proof

@[simp] theorem wakeConfirmed_sets (w : Wake) (s : State) : (wakeConfirmed w s).sets = s.sets := by
  simp [wakeConfirmed]

@[simp] theorem nmState_sets (n : Nat) (s : State) : (nmState n s).sets = s.sets := by
  unfold nmState
  repeat' split
  all_goals simp

@[simp] theorem nmHoldAll_sets (own : Bool) (s : State) : (nmHoldAll own s).sets = s.sets := by
  refine (nmState_sets ..).trans (forEach_sets _ _ _ fun p s => ?_)
  rfl

@[simp] theorem windowCancel_sets (s : State) : (windowCancel s).sets = s.sets := by
  simp [windowCancel, apply_ite State.sets]

@[simp] theorem laneWakeUp_sets (l : Nat) (s : State) : (laneWakeUp l s).sets = s.sets := by
  unfold laneWakeUp
  repeat' split
  all_goals simp

@[simp] theorem linPulse_sets (n : Nat) (s : State) : (linPulse n s).sets = s.sets := by
  unfold linPulse
  dsimp only
  repeat' split
  all_goals simp

@[simp] theorem networkWake_sets (own : Bool) (s : State) : (networkWake own s).sets = s.sets := by
  simp [networkWake, forEach_sets]

@[simp] theorem wakeNote_sets (w : Wake) (s : State) : (wakeNote w s).sets = s.sets := by
  simp [wakeNote]

@[simp] theorem wakeInfo_sets (w : Wake) (s : State) : (wakeInfo w s).sets = s.sets := by
  simp [wakeInfo]

@[simp] theorem exitStart_sets (w : Wake) (s : State) : (exitStart w s).sets = s.sets := by
  unfold exitStart
  repeat' split
  all_goals simp

@[simp] theorem entryUndo_sets (result : Nat) (s : State) : (entryUndo result s).sets = s.sets := by
  simp [entryUndo]

@[simp] theorem pairAbort_sets (s : State) : (pairAbort s).sets = s.sets := by
  unfold pairAbort
  dsimp only
  repeat' split
  all_goals simp

@[simp] theorem netUndo_sets (own peer : Bool) (s : State) : (netUndo own peer s).sets = s.sets := by
  unfold netUndo
  dsimp only
  repeat' split
  all_goals simp

@[simp] theorem sleepAbort_sets (ap : Nat) (w : Wake) (s : State) : (sleepAbort ap w s).sets = s.sets := by
  unfold sleepAbort
  dsimp only
  repeat' split
  all_goals simp [forEach_sets]

@[simp] theorem wakeEntry_sets (w : Wake) (s : State) : (wakeEntry w s).sets = s.sets := by
  unfold wakeEntry
  dsimp only
  repeat' split
  all_goals simp

@[simp] theorem wake_sets (w : Wake) (s : State) : (wake w s).sets = s.sets := by
  unfold wake
  dsimp only
  repeat' split
  all_goals simp

@[simp] theorem setFlashBank_sets (n : Nat) (b : FlashBank) (s : State) : (setFlashBank n b s).sets = s.sets := by
  unfold setFlashBank
  repeat' split
  all_goals simp

@[simp] theorem keepSettings_sets (f : Settings → Settings) (s : State) : (keepSettings f s).sets = s.sets := by
  simp [keepSettings]

@[simp] theorem driveVsel_sets (level : Nat) (s : State) : (driveVsel level s).sets = s.sets := by
  unfold driveVsel
  repeat' split
  all_goals simp

@[simp] theorem clocksAt_sets (level : Nat) (s : State) : (clocksAt level s).sets = s.sets := by
  simp [clocksAt]

@[simp] theorem entryStart_sets (target : Nat) (net : Bool) (s : State) : (entryStart target net s).sets = s.sets := by
  simp [entryStart]

@[simp] theorem setStay_sets (i : Nat) (e : StayEntry) (s : State) : (setStay i e s).sets = s.sets := by
  simp [setStay]

@[simp] theorem holdEnds_sets (x : NmNode) (s : State) : (holdEnds x s).sets = s.sets := by
  unfold holdEnds
  repeat' split
  all_goals simp

@[simp] theorem nmHolders_sets (s : State) : (nmHolders s).sets = s.sets := by
  refine forEach_sets _ _ _ fun _ _ => ?_
  simp

@[simp] theorem seekAgreement_sets (s : State) : (seekAgreement s).sets = s.sets := by
  unfold seekAgreement
  dsimp only
  repeat' split
  all_goals simp

@[simp] theorem nmChanged_sets (s : State) : (nmChanged s).sets = s.sets := by
  simp [nmChanged]

@[simp] theorem nmEvent_sets (t : Nat) (own : Bool) (s : State) : (nmEvent t own s).sets = s.sets := by
  unfold nmEvent
  dsimp only
  repeat' split
  all_goals simp

@[simp] theorem unsuppress_sets (i : Nat) (s : State) : (unsuppress i s).sets = s.sets := by
  unfold unsuppress
  dsimp only
  repeat' split
  all_goals simp


@[simp] theorem nmSettings_sets (p : Bytes) (s : State) : (nmSettings p s).sets = s.sets := by
  unfold nmSettings
  split
  · rw [nmChanged_sets]
    rfl
  · refine (nmState_sets ..).trans (forEach_sets _ _ _ fun q s => ?_)
    rfl

/-- The settings of CMD_POWER_LEVEL but for the level itself. -/
def levelSettings (p : Bytes) (s : State) : State :=
  { s with sleep := { s.sleep with vselEn := bit p 2 1, settleUs := clamp 10 1000 (u32 p 4) } }

/-- A change to a higher level acts at once (R427). -/
theorem levelChange_higher {l : Nat} (mb : Option Nat) {s : State} (h : s.sleep.level < l) :
    levelChange l mb s = driveVsel l (clocksAt l s) := if_pos h

/-- The level a device is at is no change. -/
theorem levelChange_same {l : Nat} (mb : Option Nat) {s : State} (h : s.sleep.level = l) : levelChange l mb s = s := by
  simp [levelChange, h]

/-- A change to a lower level waits for the supply (R427). -/
theorem levelChange_lower {l : Nat} (mb : Option Nat) {s : State} (h : l < s.sleep.level) :
    levelChange l mb s = { driveVsel l s with sleep := { (driveVsel l s).sleep with rising := some (l, mb) } } := by
  rw [levelChange, if_neg (by omega), if_pos h]

@[simp] theorem driveVsel_sleep (l : Nat) (s : State) : (driveVsel l s).sleep = s.sleep := by
  unfold driveVsel
  split <;> rfl

theorem clocksAt_rising (l : Nat) (s : State) : (clocksAt l s).sleep.rising = s.sleep.rising := by
  simp [clocksAt]

end Sys2Proof.Machine

namespace Sys2Proof

open Machine

section
variable {mb : Nat} {p : Bytes} {s : State}

/-- CMD_POWER_LEVEL with OP 1, up to the change of the level itself. -/
theorem cmdPowerLevel_sets {tag t : Nat} (hop : u8 p 0 = 1) (hrising : s.sleep.rising = none) (hentry : s.sleep.entry = .none)
    (hstate : s.sleep.state = 0) (hfits : ingressTenths s ≤ complement (u8 p 1) ∨ bit p 2 0 = true) :
    let v := levelChange (u8 p 1) (some 0) (levelSettings p s)
    cmdPowerLevel.body ⟨0, 0x0B00, tag, t, p⟩ s =
      if v.sleep.rising.isSome then .busy v else ok (levelRsp 1 (u8 p 1) (b2n (bit p 2 0)) v) v := by
  have hop0 : ¬u8 p 0 = 0 := by omega
  have hfree : ¬(s.sleep.rising.map (·.2) = some (some 0)) := by simp [hrising]
  have hopen : ¬(s.sleep.entry ≠ .none ∨ s.sleep.state ≠ 0 ∨ s.sleep.rising.isSome = true) := by simp [hentry, hstate, hrising]
  have hload : ¬(complement (u8 p 1) < ingressTenths s ∧ (!bit p 2 0) = true) := by
    rintro ⟨hlt, hforce⟩
    rcases hfits with h | h
    · omega
    · simp [h] at hforce
  simp only [cmdPowerLevel, if_neg hop0, if_neg hfree, if_neg hopen, if_neg hload]
  rfl

theorem powerLevel_answers (hlen : p.length = 8) :
    (u8 p 0 = 0 → Serves (.cmdPowerLevel mb) mb 0x0B00 p (levelRsp 0 s.sleep.level 0 s) s s) ∧
    (u8 p 0 = 1 → u8 p 1 < 4 → s.sleep.rising = none → s.sleep.entry = .none → s.sleep.state = 0 →
      ingressTenths s ≤ complement (u8 p 1) ∨ bit p 2 0 = true →
      let l := u8 p 1
      let u : State := { s with sleep := { s.sleep with vselEn := bit p 2 1, settleUs := clamp 10 1000 (u32 p 4) } }
      (s.sleep.level < l →
        let v := driveVsel l (clocksAt l u)
        Serves (.cmdPowerLevel 0) 0 0x0B00 p (levelRsp 1 l (b2n (bit p 2 0)) v) s v) ∧
      (s.sleep.level = l → Serves (.cmdPowerLevel 0) 0 0x0B00 p (levelRsp 1 l (b2n (bit p 2 0)) u) s u) ∧
      (l < s.sleep.level → Begins (.cmdPowerLevel 0) 0 0x0B00 p s
        (let v := driveVsel l u
         { v with sleep := { v.sleep with rising := some (l, some 0) } }))) := by
  refine ⟨fun hop => ?_, fun hop hl hrising hentry hstate hfits => ?_⟩
  · refine serves_neither cmdPowerLevel rfl (fun _ _ => readAny_op0 hop) (beq_iff_eq.mpr hlen) (fun _ _ => ?_) (fun _ _ => ?_) rfl rfl
    · simp [cmdPowerLevel, need, hop]
    · simp [cmdPowerLevel, hop]
  · intro l u
    have hmay (tag t : Nat) : cmdPowerLevel.may ⟨0, 0x0B00, tag, t, p⟩ = true := by simp [cmdPowerLevel, readAny, readOps]
    have hidx (tag t : Nat) : cmdPowerLevel.idx ⟨0, 0x0B00, tag, t, p⟩ s = stOk := by simp [cmdPowerLevel, need, hop, hl]
    have hbody (tag t : Nat) := cmdPowerLevel_sets (tag := tag) (t := t) hop hrising hentry hstate hfits
    have hold : (levelSettings p s).sleep.level = s.sleep.level ∧ (levelSettings p s).sleep.rising = none := ⟨rfl, hrising⟩
    refine ⟨fun hlt => ?_, fun heq => ?_, fun hgt => ?_⟩
    · refine serves_neither cmdPowerLevel rfl hmay (beq_iff_eq.mpr hlen) hidx (fun tag t => (hbody tag t).trans ?_) (by simp [u]) rfl
      rw [levelChange_higher (s := levelSettings p s) _ hlt]
      exact if_neg (by simp [clocksAt_rising, hold.2])
    · refine serves_neither cmdPowerLevel rfl hmay (beq_iff_eq.mpr hlen) hidx (fun tag t => (hbody tag t).trans ?_) rfl rfl
      rw [levelChange_same (s := levelSettings p s) _ heq]
      exact if_neg (by simp [hold.2])
    · refine begins_neither cmdPowerLevel rfl hmay (beq_iff_eq.mpr hlen) hidx rfl (fun tag t => (hbody tag t).trans ?_)
      rw [levelChange_lower (s := levelSettings p s) _ hgt]
      exact if_pos rfl

theorem sleepEnter_starts (hlen : p.length = 8) (hmb : mb = 0 ∨ mb = 2) (h1 : 1 ≤ u8 p 0) (h3 : u8 p 0 ≤ 3)
    (hentry : s.sleep.entry = .none) (hawake : s.sleep.asleep = false) (hstate : s.sleep.state = 0)
    (hactive : s.pair.state ≠ 2) (hstandby : s.pair.state ≠ 3) :
    let ms := if u32 p 4 = 0 then s.sleep.drainMax else clamp 1 100 (u32 p 4)
    Serves (.cmdSleepEnter mb) mb 0x0B01 p (b1 (u8 p 0) ++ b1 (b2n (bit p 1 0)) ++ zeros 2 ++ b4 ms) s
      (entryStart (u8 p 0) false { s with sleep := { s.sleep with tc10 := bit p 1 0, drainMax := ms } }) := by
  intro ms
  refine serves_neither cmdSleepEnter rfl (fun _ _ => ?_) (beq_iff_eq.mpr hlen) (fun _ _ => ?_) (fun _ _ => ?_) (by simp) rfl
  · rcases hmb with rfl | rfl <;> rfl
  · simp [cmdSleepEnter, need, h1, h3]
  · simp [cmdSleepEnter, hentry, hawake, hstate, hactive, hstandby, ms, entryStart]

theorem sleepExit_answers (hmb : mb < 4) :
    (s.sleep.state ≠ 0 ∨ s.sleep.entry ≠ .none → Serves (.cmdSleepExit mb) mb 0x0B02 [] [] s (wake { source := 30 } s)) ∧
    (s.sleep.state = 0 → s.sleep.entry = .none → Declines (.cmdSleepExit mb) mb 0x0B02 [] stState s) := by
  have hmay (tag t : Nat) : cmdSleepExit.may ⟨mb, 0x0B02, tag, t, []⟩ = true := by
    have hcases : mb = 0 ∨ mb = 1 ∨ mb = 2 ∨ mb = 3 := by omega
    rcases hcases with rfl | rfl | rfl | rfl <;> rfl
  refine ⟨fun hsleep => ?_, fun hstate hentry => ?_⟩
  · have hno : ¬(s.sleep.state = 0 ∧ s.sleep.entry = .none) := fun ⟨hstate, hentry⟩ =>
      hsleep.elim (fun h => h hstate) fun h => h hentry
    exact serves_neither cmdSleepExit rfl hmay rfl (fun _ _ => rfl) (fun _ _ => if_neg hno) (by simp) rfl
  · exact declines_neither cmdSleepExit rfl hmay rfl (fun _ _ => rfl) rfl (fun _ _ => if_pos ⟨hstate, hentry⟩)

theorem wakeConfig_answers (hlen : p.length = 44) :
    (u8 p 0 = 0 → Serves (.cmdWakeConfig mb) mb 0x0B03 p (wakeRsp 0 s) s s) ∧
    (u8 p 0 = 1 →
      let z := s.sleep
      let u : State := { s with sleep := { z with
        sourceEn := BitVec.ofNat 31 (u32 p 4), edgeEn := BitVec.ofNat 96 (leN p 8 12), actFilter := max 1 (u8 p 20),
        fwTimeout := clamp 10 10000 (u16 p 22), inhMap := (List.range 4).map (fun k => u8 p (24 + k) % 4),
        muted := z.muted &&& ~~~BitVec.ofNat 31 (u32 p 28), mutedCh := z.mutedCh &&& ~~~BitVec.ofNat 96 (leN p 32 12) } }
      Serves (.cmdWakeConfig 0) 0 0x0B03 p (wakeRsp 1 u) s u) := by
  refine ⟨fun hop => ?_, fun hop => ?_⟩
  · refine serves_neither cmdWakeConfig rfl (fun _ _ => readAny_op0 hop) (beq_iff_eq.mpr hlen) (fun _ _ => ?_) (fun _ _ => ?_) rfl rfl
    · simp [cmdWakeConfig, need, hop]
    · simp [cmdWakeConfig, hop]
  · intro z u
    refine serves_neither cmdWakeConfig rfl (fun _ _ => ?_) (beq_iff_eq.mpr hlen) (fun _ _ => ?_) (fun _ _ => ?_) rfl rfl
    · simp [cmdWakeConfig, readAny, readOps]
    · simp [cmdWakeConfig, need, hop]
    · have hop0 : ¬u8 p 0 = 0 := by omega
      exact if_neg hop0

theorem wakeMatcher_answers (hlen : p.length = 32) (hn : u8 p 0 < 8) :
    (u8 p 1 = 0 → Serves (.cmdWakeMatcher mb) mb 0x0B04 p (matcherRsp (u8 p 0) 0 s) s s) ∧
    (u8 p 1 = 1 → u8 p 3 < 96 → isCan (edgeChan (u8 p 3) s).mode = true → u8 p 4 ≤ 3 → u8 p 5 ≤ 8 ∨ u8 p 5 = 255 →
      let m : Matcher := { flags := u8 p 2 % 8, channel := u8 p 3, rate := u8 p 4, dlc := u8 p 5, id := u32 p 8 % 536870912,
                           idMask := u32 p 12 % 536870912, data := slice p 16 8, dataMask := slice p 24 8 }
      let u : State := { s with sleep := { s.sleep with matchers := Tbl.set s.sleep.matchers (u8 p 0) m {} } }
      Serves (.cmdWakeMatcher 0) 0 0x0B04 p (matcherRsp (u8 p 0) 1 u) s u) := by
  refine ⟨fun hop => ?_, fun hop hch hcan hrate hdlc => ?_⟩
  · refine serves_neither cmdWakeMatcher rfl (fun _ _ => readAny_op0 hop) (beq_iff_eq.mpr hlen) (fun _ _ => ?_) (fun _ _ => ?_) rfl rfl
    · simp [cmdWakeMatcher, need, hop, hn]
    · simp [cmdWakeMatcher, hop]
  · intro m u
    have hop0 : ¬u8 p 1 = 0 := by omega
    have hok : ¬((!isCan (edgeChan (u8 p 3) s).mode) = true ∨ 3 < u8 p 4 ∨ (8 < u8 p 5 ∧ u8 p 5 ≠ 255)) := by
      simp only [hcan, Bool.not_true, Bool.false_eq_true, false_or]
      omega
    refine serves_neither cmdWakeMatcher rfl (fun _ _ => ?_) (beq_iff_eq.mpr hlen) (fun _ _ => ?_) (fun _ _ => ?_) rfl rfl
    · simp [cmdWakeMatcher, readAny, readOps]
    · simp [cmdWakeMatcher, need, hop, hn, hch]
    · simp only [cmdWakeMatcher, if_neg hop0, if_neg hok]
      rfl

theorem nmBus_answers {q : Nat} (hlen : p.length = 74) (hport : u8 p 0 = q) (hq : q < 128) :
    (u8 p 1 = 0 → Serves (.cmdNmBus mb) mb 0x0B05 p (nmBusRsp q 0 s) s s) ∧
    (u8 p 1 = 1 → nmBusConflict p s = false → bit p 2 0 = true →
      let old := nmBusOf q s
      let b : NmBus := { en := true, ide := bit p 2 1, tc10 := bit p 2 2, ownNode := u8 p 3, nodePos := min 63 (u8 p 4),
                         cbvPos := (if u8 p 5 = 0xFF then 0xFF else min 63 (u8 p 5)), rmBit := u8 p 6 % 8, awBit := u8 p 6 / 8 % 8,
                         pduLen := clamp 1 64 (u8 p 7), idLo := u32 p 8, idHi := u32 p 12, txId := u32 p 16,
                         cycleMs := clamp 10 10000 (u16 p 20), timeoutMs := max 100 (u16 p 22), repeatMs := u16 p 24,
                         template := slice (slice p 28 46) 0 (min 46 (u8 p 26)), ready := old.ready && old.en, hold := old.hold,
                         untracked := old.untracked, ident := old.ident }
      let u := setNmBus q b s
      Serves (.cmdNmBus 0) 0 0x0B05 p (nmBusRsp q 1 u) s (nmChanged u)) := by
  refine ⟨fun hop => ?_, fun hop hok hen => ?_⟩
  · refine serves_neither cmdNmBus rfl (fun _ _ => readAny_op0 hop) (beq_iff_eq.mpr hlen) (fun _ _ => ?_) (fun _ _ => ?_) rfl rfl
    · simp [cmdNmBus, need, hop, hport, hq]
    · simp [cmdNmBus, hop, hport]
  · intro old b u
    have hop0 : ¬u8 p 1 = 0 := by omega
    have hok' : ¬nmBusConflict p s = true := by simp [hok]
    subst hport
    refine serves_neither cmdNmBus rfl (fun _ _ => ?_) (beq_iff_eq.mpr hlen) (fun _ _ => ?_) (fun _ _ => ?_) ?_ rfl
    · simp [cmdNmBus, readAny, readOps]
    · simp [cmdNmBus, need, hop, hq]
    · simp only [cmdNmBus, if_neg hop0, if_neg hok', hen, if_true, Bool.and_true]
      rfl
    · rw [nmChanged_sets]
      rfl

theorem nmControl_answers (hlen : p.length = 12) :
    (u8 p 0 = 0 → Serves (.cmdNmControl mb) mb 0x0B06 p (nmRsp 0 s) s s) ∧
    (u8 p 0 = 1 → 1 ≤ u8 p 1 → u8 p 1 ≤ 3 → Serves (.cmdNmControl 0) 0 0x0B06 p (nmRsp 1 (nmSettings p s)) s (nmSettings p s)) ∧
    (u8 p 0 = 2 →
      let u := nmHolders (nmEvent (now s) true (setNm (fun n => { n with req0 := true }) s))
      Serves (.cmdNmControl 0) 0 0x0B06 p (nmRsp 2 u) s u) ∧
    (u8 p 0 = 3 →
      let u := nmChanged (setNm (fun n => { n with req2 := false }) s)
      Serves (.cmdNmControl 2) 2 0x0B06 p (nmRsp 3 u) s u) := by
  refine ⟨fun hop => ?_, fun hop h1 h3 => ?_, fun hop => ?_, fun hop => ?_⟩
  · refine serves_neither cmdNmControl rfl (fun _ _ => ?_) (beq_iff_eq.mpr hlen) (fun _ _ => ?_) (fun _ _ => ?_) rfl rfl
    · simp [cmdNmControl, hop]
    · simp [cmdNmControl, need, hop]
    · simp [cmdNmControl, hop]
  · refine serves_neither cmdNmControl rfl (fun _ _ => ?_) (beq_iff_eq.mpr hlen) (fun _ _ => ?_) (fun _ _ => ?_) (by simp) rfl
    · simp [cmdNmControl, hop]
    · simp [cmdNmControl, need, hop, h1, h3]
    · simp [cmdNmControl, hop]
  · intro u
    refine serves_neither cmdNmControl rfl (fun _ _ => ?_) (beq_iff_eq.mpr hlen) (fun _ _ => ?_) (fun _ _ => ?_) ?_ rfl
    · simp [cmdNmControl, hop]
    · simp [cmdNmControl, need, hop]
    · simp [cmdNmControl, hop, u]
    · simp [u, setNm]
  · intro u
    refine serves_neither cmdNmControl rfl (fun _ _ => ?_) (beq_iff_eq.mpr hlen) (fun _ _ => ?_) (fun _ _ => ?_) ?_ rfl
    · simp [cmdNmControl, hop]
    · simp [cmdNmControl, need, hop]
    · simp [cmdNmControl, hop, u]
    · simp [u, setNm]

theorem stayawakeLog_answers {f n : Nat} (hlen : p.length = 6) (hf : u16 p 2 = f) (hn : clamp 1 100 (u16 p 4) = n)
    (hroom : f + n ≤ 512) :
    let answer (u : State) : Bytes := b2 f ++ b2 n ++ (List.range n).flatMap (fun i =>
      let e := stayAt (f + i) u
      b1 e.port ++ b1 e.node ++ b1 (b2n e.suppressed + 2 * b2n e.valid) ++ zeros 1 ++ b4 e.episodes ++ b4 e.longest ++ zeros 4 ++
        b8 e.lastSeen)
    (u8 p 0 = 0 → Serves (.cmdStayawakeLog mb) mb 0x0B07 p (answer s) s (nmHolders s)) ∧
    (mb = 0 ∨ mb = 2 →
      (u8 p 0 = 1 →
        let u := keepSettings (fun x => { x with stay := [] }) (setNm (fun n => { n with log := [] }) s)
        Serves (.cmdStayawakeLog mb) mb 0x0B07 p (answer u) s (nmHolders u)) ∧
      (u8 p 0 = 2 →
        let u := forEach (List.range n) (fun i s => unsuppress (f + i) s) s
        Serves (.cmdStayawakeLog mb) mb 0x0B07 p (answer u) s (nmHolders u))) := by
  intro answer
  subst hf hn
  have hidx (hop : u8 p 0 < 3) (tag t : Nat) : cmdStayawakeLog.idx ⟨mb, 0x0B07, tag, t, p⟩ s = stOk := by
    have hfirst : u16 p 2 < 512 := by
      have : 1 ≤ clamp 1 100 (u16 p 4) := by
        unfold clamp
        repeat' split
        all_goals omega
      omega
    simp [cmdStayawakeLog, need, hop, hfirst, hroom]
  refine ⟨fun hop => ?_, fun hmb => ⟨fun hop => ?_, fun hop => ?_⟩⟩
  · refine serves_neither cmdStayawakeLog rfl (fun _ _ => ?_) (beq_iff_eq.mpr hlen) (hidx (by omega)) (fun _ _ => ?_) (by simp) rfl
    · simp [cmdStayawakeLog, readOps, hop]
    · simp [cmdStayawakeLog, hop, answer]
  · intro u
    refine serves_neither cmdStayawakeLog rfl (fun _ _ => ?_) (beq_iff_eq.mpr hlen) (hidx (by omega)) (fun _ _ => ?_) ?_ rfl
    · rcases hmb with rfl | rfl <;> simp [cmdStayawakeLog, readOps]
    · simp [cmdStayawakeLog, hop, answer, u]
    · simp [u, setNm]
  · intro u
    refine serves_neither cmdStayawakeLog rfl (fun _ _ => ?_) (beq_iff_eq.mpr hlen) (hidx (by omega)) (fun _ _ => ?_) ?_ rfl
    · rcases hmb with rfl | rfl <;> simp [cmdStayawakeLog, readOps]
    · simp [cmdStayawakeLog, hop, answer, u]
    · simp [u, forEach_sets]

end

/-- Settles O50: each command of power levels, sleep, wake sources and coordination, by what its body answers. -/
theorem sleepCommandsAnswer : Obligations.SleepCommandsAnswer := by
  unfold Obligations.SleepCommandsAnswer
  exact ⟨fun _ _ _ hlen => ⟨(powerLevel_answers hlen).1, (powerLevel_answers (mb := 0) hlen).2, sleepEnter_starts hlen⟩,
    fun _ _ => sleepExit_answers, fun _ _ _ => wakeConfig_answers, fun _ _ _ => wakeMatcher_answers,
    fun _ _ _ _ => nmBus_answers, fun _ _ _ => nmControl_answers, fun _ _ _ _ _ => stayawakeLog_answers⟩

end Sys2Proof
end

section

/-!
PROOF. The pair forms and listens (R469 to R478): its link, Hellos, heartbeats and the frames of Owl.
-/

namespace Sys2Proof.Machine

open Sys2Proof

@[simp] theorem handoverEnds_pairEpoch (st : Nat) (s : State) : (handoverEnds st s).pair.epoch = s.pair.epoch := by
  unfold handoverEnds
  split
  · rfl
  · rw [mbDone_pair]
    rfl

@[simp] theorem leaveActive_pairEpoch (s : State) : (leaveActive s).pair.epoch = s.pair.epoch := handoverEnds_pairEpoch ..

@[simp] theorem pairBank_sleep (s : State) : (pairBank s).sleep = s.sleep := by
  unfold pairBank
  dsimp only
  split <;> simp

@[simp] theorem pairBank_pair (s : State) : (pairBank s).pair = s.pair := by
  unfold pairBank
  dsimp only
  split <;> simp

@[simp] theorem becomeStandby_pairEpoch (s : State) : (becomeStandby s).pair.epoch = s.pair.epoch := by
  simp [becomeStandby, setPair, roostNow]

@[simp] theorem pathHeard_pairCfg (path : Nat) (s : State) : (pathHeard path s).pair.cfg = s.pair.cfg := by
  unfold pathHeard setPair
  dsimp only
  split <;> split <;> simp

/-! ### Links, Hellos sent and heartbeats -/

/-- With nothing of the pair bridge in flight, the loss of the link only says that it is lost (R329). -/
theorem pairLinkDown_effect {s : State} (hposted : ∀ w ∈ s.host.posted, w.bridge ≠ 1) (hheld : ∀ h ∈ s.host.held, h.bridge ≠ 1) :
    Gives .pairLinkDown s { s with pair := { s.pair with link := false } } := by
  have hmine : s.host.posted.filter (fun (w : PostedWrite) => w.bridge == 1) = [] :=
    List.filter_eq_nil_iff.mpr fun w hw => by simpa using hposted w hw
  have hkeep : s.host.posted.filter (fun (w : PostedWrite) => w.bridge != 1) = s.host.posted :=
    List.filter_eq_self.mpr fun w hw => by simpa using hposted w hw
  have hidle (h : HeldRead) (hh : h ∈ s.host.held) : (h.bridge == 1 && h.data.isNone) = false := by
    simp [hheld h hh]
  have hcount : s.host.held.filter (fun h => (h.bridge == 1 && h.data.isNone) && !h.answered && h.init != 2) = [] :=
    List.filter_eq_nil_iff.mpr fun h hh => by simp [hidle h hh]
  have hfilter : (s.host.held.filter (fun h => !((h.bridge == 1 && h.data.isNone) && h.init != 2))) = s.host.held :=
    List.filter_eq_self.mpr fun h hh => by simp [hidle h hh]
  have hmap : s.host.held.map (fun h => if (h.bridge == 1 && h.data.isNone) = true then { h with data := some [], status := 9 } else h) =
      s.host.held :=
    (List.map_congr_left fun h hh => if_neg (by simp [hidle h hh])).trans (List.map_id' _)
  simp only [Gives, exec, execPairLinkDown, setPair, hmine, hkeep, forEach, List.foldl_nil, countIf, hfilter, hcount, hmap]
  rfl

theorem pairHelloTimer_effect {s : State} (h : helloing s = true) :
    Gives .pairHelloTimer s (pairSend 3 (Config.freeFrame s.fresh) { s with fresh := s.fresh + 1 }) := by
  simp only [Gives, exec, execPairHelloTimer, if_pos h]
  rfl

theorem owlTimers_effect {s : State} (hformed : pairFormedNow s = true) (hkey : s.pair.genKey.isSome = true)
    (hon : s.pair.owlOff = false) (hawake : s.sleep.asleep = false) :
    Gives .heartbeatTimer s (countN 255 256 ((if s.pair.link then 1 else 0) + (if portUp s.pair.cfg.hbPort s then 1 else 0))
      (owlSendB owlHeartbeat [s.pair.cfg.hbPort] (owlSendA owlHeartbeat s))) ∧
    (let old := s.pair.challenges.filter (fun c => decide (now s < c.2 + 1000000 * s.pair.cfg.respMs))
     let c := (beN (slice (Config.randomBytes s.fresh 4) 0 4) 0 4, now s)
     Gives .owlChallengeRefresh s { s with fresh := s.fresh + 1, pair := { s.pair with challenges := c :: old } }) := by
  have hgo : ¬((!pairFormedNow s) = true ∨ s.pair.genKey.isNone = true ∨ s.pair.owlOff = true ∨ s.sleep.asleep = true) := by
    simp [hformed, hon, hawake, Option.isSome_iff_ne_none.mp hkey]
  constructor
  · simp only [Gives, exec, execHeartbeatTimer, if_neg hgo]
  · simp only [Gives, exec, execOwlChallengeRefresh, if_neg hgo]
    rfl

theorem owlResponseWrite_effect {c : Nat} {s : State} (hc : s.pair.peerChallenge = some c) (hup : dieshUp s = true)
    (hen : s.pair.cfg.en = true) (hawake : s.sleep.asleep = false) (hslot : slotCheck 3 s.pair.cfg.genSlot 5 false s = 0) :
    let g := s.pair.cfg.genSlot
    let r := owlAnswer (slotKey (slotOf g s)) c devId
    Gives .owlResponseWrite s (setPair (fun p => { p with response := r, answered := c }) (invoke g s)) := by
  simp [Gives, exec, execOwlResponseWrite, hc, hup, hen, hawake, hslot, stOk]

/-! ### Hellos -/

theorem becomeActive_pair (epoch : Nat) (s : State) :
    (becomeActive epoch s).pair.state = 2 ∧ (becomeActive epoch s).pair.epoch = max 1 (max s.pair.epoch epoch) := by
  simp [becomeActive, setPair, apply_ite State.pair]

theorem becomeStandby_sleep (s : State) : (becomeStandby s).sleep.state = 2 ∧ (becomeStandby s).sleep.gated = true := by
  simp [becomeStandby, setPair, roostNow]

theorem becomeStandby_state (s : State) : (becomeStandby s).pair.state = 3 := by
  simp [becomeStandby, setPair]

/-- A Hello that does not match keeps its item, and says so once (R469). -/
def helloMismatch (h : Hello) (s : State) : State :=
  let t := setPair (fun p => { p with state := 6, mismatch := helloItem h s }) s
  if s.pair.state = 6 then t else raise 8 1 t

theorem helloMismatch_pair (h : Hello) (s : State) :
    (helloMismatch h s).pair.state = 6 ∧ (helloMismatch h s).pair.mismatch = helloItem h s := by
  unfold helloMismatch
  dsimp only
  split <;> simp [setPair]

/-- The instruction that takes a Hello. -/
def helloInstr (h : Hello) : Instr :=
  .pairHelloReceive h.dev h.peer h.ident h.fwrev h.hbUs h.detectUs h.ckptMs h.respMs h.active h.prefer h.fenced h.epoch

theorem exec_pairHelloReceive (h : Hello) {s : State} (htalks : pairTalks s = true)
    (hstate : s.pair.state = 1 ∨ s.pair.state = 4 ∨ s.pair.state = 6) :
    exec (helloInstr h) s = if helloItem h s ≠ 0 then .next (helloMismatch h s)
      else if takesActive h s then .next (becomeActive h.epoch (raise 8 0 s))
      else .next (setPair (fun p => { p with epoch := max 1 (max p.epoch h.epoch) }) (becomeStandby (raise 8 0 s))) := by
  have hgo : ¬((!pairTalks s) = true ∨ (!decide (s.pair.state = 1 ∨ s.pair.state = 4 ∨ s.pair.state = 6)) = true) := by
    simp [htalks, hstate]
  cases h
  simp only [helloInstr, exec, execPairHelloReceive, if_neg hgo, helloMismatch]

theorem pairHelloReceive_effect {h : Hello} {s : State} (htalks : pairTalks s = true)
    (hstate : s.pair.state = 1 ∨ s.pair.state = 4 ∨ s.pair.state = 6) :
    let c : Instr := .pairHelloReceive h.dev h.peer h.ident h.fwrev h.hbUs h.detectUs h.ckptMs h.respMs h.active h.prefer h.fenced h.epoch
    (helloItem h s ≠ 0 → Ends c s (fun t => t.pair.state = 6 ∧ t.pair.mismatch = helloItem h s)) ∧
    (helloItem h s = 0 → takesActive h s = true → Ends c s (fun t => t = becomeActive h.epoch (raise 8 0 s) ∧ t.pair.state = 2 ∧
      t.pair.epoch = max 1 (max s.pair.epoch h.epoch))) ∧
    (helloItem h s = 0 → takesActive h s = false → Ends c s (fun t => t.pair.state = 3 ∧ t.sleep.state = 2 ∧ t.sleep.gated = true ∧
      t.pair.epoch = max 1 (max s.pair.epoch h.epoch))) := by
  intro c
  have hexec := exec_pairHelloReceive h htalks hstate
  refine ⟨fun hitem => ?_, fun hitem hact => ?_, fun hitem hact => ?_⟩
  · exact ⟨_, hexec.trans (if_pos hitem), helloMismatch_pair h s⟩
  · rw [if_neg (not_not_intro hitem), if_pos hact] at hexec
    obtain ⟨hst, hepoch⟩ := becomeActive_pair h.epoch (raise 8 0 s)
    exact ⟨_, hexec, rfl, hst, hepoch.trans (by rw [raise_pair])⟩
  · rw [if_neg (not_not_intro hitem), if_neg (ne_true_of_eq_false hact)] at hexec
    exact ⟨_, hexec, by simp [setPair, becomeStandby_state], by simp [setPair, becomeStandby_sleep],
      by simp [setPair, becomeStandby_sleep], by simp [setPair]⟩

/-! ### Frames of Owl -/

/-- What path A says of a frame that this device may take. -/
theorem owlTake_pathA {port kind : Nat} {k data : Bytes} {s : State} (hkey : s.pair.verKey = some k)
    (hen : s.pair.cfg.en = true) (hlink : s.pair.link = true) (hon : s.pair.owlOff = false) (hawake : s.sleep.asleep = false)
    (hlen : data.length = 48) (hkind : u8 data 1 = kind) (hdev : u8 data 2 ≠ devId)
    (hseq : Tbl.get s.pair.lastSeq (seqKey 0 (u8 data 2)) 0 ≤ beN data 4 4) :
    owlTake 0 port data kind s =
      if data.drop 40 ≠ owlTag k (data.take 40) then (none, raise 9 5 (count 255 258 s))
      else (some data, setPair (fun p => { p with
        lastSeq := Tbl.set p.lastSeq (seqKey 0 (u8 data 2)) (beN data 4 4 + 1) 0 }) s) := by
  have hwhole : data.take 48 = data := List.take_of_length_le (Nat.le_of_eq hlen)
  simp [owlTake, hkey, hen, hlink, hon, hawake, hlen, hwhole, hkind, hdev, Nat.not_lt.mpr hseq]

theorem owlRelay_pathA (port : Nat) (data : Bytes) (s : State) : owlRelay 0 port data s = s := by simp [owlRelay]

/-- A heartbeat of the peer that path A lets in is acted on. -/
theorem heartbeat_taken {port : Nat} {data b : Bytes} {s u : State}
    (htake : owlTake 0 port data owlHeartbeat s = (some b, u)) (hfrom : fromPeer b (count 255 257 u) = true) :
    Gives (.owlHeartbeatReceive 0 port data) s (heartbeatFrom 0 b (count 255 257 u)) := by
  simp only [Gives, exec, execOwlHeartbeatReceive, htake, owlRelay_pathA, if_pos hfrom]

theorem owlHeartbeatReceive_effect {port : Nat} {k data : Bytes} {s : State} (hkey : s.pair.verKey = some k)
    (hen : s.pair.cfg.en = true) (hlink : s.pair.link = true) (hon : s.pair.owlOff = false) (hawake : s.sleep.asleep = false)
    (hlen : data.length = 48) (hkind : u8 data 1 = owlHeartbeat) (hdev : u8 data 2 ≠ devId)
    (hseq : Tbl.get s.pair.lastSeq (seqKey 0 (u8 data 2)) 0 ≤ beN data 4 4) :
    (data.drop 40 ≠ owlTag k (data.take 40) → Gives (.owlHeartbeatReceive 0 port data) s (raise 9 5 (count 255 258 s))) ∧
    (data.drop 40 = owlTag k (data.take 40) → u8 data 2 = s.pair.cfg.peer →
      Gives (.owlHeartbeatReceive 0 port data) s (heartbeatFrom 0 data (count 255 257 (setPair (fun p => { p with
        lastSeq := Tbl.set p.lastSeq (seqKey 0 (u8 data 2)) (beN data 4 4 + 1) 0 }) s)))) := by
  have htake := owlTake_pathA (port := port) hkey hen hlink hon hawake hlen hkind hdev hseq
  refine ⟨fun hbad => ?_, fun hgood hpeer => ?_⟩
  · rw [if_pos hbad] at htake
    simp only [Gives, exec, execOwlHeartbeatReceive, htake]
  · rw [if_neg (not_not_intro hgood)] at htake
    exact heartbeat_taken htake (by simp [fromPeer, setPair, hen, hpeer])

theorem owlLastGasp_effect {path port : Nat} {data b : Bytes} {s u : State}
    (htake : owlTake path port data owlLastGasp s = (some b, u)) :
    let v := owlRelay path port data u
    fromPeer b v = true →
    let w := raise 9 6 (pathHeard path v)
    Gives (.owlLastGaspReceive path port data) s (if w.pair.state = 3 then takeoverStart w else peerLost w) := by
  intro v hfrom w
  have hgo : ¬(!fromPeer b v) = true := by simp [hfrom]
  simp only [Gives, exec, execOwlLastGaspReceive, htake]
  exact if_neg hgo

theorem owlTakeover_effect {port : Nat} {data b : Bytes} {s u : State} (htake : owlTake 0 port data owlTakeover s = (some b, u))
    (hfrom : fromPeer b u = true) :
    let v := pathHeard 0 u
    (v.pair.epoch < beN b 32 4 → Gives (.owlTakeoverReceive 0 port data) s (membersChanged s
      (setPair (fun p => { p with epoch := beN b 32 4 }) (fenceEnter false (raise 11 1 v))))) ∧
    (beN b 32 4 ≤ v.pair.epoch → Gives (.owlTakeoverReceive 0 port data) s (membersChanged s v)) := by
  intro v
  have hen : v.pair.cfg.en = true := by
    have := hfrom
    simp only [fromPeer, Bool.and_eq_true] at this
    rw [pathHeard_pairCfg]
    exact this.1
  have hframe : takeoverFrame 0 port data s = if v.pair.cfg.en ∧ v.pair.epoch < beN b 32 4 then
      setPair (fun p => { p with epoch := beN b 32 4 }) (fenceEnter false (raise 11 1 v)) else v := by
    simp only [takeoverFrame, htake, owlRelay, Nat.zero_ne_one, false_and, if_false, ite_self, if_pos hfrom]
    rfl
  refine ⟨fun hnew => ?_, fun hold => ?_⟩
  · rw [if_pos ⟨hen, hnew⟩] at hframe
    exact congrArg (fun t => Host.Outcome.next (membersChanged s t)) hframe
  · rw [if_neg (fun h => absurd h.2 (by omega))] at hframe
    exact congrArg (fun t => Host.Outcome.next (membersChanged s t)) hframe

theorem owlBeacon_effect {path port : Nat} {data b : Bytes} {s u : State} (htake : owlTake path port data owlBeacon s = (some b, u)) :
    let v := if path = 1 ∧ u.pair.cfg.follower then followName port b u else u
    Gives (.owlBeaconReceive path port data) s (membersChanged s (if fromPeer b v then pathHeard path v else v)) := by
  intro v
  have hframe : beaconFrame path port data s = if fromPeer b v then pathHeard path v else v := by
    simp only [beaconFrame, htake]
    rfl
  exact congrArg (fun t => Host.Outcome.next (membersChanged s t)) hframe

/-! ### Silence -/

theorem pathSilence_effect {s : State} (hwatch : owlWatches s = true) (hA : s.pair.pathA = true) :
    let u := setPair (fun p => { p with pathA := false }) s
    (s.pair.pathB = true → Gives (.pathSilence 0) s (raise 9 0 u)) ∧
    (s.pair.pathB = false → s.pair.state = 2 → Gives (.pathSilence 0) s (peerLost u)) ∧
    (s.pair.pathB = false → s.pair.state = 3 → s.pair.verKey.isSome = true → Gives (.pathSilence 0) s (takeoverStart u)) := by
  intro u
  have hexec : exec (.pathSilence 0) s = if s.pair.pathB = true then .next (raise 9 0 u)
      else if s.pair.state = 3 then .next (if s.pair.verKey.isSome then takeoverStart u else u) else .next (peerLost u) := by
    simp [exec, execPathSilence, hwatch, hA, setPair, u]
  refine ⟨fun hB => hexec.trans (if_pos hB), fun hB hst => ?_, fun hB hst hkey => ?_⟩
  · rw [if_neg (by simp [hB]), if_neg (by omega)] at hexec
    exact hexec
  · rw [if_neg (by simp [hB]), if_pos hst, if_pos hkey] at hexec
    exact hexec

theorem responseStale_effect {t : Nat} {s : State} (hwatch : owlWatches s = true) (hgood : s.pair.goodResp = some t)
    (hold : t + 1000000 * s.pair.cfg.respMs ≤ now s) (hpath : s.pair.pathA = true ∨ s.pair.pathB = true) :
    (s.pair.state = 3 → s.pair.taking = false → Gives .responseStale s (takeoverStart (raise 9 4 s))) ∧
    (s.pair.state = 2 → s.pair.degraded = false → Gives .responseStale s
      (raise 9 4 (setPair (fun p => { p with degraded := true }) s))) := by
  refine ⟨fun hst htaking => ?_, fun hst hdeg => ?_⟩
  · simp [Gives, exec, execResponseStale, hwatch, hgood, hold, hpath, hst, htaking]
  · simp [Gives, exec, execResponseStale, hwatch, hgood, hold, hpath, hst, hdeg]

end Sys2Proof.Machine

namespace Sys2Proof

open Machine

/-- Settles O51: each clause is the event's own lemma. -/
theorem thePairFormsAndListens : Obligations.ThePairFormsAndListens := by
  unfold Obligations.ThePairFormsAndListens
  exact ⟨fun _ => ⟨rfl, pairLinkDown_effect, pairHelloTimer_effect, owlTimers_effect, fun _ => owlResponseWrite_effect⟩,
    fun _ _ => pairHelloReceive_effect, fun _ _ _ _ => owlHeartbeatReceive_effect,
    fun _ _ _ _ _ _ => ⟨owlLastGasp_effect, owlTakeover_effect, owlBeacon_effect⟩,
    fun _ hwatch => ⟨pathSilence_effect hwatch, fun _ => responseStale_effect hwatch⟩⟩

end Sys2Proof
end

section

/-!
PROOF. The pair acts on its events (R472 to R492): takeover, fencing, checkpoint, handover, pair sleep, FRER, lockstep.
-/

namespace Sys2Proof.Machine

open Sys2Proof

@[simp] theorem putFrame_pair (fid : Nat) (v : VFrame) (s : State) : (putFrame fid v s).pair = s.pair := by
  simp [putFrame]

@[simp] theorem pfcSend_pair (t p quanta : Nat) (s : State) : (pfcSend t p quanta s).pair = s.pair := by
  simp [pfcSend]

@[simp] theorem pfcCheck_pair (t : Nat) (s : State) : (pfcCheck t s).pair = s.pair := by
  simp [pfcCheck, forEach_pair, apply_ite State.pair]

@[simp] theorem unlinkQueue_pair (q : Nat) (s : State) : (unlinkQueue q s).2.pair = s.pair := by
  refine forEach_pair _ _ _ fun _ _ => ?_
  dsimp only
  repeat' split
  all_goals simp

@[simp] theorem reserveCheck_sleep (i : Nat) (s : State) : (reserveCheck i s).sleep = s.sleep := by
  unfold reserveCheck
  dsimp only
  repeat' split
  all_goals simp

@[simp] theorem reserveCheck_pair (i : Nat) (s : State) : (reserveCheck i s).pair = s.pair := by
  unfold reserveCheck
  dsimp only
  repeat' split
  all_goals simp

@[simp] theorem gptpState_sleep (i n : Nat) (s : State) : (gptpState i n s).sleep = s.sleep := by
  unfold gptpState
  dsimp only
  repeat' split
  all_goals simp

@[simp] theorem gptpState_pair (i n : Nat) (s : State) : (gptpState i n s).pair = s.pair := by
  unfold gptpState
  dsimp only
  repeat' split
  all_goals simp

@[simp] theorem owlEmit_pair (port : Nat) (frame : Bytes) (s : State) : (owlEmit port frame s).pair = s.pair := by
  simp [owlEmit]

@[simp] theorem owlEmit_sleep (port : Nat) (frame : Bytes) (s : State) : (owlEmit port frame s).sleep = s.sleep := by
  simp [owlEmit]

@[simp] theorem owlSendB_sleep (kind : Nat) (ports : List Nat) (s : State) : (owlSendB kind ports s).sleep = s.sleep := by
  unfold owlSendB
  dsimp only
  repeat' split
  all_goals simp [forEach_sleep]

@[simp] theorem pairBankFree_pair (s : State) : (pairBankFree s).pair = s.pair := by
  unfold pairBankFree
  dsimp only
  repeat' split
  all_goals simp

@[simp] theorem rearm_sleep (s : State) : (rearm s).sleep = s.sleep := by
  unfold rearm
  repeat' split
  all_goals simp

@[simp] theorem rearm_pair (s : State) : (rearm s).pair = s.pair := by
  unfold rearm
  repeat' split
  all_goals simp

@[simp] theorem fvTakeover_sleep (s : State) : (fvTakeover s).sleep = s.sleep := by
  unfold fvTakeover
  repeat' split
  all_goals simp [forEach_sleep]

@[simp] theorem fvTakeover_pair (s : State) : (fvTakeover s).pair = s.pair := by
  unfold fvTakeover
  repeat' split
  all_goals simp [forEach_pair]

@[simp] theorem resyncAll_sleep (s : State) : (resyncAll s).sleep = s.sleep := by
  refine forEach_sleep _ _ _ fun _ _ => ?_
  simp

@[simp] theorem portReset_pair (p : Nat) (s : State) : (portReset p s).2.pair = s.pair := by
  refine (setVatPort_pair ..).trans (foldl_keeps (fun a : _ × State => a.2.pair) _ _ _ fun acc q => ?_)
  simp

@[simp] theorem gptpTakeover_sleep (s : State) : (gptpTakeover s).sleep = s.sleep := by
  unfold gptpTakeover
  split
  · rfl
  · refine (forEach_sleep _ _ _ fun p s => ?_).trans (forEach_sleep _ _ _ fun e s => ?_)
    · simp
    · dsimp only
      split <;> simp

@[simp] theorem gptpTakeover_pair (s : State) : (gptpTakeover s).pair = s.pair := by
  unfold gptpTakeover
  split
  · rfl
  · refine (forEach_pair _ _ _ fun p s => ?_).trans (forEach_pair _ _ _ fun e s => ?_)
    · simp
    · dsimp only
      split <;> simp

@[simp] theorem resyncAll_pairEpoch (s : State) : (resyncAll s).pair.epoch = s.pair.epoch :=
  forEach_keeps (·.pair.epoch) _ _ _ fun _ _ => rfl

/-! ### Takeover and fencing -/

/-- Sending on path B uses a sequence number of it, and no more of the pair. -/
theorem owlSendB_pair (kind : Nat) (ports : List Nat) (s : State) :
    ∃ n, (owlSendB kind ports s).pair = { s.pair with seqB := n } := by
  unfold owlSendB
  split
  · exact ⟨_, rfl⟩
  · dsimp only
    split
    · exact ⟨_, rfl⟩
    · exact ⟨_, forEach_pair _ _ _ fun p t => owlEmit_pair ..⟩

/-- A standby that has taken over, before it says so on path B (R474, R475). -/
def takenOver (s : State) : State :=
  let z : Sleep := { s.sleep with
    state := 0, target := 0, gated := false, entry := .none, fromRoost := false, left := 1, wake := none }
  let u := gptpTakeover (resyncAll (fvTakeover (rearm { s with sleep := z })))
  alarm 14 locPair (raise 12 0 (raise 11 3 (raise 8 2 (raise 8 4 (raise 52 0 (count 255 260 (setPair (fun p => { p with
    state := 4, taking := false, awaiting := false, parked := false, inSync := false, degraded := false, fenceOut := true,
    epoch := p.epoch + 1, repeats := 9, lastTakeover := now32 u, slept := 0, ckpt := none, held := none, acked := none,
    sent := none, sentMacs := [], segs := [], segCount := 0 }) u)))))))

theorem takenOver_pair (s : State) : (takenOver s).pair.state = 4 ∧ (takenOver s).pair.taking = false ∧
    (takenOver s).pair.epoch = s.pair.epoch + 1 ∧ (takenOver s).pair.fenceOut = true ∧ (takenOver s).pair.repeats = 9 := by
  simp [takenOver, setPair]

theorem takenOver_sleep (s : State) : (takenOver s).sleep.state = 0 ∧ (takenOver s).sleep.gated = false := by
  simp [takenOver, setPair]

theorem takeoverForwarding_effect {s : State} (htaking : s.pair.taking = true) :
    Ends .takeoverForwarding s (fun t => t.pair.state = 4 ∧ t.pair.taking = false ∧ t.pair.epoch = s.pair.epoch + 1 ∧
      t.pair.fenceOut = true ∧ t.pair.repeats = 9 ∧ t.sleep.state = 0 ∧ t.sleep.gated = false ∧ t.otp = s.otp) := by
  have hgo : ¬(!s.pair.taking) = true := by simp [htaking]
  have hexec : exec .takeoverForwarding s = .next (sendTakeover (takenOver s)) := by
    simp only [exec, execTakeoverForwarding, if_neg hgo]
    rfl
  obtain ⟨n, hn⟩ := owlSendB_pair owlTakeover (List.range 8) (takenOver s)
  obtain ⟨hst, htk, hep, hfo, hrp⟩ := takenOver_pair s
  obtain ⟨hsleep, hgated⟩ := takenOver_sleep s
  refine ⟨_, hexec, ?_⟩
  dsimp only
  rw [sendTakeover, hn, owlSendB_sleep]
  exact ⟨hst, htk, hep, hfo, hrp, hsleep, hgated, otp_of_frozen (by simp [takenOver, setPair])⟩

/-- Ports reset one after the other, and what they lost. -/
def resetPorts (l : List Nat) (s : State) : Nat × State :=
  l.foldl (fun (acc : Nat × State) p => let (k, s) := portReset p acc.2; (acc.1 + k, s)) (0, s)

@[simp] theorem resetPorts_pair (l : List Nat) (s : State) : (resetPorts l s).2.pair = s.pair :=
  foldl_keeps (fun a : _ × State => a.2.pair) _ _ _ fun _ _ => portReset_pair ..

theorem fenceRoost_eq (s : State) :
    fenceRoost s = roostNow (setPair (fun p => { p with fencing := false })
      (countN 255 261 (resetPorts ((List.range 168).filter isVatPort) s).1 (resetPorts ((List.range 168).filter isVatPort) s).2)) := by
  unfold fenceRoost
  generalize (List.range 168).filter isVatPort = l
  rfl

theorem roostFenced_pair (n : Nat) (t : State) :
    (roostNow (setPair (fun p => { p with fencing := false }) (countN 255 261 n t))).pair = { t.pair with fencing := false } := by
  simp only [roostNow, setPair, countN_pair]

theorem fenceRoost_pair (s : State) : (fenceRoost s).pair = { s.pair with fencing := false } := by
  rw [fenceRoost_eq, roostFenced_pair, resetPorts_pair]

theorem fenceRoost_sleep (s : State) : (fenceRoost s).sleep.state = 2 ∧ (fenceRoost s).sleep.gated = true := ⟨rfl, rfl⟩

theorem takeoverRepeat_effect {s : State} (hst : s.pair.state = 4) (hleft : 0 < s.pair.repeats) :
    Gives .takeoverRepeat s (sendTakeover (setPair (fun p => { p with repeats := p.repeats - 1 }) s)) := by
  simp only [Gives, exec, execTakeoverRepeat, if_pos (And.intro hleft hst)]

theorem beaconTimer_effect {s : State} (hst : s.pair.state = 2 ∨ s.pair.state = 4) (hawake : s.sleep.asleep = false) :
    Gives .beaconTimer s (owlSendB owlBeacon (List.range 8) s) := by
  simp [Gives, exec, execBeaconTimer, hst, hawake]

theorem fenceInRise_effect {s : State} (hlow : s.pair.fenceIn = false) (hen : s.pair.cfg.en = true) (hawake : s.sleep.asleep = false) :
    Gives (.fenceInRise true) s (fenceEnter false (raise 11 0 { s with pair := { s.pair with fenceIn := true } })) := by
  simp [Gives, exec, execFenceInRise, hlow, hen, hawake, setPair]

theorem fenceInFall_effect (s : State) : Gives (.fenceInRise false) s { s with pair := { s.pair with fenceIn := false } } := by
  simp [Gives, exec, execFenceInRise, setPair]

theorem fenceRoostEntry_effect {s : State} (hfencing : s.pair.fencing = true) :
    Ends .fenceRoostEntry s (fun t => t.pair.fencing = false ∧ t.sleep.state = 2 ∧ t.sleep.gated = true ∧
      t.pair.state = s.pair.state) := by
  have hexec : exec .fenceRoostEntry s = .next (fenceRoost s) := congrArg Host.Outcome.next (if_pos hfencing)
  obtain ⟨hst, hgated⟩ := fenceRoost_sleep s
  exact ⟨_, hexec, by rw [fenceRoost_pair], hst, hgated, by rw [fenceRoost_pair]⟩

/-! ### Checkpoint, handover and pair sleep -/

theorem pairCheckpointTimer_effect {s : State} (hst : s.pair.state = 2) (hup : dieshUp s = true) (hlink : s.pair.link = true)
    (hon : s.pair.owlOff = false) (hawake : s.sleep.asleep = false) : Gives .pairCheckpointTimer s (ckptSend s) := by
  simp [Gives, exec, execPairCheckpointTimer, hst, hup, hlink, hon, hawake]

theorem inSyncLapse_effect {s : State} (hst : s.pair.state = 2 ∨ s.pair.state = 3) (hsync : s.pair.inSync = true) :
    Gives .inSyncLapse s (raise 8 7 { s with pair := { s.pair with inSync := false } }) := by
  simp only [Gives, exec, execInSyncLapse, if_pos hst.symm, outOfSync, if_pos hsync]
  rfl

theorem handoverAck_effect {m : Nat} {s : State} (hm : s.pair.handover = some m) :
    Gives .handoverAckReceive s (mbDone m stOk s.sets.gen []
      (fenceEnter true (raise 12 1 (setPair (fun p => { p with handover := none }) (ckptAck s.pair.ckptSeq s))))) ∧
    Gives .handoverAckTimeout s (mbDone m stInterrupted s.sets.gen [] (setPair (fun p => { p with handover := none }) s)) := by
  have hgen : (raise 12 1 (setPair (fun p => { p with handover := none }) (ckptAck s.pair.ckptSeq s))).sets.gen = s.sets.gen := by
    simp [setPair, ckptAck, apply_ite State.sets]
  constructor
  · simp only [Gives, exec, execHandoverAckReceive, hm, hgen]
  · simp only [Gives, exec, execHandoverAckTimeout, handoverEnds, hm]

theorem pairSleepReceive_effect {s : State} (htalks : pairTalks s = true) (hst : s.pair.state = 3) (hroost : s.sleep.state = 2)
    (hentry : s.sleep.entry = .none) (htaking : s.pair.taking = false) (target : Nat) :
    Gives (.pairSleepReceive target) s (entryStart target true (pairControl s)) := by
  simp [Gives, exec, execPairSleepReceive, htalks, hst, hroost, hentry, htaking]

theorem pairSleepAbortReceive_effect {s : State} (htalks : pairTalks s = true) (hnet : s.sleep.net = true)
    (hentry : s.sleep.entry = .drain ∨ s.sleep.entry = .save) :
    Gives .pairSleepAbortReceive s (wakeEntry { source := 31 } s) := by
  simp [Gives, exec, execPairSleepAbortReceive, htalks, hnet, hentry]

theorem pairRejoinTimeout_effect {s : State} (hwait : s.pair.awaiting = true) (hslept : s.pair.slept = 2)
    (hst : s.pair.state = 1) (hheard : s.pair.heard = false) : Gives .pairRejoinTimeout s (takeoverStart s) := by
  simp [Gives, exec, execPairRejoinTimeout, hwait, hslept, hst, hheard]

theorem dissolve_pair {s : State} (hst : s.pair.state ≠ 0) :
    (dissolve s).pair.state = 0 ∧ (dissolve s).pair.cfg.en = false ∧ (dissolve s).pair.genKey = none ∧
      (dissolve s).pair.verKey = none ∧ (dissolve s).pair.fenceOut = false := by
  simp [dissolve, hst, setPair]

theorem pairDissolveReceive_effect {s : State} (htalks : pairTalks s = true) (hst : s.pair.state ≠ 0) :
    Ends .pairDissolveReceive s (fun t => t.pair.state = 0 ∧ t.pair.cfg.en = false ∧ t.pair.genKey = none ∧
      t.pair.verKey = none ∧ t.pair.fenceOut = false ∧ t.otp = s.otp) := by
  have hexec : exec .pairDissolveReceive s = .next (dissolve s) := congrArg Host.Outcome.next (if_pos htalks)
  obtain ⟨h0, hen, hgen, hver, hfence⟩ := dissolve_pair hst
  exact ⟨_, hexec, h0, hen, hgen, hver, hfence, otp_of_frozen (by simp)⟩

theorem pairMb3FrameReceive_effect {s : State} (data : Bytes) (htalks : pairTalks s = true) :
    Gives (.pairMb3FrameReceive 0 data) s (mbDoorbell 3 (mbWrite 3 0 (data.take 0xE00) (mbAck 3 s))) ∧
    Gives (.pairMb3FrameReceive 2 data) s (emit (.toVintner data) s) ∧
    (u8 data 0 = 2 → u8 data 1 = stOk → u16 data 2 = 4 → Gives (.pairMb3FrameReceive 1 data) s (ckptAck (u32 data 16) s)) := by
  have hgo : ¬(!pairTalks s) = true := by simp [htalks]
  refine ⟨?_, ?_, fun hkind hst hlen => ?_⟩
  · simp only [Gives, exec, execPairMb3FrameReceive, if_neg hgo, if_true]
  · simp only [Gives, exec, execPairMb3FrameReceive, if_neg hgo]
    rfl
  · simp [Gives, exec, execPairMb3FrameReceive, htalks, hkind, hst, hlen]

/-! ### FRER and lockstep -/

theorem frerTimers_effect (n : Nat) (s : State) :
    let b := streamOf (activeSet s) n
    let x := frerState n s
    (isRecover (activeSet s) n = true →
      (x.takeAny = false → x.lastPass + 1000000 * u16 b 4 < now s → Gives (.frerRecoveryTimeout n) s
        (raise 13 1 (countEntry (ecFrer 4) n (setFrer n { x with takeAny := true } s)))) ∧
      (bit b 0 5 = true → u32 b 8 + x.discarded < x.passed * (u8 b 6 - 1) → Gives (.frerLatentCheck n) s
        (raise 13 0 (countEntry (ecFrer 5) n s))) ∧
      (x.passed * (u8 b 6 - 1) ≤ u32 b 8 + x.discarded → Gives (.frerLatentCheck n) s s)) ∧
    Gives (.frerLatentReset n) s (setFrer n { x with passed := 0, discarded := 0 } s) := by
  intro b x
  refine ⟨fun hrec => ⟨fun htake hlast => ?_, fun hbit hlow => ?_, fun hhigh => ?_⟩, rfl⟩
  · have hgo : (isRecover (activeSet s) n && !x.takeAny && decide (x.lastPass + 1000000 * u16 b 4 < now s)) = true := by
      simp [hrec, htake, hlast]
    simp only [Gives, exec, execFrerRecoveryTimeout]
    exact if_pos hgo
  · have hgo : (isRecover (activeSet s) n && bit b 0 5 && decide (u32 b 8 + x.discarded < x.passed * (u8 b 6 - 1))) = true := by
      simp only [hrec, hbit, decide_eq_true hlow, Bool.and_self]
    simp only [Gives, exec, execFrerLatentCheck]
    exact if_pos hgo
  · have hno : ¬(isRecover (activeSet s) n && bit b 0 5 && decide (u32 b 8 + x.discarded < x.passed * (u8 b 6 - 1))) = true := by
      simp only [decide_eq_false (Nat.not_lt.mpr hhigh), Bool.and_false, Bool.false_eq_true, not_false_iff]
    simp only [Gives, exec, execFrerLatentCheck]
    exact if_neg hno

/-- The state in which a mismatch is judged: counted, said and noted (R491). -/
def mismatched (s : State) : State :=
  setPair (fun p => { p with mismatches := faultsNow s.pair.mismatches 10000000000 s, lastMismatch := now32 s })
    (alarm 7 locDev (raise 10 0 (count 255 265 s)))

theorem lockstep_effect (bad mask : Nat) {s : State} (hup : dieshUp s = true) (hawake : s.sleep.asleep = false) :
    Gives .controllerCheckpointWrite s { s with pair := { s.pair with
      ctlSeq := s.pair.ctlSeq + 1, ctlCopies := min 2 (s.pair.ctlCopies + 1), wdo := if s.power.ready then !s.pair.wdo else false } } ∧
    (let ts := faultsNow s.pair.mismatches 10000000000 s
     let u := setPair (fun p => { p with mismatches := ts, lastMismatch := now32 s }) (alarm 7 locDev (raise 10 0 (count 255 265 s)))
     (3 ≤ ts.length ∨ s.pair.ctlCopies ≤ bad → Gives (.lockstepMismatch bad mask) s (vintnerHalt u)) ∧
     (ts.length < 3 → bad < s.pair.ctlCopies → s.pair.wiped = none →
       let v := raise 10 1 (count 255 266 (setPair (fun p => { p with restarts := p.restarts + 1 }) u))
       Gives (.lockstepMismatch bad mask) s (restartEnds mask (if 0 < bad then raise 10 3 v else v)))) := by
  have hgo : ¬((!dieshUp s) = true ∨ s.sleep.asleep = true) := by simp [hup, hawake]
  have hcopies : (mismatched s).pair.ctlCopies = s.pair.ctlCopies ∧ (mismatched s).pair.wiped = s.pair.wiped := by
    simp [mismatched, setPair]
  refine ⟨?_, ?_⟩
  · simp [Gives, exec, execControllerCheckpointWrite, hup, hawake, ctlWrite, setPair]
  · intro ts u
    refine ⟨fun hmany => ?_, fun hfew hgood hnot => ?_⟩
    · simp only [Gives, exec, execLockstepMismatch, if_neg hgo]
      refine if_pos ?_
      rw [← hcopies.1] at hmany
      exact hmany.imp_right Or.inl
    · simp only [Gives, exec, execLockstepMismatch, if_neg hgo]
      refine if_neg ?_
      rintro (hmany | hbad | hwiped)
      · exact absurd hmany (Nat.not_le.mpr hfew)
      · rw [← hcopies.1] at hgood
        exact absurd hbad (Nat.not_le.mpr hgood)
      · simp [setPair, hnot] at hwiped

end Sys2Proof.Machine

namespace Sys2Proof

open Machine

/-- Settles O52: each clause is the event's own lemma. -/
theorem thePairActsOnEvents : Obligations.ThePairActsOnEvents := by
  unfold Obligations.ThePairActsOnEvents
  exact ⟨fun _ => takeoverForwarding_effect,
    fun s => ⟨takeoverRepeat_effect, beaconTimer_effect, fenceInRise_effect, fenceInFall_effect s, fenceRoostEntry_effect,
      pairCheckpointTimer_effect, inSyncLapse_effect, fun _ => handoverAck_effect, pairSleepReceive_effect,
      fun hwait hruns => congrArg Host.Outcome.next (if_pos ⟨hwait, hruns⟩), fun hwait => congrArg Host.Outcome.next (if_pos hwait),
      pairSleepAbortReceive_effect, pairRejoinTimeout_effect, pairDissolveReceive_effect, pairMb3FrameReceive_effect⟩,
    frerTimers_effect, fun bad mask _ => lockstep_effect bad mask⟩

end Sys2Proof
end

section

/-!
PROOF. The commands of the pair, of lockstep, of logical ports and of FRER (group 0x0C): what each answers.
-/

namespace Sys2Proof.Machine

open Sys2Proof

@[simp] theorem clearEntry_sets (table idx : Nat) (s : State) : (clearEntry table idx s).sets = s.sets := by
  simp [clearEntry]

@[simp] theorem owlKeys_sets (c : PairCfg) (s : State) : (owlKeys c s).sets = s.sets := by
  simp [owlKeys]

@[simp] theorem owlEmit_sets (port : Nat) (frame : Bytes) (s : State) : (owlEmit port frame s).sets = s.sets := by
  simp [owlEmit]

@[simp] theorem owlSendA_sets (kind : Nat) (s : State) : (owlSendA kind s).sets = s.sets := by
  unfold owlSendA
  repeat' split
  all_goals simp

@[simp] theorem owlSendB_sets (kind : Nat) (ports : List Nat) (s : State) : (owlSendB kind ports s).sets = s.sets := by
  unfold owlSendB
  dsimp only
  repeat' split
  all_goals simp [forEach_sets]

@[simp] theorem resvAll_sets (s : State) : (resvAll s).sets = s.sets := by
  simp [resvAll]

@[simp] theorem handoverEnds_sets (st : Nat) (s : State) : (handoverEnds st s).sets = s.sets := by
  unfold handoverEnds
  repeat' split
  all_goals simp

@[simp] theorem leaveActive_sets (s : State) : (leaveActive s).sets = s.sets := by
  simp [leaveActive]

@[simp] theorem pairBankFree_sets (s : State) : (pairBankFree s).sets = s.sets := by
  unfold pairBankFree
  dsimp only
  repeat' split
  all_goals simp

@[simp] theorem roostNow_sets (s : State) : (roostNow s).sets = s.sets := by
  simp [roostNow]

@[simp] theorem resetPorts_sets (l : List Nat) (s : State) : (resetPorts l s).2.sets = s.sets :=
  foldl_keeps (fun a : _ × State => a.2.sets) _ _ _ fun _ _ => portReset_sets ..

theorem roostFenced_sets (n : Nat) (t : State) :
    (roostNow (setPair (fun p => { p with fencing := false }) (countN 255 261 n t))).sets = t.sets := by
  simp only [roostNow, setPair, countN_sets]

@[simp] theorem fenceRoost_sets (s : State) : (fenceRoost s).sets = s.sets := by
  rw [fenceRoost_eq, roostFenced_sets, resetPorts_sets]

@[simp] theorem pairControl_sets (s : State) : (pairControl s).sets = s.sets := by
  simp [pairControl]

@[simp] theorem lastGasp_sets (s : State) : (lastGasp s).sets = s.sets := by
  simp [lastGasp]

@[simp] theorem fenceEnter_sets (gasp : Bool) (s : State) : (fenceEnter gasp s).sets = s.sets := by
  unfold fenceEnter
  dsimp only
  repeat' split
  all_goals simp

@[simp] theorem ckptSend_sets (s : State) : (ckptSend s).sets = s.sets := by
  refine forEach_sets _ _ _ fun _ _ => ?_
  simp

@[simp] theorem dissolve_sets (s : State) : (dissolve s).sets = s.sets := by
  simp [dissolve, apply_ite State.sets]

@[simp] theorem pairConfigure_sets (c : PairCfg) (s : State) : (pairConfigure c s).sets = s.sets := by
  simp [pairConfigure, apply_ite State.sets]

end Sys2Proof.Machine

namespace Sys2Proof

open Machine

section
variable {mb : Nat} {p : Bytes} {s : State}

theorem pairConfig_answers (hlen : p.length = 16) :
    (u8 p 0 = 0 → Serves (.cmdPairConfig mb) mb 0x0C00 p (pairCfgRsp 0 s) s s) ∧
    (u8 p 0 = 1 → u8 p 2 < 64 → u8 p 3 < 8 → u8 p 12 < 240 → u8 p 13 < 240 → s.pair.state ≠ 2 → s.pair.state ≠ 3 →
      u8 p 2 ≠ devId → owlSlotOk (u8 p 12) 5 s = true → owlSlotOk (u8 p 13) 6 s = true →
      let u := pairConfigure (pairCfgOf p) s
      Serves (.cmdPairConfig 0) 0 0x0C00 p (pairCfgRsp 1 u) s u) ∧
    (u8 p 0 = 2 → s.pair.state ≠ 0 →
      let u := dissolve (pairControl s)
      Serves (.cmdPairConfig 0) 0 0x0C00 p (pairCfgRsp 2 u) s u) := by
  refine ⟨fun hop => ?_, fun hop hpeer hport hgen hver hactive hstandby hself hgenOk hverOk => ?_, fun hop hst => ?_⟩
  · refine serves_neither cmdPairConfig rfl (fun _ _ => ?_) (beq_iff_eq.mpr hlen) (fun _ _ => ?_) (fun _ _ => ?_) rfl rfl
    · simp [cmdPairConfig, readOps, hop]
    · simp [cmdPairConfig, need, hop]
    · exact if_pos hop
  · intro u
    have hop0 : ¬u8 p 0 = 0 := by omega
    have hop2 : ¬u8 p 0 = 2 := by omega
    have hfree : ¬(s.pair.state = 2 ∨ s.pair.state = 3) := by omega
    have hok : ¬(u8 p 2 = devId ∨ (!owlSlotOk (u8 p 12) 5 s) = true ∨ (!owlSlotOk (u8 p 13) 6 s) = true) := by
      simp [hself, hgenOk, hverOk]
    refine serves_neither cmdPairConfig rfl (fun _ _ => ?_) (beq_iff_eq.mpr hlen) (fun _ _ => ?_) (fun _ _ => ?_) (by simp [u]) rfl
    · simp [cmdPairConfig, readOps]
    · simp [cmdPairConfig, need, hop, hpeer, hport, hgen, hver]
    · simp only [cmdPairConfig, if_neg hop0, if_neg hop2, if_neg hfree, if_neg hok]
      rfl
  · intro u
    have hop0 : ¬u8 p 0 = 0 := by omega
    refine serves_neither cmdPairConfig rfl (fun _ _ => ?_) (beq_iff_eq.mpr hlen) (fun _ _ => ?_) (fun _ _ => ?_) (by simp [u]) rfl
    · simp [cmdPairConfig, readOps]
    · simp [cmdPairConfig, need, hop]
    · simp only [cmdPairConfig, if_neg hop0, if_pos hop, if_neg hst]
      rfl

theorem pairHandover_begins (hfree : s.pair.handover ≠ some 0) :
    (s.pair.state = 2 → s.pair.inSync = true → s.pair.acked.map (·.gen) = some s.sets.gen → s.pair.degraded = false →
      Begins (.cmdPairHandover 0) 0 0x0C02 [] s (setPair (fun p => { p with handover := some 0 }) (ckptSend s))) ∧
    (s.pair.state ≠ 2 → Declines (.cmdPairHandover 0) 0 0x0C02 [] stState s) := by
  refine ⟨fun hst hsync hacked hdeg => ?_, fun hst => ?_⟩
  · refine begins_neither cmdPairHandover rfl (fun _ _ => rfl) rfl (fun _ _ => rfl) rfl (fun _ _ => ?_)
    have hmay : ¬(s.pair.state ≠ 2 ∨ (!s.pair.inSync) = true ∨ s.pair.acked.map (·.gen) ≠ some s.sets.gen ∨
        s.pair.degraded = true) := by simp [hst, hsync, hacked, hdeg]
    simp only [cmdPairHandover, if_neg hfree, if_neg hmay]
  · refine declines_neither cmdPairHandover rfl (fun _ _ => rfl) rfl (fun _ _ => rfl) rfl (fun _ _ => ?_)
    simp only [cmdPairHandover, if_neg hfree, if_pos (Or.inl hst)]

theorem pairFence_answers (hlen : p.length = 4) (hmb : mb = 0 ∨ mb = 2 ∨ mb = 3) :
    (u8 p 0 = 0 → Serves (.cmdPairFence mb) mb 0x0C03 p (b1 0 ++ zeros 3) s (fenceEnter true s)) ∧
    (u8 p 0 = 1 → s.pair.state = 5 → s.pair.fenceIn = false →
      let u := if s.pair.fencing then fenceRoost s else s
      Serves (.cmdPairFence mb) mb 0x0C03 p (b1 1 ++ zeros 3) s (setPair (fun p => { p with state := 1, awaiting := true }) u)) := by
  have hmay (tag t : Nat) : cmdPairFence.may ⟨mb, 0x0C03, tag, t, p⟩ = true := by rcases hmb with rfl | rfl | rfl <;> rfl
  refine ⟨fun hop => ?_, fun hop hst hin => ?_⟩
  · refine serves_neither cmdPairFence rfl hmay (beq_iff_eq.mpr hlen) (fun _ _ => ?_) (fun _ _ => ?_) (by simp) rfl
    · simp [cmdPairFence, need, hop]
    · simp only [cmdPairFence, hop, if_true]
  · intro u
    refine serves_neither cmdPairFence rfl hmay (beq_iff_eq.mpr hlen) (fun _ _ => ?_) (fun _ _ => ?_) ?_ rfl
    · simp [cmdPairFence, need, hop]
    · simp [cmdPairFence, hop, hst, hin, u]
    · simp [u, setPair, apply_ite State.sets]

theorem pairCheckpoint_answers {t : Nat} (h8 : 8 ≤ p.length) (hmax : p.length ≤ 3568) (hst : s.pair.state = 3)
    (hserved : Served 3 0x0C04 t p s) :
    let u := ckptSegment p s
    Answers (.cmdPairCheckpoint 3) 3 u.sets.gen (b4 u.pair.ckptSeq) s u :=
  congrArg Host.Outcome.next (runCmd_neither (c := cmdPairCheckpoint) rfl hserved (fun _ => rfl)
    (by simp [cmdPairCheckpoint, h8, hmax]) (fun _ => rfl) fun _ => if_neg (not_not_intro hst))

theorem logicalPort_answers {n : Nat} (hlen : p.length = 9) (hn : u8 p 0 = n) (hlo : 136 ≤ n) (hhi : n < 168) :
    let answer (b : Bytes) : Bytes := b1 n ++ b ++ b1 (entryMembers b s).1 ++ b1 (entryMembers b s).2
    ReadsActive .cmdLogicalPort 0x0C06 p (answer (logicalOf (activeSet s) n)) s ∧
    (u8 p 1 ≤ 3 →
      let b := slice p 1 5 ++ zeros 3
      SetsShadow (.cmdLogicalPort 0) 0x0C06 p (answer b) (fun c => { c with logical := Tbl.set c.logical n b (zeros 8) }) s) := by
  intro answer
  subst hn
  have hidx (mb tag t : Nat) : cmdLogicalPort.idx ⟨mb, 0x0C06, tag, t, p⟩ s = stOk := by simp [cmdLogicalPort, need, hlo, hhi]
  exact ⟨readsActive_either cmdLogicalPort rfl (beq_iff_eq.mpr hlen) (fun _ => rfl) (fun _ _ _ => rfl)
      (fun mb tag => hidx mb tag 0) (fun _ _ => rfl),
    fun hkind => setsShadow_either cmdLogicalPort rfl (beq_iff_eq.mpr hlen) rfl (fun _ => rfl) (fun tag => hidx 0 tag 1)
      (fun _ => if_neg (Nat.not_lt.mpr hkind))⟩

theorem frerStream_answers {n : Nat} (hlen : p.length = 20) (hn : u16 p 0 = n) (hhi : n < 2048) :
    let b := streamApply (slice p 4 16)
    ReadsActive .cmdFrerStream 0x0C07 p (b2 n ++ zeros 2 ++ streamOf (activeSet s) n) s ∧
    SetsShadow (.cmdFrerStream 0) 0x0C07 p (b2 n ++ zeros 2 ++ b) (fun c => { c with streams := Tbl.set c.streams n b stream0 }) s := by
  intro b
  subst hn
  have hidx (mb tag t : Nat) : cmdFrerStream.idx ⟨mb, 0x0C07, tag, t, p⟩ s = stOk := by simp [cmdFrerStream, need, hhi]
  exact ⟨readsActive_either cmdFrerStream rfl (beq_iff_eq.mpr hlen) (fun _ => rfl) (fun _ _ _ => rfl)
      (fun mb tag => hidx mb tag 0) (fun _ _ => rfl),
    setsShadow_either cmdFrerStream rfl (beq_iff_eq.mpr hlen) rfl (fun _ => rfl) (fun tag => hidx 0 tag 1) (fun _ => rfl)⟩

theorem frerBind_answers {a n : Nat} (ha : u16 p 0 = a) (hn : u16 p 2 = n) (h1 : 1 ≤ n) (h256 : n ≤ 256)
    (hlen : p.length = 4 + 2 * n) (hroom : a + n ≤ 8192) :
    let v (i : Nat) : Nat := u16 p (4 + 2 * i) % 2048 + 0x8000 * b2n ((u16 p (4 + 2 * i)).testBit 15)
    ReadsActive .cmdFrerBind 0x0C08 p (b2 a ++ b2 n ++ (List.range n).flatMap (fun i => b2 (bindOf (activeSet s) (a + i)))) s ∧
    ((List.range n).any (fun i => (v i).testBit 15 && !bit (streamOf (shadowSet s) (v i % 2048)) 0 0) = false →
      SetsShadow (.cmdFrerBind 0) 0x0C08 p (b2 a ++ b2 n ++ (List.range n).flatMap (fun i => b2 (v i)))
        (fun c => { c with binds := (List.range n).foldl (fun t i => Tbl.set t (a + i) (b2 (v i)) (zeros 2)) c.binds }) s) := by
  intro v
  subst ha hn
  have hlenOk : cmdFrerBind.lenOk p = true := by simp [cmdFrerBind, h1, h256, len, hlen]
  have hidx (mb tag t : Nat) : cmdFrerBind.idx ⟨mb, 0x0C08, tag, t, p⟩ s = stOk := by simp [cmdFrerBind, need, hroom]
  exact ⟨readsActive_either cmdFrerBind rfl hlenOk (fun _ => rfl) (fun _ _ _ => rfl) (fun mb tag => hidx mb tag 0) (fun _ _ => rfl),
    fun hok => setsShadow_either cmdFrerBind rfl hlenOk rfl (fun _ => rfl) (fun tag => hidx 0 tag 1)
      (fun _ => if_neg (ne_true_of_eq_false hok))⟩

theorem frerCounters_answers (hlen : p.length = 10) (htab : u8 p 0 = 0) (hfirst : u32 p 4 < 2048) (hmay : bit p 1 0 = false ∨ mb = 0) :
    let a := u32 p 4
    let n := min (clamp 1 63 (u16 p 8)) (2048 - a)
    let keys := (List.range n).flatMap (fun i => (List.range 8).map (fun j => (ecFrer 0 + j, a + i)))
    Serves (.cmdFrerCounters mb) mb 0x0C09 p (b4 a ++ b2 n ++ zeros 2 ++ keys.flatMap (fun k => b8 (entryCounter k.1 k.2 s))) s
      (if bit p 1 0 then forEach keys (fun k s => clearEntry k.1 k.2 s) s else s) := by
  intro a n keys
  refine serves_neither cmdFrerCounters rfl (fun _ _ => ?_) (beq_iff_eq.mpr hlen) (fun _ _ => ?_) (fun _ _ => rfl) ?_ rfl
  · rcases hmay with h | rfl <;> simp [cmdFrerCounters, *]
  · simp [cmdFrerCounters, need, htab, hfirst]
  · split
    · rw [forEach_sets _ _ _ fun k s => clearEntry_sets ..]
    · rfl

theorem frerReset_answers (hlen : p.length = 5) (hroom : u16 p 0 + u16 p 2 ≤ 2048) :
    (u8 p 4 = 0 → Serves (.cmdFrerReset 0) 0 0x0C0A p (slice p 0 5) s (forEach (List.range (u16 p 2)) (fun i s =>
      setFrer (u16 p 0 + i) { frerState (u16 p 0 + i) s with takeAny := true } s) s)) ∧
    (u8 p 4 = 1 → Serves (.cmdFrerReset 0) 0 0x0C0A p (slice p 0 5) s (forEach (List.range (u16 p 2)) (fun i s =>
      setFrer (u16 p 0 + i) { frerState (u16 p 0 + i) s with resync := true } s) s)) := by
  refine ⟨fun hop => ?_, fun hop => ?_⟩
  · refine serves_neither cmdFrerReset rfl (fun _ _ => rfl) (beq_iff_eq.mpr hlen) (fun _ _ => ?_) (fun _ _ => ?_)
      (congrArg Sets.gen (forEach_sets _ _ _ fun _ _ => rfl)) rfl
    · simp [cmdFrerReset, need, hop, hroom]
    · simp [cmdFrerReset, hop]
  · refine serves_neither cmdFrerReset rfl (fun _ _ => rfl) (beq_iff_eq.mpr hlen) (fun _ _ => ?_) (fun _ _ => ?_)
      (congrArg Sets.gen (forEach_sets _ _ _ fun _ _ => rfl)) rfl
    · simp [cmdFrerReset, need, hop, hroom]
    · simp [cmdFrerReset, hop]

end

/-- Settles O53: each command of the pair, lockstep, logical ports and FRER, by what its body answers. -/
theorem pairCommandsAnswer : Obligations.PairCommandsAnswer := by
  unfold Obligations.PairCommandsAnswer
  exact ⟨fun _ _ _ => pairConfig_answers,
    fun _ _ => ⟨serves_neither cmdPairStatus rfl (fun _ _ => rfl) rfl (fun _ _ => rfl) (fun _ _ => rfl) rfl rfl,
      serves_neither cmdLockstepStatus rfl (fun _ _ => rfl) rfl (fun _ _ => rfl) (fun _ _ => rfl) rfl rfl⟩,
    fun _ => pairHandover_begins, fun _ _ _ => pairFence_answers, fun _ _ _ => pairCheckpoint_answers,
    fun _ _ _ => logicalPort_answers, fun _ _ _ => frerStream_answers, fun _ _ _ _ => frerBind_answers,
    fun _ _ _ => frerCounters_answers, fun _ _ => frerReset_answers⟩

end Sys2Proof
end

section

/-!
PROOF. Field update (R493 to R514): chain frames, ARM, CONFIRM and ABORT, activation, trial and the repeat timers.
-/

namespace Sys2Proof.Machine

open Sys2Proof

@[simp] theorem takeItems_upd (isDesc : Bool) (n : Nat) (s : State) : (takeItems isDesc n s).2.upd = s.upd := by
  simp [takeItems]

@[simp] theorem takeItems_flash (isDesc : Bool) (n : Nat) (s : State) : (takeItems isDesc n s).2.flash = s.flash := by
  simp [takeItems]

@[simp] theorem freeChanged_upd (s : State) : (freeChanged s).upd = s.upd := by
  unfold freeChanged
  dsimp only
  repeat' split
  all_goals simp

@[simp] theorem freeChanged_flash (s : State) : (freeChanged s).flash = s.flash := by
  unfold freeChanged
  dsimp only
  repeat' split
  all_goals simp

@[simp] theorem putFrame_upd (fid : Nat) (v : VFrame) (s : State) : (putFrame fid v s).upd = s.upd := by
  simp [putFrame]

@[simp] theorem putFrame_flash (fid : Nat) (v : VFrame) (s : State) : (putFrame fid v s).flash = s.flash := by
  simp [putFrame]

@[simp] theorem dropFrame_upd (fid : Nat) (s : State) : (dropFrame fid s).upd = s.upd := by
  simp [dropFrame]

@[simp] theorem dropFrame_flash (fid : Nat) (s : State) : (dropFrame fid s).flash = s.flash := by
  simp [dropFrame]

@[simp] theorem pfcSend_upd (t p quanta : Nat) (s : State) : (pfcSend t p quanta s).upd = s.upd := by
  simp [pfcSend]

@[simp] theorem pfcSend_flash (t p quanta : Nat) (s : State) : (pfcSend t p quanta s).flash = s.flash := by
  simp [pfcSend]

@[simp] theorem pfcCheck_upd (t : Nat) (s : State) : (pfcCheck t s).upd = s.upd := by
  simp [pfcCheck, forEach_upd, apply_ite State.upd]

@[simp] theorem pfcCheck_flash (t : Nat) (s : State) : (pfcCheck t s).flash = s.flash := by
  simp [pfcCheck, forEach_flash, apply_ite State.flash]

@[simp] theorem countQueue_upd (q j : Nat) (s : State) : (countQueue q j s).upd = s.upd := by
  simp [countQueue]

@[simp] theorem countQueue_flash (q j : Nat) (s : State) : (countQueue q j s).flash = s.flash := by
  simp [countQueue]

@[simp] theorem linkCopy_upd (x : Copy) (s : State) : (linkCopy x s).upd = s.upd := by
  simp [linkCopy]

@[simp] theorem linkCopy_flash (x : Copy) (s : State) : (linkCopy x s).flash = s.flash := by
  simp [linkCopy]

@[simp] theorem countRefused_upd (x : Copy) (why : Refuse) (some_admitted : Bool) (s : State) :
    (countRefused x why some_admitted s).upd = s.upd := by
  unfold countRefused
  repeat' split
  all_goals simp

@[simp] theorem countRefused_flash (x : Copy) (why : Refuse) (some_admitted : Bool) (s : State) :
    (countRefused x why some_admitted s).flash = s.flash := by
  unfold countRefused
  repeat' split
  all_goals simp

@[simp] theorem admitAll_upd (c : Nat) (l : List Copy) (s : State) : (admitAll c l s).2.2.upd = s.upd := by
  induction l generalizing s with
  | nil => rfl
  | cons x l ih =>
    unfold admitAll
    split <;> simp [ih]

@[simp] theorem admitAll_flash (c : Nat) (l : List Copy) (s : State) : (admitAll c l s).2.2.flash = s.flash := by
  induction l generalizing s with
  | nil => rfl
  | cons x l ih =>
    unfold admitAll
    split <;> simp [ih]

@[simp] theorem markMc_upd (fid : Nat) (qs : List Nat) (s : State) : (markMc fid qs s).upd = s.upd := by
  refine forEach_upd _ _ _ fun _ _ => ?_
  simp

@[simp] theorem markMc_flash (fid : Nat) (qs : List Nat) (s : State) : (markMc fid qs s).flash = s.flash := by
  refine forEach_flash _ _ _ fun _ _ => ?_
  simp

@[simp] theorem admitCopies_upd (fid : Nat) (copies : List Copy) (s : State) : (admitCopies fid copies s).upd = s.upd := by
  unfold admitCopies
  dsimp only
  repeat' split
  all_goals simp [forEach_upd]

@[simp] theorem admitCopies_flash (fid : Nat) (copies : List Copy) (s : State) :
    (admitCopies fid copies s).flash = s.flash := by
  unfold admitCopies
  dsimp only
  repeat' split
  all_goals simp [forEach_flash]

@[simp] theorem fairWake_upd (before s : State) : (fairWake before s).upd = s.upd := by
  simp [fairWake, forEach_upd, apply_ite State.upd]

@[simp] theorem fairWake_flash (before s : State) : (fairWake before s).flash = s.flash := by
  simp [fairWake, forEach_flash, apply_ite State.flash]

@[simp] theorem directedSend_upd (port queue : Nat) (data : Bytes) (launch : Option (Nat × Nat)) (s : State) :
    (directedSend port queue data launch s).upd = s.upd := by
  unfold directedSend
  dsimp only
  repeat' split
  all_goals simp

@[simp] theorem directedSend_flash (port queue : Nat) (data : Bytes) (launch : Option (Nat × Nat)) (s : State) :
    (directedSend port queue data launch s).flash = s.flash := by
  unfold directedSend
  dsimp only
  repeat' split
  all_goals simp

@[simp] theorem setFlashBank_upd (n : Nat) (b : FlashBank) (s : State) : (setFlashBank n b s).upd = s.upd := by
  unfold setFlashBank
  repeat' split
  all_goals simp

@[simp] theorem setFlashBank_flashFloor (n : Nat) (b : FlashBank) (s : State) :
    (setFlashBank n b s).flash.floor = s.flash.floor := by
  unfold setFlashBank
  repeat' split
  all_goals simp

@[simp] theorem bankHeader_upd (n : Nat) (f : FlashBank → FlashBank) (s : State) : (bankHeader n f s).upd = s.upd := by
  simp [bankHeader]

@[simp] theorem bankHeader_flashFloor (n : Nat) (f : FlashBank → FlashBank) (s : State) :
    (bankHeader n f s).flash.floor = s.flash.floor := by
  simp [bankHeader]

@[simp] theorem chainSend_upd (port : Nat) (payload : Bytes) (s : State) : (chainSend port payload s).upd = s.upd := by
  simp [chainSend]

@[simp] theorem chainSend_flash (port : Nat) (payload : Bytes) (s : State) : (chainSend port payload s).flash = s.flash := by
  simp [chainSend]

@[simp] theorem controlSend_upd (kind pkg : Nat) (body : Bytes) (ports : List Nat) (s : State) :
    (controlSend kind pkg body ports s).upd = s.upd := by
  unfold controlSend
  split
  · rfl
  · split
    · rfl
    · exact forEach_upd _ _ _ fun _ _ => chainSend_upd ..

@[simp] theorem controlSend_floor (kind pkg : Nat) (body : Bytes) (ports : List Nat) (s : State) :
    (controlSend kind pkg body ports s).flash.floor = s.flash.floor := by
  unfold controlSend
  split
  · rfl
  · split
    · rfl
    · exact (congrArg Flash.floor (forEach_flash _ _ _ fun _ _ => chainSend_flash ..)).trans rfl

@[simp] theorem takeReport_state (d : Nat) (r : DevReport) (s : State) : (takeReport d r s).upd.state = s.upd.state := by
  unfold takeReport
  dsimp only
  split <;> split <;> simp

@[simp] theorem takeReport_flash (d : Nat) (r : DevReport) (s : State) : (takeReport d r s).flash = s.flash := by
  unfold takeReport
  dsimp only
  split <;> split <;> simp

@[simp] theorem sendStatus_state (s : State) : (sendStatus s).upd.state = s.upd.state := by
  unfold sendStatus
  split <;> simp

@[simp] theorem sendStatus_floor (s : State) : (sendStatus s).flash.floor = s.flash.floor := by
  unfold sendStatus
  split <;> simp

/-! ### The chain's data -/

/-- A whole data frame from UPSTREAM is no reason to end at once (R496). -/
theorem chainData_heard {port : Nat} {p : Bytes} {u : State}
    (hup : u.upd.chain.upstream = port) (hver : u8 p 0 = 1) (hkind : chKind p = 6) (hwhole : 24 + chLen p ≤ p.length)
    (hsize : chLen p ≤ 1440) :
    ¬(u.upd.chain.upstream ≠ port ∨ u8 p 0 ≠ 1 ∨ chKind p ≠ 6 ∨ p.length < 24 + chLen p ∨ 1440 < chLen p) := by
  rintro (h | h | h | h | h)
  · exact h hup
  · exact h hver
  · exact h hkind
  · omega
  · omega

theorem chainDataReceive_effect {port : Nat} {p : Bytes} {s u : State} (htake : takeChain port 6 s = some (p, u))
    (hup : u.upd.chain.upstream = port) (hver : u8 p 0 = 1) (hkind : chKind p = 6) (hwhole : 24 + chLen p ≤ p.length)
    (hsize : chLen p ≤ 1440) :
    (chPart p = 0xFF → Gives (.chainDataReceive port) s (chainManifest p u)) ∧
    (∀ part block, chPart p = part → part ≠ 0xFF → chBlock p = block → chPkg p = updPkg u → 1 ≤ u.upd.state → u.upd.state ≠ 6 →
      pieceExists u.upd.manifest part block = true → chOff p + chLen p ≤ pieceLen u.upd.manifest part block →
      (u.upd.have_.contains (65536 * part + block) = true → Gives (.chainDataReceive port) s (dataAck part block (updPkg u) u)) ∧
      (u.upd.have_.contains (65536 * part + block) = false → relayFull u = false →
        ∀ k v, pieceBytes part block (chOff p) (slice p 24 (chLen p)) u = (k, v) →
          Gives (.chainDataReceive port) s (if k = 1 then dataAck part block (updPkg v) v else v))) := by
  have hgo := chainData_heard hup hver hkind hwhole hsize
  refine ⟨fun hmani => ?_, ?_⟩
  · simp only [Gives, exec, execChainDataReceive, htake, if_neg hgo, if_pos hmani]
  · rintro part block rfl hpart rfl hpkg hlo h6 hexists hroom
    have hok : ¬(!(chPkg p == updPkg u && decide (1 ≤ u.upd.state) && u.upd.state != 6 &&
        pieceExists u.upd.manifest (chPart p) (chBlock p) &&
        decide (chOff p + chLen p ≤ pieceLen u.upd.manifest (chPart p) (chBlock p)))) = true := by
      simp [hpkg, hlo, h6, hexists, hroom]
    refine ⟨fun hhave => ?_, fun hhave hfull k v hpiece => ?_⟩
    · simp only [Gives, exec, execChainDataReceive, htake, if_neg hgo, if_neg hpart, if_neg hok, if_pos hhave]
    · simp only [Gives, exec, execChainDataReceive, htake, if_neg hgo, if_neg hpart, if_neg hok, hhave, hfull, hpiece,
        Bool.false_eq_true, if_false]

theorem chainDataAckReceive_effect {port : Nat} {p : Bytes} {s u : State} (htake : takeChain port 7 s = some (p, u))
    (hdown : u.upd.chain.downstream.getLsbD port = true) (hpkg : chPkg p = updPkg u) :
    Gives (.chainDataAckReceive port) s
      (relaySend (relayDone port (fun x => samePiece (chPart p) (chBlock p) x && decide (0 < sentOn x port)) u)) := by
  simp only [Gives, exec, execChainDataAckReceive, htake, if_pos (And.intro hdown hpkg)]

theorem chainRetransmitTimer_effect {port part block : Nat} {x : RelayItem} {s : State}
    (hx : s.upd.queue.find? (fun x => samePiece part block x && x.ports.contains port && decide (0 < sentOn x port)) = some x) :
    (sentOn x port < 10 → Gives (.chainRetransmitTimer port part block) s (sendOn port x (count 255 277 s))) ∧
    (10 ≤ sentOn x port → Gives (.chainRetransmitTimer port part block) s
      (raise 97 0 (relayDone port (fun _ => true) { s with upd := { s.upd with failed := port :: s.upd.failed } }))) := by
  refine ⟨fun hfew => ?_, fun hmany => ?_⟩
  · simp only [Gives, exec, execChainRetransmitTimer, hx, if_neg (Nat.not_le.mpr hfew)]
  · simp only [Gives, exec, execChainRetransmitTimer, hx, if_pos hmany]

/-! ### The chain's control frames -/

/-- An ARM that is new is passed on and judged (R503, R504). -/
theorem exec_chainArmReceive {port : Nat} {p : Bytes} {s u v : State} (hup : u.upd.chain.upstream = port)
    (htake : takeControl port 8 s = (some p, u)) (hv : relayDown (beN p 36 8) p u = v) (hst : v.upd.state ≠ 3) :
    (armJudge (chPkg p) (beN p 36 8) (beN p 24 8) v = 0 →
      exec (.chainArmReceive port) s = .next (ctrlAck p (armAccept (beN p 24 8) (beN p 32 4) (beN p 36 8) v))) ∧
    (armJudge (chPkg p) (beN p 36 8) (beN p 24 8) v = 1 → exec (.chainArmReceive port) s = .next (armLate v)) := by
  have hgo : ¬u.upd.chain.upstream ≠ port := not_not_intro hup
  have hnew : ¬(v.upd.state = 3 ∧ chPkg p = updPkg v ∧ (beN p 36 8).testBit devId = true ∧ v.upd.t = beN p 24 8) :=
    fun h => hst h.1
  refine ⟨fun hjudge => ?_, fun hjudge => ?_⟩
  · simp only [exec, execChainArmReceive, htake, if_neg hgo, hv, if_neg hnew, hjudge]
  · simp only [exec, execChainArmReceive, htake, if_neg hgo, hv, if_neg hnew, hjudge]

theorem chainArmReceive_effect {port : Nat} {p : Bytes} {s u : State} (hup : u.upd.chain.upstream = port)
    (htake : takeControl port 8 s = (some p, u)) :
    let v := relayDown (beN p 36 8) p u
    v.upd.state ≠ 3 →
    (armJudge (chPkg p) (beN p 36 8) (beN p 24 8) v = 0 → Gives (.chainArmReceive port) s
      (ctrlAck p (armAccept (beN p 24 8) (beN p 32 4) (beN p 36 8) v))) ∧
    (armJudge (chPkg p) (beN p 36 8) (beN p 24 8) v = 1 → Gives (.chainArmReceive port) s (armLate v)) :=
  exec_chainArmReceive hup htake rfl

theorem updState_state (n : Nat) (fell : Bool) (s : State) : (updState n fell s).upd.state = n := by
  unfold updState
  split
  · next h => exact h.1
  · simp

@[simp] theorem updState_floor (n : Nat) (fell : Bool) (s : State) : (updState n fell s).flash.floor = s.flash.floor := by
  unfold updState
  split
  · rfl
  · simp

/-- A confirmed trial ends, and the floor rises to the manifest's (R511). -/
theorem confirmTrial_effect {n : Nat} {s : State} (hbank : bankIn 3 s = some n) :
    (confirmTrial s).upd.state = 0 ∧ (confirmTrial s).flash.floor = max s.flash.floor (mfFloor s.upd.manifest) := by
  constructor
  · simp [confirmTrial, hbank, updState_state]
  · cases hg : bankIn 4 s <;> simp [confirmTrial, hbank, hg, saveRecord]

theorem chainConfirmReceive_effect {port : Nat} {p : Bytes} {s u : State} (hup : u.upd.chain.upstream = port)
    (htake : takeControl port 9 s = (some p, u)) (hmine : (beN p 24 8).testBit devId = true) :
    let v := relayDown (beN p 24 8) p u
    ∀ n, chPkg p = updPkg v → inTrial v = true → bankIn 3 v = some n → Ends (.chainConfirmReceive port) s (fun t =>
      t = ctrlAck p (confirmTrial v) ∧ t.upd.state = 0 ∧ t.flash.floor = max v.flash.floor (mfFloor v.upd.manifest)) := by
  intro v n hpkg htrial hbank
  have hgo : ¬u.upd.chain.upstream ≠ port := not_not_intro hup
  have hours : ¬(chPkg p ≠ updPkg (relayDown (beN p 24 8) p u) ∨ (!(beN p 24 8).testBit devId) = true) := by
    rintro (h | h)
    · exact h hpkg
    · simp [hmine] at h
  have hexec : exec (.chainConfirmReceive port) s = .next (ctrlAck p (confirmTrial v)) := by
    simp only [exec, execChainConfirmReceive, htake, if_neg hgo, if_neg hours]
    exact if_pos htrial
  obtain ⟨hstate, hfloor⟩ := confirmTrial_effect hbank
  exact ⟨_, hexec, rfl, by rw [ctrlAck, controlSend_upd]; exact hstate, by rw [ctrlAck, controlSend_floor]; exact hfloor⟩

theorem chainAbortReceive_effect {port : Nat} {p : Bytes} {s u : State} (hup : u.upd.chain.upstream = port)
    (htake : takeControl port 10 s = (some p, u)) (hmine : (beN p 24 8).testBit devId = true) :
    let v := relayDown (beN p 24 8) p u
    chPkg p = updPkg v → v.upd.state = 3 ∨ inTrial v = true → Gives (.chainAbortReceive port) s (abortHere (ctrlAck p v)) := by
  intro v hpkg hst
  have hgo : ¬u.upd.chain.upstream ≠ port := not_not_intro hup
  simp only [Gives, exec, execChainAbortReceive, htake, if_neg hgo]
  exact if_pos ⟨hpkg, hmine, hst⟩

theorem chainStatusReceive_effect {port : Nat} {p : Bytes} {s u : State} (hdown : u.upd.chain.downstream.getLsbD port = true)
    (htake : takeControl port 11 s = (some p, u)) :
    (u.upd.chain.coord = true → Gives (.chainStatusReceive port) s (takeReport (chDev p)
      { state := u8 p 24, fellBack := bit p 25 0, flags := u8 p 25, remain := beN p 28 4, fwrev := beN p 40 4, time := now32 u } u)) ∧
    (u.upd.chain.coord = false → Gives (.chainStatusReceive port) s (relayFrame (upPorts u) p u)) := by
  have hgo : ¬(!u.upd.chain.downstream.getLsbD port) = true := by simp only [hdown, Bool.not_true, Bool.false_eq_true, not_false_iff]
  refine ⟨fun hcoord => ?_, fun hcoord => ?_⟩
  · simp only [Gives, exec, execChainStatusReceive, htake, if_neg hgo, if_pos hcoord]
  · simp only [Gives, exec, execChainStatusReceive, htake, if_neg hgo, if_neg (ne_true_of_eq_false hcoord)]

theorem chainCtrlAckReceive_effect {port : Nat} {p : Bytes} {s u : State} (hdown : u.upd.chain.downstream.getLsbD port = true)
    (htake : takeControl port 12 s = (some p, u)) :
    (u.upd.chain.coord = true → u8 p 24 = 8 → Gives (.chainCtrlAckReceive port) s
      { u with upd := { u.upd with armWait := u.upd.armWait.filter (fun k => k != chDev p) } }) ∧
    (u.upd.chain.coord = false → Gives (.chainCtrlAckReceive port) s (relayFrame (upPorts u) p u)) := by
  have hgo : ¬(!u.upd.chain.downstream.getLsbD port) = true := by simp only [hdown, Bool.not_true, Bool.false_eq_true, not_false_iff]
  refine ⟨fun hcoord hkind => ?_, fun hcoord => ?_⟩
  · simp only [Gives, exec, execChainCtrlAckReceive, htake, if_neg hgo, if_pos hcoord, hkind]
    rfl
  · simp only [Gives, exec, execChainCtrlAckReceive, htake, if_neg hgo, if_neg (ne_true_of_eq_false hcoord)]

/-! ### The timers -/

theorem updateActivation_effect {s : State} (hst : s.upd.state = 3) (htb : tbEnabled 1 s = true) (ht : s.upd.t ≤ tbNow 1 s) :
    (s.upd.restart = true → Gives .updateActivation s (activateRestart s)) ∧
    (s.upd.restart = false → updSwap s = true → Gives .updateActivation s (activateSwap s)) := by
  have hgo : ¬(s.upd.state ≠ 3 ∨ (!tbEnabled 1 s) = true ∨ tbNow 1 s < s.upd.t) := by
    simp [hst, htb, ht]
  refine ⟨fun hrestart => ?_, fun hrestart hswap => ?_⟩
  · simp only [Gives, exec, execUpdateActivation, if_neg hgo, if_pos hrestart]
  · simp only [Gives, exec, execUpdateActivation, if_neg hgo, if_neg (ne_true_of_eq_false hrestart), if_pos hswap]

theorem armRepeatTimer_effect {s : State} (hcoord : s.upd.chain.coord = true) (hwait : s.upd.armWait ≠ [])
    (htb : tbEnabled 1 s = true) (ht : tbNow 1 s + 200000000 ≤ s.upd.armT) : Gives .armRepeatTimer s (sendArm s.upd.armWait s) := by
  simp [Gives, exec, execArmRepeatTimer, hcoord, hwait, htb, ht]

theorem confirmRepeatTimer_effect {s : State} (hcoord : s.upd.chain.coord = true) (hconf : s.upd.confirming = true) :
    let w := s.upd.confWait.filter (fun d => windowRuns d s)
    w ≠ [] → Gives .confirmRepeatTimer s (sendMask 9 w { s with upd := { s.upd with confWait := w } }) := by
  intro w hw
  have hany : (!(s.upd.confWait.filter (fun d => windowRuns d s)).isEmpty) = true := by
    rw [Bool.not_eq_true', List.isEmpty_eq_false_iff]
    exact hw
  simp only [Gives, exec, execConfirmRepeatTimer]
  exact if_pos ⟨hcoord, hconf, hany⟩

theorem incompleteCheck_effect {s : State} (hcoord : s.upd.chain.coord = true) (htrial : inTrial s = false)
    (htb : tbEnabled 1 s = true) (ht : s.upd.armT + 5000000000 ≤ tbNow 1 s)
    (hmiss : ∃ d ∈ maskDevs s.upd.armMask, devState d s ≠ 4 ∧ devState d s ≠ 5) :
    Gives .incompleteCheck s (raise 99 3 { s with upd := { s.upd with armMask := 0 } }) := by
  obtain ⟨d, hd, h4, h5⟩ := hmiss
  have hany : (!((maskDevs s.upd.armMask).filter (fun d => devState d s != 4 && devState d s != 5)).isEmpty) = true := by
    rw [Bool.not_eq_true', List.isEmpty_eq_false_iff]
    exact List.ne_nil_of_mem (List.mem_filter.mpr ⟨hd, by simp [h4, h5]⟩)
  have hdue : (if inTrial s then decide (s.upd.trialFrom + 5000000000 ≤ now s)
      else tbEnabled 1 s && decide (s.upd.armT + 5000000000 ≤ tbNow 1 s)) = true := by
    simp only [htrial, htb, decide_eq_true ht, Bool.false_eq_true, if_false, Bool.and_self]
  simp only [Gives, exec, execIncompleteCheck]
  exact if_pos ⟨hcoord, hdue, hany⟩

theorem packageReadback_effect {s : State} (hst : s.upd.state = 1) (hrelay : s.upd.relay = false)
    (hdone : blocksTotal s ≤ blocksDone s) :
    ((∀ i ∈ ownParts s, rootOf (bankPart (otherBank s) (partKind s.upd.manifest i) s) = partRoot s.upd.manifest i) →
      Gives (.packageReadbackComplete false) s
        (raise 96 3 (updState 2 false (bankHeader (otherBank s) (fun b => { b with state := 2, fell := 0 }) s)))) ∧
    Gives (.packageReadbackComplete true) s (raise 96 4 (count 255 284 (updState 6 false s))) := by
  have hgo : ¬(s.upd.state ≠ 1 ∨ s.upd.relay = true ∨ blocksDone s < blocksTotal s) := by
    simp [hst, hrelay, hdone]
  refine ⟨fun hgood => ?_, ?_⟩
  · have hall : (ownParts s).all
        (fun i => rootOf (bankPart (otherBank s) (partKind s.upd.manifest i) s) == partRoot s.upd.manifest i) = true :=
      List.all_eq_true.mpr fun i hi => beq_iff_eq.mpr (hgood i hi)
    simp only [Gives, exec, execPackageReadbackComplete, if_neg hgo, hall]
    rfl
  · simp [Gives, exec, execPackageReadbackComplete, if_neg hgo]

theorem updateTimers_effect (s : State) :
    (dieshUp s = true → s.upd.state ≠ 0 → s.upd.state ≠ 6 → Gives .updStatusTimer s (sendStatus s)) ∧
    (s.upd.state = 3 → s.upd.loadDue = true → tbEnabled 1 s = true → s.upd.t ≤ tbNow 1 s + 100000000 →
      Gives .shadowReadyDeadline s
        (armLate (updState 2 s.upd.fellBack { s with upd := { s.upd with t := 0, loadDue := false } }))) ∧
    (inTrial s = true → s.upd.trialFrom + 1000000000 * s.upd.trialS ≤ now s → Gives .trialWindowExpiry s (fallBack s)) := by
  refine ⟨fun hup h0 h6 => ?_, fun hst hload htb ht => ?_, fun htrial hend => ?_⟩
  · simp only [Gives, exec, execUpdStatusTimer, if_pos (And.intro hup (And.intro h0 h6))]
  · simp only [Gives, exec, execShadowReadyDeadline, if_pos (And.intro hst (And.intro hload (And.intro htb ht)))]
  · simp only [Gives, exec, execTrialWindowExpiry, if_pos (And.intro htrial hend)]

end Sys2Proof.Machine

namespace Sys2Proof

open Machine

/-- Settles O54: each clause is the event's own lemma. -/
theorem fieldUpdateRuns : Obligations.FieldUpdateRuns := by
  unfold Obligations.FieldUpdateRuns
  refine ⟨fun _ _ _ _ => chainDataReceive_effect, fun _ _ _ _ => chainDataAckReceive_effect,
    fun _ _ _ _ _ => chainRetransmitTimer_effect,
    fun _ _ _ _ hup => ⟨chainArmReceive_effect hup, chainConfirmReceive_effect hup, chainAbortReceive_effect hup⟩,
    fun _ _ _ _ hdown => ⟨chainStatusReceive_effect hdown, chainCtrlAckReceive_effect hdown⟩, fun s => ?_⟩
  obtain ⟨hstatus, hready, htrial⟩ := updateTimers_effect s
  exact ⟨hstatus, armRepeatTimer_effect, updateActivation_effect, hready, htrial, confirmRepeatTimer_effect,
    incompleteCheck_effect, packageReadback_effect⟩

end Sys2Proof
end

section

/-!
PROOF. The commands of field update (group 0x0D) and the service token: what each answers.
-/

namespace Sys2Proof.Machine

open Sys2Proof

@[simp] theorem withShadow_setsGen (c : CfgSet) (s : State) : (withShadow c s).sets.gen = s.sets.gen := by
  unfold withShadow
  repeat' split
  all_goals simp

@[simp] theorem editShadow_setsGen (f : CfgSet → CfgSet) (s : State) : (editShadow f s).sets.gen = s.sets.gen := by
  simp [editShadow]

@[simp] theorem bankHeader_sets (n : Nat) (f : FlashBank → FlashBank) (s : State) : (bankHeader n f s).sets = s.sets := by
  simp [bankHeader]

@[simp] theorem swapLoad_setsGen (s : State) : (swapLoad s).sets.gen = s.sets.gen := by
  unfold swapLoad
  repeat' split
  all_goals simp

@[simp] theorem manifestStatus_sets (m : Bytes) (s : State) : (manifestStatus m s).2.sets = s.sets := by
  unfold manifestStatus
  dsimp only
  repeat' split
  all_goals simp

@[simp] theorem sendPiece_sets (port : Nat) (x : RelayItem) (s : State) : (sendPiece port x s).sets = s.sets := by
  refine forEach_sets _ _ _ fun _ _ => ?_
  simp

@[simp] theorem setPiece_sets (y : RelayItem) (s : State) : (setPiece y s).sets = s.sets := by
  simp [setPiece]

@[simp] theorem sendOn_sets (p : Nat) (x : RelayItem) (s : State) : (sendOn p x s).sets = s.sets := by
  simp [sendOn]

@[simp] theorem relaySend_sets (s : State) : (relaySend s).sets = s.sets := by
  refine forEach_sets _ _ _ fun p s => forEach_sets _ _ _ fun _ s => ?_
  repeat' split
  all_goals simp

@[simp] theorem relayAdd_sets (part block : Nat) (data : Bytes) (s : State) :
    (relayAdd part block data s).sets = s.sets := by
  unfold relayAdd
  repeat' split
  all_goals simp

@[simp] theorem manifestAccept_sets (m : Bytes) (solo : Bool) (s : State) : (manifestAccept m solo s).sets = s.sets := by
  unfold manifestAccept
  dsimp only
  repeat' split
  all_goals simp

@[simp] theorem manifestFail_sets (s : State) : (manifestFail s).sets = s.sets := by
  simp [manifestFail]

@[simp] theorem pieceTake_sets (part block : Nat) (d : Bytes) (s : State) : (pieceTake part block d s).sets = s.sets := by
  unfold pieceTake
  dsimp only
  repeat' split
  all_goals simp

@[simp] theorem pieceFail_sets (s : State) : (pieceFail s).sets = s.sets := by
  simp [pieceFail]

@[simp] theorem pieceBytes_sets (part block off : Nat) (d : Bytes) (s : State) :
    (pieceBytes part block off d s).2.sets = s.sets := by
  unfold pieceBytes
  dsimp only
  repeat' split
  all_goals simp

@[simp] theorem armAccept_setsGen (t trialS mask : Nat) (s : State) :
    (armAccept t trialS mask s).sets.gen = s.sets.gen := by
  unfold armAccept
  dsimp only
  repeat' split
  all_goals simp

@[simp] theorem confirmTrial_sets (s : State) : (confirmTrial s).sets = s.sets := by
  unfold confirmTrial
  repeat' split
  all_goals simp

theorem poisonIn_nil (off n : Nat) : poisonIn [] off n = [] := rfl

end Sys2Proof.Machine

namespace Sys2Proof

open Machine

section
variable {mb t : Nat} {p : Bytes} {s v : State}

theorem updManifest_answers {st : Nat} (hlen : p.length = 12) (hsrc : u8 p 0 = 0)
    (hrange : bankRange (u8 p 1) (u32 p 4) (u32 p 8) s = true) (hstate : s.upd.state < 3 ∨ s.upd.state = 6)
    (hserved : Served 0 0x0D01 t p s) :
    let b := bankOf (u8 p 1) s
    (bit p 2 0 = false → Answers (.cmdUpdManifest 0) 0 s.sets.gen [] s s) ∧
    (bit p 2 0 = true → u32 p 8 ≤ 65536 → b.retired = false → b.poison = [] →
      let m := Memory.readN b.mem (u32 p 4) (u32 p 8)
      manifestStatus m { s with upd := { s.upd with draft := {} } } = (st, v) →
      exec (.cmdUpdManifest 0) s = .next (mbDone 0 st s.sets.gen [] (if st = stOk then manifestAccept m false v else manifestFail v))) := by
  intro b
  have hlenOk : cmdUpdManifest.lenOk p = true := by simp [cmdUpdManifest, hlen]
  have hidx (tag : Nat) : cmdUpdManifest.idx ⟨0, 0x0D01, tag, t, p⟩ s = stOk := by
    simp [cmdUpdManifest, need, sourceOk, hsrc, hrange]
  have hopen : ¬(3 ≤ s.upd.state ∧ s.upd.state ≤ 5) := by omega
  refine ⟨fun hlast => ?_, ?_⟩
  · refine congrArg Host.Outcome.next (runCmd_neither (c := cmdUpdManifest) (u := s) rfl hserved (fun _ => rfl) hlenOk hidx fun _ => ?_)
    simp [cmdUpdManifest, if_neg hopen, hlast, ok]
  · intro hlast hsize hret hpoison m hstatus
    have hpoison : (bankOf (u8 p 1) s).poison = [] := hpoison
    have hread := bankRead_sound (off := u32 p 4) (len := u32 p 8) hret (by rw [hpoison]; exact poisonIn_nil ..)
    have hv : v.sets = s.sets := by
      have := manifestStatus_sets m { s with upd := { s.upd with draft := {} } }
      rw [hstatus] at this
      exact this
    have hrun := runCmd_neither (c := cmdUpdManifest) (st := st) (data := [])
      (u := if st = stOk then manifestAccept m false v else manifestFail v) rfl hserved (fun _ => rfl) hlenOk hidx fun _ => ?_
    · have hgen : (if st = stOk then manifestAccept m false v else manifestFail v).sets.gen = s.sets.gen := by
        split <;> simp [hv]
      rw [hgen] at hrun
      exact congrArg Host.Outcome.next hrun
    · have hstatus : manifestStatus (Memory.readN (bankOf (u8 p 1) s).mem (u32 p 4) (u32 p 8))
          { s with upd := { s.upd with draft := {} } } = (st, v) := hstatus
      simp [cmdUpdManifest, if_neg hopen, hlast, Nat.not_lt.mpr hsize, hread, hstatus]
      by_cases hst : st = stOk
      · rw [if_pos hst, if_pos hst, hst]
        rfl
      · rw [if_neg hst, if_neg hst]
        rfl

theorem updData_answers {k : Nat} (hlen : p.length = 20) (hsrc : u8 p 1 = 0)
    (hrange : bankRange (u8 p 2) (u32 p 16) (u32 p 12) s = true) (hstate : s.upd.state = 1)
    (hexists : pieceExists s.upd.manifest (u8 p 0) (u16 p 4) = true)
    (hroom : u32 p 8 + u32 p 12 ≤ pieceLen s.upd.manifest (u8 p 0) (u16 p 4)) (hfull : relayFull s = false) :
    let b := bankOf (u8 p 2) s
    b.retired = false → b.poison = [] →
    pieceBytes (u8 p 0) (u16 p 4) (u32 p 8) (Memory.readN b.mem (u32 p 16) (u32 p 12)) s = (k, v) → Served 0 0x0D02 t p s →
    (k ≠ 3 → exec (.cmdUpdData 0) s = .next (mbDone 0 stOk s.sets.gen (b1 k) v)) ∧
    (k = 3 → exec (.cmdUpdData 0) s = .next (mbDone 0 stAuth s.sets.gen (b1 2) v)) := by
  intro b hret hpoison hpiece hserved
  have hpoison : (bankOf (u8 p 2) s).poison = [] := hpoison
  have hread := bankRead_sound (off := u32 p 16) (len := u32 p 12) hret (by rw [hpoison]; exact poisonIn_nil ..)
  have hv : v.sets.gen = s.sets.gen := by
    have := pieceBytes_sets (u8 p 0) (u16 p 4) (u32 p 8) (Memory.readN b.mem (u32 p 16) (u32 p 12)) s
    rw [hpiece] at this
    exact congrArg Sets.gen this
  have hlenOk : cmdUpdData.lenOk p = true := by simp [cmdUpdData, hlen]
  have hidx (tag : Nat) : cmdUpdData.idx ⟨0, 0x0D02, tag, t, p⟩ s = stOk := by
    simp [cmdUpdData, need, sourceOk, hsrc, hrange, hexists]
  have hbody (tag : Nat) : cmdUpdData.body ⟨0, 0x0D02, tag, t, p⟩ s = if k = 3 then .done stAuth (b1 2) v else ok (b1 k) v := by
    have hpiece : pieceBytes (u8 p 0) (u16 p 4) (u32 p 8) (Memory.readN (bankOf (u8 p 2) s).mem (u32 p 16) (u32 p 12)) s =
        (k, v) := hpiece
    simp [cmdUpdData, hstate, Nat.not_lt.mpr hroom, hfull, hread, hpiece]
    split
    · rfl
    · next h => exact (if_neg h).symm
  refine ⟨fun hk => ?_, fun hk => ?_⟩
  · have hrun := runCmd_neither (c := cmdUpdData) rfl hserved (fun _ => rfl) hlenOk hidx fun tag => (hbody tag).trans (if_neg hk)
    rw [hv] at hrun
    exact congrArg Host.Outcome.next hrun
  · have hrun := runCmd_neither (c := cmdUpdData) rfl hserved (fun _ => rfl) hlenOk hidx fun tag => (hbody tag).trans (if_pos hk)
    rw [hv] at hrun
    exact congrArg Host.Outcome.next hrun

theorem updChain_answers (hlen : p.length = 12) :
    (u8 p 0 = 0 → Serves (.cmdUpdChain mb) mb 0x0D03 p (chainRsp 0 s) s s) ∧
    (u8 p 0 = 1 → u8 p 1 < 32 → u8 p 3 < 8 → u8 p 8 < 240 → u8 p 9 < 240 → s.upd.state = 0 ∨ s.upd.state = 6 →
      (bitsOf 32 (u32 p 4)).length ≤ 4 → (u32 p 4).testBit (u8 p 1) = false → bit p 2 0 = false →
      chainSlotOk (u8 p 8) 5 s = true → chainSlotOk (u8 p 9) 6 s = true →
      let c : Chain := { upstream := u8 p 1, downstream := BitVec.ofNat 32 (u32 p 4), coord := false, tc := u8 p 3,
                         genSlot := u8 p 8, verSlot := u8 p 9 }
      let u := keepSettings (fun x => { x with chain := c }) { s with upd := { s.upd with chain := c, failed := [] } }
      Serves (.cmdUpdChain 0) 0 0x0D03 p (chainRsp 1 u) s u) := by
  refine ⟨fun hop => ?_, fun hop hup htc hgen hver hst hdown hother hcoord hgenOk hverOk => ?_⟩
  · refine serves_neither cmdUpdChain rfl (fun _ _ => readAny_op0 hop) (beq_iff_eq.mpr hlen) (fun _ _ => ?_) (fun _ _ => ?_) rfl rfl
    · simp [cmdUpdChain, need, hop]
    · exact if_pos hop
  · intro c u
    have hop0 : ¬u8 p 0 = 0 := by omega
    have hopen : ¬(s.upd.state ≠ 0 ∧ s.upd.state ≠ 6) := by omega
    have hok : ¬(4 < (bitsOf 32 (u32 p 4)).length ∨ (u8 p 1 < 32 ∧ (u32 p 4).testBit (u8 p 1) = true) ∨
        (bit p 2 0 = true ∧ u8 p 1 ≠ 0xFF) ∨ (!chainSlotOk (u8 p 8) 5 s) = true ∨ (!chainSlotOk (u8 p 9) 6 s) = true) := by
      rw [hother, hcoord, hgenOk, hverOk]
      simp only [Bool.false_eq_true, and_false, false_and, Bool.not_true, or_false, Nat.not_lt]
      exact hdown
    refine serves_neither cmdUpdChain rfl (fun _ _ => ?_) (beq_iff_eq.mpr hlen) (fun _ _ => ?_) (fun _ _ => ?_) (by simp [u]) rfl
    · simp [cmdUpdChain, readAny, readOps]
    · simp [cmdUpdChain, need, hop, hup, htc, hgen, hver]
    · simp only [cmdUpdChain, if_neg hop0, if_neg hopen, if_neg hok]
      simp only [hcoord]
      rfl

theorem updArm_confirm_abort (hmb : mb = 0 ∨ mb = 4) (hscope : u8 p 0 = 0) :
    (p.length = 24 → s.upd.chain.upstream = 0xFF → armJudge (updPkg s) (2 ^ devId) (u64 p 4) s = 0 →
      let secs := clamp 10 3600 (u32 p 12)
      Serves (.cmdUpdArm mb) mb 0x0D04 p (slice p 0 12 ++ b4 secs ++ slice p 16 8) s
        (armAccept (u64 p 4) secs (2 ^ devId) s)) ∧
    (p.length = 16 → inTrial s = true → Serves (.cmdUpdConfirm mb) mb 0x0D05 p p s (confirmTrial s)) ∧
    (∀ t, p.length = 16 → s.upd.state = 3 ∨ inTrial s = true → Served mb 0x0D06 t p s →
      Answers (.cmdUpdAbort mb) mb (abortHere s).sets.gen p s (abortHere s)) := by
  have hmay (code tag t : Nat) : scopeMay ⟨mb, code, tag, t, p⟩ = true := by
    rcases hmb with rfl | rfl <;> simp [scopeMay, hscope]
  refine ⟨fun hlen hhead hjudge => ?_, fun hlen htrial => ?_, fun t hlen hlive hserved => ?_⟩
  · intro secs
    refine serves_neither cmdUpdArm rfl (fun _ _ => hmay ..) (beq_iff_eq.mpr hlen) (fun _ _ => ?_) (fun _ _ => ?_) (by simp) rfl
    · simp [cmdUpdArm, need, hscope]
    · simp [cmdUpdArm, hscope, hhead, hjudge, Nat.testBit_two_pow_self, secs]
  · refine serves_neither cmdUpdConfirm rfl (fun _ _ => hmay ..) (beq_iff_eq.mpr hlen) (fun _ _ => ?_) (fun _ _ => ?_) (by simp) rfl
    · simp [cmdUpdConfirm, need, hscope]
    · simp [cmdUpdConfirm, hscope, htrial]
  · have hstate : devState devId s = 3 ∨ devState devId s = 4 ∨ devState devId s = 5 := by
      rw [devState, if_pos rfl]
      simpa [inTrial] using hlive
    refine congrArg Host.Outcome.next (runCmd_neither (c := cmdUpdAbort) rfl hserved (fun _ => hmay ..) (beq_iff_eq.mpr hlen)
      (fun _ => ?_) fun _ => ?_)
    · simp [cmdUpdAbort, need, hscope]
    · rcases hstate with h | h | h <;> simp [cmdUpdAbort, hscope, h, ok]

theorem updVehicle_answers (hmb : mb = 0 ∨ mb = 1 ∨ mb = 4) :
    let devs := (mfTable s.upd.manifest).map (·.1)
    (s.upd.chain.coord = true → Serves (.cmdUpdVehicle mb) mb 0x0D07 [] (b1 devs.length ++ zeros 3 ++ devs.flatMap (fun d =>
      let r := devReport d s
      b1 d ++ b1 r.state ++ b1 r.flags ++ zeros 1 ++ b4 r.remain ++ b4 r.fwrev ++ b4 r.time)) s s) ∧
    (s.upd.chain.coord = false → Declines (.cmdUpdVehicle mb) mb 0x0D07 [] stState s) := by
  intro devs
  have hmay (tag t : Nat) : cmdUpdVehicle.may ⟨mb, 0x0D07, tag, t, []⟩ = true := by rcases hmb with rfl | rfl | rfl <;> rfl
  refine ⟨fun hcoord => ?_, fun hcoord => ?_⟩
  · exact serves_neither cmdUpdVehicle rfl hmay rfl (fun _ _ => rfl) (fun _ _ => if_neg (by simp [hcoord])) rfl rfl
  · exact declines_neither cmdUpdVehicle rfl hmay rfl (fun _ _ => rfl) rfl (fun _ _ => if_pos (by simp [hcoord]))

theorem serviceAuth_answers (h1 : 1 ≤ p.length) (hmax : p.length ≤ 3568) (hlife : s.otp.life ≠ 3) (hserved : Served 4 0x0005 t p s) :
    let refused (u : State) : State := mbDone 4 stAuth s.sets.gen [] (raise 100 1 (count 255 283 u))
    (p.length ≠ 3469 ∨ u32 p 0 ≠ 0x4B545653 ∨ u32 p 16 ≤ s.flash.tokenSeq → exec (.cmdServiceAuth 4) s = .next (refused s)) ∧
    (∀ k, p.length = 3469 → u32 p 0 = 0x4B545653 → u16 p 4 = 1 → u8 p 6 ≤ 3 → u64 p 8 = Config.serialNumber.toNat →
      s.flash.tokenSeq < u32 p 16 → tokenKeys (u8 p 6) s = some k →
      let v := verify (u8 p 6) (sha384 (p.take 64)) (k ++ p.drop 64) s
      let w := countVerify v s
      let secs := min 1800 (u16 p 20)
      let x : State := { w with flash := { w.flash with tokenSeq := u32 p 16 },
                                svc := { w.svc with session := some secs, rights := u8 p 7 % 8 } }
      exec (.cmdServiceAuth 4) s = .next (if v.1 && v.2.1 && v.2.2 then mbDone 4 stOk s.sets.gen (b4 secs) (raise 100 0 (saveRecord x))
        else refused w)) := by
  intro refused
  have hlenOk : cmdServiceAuth.lenOk p = true := by simp [cmdServiceAuth, h1, hmax]
  have hrefuse (u : State) (hu : u.sets = s.sets)
      (hbody : ∀ tag, cmdServiceAuth.body ⟨4, 0x0005, tag, t, p⟩ s = fail stAuth (raise 100 1 (count 255 283 u))) :
      exec (.cmdServiceAuth 4) s = .next (refused u) := by
    have hrun := runCmd_neither (c := cmdServiceAuth) rfl hserved (fun _ => rfl) hlenOk (fun _ => rfl) hbody
    rw [raise_sets, count_sets, hu] at hrun
    exact congrArg Host.Outcome.next hrun
  refine ⟨fun hbad => ?_, fun k hlen hmagic hver hanchor hserial hseq hkeys => ?_⟩
  · refine hrefuse s rfl fun tag => ?_
    have hno : p.length ≠ 3469 ∨ u32 p 0 ≠ 0x4B545653 ∨ u16 p 4 ≠ 1 ∨ 3 < u8 p 6 ∨
        u64 p 8 ≠ Config.serialNumber.toNat ∨ u32 p 16 ≤ s.flash.tokenSeq := by
      rcases hbad with hlen | hmagic | hseq
      · exact .inl hlen
      · exact .inr (.inl hmagic)
      · exact .inr (.inr (.inr (.inr (.inr hseq))))
    simp only [cmdServiceAuth, if_neg hlife, if_pos hno]
  · intro v w secs x
    have hok : ¬(p.length ≠ 3469 ∨ u32 p 0 ≠ 0x4B545653 ∨ u16 p 4 ≠ 1 ∨ 3 < u8 p 6 ∨
        u64 p 8 ≠ Config.serialNumber.toNat ∨ u32 p 16 ≤ s.flash.tokenSeq) := by
      rintro (h | h | h | h | h | h)
      · exact h hlen
      · exact h hmagic
      · exact h hver
      · omega
      · exact h hserial
      · omega
    have hbody (tag : Nat) : cmdServiceAuth.body ⟨4, 0x0005, tag, t, p⟩ s =
        if (!(v.1 && v.2.1 && v.2.2)) = true then fail stAuth (raise 100 1 (count 255 283 w))
        else ok (b4 secs) (raise 100 0 (saveRecord x)) := by
      simp only [cmdServiceAuth, if_neg hlife, if_neg hok, hkeys]
      rfl
    cases hv : (v.1 && v.2.1 && v.2.2) with
    | true =>
      have hrun := runCmd_neither (c := cmdServiceAuth) rfl hserved (fun _ => rfl) hlenOk (fun _ => rfl)
        fun tag => (hbody tag).trans (if_neg (by simp [hv]))
      have hgen : (raise 100 0 (saveRecord x)).sets.gen = s.sets.gen := by simp [saveRecord, x, w]
      rw [hgen] at hrun
      exact congrArg Host.Outcome.next hrun
    | false => exact hrefuse w (by simp [w]) fun tag => (hbody tag).trans (if_pos (by simp [hv]))

end

/-- Settles O55: each command of field update and the token's, by what its body answers. -/
theorem updateCommandsAnswer : Obligations.UpdateCommandsAnswer := by
  unfold Obligations.UpdateCommandsAnswer
  exact ⟨fun _ _ => serves_neither cmdUpdStatus rfl (fun _ _ => rfl) rfl (fun _ _ => rfl) (fun _ _ => rfl) rfl rfl,
    fun _ _ _ _ _ => updManifest_answers, fun _ _ _ _ _ => updData_answers, fun _ _ _ => updChain_answers,
    fun _ _ _ => updArm_confirm_abort, fun _ _ => updVehicle_answers, fun _ _ _ => serviceAuth_answers⟩

end Sys2Proof
end

section

/-!
PROOF. The Mole, scratch ownership, the trace ring and the alarm register: what each event does to the state.
-/

namespace Sys2Proof.Machine

open Sys2Proof

theorem bankWrite_wr (n off : Nat) (d : Bytes) (s : State) : (bankWrite n off d s).test.wr = s.test.wr := by
  unfold bankWrite setBank; dsimp only; split <;> rfl

theorem bankWrite_log2 (n off : Nat) (d : Bytes) (s : State) : (bankWrite n off d s).test.log2 = s.test.log2 := by
  unfold bankWrite setBank; dsimp only; split <;> rfl

theorem Tbl.find_filter_keys {α : Type} (p : Nat → Bool) (k : Nat) (t : Tbl α) :
    Tbl.find (t.filter fun e => p e.1) k = if p k then Tbl.find t k else none := by
  induction t with
  | nil => simp [Tbl.find]
  | cons e t ih =>
    obtain ⟨j, x⟩ := e
    by_cases hj : p j = true
    · by_cases hk : j = k
      · subst hk; simp [Tbl.find, hj]
      · simp [Tbl.find, hj, hk, ih]
    · have hne : p k = true → j ≠ k := fun h e => hj (e ▸ h)
      by_cases hk : p k = true
      · simp [Tbl.find, hj, hne hk, ih, hk]
      · simp [hj, ih, hk]

theorem mem_bitsOf {n v i : Nat} : i ∈ bitsOf n v ↔ i < n ∧ v.testBit i = true := by
  simp [bitsOf]

theorem mayWrite_of_primary {init : Nat} (h : init = 0 ∨ init = 4) : mayWrite init = true := by
  rcases h with rfl | rfl <;> rfl

theorem mayWrite_of_other {init : Nat} (h1 : 1 ≤ init) (h3 : init ≤ 3) : mayWrite init = false := by
  have h0 : init ≠ 0 := by omega
  have h4 : init ≠ 4 := by omega
  simp [mayWrite, h0, h4]

theorem mayOwn_of {init n v : Nat} {s : State} (hbusy : (bankOf n s).busy = false) (hret : (bankOf n s).retired = false)
    (h : init = 4 ∨ (init < 3 ∧ (bankOf n s).owner = init + 1 ∧ v % 8 < 4)) : mayOwn init n v s = true := by
  simp [mayOwn, hbusy, hret, h, and_assoc]

theorem mayOwn_of_not_owner {init n v : Nat} {s : State} (h4 : init ≠ 4) (h : (bankOf n s).owner ≠ init + 1) :
    mayOwn init n v s = false := by
  simp [mayOwn, h4, h]

/-- What the trace writer does with the record `r` it has taken from its FIFO (R535). -/
def traceTake (r : TraceRec) (u : State) : Res :=
  match u.test.traceBank with
  | some n =>
    if unread u < traceLimit r.sev (ringEntries u) then
      let v := bankWrite n (32 * u.test.wr) (recordBytes r) u
      .next (count 255 300 { v with test := { v.test with wr := (v.test.wr + 1) % ringEntries v } })
    else .next (traceDrop r.sev u)
  | none => .next (traceDrop r.sev u)

theorem traceTake_stores {n : Nat} {r : TraceRec} {u : State} (hbank : u.test.traceBank = some n)
    (hroom : unread u < traceLimit r.sev (ringEntries u)) :
    let v := bankWrite n (32 * u.test.wr) (recordBytes r) u
    traceTake r u = .next (count 255 300 { v with test := { v.test with wr := (v.test.wr + 1) % ringEntries v } }) := by
  rw [traceTake, hbank]
  exact if_pos hroom

theorem traceTake_drops {n : Nat} {r : TraceRec} {u : State} (hbank : u.test.traceBank = some n)
    (hfull : ¬unread u < traceLimit r.sev (ringEntries u)) : traceTake r u = .next (traceDrop r.sev u) := by
  rw [traceTake, hbank]
  exact if_neg hfull

end Sys2Proof.Machine

namespace Sys2Proof

open Machine

section
variable {s : State}

theorem moleVisit_gives (ce ue : Nat) (again : Bool) (hen : s.test.moleEn = true) (hcore : coreRuns s = true) :
    let b := (moleAt s).1
    let off := 256 * (moleAt s).2
    let u := count 255 293 (applyRow (regionItem b off).1 (regionItem b off).2 s)
    let v := molePoison b off (bitsOf 32 ue) (moleCorrected b off ce u)
    Gives (.moleVisit ce ue false again) s (moleNext b (moleAt s).2 v) ∧
    Gives (.moleVisit ce ue true again) s (moleNext b (moleAt s).2 (moleFault b off again v)) := by
  intro b off u v
  have hgo : ¬((!s.test.moleEn) = true ∨ (!coreRuns s) = true) := by simp [hen, hcore]
  exact ⟨if_neg hgo, if_neg hgo⟩

theorem moleVisit_disabled (ce ue : Nat) (fault again : Bool) (hen : s.test.moleEn = false) :
    Gives (.moleVisit ce ue fault again) s s :=
  if_pos (Or.inl (by rw [hen]; rfl))

theorem scrOwnWrite_gives {init n v : Nat} (hbusy : (bankOf n s).busy = false) (hret : (bankOf n s).retired = false)
    (h : init = 4 ∨ (init < 3 ∧ (bankOf n s).owner = init + 1 ∧ v % 8 < 4)) :
    (v % 8 ≠ 0 → v.testBit 4 = false → Gives (.scrOwnWrite init n v) s (setBank n { bankOf n s with owner := v % 8 } s)) ∧
    (v % 8 = 0 ∨ v.testBit 4 = true → Gives (.scrOwnWrite init n v) s
      (setBank n { bankOf n s with owner := v % 8, busy := true, zeroFor := some (v % 8) } s)) := by
  have hown : exec (.scrOwnWrite init n v) s = .next (scrOwn n v s) := if_pos (mayOwn_of hbusy hret h)
  refine ⟨fun hne hzero => ?_, fun hzero => ?_⟩
  · have hnot : ¬(v % 8 = 0 ∨ v.testBit 4 = true) := by simp [hne, hzero]
    exact hown.trans (congrArg _ (if_neg hnot))
  · exact hown.trans (congrArg _ (if_pos hzero))

theorem traceWriterDrain_takes {r : TraceRec} {rest : List TraceRec} (hcore : coreRuns s = true)
    (hfifo : s.test.fifo = r :: rest) :
    exec .traceWriterDrain s = traceTake r { s with test := { s.test with fifo := rest } } := by
  have hexec : exec .traceWriterDrain s = execTraceWriterDrain s := rfl
  rw [hexec, execTraceWriterDrain, hcore, hfifo]
  rfl

theorem traceWriterDrain_gives {n : Nat} {r : TraceRec} {rest : List TraceRec} (hcore : coreRuns s = true)
    (hfifo : s.test.fifo = r :: rest) (hbank : s.test.traceBank = some n) :
    let u : State := { s with test := { s.test with fifo := rest } }
    (unread s < traceLimit r.sev (2 ^ s.test.log2) →
      let v := bankWrite n (32 * s.test.wr) (recordBytes r) u
      Gives .traceWriterDrain s (count 255 300 { v with test := { v.test with wr := (s.test.wr + 1) % 2 ^ s.test.log2 } })) ∧
    (traceLimit r.sev (2 ^ s.test.log2) ≤ unread s → Gives .traceWriterDrain s (traceDrop r.sev u)) := by
  intro u
  have hbanku : u.test.traceBank = some n := hbank
  refine ⟨fun hroom => ?_, fun hfull => ?_⟩
  · intro v
    have hwr : v.test.wr = s.test.wr := bankWrite_wr n _ _ u
    have hlog : v.test.log2 = s.test.log2 := bankWrite_log2 n _ _ u
    refine (traceWriterDrain_takes hcore hfifo).trans ((traceTake_stores hbanku hroom).trans ?_)
    change Host.Outcome.next (count 255 300 { v with test := { v.test with wr := (v.test.wr + 1) % 2 ^ v.test.log2 } }) = _
    rw [hwr, hlog]
  · exact (traceWriterDrain_takes hcore hfifo).trans (traceTake_drops hbanku (Nat.not_lt.mpr hfull))

theorem traceRdWrite_gives {init v : Nat} (hinit : init = 0 ∨ init = 4) :
    (v % 16384 < 2 ^ s.test.log2 → (v % 16384 + 2 ^ s.test.log2 - s.test.rd) % 2 ^ s.test.log2 ≤ unread s →
      Gives (.traceRdWrite init v) s { s with test := { s.test with rd := v % 16384 } }) ∧
    (2 ^ s.test.log2 ≤ v % 16384 ∨ unread s < (v % 16384 + 2 ^ s.test.log2 - s.test.rd) % 2 ^ s.test.log2 →
      Gives (.traceRdWrite init v) s { s with test := { s.test with rd := s.test.wr } }) := by
  have hwrite : exec (.traceRdWrite init v) s = .next (traceRd v s) := if_pos (mayWrite_of_primary hinit)
  refine ⟨fun hin hpass => hwrite.trans ?_, fun hbad => hwrite.trans ?_⟩
  · simp [traceRd, ringEntries, hin, hpass]
  · rcases hbad with hout | hpass
    · simp [traceRd, ringEntries, Nat.not_lt.mpr hout]
    · simp [traceRd, ringEntries, Nat.not_le.mpr hpass]

theorem alarmClear_kinds {v k : Nat} (hk : k < 18) :
    Tbl.find (alarmClear v s).alarms.kinds k = if v.testBit k = true then none else Tbl.find s.alarms.kinds k := by
  have hfind : Tbl.find (alarmClear v s).alarms.kinds k = _ :=
    Tbl.find_filter_keys (fun j => !(bitsOf 18 v).contains j) k s.alarms.kinds
  rw [hfind]
  by_cases hbit : v.testBit k = true <;> simp [mem_bitsOf, hk, hbit]

theorem alarmClear_ends {init v : Nat} (hinit : init = 0 ∨ init = 4) : Ends (.alarmClear init v) s (fun t =>
    t.alarms.status = s.alarms.status &&& ~~~ BitVec.ofNat 18 v ∧ t.alarms.soft = s.alarms.soft ∧ t.out = s.out ∧
    ∀ k, k < 18 → Tbl.find t.alarms.kinds k = if v.testBit k = true then none else Tbl.find s.alarms.kinds k) :=
  ⟨alarmClear v s, if_pos (mayWrite_of_primary hinit), rfl, rfl, rfl, fun _ => alarmClear_kinds⟩

theorem traceRdWrite_denied {init : Nat} (v : Nat) (h1 : 1 ≤ init) (h3 : init ≤ 3) :
    Gives (.traceRdWrite init v) s (denied 0x20108 init false s) :=
  if_neg (by rw [mayWrite_of_other h1 h3]; exact Bool.false_ne_true)

theorem alarmClear_denied {init : Nat} (v : Nat) (h1 : 1 ≤ init) (h3 : init ≤ 3) :
    Gives (.alarmClear init v) s (denied 0x300 init false s) :=
  if_neg (by rw [mayWrite_of_other h1 h3]; exact Bool.false_ne_true)

theorem scratchZeroComplete_gives {n o : Nat} (h : (bankOf n s).zeroFor = some o) : Gives (.scratchZeroComplete n) s
    (traceHome (setBank n { bankOf n s with owner := o, busy := false, zeroFor := none, mem := [], poison := [] } s)) := by
  have hexec : exec (.scratchZeroComplete n) s = execScratchZeroComplete n s := rfl
  rw [Gives, hexec]
  simp only [execScratchZeroComplete, h]

end

/-- Settles O56: each event is its definition under the premises that choose its branch; the alarm kinds are a filter of
the table by its keys. -/
theorem moleScratchTraceAndAlarmsRun : Obligations.MoleScratchTraceAndAlarmsRun := by
  unfold Obligations.MoleScratchTraceAndAlarmsRun
  refine ⟨fun ce ue again _ => moleVisit_gives ce ue again, fun ce ue fault again _ => moleVisit_disabled ce ue fault again,
    fun _ _ _ _ => scrOwnWrite_gives, fun init n v s h4 howner => ?_, fun _ _ _ => scratchZeroComplete_gives,
    fun _ _ _ _ => traceWriterDrain_gives, fun _ _ _ => traceRdWrite_gives,
    fun _ _ _ hinit _ => alarmClear_ends hinit,
    fun _ v _ h1 h3 => ⟨traceRdWrite_denied v h1 h3, alarmClear_denied v h1 h3⟩⟩
  exact if_neg (by rw [mayOwn_of_not_owner h4 howner]; exact Bool.false_ne_true)

end Sys2Proof

end

section

/-!
PROOF. The commands of field test, repair, scratch, the Mole and the log (groups 0x0E and 0x0F): what each answers.
-/

namespace Sys2Proof.Machine

open Sys2Proof

@[simp] theorem capacityCheck_sets (s : State) : (capacityCheck s).sets = s.sets := by
  unfold capacityCheck
  dsimp only
  repeat' split
  all_goals simp

@[simp] theorem setUnit_sets (isWalker : Bool) (n : Nat) (u : ParseUnit) (s : State) :
    (setUnit isWalker n u s).sets = s.sets := by
  unfold setUnit
  repeat' split
  all_goals simp

@[simp] theorem rerunFrame_sets (fid : Nat) (s : State) : (rerunFrame fid s).sets = s.sets := by
  simp [rerunFrame]

@[simp] theorem evictUnit_sets (isWalker : Bool) (n : Nat) (s : State) : (evictUnit isWalker n s).sets = s.sets := by
  unfold evictUnit
  dsimp only
  repeat' split
  all_goals simp

@[simp] theorem retireUnit_sets (isWalker : Bool) (n : Nat) (s : State) : (retireUnit isWalker n s).sets = s.sets := by
  simp [retireUnit]

@[simp] theorem relocateTrace_sets (s : State) : (relocateTrace s).sets = s.sets := by
  unfold relocateTrace
  repeat' split
  all_goals simp

@[simp] theorem retireBank_sets (n : Nat) (s : State) : (retireBank n s).sets = s.sets := by
  unfold retireBank
  dsimp only
  repeat' split
  all_goals simp

@[simp] theorem zeroBank_sets (n owner : Nat) (s : State) : (zeroBank n owner s).sets = s.sets := by
  simp [zeroBank]

@[simp] theorem retirePress_sets (c : Nat) (s : State) : (retirePress c s).sets = s.sets := by
  unfold retirePress
  repeat' split
  all_goals simp

@[simp] theorem retireLane_sets (l : Nat) (s : State) : (retireLane l s).sets = s.sets := by
  unfold retireLane
  repeat' split
  all_goals simp [forEach_sets]

@[simp] theorem traceHome_sets (s : State) : (traceHome s).sets = s.sets := by
  unfold traceHome
  repeat' split
  all_goals simp

@[simp] theorem scrOwn_sets (n v : Nat) (s : State) : (scrOwn n v s).sets = s.sets := by
  unfold scrOwn
  dsimp only
  repeat' split
  all_goals simp

@[simp] theorem testPassed_sets (t : FieldTest) (s : State) : (testPassed t s).sets = s.sets := by
  unfold testPassed
  repeat' split
  all_goals simp [forEach_sets, apply_ite State.sets]

@[simp] theorem testFailed_sets (t : FieldTest) (s : State) : (testFailed t s).sets = s.sets := by
  unfold testFailed
  repeat' split
  all_goals simp [forEach_sets]

theorem forall_u8_lt_four_testBit : ∀ k < 4, (k + 16).testBit 4 = true := by decide

theorem scrOwn_zeroed {k : Nat} (n : Nat) (hk : k < 4) (s : State) : scrOwn n (k + 16) s = zeroBank n k s := by
  have howner : (k + 16) % 8 = k := by omega
  unfold scrOwn
  simp only [howner]
  exact if_pos (Or.inr (forall_u8_lt_four_testBit k hk))

/-- Reads of a bank that leave the state leave it along a whole fold, and their bytes come in order. -/
theorem foldl_bankRead_sound {b : Nat} {s : State} (at_ : Nat → Nat) (hret : (bankOf b s).retired = false)
    (hpoison : (bankOf b s).poison = []) (l : List Nat) (d : Bytes) :
    l.foldl (fun (acc : Bytes × State) i =>
      let (x, _, s) := bankRead b (at_ i) 32 acc.2
      (acc.1 ++ x, s)) (d, s) = (d ++ l.flatMap (fun i => Memory.readN (bankOf b s).mem (at_ i) 32), s) := by
  have hnone (off : Nat) : poisonIn (bankOf b s).poison off 32 = [] := by rw [hpoison]; rfl
  induction l generalizing d with
  | nil => simp
  | cons i l ih => simp [bankRead_sound hret (hnone _), ih]

end Sys2Proof.Machine

namespace Sys2Proof

open Machine

section
variable {mb : Nat} {p : Bytes} {s : State}

theorem selftestRun_answers {detail : Nat} (hmb : mb = 0 ∨ mb = 2) (hlen : p.length = 4)
    (hunit : testUnit (u8 p 0) (u8 p 1) = true) :
    (s.test.field = none → testRefused (u8 p 0) (u8 p 1) s = stOk → ∀ pass,
      Begins (.cmdSelftestRun mb pass detail) mb 0x0E00 p s
        (membersChanged s (count 255 288 (isolate (u8 p 0) (u8 p 1) mb s)))) ∧
    (∀ t, s.test.field = some t → t.mb = mb →
      let u : State := { s with test := { s.test with field := none } }
      (ServesPorts (.cmdSelftestRun mb true detail) mb 0x0E00 p (b1 0 ++ b1 (testAction t true) ++ zeros 2 ++ b4 detail) s
        (raise 104 0 (testPassed t u))) ∧
      (ServesPorts (.cmdSelftestRun mb false detail) mb 0x0E00 p
        (b1 1 ++ b1 (testAction t false) ++ zeros 2 ++ b4 detail) s (testFailed t u))) := by
  have hmay (pass : Bool) (tag t : Nat) : (cmdSelftestRun pass detail).may ⟨mb, 0x0E00, tag, t, p⟩ = true := by
    rcases hmb with rfl | rfl <;> rfl
  have hidx (pass : Bool) (tag t : Nat) : (cmdSelftestRun pass detail).idx ⟨mb, 0x0E00, tag, t, p⟩ s = stOk := by
    simp [cmdSelftestRun, need, hunit]
  refine ⟨fun hfield hst pass target hserved => ?_, fun t hfield ht => ?_⟩
  · refine congrArg (fun u => Host.Outcome.next (membersChanged s u)) (runCmd_neither_busy (c := cmdSelftestRun pass detail)
      rfl hserved (fun _ => hmay _ _ _) (beq_iff_eq.mpr hlen) (fun _ => hidx _ _ _) fun _ => ?_)
    simp [cmdSelftestRun, hfield, hst]
  · intro u
    constructor
    · refine servesPorts_neither (cmdSelftestRun true detail) rfl (hmay true) (beq_iff_eq.mpr hlen) (hidx true)
        (fun _ _ => ?_) (by simp [u]) rfl
      simp [cmdSelftestRun, hfield, ht, u, b2n]
    · refine servesPorts_neither (cmdSelftestRun false detail) rfl (hmay false) (beq_iff_eq.mpr hlen) (hidx false)
        (fun _ _ => ?_) (by simp [u]) rfl
      simp [cmdSelftestRun, hfield, ht, u, b2n]

theorem repairBurn_answers {x : Repair} (hlen : p.length = 4) (hsoft : s.alarms.soft[u16 p 0]? = some x)
    (hcand : x.candidate = false) (hroom : s.otp.fusesUsed < 16) (hlife : s.otp.life ≠ 3) :
    let u := emit (.fuse 4 (leN (repairBytes x) 0 8)) { s with otp := { s.otp with fusesUsed := s.otp.fusesUsed + 1 } }
    Serves (.cmdRepairBurn 0 true) 0 0x0E03 p (b1 s.otp.fusesUsed ++ b1 (15 - s.otp.fusesUsed)) s
      (raise 105 3 (count 255 292 { u with otp := { u.otp with fuses := s.otp.fuses ++ [{ x with origin := 2 }] }, alarms := { u.alarms with soft := s.alarms.soft.eraseIdx (u16 p 0) } })) ∧
    ∀ t, Served 0 0x0E03 t p s → exec (.cmdRepairBurn 0 false) s = .next
      (mbDone 0 stConflict s.sets.gen (b1 s.otp.fusesUsed ++ b1 (15 - s.otp.fusesUsed)) (raise 105 4 u)) := by
  intro u
  have hused : ¬16 ≤ s.otp.fusesUsed := by omega
  constructor
  · refine serves_neither (cmdRepairBurn true) rfl (fun _ _ => rfl) (beq_iff_eq.mpr hlen) (fun _ _ => rfl)
      (fun _ _ => ?_) (by simp [u]) rfl
    simp [cmdRepairBurn, hsoft, hcand, hused, hlife, u]
  · intro t hserved
    have hrun : runCmd (cmdRepairBurn false) 0 s = mbDone 0 stConflict (raise 105 4 u).sets.gen
        (b1 s.otp.fusesUsed ++ b1 (15 - s.otp.fusesUsed)) (raise 105 4 u) := by
      refine runCmd_neither rfl hserved (fun _ => rfl) (beq_iff_eq.mpr hlen) (fun _ => rfl) fun _ => ?_
      simp [cmdRepairBurn, hsoft, hcand, hused, hlife, u]
    have hgen : (raise 105 4 u).sets.gen = s.sets.gen := by simp [u]
    rw [← hgen]
    exact congrArg Host.Outcome.next hrun

theorem scratchOwn_answers (hmb : mb < 3) (hlen : p.length = 4) (hn : u8 p 0 < 16)
    (hbusy : (bankOf (u8 p 0) s).busy = false) (hret : (bankOf (u8 p 0) s).retired = false) :
    let n := u8 p 0
    let b := bankOf n s
    let rsp (t : State) : Bytes := p ++ b1 (bankOf n t).owner
    (u8 p 1 = 0 → b.owner = 0 → bit p 3 0 = false →
      Serves (.cmdScratchOwn mb) mb 0x0E04 p (rsp (scrOwn n (mb + 1) s)) s (scrOwn n (mb + 1) s)) ∧
    (u8 p 1 = 0 → b.owner ≠ 0 → Declines (.cmdScratchOwn mb) mb 0x0E04 p stState s) ∧
    (u8 p 1 = 1 → b.owner = mb + 1 → Serves (.cmdScratchOwn mb) mb 0x0E04 p (rsp (scrOwn n 0 s)) s (scrOwn n 0 s)) ∧
    (u8 p 1 = 2 → 1 ≤ u8 p 2 → u8 p 2 < 4 → b.owner = mb + 1 → bit p 3 0 = true →
      Serves (.cmdScratchOwn mb) mb 0x0E04 p (rsp (zeroBank n (u8 p 2) s)) s (zeroBank n (u8 p 2) s)) := by
  intro n b rsp
  have hmay (tag t : Nat) : cmdScratchOwn.may ⟨mb, 0x0E04, tag, t, p⟩ = true := by
    simp [cmdScratchOwn, mbs]
    omega
  have hidx (h : u8 p 1 < 2 ∨ u8 p 1 = 2 ∧ 1 ≤ u8 p 2 ∧ u8 p 2 < 4) (tag t : Nat) :
      cmdScratchOwn.idx ⟨mb, 0x0E04, tag, t, p⟩ s = stOk := by
    have hop : u8 p 1 < 3 := by omega
    have hto : ¬u8 p 1 = 2 ∨ 1 ≤ u8 p 2 ∧ u8 p 2 < 4 := by omega
    simp [cmdScratchOwn, need, hn, hop, hto]
  refine ⟨fun hop howner hz => ?_, fun hop howner => ?_, fun hop howner => ?_, fun hop h1 h4 howner hz => ?_⟩
  · refine serves_neither cmdScratchOwn rfl hmay (beq_iff_eq.mpr hlen) (hidx (by omega)) (fun _ _ => ?_) (by simp) rfl
    simp [cmdScratchOwn, hbusy, hret, hop, howner, hz, rsp, n, b, mbOwner]
  · refine declines_neither cmdScratchOwn rfl hmay (beq_iff_eq.mpr hlen) (hidx (by omega)) rfl (fun _ _ => ?_)
    simp [cmdScratchOwn, hbusy, hret, hop, howner, n, b]
  · refine serves_neither cmdScratchOwn rfl hmay (beq_iff_eq.mpr hlen) (hidx (by omega)) (fun _ _ => ?_) (by simp) rfl
    simp [cmdScratchOwn, hbusy, hret, hop, howner, rsp, n, b, mbOwner]
  · refine serves_neither cmdScratchOwn rfl hmay (beq_iff_eq.mpr hlen) (hidx (by omega)) (fun _ _ => ?_) (by simp) rfl
    simp [cmdScratchOwn, hbusy, hret, hop, howner, hz, rsp, n, b, mbOwner, scrOwn_zeroed _ h4]

theorem moleConfig_answers (hlen : p.length = 8) :
    let rsp (op : Nat) (t : State) : Bytes := b1 op ++ b1 (b2n t.test.moleEn) ++ b2 t.test.moleMask.toNat ++ b4 t.test.moleUs ++
      b4 t.test.molePasses ++ b4 t.test.moleMs ++ b1 t.test.moleBank ++ zeros 1 ++ b2 t.test.moleRegion
    (u8 p 0 = 0 → ∀ mb < 5, Serves (.cmdMoleConfig mb) mb 0x0E06 p (rsp 0 s) s s) ∧
    (u8 p 0 = 1 →
      let u : State := { s with test := { s.test with moleEn := bit p 1 0, moleMask := BitVec.ofNat 16 (u16 p 2), moleUs := clamp 10 10000 (u32 p 4) } }
      Serves (.cmdMoleConfig 0) 0 0x0E06 p (rsp 1 u) s u) := by
  intro rsp
  have hidx (k : Nat) (hop : u8 p 0 ≤ 1) (tag t : Nat) : cmdMoleConfig.idx ⟨k, 0x0E06, tag, t, p⟩ s = stOk := by
    have hlt : u8 p 0 < 2 := Nat.lt_succ_of_le hop
    simp only [cmdMoleConfig, need, hlt, decide_true, if_true]
  refine ⟨fun hop mb hmb => ?_, fun hop => ?_⟩
  · refine serves_neither cmdMoleConfig rfl (fun _ _ => readAny_op0 hop) (beq_iff_eq.mpr hlen) (hidx mb (by omega))
      (fun _ _ => ?_) rfl rfl
    simp [cmdMoleConfig, hop, rsp]
  · intro u
    refine serves_neither cmdMoleConfig rfl (fun _ _ => ?_) (beq_iff_eq.mpr hlen) (hidx 0 (by omega))
      (fun _ _ => ?_) rfl rfl
    · simp [cmdMoleConfig, readAny, readOps]
    · simp [cmdMoleConfig, hop, rsp, u]

theorem logConfig_idx (k : Nat) (hop : u8 p 0 = 0 ∨ u8 p 0 = 1 ∧ u8 p 1 < 16) (tag t : Nat) :
    cmdLogConfig.idx ⟨k, 0x0F03, tag, t, p⟩ s = stOk := by
  have hfits : (decide (u8 p 0 < 2) && (u8 p 0 == 0 || decide (u8 p 1 < 16))) = true := by
    rcases hop with hop | ⟨hop, hbank⟩
    · rw [hop]; rfl
    · rw [hop, decide_eq_true hbank]; rfl
  exact if_pos hfits

theorem logConfig_may (tag t : Nat) : cmdLogConfig.may ⟨0, 0x0F03, tag, t, p⟩ = true := by
  simp [cmdLogConfig, readAny, readOps]

theorem logConfig_answers (hlen : p.length = 4) :
    (u8 p 0 = 0 → ∀ mb < 5, Serves (.cmdLogConfig mb) mb 0x0F03 p
      (b1 0 ++ b1 (s.test.traceBank.getD 15) ++ b1 s.test.log2 ++ zeros 1) s s) ∧
    (u8 p 0 = 1 → u8 p 1 < 16 → s.test.traceBank = some (u8 p 1) →
      let u := setBank (u8 p 1) { bankOf (u8 p 1) s with owner := 6 } s
      Serves (.cmdLogConfig 0) 0 0x0F03 p (b1 1 ++ b1 (u8 p 1) ++ b1 (clamp 10 14 (u8 p 2)) ++ zeros 1) s
        { u with test := { u.test with traceBank := some (u8 p 1), log2 := clamp 10 14 (u8 p 2), wr := 0, rd := 0 } }) ∧
    (u8 p 0 = 1 → u8 p 1 < 16 → ∀ old, s.test.traceBank = some old → old ≠ u8 p 1 → (bankOf (u8 p 1) s).owner = 0 →
      (bankOf (u8 p 1) s).busy = false → (bankOf (u8 p 1) s).retired = false →
      let v := zeroBank old 0 s
      let u := setBank (u8 p 1) { bankOf (u8 p 1) v with owner := 6 } v
      Serves (.cmdLogConfig 0) 0 0x0F03 p (b1 1 ++ b1 (u8 p 1) ++ b1 (clamp 10 14 (u8 p 2)) ++ zeros 1) s
        { u with test := { u.test with traceBank := some (u8 p 1), log2 := clamp 10 14 (u8 p 2), wr := 0, rd := 0 } }) := by
  refine ⟨fun hop mb _ => ?_, fun hop hn hbank => ?_, fun hop hn old hbank hne howner hbusy hret => ?_⟩
  · refine serves_neither cmdLogConfig rfl (fun _ _ => readAny_op0 hop) (beq_iff_eq.mpr hlen)
      (logConfig_idx mb (.inl hop)) (fun _ _ => ?_) rfl rfl
    simp [cmdLogConfig, hop]
  · intro u
    refine serves_neither cmdLogConfig rfl logConfig_may (beq_iff_eq.mpr hlen) (logConfig_idx 0 (.inr ⟨hop, hn⟩))
      (fun _ _ => ?_) rfl rfl
    simp [cmdLogConfig, hop, hbank, u]
  · intro v u
    refine serves_neither cmdLogConfig rfl logConfig_may (beq_iff_eq.mpr hlen) (logConfig_idx 0 (.inr ⟨hop, hn⟩))
      (fun _ _ => ?_) rfl rfl
    simp [cmdLogConfig, hop, hbank, hne, howner, hbusy, hret, u, v]

theorem logRead_answers {b : Nat} (hlen : p.length = 4) (hbank : s.test.traceBank = some b)
    (hret : (bankOf b s).retired = false) (hpoison : (bankOf b s).poison = []) :
    let n := min (clamp 1 127 (u16 p 2)) (unread s)
    let data (u : Nat) : Bytes := b2 n ++ zeros 2 ++ b4 u ++
      (List.range n).flatMap (fun i => Memory.readN (bankOf b s).mem (32 * ((s.test.rd + i) % 2 ^ s.test.log2)) 32)
    (bit p 0 0 = false → Serves (.cmdLogRead mb) mb 0x0F04 p (data (unread s)) s s) ∧
    (bit p 0 0 = true → mb ≠ 1 → mb ≠ 3 →
      let u : State := { s with test := { s.test with rd := (s.test.rd + n) % 2 ^ s.test.log2 } }
      Serves (.cmdLogRead mb) mb 0x0F04 p (data (unread u)) s u) := by
  intro n data
  have hread := foldl_bankRead_sound (b := b) (s := s) (fun i => 32 * ((s.test.rd + i) % 2 ^ s.test.log2)) hret hpoison
    (List.range n) []
  refine ⟨fun hkeep => ?_, fun htake h1 h3 => ?_⟩
  · refine serves_neither cmdLogRead rfl (fun _ _ => ?_) (beq_iff_eq.mpr hlen) (fun _ _ => rfl) (fun _ _ => ?_) rfl rfl
    · simp [cmdLogRead, hkeep]
    · simp only [cmdLogRead, hbank, ringEntries, hkeep]
      rw [hread]
      simp [data, n]
  · intro u
    refine serves_neither cmdLogRead rfl (fun _ _ => ?_) (beq_iff_eq.mpr hlen) (fun _ _ => rfl) (fun _ _ => ?_) rfl rfl
    · simp [cmdLogRead, h1, h3]
    · simp only [cmdLogRead, hbank, ringEntries, htake]
      rw [hread]
      simp [data, u, n, Nat.min_le_right]

end

/-- Settles O57: each command of field test, repair, scratch, the Mole and the log, by what its body answers. -/
theorem testAndLogCommandsAnswer : Obligations.TestAndLogCommandsAnswer := by
  unfold Obligations.TestAndLogCommandsAnswer
  refine ⟨fun mb detail pass p s hmb hlen hunit => ?_, fun mb s => ?_, fun mb s => ?_,
    fun _ _ _ => repairBurn_answers, fun _ _ _ hmb hlen hn => scratchOwn_answers hmb hlen hn, fun mb s => ?_,
    fun _ _ => moleConfig_answers, fun _ _ => logConfig_answers, fun _ _ _ _ _ => logRead_answers⟩
  · obtain ⟨hbegins, hends⟩ := selftestRun_answers (detail := detail) (s := s) hmb hlen hunit
    refine ⟨fun hfield hst => hbegins hfield hst pass, fun t hfield ht => ?_⟩
    obtain ⟨hpass, hfail⟩ := hends t hfield ht
    exact ⟨fun _ => hpass, fun _ => hfail⟩
  · exact serves_neither cmdBistResult rfl (fun _ _ => rfl) rfl (fun _ _ => rfl) (fun _ _ => rfl) rfl rfl
  · exact serves_neither cmdRepairList rfl (fun _ _ => rfl) rfl (fun _ _ => rfl) (fun _ _ => rfl) rfl rfl
  · exact serves_neither cmdScratchStatus rfl (fun _ _ => rfl) rfl (fun _ _ => rfl) (fun _ _ => rfl) rfl rfl

end Sys2Proof

end

section

/-!
PROOF. The parser commands (group 0x05): images, ports, the trial parse and the parse units.
-/

namespace Sys2Proof

open Machine

section
variable {mb : Nat} {p : Bytes} {s : State}

theorem parseLoad_answers (hlen : p.length = 12) (hrange : ownRange 0 (u8 p 0) (u32 p 4) (u32 p 8) s = true)
    (hpoison : (bankOf (u8 p 0) s).poison = []) (hret : (bankOf (u8 p 0) s).retired = false) :
    let image := Memory.readN (bankOf (u8 p 0) s).mem (u32 p 4) (u32 p 8)
    (imageFault image = none → SetsShadow (.cmdParseLoad 0) 0x0500 p (b4 0) (loadImage image) s) ∧
    (∀ e, imageFault image = some e → ShadowFree 0 s → Served 0 0x0500 1 p s →
      exec (.cmdParseLoad 0) s = .next (mbDone 0 stConflict (shadowGen s) (b4 e) s)) := by
  intro image
  have hread : bankRead (u8 p 0) (u32 p 4) (u32 p 8) s = (image, false, s) :=
    bankRead_sound hret (by rw [hpoison]; rfl)
  have hidx (tag : Nat) : cmdParseLoad.idx ⟨0, 0x0500, tag, 1, p⟩ s = stOk := by
    simp [cmdParseLoad, need, hrange]
  refine ⟨fun hok => ?_, fun e hbad hfree hserved => ?_⟩
  · refine setsShadow_shadow rfl (beq_iff_eq.mpr hlen) rfl (fun _ => rfl) hidx fun _ => ?_
    simp [cmdParseLoad, hread, hok]
  · refine congrArg Host.Outcome.next (runCmd_shadow (c := cmdParseLoad) (.inl rfl) hfree hserved (fun _ => rfl)
      (beq_iff_eq.mpr hlen) hidx fun _ => ?_)
    simp [cmdParseLoad, hread, hbad]

theorem parsePort_answers (hlen : p.length = 40) (hport : isIngress (u8 p 0) = true) :
    let b := parsePortApply p
    ReadsActive .cmdParsePort 0x0501 p (parsePortOf (activeSet s) (u8 p 0)) s ∧
    SetsShadow (.cmdParsePort 0) 0x0501 p b
      (fun c => { c with parsePort := Tbl.set c.parsePort (u8 p 0) b (parsePort0 (u8 p 0)) }) s := by
  intro b
  have hidx (k tag t : Nat) : cmdParsePort.idx ⟨k, 0x0501, tag, t, p⟩ s = stOk := by simp [cmdParsePort, need, hport]
  exact ⟨readsActive_either cmdParsePort rfl (beq_iff_eq.mpr hlen) (fun _ => rfl) (fun _ h _ => mbs_any h)
      (fun _ _ => hidx _ _ _) (fun _ _ => rfl),
    setsShadow_either cmdParsePort rfl (beq_iff_eq.mpr hlen) rfl (fun _ => rfl) (fun _ => hidx _ _ _) (fun _ => rfl)⟩

theorem parseDevice_answers (hlen : p.length = 4) :
    ReadsActive .cmdParseDevice 0x0502 p (b1 (activeSet s).malRing ++ zeros 3) s ∧
    (u8 p 0 < 32 → SetsShadow (.cmdParseDevice 0) 0x0502 p (b1 (u8 p 0) ++ zeros 3) (fun c => { c with malRing := u8 p 0 }) s) := by
  refine ⟨readsActive_either cmdParseDevice rfl (beq_iff_eq.mpr hlen) (fun _ => rfl) (fun _ h _ => mbs_any h)
    (fun _ _ => rfl) (fun _ _ => rfl), fun hring => ?_⟩
  refine setsShadow_either cmdParseDevice rfl (beq_iff_eq.mpr hlen) rfl (fun _ => rfl) (fun _ => ?_) (fun _ => rfl)
  simp [cmdParseDevice, need, hring]

theorem parseTry_answers (hmb : mb = 0 ∨ mb = 1 ∨ mb = 4) (hlen : p.length = 16 + u16 p 2) (hmin : 14 ≤ u16 p 2)
    (hmax : u16 p 2 ≤ 3552) (hport : isIngress (u8 p 0) = true) (hserved : Served mb 0x0503 0 p s) :
    let f : Frame := { bytes := slice p 16 (u16 p 2), port := u8 p 0, edge := tryEdge (u8 p 0) (u8 p 1) s, macsec := bit p 1 0 }
    Answers (.cmdParseTry mb) mb s.sets.gen (tryRsp (parseWhole (activeSet s) f (frameKind f s) (portMode (u8 p 0) s))) s s := by
  intro f
  refine answers_active cmdParseTry rfl (.inr rfl) hserved (fun _ => ?_) ?_ (fun _ => ?_) (fun _ => rfl)
  · rcases hmb with rfl | rfl | rfl <;> rfl
  · simp [cmdParseTry, hlen, hmin, hmax]
  · simp [cmdParseTry, need, hport]

theorem units_may {tag t : Nat} (hmb : mb = 0 ∨ mb = 2) (c : Nat) : mbs [0, 2] ⟨mb, c, tag, t, p⟩ = true := by
  rcases hmb with rfl | rfl <;> rfl

theorem pickerRetire_answers (hmb : mb = 0 ∨ mb = 2) (hlen : p.length = 4) (hunit : isUnit (u8 p 0) = true) :
    let w := decide (64 ≤ u8 p 0)
    let n := unitNo (u8 p 0)
    let x := unitOf w n s
    (x.state ≠ 1 → 2 ≤ unitsInService w s → Serves (.cmdPickerRetire mb) mb 0x0505 p (b1 (u8 p 0) ++ zeros 3) s (retireUnit w n s)) ∧
    (x.state = 1 → Declines (.cmdPickerRetire mb) mb 0x0505 p stRetired s) ∧
    (x.state = 0 → unitsInService w s = 1 → Declines (.cmdPickerRetire mb) mb 0x0505 p stState s) := by
  intro w n x
  have hmay (tag t : Nat) : cmdPickerRetire.may ⟨mb, 0x0505, tag, t, p⟩ = true := units_may hmb _
  have hidx (tag t : Nat) : cmdPickerRetire.idx ⟨mb, 0x0505, tag, t, p⟩ s = stOk := by simp [cmdPickerRetire, need, hunit]
  refine ⟨fun hin htwo => ?_, fun hout => ?_, fun hin hone => ?_⟩
  · refine serves_neither cmdPickerRetire rfl hmay (beq_iff_eq.mpr hlen) hidx (fun _ _ => ?_) (by simp) rfl
    have hmore : ¬(unitsInService w s ≤ 1 ∧ x.state = 0) := by omega
    exact (if_neg hin).trans (if_neg hmore)
  · exact declines_neither cmdPickerRetire rfl hmay (beq_iff_eq.mpr hlen) hidx rfl fun _ _ => if_pos hout
  · have hin' : x.state ≠ 1 := by omega
    exact declines_neither cmdPickerRetire rfl hmay (beq_iff_eq.mpr hlen) hidx rfl fun _ _ =>
      (if_neg hin').trans (if_pos ⟨Nat.le_of_eq hone, hin⟩)

theorem pickerReadmit_answers (hmb : mb = 0 ∨ mb = 2) (hlen : p.length = 4) (hunit : isUnit (u8 p 0) = true) :
    let w := decide (64 ≤ u8 p 0)
    let n := unitNo (u8 p 0)
    let x := unitOf w n s
    (x.state = 1 →
      Serves (.cmdPickerReadmit mb true) mb 0x0506 p (b1 (u8 p 0) ++ zeros 3) s
        (capacityCheck (setUnit w n { x with state := 0, lastFault := none } s)) ∧
      Declines (.cmdPickerReadmit mb false) mb 0x0506 p stRetired s) ∧
    (x.state ≠ 1 → ∀ pass, Declines (.cmdPickerReadmit mb pass) mb 0x0506 p stState s) := by
  intro w n x
  have hmay (pass : Bool) (tag t : Nat) : (cmdPickerReadmit pass).may ⟨mb, 0x0506, tag, t, p⟩ = true := units_may hmb _
  have hidx (pass : Bool) (tag t : Nat) : (cmdPickerReadmit pass).idx ⟨mb, 0x0506, tag, t, p⟩ s = stOk := by
    simp [cmdPickerReadmit, need, hunit]
  refine ⟨fun hout => ⟨?_, ?_⟩, fun hin pass => ?_⟩
  · exact serves_neither (cmdPickerReadmit true) rfl (hmay true) (beq_iff_eq.mpr hlen) (hidx true)
      (fun _ _ => if_neg (not_not_intro hout)) (by simp) rfl
  · exact declines_neither (cmdPickerReadmit false) rfl (hmay false) (beq_iff_eq.mpr hlen) (hidx false) rfl
      fun _ _ => if_neg (not_not_intro hout)
  · exact declines_neither (cmdPickerReadmit pass) rfl (hmay pass) (beq_iff_eq.mpr hlen) (hidx pass) rfl
      fun _ _ => if_pos hin

end

/-- Settles O58: each parser command, by what its body answers. -/
theorem parserCommandsAnswer : Obligations.ParserCommandsAnswer := by
  unfold Obligations.ParserCommandsAnswer
  refine ⟨fun _ _ => parseLoad_answers, fun _ _ => parsePort_answers, fun _ _ => parseDevice_answers,
    fun _ _ _ => parseTry_answers, fun mb s hmb => ?_, fun mb p s hmb hlen hunit => ?_⟩
  · exact serves_neither cmdPickerStatus rfl (fun _ _ => mbs_any hmb) rfl (fun _ _ => rfl) (fun _ _ => rfl) rfl rfl
  · obtain ⟨hretires, hretired, hlast⟩ := pickerRetire_answers (s := s) hmb hlen hunit
    obtain ⟨hreadmits, hin⟩ := pickerReadmit_answers (s := s) hmb hlen hunit
    exact ⟨hretires, hretired, hlast, hreadmits, hin⟩

end Sys2Proof

end

section

/-!
PROOF. The classification commands (group 0x06): each reads the active set, or writes its entry of the shadow.
-/

namespace Sys2Proof.Machine

open Sys2Proof

theorem withActive_gen (c : CfgSet) (s : State) : (withActive c s).sets.gen = s.sets.gen := by
  unfold withActive
  split <;> rfl

theorem withShadow_gen (c : CfgSet) (s : State) : (withShadow c s).sets.gen = s.sets.gen := by
  unfold withShadow
  split <;> rfl

theorem bothPools_gen (f : CfgSet → CfgSet) (s : State) : (bothPools f s).sets.gen = s.sets.gen := by
  unfold bothPools
  dsimp only
  split
  · rw [withShadow_gen, withActive_gen]
  · exact withActive_gen _ _

theorem clearEntries_gen (table : Nat) (l : List Nat) (s : State) :
    (forEach l (fun i s => clearEntry table i s) s).sets.gen = s.sets.gen :=
  congrArg _ (forEach_sets l (fun i s => clearEntry table i s) s fun _ _ => rfl)

end Sys2Proof.Machine

namespace Sys2Proof

open Machine

section
variable {p : Bytes} {s : State}

theorem clsProfile_answers (hlen : p.length = 132) (hn : u8 p 0 < 64) :
    let b := profileApply (slice p 4 128)
    ReadsActive .cmdClsProfile 0x0600 p (b1 (u8 p 0) ++ zeros 3 ++ profileOf (activeSet s) (u8 p 0)) s ∧
    (profileOk (slice p 4 128) = true → SetsShadow (.cmdClsProfile 0) 0x0600 p (b1 (u8 p 0) ++ zeros 3 ++ b)
      (fun c => { c with profiles := Tbl.set c.profiles (u8 p 0) b (zeros 128) }) s) := by
  intro b
  have hidx (k tag t : Nat) : cmdClsProfile.idx ⟨k, 0x0600, tag, t, p⟩ s = stOk := by simp [cmdClsProfile, need, hn]
  refine ⟨readsActive_either cmdClsProfile rfl (beq_iff_eq.mpr hlen) (fun _ => rfl) (fun _ h _ => mbs_any h)
    (fun _ _ => hidx _ _ _) (fun _ _ => rfl), fun hok => ?_⟩
  refine setsShadow_either cmdClsProfile rfl (beq_iff_eq.mpr hlen) rfl (fun _ => rfl) (fun _ => hidx _ _ _) (fun _ => ?_)
  simp [cmdClsProfile, hok, b]

theorem clsPort_answers (hlen : p.length = 16) (hport : isClsPort (u8 p 0) = true) :
    let b := clsPortApply p
    ReadsActive .cmdClsPort 0x0601 p (clsPortApply (clsPortOf (activeSet s) (u8 p 0))) s ∧
    (u8 p 1 < 32 → (∀ m, queueTop (u8 p 0) = some m → u8 p 13 ≤ m) → SetsShadow (.cmdClsPort 0) 0x0601 p b
      (fun c => { c with clsPort := Tbl.set c.clsPort (u8 p 0) b (clsPort0 (u8 p 0)) }) s) := by
  intro b
  refine ⟨readsActive_either cmdClsPort rfl (beq_iff_eq.mpr hlen) (fun _ => rfl) (fun _ h _ => mbs_any h)
    (fun _ _ => ?_) (fun _ _ => rfl), fun hq htop => ?_⟩
  · simp [cmdClsPort, need, hport]
  · refine setsShadow_either cmdClsPort rfl (beq_iff_eq.mpr hlen) rfl (fun _ => rfl) (fun _ => ?_) (fun _ => rfl)
    cases hm : queueTop (u8 p 0) with
    | none => simp [cmdClsPort, need, hport, hq, hm]
    | some m => simp [cmdClsPort, need, hport, hq, hm, htop m hm]

theorem emWrite_idx (hop : u8 p 0 ≤ 2) (tag : Nat) : cmdEmWrite.idx ⟨0, 0x0602, tag, 1, p⟩ s = stOk := by
  simp [cmdEmWrite, need, hop]

theorem emWrite_answers (hlen : p.length = 28) (hfree : ShadowFree 0 s) (hserved : Served 0 0x0602 1 p s) :
    let c := shadowSet s
    let kind := u8 p 4 % 16
    let key := slice p 12 16
    let e : EmEntry := { kind := kind, static := kind == 1, result := u16 p 6, key := key }
    (u8 p 0 = 0 → 1 ≤ kind → kind ≤ 6 → resultOk kind (u16 p 6) = true → bit p 4 4 = true → emFind c kind key = none →
      (∀ i d, emAdd c e = .ok (i, d) → Answers (.cmdEmWrite 0) 0 (shadowGen s) (b4 i) s (emPut d s)) ∧
      (∀ x, emAdd c e = .error x →
        exec (.cmdEmWrite 0) s = .next (mbDone 0 stNoSpace (shadowGen s) [] s))) ∧
    (u8 p 0 = 1 → 1 ≤ kind → kind ≤ 6 → resultOk kind (u16 p 6) = true → bit p 4 4 = true → ∀ i x, emFind c kind key = some (i, x) →
      Answers (.cmdEmWrite 0) 0 (shadowGen s) (b4 i) s (emPut { c with em := Tbl.insert c.em i e } s)) ∧
    (u8 p 0 = 2 → ∀ i x, emFind c kind key = some (i, x) →
      Answers (.cmdEmWrite 0) 0 (shadowGen s) (b4 i) s (emPut (emRemove c i) s)) := by
  intro c kind key e
  have hruns {st : Nat} {data : Bytes} {u : State} (hop : u8 p 0 ≤ 2)
      (hb : ∀ tag, cmdEmWrite.body ⟨0, 0x0602, tag, 1, p⟩ s = .done st data u) :
      exec (.cmdEmWrite 0) s = .next (mbDone 0 st (shadowGen s) data u) :=
    congrArg Host.Outcome.next (runCmd_shadow (c := cmdEmWrite) (.inl rfl) hfree hserved (fun _ => rfl)
      (beq_iff_eq.mpr hlen) (emWrite_idx hop) hb)
  refine ⟨fun hop h1 h6 hres hvalid hfind => ⟨fun i d hadd => ?_, fun x hadd => ?_⟩,
    fun hop h1 h6 hres hvalid i x hfind => ?_, fun hop i x hfind => ?_⟩
  · refine hruns (by omega) fun _ => ?_
    simp only [cmdEmWrite, hop]
    simp only [c, kind, key, e] at hfind hadd h1 h6 hres
    simp [hfind, hadd, h1, h6, hres, hvalid, ok]
  · refine hruns (by omega) fun _ => ?_
    simp only [cmdEmWrite, hop]
    simp only [c, kind, key, e] at hfind hadd h1 h6 hres
    simp [hfind, hadd, h1, h6, fail]
  · refine hruns (by omega) fun _ => ?_
    simp only [cmdEmWrite, hop]
    simp only [c, kind, key] at hfind h1 h6 hres
    simp [hfind, h1, h6, hres, hvalid, ok, c, e, kind, key]
  · refine hruns (by omega) fun _ => ?_
    simp only [cmdEmWrite, hop]
    simp only [c, kind, key] at hfind
    simp [hfind, ok, c]

theorem emRead_answers {i : Nat} {e : EmEntry} (hlen : p.length = 28) :
    (u8 p 0 = 0 → emFind (activeSet s) (u8 p 4 % 16) (slice p 12 16) = some (i, e) →
      ReadsActive .cmdEmRead 0x0603 p (b4 i ++ entryBytes e) s) ∧
    (u8 p 0 = 1 → u32 p 4 < 262400 → Tbl.find (activeSet s).em (u32 p 4) = some e →
      ReadsActive .cmdEmRead 0x0603 p (b4 (u32 p 4) ++ entryBytes e) s) := by
  refine ⟨fun hop hfind mb hmb hserved => ?_, fun hop hrange hfind mb hmb hserved => ?_⟩
  · refine answers_active cmdEmRead rfl (.inr rfl) hserved (fun _ => mbs_any hmb) (beq_iff_eq.mpr hlen) (fun _ => ?_) (fun _ => ?_)
    · simp [cmdEmRead, need, hop]
    · simp [cmdEmRead, targetSet, hop, hfind, ok]
  · refine answers_active cmdEmRead rfl (.inr rfl) hserved (fun _ => mbs_any hmb) (beq_iff_eq.mpr hlen) (fun _ => ?_) (fun _ => ?_)
    · simp [cmdEmRead, need, hop, hrange]
    · simp [cmdEmRead, targetSet, hop, hfind, ok]

theorem actionWrite_answers (h1 : 1 ≤ u16 p 2) (h100 : u16 p 2 ≤ 100) (hlen : p.length = 4 + 32 * u16 p 2)
    (hrange : u16 p 0 + u16 p 2 ≤ 65536) :
    ReadsActive .cmdActionWrite 0x0604 p
      (slice p 0 4 ++ (List.range (u16 p 2)).flatMap (fun i => actionOf (activeSet s) (u16 p 0 + i))) s ∧
    ((∀ i < u16 p 2, actionIdx (actionIn p i) = true ∧ actionOk (actionIn p i) = true) → SetsShadow (.cmdActionWrite 0) 0x0604 p p
      (fun c => (List.range (u16 p 2)).foldl (fun c i => { c with actions := Tbl.set c.actions (u16 p 0 + i) (actionIn p i) action0 }) c) s) := by
  have hlenOk : cmdActionWrite.lenOk p = true := by simp [cmdActionWrite, h1, h100, hlen]
  refine ⟨readsActive_either cmdActionWrite rfl hlenOk (fun _ => rfl) (fun _ h _ => mbs_any h)
    (fun _ _ => ?_) (fun _ _ => rfl), fun hok => ?_⟩
  · simp [cmdActionWrite, need, hrange]
  · have hidx : (List.range (u16 p 2)).all (fun i => actionIdx (actionIn p i)) = true :=
      List.all_eq_true.mpr fun i hi => (hok i (List.mem_range.mp hi)).1
    have hlegal : (List.range (u16 p 2)).all (fun i => actionOk (actionIn p i)) = true :=
      List.all_eq_true.mpr fun i hi => (hok i (List.mem_range.mp hi)).2
    refine setsShadow_either cmdActionWrite rfl hlenOk rfl (fun _ => rfl) (fun _ => ?_) (fun _ => ?_)
    · simp only [cmdActionWrite, need, hrange, hidx]
      rfl
    · simp only [cmdActionWrite, hlegal]
      rfl

theorem ternaryWrite_answers (h1 : 1 ≤ u16 p 4) (h32 : u16 p 4 ≤ 32) (hlen : p.length = 8 + 88 * u16 p 4)
    (hbank : u8 p 0 < 4) (hrange : u16 p 2 + u16 p 4 ≤ 2048) :
    let head := b1 (u8 p 0) ++ zeros 1 ++ slice p 2 4 ++ zeros 2
    let rule (i : Nat) : Bytes := ruleApply (slice p (8 + 88 * i) 88)
    ReadsActive .cmdTernaryWrite 0x0605 p
      (head ++ (List.range (u16 p 4)).flatMap (fun i => ternaryOf (activeSet s) (u8 p 0) (u16 p 2 + i))) s ∧
    SetsShadow (.cmdTernaryWrite 0) 0x0605 p (head ++ (List.range (u16 p 4)).flatMap rule)
      (fun c => (List.range (u16 p 4)).foldl (fun c i => { c with ternary := Tbl.set c.ternary (2048 * u8 p 0 + u16 p 2 + i) (rule i) (zeros 88) }) c) s := by
  intro head rule
  have hlenOk : cmdTernaryWrite.lenOk p = true := by simp [cmdTernaryWrite, h1, h32, hlen]
  have hidx (k tag t : Nat) : cmdTernaryWrite.idx ⟨k, 0x0605, tag, t, p⟩ s = stOk := by
    simp [cmdTernaryWrite, need, hbank, hrange]
  exact ⟨readsActive_either cmdTernaryWrite rfl hlenOk (fun _ => rfl) (fun _ h _ => mbs_any h)
      (fun _ _ => hidx _ _ _) (fun _ _ => rfl),
    setsShadow_either cmdTernaryWrite rfl hlenOk rfl (fun _ => rfl) (fun _ => hidx _ _ _) (fun _ => rfl)⟩

theorem zoneRow_answers (hlen : p.length = 16) (hop : u8 p 0 = 0) (hzone : u8 p 1 < 32) :
    let row := BitVec.ofNat 64 (u64 p 4)
    ReadsActive .cmdZoneWrite 0x0606 p (b1 0 ++ b1 (u8 p 1) ++ zeros 2 ++ b8 (zoneRowOf (activeSet s) (u8 p 1)).toNat ++ zeros 4) s ∧
    SetsShadow (.cmdZoneWrite 0) 0x0606 p (b1 0 ++ b1 (u8 p 1) ++ zeros 2 ++ b8 row.toNat ++ zeros 4)
      (fun c => { c with zoneRows := Tbl.set c.zoneRows (u8 p 1) row (zoneRow0 (u8 p 1)) }) s := by
  intro row
  have hidx (k tag t : Nat) : cmdZoneWrite.idx ⟨k, 0x0606, tag, t, p⟩ s = stOk := by
    simp [cmdZoneWrite, need, hop, hzone]
  refine ⟨readsActive_either cmdZoneWrite rfl (beq_iff_eq.mpr hlen) (fun _ => rfl) (fun _ h _ => mbs_any h)
      (fun _ _ => hidx _ _ _) (fun _ _ => ?_),
    setsShadow_either cmdZoneWrite rfl (beq_iff_eq.mpr hlen) rfl (fun _ => rfl) (fun _ => hidx _ _ _) (fun _ => ?_)⟩
  · simp [cmdZoneWrite, hop]
  · simp [cmdZoneWrite, hop, row]

theorem zoneRange_answers (hlen : p.length = 16) (hop : u8 p 0 = 1) :
    let x := rangeApply p
    ReadsActive .cmdZoneWrite 0x0606 p (b1 1 ++ b1 (u8 p 1) ++ zeros 2 ++ rangeOf (activeSet s) (u8 p 1)) s ∧
    (u8 p 5 < 96 ∨ u8 p 5 = 0xFF → u8 p 7 < 32 → u32 x 4 ≤ u32 x 8 →
      SetsShadow (.cmdZoneWrite 0) 0x0606 p (b1 1 ++ b1 (u8 p 1) ++ zeros 2 ++ x)
        (fun c => { c with ranges := Tbl.set c.ranges (u8 p 1) x (zeros 12) }) s) := by
  intro x
  refine ⟨readsActive_either cmdZoneWrite rfl (beq_iff_eq.mpr hlen) (fun _ => rfl) (fun _ h _ => mbs_any h)
    (fun _ _ => ?_) (fun _ _ => ?_), fun hchan hzone horder => ?_⟩
  · simp [cmdZoneWrite, need, hop]
  · simp [cmdZoneWrite, hop]
  · refine setsShadow_either cmdZoneWrite rfl (beq_iff_eq.mpr hlen) rfl (fun _ => rfl) (fun _ => ?_) (fun _ => ?_)
    · simp [cmdZoneWrite, need, hop, hchan, hzone]
    · have hnot : ¬u32 (rangeApply p) 8 < u32 (rangeApply p) 4 := Nat.not_lt.mpr horder
      simp [cmdZoneWrite, hop, hnot, x]

theorem zoneRing_answers (hlen : p.length = 16) (hop : u8 p 0 = 2) :
    ReadsActive .cmdZoneWrite 0x0606 p (b1 2 ++ b1 (activeSet s).zoneRing ++ zeros 14) s ∧
    (u8 p 1 < 32 → SetsShadow (.cmdZoneWrite 0) 0x0606 p (b1 2 ++ b1 (u8 p 1) ++ zeros 14) (fun c => { c with zoneRing := u8 p 1 }) s) := by
  refine ⟨readsActive_either cmdZoneWrite rfl (beq_iff_eq.mpr hlen) (fun _ => rfl) (fun _ h _ => mbs_any h)
    (fun _ _ => ?_) (fun _ _ => ?_), fun hring => ?_⟩
  · simp [cmdZoneWrite, need, hop]
  · simp [cmdZoneWrite, hop]
  · refine setsShadow_either cmdZoneWrite rfl (beq_iff_eq.mpr hlen) rfl (fun _ => rfl) (fun _ => ?_) (fun _ => ?_)
    · simp [cmdZoneWrite, need, hop, hring]
    · simp [cmdZoneWrite, hop]

theorem anomalyWrite_answers (hlen : p.length = 8) (hn : u16 p 0 < 4096) :
    ReadsActive .cmdAnomalyWrite 0x0607 p (b2 (u16 p 0) ++ monitorOf (activeSet s) (u16 p 0)) s ∧
    (u8 p 7 < 32 → u8 p 6 ≤ 3 → SetsShadow (.cmdAnomalyWrite 0) 0x0607 p p
      (fun c => { c with monitors := Tbl.set c.monitors (u16 p 0) (slice p 2 6) (zeros 6) }) s) := by
  refine ⟨readsActive_either cmdAnomalyWrite rfl (beq_iff_eq.mpr hlen) (fun _ => rfl) (fun _ h _ => mbs_any h)
    (fun _ _ => ?_) (fun _ _ => rfl), fun hring hkind => ?_⟩
  · simp [cmdAnomalyWrite, need, hn]
  · refine setsShadow_either cmdAnomalyWrite rfl (beq_iff_eq.mpr hlen) rfl (fun _ => rfl) (fun _ => ?_)
      (fun _ => if_neg (Nat.not_lt.mpr hkind))
    simp [cmdAnomalyWrite, need, hn, hring]

theorem vlanWrite_answers (hlen : p.length = 32) (hn : u16 p 0 < 4096) :
    let b := b1 (u8 p 2 % 16) ++ slice p 3 22 ++ zeros 3 ++ slice p 28 4
    ReadsActive .cmdVlanWrite 0x0608 p (b2 (u16 p 0) ++ vlanOf (activeSet s) (u16 p 0)) s ∧
    (u8 p 3 < 32 → bits (u8 p 2) 3 2 ≠ 3 → SetsShadow (.cmdVlanWrite 0) 0x0608 p (b2 (u16 p 0) ++ b)
      (fun c => { c with vlans := Tbl.set c.vlans (u16 p 0) b (zeros 30) }) s) := by
  intro b
  refine ⟨readsActive_either cmdVlanWrite rfl (beq_iff_eq.mpr hlen) (fun _ => rfl) (fun _ h _ => mbs_any h)
    (fun _ _ => ?_) (fun _ _ => rfl), fun hzone hmode => ?_⟩
  · simp [cmdVlanWrite, need, hn]
  · refine setsShadow_either cmdVlanWrite rfl (beq_iff_eq.mpr hlen) rfl (fun _ => rfl) (fun _ => ?_) (fun _ => if_neg hmode)
    simp [cmdVlanWrite, need, hn, hzone]

theorem mcastWrite_answers (hlen : p.length = 25) (hn : u16 p 0 < 4096) :
    ReadsActive .cmdMcastWrite 0x0609 p (b2 (u16 p 0) ++ zeros 2 ++ mcastOf (activeSet s) (u16 p 0)) s ∧
    SetsShadow (.cmdMcastWrite 0) 0x0609 p (b2 (u16 p 0) ++ zeros 2 ++ slice p 4 21)
      (fun c => { c with mcast := Tbl.set c.mcast (u16 p 0) (slice p 4 21) (zeros 21) }) s := by
  have hidx (k tag t : Nat) : cmdMcastWrite.idx ⟨k, 0x0609, tag, t, p⟩ s = stOk := by simp [cmdMcastWrite, need, hn]
  exact ⟨readsActive_either cmdMcastWrite rfl (beq_iff_eq.mpr hlen) (fun _ => rfl) (fun _ h _ => mbs_any h)
      (fun _ _ => hidx _ _ _) (fun _ _ => rfl),
    setsShadow_either cmdMcastWrite rfl (beq_iff_eq.mpr hlen) rfl (fun _ => rfl) (fun _ => hidx _ _ _) (fun _ => rfl)⟩

theorem macControl_answers (hlen : p.length = 8) :
    (u8 p 0 = 0 →
      let a := if u32 p 4 = 0 then 0 else clamp 10 1000000 (u32 p 4)
      Serves (.cmdMacControl 0) 0 0x060A p (b4 a ++ b4 0) s { s with flow := { s.flow with ageS := a } }) ∧
    (u8 p 0 = 1 → u8 p 1 = 0xFF ∨ isPort (u8 p 1) = true → u16 p 2 = 0xFFFF ∨ u16 p 2 < 4096 →
      Serves (.cmdMacControl 0) 0 0x060A p
        (b4 s.flow.ageS ++ b4 (((activeSet s).em.filter (fun e => flushHit (u8 p 1) (u16 p 2) e.2)).length)) s
        (bothPools (fun c => (flushPool (u8 p 1) (u16 p 2) c).2) s)) ∧
    (u8 p 0 = 2 → Serves (.cmdMacControl 0) 0 0x060A p (b4 s.flow.ageS ++ b4 0) s s) := by
  refine ⟨fun hop => ?_, fun hop hport hvid => ?_, fun hop => ?_⟩
  · intro a
    refine serves_neither cmdMacControl rfl (fun _ _ => rfl) (beq_iff_eq.mpr hlen) (fun _ _ => ?_) (fun _ _ => ?_) rfl rfl
    · simp [cmdMacControl, need, hop]
    · simp only [cmdMacControl, hop, a]
  · refine serves_neither cmdMacControl rfl (fun _ _ => rfl) (beq_iff_eq.mpr hlen) (fun _ _ => ?_) (fun _ _ => ?_)
      (bothPools_gen _ s) rfl
    · simp [cmdMacControl, need, hop, hport, hvid]
    · simp only [cmdMacControl, hop]
      rfl
  · refine serves_neither cmdMacControl rfl (fun _ _ => rfl) (beq_iff_eq.mpr hlen) (fun _ _ => ?_) (fun _ _ => ?_) rfl rfl
    · simp [cmdMacControl, need, hop]
    · simp [cmdMacControl, hop]

theorem foxPort_answers (hlen : p.length = 14) (hport : isIngress (u8 p 0) = true) :
    let b := slice p 2 4 ++ zeros 2 ++ slice p 8 4 ++ zeros 2
    ReadsActive .cmdFoxPort 0x060B p (b1 (u8 p 0) ++ zeros 1 ++ foxOf (activeSet s) (u8 p 0)) s ∧
    (u8 p 4 ≤ 2 → u8 p 10 ≤ 2 → u8 p 5 < 32 → u8 p 11 < 32 → SetsShadow (.cmdFoxPort 0) 0x060B p (b1 (u8 p 0) ++ zeros 1 ++ b)
      (fun c => { c with fox := Tbl.set c.fox (u8 p 0) b (zeros 12) }) s) := by
  intro b
  have hfox : cmdFoxPort.isIngressPort (u8 p 0) = true := hport
  refine ⟨readsActive_either cmdFoxPort rfl (beq_iff_eq.mpr hlen) (fun _ => rfl) (fun _ h _ => mbs_any h)
    (fun _ _ => ?_) (fun _ _ => rfl), fun hk1 hk2 hr1 hr2 => ?_⟩
  · simp [cmdFoxPort, need, hfox]
  · refine setsShadow_either cmdFoxPort rfl (beq_iff_eq.mpr hlen) rfl (fun _ => rfl) (fun _ => ?_) (fun _ => ?_)
    · simp [cmdFoxPort, need, hfox, hr1, hr2]
    · have hkinds : ¬(2 < u8 p 4 ∨ 2 < u8 p 10) := by omega
      exact if_neg hkinds

theorem mirrorSession_answers (hlen : p.length = 6) (hn : u8 p 0 < 4) :
    let b := slice p 1 2 ++ zeros 1 ++ b2 (mirrorTrunc (u16 p 4))
    ReadsActive .cmdMirrorSession 0x060C p (b1 (u8 p 0) ++ mirrorOf (activeSet s) (u8 p 0)) s ∧
    ((u8 p 1 = 128 ∧ u8 p 2 < 32) ∨ (u8 p 1 < 32 ∧ u8 p 2 < 8) → SetsShadow (.cmdMirrorSession 0) 0x060C p (b1 (u8 p 0) ++ b)
      (fun c => { c with mirrors := Tbl.set c.mirrors (u8 p 0) b (zeros 5) }) s) := by
  intro b
  refine ⟨readsActive_either cmdMirrorSession rfl (beq_iff_eq.mpr hlen) (fun _ => rfl) (fun _ h _ => mbs_any h)
    (fun _ _ => ?_) (fun _ _ => rfl), fun hdest => ?_⟩
  · simp [cmdMirrorSession, need, hn]
  · refine setsShadow_either cmdMirrorSession rfl (beq_iff_eq.mpr hlen) rfl (fun _ => rfl) (fun _ => ?_) (fun _ => rfl)
    rcases hdest with ⟨hhost, hring⟩ | ⟨hport, hqueue⟩
    · simp [cmdMirrorSession, need, hn, hhost, hring]
    · have hhost : u8 p 1 ≠ 128 := by omega
      simp [cmdMirrorSession, need, hn, hhost, hport, hqueue]

theorem clsDevice_answers (hlen : p.length = 28) :
    let qs := (List.range 6).map (fun i => min (quotaTop.getD i 0) (u32 p (4 * i)))
    let rs := (List.range 4).map (fun i => u8 p (24 + i))
    let c := { shadowSet s with quotas := qs, ranks := rs }
    ReadsActive .cmdClsDevice 0x060D p (clsDeviceRsp (activeSet s)) s ∧
    (sumBy (fun x => x) qs ≤ 262144 → (∀ i < 6, emCount (shadowSet s) (i + 1) ≤ qs.getD i 0) → (∀ k < 4, k ∈ rs) →
      SetsShadow (.cmdClsDevice 0) 0x060D p (clsDeviceRsp c) (fun _ => c) s) := by
  intro qs rs c
  refine ⟨readsActive_either cmdClsDevice rfl (beq_iff_eq.mpr hlen) (fun _ => rfl) (fun _ h _ => mbs_any h)
    (fun _ _ => rfl) (fun _ _ => rfl), fun hsum hfits hranks => ?_⟩
  refine setsShadow_either cmdClsDevice rfl (beq_iff_eq.mpr hlen) rfl (fun _ => rfl) (fun _ => rfl) (fun _ => ?_)
  have hover : (List.range 6).any (fun i => decide (qs.getD i 0 < emCount (shadowSet s) (i + 1))) = false :=
    List.any_eq_false.mpr fun i hi => by simpa using hfits i (List.mem_range.mp hi)
  have hall : (List.range 4).all rs.contains = true :=
    List.all_eq_true.mpr fun k hk => List.contains_iff_mem.mpr (hranks k (List.mem_range.mp hk))
  have hok : ¬(262144 < sumBy (fun x => x) qs ∨
      (List.range 6).any (fun i => decide (qs.getD i 0 < emCount (shadowSet s) (i + 1))) = true ∨
      (!(List.range 4).all rs.contains) = true) := by
    rw [hover, hall]
    simp [hsum]
  exact if_neg hok

theorem clsCounters_answers {mb : Nat} (hmb : mb < 5) (hlen : p.length = 10) (htab : u8 p 0 ≤ 4) :
    let n := clamp 1 500 (u16 p 8)
    let rsp := b4 (u32 p 4) ++ b2 n ++ zeros 2 ++ (List.range n).flatMap (fun i => b8 (entryCounter (u8 p 0) (u32 p 4 + i) s))
    u32 p 4 + n ≤ clsTableSize (u8 p 0) →
    (bit p 1 0 = false → Serves (.cmdClsCounters mb) mb 0x060E p rsp s s) ∧
    (bit p 1 0 = true → mb ≠ 1 → mb ≠ 3 → Serves (.cmdClsCounters mb) mb 0x060E p rsp s
      (forEach ((List.range n).map (u32 p 4 + ·)) (fun i s => clearEntry (u8 p 0) i s) s)) := by
  intro n rsp hrange
  have hidx (tag t : Nat) : cmdClsCounters.idx ⟨mb, 0x060E, tag, t, p⟩ s = stOk := by
    have hrange' : u32 p 4 + clamp 1 500 (u16 p 8) ≤ clsTableSize (u8 p 0) := hrange
    simp [cmdClsCounters, need, htab, hrange']
  refine ⟨fun hkeep => ?_, fun hclear h1 h3 => ?_⟩
  · refine serves_neither cmdClsCounters rfl (fun _ _ => ?_) (beq_iff_eq.mpr hlen) hidx (fun _ _ => ?_) rfl rfl
    · simp [cmdClsCounters, hkeep]
    · simp [cmdClsCounters, readEntries, hkeep, rsp, n, List.flatMap_map]
  · refine serves_neither cmdClsCounters rfl (fun _ _ => ?_) (beq_iff_eq.mpr hlen) hidx (fun _ _ => ?_)
      (clearEntries_gen _ _ s) rfl
    · have hmember : mb = 0 ∨ mb = 2 ∨ mb = 4 := by omega
      simp [cmdClsCounters, mbs, hmember]
    · simp [cmdClsCounters, readEntries, hclear, rsp, n, List.flatMap_map]

end

/-- Settles O59: each classification command, by what its body answers on either target. -/
theorem classificationCommandsAnswer : Obligations.ClassificationCommandsAnswer := by
  unfold Obligations.ClassificationCommandsAnswer
  refine ⟨fun _ _ => clsProfile_answers, fun _ _ => clsPort_answers, fun _ _ => emWrite_answers,
    fun _ _ _ _ => emRead_answers, fun p n s hn h1 h100 hlen hrange => ?_,
    fun p n s hn h1 h32 hlen hbank hrange => ?_,
    fun _ _ hlen => ⟨zoneRow_answers hlen, zoneRange_answers hlen, zoneRing_answers hlen⟩,
    fun _ _ => anomalyWrite_answers, fun _ _ => vlanWrite_answers, fun _ _ => mcastWrite_answers,
    fun _ _ => macControl_answers, fun _ _ => foxPort_answers, fun _ _ => mirrorSession_answers,
    fun _ _ => clsDevice_answers, fun _ _ _ => clsCounters_answers⟩
  · subst hn
    exact actionWrite_answers h1 h100 hlen hrange
  · subst hn
    exact ternaryWrite_answers h1 h32 hlen hbank hrange

end Sys2Proof

end
